-- ==== Sys2Proof/Word.lean ====
section
/-! DEFINITION. The word types of the ZC-640 and their plainest arithmetic. Registers are 32-bit (R52), bit 0 is the least
significant bit (R8) and signed fields are two's complement (R10). -/

namespace Sys2Proof

/-- A register word (R52). -/
abbrev Word := BitVec 32
/-- A byte of memory or of a frame. -/
abbrev Byte := BitVec 8

/-- The value of the low `w` bits of `n` read as two's complement (R10). -/
def signed (w n : Nat) : Int :=
  let m := n % 2 ^ w
  if m < 2 ^ (w - 1) then (m : Int) else (m : Int) - (2 ^ w : Nat)

/-- Two's complement encoding of `i` in `w` bits (R10). -/
def unsigned (w : Nat) (i : Int) : Nat := (i % ((2 ^ w : Nat) : Int)).toNat

/-- Clamp to a range. -/
def clamp (lo hi x : Int) : Int := if x < lo then lo else if hi < x then hi else x

/-- Saturating two's complement encoding in `w` bits. -/
def satSigned (w : Nat) (i : Int) : Nat :=
  unsigned w (clamp (-((2 ^ (w - 1) : Nat) : Int)) (((2 ^ (w - 1) : Nat) : Int) - 1) i)

/-- Division rounded to nearest, halves away from zero, for a positive divisor. -/
def roundDiv (a : Int) (b : Nat) : Int :=
  if 0 ≤ a then (2 * a + b) / (2 * b) else -((2 * (-a) + b) / (2 * b))

/-- Bit `b` of `n`. -/
def bitOf (n b : Nat) : Bool := n / 2 ^ b % 2 == 1

/-- `n` with bit `b` set to `v`. -/
def putBit (n b : Nat) (v : Bool) : Nat :=
  let base := n - (n / 2 ^ b % 2) * 2 ^ b
  if v then base + 2 ^ b else base

/-- The number whose bit `i` is `p i`, for i < n. -/
def bitsOf (n : Nat) (p : Nat → Bool) : Nat :=
  (List.range n).foldl (fun a i => if p i then a + 2 ^ i else a) 0

/-- Little-endian bytes of a number (R9). -/
def leBytes : Nat → Nat → List Byte
  | 0, _ => []
  | k + 1, n => BitVec.ofNat 8 n :: leBytes k (n / 256)

/-- The number that little-endian bytes spell (R9). -/
def leNat : List Byte → Nat
  | [] => 0
  | b :: r => b.toNat + 256 * leNat r

/-- Big-endian bytes of a number, for fields of published standards (R9). -/
def beBytes (k n : Nat) : List Byte := (leBytes k n).reverse

/-- The number that big-endian bytes spell. -/
def beNat (bs : List Byte) : Nat := leNat bs.reverse

/-- Nanoseconds of the units the spec uses. -/
def us (n : Nat) : Nat := n * 1000
def ms (n : Nat) : Nat := n * 1000000
def sec (n : Nat) : Nat := n * 1000000000

/-- Feeds `0` to `3` are FEEDA to FEEDD. -/
abbrev Feed := Fin 4

end Sys2Proof
end

