-- ==== Sys2Proof/Syntax.lean ====
section
/-! DEFINITION. The commands and events of the ZC-640: one constructor of `Instr` per row of spec/opcode_table.json, with the
operands that the row's rule needs. A command of a bus master or of a dictionary client carries who sends it; an event of the
physical world carries what the module measures at it. The rows give no bits, so no command is spelled by a word. -/

namespace Sys2Proof

/-- The bus masters of R45, in the order of their codes. -/
inductive Master where | cpuA | cpuB | customs | host | nydulet | debug | dma
deriving DecidableEq, Repr

/-- Master code of R45. -/
def Master.code : Master → Nat
  | .cpuA => 0 | .cpuB => 1 | .customs => 2 | .host => 3 | .nydulet => 4 | .debug => 5 | .dma => 6

/-- Access widths (R52, R54). -/
inductive Width where | b8 | b16 | b32 | b64
deriving DecidableEq, Repr

def Width.bytes : Width → Nat
  | .b8 => 1 | .b16 => 2 | .b32 => 4 | .b64 => 8

/-- A dictionary client: the SDO server of a CAN port, or a Nydulet client by source address and port (R511, R532). -/
inductive Client where
  | sdo (port : Fin 8)
  | nyd (peer : Nat)
deriving DecidableEq, Repr

/-- A bus access: its master, whether a processor runs in its secure context at the access, and for master 4 the client on whose behalf
it is made (R45). -/
structure Acc where
  m   : Master
  sec : Bool := false
  cl  : Option Client := none
deriving DecidableEq, Repr

/-- How a command that a register and a dictionary entry both carry arrives. -/
inductive Via where
  | reg (a : Acc)
  | dict (c : Client)
deriving DecidableEq, Repr

/-- Processor pairs (R23). -/
inductive Pair where | A | B
deriving DecidableEq, Repr

def Pair.idx : Pair → Nat | .A => 0 | .B => 1

/-- Clock domains of the domain table of R17 to R21, with the ETHC domain of each port. -/
inductive ClkDom where | core | fab | per | canc | tide | pwr | aon | ethc (p : Fin 4)
deriving DecidableEq, Repr

/-- What a plate sensor reads (R114): a temperature in 1/1,024 °C, open, or shorted. -/
inductive Sens where | val (k : Int) | opn | short
deriving DecidableEq, Repr

/-- A CAN frame on the bus: identifier, extended, remote, FD with bit rate switch, data. -/
structure CanFrame where
  id   : Nat
  xtd  : Bool := false
  rtr  : Bool := false
  fdf  : Bool := false
  brs  : Bool := false
  esi  : Bool := false
  dlc  : Nat
  data : List Byte
deriving DecidableEq, Repr

/-- What Boot finds (R209, R233, R573, R586, R604): whether the retained state, the running image, the factory set and the known-answer tests
of customs pass, the keys that fail their check, and what the two plate sensors read. -/
structure BootIn where
  ret   : Bool := true
  image : Bool := true
  fact  : Bool := true
  kat   : Bool := true
  keys  : List (Fin 27) := []
  t1    : Sens := .val 0
  t2    : Sens := .val 0
deriving DecidableEq, Repr

/-- What the converter and the sensors of a switch channel show over 1 ms: the raw samples of the current, one every 50 µs and the oldest
first, in µA at nominal gain (R191, R235), TJ in °C, VOUT in 10 mV (R247). -/
structure Meas where
  ch   : Fin 64
  raw  : List Int
  tj   : Int
  vout : Int
deriving DecidableEq, Repr

/-- What an LF frame shows of the aerials, each by its number (R245, R549): the driver current of its first 512 µs in mA, the phase between
drive voltage and current in tenths of a degree, and the noise floor before it in µV rms. -/
structure LfBurst where
  ma    : List Nat := []
  phase : List Int := []
  noise : List Nat := []
deriving DecidableEq, Repr


/-- Raw means of the four groups of a calibration window, µA at nominal gain (R234, R235). -/
structure CalWin where
  p1 : Int
  j  : Int
  x  : Int
  p2 : Int
deriving DecidableEq, Repr

/-- Shunt currents of a bank's four channels, mA, at times in ns after the last command's instant (R252, R263). -/
abbrev Shunt := List (Nat × List Nat)

/-- What an end decay shows (R264, R280): when the current falls below 50 mA with the low side on, ns after command end; how long it takes to
do so once the low side is off, ns; the coil voltage at 2 MS/s from command end on, 12.5 mV. -/
structure Decay where
  below : Nat := 0
  tail  : Nat := 0
  volts : List Int := []
deriving DecidableEq, Repr

/-- What the receiver finds in a reply slot (R552): for how many ns UHF energy stays 10 dB or more above the floor without a frame that passes
its CRC, and how many sync words fall in the slot. -/
structure SlotRx where
  energy : Nat
  syncs  : Nat
deriving DecidableEq, Repr

/-- A Pdelay message on a port (R454): a request with its sender's port identity, or the response to the last request with the partner's stamps and how long ago it came. -/
inductive PdelayMsg where
  | req (seq srcId srcPort ago : Nat)
  | resp (seq t2 t3 ago : Nat)
deriving DecidableEq, Repr

/-- Causes of a module reset: its bit of SYS_RST_CAUSE (R628). -/
inductive ResetCause where | cmd | limp | extract | resole
deriving DecidableEq, Repr


/-- The commands and events of spec/opcode_table.json, in its order. -/
inductive Instr where
  | clkDomainLoss (d : ClkDom) (dev : Int) (still : Nat)   -- CLK_DOMAIN_LOSS, R18
  | clkRefLoss (dev : Int) (still : Nat)   -- CLK_REF_LOSS, R20
  | weltOvf (w : Fin 28) (blk : Nat)   -- WELT_OVF, R22
  | compareMismatch (p : Pair)   -- COMPARE_MISMATCH, R23
  | pairRestartComplete (p : Pair)   -- PAIR_RESTART_COMPLETE, R24
  | overloadEntry (p : Pair) (load : Nat)   -- OVERLOAD_ENTRY, R29
  | overloadExit (p : Pair) (load : Nat)   -- OVERLOAD_EXIT, R29
  | overloadRequestTimeout (c : Client) (x y waited : Nat)   -- OVERLOAD_REQUEST_TIMEOUT, R30
  | journalForcedFlush   -- JOURNAL_FORCED_FLUSH, R31
  | entryVisible (held : Nat)   -- ENTRY_VISIBLE, R38
  | registerWrite (a : Acc) (addr : Nat) (w : Width) (v : Nat)   -- REGISTER_WRITE, R71
  | atomicPairAccess (a : Acc) (addr : Nat) (wr : Option Nat)   -- ATOMIC_PAIR_ACCESS, R55
  | eyeletWrite (a : Acc) (addr : Nat) (w : Width) (v : Nat)   -- EYELET_WRITE, R64
  | stallTimeout (a : Acc) (addr : Nat) (wr : Option Nat) (applied : Bool)   -- STALL_TIMEOUT, R59
  | scrubberVisit (flips : List (Nat × Fin 32))   -- SCRUBBER_VISIT, R66
  | blockReenable (via : Via) (blk : Nat)   -- BLOCK_REENABLE, R70
  | guardViolClr (a : Acc)   -- GUARD_VIOL_CLR, R71
  | berrCountClr (a : Acc)   -- BERR_COUNT_CLR, R71
  | hrpRead (b : List Byte)   -- HRP_READ, R78
  | hrpWrite (b : List Byte)   -- HRP_WRITE, R77
  | hrpStatus (b : List Byte)   -- HRP_STATUS, R76
  | sessOpen (b : List Byte)   -- SESS_OPEN, R81
  | sessAuth (b : List Byte)   -- SESS_AUTH, R81
  | sessClose (b : List Byte)   -- SESS_CLOSE, R82
  | hrpFrameError (b : List Byte) (cut : Bool)   -- HRP_FRAME_ERROR, R80
  | hrpSessionTimeout   -- HRP_SESSION_TIMEOUT, R82
  | hrpLockoutEnd   -- HRP_LOCKOUT_END, R83
  | plateHot (t1 t2 : Sens)   -- PLATE_HOT, R112
  | plateLimit (t1 t2 : Sens)   -- PLATE_LIMIT, R113
  | plateSensor (t1 t2 : Sens)   -- PLATE_SENSOR, R114
  | powerOnReset (slot : Fin 64) (keep : Nat) (aon : Bool) (boot : BootIn)   -- POWER_ON_RESET, R73
  | moduleReset (cause : ResetCause) (boot : BootIn)   -- MODULE_RESET, R73
  | bootComplete   -- BOOT_COMPLETE, R143
  | prechgMate   -- PRECHG_MATE, R120
  | feedProbe (f : Fin 4) (bus prechg sag : Nat)   -- FEED_PROBE, R121
  | berthHardMate (f : Fin 4)   -- BERTH_HARD_MATE, R123
  | berthSlotChange (raw : Fin 64)   -- BERTH_SLOT_CHANGE, R127
  | railAdv (b : List Byte)   -- RAIL_ADV, R130
  | modReport   -- MOD_REPORT, R130
  | berthLinkLoss   -- BERTH_LINK_LOSS, R132
  | capacityRaise (f : Fin 4)   -- CAPACITY_RAISE, R134
  | berthExtract (boot : BootIn)   -- BERTH_EXTRACT, R135
  | rampCompare (a b c d : Nat)   -- RAMP_COMPARE, R137
  | extractionEntryCommit   -- EXTRACTION_ENTRY_COMMIT, R138
  | berthExtractAbort   -- BERTH_EXTRACT_ABORT, R139
  | modeRequestDormant (via : Via) (key : Nat)   -- MODE_REQUEST_DORMANT, R145
  | modeRequestBoot (via : Via) (key : Nat)   -- MODE_REQUEST_BOOT, R145
  | modeRequestConfigure (via : Via) (key : Nat)   -- MODE_REQUEST_CONFIGURE, R146
  | modeRequestOperate (via : Via) (key : Nat)   -- MODE_REQUEST_OPERATE, R145
  | modeRequestService (via : Via) (key : Nat)   -- MODE_REQUEST_SERVICE, R147
  | modeRequestRecovery (via : Via) (key : Nat)   -- MODE_REQUEST_RECOVERY, R145
  | limpRetry   -- LIMP_RETRY, R149
  | sleepCommit   -- SLEEP_COMMIT, R499
  | sleepSequenceDone   -- SLEEP_SEQUENCE_DONE, R150
  | wake (cause idx : Fin 16) (also : List (Fin 16 × Fin 16)) (boot : BootIn)   -- WAKE, R152
  | feedPresent (f : Fin 4) (v : Nat)   -- FEED_PRESENT, R158
  | supplyDip (f : Fin 4) (v : Nat)   -- SUPPLY_DIP, R159
  | feedAbsent (f : Fin 4) (v : Nat)   -- FEED_ABSENT, R160
  | feedOvervolt (f : Fin 4) (v : Nat)   -- FEED_OVERVOLT, R161
  | restoreBegin (f : Fin 4) (v : Nat)   -- RESTORE_BEGIN, R163
  | restoreStep (f : Fin 4)   -- RESTORE_STEP, R163
  | vlogLow (keep : Nat)   -- VLOG_LOW, R165
  | deferredWriteStart (keep : Nat)   -- DEFERRED_WRITE_START, R165
  | storeReplyTimeout (c : Client)   -- STORE_REPLY_TIMEOUT, R166
  | supplyLoss (vsrc : Nat)   -- SUPPLY_LOSS, R167
  | holdupEnd (aon : Bool) (boot : BootIn)   -- HOLDUP_END, R168
  | vminClr (via : Via)   -- VMIN_CLR, R169
  | swOutWrite (via : Via) (n : Fin 64) (duty : Bool) (v : Nat)   -- SW_OUT_WRITE, R174
  | pwmPeriodStart (n : Fin 64) (v : Nat) (a b : List (Nat × Int))   -- PWM_PERIOD_START, R177
  | inrushEnd (n : Fin 64)   -- INRUSH_END, R183
  | groupCommand (via : Via) (mode : Fin 4) (duty : Fin 4096)   -- GROUP_COMMAND, R184
  | groupTurnOn (n : Fin 64)   -- GROUP_TURN_ON, R184
  | pairWrite (via : Via) (v : Nat)   -- PAIR_WRITE, R186
  | pairImbalance (n : Fin 64) (a b : Int)   -- PAIR_IMBALANCE, R190
  | peakClr (via : Via) (n : Fin 64)   -- PEAK_CLR, R191
  | fastTrip (n : Fin 64) (cur : Nat)   -- FAST_TRIP, R195
  | l1Trip (n : Fin 64) (tj : Int)   -- L1_TRIP, R197
  | l1Restart (n : Fin 64) (tj tj2 : Int)   -- L1_RESTART, R198
  | l2Ceiling (n : Fin 64) (tj : Int)   -- L2_CEILING, R200
  | wireModelStep (meas : List Meas)   -- WIRE_MODEL_STEP, R202
  | feedLimiterUpdate (f : Fin 4) (aux : Int)   -- FEED_LIMITER_UPDATE, R212
  | limiterHoldoffEnd (f : Fin 4)   -- LIMITER_HOLDOFF_END, R213
  | feedLimiterRestore (f : Fin 4)   -- FEED_LIMITER_RESTORE, R215
  | sagBegin (f : Fin 4) (mean v clear : Nat)   -- SAG_BEGIN, R217
  | sagEnd (f : Fin 4) (v : Nat)   -- SAG_END, R217
  | protClear (via : Via) (n : Fin 64)   -- PROT_CLEAR, R222
  | feedLimiterClear (via : Via) (f : Fin 4)   -- FEED_LIMITER_CLEAR, R223
  | autoClear (n : Fin 64)   -- AUTO_CLEAR, R226
  | calRefFail (ppm held : Nat)   -- CAL_REF_FAIL, R230
  | calRefOk (ppm held : Nat)   -- CAL_REF_OK, R230
  | calWindowStart (n : Fin 64)   -- CAL_WINDOW_START, R241
  | calWindowEnd (n : Fin 64) (a b : CalWin)   -- CAL_WINDOW_END, R237
  | calRevert (via : Via)   -- CAL_REVERT, R243
  | calReenable (via : Via)   -- CAL_REENABLE, R69
  | boostSenseCal (x : Fin 2) (gain off : Int)   -- BOOST_SENSE_CAL, R244
  | diThresholdCheck (g : Fin 6) (onV offV : Nat)   -- DI_THRESHOLD_CHECK, R246
  | pullupApply (n : Fin 64)   -- PULLUP_APPLY, R247
  | openLoadOff (n : Fin 64) (vout : Int)   -- OPEN_LOAD_OFF, R247
  | shortToFeed (n : Fin 64) (vout : Int)   -- SHORT_TO_FEED, R248
  | openLoadOn (n : Fin 64)   -- OPEN_LOAD_ON, R249
  | boostPwrLimit (x : Fin 2) (p cur v : Nat)   -- BOOST_PWR_LIMIT, R255
  | boostOvervolt (x : Fin 2) (v : Nat)   -- BOOST_OVERVOLT, R256
  | boostOvClear (via : Via) (x : Fin 2)   -- BOOST_OV_CLEAR, R256
  | boostStartFail (x : Fin 2)   -- BOOST_START_FAIL, R257
  | lastWrite (via : Via) (l : Fin 32) (k : Fin 9) (v : Nat)   -- LAST_WRITE, R260
  | directCommand (via : Via) (n : Fin 24) (last : Fin 32) (dur : Nat)   -- DIRECT_COMMAND, R284
  | injAbort (via : Via) (n : Fin 24)   -- INJ_ABORT, R265
  | phaseEnd (n : Fin 24) (reached : Bool) (i : Shunt)   -- PHASE_END, R262
  | commandEnd (n : Fin 24) (i : Shunt)   -- COMMAND_END, R262
  | valveEventEnd (n : Fin 24) (x : Decay)   -- VALVE_EVENT_END, R264
  | minOffPass (n : Fin 24)   -- MIN_OFF_PASS, R273
  | deferExpiry (n : Fin 24)   -- DEFER_EXPIRY, R271
  | boostReady (x : Fin 2) (v : Nat)   -- BOOST_READY, R275
  | boostWaitExpiry (n : Fin 24)   -- BOOST_WAIT_EXPIRY, R275
  | coilShort (n : Fin 24)   -- COIL_SHORT, R278
  | coilShortRelease (via : Via) (n : Fin 24)   -- COIL_SHORT_RELEASE, R278
  | hsbShort (b : Fin 6)   -- HSB_SHORT, R279
  | hsbShortClear (via : Via) (b : Fin 6)   -- HSB_SHORT_CLEAR, R279
  | injReenable (a : Acc)   -- INJ_REENABLE, R286
  | eventCommand (a : Acc) (asap : Bool)   -- EVENT_COMMAND, R296
  | eventAbort (via : Via) (handle : Fin 65536)   -- EVENT_ABORT, R304
  | eventAbortAll (via : Via)   -- EVENT_ABORT_ALL, R304
  | eventCommit (e : Nat)   -- EVENT_COMMIT, R299
  | eventDeliver (j : Nat)   -- EVENT_DELIVER, R303
  | switchEventEnd (n : Fin 64)   -- SWITCH_EVENT_END, R303
  | eventReenable (a : Acc)   -- EVENT_REENABLE, R306
  | streamRecord (via : Via) (t : Fin 8) (rec : Nat)   -- STREAM_RECORD, R315
  | recordExpansion (t : Fin 8)   -- RECORD_EXPANSION, R312
  | speedEstimateUpdate (t : Fin 8)   -- SPEED_ESTIMATE_UPDATE, R313
  | speedLoss (t : Fin 8)   -- SPEED_LOSS, R308
  | hostSpeed (via : Via) (t : Fin 8) (v : Nat)   -- HOST_SPEED, R307
  | odometerSet (via : Via) (t : Fin 8) (mm : Nat)   -- ODOMETER_SET, R307
  | streamClose (via : Via) (t : Fin 8)   -- STREAM_CLOSE, R317
  | ledOutWrite (via : Via) (n : Fin 32) (duty : Bool) (v : Nat)   -- LED_OUT_WRITE, R327
  | ledPeriodStart (n : Fin 32)   -- LED_PERIOD_START, R326
  | fadeStart (via : Via) (n : Fin 32) (target : Fin 16384) (time : Fin 4096)   -- FADE_START, R329
  | fadeStep (n : Fin 32)   -- FADE_STEP, R329
  | ledWindow (n : Fin 32) (mv ma : Nat) (ledsup : Option Nat)   -- LED_WINDOW, R331
  | ledShortRelease (via : Via) (n : Fin 32)   -- LED_SHORT_RELEASE, R337
  | foldbackUpdate   -- FOLDBACK_UPDATE, R338
  | ledReenable (via : Via)   -- LED_REENABLE, R339
  | diEdge (n : Fin 48) (mv : Int)   -- DI_EDGE, R344
  | counterEdge (k : Fin 8) (rising : Bool)   -- COUNTER_EDGE, R346
  | counterClear (via : Via) (k : Fin 8)   -- COUNTER_CLEAR, R346
  | frequencyGate (k : Fin 8)   -- FREQUENCY_GATE, R347
  | ppsEdge (rising : Bool) (ago : Nat)   -- PPS_EDGE, R348
  | wakeStrobe (levels : Fin 65536) (boot : BootIn)   -- WAKE_STROBE, R349
  | doWrite (via : Via) (m : Fin 16) (v : Nat)   -- DO_WRITE, R351
  | doOverload (m : Fin 16)   -- DO_OVERLOAD, R352
  | doRetry (m : Fin 16)   -- DO_RETRY, R352
  | doClear (via : Via) (m : Fin 16)   -- DO_CLEAR, R352
  | doOpenLoad (m : Fin 16)   -- DO_OPEN_LOAD, R353
  | ssupOverload   -- SSUP_OVERLOAD, R354
  | ssupRetry   -- SSUP_RETRY, R354
  | auxOverload (cur : Nat)   -- AUX_OVERLOAD, R355
  | auxShedStep (cur : Nat)   -- AUX_SHED_STEP, R355
  | auxReturnStep (cur : Nat)   -- AUX_RETURN_STEP, R355
  | auxDown   -- AUX_DOWN, R357
  | auxUp   -- AUX_UP, R357
  | bollardFeed (via : Via) (t : Fin 4) (v : Fin 256)   -- BOLLARD_FEED, R367
  | bollSilence (t : Fin 4)   -- BOLL_SILENCE, R369
  | bollHoldExpired   -- BOLL_HOLD_EXPIRED, R373
  | reclaim (via : Via)   -- RECLAIM, R372
  | autoReclaim (p : Option Pair)   -- AUTO_RECLAIM, R371
  | bollReenable (via : Via)   -- BOLL_REENABLE, R376
  | reflexEvaluation   -- REFLEX_EVALUATION, R377
  | reflexLatchClear (via : Via) (k : Fin 64)   -- REFLEX_LATCH_CLEAR, R378
  | canCtrlWrite (via : Via) (p : Fin 8) (v : Nat) (act : Fin 3)   -- CAN_CTRL_WRITE, R391
  | canFrameReceived (p : Fin 8) (f : CanFrame) (ago : Nat)   -- CAN_FRAME_RECEIVED, R404
  | canFrameError (p : Fin 8) (lec : Fin 8) (data dom header : Bool)   -- CAN_FRAME_ERROR, R470
  | txRequest (a : Acc) (p : Fin 8) (mask : Fin 8)   -- TX_REQUEST, R397
  | txAbort (a : Acc) (p : Fin 8) (mask : Fin 8) (busy : Bool)   -- TX_ABORT, R398
  | canFrameSent (p : Fin 8) (ago : Nat)   -- CAN_FRAME_SENT, R400
  | canTxError (p : Fin 8) (lec : Fin 8) (data collide free : Bool)   -- CAN_TX_ERROR, R407
  | busOffDelayEnd (p : Fin 8)   -- BUS_OFF_DELAY_END, R408
  | busOffRecovered (p : Fin 8)   -- BUS_OFF_RECOVERED, R408
  | recover (a : Acc) (p : Fin 8)   -- RECOVER, R408
  | detStart (a : Acc) (p : Fin 8)   -- DET_START, R393
  | detWindowEnd (p : Fin 8)   -- DET_WINDOW_END, R395
  | rxFifoAck (a : Acc) (p : Fin 8) (n : Nat)   -- RX_FIFO_ACK, R405
  | ttReferenceSend (p : Fin 8)   -- TT_REFERENCE_SEND, R413
  | ttTakeover (p : Fin 8)   -- TT_TAKEOVER, R413
  | canTtLoss (p : Fin 8)   -- CAN_TT_LOSS, R413
  | canSelectiveWake (p : Fin 8) (f : Option CanFrame) (boot : BootIn)   -- CAN_SELECTIVE_WAKE, R414
  | wakeUpPattern (p : Fin 8) (boot : BootIn)   -- WAKE_UP_PATTERN, R415
  | canReenable (a : Acc) (p : Fin 8)   -- CAN_REENABLE, R416
  | anResult (p adv role : Fin 4) (nonce : Bool)   -- AN_RESULT, R420
  | anRetry (p adv role : Fin 4) (nonce : Bool)   -- AN_RETRY, R420
  | anTimeoutExpiry (p : Fin 4)   -- AN_TIMEOUT_EXPIRY, R421
  | ethLinkUp (p : Fin 4)   -- ETH_LINK_UP, R421
  | ethLinkDown (p : Fin 4)   -- ETH_LINK_DOWN, R422
  | reneg (a : Acc) (p : Fin 4)   -- RENEG, R422
  | ethFrameReceived (p : Fin 4) (frame : List Byte) (good : Bool) (ago : Nat)   -- ETH_FRAME_RECEIVED, R423
  | ethFrameSent (p : Fin 4) (ago : Nat)   -- ETH_FRAME_SENT, R426
  | macAgeOut (mac vid : Nat)   -- MAC_AGE_OUT, R423
  | macLookup (a : Acc)   -- MAC_LOOKUP, R423
  | macAddStatic (a : Acc)   -- MAC_ADD_STATIC, R423
  | macDelete (a : Acc)   -- MAC_DELETE, R423
  | macFlushLearned (a : Acc)   -- MAC_FLUSH_LEARNED, R423
  | tc10SleepRequest (p : Fin 4)   -- TC10_SLEEP_REQUEST, R431
  | tc10Wake (p : Fin 4)   -- TC10_WAKE, R431
  | ethReenable (a : Acc)   -- ETH_REENABLE, R433
  | syncReceived (p : Fin 4) (origin : Nat) (corr : Int) (ago : Nat)   -- SYNC_RECEIVED, R445
  | announceReceived (p : Fin 4) (root steps srcId srcPort : Nat)   -- ANNOUNCE_RECEIVED, R454
  | announceSend (p : Fin 4)   -- ANNOUNCE_SEND, R455
  | syncSend (p : Fin 4)   -- SYNC_SEND, R456
  | pdelayReqSend (p : Fin 4)   -- PDELAY_REQ_SEND, R455
  | pdelayMessageReceived (p : Fin 4) (m : PdelayMsg)   -- PDELAY_MESSAGE_RECEIVED, R454
  | tideSrcLoss   -- TIDE_SRC_LOSS, R450
  | tideHoldLong   -- TIDE_HOLD_LONG, R452
  | selfValid   -- SELF_VALID, R440
  | manualRate (via : Via) (rate : Nat)   -- MANUAL_RATE, R437
  | manualStep (via : Via) (v : Nat)   -- MANUAL_STEP, R438
  | manualSet (via : Via) (v : Nat)   -- MANUAL_SET, R444
  | compareFire (u : Fin 16)   -- COMPARE_FIRE, R457
  | aonPeriodWindow   -- AON_PERIOD_WINDOW, R459
  | txb2Load (p : Fin 8)   -- TXB2_LOAD, R475
  | acfFlush (r : Fin 32)   -- ACF_FLUSH, R477
  | backpressureRelease (j : Fin 9)   -- BACKPRESSURE_RELEASE, R474
  | gwyBpTimeout (j : Fin 9)   -- GWY_BP_TIMEOUT, R474
  | ringGetWrite (a : Acc) (r : Fin 32) (v : Nat)   -- RING_GET_WRITE, R464
  | ringDisable (a : Acc) (r : Fin 32)   -- RING_DISABLE, R465
  | quarantineExpiry (j : Fin 32)   -- QUARANTINE_EXPIRY, R481
  | quarClr (via : Via)   -- QUAR_CLR, R481
  | gwyReenable (via : Via)   -- GWY_REENABLE, R484
  | keepAliveSend (g : Fin 12)   -- KEEP_ALIVE_SEND, R490
  | silenceExpiry (g : Fin 12)   -- SILENCE_EXPIRY, R492
  | prepareExpiry (g : Fin 12)   -- PREPARE_EXPIRY, R492
  | sleepConfirm (g : Fin 12)   -- SLEEP_CONFIRM, R497
  | transitionWindowEnd (g : Fin 12)   -- TRANSITION_WINDOW_END, R497
  | repeatEnd (g : Fin 12)   -- REPEAT_END, R489
  | needWrite (via : Via) (g : Fin 12) (v : Nat)   -- NEED_WRITE, R488
  | moduleNeedWrite (via : Via) (v : Nat)   -- MODULE_NEED_WRITE, R488
  | wakeIn (level : Bool) (held : Nat) (boot : BootIn)   -- WAKE_IN, R501
  | segmentWake (via : Via) (g : Fin 12)   -- SEGMENT_WAKE, R496
  | segmentPassiveWake (g : Fin 12) (cause : Fin 16)   -- SEGMENT_PASSIVE_WAKE, R496
  | nmNodeStuck (g : Fin 12) (k : Fin 64)   -- NM_NODE_STUCK, R493
  | nodeUnstuck (g : Fin 12) (k : Fin 64)   -- NODE_UNSTUCK, R493
  | unstuck (via : Via) (g : Fin 12)   -- UNSTUCK, R493
  | nmOwnStuck (g : Fin 12)   -- NM_OWN_STUCK, R495
  | wakeTimer (boot : BootIn)   -- WAKE_TIMER, R502
  | wakeOutPulseEnd   -- WAKE_OUT_PULSE_END, R504
  | sdoInitiateDownload (p : Fin 8) (b : List Byte)   -- SDO_INITIATE_DOWNLOAD, R520
  | sdoDownloadSegment (p : Fin 8) (b : List Byte)   -- SDO_DOWNLOAD_SEGMENT, R520
  | sdoInitiateUpload (p : Fin 8) (b : List Byte)   -- SDO_INITIATE_UPLOAD, R520
  | sdoUploadSegment (p : Fin 8) (b : List Byte)   -- SDO_UPLOAD_SEGMENT, R520
  | sdoBlockDownload (p : Fin 8) (b : List Byte)   -- SDO_BLOCK_DOWNLOAD, R520
  | sdoBlockUpload (p : Fin 8) (b : List Byte)   -- SDO_BLOCK_UPLOAD, R520
  | sdoAbortReceived (p : Fin 8)   -- SDO_ABORT_RECEIVED, R520
  | sdoTimeout (p : Fin 8)   -- SDO_TIMEOUT, R520
  | store (c : Client)   -- STORE, R537
  | storeComplete (ok : Bool)   -- STORE_COMPLETE, R537
  | restoreDefaults (c : Client)   -- RESTORE_DEFAULTS, R540
  | sessionNonce (c : Client)   -- SESSION_NONCE, R513
  | sessionAuthentication (c : Client) (b : List Byte)   -- SESSION_AUTHENTICATION, R513
  | sessionClose (c : Client)   -- SESSION_CLOSE, R516
  | sessionTimeout (c : Client)   -- SESSION_TIMEOUT, R516
  | authLockoutEnd   -- AUTH_LOCKOUT_END, R515
  | rpdoReceived (k : Fin 64) (b : List Byte)   -- RPDO_RECEIVED, R523
  | dictRpdoTimeout (k : Fin 64)   -- DICT_RPDO_TIMEOUT, R521
  | sync (p : Fin 8) (ctr : Nat)   -- SYNC, R524
  | tpdoTransmit (k : Fin 64)   -- TPDO_TRANSMIT, R524
  | txb1Load (p : Fin 8)   -- TXB1_LOAD, R519
  | nmtStart (p : Fin 8) (node : Nat)   -- NMT_START, R526
  | nmtStop (p : Fin 8) (node : Nat)   -- NMT_STOP, R526
  | nmtEnterPreoperational (p : Fin 8) (node : Nat)   -- NMT_ENTER_PREOPERATIONAL, R526
  | nmtResetNode (p : Fin 8) (node : Nat)   -- NMT_RESET_NODE, R526
  | nmtResetCommunication (p : Fin 8) (node : Nat)   -- NMT_RESET_COMMUNICATION, R526
  | heartbeat   -- HEARTBEAT, R527
  | dictHbLoss (j : Fin 16)   -- DICT_HB_LOSS, R527
  | hello (peer : Nat) (b : List Byte)   -- HELLO, R532
  | openRequest (peer : Nat) (b : List Byte)   -- OPEN, R533
  | auth (peer : Nat) (b : List Byte)   -- AUTH, R533
  | close (peer : Nat) (b : List Byte)   -- CLOSE, R516
  | read (peer : Nat) (b : List Byte)   -- READ, R531
  | write (peer : Nat) (b : List Byte)   -- WRITE, R531
  | bulkRead (peer : Nat) (b : List Byte)   -- BULK_READ, R531
  | domainRead (peer : Nat) (b : List Byte)   -- DOMAIN_READ, R531
  | domainWrite (peer : Nat) (b : List Byte)   -- DOMAIN_WRITE, R531
  | arpRequest (mac ip target : Nat)   -- ARP_REQUEST, R529
  | icmpEcho (mac ip : Nat) (data : List Byte)   -- ICMP_ECHO, R529
  | registerWindowRead (c : Client)   -- REGISTER_WINDOW_READ, R543
  | registerWindowWrite (c : Client) (b : List Byte)   -- REGISTER_WINDOW_WRITE, R543
  | challengeCycle (x : LfBurst)   -- CHALLENGE_CYCLE, R547
  | pollNow (a : Acc) (x : LfBurst)   -- POLL_NOW, R548
  | unlock (a : Acc)   -- UNLOCK, R556
  | uhfReply (start : Nat) (b : List Byte) (bitmap : Byte)   -- UHF_REPLY, R553
  | addressedCycle (j : Fin 16) (rx : SlotRx) (x : LfBurst)   -- ADDRESSED_CYCLE, R554
  | idSlottedCycle (rx : SlotRx) (x : LfBurst)   -- ID_SLOTTED_CYCLE, R554
  | accLockoutEnd (id : Nat)   -- ACC_LOCKOUT_END, R556
  | gateClose (g : Fin 8)   -- GATE_CLOSE, R559
  | releaseMessage (g : Fin 8)   -- RELEASE_MESSAGE, R562
  | enrolment (c : Client) (b : List Byte) (x : LfBurst)   -- ENROLMENT, R565
  | accEnrolFail   -- ACC_ENROL_FAIL, R566
  | revoke (c : Client) (v : Nat)   -- REVOKE, R567
  | rekey (c : Client) (v : Nat)   -- REKEY, R568
  | zoneLearning (c : Client) (v : Nat)   -- ZONE_LEARNING, R558
  | zoneLearningEnd   -- ZONE_LEARNING_END, R558
  | watchWakeFrame (ma : Nat)   -- WATCH_WAKE_FRAME, R569
  | watchReply (b : List Byte) (after : Nat) (boot : BootIn)   -- WATCH_REPLY, R569
  | keyRecord (c : Client) (b : List Byte)   -- KEY_RECORD, R574
  | lifecycleNonce (c : Client)   -- LIFECYCLE_NONCE, R578
  | lifecycleRequest (c : Client) (b : List Byte)   -- LIFECYCLE_REQUEST, R578
  | debugChallenge   -- DEBUG_CHALLENGE, R580
  | debugAttach (level : Fin 4) (sig : List Byte)   -- DEBUG_ATTACH, R580
  | debugWake (boot : BootIn)   -- DEBUG_WAKE, R582
  | debugDetach   -- DEBUG_DETACH, R583
  | debugPortDisable (c : Client)   -- DEBUG_PORT_DISABLE, R583
  | dbgLockoutEnd   -- DBG_LOCKOUT_END, R580
  | trngRandom (a : Acc) (m : Fin 2) (key : Fin 256) (len : Fin 512)   -- TRNG_RANDOM, R585
  | sha256 (a : Acc) (m : Fin 2) (key : Fin 256) (len : Fin 512)   -- SHA_256, R585
  | ecdsaVerify (a : Acc) (m : Fin 2) (key : Fin 256) (len : Fin 512)   -- ECDSA_VERIFY, R585
  | hmacSha256 (a : Acc) (m : Fin 2) (key : Fin 256) (len : Fin 512)   -- HMAC_SHA_256, R585
  | aesCmac (a : Acc) (m : Fin 2) (key : Fin 256) (len : Fin 512)   -- AES_CMAC, R585
  | aesEncrypt (a : Acc) (m : Fin 2) (key : Fin 256) (len : Fin 512)   -- AES_ENCRYPT, R585
  | mailboxDone (m : Fin 2)   -- MAILBOX_DONE, R585
  | mailboxRelease (a : Acc) (m : Fin 2)   -- MAILBOX_RELEASE, R585
  | custSelftest   -- CUST_SELFTEST, R586
  | parcel (c : Client) (b : List Byte)   -- PARCEL, R590
  | blockStagingWrite (good : Bool)   -- BLOCK_STAGING_WRITE, R594
  | stagingClear (via : Via) (key : Nat)   -- STAGING_CLEAR, R596
  | activate (via : Via) (key : Nat)   -- ACTIVATE, R597
  | resolerBlockCopy (first second : Bool)   -- RESOLER_BLOCK_COPY, R600
  | trialConfirm   -- TRIAL_CONFIRM, R605
  | recovLow (low : Bool) (boot : BootIn)   -- RECOV_LOW, R606
  | journalFlush   -- JOURNAL_FLUSH, R620
  | flushCommand (via : Via)   -- FLUSH_COMMAND, R620
  | flushComplete (ok : Bool)   -- FLUSH_COMPLETE, R620
  | clr1003 (via : Via)   -- CLR_1003, R623
  | readWindowLoad (a : Acc) (seq : Nat)   -- READ_WINDOW_LOAD, R619
  | faultExpiry   -- FAULT_EXPIRY, R612
  | registerRead (a : Acc) (addr : Nat) (w : Width) (flip : Option (Fin 32))   -- REGISTER_READ, R67
  | plateLimitClear (t1 t2 : Sens)   -- PLATE_LIMIT_CLEAR, R113
  | plateSensorClear (t1 t2 : Sens)   -- PLATE_SENSOR_CLEAR, R114
  | keepReturn (v : Nat)   -- KEEP_RETURN, R124
  | pairImbalanceClear (n : Fin 64) (a b : Int)   -- PAIR_IMBALANCE_CLEAR, R190
  | openLoadOffClear (n : Fin 64)   -- OPEN_LOAD_OFF_CLEAR, R247
  | shortToFeedClear (n : Fin 64)   -- SHORT_TO_FEED_CLEAR, R248
  | openLoadOnClear (n : Fin 64)   -- OPEN_LOAD_ON_CLEAR, R249
  | doOpenLoadClear (m : Fin 16)   -- DO_OPEN_LOAD_CLEAR, R353
  | boostPwrLimitEnd (x : Fin 2) (p cur v : Nat)   -- BOOST_PWR_LIMIT_END, R255
  | calStale (n : Fin 64)   -- CAL_STALE, R242
  | announceReceiptTimeout (p : Fin 4)   -- ANNOUNCE_RECEIPT_TIMEOUT, R455
  | pdelayLostResponses (p : Fin 4)   -- PDELAY_LOST_RESPONSES, R454
  | tc10SleepResponse (p : Fin 4) (accept : Bool)   -- TC10_SLEEP_RESPONSE, R498
deriving DecidableEq, Repr

end Sys2Proof
end

