-- ==== Sys2Proof/Decode.lean ====
section
/-! DEFINITION. The decoder of the opcode table's words. The rows of spec/opcode_table.json give no bits, so every word is refused. -/

namespace Sys2Proof

/-- The command that a word of `nbits` bits spells: none, since no row has bits. -/
def decodeTableWord (_nbits _w : Nat) : Option Instr := none

end Sys2Proof
end

