-- ==== Sys2Proof/Machine/Crypto.lean ====
section
/-! DEFINITION. The published functions that customs computes: SHA-256 and HMAC (R81, R513, R533, R578, R585), AES-128, AES-128-CMAC
(R550, R562, R585), RFC 3394 key unwrap (R564, R574) and the verification of ECDSA P-256 (R578, R580, R585, R589). The spec names
them and the standards define them (assumption log 4). Inside, bytes and words are numbers below 256 and 2^32. -/

namespace Sys2Proof.Machine

/-! ## The CRC-16 of R75 -/

/-- One bit of the CRC-16: polynomial 0x1021. -/
def crcBit (c : Nat) : Nat := if 32768 ≤ c then ((2 * c) % 65536) ^^^ 0x1021 else 2 * c
/-- One byte. -/
def crcByte (c : Nat) (b : Byte) : Nat :=
  (List.range 8).foldl (fun x _ => crcBit x) (c ^^^ (b.toNat * 256))
/-- CRC-16 of R75: polynomial 0x1021, initial value 0xFFFF, not reflected, no final XOR. -/
def crc16 (l : List Byte) : Nat := l.foldl crcByte 0xFFFF

/-- CRC-8 of R546: polynomial 0x2F, initial value 0xFF, taken like that of R75: not reflected, no final XOR (DESIGN CHOICE, log 115). -/
def crc8 (l : List Byte) : Nat :=
  l.foldl (fun c b => (List.range 8).foldl (fun x _ => if 128 ≤ x then ((2 * x) % 256) ^^^ 0x2F else 2 * x) (c ^^^ b.toNat)) 0xFF

/-! ## SHA-256 (FIPS 180-4) -/

/-- Rotation of a 32-bit word to the right. -/
def rotr (n x : Nat) : Nat := (x >>> n) ||| ((x <<< (32 - n)) % 0x100000000)

/-- The 64 round constants, of 32 bits each, as one number with the first of them at its least significant end. -/
def shaConsts : Nat :=
  0xc67178f2bef9a3f7a4506ceb90befffa8cc7020884c8781478a5636f748f82ee682e6ff35b9cca4f4ed8aa4a391c0cb334b0bcb52748774c1e376c0819a4c116106aa070f40e3585d6990624d192e819c76c51a3c24b8b70a81a664ba2bfe8a192722c8581c2c92e766a0abb650a735453380d134d2c6dfc2e1b213827b70a851429296706ca6351d5a79147c6e00bf3bf597fc7b00327c8a831c66d983e515276f988da5cb0a9dc4a7484aa2de92c6f240ca1cc0fc19dc6efbe4786e49b69c1c19bf1749bdc06a780deb1fe72be5d74550c7dc3243185be12835b01d807aa98ab1c5ed5923f82a459f111f13956c25be9b5dba5b5c0fbcf71374491428a2f98
/-- They as a list. -/
def shaK : List Nat := (List.range 64).map fun t => (shaConsts >>> (32 * t)) % 0x100000000

/-- The initial hash value. -/
def shaInit : List Nat :=
  [0x6a09e667, 0xbb67ae85, 0x3c6ef372, 0xa54ff53a, 0x510e527f, 0x9b05688c, 0x1f83d9ab, 0x5be0cd19]

/-- One new word of the schedule, from the last 16, of which the oldest stands first. -/
def shaWord (w : List Nat) : Nat :=
  let x := w.getD 1 0
  let y := w.getD 14 0
  (w.getD 0 0 + (rotr 7 x ^^^ rotr 18 x ^^^ (x >>> 3)) + w.getD 9 0 + (rotr 17 y ^^^ rotr 19 y ^^^ (y >>> 10))) % 0x100000000

/-- One round: the working variables a to h, and the sum of the round's constant and word. -/
def shaRound (v : List Nat) (kw : Nat) : List Nat :=
  match v with
  | [a, b, c, d, e, f, g, h] =>
    let t := h + (rotr 6 e ^^^ rotr 11 e ^^^ rotr 25 e) + ((e &&& f) ^^^ ((0xFFFFFFFF - e) &&& g)) + kw
    let u := (rotr 2 a ^^^ rotr 13 a ^^^ rotr 22 a) + ((a &&& b) ^^^ (a &&& c) ^^^ (b &&& c))
    [(t + u) % 0x100000000, a, b, c, (d + t) % 0x100000000, e, f, g]
  | _ => v

/-- The rounds with the constants `ks`, over the next 16 words `w` of the schedule. -/
def shaRounds : List Nat → List Nat → List Nat → List Nat
  | [], _, v => v
  | k :: ks, w, v => shaRounds ks (w.tail ++ [shaWord w]) (shaRound v (k + w.headD 0))

/-- The number that big-endian bytes spell. -/
def beVal (l : List Nat) : Nat := l.foldl (fun a x => a * 256 + x) 0

/-- The `k` big-endian bytes of a number. -/
def beVals (k n : Nat) : List Nat := (beBytes k n).map BitVec.toNat

/-- Cut a list into `k` chunks of `n`. -/
def chunks {α : Type} (n : Nat) : Nat → List α → List (List α)
  | 0, _ => []
  | k + 1, l => l.take n :: chunks n k (l.drop n)

/-- The hash value after one more block of 64 bytes. -/
def shaBlock (h b : List Nat) : List Nat :=
  (h.zip (shaRounds shaK ((chunks 4 16 b).map beVal) h)).map fun x => (x.1 + x.2) % 0x100000000

/-- A message padded to whole blocks. -/
def shaPad (m : List Nat) : List Nat :=
  m ++ [0x80] ++ List.replicate ((119 - m.length % 64) % 64) 0 ++ beVals 8 (8 * m.length)

/-- SHA-256 over numbers. -/
def shaNat (m : List Nat) : List Nat :=
  let p := shaPad m
  ((chunks 64 (p.length / 64) p).foldl shaBlock shaInit).flatMap (beVals 4)

/-- SHA-256. -/
@[irreducible] def sha256 (m : List Byte) : List Byte := (shaNat (m.map BitVec.toNat)).map (BitVec.ofNat 8)

/-- HMAC-SHA-256 (FIPS 198-1): key, message. -/
@[irreducible] def hmacSha256 (k m : List Byte) : List Byte :=
  let k0 := if 64 < k.length then sha256 k else k
  let kp := k0 ++ List.replicate (64 - k0.length) 0
  sha256 (kp.map (· ^^^ 0x5C) ++ sha256 (kp.map (· ^^^ 0x36) ++ m))

/-! ## AES-128 and AES-256 (FIPS 197) -/

/-- Multiplication by x in GF(2^8). -/
def xtime (a : Nat) : Nat := if 128 ≤ a then (2 * a) ^^^ 0x11B else 2 * a

/-- Multiplication in GF(2^8), over the low `n` bits of the second factor. -/
def gmul : Nat → Nat → Nat → Nat
  | 0, _, _ => 0
  | n + 1, a, b => (if b % 2 = 1 then a else 0) ^^^ gmul n (xtime a) (b / 2)

/-- The inverse in GF(2^8), 0 for 0: a^254. -/
def ginv (a : Nat) : Nat :=
  let m := gmul 8
  let a2 := m a a
  let a3 := m a2 a
  let a6 := m a3 a3
  let a12 := m a6 a6
  let a15 := m a12 a3
  let a30 := m a15 a15
  let a60 := m a30 a30
  let a120 := m a60 a60
  let a126 := m a120 a6
  let a127 := m a126 a
  m a127 a127

/-- Rotation of a byte to the left. -/
def rotl8 (n a : Nat) : Nat := ((a <<< n) ||| (a >>> (8 - n))) % 256

/-- SubBytes of one byte as FIPS 197 defines it. -/
def subByte (a : Nat) : Nat :=
  let b := ginv a
  b ^^^ rotl8 1 b ^^^ rotl8 2 b ^^^ rotl8 3 b ^^^ rotl8 4 b ^^^ 0x63

/-- InvSubBytes of one byte as FIPS 197 defines it. -/
def subByteInv (a : Nat) : Nat := ginv (rotl8 1 a ^^^ rotl8 3 a ^^^ rotl8 6 a ^^^ 0x05)

/-- `subByte` of the 256 bytes as one number, that of 0 at its least significant end (`sbox_eq`). -/
def sboxTab : Nat :=
  0x16bb54b00f2d99416842e6bf0d89a18cdf2855cee9871e9b948ed9691198f8e19e1dc186b95735610ef6034866b53e708a8bbd4b1f74dde8c6b4a61c2e2578ba08ae7a65eaf4566ca94ed58d6d37c8e779e4959162acd3c25c2406490a3a32e0db0b5ede14b8ee4688902a22dc4f816073195d643d7ea7c41744975fec130ccdd2f3ff1021dab6bcf5389d928f40a351a89f3c507f02f94585334d43fbaaefd0cf584c4a39becb6a5bb1fc20ed00d153842fe329b3d63b52a05a6e1b1a2c830975b227ebe28012079a059618c323c7041531d871f1e5a534ccf73f362693fdb7c072a49cafa2d4adf04759fa7dc982ca76abd7fe2b670130c56f6bf27b777c63
/-- `subByteInv` of the 256 bytes as one number (`sboxInv_eq`). -/
def sboxInvTab : Nat :=
  0x7d0c2155631469e126d677ba7e042b17619953833cbbebc8b0f52aae4d3be0a0ef9cc9939f7ae52d0d4ab519a97f51605fec8027591012b131c7078833a8dd1ff45acd78fec0db9a2079d2c64b3e56fc1bbe18aa0e62b76f89c5291d711af1476edf751ce837f9e28535ade72274ac9673e6b4f0cecff297eadc674f4111913a6b8a130103bdafc1020f3fca8f1e2cd00645b3b80558e4f70ad3bc8c00abd890849d8da75746155edab9edfd5048706c92b6655dcc5ca4d41698688664f6f87225d18b6d49a25b76b224d92866a12e084ec3fa420b954cee3d23c2a632947b54cbe9dec444438e3487ff2f9b8239e37cfbd7f3819ea340bf38a53630d56a0952
/-- SubBytes of one byte. -/
def sbox (a : Nat) : Nat := (sboxTab >>> (8 * a)) % 256
/-- InvSubBytes of one byte. -/
def sboxInv (a : Nat) : Nat := (sboxInvTab >>> (8 * a)) % 256

/-- Exclusive or of two byte strings. -/
def xorBytes (a b : List Nat) : List Nat := (a.zip b).map fun x => x.1 ^^^ x.2

/-- The last word of a round key, rotated, through the S-box and with the round constant `rc`. -/
def keyWord (rc : Nat) (k : List Nat) : List Nat :=
  [sbox (k.getD 13 0) ^^^ rc, sbox (k.getD 14 0), sbox (k.getD 15 0), sbox (k.getD 12 0)]

/-- The round key whose words chain from the word `t` over those of the key `k` before it. -/
def nextKey (t k : List Nat) : List Nat :=
  let w0 := xorBytes (k.take 4) t
  let w1 := xorBytes ((k.drop 4).take 4) w0
  let w2 := xorBytes ((k.drop 8).take 4) w1
  w0 ++ w1 ++ w2 ++ xorBytes ((k.drop 12).take 4) w2

/-- `n` further round keys after `k` of AES-128. -/
def roundKeys : Nat → Nat → List Nat → List (List Nat)
  | 0, _, _ => []
  | n + 1, rc, k => let k' := nextKey (keyWord rc k) k; k' :: roundKeys n (xtime rc) k'

/-- `2 n` further round keys after `j` and `k` of AES-256. -/
def roundPairs : Nat → Nat → List Nat → List Nat → List (List Nat)
  | 0, _, _, _ => []
  | n + 1, rc, j, k =>
    let j' := nextKey (keyWord rc k) j
    let k' := nextKey ((j'.drop 12).map sbox) k
    j' :: k' :: roundPairs n (xtime rc) j' k'

/-- ShiftRows by `d` columns per row: 1, or 3 for its inverse. The state is kept column by column. -/
def shiftRows (d : Nat) (s : List Nat) : List Nat :=
  (List.range 16).map fun i => s.getD (i % 4 + 4 * ((i / 4 + d * (i % 4)) % 4)) 0

/-- MixColumns with the row `c` of the matrix, whose entries lie below 16. -/
def mixColumns (c s : List Nat) : List Nat :=
  (List.range 16).map fun i =>
    (List.range 4).foldl (fun a j => a ^^^ gmul 4 (s.getD (4 * (i / 4) + j) 0) (c.getD ((j + 4 - i % 4) % 4) 0)) 0

/-- The round keys after the first 16 bytes of the key: 10 with a key of 16 bytes, 14 with one of 32. -/
def aesKeys (k : List Nat) : List (List Nat) :=
  if k.length = 32 then k.drop 16 :: (roundPairs 7 1 (k.take 16) (k.drop 16)).take 13 else roundKeys 10 1 k

/-- AES over numbers: key of 16 or 32 bytes, block. -/
def aesNat (k b : List Nat) : List Nat :=
  let ks := aesKeys k
  let s := ks.dropLast.foldl (fun s r => xorBytes (mixColumns [2, 3, 1, 1] (shiftRows 1 (s.map sbox))) r) (xorBytes b (k.take 16))
  xorBytes (shiftRows 1 (s.map sbox)) (ks.getLastD [])

/-- The inverse of `aesNat`. -/
def aesInvNat (k b : List Nat) : List Nat :=
  let ks := aesKeys k
  let s := (shiftRows 3 (xorBytes b (ks.getLastD []))).map sboxInv
  xorBytes (ks.dropLast.reverse.foldl (fun s r => (shiftRows 3 (mixColumns [14, 11, 13, 9] (xorBytes s r))).map sboxInv) s) (k.take 16)

/-- A byte string as numbers, cut or filled with zeros to `n`. -/
def sized (n : Nat) (l : List Byte) : List Nat := (l.map BitVec.toNat ++ List.replicate n 0).take n

/-- AES-128 encryption of one block: key, block. -/
@[irreducible] def aes128 (k b : List Byte) : List Byte := (aesNat (sized 16 k) (sized 16 b)).map (BitVec.ofNat 8)

/-- Doubling in GF(2^128), of the subkeys of CMAC. -/
def cmacDouble (l : List Nat) : List Nat :=
  let n := 2 * beVal l
  beVals 16 (if n < 2 ^ 128 then n else (n % 2 ^ 128) ^^^ 0x87)

/-- AES-128-CMAC (RFC 4493): key, message. -/
@[irreducible] def aesCmac (k m : List Byte) : List Byte :=
  let key := sized 16 k
  let d := m.map BitVec.toNat
  let n := if d.length = 0 then 1 else (d.length + 15) / 16
  let k1 := cmacDouble (aesNat key (List.replicate 16 0))
  let last := d.drop (16 * (n - 1))
  let last := if last.length = 16 then xorBytes last k1
    else xorBytes (last ++ [0x80] ++ List.replicate (15 - last.length) 0) (cmacDouble k1)
  ((chunks 16 (n - 1) d ++ [last]).foldl (fun c b => aesNat key (xorBytes c b)) (List.replicate 16 0)).map (BitVec.ofNat 8)

/-- The steps of RFC 3394 key unwrap, `j` down to 1 for every 8 bytes of the `n`: the register A and the halves R[1] to R[n]. -/
def unwrapSteps (key : List Nat) (n : Nat) : Nat → List Nat × List (List Nat) → List Nat × List (List Nat)
  | 0, x => x
  | t + 1, (a, r) =>
    let i := t % n
    let b := aesInvNat key (xorBytes a (beVals 8 (t + 1)) ++ r.getD i [])
    unwrapSteps key n t (b.take 8, r.set i (b.drop 8))

/-- RFC 3394 key unwrap with the default initial value: wrapping key of 16 or 32 bytes, wrapped value; `none` where its integrity check fails. -/
@[irreducible] def keyUnwrap (k w : List Byte) : Option (List Byte) :=
  let n := w.length / 8 - 1
  if w.length % 8 ≠ 0 ∨ w.length < 24 then none
  else
    let d := w.map BitVec.toNat
    let r := unwrapSteps (sized (if 16 < k.length then 32 else 16) k) n (6 * n) (d.take 8, chunks 8 n (d.drop 8))
    if r.1 = List.replicate 8 0xA6 then some (r.2.flatten.map (BitVec.ofNat 8)) else none

/-! ## ECDSA P-256 (FIPS 186) -/

/-- The prime of the field. -/
def p256 : Nat := 2 ^ 256 - 2 ^ 224 + 2 ^ 192 + 2 ^ 96 - 1
/-- The order of the base point. -/
def p256Order : Nat := 0xFFFFFFFF00000000FFFFFFFFFFFFFFFFBCE6FAADA7179E84F3B9CAC2FC632551
/-- The constant b of the curve y² = x³ − 3x + b. -/
def p256B : Nat := 0x5AC635D8AA3A93E7B3EBBD55769886BC651D06B0CC53B0F63BCE3C3E27D2604B
/-- The base point. -/
def p256G : Nat × Nat :=
  (0x6B17D1F2E12C4247F8BCE6E563A440F277037D812DEB33A0F4A13945D898C296,
   0x4FE342E2FE1A7F9B8EE7EB4A7C0F9E162BCE33576B315ECECBB6406837BF51F5)

/-- x^e mod m, over the low `n` bits of e. -/
def powMod (m : Nat) : Nat → Nat → Nat → Nat → Nat
  | 0, _, _, acc => acc
  | n + 1, x, e, acc => powMod m n (x * x % m) (e / 2) (if e % 2 = 1 then acc * x % m else acc)

/-- A difference in the field. -/
def subP (a b : Nat) : Nat := (a + p256 - b) % p256

/-- A point in Jacobian coordinates; Z = 0 is the point at infinity. -/
structure JPoint where
  x : Nat
  y : Nat
  z : Nat
deriving DecidableEq, Repr

/-- Twice a point. -/
def JPoint.double (q : JPoint) : JPoint :=
  let zz := q.z * q.z % p256
  let yy := q.y * q.y % p256
  let s := 4 * q.x * yy % p256
  let m := 3 * (subP q.x zz) * (q.x + zz) % p256
  let x := subP (m * m % p256) (2 * s % p256)
  ⟨x, subP (m * subP s x % p256) (8 * yy * yy % p256), 2 * q.y * q.z % p256⟩

/-- The sum of two points. -/
def JPoint.add (q r : JPoint) : JPoint :=
  if q.z = 0 then r
  else if r.z = 0 then q
  else
    let z1 := q.z * q.z % p256
    let z2 := r.z * r.z % p256
    let u1 := q.x * z2 % p256
    let u2 := r.x * z1 % p256
    let s1 := q.y * z2 * r.z % p256
    let s2 := r.y * z1 * q.z % p256
    if u1 = u2 then (if s1 = s2 then q.double else ⟨1, 1, 0⟩)
    else
      let h := subP u2 u1
      let w := subP s2 s1
      let hh := h * h % p256
      let hhh := h * hh % p256
      let v := u1 * hh % p256
      let x := subP (subP (w * w % p256) hhh) (2 * v % p256)
      ⟨x, subP (w * subP v x % p256) (s1 * hhh % p256), q.z * r.z * h % p256⟩

/-- u·G + v·Q over the top `n` bits of both numbers, from the most significant down. -/
def twoMul (g q gq : JPoint) (u v : Nat) : Nat → JPoint → JPoint
  | 0, acc => acc
  | n + 1, acc =>
    let acc := acc.double
    let acc := match bitOf u n, bitOf v n with
      | true, true => acc.add gq
      | true, false => acc.add g
      | false, true => acc.add q
      | false, false => acc
    twoMul g q gq u v n acc

/-- Verification of an ECDSA P-256 signature: public key (x, then y, each of 32 bytes, big-endian), the hash of the message, and the
signature (r, then s, each of 32 bytes, big-endian). -/
@[irreducible] def ecdsaP256 (pub hash sig : List Byte) : Bool :=
  let x := beNat (pub.take 32)
  let y := beNat (pub.drop 32)
  let r := beNat (sig.take 32)
  let s := beNat (sig.drop 32)
  let on := decide (x < p256) && decide (y < p256) && decide (y * y % p256 = (x * x * x + (p256 - 3) * x + p256B) % p256)
  if pub.length ≠ 64 ∨ sig.length ≠ 64 ∨ r = 0 ∨ p256Order ≤ r ∨ s = 0 ∨ p256Order ≤ s ∨ !on then false
  else
    let w := powMod p256Order 256 s (p256Order - 2) 1
    let u := beNat (hash.take 32) * w % p256Order
    let v := r * w % p256Order
    let g : JPoint := ⟨p256G.1, p256G.2, 1⟩
    let q : JPoint := ⟨x, y, 1⟩
    let t := twoMul g q (g.add q) u v 256 ⟨1, 1, 0⟩
    let zz := t.z * t.z % p256
    t.z != 0 && (decide (t.x = r * zz % p256) || (decide (r + p256Order < p256) && decide (t.x = (r + p256Order) * zz % p256)))

end Sys2Proof.Machine
end

