-- ==== Sys2Proof/Config.lean ====
section
/-! DEFINITION. What the implementation fixes and what the spec leaves open: constants without a body. Nothing in Lean can
evaluate them, so a statement about the model holds whatever their values are (assumption log 3). -/

namespace Sys2Proof.Config

/-- A free value: the n-th value the machine draws where spec/ states that some value results and not which (log 3). -/
opaque free : Nat → Nat

/-- Bytes that the customs TRNG gives at the n-th draw, `k` of them (R81, R513, R533, R578, R580, R585; log 3). -/
opaque trngByte : Nat → Nat → BitVec 8
/-- The `k` bytes of the n-th draw. -/
def trng (n k : Nat) : List (BitVec 8) := (List.range k).map (trngByte n)

/-- The MAC address of ETH0, a number of 48 bits whose first octet is the most significant (R455, R477; log 3). -/
opaque macEth0 : Nat
/-- The serial number of the module, 64 bits (R513, R578, R589; log 3). -/
opaque serial : Nat
/-- Minor version and patch of the firmware delivered; its major version is 3 (R1, log 3). -/
opaque swMinor : Nat
/-- Hardware version, vendor's revision number (1009:00, 1018:03; log 3). -/
opaque hwVersion : Nat
/-- The bucket of the MAC table in which an address and a VLAN ID fall (R423 gives no hash; log 3). -/
opaque macBucket : Nat → Nat → Nat
/-- The contents of ROM, which spec/ does not give (R42; log 3). -/
opaque rom : Nat → BitVec 8
/-- A measured value that no command carries, by its place and the time of the reading (log 3). -/
opaque meas : Nat → Nat → Nat

end Sys2Proof.Config
end

