-- ==== Sys2Proof/Machine/FaultTab.lean ====
section
/-! DEFINITION. The complete fault table of R626, with the reaction classes of R611 and the recovery letters of R612. -/

namespace Sys2Proof.Machine

/-- Every fault code of R626, under its name. -/
inductive FaultId where
  | MODE_LIMP | LIMP_RETRY_LIMIT | MODE_REFUSED | CLK_REF_LOSS | CLK_DOMAIN_LOSS | WELT_OVF | LOCKSTEP_A
  | LOCKSTEP_B | PAIR_RESTART_LIMIT | OVERLOAD_A | OVERLOAD_B | JNL_LATE | JNL_OVERRUN | JNL_LOST
  | JNL_NVM_FAIL | JNL_EMCY_DROP | HRP_AUTH_FAIL | NEGOTIATED | PLATE_HOT | PLATE_LIMIT | PLATE_SENSOR
  | SUPPLY_DIP | FEED_ABSENT | FEED_OVERVOLT | VLOG_LOW | SUPPLY_LOSS | SUPPLY_RESTORED | GUARD_VIOL
  | CFG_PARITY | BUS_ERR | BERTH_SLOT_INVALID | BERTH_SLOT_CHANGE | BERTH_LINK_LOSS | BERTH_NO_KEEP
  | BERTH_EXTRACT | BERTH_RAMP_FAIL | BERTH_HARD_MATE | BERTH_EXTRACT_ABORT | BERTH_RAMP_OK | FAST_TRIP
  | L1_TRIP | L2_CEILING | RESTART_BUDGET | WIRE_TRIP | WIRE_START_DEFAULT | FEED_SHED | FEED_LATCH
  | FEED_OVER_AUX | COMP_SAT | PAIR_IMBALANCE | SW_REFUSED | OPEN_LOAD_OFF | OPEN_LOAD_ON | SHORT_TO_FEED
  | BOOST_NOT_READY | OPEN_COIL | COIL_SHORT | VALVE_NOT_CLOSED | HSB_SHORT | BOOST_OVERVOLT
  | BOOST_PWR_LIMIT | INJ_EVENT_REJECTED | BOOST_START_FAIL | EVE_STORE_FULL | EVE_LATE_START | SPEED_LOSS
  | STREAM_UNDERRUN | STREAM_OVERFLOW | RECORD_LATE | LED_OPEN | LED_SHORT | LED_FOLDBACK | DO_OVERLOAD
  | DO_OPEN_LOAD | AUX_OVERLOAD | SSUP_OVERLOAD | AUX_DOWN | BOLL_SILENCE | BOLL_HOLD_EXPIRED | BOLL_FEED_SEQ
  | BOLL_RECLAIMED | BOLL_REFLEX | CAL_FACTORY_BAD | CAL_SENSE_DRIFT | CAL_BOOST_DRIFT | CAL_LF_RANGE
  | CAL_DI_THRESH | CAL_REF_FAIL | CAN_BUS_OFF | CAN_BUS_OFF_LIMIT | CAN_ERR_PASSIVE | ID_COLLISION
  | CAN_RATE_NOT_FOUND | CAN_RX_OVF | CAN_TT_LOSS | ETH_LINK_DOWN | ETH_AN_FALLBACK | ETH_AN_FAIL
  | ETH_ROLE_CONFLICT | ETH_MAC_FULL | ETH_QUEUE_DROP | TIDE_SRC_LOSS | TIDE_STEP | TIDE_HOLD_LONG
  | TIDE_GM_CHANGE | TIDE_CMP | GWY_RING_FULL | GWY_RATE_LIMIT | GWY_QUARANTINE | GWY_QUAR_FULL
  | GWY_HOLD_OVF | GWY_BP_TIMEOUT | GWY_ACF_FORMAT | GWY_STAGE_OVF | NM_NODE_STUCK | NM_OWN_STUCK
  | NM_SEG_ISOLATED | NM_SLEEP_ABORT | NM_WAKE_HELD | NM_WAKE | DICT_STORE_DONE | DICT_STORE_FAIL
  | DICT_SET_INVALID | DICT_SET_ENTRY | DICT_PDO_LENGTH | DICT_PDO_REFUSED | DICT_RPDO_TIMEOUT | DICT_HB_LOSS
  | DICT_AUTH_FAIL | DICT_SESSION | ACC_AUTH_FAIL | ACC_LOCKOUT | ACC_DENIED | ACC_RELAY | ACC_COLLISION
  | ACC_ENROLLED | ACC_ENROL_FAIL | ACC_ENROL_LIMIT | ACC_DENY_FULL | ACC_GATE | ACC_AERIAL_OPEN
  | CUST_SELFTEST | CUST_KEY_BAD | CUST_KEY_WRITE | LC_CHANGE | LC_REFUSED | DBG_GRANT | DBG_DENIED
  | DBG_AUTH_FAIL | UPD_HDR_BAD | UPD_BLOCK_BAD | UPD_STAGED | UPD_ACTIVATE | UPD_RESOLE_DONE
  | UPD_RESOLE_RESUME | UPD_CONFIRMED | UPD_TRIAL_FAIL | UPD_IMAGE_BAD | UPD_RECOVERY
deriving DecidableEq, Repr

/-- Recovery letters of R612. -/
inductive Rec where | N | A | C | B | H | V
deriving DecidableEq, Repr

/-- The fault code 0xBBNN of R611: source block BB, fault number NN. -/
def FaultId.code : FaultId → Nat
  | .MODE_LIMP => 0x0101
  | .LIMP_RETRY_LIMIT => 0x0102
  | .MODE_REFUSED => 0x0103
  | .CLK_REF_LOSS => 0x0110
  | .CLK_DOMAIN_LOSS => 0x0111
  | .WELT_OVF => 0x0112
  | .LOCKSTEP_A => 0x0113
  | .LOCKSTEP_B => 0x0114
  | .PAIR_RESTART_LIMIT => 0x0115
  | .OVERLOAD_A => 0x0116
  | .OVERLOAD_B => 0x0117
  | .JNL_LATE => 0x0118
  | .JNL_OVERRUN => 0x0119
  | .JNL_LOST => 0x011A
  | .JNL_NVM_FAIL => 0x011B
  | .JNL_EMCY_DROP => 0x011C
  | .HRP_AUTH_FAIL => 0x0120
  | .NEGOTIATED => 0x0121
  | .PLATE_HOT => 0x0130
  | .PLATE_LIMIT => 0x0131
  | .PLATE_SENSOR => 0x0132
  | .SUPPLY_DIP => 0x0201
  | .FEED_ABSENT => 0x0202
  | .FEED_OVERVOLT => 0x0203
  | .VLOG_LOW => 0x0204
  | .SUPPLY_LOSS => 0x0205
  | .SUPPLY_RESTORED => 0x0206
  | .GUARD_VIOL => 0x0301
  | .CFG_PARITY => 0x0302
  | .BUS_ERR => 0x0303
  | .BERTH_SLOT_INVALID => 0x0401
  | .BERTH_SLOT_CHANGE => 0x0402
  | .BERTH_LINK_LOSS => 0x0403
  | .BERTH_NO_KEEP => 0x0404
  | .BERTH_EXTRACT => 0x0405
  | .BERTH_RAMP_FAIL => 0x0406
  | .BERTH_HARD_MATE => 0x0407
  | .BERTH_EXTRACT_ABORT => 0x0408
  | .BERTH_RAMP_OK => 0x0409
  | .FAST_TRIP => 0x1001
  | .L1_TRIP => 0x1002
  | .L2_CEILING => 0x1003
  | .RESTART_BUDGET => 0x1004
  | .WIRE_TRIP => 0x1005
  | .WIRE_START_DEFAULT => 0x1006
  | .FEED_SHED => 0x1010
  | .FEED_LATCH => 0x1011
  | .FEED_OVER_AUX => 0x1012
  | .COMP_SAT => 0x1030
  | .PAIR_IMBALANCE => 0x1031
  | .SW_REFUSED => 0x1032
  | .OPEN_LOAD_OFF => 0x1040
  | .OPEN_LOAD_ON => 0x1041
  | .SHORT_TO_FEED => 0x1042
  | .BOOST_NOT_READY => 0x1101
  | .OPEN_COIL => 0x1102
  | .COIL_SHORT => 0x1103
  | .VALVE_NOT_CLOSED => 0x1104
  | .HSB_SHORT => 0x1105
  | .BOOST_OVERVOLT => 0x1106
  | .BOOST_PWR_LIMIT => 0x1107
  | .INJ_EVENT_REJECTED => 0x1108
  | .BOOST_START_FAIL => 0x1109
  | .EVE_STORE_FULL => 0x1201
  | .EVE_LATE_START => 0x1202
  | .SPEED_LOSS => 0x1203
  | .STREAM_UNDERRUN => 0x1204
  | .STREAM_OVERFLOW => 0x1205
  | .RECORD_LATE => 0x1206
  | .LED_OPEN => 0x1301
  | .LED_SHORT => 0x1302
  | .LED_FOLDBACK => 0x1303
  | .DO_OVERLOAD => 0x1401
  | .DO_OPEN_LOAD => 0x1402
  | .AUX_OVERLOAD => 0x1403
  | .SSUP_OVERLOAD => 0x1404
  | .AUX_DOWN => 0x1405
  | .BOLL_SILENCE => 0x1501
  | .BOLL_HOLD_EXPIRED => 0x1502
  | .BOLL_FEED_SEQ => 0x1503
  | .BOLL_RECLAIMED => 0x1504
  | .BOLL_REFLEX => 0x1505
  | .CAL_FACTORY_BAD => 0x1601
  | .CAL_SENSE_DRIFT => 0x1602
  | .CAL_BOOST_DRIFT => 0x1603
  | .CAL_LF_RANGE => 0x1604
  | .CAL_DI_THRESH => 0x1605
  | .CAL_REF_FAIL => 0x1606
  | .CAN_BUS_OFF => 0x2001
  | .CAN_BUS_OFF_LIMIT => 0x2002
  | .CAN_ERR_PASSIVE => 0x2003
  | .ID_COLLISION => 0x2004
  | .CAN_RATE_NOT_FOUND => 0x2005
  | .CAN_RX_OVF => 0x2006
  | .CAN_TT_LOSS => 0x2007
  | .ETH_LINK_DOWN => 0x2101
  | .ETH_AN_FALLBACK => 0x2102
  | .ETH_AN_FAIL => 0x2103
  | .ETH_ROLE_CONFLICT => 0x2104
  | .ETH_MAC_FULL => 0x2105
  | .ETH_QUEUE_DROP => 0x2106
  | .TIDE_SRC_LOSS => 0x2201
  | .TIDE_STEP => 0x2202
  | .TIDE_HOLD_LONG => 0x2203
  | .TIDE_GM_CHANGE => 0x2204
  | .TIDE_CMP => 0x2205
  | .GWY_RING_FULL => 0x2301
  | .GWY_RATE_LIMIT => 0x2302
  | .GWY_QUARANTINE => 0x2303
  | .GWY_QUAR_FULL => 0x2304
  | .GWY_HOLD_OVF => 0x2305
  | .GWY_BP_TIMEOUT => 0x2306
  | .GWY_ACF_FORMAT => 0x2307
  | .GWY_STAGE_OVF => 0x2308
  | .NM_NODE_STUCK => 0x2401
  | .NM_OWN_STUCK => 0x2402
  | .NM_SEG_ISOLATED => 0x2403
  | .NM_SLEEP_ABORT => 0x2404
  | .NM_WAKE_HELD => 0x2405
  | .NM_WAKE => 0x2406
  | .DICT_STORE_DONE => 0x3001
  | .DICT_STORE_FAIL => 0x3002
  | .DICT_SET_INVALID => 0x3003
  | .DICT_SET_ENTRY => 0x3004
  | .DICT_PDO_LENGTH => 0x3005
  | .DICT_PDO_REFUSED => 0x3006
  | .DICT_RPDO_TIMEOUT => 0x3007
  | .DICT_HB_LOSS => 0x3008
  | .DICT_AUTH_FAIL => 0x3009
  | .DICT_SESSION => 0x300A
  | .ACC_AUTH_FAIL => 0x3101
  | .ACC_LOCKOUT => 0x3102
  | .ACC_DENIED => 0x3103
  | .ACC_RELAY => 0x3104
  | .ACC_COLLISION => 0x3105
  | .ACC_ENROLLED => 0x3106
  | .ACC_ENROL_FAIL => 0x3107
  | .ACC_ENROL_LIMIT => 0x3108
  | .ACC_DENY_FULL => 0x3109
  | .ACC_GATE => 0x310A
  | .ACC_AERIAL_OPEN => 0x310B
  | .CUST_SELFTEST => 0x3201
  | .CUST_KEY_BAD => 0x3202
  | .CUST_KEY_WRITE => 0x3203
  | .LC_CHANGE => 0x3204
  | .LC_REFUSED => 0x3205
  | .DBG_GRANT => 0x3206
  | .DBG_DENIED => 0x3207
  | .DBG_AUTH_FAIL => 0x3208
  | .UPD_HDR_BAD => 0x3301
  | .UPD_BLOCK_BAD => 0x3302
  | .UPD_STAGED => 0x3303
  | .UPD_ACTIVATE => 0x3304
  | .UPD_RESOLE_DONE => 0x3305
  | .UPD_RESOLE_RESUME => 0x3306
  | .UPD_CONFIRMED => 0x3307
  | .UPD_TRIAL_FAIL => 0x3308
  | .UPD_IMAGE_BAD => 0x3309
  | .UPD_RECOVERY => 0x330A

/-- Reaction class code of R611. `CLK_DOMAIN_LOSS` is "per domain" (R18): its raise names the class; the entry here is its
highest. -/
def FaultId.cls : FaultId → Nat
  | .MODE_LIMP => 4
  | .LIMP_RETRY_LIMIT => 0
  | .MODE_REFUSED => 0
  | .CLK_REF_LOSS => 4
  | .CLK_DOMAIN_LOSS => 4
  | .WELT_OVF => 3
  | .LOCKSTEP_A => 1
  | .LOCKSTEP_B => 1
  | .PAIR_RESTART_LIMIT => 4
  | .OVERLOAD_A => 0
  | .OVERLOAD_B => 0
  | .JNL_LATE => 0
  | .JNL_OVERRUN => 1
  | .JNL_LOST => 1
  | .JNL_NVM_FAIL => 1
  | .JNL_EMCY_DROP => 0
  | .HRP_AUTH_FAIL => 0
  | .NEGOTIATED => 0
  | .PLATE_HOT => 1
  | .PLATE_LIMIT => 3
  | .PLATE_SENSOR => 1
  | .SUPPLY_DIP => 1
  | .FEED_ABSENT => 2
  | .FEED_OVERVOLT => 2
  | .VLOG_LOW => 1
  | .SUPPLY_LOSS => 5
  | .SUPPLY_RESTORED => 0
  | .GUARD_VIOL => 0
  | .CFG_PARITY => 3
  | .BUS_ERR => 0
  | .BERTH_SLOT_INVALID => 1
  | .BERTH_SLOT_CHANGE => 1
  | .BERTH_LINK_LOSS => 1
  | .BERTH_NO_KEEP => 1
  | .BERTH_EXTRACT => 0
  | .BERTH_RAMP_FAIL => 1
  | .BERTH_HARD_MATE => 0
  | .BERTH_EXTRACT_ABORT => 0
  | .BERTH_RAMP_OK => 0
  | .FAST_TRIP => 2
  | .L1_TRIP => 2
  | .L2_CEILING => 2
  | .RESTART_BUDGET => 2
  | .WIRE_TRIP => 2
  | .WIRE_START_DEFAULT => 0
  | .FEED_SHED => 1
  | .FEED_LATCH => 2
  | .FEED_OVER_AUX => 1
  | .COMP_SAT => 0
  | .PAIR_IMBALANCE => 1
  | .SW_REFUSED => 0
  | .OPEN_LOAD_OFF => 1
  | .OPEN_LOAD_ON => 1
  | .SHORT_TO_FEED => 1
  | .BOOST_NOT_READY => 1
  | .OPEN_COIL => 1
  | .COIL_SHORT => 2
  | .VALVE_NOT_CLOSED => 1
  | .HSB_SHORT => 2
  | .BOOST_OVERVOLT => 1
  | .BOOST_PWR_LIMIT => 0
  | .INJ_EVENT_REJECTED => 0
  | .BOOST_START_FAIL => 1
  | .EVE_STORE_FULL => 1
  | .EVE_LATE_START => 0
  | .SPEED_LOSS => 1
  | .STREAM_UNDERRUN => 0
  | .STREAM_OVERFLOW => 0
  | .RECORD_LATE => 0
  | .LED_OPEN => 1
  | .LED_SHORT => 2
  | .LED_FOLDBACK => 0
  | .DO_OVERLOAD => 2
  | .DO_OPEN_LOAD => 1
  | .AUX_OVERLOAD => 1
  | .SSUP_OVERLOAD => 2
  | .AUX_DOWN => 2
  | .BOLL_SILENCE => 1
  | .BOLL_HOLD_EXPIRED => 1
  | .BOLL_FEED_SEQ => 0
  | .BOLL_RECLAIMED => 0
  | .BOLL_REFLEX => 0
  | .CAL_FACTORY_BAD => 1
  | .CAL_SENSE_DRIFT => 1
  | .CAL_BOOST_DRIFT => 1
  | .CAL_LF_RANGE => 1
  | .CAL_DI_THRESH => 1
  | .CAL_REF_FAIL => 1
  | .CAN_BUS_OFF => 1
  | .CAN_BUS_OFF_LIMIT => 1
  | .CAN_ERR_PASSIVE => 0
  | .ID_COLLISION => 1
  | .CAN_RATE_NOT_FOUND => 1
  | .CAN_RX_OVF => 0
  | .CAN_TT_LOSS => 1
  | .ETH_LINK_DOWN => 1
  | .ETH_AN_FALLBACK => 0
  | .ETH_AN_FAIL => 1
  | .ETH_ROLE_CONFLICT => 1
  | .ETH_MAC_FULL => 0
  | .ETH_QUEUE_DROP => 0
  | .TIDE_SRC_LOSS => 1
  | .TIDE_STEP => 0
  | .TIDE_HOLD_LONG => 1
  | .TIDE_GM_CHANGE => 0
  | .TIDE_CMP => 0
  | .GWY_RING_FULL => 0
  | .GWY_RATE_LIMIT => 0
  | .GWY_QUARANTINE => 1
  | .GWY_QUAR_FULL => 0
  | .GWY_HOLD_OVF => 0
  | .GWY_BP_TIMEOUT => 0
  | .GWY_ACF_FORMAT => 0
  | .GWY_STAGE_OVF => 0
  | .NM_NODE_STUCK => 1
  | .NM_OWN_STUCK => 1
  | .NM_SEG_ISOLATED => 1
  | .NM_SLEEP_ABORT => 0
  | .NM_WAKE_HELD => 0
  | .NM_WAKE => 0
  | .DICT_STORE_DONE => 0
  | .DICT_STORE_FAIL => 1
  | .DICT_SET_INVALID => 1
  | .DICT_SET_ENTRY => 1
  | .DICT_PDO_LENGTH => 0
  | .DICT_PDO_REFUSED => 0
  | .DICT_RPDO_TIMEOUT => 0
  | .DICT_HB_LOSS => 1
  | .DICT_AUTH_FAIL => 0
  | .DICT_SESSION => 0
  | .ACC_AUTH_FAIL => 0
  | .ACC_LOCKOUT => 1
  | .ACC_DENIED => 0
  | .ACC_RELAY => 1
  | .ACC_COLLISION => 0
  | .ACC_ENROLLED => 0
  | .ACC_ENROL_FAIL => 1
  | .ACC_ENROL_LIMIT => 1
  | .ACC_DENY_FULL => 1
  | .ACC_GATE => 0
  | .ACC_AERIAL_OPEN => 1
  | .CUST_SELFTEST => 3
  | .CUST_KEY_BAD => 1
  | .CUST_KEY_WRITE => 0
  | .LC_CHANGE => 0
  | .LC_REFUSED => 0
  | .DBG_GRANT => 0
  | .DBG_DENIED => 0
  | .DBG_AUTH_FAIL => 1
  | .UPD_HDR_BAD => 0
  | .UPD_BLOCK_BAD => 0
  | .UPD_STAGED => 0
  | .UPD_ACTIVATE => 0
  | .UPD_RESOLE_DONE => 0
  | .UPD_RESOLE_RESUME => 0
  | .UPD_CONFIRMED => 0
  | .UPD_TRIAL_FAIL => 5
  | .UPD_IMAGE_BAD => 5
  | .UPD_RECOVERY => 0

/-- Recovery letters of R626 (R612). -/
def FaultId.recov : FaultId → List Rec
  | .MODE_LIMP => [.B]
  | .LIMP_RETRY_LIMIT => [.B]
  | .MODE_REFUSED => [.N]
  | .CLK_REF_LOSS => [.B]
  | .CLK_DOMAIN_LOSS => [.B]
  | .WELT_OVF => [.B, .C]
  | .LOCKSTEP_A => [.A]
  | .LOCKSTEP_B => [.A]
  | .PAIR_RESTART_LIMIT => [.B]
  | .OVERLOAD_A => [.A]
  | .OVERLOAD_B => [.A]
  | .JNL_LATE => [.N]
  | .JNL_OVERRUN => [.N]
  | .JNL_LOST => [.N]
  | .JNL_NVM_FAIL => [.A]
  | .JNL_EMCY_DROP => [.N]
  | .HRP_AUTH_FAIL => [.A]
  | .NEGOTIATED => [.N]
  | .PLATE_HOT => [.A]
  | .PLATE_LIMIT => [.A]
  | .PLATE_SENSOR => [.A]
  | .SUPPLY_DIP => [.A]
  | .FEED_ABSENT => [.A]
  | .FEED_OVERVOLT => [.A]
  | .VLOG_LOW => [.A]
  | .SUPPLY_LOSS => [.B]
  | .SUPPLY_RESTORED => [.N]
  | .GUARD_VIOL => [.N]
  | .CFG_PARITY => [.C]
  | .BUS_ERR => [.N]
  | .BERTH_SLOT_INVALID => [.B]
  | .BERTH_SLOT_CHANGE => [.B]
  | .BERTH_LINK_LOSS => [.A]
  | .BERTH_NO_KEEP => [.A]
  | .BERTH_EXTRACT => [.N]
  | .BERTH_RAMP_FAIL => [.N]
  | .BERTH_HARD_MATE => [.N]
  | .BERTH_EXTRACT_ABORT => [.N]
  | .BERTH_RAMP_OK => [.N]
  | .FAST_TRIP => [.C]
  | .L1_TRIP => [.A, .C]
  | .L2_CEILING => [.C]
  | .RESTART_BUDGET => [.C]
  | .WIRE_TRIP => [.C]
  | .WIRE_START_DEFAULT => [.N]
  | .FEED_SHED => [.A]
  | .FEED_LATCH => [.C]
  | .FEED_OVER_AUX => [.A]
  | .COMP_SAT => [.A]
  | .PAIR_IMBALANCE => [.A]
  | .SW_REFUSED => [.N]
  | .OPEN_LOAD_OFF => [.A]
  | .OPEN_LOAD_ON => [.A]
  | .SHORT_TO_FEED => [.A]
  | .BOOST_NOT_READY => [.A]
  | .OPEN_COIL => [.N]
  | .COIL_SHORT => [.C]
  | .VALVE_NOT_CLOSED => [.A]
  | .HSB_SHORT => [.C]
  | .BOOST_OVERVOLT => [.C]
  | .BOOST_PWR_LIMIT => [.A]
  | .INJ_EVENT_REJECTED => [.N]
  | .BOOST_START_FAIL => [.A]
  | .EVE_STORE_FULL => [.A]
  | .EVE_LATE_START => [.N]
  | .SPEED_LOSS => [.A]
  | .STREAM_UNDERRUN => [.A]
  | .STREAM_OVERFLOW => [.N]
  | .RECORD_LATE => [.N]
  | .LED_OPEN => [.A]
  | .LED_SHORT => [.C]
  | .LED_FOLDBACK => [.A]
  | .DO_OVERLOAD => [.A, .C]
  | .DO_OPEN_LOAD => [.A]
  | .AUX_OVERLOAD => [.A]
  | .SSUP_OVERLOAD => [.A]
  | .AUX_DOWN => [.A]
  | .BOLL_SILENCE => [.C]
  | .BOLL_HOLD_EXPIRED => [.C]
  | .BOLL_FEED_SEQ => [.N]
  | .BOLL_RECLAIMED => [.N]
  | .BOLL_REFLEX => [.N]
  | .CAL_FACTORY_BAD => [.H]
  | .CAL_SENSE_DRIFT => [.A]
  | .CAL_BOOST_DRIFT => [.A]
  | .CAL_LF_RANGE => [.A]
  | .CAL_DI_THRESH => [.A]
  | .CAL_REF_FAIL => [.A]
  | .CAN_BUS_OFF => [.A, .C]
  | .CAN_BUS_OFF_LIMIT => [.C]
  | .CAN_ERR_PASSIVE => [.A]
  | .ID_COLLISION => [.N]
  | .CAN_RATE_NOT_FOUND => [.A]
  | .CAN_RX_OVF => [.N]
  | .CAN_TT_LOSS => [.A]
  | .ETH_LINK_DOWN => [.A]
  | .ETH_AN_FALLBACK => [.N]
  | .ETH_AN_FAIL => [.A]
  | .ETH_ROLE_CONFLICT => [.C]
  | .ETH_MAC_FULL => [.N]
  | .ETH_QUEUE_DROP => [.N]
  | .TIDE_SRC_LOSS => [.A]
  | .TIDE_STEP => [.N]
  | .TIDE_HOLD_LONG => [.A]
  | .TIDE_GM_CHANGE => [.N]
  | .TIDE_CMP => [.N]
  | .GWY_RING_FULL => [.N]
  | .GWY_RATE_LIMIT => [.N]
  | .GWY_QUARANTINE => [.A, .C]
  | .GWY_QUAR_FULL => [.N]
  | .GWY_HOLD_OVF => [.N]
  | .GWY_BP_TIMEOUT => [.N]
  | .GWY_ACF_FORMAT => [.N]
  | .GWY_STAGE_OVF => [.N]
  | .NM_NODE_STUCK => [.A, .C]
  | .NM_OWN_STUCK => [.A]
  | .NM_SEG_ISOLATED => [.A]
  | .NM_SLEEP_ABORT => [.N]
  | .NM_WAKE_HELD => [.N]
  | .NM_WAKE => [.N]
  | .DICT_STORE_DONE => [.N]
  | .DICT_STORE_FAIL => [.C]
  | .DICT_SET_INVALID => [.C]
  | .DICT_SET_ENTRY => [.C]
  | .DICT_PDO_LENGTH => [.N]
  | .DICT_PDO_REFUSED => [.N]
  | .DICT_RPDO_TIMEOUT => [.A]
  | .DICT_HB_LOSS => [.A]
  | .DICT_AUTH_FAIL => [.A]
  | .DICT_SESSION => [.N]
  | .ACC_AUTH_FAIL => [.N]
  | .ACC_LOCKOUT => [.A, .C]
  | .ACC_DENIED => [.N]
  | .ACC_RELAY => [.N]
  | .ACC_COLLISION => [.A]
  | .ACC_ENROLLED => [.N]
  | .ACC_ENROL_FAIL => [.C]
  | .ACC_ENROL_LIMIT => [.N]
  | .ACC_DENY_FULL => [.C]
  | .ACC_GATE => [.N]
  | .ACC_AERIAL_OPEN => [.A]
  | .CUST_SELFTEST => [.B]
  | .CUST_KEY_BAD => [.C]
  | .CUST_KEY_WRITE => [.N]
  | .LC_CHANGE => [.N]
  | .LC_REFUSED => [.N]
  | .DBG_GRANT => [.N]
  | .DBG_DENIED => [.N]
  | .DBG_AUTH_FAIL => [.A]
  | .UPD_HDR_BAD => [.C]
  | .UPD_BLOCK_BAD => [.C]
  | .UPD_STAGED => [.N]
  | .UPD_ACTIVATE => [.N]
  | .UPD_RESOLE_DONE => [.N]
  | .UPD_RESOLE_RESUME => [.N]
  | .UPD_CONFIRMED => [.N]
  | .UPD_TRIAL_FAIL => [.V]
  | .UPD_IMAGE_BAD => [.V]
  | .UPD_RECOVERY => [.N]

/-- Source block ID: the high byte of the code (R37). -/
def FaultId.src (f : FaultId) : Nat := f.code / 256

end Sys2Proof.Machine
end

