-- ==== Sys2Proof/Machine/RegMap.lean ====
section
/-! DEFINITION. The register map of the ZC-640: one name per register of the cards of spec/ (R42, R44, R62 and the
"registers" section of every chapter), where its cells lie on the bus, its reset value, guard class (R46), parity mark (R66),
clock domain, 64-bit atomic mark (R55) and its fields with their access types (R71). Written from the cards of spec/ alone. -/

namespace Sys2Proof.Machine

/-- The registers of spec/, each under the name of its card. A register that exists once per channel, port, feed or
entry is one name; its copies are told apart by an index (two levels are flattened, see `Reg.place`). -/
inductive Reg where
  | SYS_MODE | SYS_MODE_CMD | SYS_CFG | SYS_RST_CAUSE | SYS_LOAD | SYS_HRP_STAT | SYS_HRP_CTRL
  | SYS_BOLLARD_FEED | CLK_STAT | CLK_WELT | GUARD_VIOL | GUARD_VLAST | GUARD_VINFO | GUARD_BERR_ADDR
  | GUARD_BERR_INFO | GUARD_PAR_ADDR | GUARD_PAR_STAT | GUARD_REENABLE | BERTH_STAT | BERTH_CAP
  | BERTH_RAILCAP | BERTH_LINK | BERTH_CTRL | BERTH_EVT | BERTH_SUP_CTRL | BERTH_SUP_STAT | BERTH_VFEED_AB
  | BERTH_VFEED_CD | BERTH_VKEEP | BERTH_SUP_EVT | BERTH_SUP_MIN | SW_CTRL | SW_LIMIT | SW_PWM | SW_PHASE
  | SW_OUT | SW_STAT | SW_EDUTY | SW_CUR | SW_CURPER | SW_PEAK | SW_TEMP | SW_EVT | SW_GLB_PAIR
  | SW_GLB_GRPLO | SW_GLB_GRPHI | SW_GLB_GRPCMD | SW_GLB_SATLO | SW_GLB_SATHI | SW_GLB_STAT | PROT_CFG
  | PROT_STAT | PROT_WIRE | PROT_THR | PROT_CNT | PROT_EVT | PROT_CLR | PROT_GLB_HOLDLO | PROT_GLB_HOLDHI
  | PROT_GLB_LATLO | PROT_GLB_LATHI | PROT_WC_RES | PROT_WC_CAP | PROT_WC_TH | PROT_FL_CTRL | PROT_FL_STAT
  | PROT_FL_AUX | PROT_FL_EVT | PROT_FL_CLR | CAL_CTRL | CAL_STAT | CAL_BOOST_A | CAL_BOOST_B | CAL_LF0
  | CAL_LF1 | CAL_DI | CAL_EVT | CAL_CH_LIVE | CAL_CH_FACT | CAL_CH_STAT | CAL_CH_DIAG | CAL_CH_DSTAT
  | CAL_CH_DEVT | INJ_GLB_CTRL | INJ_GLB_STAT | INJ_BST_CFG | INJ_BST_STAT | INJ_BST_PWR | INJ_BANK_CFG
  | INJ_BANK_STAT | INJ_CH_CFG | INJ_CH_PROT | INJ_CH_CLWIN | INJ_CH_CMD | INJ_CH_STAT | INJ_CH_RES
  | INJ_CH_CLOSE | INJ_CH_CNT | INJ_CH_EVT | INJ_LAST_HDR | INJ_LAST_PH | EVE_CTRL | EVE_STAT | EVE_CNT0
  | EVE_CNT1 | EVE_CMD_TLO | EVE_CMD_THI | EVE_CMD_SPEC | EVE_CMD_DUR | EVE_CMD | EVE_CMD_RES | EVE_EVT
  | EVE_RES_PTR | EVE_ST_CTRL | EVE_ST_SCALE | EVE_ST_CANID | EVE_ST_CFG2 | EVE_ST_ODO | EVE_ST_SPEED
  | EVE_ST_RECLO | EVE_ST_RECHI | EVE_ST_STAT | EVE_ST_CNT | EVE_NZ_MAP | EVE_NZ_GEO | LEDS_GLB_CFG
  | LEDS_GLB_LEVEL | LEDS_GLB_STAT | LEDS_GLB_PCAP | LEDS_GLB_CTRL | LEDS_GLB_EVT | LEDS_CH_CFG | LEDS_CH_OUT
  | LEDS_CH_FADE | LEDS_CH_STAT | LEDS_CH_EDUTY | LEDS_CH_EVT | LEDS_CH_CMD | DIO_DI_LO | DIO_DI_HI
  | DIO_EDGE_LO | DIO_EDGE_HI | DIO_GRP_CFG | DIO_CNT_CFG | DIO_CNT_VAL | DIO_CNT_FREQ | DIO_CNT_CMD
  | DIO_PPS_CFG | DIO_PPS_TLO | DIO_PPS_THI | DIO_WAKE_CFG | DIO_WAKE_SRC | DIO_DO_OUT | DIO_DO_CFG
  | DIO_DO_STAT | DIO_DO_DIAG | DIO_DO_CLR | DIO_AUX_CTRL | DIO_AUX_STAT | DIO_EVT | BOLL_CTRL | BOLL_CMD
  | BOLL_STAT | BOLL_SIL | BOLL_SILSTAT | BOLL_GOV | BOLL_RFX_ACTLO | BOLL_RFX_ACTHI | BOLL_RFX_LATLO
  | BOLL_RFX_LATHI | BOLL_RFX_CLRLO | BOLL_RFX_CLRHI | BOLL_SAFE | BOLL_RFX_COND | BOLL_RFX_ACT
  | BOLL_RFX_DLY | CAN_CTRL | CAN_NBT | CAN_DBT | CAN_TDC | CAN_STAT | CAN_ERR | CAN_ERRCFG | CAN_TXB_CMD
  | CAN_TXB_STAT | CAN_TXTS_LO | CAN_TXTS_HI | CAN_FLT_STD | CAN_FLT_EXT | CAN_RXF_CFG | CAN_RXF_STAT
  | CAN_RXF_ACK | CAN_HPM | CAN_COLL | CAN_DET_CFG | CAN_TT_CFG | CAN_TT_REF | CAN_TT_STAT | CAN_SW_CFG
  | CAN_SW_ID | CAN_SW_IDM | CAN_SW_DLO | CAN_SW_DHI | CAN_SW_STAT | CAN_EVT | CAN_CMD | CAN_DET_A
  | CAN_DET_B | GWY_CTRL | GWY_STAT | GWY_CNT0 | GWY_CNT1 | GWY_CNT2 | GWY_EVT | GWY_CMD | GWY_SRC_CFG
  | GWY_SEG_CFG | GWY_SEG_STAT | GWY_QUAR0 | GWY_QUAR1 | GWY_RING_CFG | GWY_RING_BASE | GWY_RING_WM
  | GWY_RING_PUT | GWY_RING_GET | GWY_RING_STAT | GWY_ACF_SIDLO | GWY_ACF_SIDHI | GWY_ACF_DMACLO
  | GWY_ACF_DMACHI | GWY_ACF_TXCFG | GWY_ACF_RXLO | GWY_ACF_RXHI | GWY_ACF_RXEN | GWY_BKT_CFG | GWY_BKT_STAT
  | GWY_RTE_CNT | GWY_RTE0 | GWY_RTE1 | GWY_RTE2 | GWY_RTE3 | ETH_PCTRL | ETH_PVLAN | ETH_PSTAT | ETH_PCNT0
  | ETH_PCNT1 | ETH_PEVT | ETH_PCMD | ETH_SW_CTRL | ETH_SW_QMAP | ETH_SW_STAT | ETH_MAC_CMD | ETH_MAC_D0
  | ETH_MAC_D1 | ETH_MAC_D2 | ETH_SW_CMD | ETH_VLAN | TIDE_CTRL | TIDE_SRC | TIDE_SERVO | TIDE_HOLD
  | TIDE_STAT | TIDE_OFS | TIDE_RATE | TIDE_EVT | TIDE_FREE_LO | TIDE_FREE_HI | TIDE_SNAP_LO | TIDE_SNAP_HI
  | TIDE_STEP_LO | TIDE_STEP_HI | TIDE_SET_LO | TIDE_SET_HI | TIDE_CMP_FLAG | TIDE_PTP_CFG | TIDE_PTP_STAT
  | TIDE_GM_LO | TIDE_GM_HI | TIDE_PDELAY | TIDE_CMP_TLO | TIDE_CMP_THI | TIDE_CMP_CTRL | TIDE_CMP_PER
  | NM_CTRL | NM_MODNEED | NM_WAKE_CFG | NM_WAKE_TIMER | NM_WAKE_REASON | NM_WAKE_SRC | NM_STAT | NM_EVT
  | NM_SEG_CFG | NM_SEG_KAID | NM_SEG_TIME | NM_SEG_MAXAW | NM_SEG_WUF | NM_SEG_WUFD0 | NM_SEG_WUFD1
  | NM_SEG_NEED | NM_SEG_STAT | NM_SEG_STUCK0 | NM_SEG_STUCK1 | NM_SEG_SEEN0 | NM_SEG_SEEN1 | NM_SEG_CMD
  | ACC_CTRL | ACC_AER | ACC_SEC | ACC_STAT | ACC_RSSI0 | ACC_RSSI1 | ACC_EVT | ACC_CMD | ACC_ZONE_CFG
  | ACC_ZONE_MIN | ACC_ZONE_EXT | ACC_ZONE_MAX | ACC_GATE_CFG | ACC_GATE_SEL | ACC_GATE_HOLD | ACC_GATE_MSG
  | ACC_MSGCFG | ACC_GOUT | ACC_SLOT_STAT | ACC_SLOT_ID | ACC_SLOT_AGE | ACC_DENY | UPD_CTRL | UPD_STAT
  | UPD_INFO | UPD_SVER | UPD_RVER | UPD_CMD | UPD_EVT | UPD_BITMAP | CUST_LC | CUST_MBX0_CMD
  | CUST_MBX0_STAT | CUST_MBX0_DATA | CUST_MBX1_CMD | CUST_MBX1_STAT | CUST_MBX1_DATA | JNL_CTRL | JNL_STAT
  | JNL_SEQ_NEW | JNL_SEQ_OLD | JNL_SEQ_PERS | JNL_ERR | JNL_CNT | JNL_CMD | JNL_RD_SEQ | JNL_RD_STAT
  | JNL_WIN
deriving DecidableEq, Repr

/-- Guard classes of R46. -/
inductive Guard where | U | P | S
deriving DecidableEq, Repr

/-- Clock domains in which registers live (R42, R57). -/
inductive Domain where | PER | FAB | CANC | ETHC | TIDE | PWR | AON
deriving DecidableEq, Repr

/-- Field access types of R71. `RWL` and `W1S` are defined there; no card of spec/ uses them. -/
inductive FTy where | RW | RO | W1C | W1S | WO | CMD
deriving DecidableEq, Repr

/-- One field of a register: its register, least significant bit, width and access type. -/
structure Fld where
  reg : Reg
  lsb : Nat
  w   : Nat
  ty  : FTy
deriving DecidableEq, Repr

/-- Where the cells of a register lie: `base + i * s1 + j * s2` for i < n1 and j < n2. The cell index is i * n2 + j. -/
structure Place where
  base : Nat
  n1 : Nat
  s1 : Nat
  n2 : Nat
  s2 : Nat
deriving DecidableEq, Repr

/-- What a card says before its field table. -/
structure Card where
  place  : Place
  reset  : Nat
  guard  : Guard
  cfg    : Bool
  dom    : Domain
  atomic : Bool
deriving DecidableEq, Repr

namespace F
abbrev SYS_MODE_MODE : Fld := ⟨.SYS_MODE, 0, 3, .RO⟩
abbrev SYS_MODE_PREV : Fld := ⟨.SYS_MODE, 4, 3, .RO⟩
abbrev SYS_MODE_TRANS : Fld := ⟨.SYS_MODE, 7, 1, .RO⟩
abbrev SYS_MODE_REFUSE : Fld := ⟨.SYS_MODE, 8, 4, .RO⟩
abbrev SYS_MODE_FRESH : Fld := ⟨.SYS_MODE, 12, 1, .RO⟩
abbrev SYS_MODE_CMD_TARGET : Fld := ⟨.SYS_MODE_CMD, 0, 3, .WO⟩
abbrev SYS_MODE_CMD_KEY : Fld := ⟨.SYS_MODE_CMD, 8, 8, .WO⟩
abbrev SYS_MODE_CMD_GO : Fld := ⟨.SYS_MODE_CMD, 16, 1, .CMD⟩
abbrev SYS_CFG_AUTOSTART : Fld := ⟨.SYS_CFG, 0, 1, .RW⟩
abbrev SYS_CFG_LIMP_RETRY : Fld := ⟨.SYS_CFG, 8, 8, .RW⟩
abbrev SYS_RST_CAUSE_POR : Fld := ⟨.SYS_RST_CAUSE, 0, 1, .W1C⟩
abbrev SYS_RST_CAUSE_HOLDUP : Fld := ⟨.SYS_RST_CAUSE, 1, 1, .W1C⟩
abbrev SYS_RST_CAUSE_WAKE : Fld := ⟨.SYS_RST_CAUSE, 2, 1, .W1C⟩
abbrev SYS_RST_CAUSE_CMD : Fld := ⟨.SYS_RST_CAUSE, 3, 1, .W1C⟩
abbrev SYS_RST_CAUSE_LIMP : Fld := ⟨.SYS_RST_CAUSE, 4, 1, .W1C⟩
abbrev SYS_RST_CAUSE_EXTRACT : Fld := ⟨.SYS_RST_CAUSE, 5, 1, .W1C⟩
abbrev SYS_RST_CAUSE_RESOLE : Fld := ⟨.SYS_RST_CAUSE, 6, 1, .W1C⟩
abbrev SYS_RST_CAUSE_LIMP_COUNT : Fld := ⟨.SYS_RST_CAUSE, 8, 2, .RO⟩
abbrev SYS_LOAD_LOAD_A : Fld := ⟨.SYS_LOAD, 0, 8, .RO⟩
abbrev SYS_LOAD_LOAD_B : Fld := ⟨.SYS_LOAD, 8, 8, .RO⟩
abbrev SYS_LOAD_OVL_A : Fld := ⟨.SYS_LOAD, 16, 1, .RO⟩
abbrev SYS_LOAD_OVL_B : Fld := ⟨.SYS_LOAD, 17, 1, .RO⟩
abbrev SYS_LOAD_C5_DEFER : Fld := ⟨.SYS_LOAD, 18, 1, .RO⟩
abbrev SYS_LOAD_C6_DEFER : Fld := ⟨.SYS_LOAD, 19, 1, .RO⟩
abbrev SYS_HRP_STAT_SESSION : Fld := ⟨.SYS_HRP_STAT, 0, 1, .RO⟩
abbrev SYS_HRP_STAT_LOCKOUT : Fld := ⟨.SYS_HRP_STAT, 1, 1, .RO⟩
abbrev SYS_HRP_STAT_FAILS : Fld := ⟨.SYS_HRP_STAT, 2, 2, .RO⟩
abbrev SYS_HRP_STAT_CRC_ERR : Fld := ⟨.SYS_HRP_STAT, 16, 16, .RO⟩
abbrev SYS_HRP_CTRL_EN : Fld := ⟨.SYS_HRP_CTRL, 0, 1, .RW⟩
abbrev SYS_HRP_CTRL_TIMEOUT : Fld := ⟨.SYS_HRP_CTRL, 8, 10, .RW⟩
abbrev SYS_BOLLARD_FEED_VALUE : Fld := ⟨.SYS_BOLLARD_FEED, 0, 8, .WO⟩
abbrev SYS_BOLLARD_FEED_TIMER : Fld := ⟨.SYS_BOLLARD_FEED, 8, 2, .WO⟩
abbrev SYS_BOLLARD_FEED_FEED : Fld := ⟨.SYS_BOLLARD_FEED, 31, 1, .CMD⟩
abbrev CLK_STAT_LOCK : Fld := ⟨.CLK_STAT, 0, 8, .RO⟩
abbrev CLK_STAT_PWR_ON_PLL : Fld := ⟨.CLK_STAT, 8, 1, .RO⟩
abbrev CLK_STAT_ETH_LOCK : Fld := ⟨.CLK_STAT, 9, 4, .RO⟩
abbrev CLK_WELT_LAST_OVF : Fld := ⟨.CLK_WELT, 0, 5, .RO⟩
abbrev CLK_WELT_OVF_COUNT : Fld := ⟨.CLK_WELT, 8, 8, .RO⟩
abbrev CLK_WELT_OVF : Fld := ⟨.CLK_WELT, 16, 1, .W1C⟩
abbrev GUARD_VIOL_COUNT : Fld := ⟨.GUARD_VIOL, 0, 16, .RO⟩
abbrev GUARD_VIOL_VIOL : Fld := ⟨.GUARD_VIOL, 16, 1, .W1C⟩
abbrev GUARD_VIOL_CLR : Fld := ⟨.GUARD_VIOL, 31, 1, .CMD⟩
abbrev GUARD_VLAST_ADDR : Fld := ⟨.GUARD_VLAST, 0, 32, .RO⟩
abbrev GUARD_VINFO_MASTER : Fld := ⟨.GUARD_VINFO, 0, 3, .RO⟩
abbrev GUARD_VINFO_WRITE : Fld := ⟨.GUARD_VINFO, 3, 1, .RO⟩
abbrev GUARD_VINFO_CLASS : Fld := ⟨.GUARD_VINFO, 4, 2, .RO⟩
abbrev GUARD_BERR_ADDR_ADDR : Fld := ⟨.GUARD_BERR_ADDR, 0, 32, .RO⟩
abbrev GUARD_BERR_INFO_MASTER : Fld := ⟨.GUARD_BERR_INFO, 0, 3, .RO⟩
abbrev GUARD_BERR_INFO_WRITE : Fld := ⟨.GUARD_BERR_INFO, 3, 1, .RO⟩
abbrev GUARD_BERR_INFO_CAUSE : Fld := ⟨.GUARD_BERR_INFO, 4, 3, .RO⟩
abbrev GUARD_BERR_INFO_APPLIED : Fld := ⟨.GUARD_BERR_INFO, 7, 1, .RO⟩
abbrev GUARD_BERR_INFO_COUNT : Fld := ⟨.GUARD_BERR_INFO, 8, 16, .RO⟩
abbrev GUARD_BERR_INFO_CLR : Fld := ⟨.GUARD_BERR_INFO, 31, 1, .CMD⟩
abbrev GUARD_PAR_ADDR_ADDR : Fld := ⟨.GUARD_PAR_ADDR, 0, 32, .RO⟩
abbrev GUARD_PAR_STAT_COUNT : Fld := ⟨.GUARD_PAR_STAT, 0, 16, .RO⟩
abbrev GUARD_PAR_STAT_PAR : Fld := ⟨.GUARD_PAR_STAT, 16, 1, .W1C⟩
abbrev GUARD_PAR_STAT_PENDING : Fld := ⟨.GUARD_PAR_STAT, 24, 8, .RO⟩
abbrev GUARD_REENABLE_BLOCK : Fld := ⟨.GUARD_REENABLE, 0, 8, .WO⟩
abbrev GUARD_REENABLE_REFUSED : Fld := ⟨.GUARD_REENABLE, 16, 1, .W1C⟩
abbrev GUARD_REENABLE_GO : Fld := ⟨.GUARD_REENABLE, 31, 1, .CMD⟩
abbrev BERTH_STAT_SLOT_RAW : Fld := ⟨.BERTH_STAT, 0, 6, .RO⟩
abbrev BERTH_STAT_SLOT_VALID : Fld := ⟨.BERTH_STAT, 6, 1, .RO⟩
abbrev BERTH_STAT_EXTRACT : Fld := ⟨.BERTH_STAT, 7, 1, .RO⟩
abbrev BERTH_STAT_POS : Fld := ⟨.BERTH_STAT, 8, 3, .RO⟩
abbrev BERTH_STAT_CAP_CLASS : Fld := ⟨.BERTH_STAT, 11, 2, .RO⟩
abbrev BERTH_STAT_MATED : Fld := ⟨.BERTH_STAT, 16, 4, .RO⟩
abbrev BERTH_STAT_STATE : Fld := ⟨.BERTH_STAT, 20, 3, .RO⟩
abbrev BERTH_STAT_LINK_UP : Fld := ⟨.BERTH_STAT, 23, 1, .RO⟩
abbrev BERTH_STAT_KEEP_OK : Fld := ⟨.BERTH_STAT, 24, 1, .RO⟩
abbrev BERTH_CAP_CAP_A : Fld := ⟨.BERTH_CAP, 0, 8, .RO⟩
abbrev BERTH_CAP_CAP_B : Fld := ⟨.BERTH_CAP, 8, 8, .RO⟩
abbrev BERTH_CAP_CAP_C : Fld := ⟨.BERTH_CAP, 16, 8, .RO⟩
abbrev BERTH_CAP_CAP_D : Fld := ⟨.BERTH_CAP, 24, 8, .RO⟩
abbrev BERTH_RAILCAP_ADV : Fld := ⟨.BERTH_RAILCAP, 0, 32, .RO⟩
abbrev BERTH_LINK_VERSION : Fld := ⟨.BERTH_LINK, 0, 4, .RO⟩
abbrev BERTH_LINK_RAIL_ID : Fld := ⟨.BERTH_LINK, 8, 16, .RO⟩
abbrev BERTH_LINK_ERR : Fld := ⟨.BERTH_LINK, 24, 8, .RO⟩
abbrev BERTH_CTRL_RAMP_TIME : Fld := ⟨.BERTH_CTRL, 0, 8, .RW⟩
abbrev BERTH_CTRL_LINK_EN : Fld := ⟨.BERTH_CTRL, 8, 1, .RW⟩
abbrev BERTH_CTRL_OEM_CAP : Fld := ⟨.BERTH_CTRL, 16, 8, .RW⟩
abbrev BERTH_EVT_MATE : Fld := ⟨.BERTH_EVT, 0, 1, .W1C⟩
abbrev BERTH_EVT_EXTRACT : Fld := ⟨.BERTH_EVT, 1, 1, .W1C⟩
abbrev BERTH_EVT_RAMP_OK : Fld := ⟨.BERTH_EVT, 2, 1, .W1C⟩
abbrev BERTH_EVT_RAMP_FAIL : Fld := ⟨.BERTH_EVT, 3, 1, .W1C⟩
abbrev BERTH_EVT_SLOT_CHANGE : Fld := ⟨.BERTH_EVT, 4, 1, .W1C⟩
abbrev BERTH_EVT_LINK_LOSS : Fld := ⟨.BERTH_EVT, 5, 1, .W1C⟩
abbrev BERTH_EVT_CAP_CHANGE : Fld := ⟨.BERTH_EVT, 6, 1, .W1C⟩
abbrev BERTH_SUP_CTRL_VWARN : Fld := ⟨.BERTH_SUP_CTRL, 0, 10, .RW⟩
abbrev BERTH_SUP_CTRL_SHED_MASK : Fld := ⟨.BERTH_SUP_CTRL, 16, 4, .RW⟩
abbrev BERTH_SUP_CTRL_STAGGER : Fld := ⟨.BERTH_SUP_CTRL, 24, 4, .RW⟩
abbrev BERTH_SUP_STAT_PRESENT : Fld := ⟨.BERTH_SUP_STAT, 0, 4, .RO⟩
abbrev BERTH_SUP_STAT_LOW : Fld := ⟨.BERTH_SUP_STAT, 4, 4, .RO⟩
abbrev BERTH_SUP_STAT_OVER : Fld := ⟨.BERTH_SUP_STAT, 8, 4, .RO⟩
abbrev BERTH_SUP_STAT_RESTORING : Fld := ⟨.BERTH_SUP_STAT, 12, 4, .RO⟩
abbrev BERTH_SUP_STAT_VLOG_LOW : Fld := ⟨.BERTH_SUP_STAT, 16, 1, .RO⟩
abbrev BERTH_SUP_STAT_STORE_DEFER : Fld := ⟨.BERTH_SUP_STAT, 17, 1, .RO⟩
abbrev BERTH_SUP_STAT_STORE_PENDING : Fld := ⟨.BERTH_SUP_STAT, 18, 1, .RO⟩
abbrev BERTH_SUP_STAT_HOLDUP : Fld := ⟨.BERTH_SUP_STAT, 19, 1, .RO⟩
abbrev BERTH_VFEED_AB_LO : Fld := ⟨.BERTH_VFEED_AB, 0, 16, .RO⟩
abbrev BERTH_VFEED_AB_HI : Fld := ⟨.BERTH_VFEED_AB, 16, 16, .RO⟩
abbrev BERTH_VFEED_CD_LO : Fld := ⟨.BERTH_VFEED_CD, 0, 16, .RO⟩
abbrev BERTH_VFEED_CD_HI : Fld := ⟨.BERTH_VFEED_CD, 16, 16, .RO⟩
abbrev BERTH_VKEEP_KEEP : Fld := ⟨.BERTH_VKEEP, 0, 16, .RO⟩
abbrev BERTH_VKEEP_VSRC : Fld := ⟨.BERTH_VKEEP, 16, 16, .RO⟩
abbrev BERTH_SUP_EVT_DIP : Fld := ⟨.BERTH_SUP_EVT, 0, 4, .W1C⟩
abbrev BERTH_SUP_EVT_ABSENT : Fld := ⟨.BERTH_SUP_EVT, 4, 4, .W1C⟩
abbrev BERTH_SUP_EVT_OVER : Fld := ⟨.BERTH_SUP_EVT, 8, 4, .W1C⟩
abbrev BERTH_SUP_EVT_VLOG_LOW : Fld := ⟨.BERTH_SUP_EVT, 12, 1, .W1C⟩
abbrev BERTH_SUP_EVT_RESTORED : Fld := ⟨.BERTH_SUP_EVT, 13, 1, .W1C⟩
abbrev BERTH_SUP_MIN_VMIN : Fld := ⟨.BERTH_SUP_MIN, 0, 16, .RO⟩
abbrev BERTH_SUP_MIN_FEED : Fld := ⟨.BERTH_SUP_MIN, 16, 2, .RO⟩
abbrev BERTH_SUP_MIN_CLR : Fld := ⟨.BERTH_SUP_MIN, 31, 1, .CMD⟩
abbrev SW_CTRL_SLEW : Fld := ⟨.SW_CTRL, 0, 2, .RW⟩
abbrev SW_CTRL_COMP_K : Fld := ⟨.SW_CTRL, 2, 1, .RW⟩
abbrev SW_CTRL_VREF : Fld := ⟨.SW_CTRL, 8, 10, .RW⟩
abbrev SW_LIMIT_LIMIT : Fld := ⟨.SW_LIMIT, 0, 7, .RW⟩
abbrev SW_LIMIT_INRUSH_LIMIT : Fld := ⟨.SW_LIMIT, 8, 7, .RW⟩
abbrev SW_LIMIT_INRUSH_TIME : Fld := ⟨.SW_LIMIT, 16, 9, .RW⟩
abbrev SW_PWM_PERIOD : Fld := ⟨.SW_PWM, 0, 21, .RW⟩
abbrev SW_PHASE_PHASE : Fld := ⟨.SW_PHASE, 0, 16, .RW⟩
abbrev SW_OUT_DUTY : Fld := ⟨.SW_OUT, 0, 12, .RW⟩
abbrev SW_OUT_MODE : Fld := ⟨.SW_OUT, 12, 2, .RW⟩
abbrev SW_STAT_STATE : Fld := ⟨.SW_STAT, 0, 2, .RO⟩
abbrev SW_STAT_INRUSH : Fld := ⟨.SW_STAT, 2, 1, .RO⟩
abbrev SW_STAT_LIMITING : Fld := ⟨.SW_STAT, 3, 1, .RO⟩
abbrev SW_STAT_COMP_SAT : Fld := ⟨.SW_STAT, 4, 1, .RO⟩
abbrev SW_STAT_PAIRED : Fld := ⟨.SW_STAT, 5, 1, .RO⟩
abbrev SW_STAT_PAIR_IMB : Fld := ⟨.SW_STAT, 6, 1, .RO⟩
abbrev SW_STAT_SHED : Fld := ⟨.SW_STAT, 7, 1, .RO⟩
abbrev SW_STAT_PROT_OFF : Fld := ⟨.SW_STAT, 8, 1, .RO⟩
abbrev SW_STAT_EXTRACT : Fld := ⟨.SW_STAT, 9, 1, .RO⟩
abbrev SW_STAT_DUTY_CLAMP : Fld := ⟨.SW_STAT, 10, 1, .RO⟩
abbrev SW_STAT_REFUSED : Fld := ⟨.SW_STAT, 11, 1, .RO⟩
abbrev SW_EDUTY_EDUTY : Fld := ⟨.SW_EDUTY, 0, 12, .RO⟩
abbrev SW_CUR_INST : Fld := ⟨.SW_CUR, 0, 16, .RO⟩
abbrev SW_CUR_AVG1 : Fld := ⟨.SW_CUR, 16, 16, .RO⟩
abbrev SW_CURPER_PAVG : Fld := ⟨.SW_CURPER, 0, 16, .RO⟩
abbrev SW_CURPER_ONAVG : Fld := ⟨.SW_CURPER, 16, 16, .RO⟩
abbrev SW_PEAK_PEAK : Fld := ⟨.SW_PEAK, 0, 16, .RO⟩
abbrev SW_PEAK_CLR : Fld := ⟨.SW_PEAK, 31, 1, .CMD⟩
abbrev SW_TEMP_TJ : Fld := ⟨.SW_TEMP, 0, 8, .RO⟩
abbrev SW_EVT_COMP_SAT : Fld := ⟨.SW_EVT, 0, 1, .W1C⟩
abbrev SW_EVT_PAIR_IMB : Fld := ⟨.SW_EVT, 1, 1, .W1C⟩
abbrev SW_EVT_DUTY_CLAMP : Fld := ⟨.SW_EVT, 2, 1, .W1C⟩
abbrev SW_EVT_REFUSED : Fld := ⟨.SW_EVT, 3, 1, .W1C⟩
abbrev SW_GLB_PAIR_PAIR : Fld := ⟨.SW_GLB_PAIR, 0, 32, .RW⟩
abbrev SW_GLB_GRPLO_SEL : Fld := ⟨.SW_GLB_GRPLO, 0, 32, .RW⟩
abbrev SW_GLB_GRPHI_SEL : Fld := ⟨.SW_GLB_GRPHI, 0, 32, .RW⟩
abbrev SW_GLB_GRPCMD_DUTY : Fld := ⟨.SW_GLB_GRPCMD, 0, 12, .WO⟩
abbrev SW_GLB_GRPCMD_MODE : Fld := ⟨.SW_GLB_GRPCMD, 12, 2, .WO⟩
abbrev SW_GLB_GRPCMD_GO : Fld := ⟨.SW_GLB_GRPCMD, 16, 1, .CMD⟩
abbrev SW_GLB_SATLO_SAT : Fld := ⟨.SW_GLB_SATLO, 0, 32, .RO⟩
abbrev SW_GLB_SATHI_SAT : Fld := ⟨.SW_GLB_SATHI, 0, 32, .RO⟩
abbrev SW_GLB_STAT_REFUSED : Fld := ⟨.SW_GLB_STAT, 0, 1, .W1C⟩
abbrev PROT_CFG_WCLASS : Fld := ⟨.PROT_CFG, 0, 4, .RW⟩
abbrev PROT_CFG_PRIO : Fld := ⟨.PROT_CFG, 4, 2, .RW⟩
abbrev PROT_CFG_L1_LATCH : Fld := ⟨.PROT_CFG, 8, 1, .RW⟩
abbrev PROT_CFG_AMB_OFS : Fld := ⟨.PROT_CFG, 16, 8, .RW⟩
abbrev PROT_CFG_CEIL : Fld := ⟨.PROT_CFG, 24, 8, .RW⟩
abbrev PROT_STAT_HOLD : Fld := ⟨.PROT_STAT, 0, 4, .RO⟩
abbrev PROT_STAT_FT : Fld := ⟨.PROT_STAT, 4, 1, .RO⟩
abbrev PROT_STAT_L1 : Fld := ⟨.PROT_STAT, 5, 1, .RO⟩
abbrev PROT_STAT_L1_LATCH : Fld := ⟨.PROT_STAT, 6, 1, .RO⟩
abbrev PROT_STAT_CEIL : Fld := ⟨.PROT_STAT, 7, 1, .RO⟩
abbrev PROT_STAT_BUDGET : Fld := ⟨.PROT_STAT, 8, 1, .RO⟩
abbrev PROT_STAT_WIRE : Fld := ⟨.PROT_STAT, 9, 1, .RO⟩
abbrev PROT_STAT_WIRE_OK : Fld := ⟨.PROT_STAT, 10, 1, .RO⟩
abbrev PROT_STAT_FL_SHED : Fld := ⟨.PROT_STAT, 11, 1, .RO⟩
abbrev PROT_STAT_FL_LATCH : Fld := ⟨.PROT_STAT, 12, 1, .RO⟩
abbrev PROT_STAT_FREEZE : Fld := ⟨.PROT_STAT, 13, 1, .RO⟩
abbrev PROT_STAT_RESTARTS : Fld := ⟨.PROT_STAT, 16, 4, .RO⟩
abbrev PROT_WIRE_TC : Fld := ⟨.PROT_WIRE, 0, 16, .RO⟩
abbrev PROT_WIRE_TS : Fld := ⟨.PROT_WIRE, 16, 16, .RO⟩
abbrev PROT_THR_THR : Fld := ⟨.PROT_THR, 0, 16, .RO⟩
abbrev PROT_THR_TA : Fld := ⟨.PROT_THR, 16, 16, .RO⟩
abbrev PROT_CNT_FT : Fld := ⟨.PROT_CNT, 0, 8, .RO⟩
abbrev PROT_CNT_L1 : Fld := ⟨.PROT_CNT, 8, 8, .RO⟩
abbrev PROT_CNT_WIRE : Fld := ⟨.PROT_CNT, 16, 8, .RO⟩
abbrev PROT_CNT_SHED : Fld := ⟨.PROT_CNT, 24, 8, .RO⟩
abbrev PROT_EVT_FT : Fld := ⟨.PROT_EVT, 0, 1, .W1C⟩
abbrev PROT_EVT_L1 : Fld := ⟨.PROT_EVT, 1, 1, .W1C⟩
abbrev PROT_EVT_CEIL : Fld := ⟨.PROT_EVT, 2, 1, .W1C⟩
abbrev PROT_EVT_BUDGET : Fld := ⟨.PROT_EVT, 3, 1, .W1C⟩
abbrev PROT_EVT_WIRE : Fld := ⟨.PROT_EVT, 4, 1, .W1C⟩
abbrev PROT_EVT_FL_SHED : Fld := ⟨.PROT_EVT, 5, 1, .W1C⟩
abbrev PROT_EVT_FL_LATCH : Fld := ⟨.PROT_EVT, 6, 1, .W1C⟩
abbrev PROT_EVT_FREEZE : Fld := ⟨.PROT_EVT, 7, 1, .W1C⟩
abbrev PROT_EVT_CLR_REFUSED : Fld := ⟨.PROT_EVT, 8, 1, .W1C⟩
abbrev PROT_EVT_CLR_DONE : Fld := ⟨.PROT_EVT, 9, 1, .W1C⟩
abbrev PROT_CLR_CLR : Fld := ⟨.PROT_CLR, 0, 1, .CMD⟩
abbrev PROT_GLB_HOLDLO_HOLD : Fld := ⟨.PROT_GLB_HOLDLO, 0, 32, .RO⟩
abbrev PROT_GLB_HOLDHI_HOLD : Fld := ⟨.PROT_GLB_HOLDHI, 0, 32, .RO⟩
abbrev PROT_GLB_LATLO_LATCH : Fld := ⟨.PROT_GLB_LATLO, 0, 32, .RO⟩
abbrev PROT_GLB_LATHI_LATCH : Fld := ⟨.PROT_GLB_LATHI, 0, 32, .RO⟩
abbrev PROT_WC_RES_RES : Fld := ⟨.PROT_WC_RES, 0, 16, .RW⟩
abbrev PROT_WC_RES_TLIM : Fld := ⟨.PROT_WC_RES, 16, 8, .RW⟩
abbrev PROT_WC_RES_RST : Fld := ⟨.PROT_WC_RES, 24, 7, .RW⟩
abbrev PROT_WC_CAP_CC : Fld := ⟨.PROT_WC_CAP, 0, 16, .RW⟩
abbrev PROT_WC_CAP_CS : Fld := ⟨.PROT_WC_CAP, 16, 16, .RW⟩
abbrev PROT_WC_TH_RCS : Fld := ⟨.PROT_WC_TH, 0, 16, .RW⟩
abbrev PROT_WC_TH_RSA : Fld := ⟨.PROT_WC_TH, 16, 16, .RW⟩
abbrev PROT_FL_CTRL_REL_PCT : Fld := ⟨.PROT_FL_CTRL, 0, 8, .RW⟩
abbrev PROT_FL_CTRL_REL_TIME : Fld := ⟨.PROT_FL_CTRL, 8, 8, .RW⟩
abbrev PROT_FL_CTRL_REPEAT : Fld := ⟨.PROT_FL_CTRL, 16, 8, .RW⟩
abbrev PROT_FL_STAT_AVG : Fld := ⟨.PROT_FL_STAT, 0, 16, .RO⟩
abbrev PROT_FL_STAT_SHED : Fld := ⟨.PROT_FL_STAT, 16, 4, .RO⟩
abbrev PROT_FL_STAT_LATCH : Fld := ⟨.PROT_FL_STAT, 20, 4, .RO⟩
abbrev PROT_FL_STAT_STATE : Fld := ⟨.PROT_FL_STAT, 24, 2, .RO⟩
abbrev PROT_FL_AUX_AUX : Fld := ⟨.PROT_FL_AUX, 0, 16, .RO⟩
abbrev PROT_FL_EVT_SHED : Fld := ⟨.PROT_FL_EVT, 0, 1, .W1C⟩
abbrev PROT_FL_EVT_LATCH : Fld := ⟨.PROT_FL_EVT, 1, 1, .W1C⟩
abbrev PROT_FL_EVT_RESTORE : Fld := ⟨.PROT_FL_EVT, 2, 1, .W1C⟩
abbrev PROT_FL_EVT_OVER_AUX : Fld := ⟨.PROT_FL_EVT, 3, 1, .W1C⟩
abbrev PROT_FL_CLR_CLR : Fld := ⟨.PROT_FL_CLR, 0, 1, .CMD⟩
abbrev CAL_CTRL_SENSE_EN : Fld := ⟨.CAL_CTRL, 0, 1, .RW⟩
abbrev CAL_CTRL_BOOST_EN : Fld := ⟨.CAL_CTRL, 1, 1, .RW⟩
abbrev CAL_CTRL_LF_EN : Fld := ⟨.CAL_CTRL, 2, 1, .RW⟩
abbrev CAL_CTRL_DI_EN : Fld := ⟨.CAL_CTRL, 3, 1, .RW⟩
abbrev CAL_CTRL_PERIOD : Fld := ⟨.CAL_CTRL, 8, 4, .RW⟩
abbrev CAL_CTRL_REVERT : Fld := ⟨.CAL_CTRL, 16, 1, .CMD⟩
abbrev CAL_CTRL_REENABLE : Fld := ⟨.CAL_CTRL, 17, 1, .CMD⟩
abbrev CAL_STAT_FACT_OK : Fld := ⟨.CAL_STAT, 0, 1, .RO⟩
abbrev CAL_STAT_REF_OK : Fld := ⟨.CAL_STAT, 1, 1, .RO⟩
abbrev CAL_STAT_SAFE : Fld := ⟨.CAL_STAT, 2, 1, .RO⟩
abbrev CAL_STAT_SUSPENDED : Fld := ⟨.CAL_STAT, 3, 1, .RO⟩
abbrev CAL_STAT_LIVE_CNT : Fld := ⟨.CAL_STAT, 8, 8, .RO⟩
abbrev CAL_STAT_REJECTS : Fld := ⟨.CAL_STAT, 16, 16, .RO⟩
abbrev CAL_BOOST_A_GAIN : Fld := ⟨.CAL_BOOST_A, 0, 16, .RO⟩
abbrev CAL_BOOST_A_OFFSET : Fld := ⟨.CAL_BOOST_A, 16, 16, .RO⟩
abbrev CAL_BOOST_B_GAIN : Fld := ⟨.CAL_BOOST_B, 0, 16, .RO⟩
abbrev CAL_BOOST_B_OFFSET : Fld := ⟨.CAL_BOOST_B, 16, 16, .RO⟩
abbrev CAL_LF0_TRIM0 : Fld := ⟨.CAL_LF0, 0, 6, .RO⟩
abbrev CAL_LF0_END0 : Fld := ⟨.CAL_LF0, 6, 1, .RO⟩
abbrev CAL_LF0_VALID0 : Fld := ⟨.CAL_LF0, 7, 1, .RO⟩
abbrev CAL_LF0_TRIM1 : Fld := ⟨.CAL_LF0, 8, 6, .RO⟩
abbrev CAL_LF0_END1 : Fld := ⟨.CAL_LF0, 14, 1, .RO⟩
abbrev CAL_LF0_VALID1 : Fld := ⟨.CAL_LF0, 15, 1, .RO⟩
abbrev CAL_LF0_TRIM2 : Fld := ⟨.CAL_LF0, 16, 6, .RO⟩
abbrev CAL_LF0_END2 : Fld := ⟨.CAL_LF0, 22, 1, .RO⟩
abbrev CAL_LF0_VALID2 : Fld := ⟨.CAL_LF0, 23, 1, .RO⟩
abbrev CAL_LF0_TRIM3 : Fld := ⟨.CAL_LF0, 24, 6, .RO⟩
abbrev CAL_LF0_END3 : Fld := ⟨.CAL_LF0, 30, 1, .RO⟩
abbrev CAL_LF0_VALID3 : Fld := ⟨.CAL_LF0, 31, 1, .RO⟩
abbrev CAL_LF1_TRIM0 : Fld := ⟨.CAL_LF1, 0, 6, .RO⟩
abbrev CAL_LF1_END0 : Fld := ⟨.CAL_LF1, 6, 1, .RO⟩
abbrev CAL_LF1_VALID0 : Fld := ⟨.CAL_LF1, 7, 1, .RO⟩
abbrev CAL_LF1_TRIM1 : Fld := ⟨.CAL_LF1, 8, 6, .RO⟩
abbrev CAL_LF1_END1 : Fld := ⟨.CAL_LF1, 14, 1, .RO⟩
abbrev CAL_LF1_VALID1 : Fld := ⟨.CAL_LF1, 15, 1, .RO⟩
abbrev CAL_DI_FAIL : Fld := ⟨.CAL_DI, 0, 6, .RO⟩
abbrev CAL_EVT_SENSE_DRIFT : Fld := ⟨.CAL_EVT, 0, 1, .W1C⟩
abbrev CAL_EVT_BOOST_DRIFT : Fld := ⟨.CAL_EVT, 1, 1, .W1C⟩
abbrev CAL_EVT_LF_RANGE : Fld := ⟨.CAL_EVT, 2, 1, .W1C⟩
abbrev CAL_EVT_DI_THRESH : Fld := ⟨.CAL_EVT, 3, 1, .W1C⟩
abbrev CAL_EVT_REF_FAIL : Fld := ⟨.CAL_EVT, 4, 1, .W1C⟩
abbrev CAL_EVT_FACT_BAD : Fld := ⟨.CAL_EVT, 5, 1, .W1C⟩
abbrev CAL_CH_LIVE_GAIN : Fld := ⟨.CAL_CH_LIVE, 0, 16, .RO⟩
abbrev CAL_CH_LIVE_OFFSET : Fld := ⟨.CAL_CH_LIVE, 16, 16, .RO⟩
abbrev CAL_CH_FACT_GAIN : Fld := ⟨.CAL_CH_FACT, 0, 16, .RO⟩
abbrev CAL_CH_FACT_OFFSET : Fld := ⟨.CAL_CH_FACT, 16, 16, .RO⟩
abbrev CAL_CH_STAT_SRC : Fld := ⟨.CAL_CH_STAT, 0, 2, .RO⟩
abbrev CAL_CH_STAT_STALE : Fld := ⟨.CAL_CH_STAT, 2, 1, .RO⟩
abbrev CAL_CH_STAT_AGE : Fld := ⟨.CAL_CH_STAT, 8, 8, .RO⟩
abbrev CAL_CH_STAT_REJ : Fld := ⟨.CAL_CH_STAT, 16, 8, .RO⟩
abbrev CAL_CH_DIAG_OL_THR : Fld := ⟨.CAL_CH_DIAG, 0, 8, .RW⟩
abbrev CAL_CH_DIAG_OFF_EN : Fld := ⟨.CAL_CH_DIAG, 8, 1, .RW⟩
abbrev CAL_CH_DIAG_ON_EN : Fld := ⟨.CAL_CH_DIAG, 9, 1, .RW⟩
abbrev CAL_CH_DIAG_STF_EN : Fld := ⟨.CAL_CH_DIAG, 10, 1, .RW⟩
abbrev CAL_CH_DSTAT_OL_OFF : Fld := ⟨.CAL_CH_DSTAT, 0, 1, .RO⟩
abbrev CAL_CH_DSTAT_OL_ON : Fld := ⟨.CAL_CH_DSTAT, 1, 1, .RO⟩
abbrev CAL_CH_DSTAT_STF : Fld := ⟨.CAL_CH_DSTAT, 2, 1, .RO⟩
abbrev CAL_CH_DSTAT_PULLUP : Fld := ⟨.CAL_CH_DSTAT, 3, 1, .RO⟩
abbrev CAL_CH_DSTAT_VOUT : Fld := ⟨.CAL_CH_DSTAT, 16, 16, .RO⟩
abbrev CAL_CH_DEVT_OL_OFF : Fld := ⟨.CAL_CH_DEVT, 0, 1, .W1C⟩
abbrev CAL_CH_DEVT_OL_ON : Fld := ⟨.CAL_CH_DEVT, 1, 1, .W1C⟩
abbrev CAL_CH_DEVT_STF : Fld := ⟨.CAL_CH_DEVT, 2, 1, .W1C⟩
abbrev INJ_GLB_CTRL_REENABLE : Fld := ⟨.INJ_GLB_CTRL, 0, 1, .CMD⟩
abbrev INJ_GLB_STAT_SAFE : Fld := ⟨.INJ_GLB_STAT, 0, 1, .RO⟩
abbrev INJ_GLB_STAT_PLATE : Fld := ⟨.INJ_GLB_STAT, 1, 1, .RO⟩
abbrev INJ_GLB_STAT_LAST_REFUSED : Fld := ⟨.INJ_GLB_STAT, 2, 1, .W1C⟩
abbrev INJ_GLB_STAT_ACTIVE : Fld := ⟨.INJ_GLB_STAT, 8, 24, .RO⟩
abbrev INJ_BST_CFG_EN : Fld := ⟨.INJ_BST_CFG, 0, 1, .RW⟩
abbrev INJ_BST_CFG_VTGT : Fld := ⟨.INJ_BST_CFG, 8, 10, .RW⟩
abbrev INJ_BST_STAT_VOUT : Fld := ⟨.INJ_BST_STAT, 0, 10, .RO⟩
abbrev INJ_BST_STAT_READY : Fld := ⟨.INJ_BST_STAT, 16, 1, .RO⟩
abbrev INJ_BST_STAT_PLIM : Fld := ⟨.INJ_BST_STAT, 17, 1, .RO⟩
abbrev INJ_BST_STAT_OV : Fld := ⟨.INJ_BST_STAT, 18, 1, .RO⟩
abbrev INJ_BST_STAT_RUN : Fld := ⟨.INJ_BST_STAT, 19, 1, .RO⟩
abbrev INJ_BST_STAT_CLR : Fld := ⟨.INJ_BST_STAT, 31, 1, .CMD⟩
abbrev INJ_BST_PWR_PAVG : Fld := ⟨.INJ_BST_PWR, 0, 12, .RO⟩
abbrev INJ_BST_PWR_PLIMIT : Fld := ⟨.INJ_BST_PWR, 16, 12, .RO⟩
abbrev INJ_BANK_CFG_EN : Fld := ⟨.INJ_BANK_CFG, 0, 1, .RW⟩
abbrev INJ_BANK_CFG_POLICY : Fld := ⟨.INJ_BANK_CFG, 1, 1, .RW⟩
abbrev INJ_BANK_CFG_BNR_SKIP : Fld := ⟨.INJ_BANK_CFG, 2, 1, .RW⟩
abbrev INJ_BANK_CFG_BOOST_WAIT : Fld := ⟨.INJ_BANK_CFG, 8, 8, .RW⟩
abbrev INJ_BANK_CFG_DEFER_MAX : Fld := ⟨.INJ_BANK_CFG, 16, 10, .RW⟩
abbrev INJ_BANK_STAT_HS : Fld := ⟨.INJ_BANK_STAT, 0, 2, .RO⟩
abbrev INJ_BANK_STAT_RUN : Fld := ⟨.INJ_BANK_STAT, 4, 4, .RO⟩
abbrev INJ_BANK_STAT_WAIT : Fld := ⟨.INJ_BANK_STAT, 8, 4, .RO⟩
abbrev INJ_BANK_STAT_HSB_SHORT : Fld := ⟨.INJ_BANK_STAT, 12, 1, .RO⟩
abbrev INJ_BANK_STAT_FEED_OK : Fld := ⟨.INJ_BANK_STAT, 13, 1, .RO⟩
abbrev INJ_BANK_STAT_CLR : Fld := ⟨.INJ_BANK_STAT, 31, 1, .CMD⟩
abbrev INJ_CH_CFG_EN : Fld := ⟨.INJ_CH_CFG, 0, 1, .RW⟩
abbrev INJ_CH_CFG_MIN_OFF : Fld := ⟨.INJ_CH_CFG, 16, 14, .RW⟩
abbrev INJ_CH_PROT_TRISE_MIN : Fld := ⟨.INJ_CH_PROT, 0, 10, .RW⟩
abbrev INJ_CH_CLWIN_START : Fld := ⟨.INJ_CH_CLWIN, 0, 16, .RW⟩
abbrev INJ_CH_CLWIN_END : Fld := ⟨.INJ_CH_CLWIN, 16, 16, .RW⟩
abbrev INJ_CH_CMD_DUR : Fld := ⟨.INJ_CH_CMD, 0, 20, .WO⟩
abbrev INJ_CH_CMD_LAST : Fld := ⟨.INJ_CH_CMD, 20, 5, .WO⟩
abbrev INJ_CH_CMD_CLR : Fld := ⟨.INJ_CH_CMD, 29, 1, .CMD⟩
abbrev INJ_CH_CMD_ABORT : Fld := ⟨.INJ_CH_CMD, 30, 1, .CMD⟩
abbrev INJ_CH_CMD_GO : Fld := ⟨.INJ_CH_CMD, 31, 1, .CMD⟩
abbrev INJ_CH_STAT_STATE : Fld := ⟨.INJ_CH_STAT, 0, 3, .RO⟩
abbrev INJ_CH_STAT_PHASE : Fld := ⟨.INJ_CH_STAT, 3, 3, .RO⟩
abbrev INJ_CH_STAT_DEGRADED : Fld := ⟨.INJ_CH_STAT, 6, 1, .RO⟩
abbrev INJ_CH_STAT_CUR : Fld := ⟨.INJ_CH_STAT, 16, 12, .RO⟩
abbrev INJ_CH_RES_RESULT : Fld := ⟨.INJ_CH_RES, 0, 4, .RO⟩
abbrev INJ_CH_RES_TPEAK : Fld := ⟨.INJ_CH_RES, 4, 12, .RO⟩
abbrev INJ_CH_RES_DELAY : Fld := ⟨.INJ_CH_RES, 16, 16, .RO⟩
abbrev INJ_CH_CLOSE_DELAY : Fld := ⟨.INJ_CH_CLOSE, 0, 16, .RO⟩
abbrev INJ_CH_CLOSE_MEAN : Fld := ⟨.INJ_CH_CLOSE, 16, 16, .RO⟩
abbrev INJ_CH_CNT_RUN : Fld := ⟨.INJ_CH_CNT, 0, 16, .RO⟩
abbrev INJ_CH_CNT_REJ : Fld := ⟨.INJ_CH_CNT, 16, 8, .RO⟩
abbrev INJ_CH_CNT_DEFER : Fld := ⟨.INJ_CH_CNT, 24, 8, .RO⟩
abbrev INJ_CH_EVT_OPEN : Fld := ⟨.INJ_CH_EVT, 0, 1, .W1C⟩
abbrev INJ_CH_EVT_SHORT : Fld := ⟨.INJ_CH_EVT, 1, 1, .W1C⟩
abbrev INJ_CH_EVT_NOT_CLOSED : Fld := ⟨.INJ_CH_EVT, 2, 1, .W1C⟩
abbrev INJ_CH_EVT_REJECT : Fld := ⟨.INJ_CH_EVT, 3, 1, .W1C⟩
abbrev INJ_CH_EVT_DEGRADED : Fld := ⟨.INJ_CH_EVT, 4, 1, .W1C⟩
abbrev INJ_CH_EVT_CMD_REFUSED : Fld := ⟨.INJ_CH_EVT, 5, 1, .W1C⟩
abbrev INJ_LAST_HDR_NPH : Fld := ⟨.INJ_LAST_HDR, 0, 4, .RW⟩
abbrev INJ_LAST_HDR_END_FAST : Fld := ⟨.INJ_LAST_HDR, 4, 1, .RW⟩
abbrev INJ_LAST_HDR_CLOSE_EN : Fld := ⟨.INJ_LAST_HDR, 5, 1, .RW⟩
abbrev INJ_LAST_HDR_HYST : Fld := ⟨.INJ_LAST_HDR, 8, 8, .RW⟩
abbrev INJ_LAST_HDR_END_TMAX : Fld := ⟨.INJ_LAST_HDR, 16, 16, .RW⟩
abbrev INJ_LAST_PH_TIME : Fld := ⟨.INJ_LAST_PH, 0, 16, .RW⟩
abbrev INJ_LAST_PH_CURRENT : Fld := ⟨.INJ_LAST_PH, 16, 12, .RW⟩
abbrev INJ_LAST_PH_TYPE : Fld := ⟨.INJ_LAST_PH, 28, 3, .RW⟩
abbrev EVE_CTRL_EN : Fld := ⟨.EVE_CTRL, 0, 1, .RW⟩
abbrev EVE_CTRL_REENABLE : Fld := ⟨.EVE_CTRL, 1, 1, .CMD⟩
abbrev EVE_CTRL_RESERVE : Fld := ⟨.EVE_CTRL, 8, 8, .RW⟩
abbrev EVE_CTRL_HORIZON : Fld := ⟨.EVE_CTRL, 16, 14, .RW⟩
abbrev EVE_STAT_SPEC : Fld := ⟨.EVE_STAT, 0, 13, .RO⟩
abbrev EVE_STAT_SAFE : Fld := ⟨.EVE_STAT, 13, 1, .RO⟩
abbrev EVE_STAT_USED : Fld := ⟨.EVE_STAT, 16, 13, .RO⟩
abbrev EVE_STAT_FULL : Fld := ⟨.EVE_STAT, 29, 1, .RO⟩
abbrev EVE_STAT_COARSE : Fld := ⟨.EVE_STAT, 30, 1, .RO⟩
abbrev EVE_STAT_TIME_OK : Fld := ⟨.EVE_STAT, 31, 1, .RO⟩
abbrev EVE_CNT0_RETRACT : Fld := ⟨.EVE_CNT0, 0, 16, .RO⟩
abbrev EVE_CNT0_RETIME : Fld := ⟨.EVE_CNT0, 16, 16, .RO⟩
abbrev EVE_CNT1_COMMIT : Fld := ⟨.EVE_CNT1, 0, 16, .RO⟩
abbrev EVE_CNT1_LATE_OP : Fld := ⟨.EVE_CNT1, 16, 8, .RO⟩
abbrev EVE_CNT1_REFUSED : Fld := ⟨.EVE_CNT1, 24, 8, .RO⟩
abbrev EVE_CMD_TLO_T : Fld := ⟨.EVE_CMD_TLO, 0, 32, .RW⟩
abbrev EVE_CMD_THI_T : Fld := ⟨.EVE_CMD_THI, 0, 32, .RW⟩
abbrev EVE_CMD_SPEC_TARGET : Fld := ⟨.EVE_CMD_SPEC, 0, 7, .RW⟩
abbrev EVE_CMD_SPEC_VALUE : Fld := ⟨.EVE_CMD_SPEC, 8, 12, .RW⟩
abbrev EVE_CMD_DUR_DUR : Fld := ⟨.EVE_CMD_DUR, 0, 20, .RW⟩
abbrev EVE_CMD_HANDLE : Fld := ⟨.EVE_CMD, 0, 16, .WO⟩
abbrev EVE_CMD_ABORT_ALL : Fld := ⟨.EVE_CMD, 28, 1, .CMD⟩
abbrev EVE_CMD_ASAP : Fld := ⟨.EVE_CMD, 29, 1, .WO⟩
abbrev EVE_CMD_ABORT : Fld := ⟨.EVE_CMD, 30, 1, .CMD⟩
abbrev EVE_CMD_GO : Fld := ⟨.EVE_CMD, 31, 1, .CMD⟩
abbrev EVE_CMD_RES_HANDLE : Fld := ⟨.EVE_CMD_RES, 0, 16, .RO⟩
abbrev EVE_CMD_RES_STATUS : Fld := ⟨.EVE_CMD_RES, 16, 3, .RO⟩
abbrev EVE_EVT_FULL : Fld := ⟨.EVE_EVT, 0, 1, .W1C⟩
abbrev EVE_EVT_LATE : Fld := ⟨.EVE_EVT, 1, 1, .W1C⟩
abbrev EVE_EVT_REFUSED : Fld := ⟨.EVE_EVT, 2, 1, .W1C⟩
abbrev EVE_EVT_SPEED_LOSS : Fld := ⟨.EVE_EVT, 3, 1, .W1C⟩
abbrev EVE_EVT_UNDERRUN : Fld := ⟨.EVE_EVT, 4, 1, .W1C⟩
abbrev EVE_EVT_LATE_DROP : Fld := ⟨.EVE_EVT, 5, 1, .W1C⟩
abbrev EVE_RES_PTR_WR : Fld := ⟨.EVE_RES_PTR, 0, 9, .RO⟩
abbrev EVE_RES_PTR_RD : Fld := ⟨.EVE_RES_PTR, 16, 9, .RW⟩
abbrev EVE_RES_PTR_OVF : Fld := ⟨.EVE_RES_PTR, 31, 1, .W1C⟩
abbrev EVE_ST_CTRL_OPEN : Fld := ⟨.EVE_ST_CTRL, 0, 1, .RW⟩
abbrev EVE_ST_CTRL_SRC : Fld := ⟨.EVE_ST_CTRL, 1, 2, .RW⟩
abbrev EVE_ST_CTRL_DI : Fld := ⟨.EVE_ST_CTRL, 3, 3, .RW⟩
abbrev EVE_ST_CTRL_CANPORT : Fld := ⟨.EVE_ST_CTRL, 6, 3, .RW⟩
abbrev EVE_ST_CTRL_DOSE_MODE : Fld := ⟨.EVE_ST_CTRL, 9, 1, .RW⟩
abbrev EVE_ST_CTRL_RUN_AHEAD : Fld := ⟨.EVE_ST_CTRL, 16, 11, .RW⟩
abbrev EVE_ST_SCALE_SCALE : Fld := ⟨.EVE_ST_SCALE, 0, 20, .RW⟩
abbrev EVE_ST_CANID_ID : Fld := ⟨.EVE_ST_CANID, 0, 29, .RW⟩
abbrev EVE_ST_CANID_IDE : Fld := ⟨.EVE_ST_CANID, 29, 1, .RW⟩
abbrev EVE_ST_CFG2_BYTE : Fld := ⟨.EVE_ST_CFG2, 0, 3, .RW⟩
abbrev EVE_ST_CFG2_SIGNED : Fld := ⟨.EVE_ST_CFG2, 3, 1, .RW⟩
abbrev EVE_ST_CFG2_DOSE_UNIT : Fld := ⟨.EVE_ST_CFG2, 8, 10, .RW⟩
abbrev EVE_ST_CFG2_TIMEOUT : Fld := ⟨.EVE_ST_CFG2, 18, 8, .RW⟩
abbrev EVE_ST_CFG2_VMIN : Fld := ⟨.EVE_ST_CFG2, 26, 6, .RW⟩
abbrev EVE_ST_ODO_ODO : Fld := ⟨.EVE_ST_ODO, 0, 32, .RW⟩
abbrev EVE_ST_SPEED_SPEED : Fld := ⟨.EVE_ST_SPEED, 0, 32, .RW⟩
abbrev EVE_ST_RECLO_REC : Fld := ⟨.EVE_ST_RECLO, 0, 32, .WO⟩
abbrev EVE_ST_RECHI_REC : Fld := ⟨.EVE_ST_RECHI, 0, 32, .WO⟩
abbrev EVE_ST_STAT_FIFO : Fld := ⟨.EVE_ST_STAT, 0, 9, .RO⟩
abbrev EVE_ST_STAT_SPEED_OK : Fld := ⟨.EVE_ST_STAT, 9, 1, .RO⟩
abbrev EVE_ST_STAT_MOVING : Fld := ⟨.EVE_ST_STAT, 10, 1, .RO⟩
abbrev EVE_ST_STAT_UNDERRUN : Fld := ⟨.EVE_ST_STAT, 11, 1, .RO⟩
abbrev EVE_ST_STAT_SPEC : Fld := ⟨.EVE_ST_STAT, 16, 13, .RO⟩
abbrev EVE_ST_CNT_RECORDS : Fld := ⟨.EVE_ST_CNT, 0, 16, .RO⟩
abbrev EVE_ST_CNT_SUPERSEDE : Fld := ⟨.EVE_ST_CNT, 16, 8, .RO⟩
abbrev EVE_ST_CNT_LATE_DROP : Fld := ⟨.EVE_ST_CNT, 24, 8, .RO⟩
abbrev EVE_NZ_MAP_TARGET : Fld := ⟨.EVE_NZ_MAP, 0, 7, .RW⟩
abbrev EVE_NZ_MAP_EN : Fld := ⟨.EVE_NZ_MAP, 7, 1, .RW⟩
abbrev EVE_NZ_MAP_VALUE : Fld := ⟨.EVE_NZ_MAP, 8, 12, .RW⟩
abbrev EVE_NZ_GEO_OFS : Fld := ⟨.EVE_NZ_GEO, 0, 16, .RW⟩
abbrev EVE_NZ_GEO_LEAD : Fld := ⟨.EVE_NZ_GEO, 16, 14, .RW⟩
abbrev LEDS_GLB_CFG_DIV : Fld := ⟨.LEDS_GLB_CFG, 0, 4, .RW⟩
abbrev LEDS_GLB_LEVEL_GLOBAL : Fld := ⟨.LEDS_GLB_LEVEL, 0, 8, .RW⟩
abbrev LEDS_GLB_STAT_F : Fld := ⟨.LEDS_GLB_STAT, 0, 8, .RO⟩
abbrev LEDS_GLB_STAT_FOLDBACK : Fld := ⟨.LEDS_GLB_STAT, 8, 1, .RO⟩
abbrev LEDS_GLB_STAT_SAFE : Fld := ⟨.LEDS_GLB_STAT, 9, 1, .RO⟩
abbrev LEDS_GLB_STAT_PSUM : Fld := ⟨.LEDS_GLB_STAT, 16, 16, .RO⟩
abbrev LEDS_GLB_PCAP_CAP : Fld := ⟨.LEDS_GLB_PCAP, 0, 16, .RO⟩
abbrev LEDS_GLB_CTRL_REENABLE : Fld := ⟨.LEDS_GLB_CTRL, 0, 1, .CMD⟩
abbrev LEDS_GLB_EVT_FOLDBACK : Fld := ⟨.LEDS_GLB_EVT, 0, 1, .W1C⟩
abbrev LEDS_CH_CFG_EN : Fld := ⟨.LEDS_CH_CFG, 0, 1, .RW⟩
abbrev LEDS_CH_CFG_SUP : Fld := ⟨.LEDS_CH_CFG, 1, 1, .RW⟩
abbrev LEDS_CH_CFG_SUPCH : Fld := ⟨.LEDS_CH_CFG, 2, 6, .RW⟩
abbrev LEDS_CH_CFG_DIAG_EN : Fld := ⟨.LEDS_CH_CFG, 8, 1, .RW⟩
abbrev LEDS_CH_CFG_VSHORT : Fld := ⟨.LEDS_CH_CFG, 16, 8, .RW⟩
abbrev LEDS_CH_OUT_DUTY : Fld := ⟨.LEDS_CH_OUT, 0, 14, .RW⟩
abbrev LEDS_CH_OUT_CODE : Fld := ⟨.LEDS_CH_OUT, 16, 8, .RW⟩
abbrev LEDS_CH_FADE_TARGET : Fld := ⟨.LEDS_CH_FADE, 0, 14, .WO⟩
abbrev LEDS_CH_FADE_TIME : Fld := ⟨.LEDS_CH_FADE, 16, 12, .WO⟩
abbrev LEDS_CH_FADE_GO : Fld := ⟨.LEDS_CH_FADE, 31, 1, .CMD⟩
abbrev LEDS_CH_STAT_ON : Fld := ⟨.LEDS_CH_STAT, 0, 1, .RO⟩
abbrev LEDS_CH_STAT_FADING : Fld := ⟨.LEDS_CH_STAT, 1, 1, .RO⟩
abbrev LEDS_CH_STAT_OPEN : Fld := ⟨.LEDS_CH_STAT, 2, 1, .RO⟩
abbrev LEDS_CH_STAT_SHORT : Fld := ⟨.LEDS_CH_STAT, 3, 1, .RO⟩
abbrev LEDS_CH_STAT_SUSP : Fld := ⟨.LEDS_CH_STAT, 4, 1, .RO⟩
abbrev LEDS_CH_STAT_STRETCH : Fld := ⟨.LEDS_CH_STAT, 5, 1, .RO⟩
abbrev LEDS_CH_STAT_LOWHR : Fld := ⟨.LEDS_CH_STAT, 6, 1, .RO⟩
abbrev LEDS_CH_STAT_REFUSED : Fld := ⟨.LEDS_CH_STAT, 7, 1, .RO⟩
abbrev LEDS_CH_STAT_IMEAS : Fld := ⟨.LEDS_CH_STAT, 8, 8, .RO⟩
abbrev LEDS_CH_STAT_VSINK : Fld := ⟨.LEDS_CH_STAT, 16, 10, .RO⟩
abbrev LEDS_CH_EDUTY_EDUTY : Fld := ⟨.LEDS_CH_EDUTY, 0, 14, .RO⟩
abbrev LEDS_CH_EDUTY_ISET : Fld := ⟨.LEDS_CH_EDUTY, 16, 8, .RO⟩
abbrev LEDS_CH_EVT_OPEN : Fld := ⟨.LEDS_CH_EVT, 0, 1, .W1C⟩
abbrev LEDS_CH_EVT_SHORT : Fld := ⟨.LEDS_CH_EVT, 1, 1, .W1C⟩
abbrev LEDS_CH_EVT_REFUSED : Fld := ⟨.LEDS_CH_EVT, 2, 1, .W1C⟩
abbrev LEDS_CH_CMD_CLR : Fld := ⟨.LEDS_CH_CMD, 0, 1, .CMD⟩
abbrev DIO_DI_LO_STATE : Fld := ⟨.DIO_DI_LO, 0, 32, .RO⟩
abbrev DIO_DI_HI_STATE : Fld := ⟨.DIO_DI_HI, 0, 16, .RO⟩
abbrev DIO_EDGE_LO_EDGE : Fld := ⟨.DIO_EDGE_LO, 0, 32, .W1C⟩
abbrev DIO_EDGE_HI_EDGE : Fld := ⟨.DIO_EDGE_HI, 0, 16, .W1C⟩
abbrev DIO_GRP_CFG_DEBOUNCE : Fld := ⟨.DIO_GRP_CFG, 0, 10, .RW⟩
abbrev DIO_GRP_CFG_TYPE : Fld := ⟨.DIO_GRP_CFG, 16, 1, .RW⟩
abbrev DIO_CNT_CFG_MODE : Fld := ⟨.DIO_CNT_CFG, 0, 2, .RW⟩
abbrev DIO_CNT_CFG_EDGE : Fld := ⟨.DIO_CNT_CFG, 2, 2, .RW⟩
abbrev DIO_CNT_CFG_GATE : Fld := ⟨.DIO_CNT_CFG, 8, 8, .RW⟩
abbrev DIO_CNT_VAL_COUNT : Fld := ⟨.DIO_CNT_VAL, 0, 32, .RO⟩
abbrev DIO_CNT_FREQ_FREQ : Fld := ⟨.DIO_CNT_FREQ, 0, 24, .RO⟩
abbrev DIO_CNT_FREQ_VALID : Fld := ⟨.DIO_CNT_FREQ, 24, 1, .RO⟩
abbrev DIO_CNT_CMD_CLR : Fld := ⟨.DIO_CNT_CMD, 0, 1, .CMD⟩
abbrev DIO_PPS_CFG_EN : Fld := ⟨.DIO_PPS_CFG, 0, 1, .RW⟩
abbrev DIO_PPS_CFG_FALL : Fld := ⟨.DIO_PPS_CFG, 1, 1, .RW⟩
abbrev DIO_PPS_TLO_T : Fld := ⟨.DIO_PPS_TLO, 0, 32, .RO⟩
abbrev DIO_PPS_THI_T : Fld := ⟨.DIO_PPS_THI, 0, 32, .RO⟩
abbrev DIO_WAKE_CFG_MASK : Fld := ⟨.DIO_WAKE_CFG, 0, 16, .RW⟩
abbrev DIO_WAKE_SRC_SRC : Fld := ⟨.DIO_WAKE_SRC, 0, 16, .W1C⟩
abbrev DIO_WAKE_SRC_LEVEL : Fld := ⟨.DIO_WAKE_SRC, 16, 16, .RO⟩
abbrev DIO_DO_OUT_ON : Fld := ⟨.DIO_DO_OUT, 0, 16, .RW⟩
abbrev DIO_DO_CFG_LATCH : Fld := ⟨.DIO_DO_CFG, 0, 16, .RW⟩
abbrev DIO_DO_CFG_OL_EN : Fld := ⟨.DIO_DO_CFG, 16, 16, .RW⟩
abbrev DIO_DO_STAT_ON : Fld := ⟨.DIO_DO_STAT, 0, 16, .RO⟩
abbrev DIO_DO_STAT_FAULT : Fld := ⟨.DIO_DO_STAT, 16, 16, .RO⟩
abbrev DIO_DO_DIAG_OPEN : Fld := ⟨.DIO_DO_DIAG, 0, 16, .RO⟩
abbrev DIO_DO_DIAG_SHED : Fld := ⟨.DIO_DO_DIAG, 16, 16, .RO⟩
abbrev DIO_DO_CLR_CLR : Fld := ⟨.DIO_DO_CLR, 0, 16, .CMD⟩
abbrev DIO_AUX_CTRL_SSUP_EN : Fld := ⟨.DIO_AUX_CTRL, 0, 1, .RW⟩
abbrev DIO_AUX_STAT_CUR : Fld := ⟨.DIO_AUX_STAT, 0, 10, .RO⟩
abbrev DIO_AUX_STAT_UP : Fld := ⟨.DIO_AUX_STAT, 16, 1, .RO⟩
abbrev DIO_AUX_STAT_LIMIT : Fld := ⟨.DIO_AUX_STAT, 17, 1, .RO⟩
abbrev DIO_AUX_STAT_SSUP_ON : Fld := ⟨.DIO_AUX_STAT, 18, 1, .RO⟩
abbrev DIO_AUX_STAT_SSUP_FAULT : Fld := ⟨.DIO_AUX_STAT, 19, 1, .RO⟩
abbrev DIO_AUX_STAT_RATING : Fld := ⟨.DIO_AUX_STAT, 20, 1, .RO⟩
abbrev DIO_EVT_DO_OVL : Fld := ⟨.DIO_EVT, 0, 1, .W1C⟩
abbrev DIO_EVT_DO_OPEN : Fld := ⟨.DIO_EVT, 1, 1, .W1C⟩
abbrev DIO_EVT_AUX_OVL : Fld := ⟨.DIO_EVT, 2, 1, .W1C⟩
abbrev DIO_EVT_SSUP_OVL : Fld := ⟨.DIO_EVT, 3, 1, .W1C⟩
abbrev DIO_EVT_AUX_DOWN : Fld := ⟨.DIO_EVT, 4, 1, .W1C⟩
abbrev DIO_EVT_DO_REFUSED : Fld := ⟨.DIO_EVT, 5, 1, .W1C⟩
abbrev BOLL_CTRL_HOLD : Fld := ⟨.BOLL_CTRL, 0, 9, .RW⟩
abbrev BOLL_CTRL_AUTO_RECLAIM : Fld := ⟨.BOLL_CTRL, 9, 1, .RW⟩
abbrev BOLL_CMD_RECLAIM : Fld := ⟨.BOLL_CMD, 0, 1, .CMD⟩
abbrev BOLL_CMD_REENABLE : Fld := ⟨.BOLL_CMD, 1, 1, .CMD⟩
abbrev BOLL_STAT_HOLD_RUN : Fld := ⟨.BOLL_STAT, 0, 1, .RO⟩
abbrev BOLL_STAT_SAFE : Fld := ⟨.BOLL_STAT, 1, 1, .RO⟩
abbrev BOLL_STAT_REFUSED : Fld := ⟨.BOLL_STAT, 2, 1, .W1C⟩
abbrev BOLL_STAT_SIL_EXP : Fld := ⟨.BOLL_STAT, 4, 4, .RO⟩
abbrev BOLL_STAT_GOV : Fld := ⟨.BOLL_STAT, 8, 8, .RO⟩
abbrev BOLL_STAT_HOLD_LEFT : Fld := ⟨.BOLL_STAT, 16, 13, .RO⟩
abbrev BOLL_SIL_TIMEOUT : Fld := ⟨.BOLL_SIL, 0, 10, .RW⟩
abbrev BOLL_SIL_SRC : Fld := ⟨.BOLL_SIL, 12, 1, .RW⟩
abbrev BOLL_SIL_RPDO : Fld := ⟨.BOLL_SIL, 16, 6, .RW⟩
abbrev BOLL_SILSTAT_LEFT : Fld := ⟨.BOLL_SILSTAT, 0, 10, .RO⟩
abbrev BOLL_SILSTAT_RUN : Fld := ⟨.BOLL_SILSTAT, 16, 1, .RO⟩
abbrev BOLL_SILSTAT_EXP : Fld := ⟨.BOLL_SILSTAT, 17, 1, .RO⟩
abbrev BOLL_SILSTAT_SEQERR : Fld := ⟨.BOLL_SILSTAT, 24, 8, .RO⟩
abbrev BOLL_GOV_GOV : Fld := ⟨.BOLL_GOV, 0, 32, .RO⟩
abbrev BOLL_RFX_ACTLO_ENTRY : Fld := ⟨.BOLL_RFX_ACTLO, 0, 32, .RO⟩
abbrev BOLL_RFX_ACTHI_ENTRY : Fld := ⟨.BOLL_RFX_ACTHI, 0, 32, .RO⟩
abbrev BOLL_RFX_LATLO_ENTRY : Fld := ⟨.BOLL_RFX_LATLO, 0, 32, .RO⟩
abbrev BOLL_RFX_LATHI_ENTRY : Fld := ⟨.BOLL_RFX_LATHI, 0, 32, .RO⟩
abbrev BOLL_RFX_CLRLO_CLR : Fld := ⟨.BOLL_RFX_CLRLO, 0, 32, .CMD⟩
abbrev BOLL_RFX_CLRHI_CLR : Fld := ⟨.BOLL_RFX_CLRHI, 0, 32, .CMD⟩
abbrev BOLL_SAFE_STATE : Fld := ⟨.BOLL_SAFE, 0, 2, .RW⟩
abbrev BOLL_SAFE_SIL : Fld := ⟨.BOLL_SAFE, 4, 3, .RW⟩
abbrev BOLL_SAFE_DUTY : Fld := ⟨.BOLL_SAFE, 16, 14, .RW⟩
abbrev BOLL_RFX_COND_SRCA : Fld := ⟨.BOLL_RFX_COND, 0, 9, .RW⟩
abbrev BOLL_RFX_COND_INVA : Fld := ⟨.BOLL_RFX_COND, 9, 1, .RW⟩
abbrev BOLL_RFX_COND_SRCB : Fld := ⟨.BOLL_RFX_COND, 16, 9, .RW⟩
abbrev BOLL_RFX_COND_INVB : Fld := ⟨.BOLL_RFX_COND, 25, 1, .RW⟩
abbrev BOLL_RFX_COND_OP : Fld := ⟨.BOLL_RFX_COND, 26, 2, .RW⟩
abbrev BOLL_RFX_ACT_TARGET : Fld := ⟨.BOLL_RFX_ACT, 0, 8, .RW⟩
abbrev BOLL_RFX_ACT_ACTION : Fld := ⟨.BOLL_RFX_ACT, 8, 2, .RW⟩
abbrev BOLL_RFX_ACT_WHEN : Fld := ⟨.BOLL_RFX_ACT, 10, 2, .RW⟩
abbrev BOLL_RFX_ACT_LATCH : Fld := ⟨.BOLL_RFX_ACT, 12, 1, .RW⟩
abbrev BOLL_RFX_ACT_EN : Fld := ⟨.BOLL_RFX_ACT, 15, 1, .RW⟩
abbrev BOLL_RFX_ACT_VALUE : Fld := ⟨.BOLL_RFX_ACT, 16, 14, .RW⟩
abbrev BOLL_RFX_DLY_ON_DLY : Fld := ⟨.BOLL_RFX_DLY, 0, 16, .RW⟩
abbrev BOLL_RFX_DLY_OFF_DLY : Fld := ⟨.BOLL_RFX_DLY, 16, 16, .RW⟩
abbrev CAN_CTRL_EN : Fld := ⟨.CAN_CTRL, 0, 1, .RW⟩
abbrev CAN_CTRL_OPMODE : Fld := ⟨.CAN_CTRL, 1, 2, .RW⟩
abbrev CAN_CTRL_FD_EN : Fld := ⟨.CAN_CTRL, 3, 1, .RW⟩
abbrev CAN_CTRL_TXPRIO : Fld := ⟨.CAN_CTRL, 4, 1, .RW⟩
abbrev CAN_CTRL_TXB2_SRC : Fld := ⟨.CAN_CTRL, 5, 1, .RW⟩
abbrev CAN_CTRL_BO_MAN : Fld := ⟨.CAN_CTRL, 6, 1, .RW⟩
abbrev CAN_CTRL_NOMATCH : Fld := ⟨.CAN_CTRL, 7, 1, .RW⟩
abbrev CAN_CTRL_BO_DELAY : Fld := ⟨.CAN_CTRL, 8, 8, .RW⟩
abbrev CAN_CTRL_BO_LIMIT : Fld := ⟨.CAN_CTRL, 16, 4, .RW⟩
abbrev CAN_CTRL_DET_EN : Fld := ⟨.CAN_CTRL, 20, 1, .RW⟩
abbrev CAN_CTRL_DET_LISTEN : Fld := ⟨.CAN_CTRL, 21, 1, .RW⟩
abbrev CAN_NBT_BRP : Fld := ⟨.CAN_NBT, 0, 5, .RW⟩
abbrev CAN_NBT_SJW : Fld := ⟨.CAN_NBT, 5, 7, .RW⟩
abbrev CAN_NBT_TSEG1 : Fld := ⟨.CAN_NBT, 12, 8, .RW⟩
abbrev CAN_NBT_TSEG2 : Fld := ⟨.CAN_NBT, 20, 7, .RW⟩
abbrev CAN_DBT_BRP : Fld := ⟨.CAN_DBT, 0, 5, .RW⟩
abbrev CAN_DBT_SJW : Fld := ⟨.CAN_DBT, 5, 4, .RW⟩
abbrev CAN_DBT_TSEG1 : Fld := ⟨.CAN_DBT, 9, 5, .RW⟩
abbrev CAN_DBT_TSEG2 : Fld := ⟨.CAN_DBT, 14, 4, .RW⟩
abbrev CAN_TDC_EN : Fld := ⟨.CAN_TDC, 0, 1, .RW⟩
abbrev CAN_TDC_OFS : Fld := ⟨.CAN_TDC, 8, 7, .RW⟩
abbrev CAN_TDC_TDCV : Fld := ⟨.CAN_TDC, 16, 7, .RO⟩
abbrev CAN_STAT_STATE : Fld := ⟨.CAN_STAT, 0, 2, .RO⟩
abbrev CAN_STAT_SYNC : Fld := ⟨.CAN_STAT, 2, 1, .RO⟩
abbrev CAN_STAT_DET : Fld := ⟨.CAN_STAT, 3, 1, .RO⟩
abbrev CAN_STAT_DET_IDX : Fld := ⟨.CAN_STAT, 4, 4, .RO⟩
abbrev CAN_STAT_ACT : Fld := ⟨.CAN_STAT, 8, 2, .RO⟩
abbrev CAN_ERR_TEC : Fld := ⟨.CAN_ERR, 0, 8, .RO⟩
abbrev CAN_ERR_REC : Fld := ⟨.CAN_ERR, 8, 8, .RO⟩
abbrev CAN_ERR_BOFF_CNT : Fld := ⟨.CAN_ERR, 16, 8, .RO⟩
abbrev CAN_ERR_LEC : Fld := ⟨.CAN_ERR, 24, 3, .RO⟩
abbrev CAN_ERR_LEC_DATA : Fld := ⟨.CAN_ERR, 27, 1, .RO⟩
abbrev CAN_ERRCFG_COLL_THR : Fld := ⟨.CAN_ERRCFG, 0, 6, .RW⟩
abbrev CAN_TXB_CMD_REQ : Fld := ⟨.CAN_TXB_CMD, 0, 3, .CMD⟩
abbrev CAN_TXB_CMD_ABORT : Fld := ⟨.CAN_TXB_CMD, 4, 3, .CMD⟩
abbrev CAN_TXB_STAT_PEND : Fld := ⟨.CAN_TXB_STAT, 0, 3, .RO⟩
abbrev CAN_TXB_STAT_CCNT : Fld := ⟨.CAN_TXB_STAT, 16, 6, .RO⟩
abbrev CAN_TXB_STAT_RES0 : Fld := ⟨.CAN_TXB_STAT, 4, 4, .RO⟩
abbrev CAN_TXB_STAT_RES1 : Fld := ⟨.CAN_TXB_STAT, 8, 4, .RO⟩
abbrev CAN_TXB_STAT_RES2 : Fld := ⟨.CAN_TXB_STAT, 12, 4, .RO⟩
abbrev CAN_TXTS_LO_T : Fld := ⟨.CAN_TXTS_LO, 0, 32, .RO⟩
abbrev CAN_TXTS_HI_T : Fld := ⟨.CAN_TXTS_HI, 0, 32, .RO⟩
abbrev CAN_FLT_STD_START : Fld := ⟨.CAN_FLT_STD, 0, 12, .RW⟩
abbrev CAN_FLT_STD_LEN : Fld := ⟨.CAN_FLT_STD, 16, 13, .RW⟩
abbrev CAN_FLT_EXT_START : Fld := ⟨.CAN_FLT_EXT, 0, 12, .RW⟩
abbrev CAN_FLT_EXT_LEN : Fld := ⟨.CAN_FLT_EXT, 16, 13, .RW⟩
abbrev CAN_RXF_CFG_DEPTH : Fld := ⟨.CAN_RXF_CFG, 0, 9, .RW⟩
abbrev CAN_RXF_CFG_WM : Fld := ⟨.CAN_RXF_CFG, 16, 9, .RW⟩
abbrev CAN_RXF_STAT_FILL : Fld := ⟨.CAN_RXF_STAT, 0, 9, .RO⟩
abbrev CAN_RXF_STAT_GET : Fld := ⟨.CAN_RXF_STAT, 16, 8, .RO⟩
abbrev CAN_RXF_ACK_COUNT : Fld := ⟨.CAN_RXF_ACK, 0, 9, .WO⟩
abbrev CAN_HPM_FIDX : Fld := ⟨.CAN_HPM, 0, 12, .RO⟩
abbrev CAN_HPM_XTD : Fld := ⟨.CAN_HPM, 16, 1, .RO⟩
abbrev CAN_COLL_ID : Fld := ⟨.CAN_COLL, 0, 29, .RO⟩
abbrev CAN_COLL_XTD : Fld := ⟨.CAN_COLL, 29, 1, .RO⟩
abbrev CAN_DET_CFG_WIN : Fld := ⟨.CAN_DET_CFG, 0, 8, .RW⟩
abbrev CAN_DET_CFG_LAST : Fld := ⟨.CAN_DET_CFG, 8, 4, .RW⟩
abbrev CAN_TT_CFG_ROLE : Fld := ⟨.CAN_TT_CFG, 0, 2, .RW⟩
abbrev CAN_TT_CFG_PRIO : Fld := ⟨.CAN_TT_CFG, 2, 3, .RW⟩
abbrev CAN_TT_CFG_CYCLE : Fld := ⟨.CAN_TT_CFG, 16, 16, .RW⟩
abbrev CAN_TT_REF_ID : Fld := ⟨.CAN_TT_REF, 0, 29, .RW⟩
abbrev CAN_TT_REF_XTD : Fld := ⟨.CAN_TT_REF, 29, 1, .RW⟩
abbrev CAN_TT_STAT_CYC : Fld := ⟨.CAN_TT_STAT, 0, 6, .RO⟩
abbrev CAN_TT_STAT_MPRIO : Fld := ⟨.CAN_TT_STAT, 8, 3, .RO⟩
abbrev CAN_TT_STAT_ROLE : Fld := ⟨.CAN_TT_STAT, 12, 2, .RO⟩
abbrev CAN_TT_STAT_SYNC : Fld := ⟨.CAN_TT_STAT, 14, 1, .RO⟩
abbrev CAN_SW_CFG_EN : Fld := ⟨.CAN_SW_CFG, 0, 1, .RW⟩
abbrev CAN_SW_CFG_RATE : Fld := ⟨.CAN_SW_CFG, 1, 2, .RW⟩
abbrev CAN_SW_CFG_WUP : Fld := ⟨.CAN_SW_CFG, 3, 1, .RW⟩
abbrev CAN_SW_CFG_FDTOL : Fld := ⟨.CAN_SW_CFG, 4, 1, .RW⟩
abbrev CAN_SW_CFG_DLC : Fld := ⟨.CAN_SW_CFG, 8, 4, .RW⟩
abbrev CAN_SW_CFG_IDE : Fld := ⟨.CAN_SW_CFG, 12, 1, .RW⟩
abbrev CAN_SW_ID_ID : Fld := ⟨.CAN_SW_ID, 0, 29, .RW⟩
abbrev CAN_SW_IDM_ID : Fld := ⟨.CAN_SW_IDM, 0, 29, .RW⟩
abbrev CAN_SW_DLO_MASK : Fld := ⟨.CAN_SW_DLO, 0, 32, .RW⟩
abbrev CAN_SW_DHI_MASK : Fld := ⟨.CAN_SW_DHI, 0, 32, .RW⟩
abbrev CAN_SW_STAT_FEC : Fld := ⟨.CAN_SW_STAT, 0, 6, .RO⟩
abbrev CAN_SW_STAT_MATCH : Fld := ⟨.CAN_SW_STAT, 8, 1, .RO⟩
abbrev CAN_SW_STAT_FEC_OVF : Fld := ⟨.CAN_SW_STAT, 9, 1, .RO⟩
abbrev CAN_EVT_BOFF : Fld := ⟨.CAN_EVT, 0, 1, .W1C⟩
abbrev CAN_EVT_EPASS : Fld := ⟨.CAN_EVT, 1, 1, .W1C⟩
abbrev CAN_EVT_COLL : Fld := ⟨.CAN_EVT, 2, 1, .W1C⟩
abbrev CAN_EVT_RXOVF : Fld := ⟨.CAN_EVT, 3, 1, .W1C⟩
abbrev CAN_EVT_RXWM : Fld := ⟨.CAN_EVT, 4, 1, .W1C⟩
abbrev CAN_EVT_HPM : Fld := ⟨.CAN_EVT, 5, 1, .W1C⟩
abbrev CAN_EVT_DET_DONE : Fld := ⟨.CAN_EVT, 6, 1, .W1C⟩
abbrev CAN_EVT_DET_FAIL : Fld := ⟨.CAN_EVT, 7, 1, .W1C⟩
abbrev CAN_EVT_TT_LOSS : Fld := ⟨.CAN_EVT, 8, 1, .W1C⟩
abbrev CAN_EVT_TXB2_WR : Fld := ⟨.CAN_EVT, 9, 1, .W1C⟩
abbrev CAN_EVT_TX_DONE : Fld := ⟨.CAN_EVT, 10, 1, .W1C⟩
abbrev CAN_EVT_REFUSED : Fld := ⟨.CAN_EVT, 11, 1, .W1C⟩
abbrev CAN_EVT_SW_FEC : Fld := ⟨.CAN_EVT, 12, 1, .W1C⟩
abbrev CAN_CMD_RECOVER : Fld := ⟨.CAN_CMD, 0, 1, .CMD⟩
abbrev CAN_CMD_DET_START : Fld := ⟨.CAN_CMD, 1, 1, .CMD⟩
abbrev CAN_CMD_REENABLE : Fld := ⟨.CAN_CMD, 2, 1, .CMD⟩
abbrev CAN_DET_A_BRP : Fld := ⟨.CAN_DET_A, 0, 5, .RW⟩
abbrev CAN_DET_A_SJW : Fld := ⟨.CAN_DET_A, 5, 7, .RW⟩
abbrev CAN_DET_A_TSEG1 : Fld := ⟨.CAN_DET_A, 12, 8, .RW⟩
abbrev CAN_DET_A_TSEG2 : Fld := ⟨.CAN_DET_A, 20, 7, .RW⟩
abbrev CAN_DET_A_VALID : Fld := ⟨.CAN_DET_A, 31, 1, .RW⟩
abbrev CAN_DET_B_BRP : Fld := ⟨.CAN_DET_B, 0, 5, .RW⟩
abbrev CAN_DET_B_SJW : Fld := ⟨.CAN_DET_B, 5, 4, .RW⟩
abbrev CAN_DET_B_TSEG1 : Fld := ⟨.CAN_DET_B, 9, 5, .RW⟩
abbrev CAN_DET_B_TSEG2 : Fld := ⟨.CAN_DET_B, 14, 4, .RW⟩
abbrev CAN_DET_B_FD : Fld := ⟨.CAN_DET_B, 31, 1, .RW⟩
abbrev GWY_CTRL_EN : Fld := ⟨.GWY_CTRL, 0, 1, .RW⟩
abbrev GWY_CTRL_BP_MAX : Fld := ⟨.GWY_CTRL, 8, 8, .RW⟩
abbrev GWY_CTRL_QUAR_TIME : Fld := ⟨.GWY_CTRL, 16, 12, .RW⟩
abbrev GWY_STAT_SAFE : Fld := ⟨.GWY_STAT, 0, 1, .RO⟩
abbrev GWY_STAT_RUN : Fld := ⟨.GWY_STAT, 1, 1, .RO⟩
abbrev GWY_STAT_QUAR_USED : Fld := ⟨.GWY_STAT, 8, 6, .RO⟩
abbrev GWY_STAT_SPEC : Fld := ⟨.GWY_STAT, 16, 4, .RO⟩
abbrev GWY_CNT0_SPEC_UNWIND : Fld := ⟨.GWY_CNT0, 0, 16, .RO⟩
abbrev GWY_CNT0_MISS : Fld := ⟨.GWY_CNT0, 16, 16, .RO⟩
abbrev GWY_CNT1_COMMIT : Fld := ⟨.GWY_CNT1, 0, 16, .RO⟩
abbrev GWY_CNT1_QUAR_DROP : Fld := ⟨.GWY_CNT1, 16, 16, .RO⟩
abbrev GWY_CNT2_STAGE : Fld := ⟨.GWY_CNT2, 0, 8, .RO⟩
abbrev GWY_CNT2_FORMAT : Fld := ⟨.GWY_CNT2, 8, 8, .RO⟩
abbrev GWY_CNT2_SEQ_GAP : Fld := ⟨.GWY_CNT2, 16, 8, .RO⟩
abbrev GWY_EVT_RING_FULL : Fld := ⟨.GWY_EVT, 0, 1, .W1C⟩
abbrev GWY_EVT_WM : Fld := ⟨.GWY_EVT, 1, 1, .W1C⟩
abbrev GWY_EVT_RATE : Fld := ⟨.GWY_EVT, 2, 1, .W1C⟩
abbrev GWY_EVT_QUAR : Fld := ⟨.GWY_EVT, 3, 1, .W1C⟩
abbrev GWY_EVT_HOLD_OVF : Fld := ⟨.GWY_EVT, 4, 1, .W1C⟩
abbrev GWY_EVT_BP_TIMEOUT : Fld := ⟨.GWY_EVT, 5, 1, .W1C⟩
abbrev GWY_EVT_ACF_FORMAT : Fld := ⟨.GWY_EVT, 6, 1, .W1C⟩
abbrev GWY_EVT_STAGE_OVF : Fld := ⟨.GWY_EVT, 7, 1, .W1C⟩
abbrev GWY_CMD_REENABLE : Fld := ⟨.GWY_CMD, 0, 1, .CMD⟩
abbrev GWY_CMD_QUAR_CLR : Fld := ⟨.GWY_CMD, 1, 1, .CMD⟩
abbrev GWY_SRC_CFG_EN : Fld := ⟨.GWY_SRC_CFG, 0, 1, .RW⟩
abbrev GWY_SRC_CFG_MISS_EN : Fld := ⟨.GWY_SRC_CFG, 1, 1, .RW⟩
abbrev GWY_SRC_CFG_MISS_RING : Fld := ⟨.GWY_SRC_CFG, 4, 4, .RW⟩
abbrev GWY_SEG_CFG_SLEEP_HOLD : Fld := ⟨.GWY_SEG_CFG, 0, 1, .RW⟩
abbrev GWY_SEG_CFG_HOLD_DEPTH : Fld := ⟨.GWY_SEG_CFG, 8, 7, .RW⟩
abbrev GWY_SEG_CFG_HOLD_AGE : Fld := ⟨.GWY_SEG_CFG, 16, 8, .RW⟩
abbrev GWY_SEG_STAT_STATE : Fld := ⟨.GWY_SEG_STAT, 0, 2, .RO⟩
abbrev GWY_SEG_STAT_WAKE_REQ : Fld := ⟨.GWY_SEG_STAT, 2, 1, .RO⟩
abbrev GWY_SEG_STAT_HELD : Fld := ⟨.GWY_SEG_STAT, 8, 7, .RO⟩
abbrev GWY_SEG_STAT_DROP : Fld := ⟨.GWY_SEG_STAT, 16, 16, .RO⟩
abbrev GWY_QUAR0_ID : Fld := ⟨.GWY_QUAR0, 0, 29, .RO⟩
abbrev GWY_QUAR0_XTD : Fld := ⟨.GWY_QUAR0, 29, 1, .RO⟩
abbrev GWY_QUAR0_VALID : Fld := ⟨.GWY_QUAR0, 30, 1, .RO⟩
abbrev GWY_QUAR1_SEG : Fld := ⟨.GWY_QUAR1, 0, 4, .RO⟩
abbrev GWY_QUAR1_LEFT : Fld := ⟨.GWY_QUAR1, 16, 12, .RO⟩
abbrev GWY_RING_CFG_EN : Fld := ⟨.GWY_RING_CFG, 0, 1, .RW⟩
abbrev GWY_RING_CFG_POLICY : Fld := ⟨.GWY_RING_CFG, 1, 2, .RW⟩
abbrev GWY_RING_CFG_PORT : Fld := ⟨.GWY_RING_CFG, 8, 4, .RW⟩
abbrev GWY_RING_CFG_DEPTH : Fld := ⟨.GWY_RING_CFG, 16, 13, .RW⟩
abbrev GWY_RING_BASE_BASE : Fld := ⟨.GWY_RING_BASE, 0, 32, .RW⟩
abbrev GWY_RING_WM_HI : Fld := ⟨.GWY_RING_WM, 0, 13, .RW⟩
abbrev GWY_RING_WM_LO : Fld := ⟨.GWY_RING_WM, 16, 13, .RW⟩
abbrev GWY_RING_PUT_PUT : Fld := ⟨.GWY_RING_PUT, 0, 12, .RO⟩
abbrev GWY_RING_GET_GET : Fld := ⟨.GWY_RING_GET, 0, 12, .RW⟩
abbrev GWY_RING_STAT_FILL : Fld := ⟨.GWY_RING_STAT, 0, 13, .RO⟩
abbrev GWY_RING_STAT_HIGH : Fld := ⟨.GWY_RING_STAT, 13, 1, .RO⟩
abbrev GWY_RING_STAT_BP : Fld := ⟨.GWY_RING_STAT, 14, 1, .RO⟩
abbrev GWY_RING_STAT_DROP : Fld := ⟨.GWY_RING_STAT, 16, 16, .RO⟩
abbrev GWY_ACF_SIDLO_SID : Fld := ⟨.GWY_ACF_SIDLO, 0, 32, .RW⟩
abbrev GWY_ACF_SIDHI_SID : Fld := ⟨.GWY_ACF_SIDHI, 0, 32, .RW⟩
abbrev GWY_ACF_DMACLO_MACLO : Fld := ⟨.GWY_ACF_DMACLO, 0, 32, .RW⟩
abbrev GWY_ACF_DMACHI_MACHI : Fld := ⟨.GWY_ACF_DMACHI, 0, 16, .RW⟩
abbrev GWY_ACF_DMACHI_VID : Fld := ⟨.GWY_ACF_DMACHI, 16, 12, .RW⟩
abbrev GWY_ACF_DMACHI_PCP : Fld := ⟨.GWY_ACF_DMACHI, 28, 3, .RW⟩
abbrev GWY_ACF_TXCFG_MAX_BYTES : Fld := ⟨.GWY_ACF_TXCFG, 0, 11, .RW⟩
abbrev GWY_ACF_TXCFG_FLUSH : Fld := ⟨.GWY_ACF_TXCFG, 16, 10, .RW⟩
abbrev GWY_ACF_TXCFG_BUS_OFS : Fld := ⟨.GWY_ACF_TXCFG, 26, 5, .RW⟩
abbrev GWY_ACF_TXCFG_BRIEF : Fld := ⟨.GWY_ACF_TXCFG, 31, 1, .RW⟩
abbrev GWY_ACF_RXLO_SID : Fld := ⟨.GWY_ACF_RXLO, 0, 32, .RW⟩
abbrev GWY_ACF_RXHI_SID : Fld := ⟨.GWY_ACF_RXHI, 0, 32, .RW⟩
abbrev GWY_ACF_RXEN_EN : Fld := ⟨.GWY_ACF_RXEN, 0, 1, .RW⟩
abbrev GWY_BKT_CFG_RATE : Fld := ⟨.GWY_BKT_CFG, 0, 16, .RW⟩
abbrev GWY_BKT_CFG_BURST : Fld := ⟨.GWY_BKT_CFG, 16, 8, .RW⟩
abbrev GWY_BKT_STAT_TOKENS : Fld := ⟨.GWY_BKT_STAT, 0, 8, .RO⟩
abbrev GWY_BKT_STAT_DROP : Fld := ⟨.GWY_BKT_STAT, 16, 16, .RO⟩
abbrev GWY_RTE_CNT_HIT : Fld := ⟨.GWY_RTE_CNT, 0, 16, .RO⟩
abbrev GWY_RTE_CNT_DROP : Fld := ⟨.GWY_RTE_CNT, 16, 16, .RO⟩
abbrev GWY_RTE0_ID : Fld := ⟨.GWY_RTE0, 0, 29, .RW⟩
abbrev GWY_RTE0_XTD : Fld := ⟨.GWY_RTE0, 29, 1, .RW⟩
abbrev GWY_RTE0_EN : Fld := ⟨.GWY_RTE0, 30, 1, .RW⟩
abbrev GWY_RTE0_REWRITE : Fld := ⟨.GWY_RTE0, 31, 1, .RW⟩
abbrev GWY_RTE1_MASK : Fld := ⟨.GWY_RTE1, 0, 29, .RW⟩
abbrev GWY_RTE1_POLICY : Fld := ⟨.GWY_RTE1, 29, 2, .RW⟩
abbrev GWY_RTE1_WAKE : Fld := ⟨.GWY_RTE1, 31, 1, .RW⟩
abbrev GWY_RTE2_EGRESS : Fld := ⟨.GWY_RTE2, 0, 16, .RW⟩
abbrev GWY_RTE2_SRC : Fld := ⟨.GWY_RTE2, 16, 6, .RW⟩
abbrev GWY_RTE2_RING : Fld := ⟨.GWY_RTE2, 22, 4, .RW⟩
abbrev GWY_RTE2_COPY : Fld := ⟨.GWY_RTE2, 26, 1, .RW⟩
abbrev GWY_RTE2_BUCKET : Fld := ⟨.GWY_RTE2, 27, 5, .RW⟩
abbrev GWY_RTE3_NEWID : Fld := ⟨.GWY_RTE3, 0, 29, .RW⟩
abbrev GWY_RTE3_NEWXTD : Fld := ⟨.GWY_RTE3, 29, 1, .RW⟩
abbrev ETH_PCTRL_EN : Fld := ⟨.ETH_PCTRL, 0, 1, .RW⟩
abbrev ETH_PCTRL_AN_EN : Fld := ⟨.ETH_PCTRL, 1, 1, .RW⟩
abbrev ETH_PCTRL_FIX_SPEED : Fld := ⟨.ETH_PCTRL, 2, 1, .RW⟩
abbrev ETH_PCTRL_FIX_ROLE : Fld := ⟨.ETH_PCTRL, 3, 1, .RW⟩
abbrev ETH_PCTRL_AN_ADV : Fld := ⟨.ETH_PCTRL, 4, 2, .RW⟩
abbrev ETH_PCTRL_AN_ROLE : Fld := ⟨.ETH_PCTRL, 6, 2, .RW⟩
abbrev ETH_PCTRL_TC10_EN : Fld := ⟨.ETH_PCTRL, 8, 1, .RW⟩
abbrev ETH_PCTRL_AN_TIMEOUT : Fld := ⟨.ETH_PCTRL, 16, 8, .RW⟩
abbrev ETH_PVLAN_PVID : Fld := ⟨.ETH_PVLAN, 0, 12, .RW⟩
abbrev ETH_PVLAN_DEF_PCP : Fld := ⟨.ETH_PVLAN, 12, 3, .RW⟩
abbrev ETH_PVLAN_ACCEPT : Fld := ⟨.ETH_PVLAN, 16, 2, .RW⟩
abbrev ETH_PSTAT_LINK : Fld := ⟨.ETH_PSTAT, 0, 1, .RO⟩
abbrev ETH_PSTAT_SPEED : Fld := ⟨.ETH_PSTAT, 1, 1, .RO⟩
abbrev ETH_PSTAT_ROLE : Fld := ⟨.ETH_PSTAT, 2, 1, .RO⟩
abbrev ETH_PSTAT_SRC : Fld := ⟨.ETH_PSTAT, 3, 2, .RO⟩
abbrev ETH_PSTAT_SQI : Fld := ⟨.ETH_PSTAT, 5, 3, .RO⟩
abbrev ETH_PSTAT_TC10 : Fld := ⟨.ETH_PSTAT, 8, 2, .RO⟩
abbrev ETH_PCNT0_RX : Fld := ⟨.ETH_PCNT0, 0, 16, .RO⟩
abbrev ETH_PCNT0_TX : Fld := ⟨.ETH_PCNT0, 16, 16, .RO⟩
abbrev ETH_PCNT1_FCS_ERR : Fld := ⟨.ETH_PCNT1, 0, 8, .RO⟩
abbrev ETH_PCNT1_STOMP : Fld := ⟨.ETH_PCNT1, 8, 8, .RO⟩
abbrev ETH_PCNT1_DROP : Fld := ⟨.ETH_PCNT1, 16, 8, .RO⟩
abbrev ETH_PCNT1_OVERSIZE : Fld := ⟨.ETH_PCNT1, 24, 8, .RO⟩
abbrev ETH_PEVT_UP : Fld := ⟨.ETH_PEVT, 0, 1, .W1C⟩
abbrev ETH_PEVT_DOWN : Fld := ⟨.ETH_PEVT, 1, 1, .W1C⟩
abbrev ETH_PEVT_FALLBACK : Fld := ⟨.ETH_PEVT, 2, 1, .W1C⟩
abbrev ETH_PEVT_AN_FAIL : Fld := ⟨.ETH_PEVT, 3, 1, .W1C⟩
abbrev ETH_PEVT_WAKE : Fld := ⟨.ETH_PEVT, 4, 1, .W1C⟩
abbrev ETH_PCMD_RENEG : Fld := ⟨.ETH_PCMD, 0, 1, .CMD⟩
abbrev ETH_SW_CTRL_CT_EN : Fld := ⟨.ETH_SW_CTRL, 0, 1, .RW⟩
abbrev ETH_SW_CTRL_AGE : Fld := ⟨.ETH_SW_CTRL, 4, 20, .RW⟩
abbrev ETH_SW_QMAP_Q0 : Fld := ⟨.ETH_SW_QMAP, 0, 3, .RW⟩
abbrev ETH_SW_QMAP_Q1 : Fld := ⟨.ETH_SW_QMAP, 3, 3, .RW⟩
abbrev ETH_SW_QMAP_Q2 : Fld := ⟨.ETH_SW_QMAP, 6, 3, .RW⟩
abbrev ETH_SW_QMAP_Q3 : Fld := ⟨.ETH_SW_QMAP, 9, 3, .RW⟩
abbrev ETH_SW_QMAP_Q4 : Fld := ⟨.ETH_SW_QMAP, 12, 3, .RW⟩
abbrev ETH_SW_QMAP_Q5 : Fld := ⟨.ETH_SW_QMAP, 15, 3, .RW⟩
abbrev ETH_SW_QMAP_Q6 : Fld := ⟨.ETH_SW_QMAP, 18, 3, .RW⟩
abbrev ETH_SW_QMAP_Q7 : Fld := ⟨.ETH_SW_QMAP, 21, 3, .RW⟩
abbrev ETH_SW_STAT_MAC_USED : Fld := ⟨.ETH_SW_STAT, 0, 13, .RO⟩
abbrev ETH_SW_STAT_SAFE : Fld := ⟨.ETH_SW_STAT, 13, 1, .RO⟩
abbrev ETH_SW_STAT_LEARN_FAIL : Fld := ⟨.ETH_SW_STAT, 16, 8, .RO⟩
abbrev ETH_MAC_CMD_OP : Fld := ⟨.ETH_MAC_CMD, 0, 2, .WO⟩
abbrev ETH_MAC_CMD_BUSY : Fld := ⟨.ETH_MAC_CMD, 4, 1, .RO⟩
abbrev ETH_MAC_CMD_FAIL : Fld := ⟨.ETH_MAC_CMD, 5, 1, .RO⟩
abbrev ETH_MAC_CMD_GO : Fld := ⟨.ETH_MAC_CMD, 31, 1, .CMD⟩
abbrev ETH_MAC_D0_MACLO : Fld := ⟨.ETH_MAC_D0, 0, 32, .RW⟩
abbrev ETH_MAC_D1_MACHI : Fld := ⟨.ETH_MAC_D1, 0, 16, .RW⟩
abbrev ETH_MAC_D1_VID : Fld := ⟨.ETH_MAC_D1, 16, 12, .RW⟩
abbrev ETH_MAC_D2_PORTS : Fld := ⟨.ETH_MAC_D2, 0, 5, .RW⟩
abbrev ETH_MAC_D2_STATIC : Fld := ⟨.ETH_MAC_D2, 8, 1, .RW⟩
abbrev ETH_MAC_D2_VALID : Fld := ⟨.ETH_MAC_D2, 9, 1, .RO⟩
abbrev ETH_SW_CMD_REENABLE : Fld := ⟨.ETH_SW_CMD, 0, 1, .CMD⟩
abbrev ETH_VLAN_MEMBER : Fld := ⟨.ETH_VLAN, 0, 5, .RW⟩
abbrev ETH_VLAN_UNTAG : Fld := ⟨.ETH_VLAN, 8, 5, .RW⟩
abbrev TIDE_CTRL_MANUAL : Fld := ⟨.TIDE_CTRL, 0, 1, .RW⟩
abbrev TIDE_CTRL_SELF_VALID : Fld := ⟨.TIDE_CTRL, 1, 1, .RW⟩
abbrev TIDE_CTRL_KP : Fld := ⟨.TIDE_CTRL, 8, 8, .RW⟩
abbrev TIDE_CTRL_KI : Fld := ⟨.TIDE_CTRL, 16, 8, .RW⟩
abbrev TIDE_SRC_SRC0 : Fld := ⟨.TIDE_SRC, 0, 4, .RW⟩
abbrev TIDE_SRC_SRC1 : Fld := ⟨.TIDE_SRC, 4, 4, .RW⟩
abbrev TIDE_SRC_SRC2 : Fld := ⟨.TIDE_SRC, 8, 4, .RW⟩
abbrev TIDE_SRC_SRC3 : Fld := ⟨.TIDE_SRC, 12, 4, .RW⟩
abbrev TIDE_SERVO_STEP_THR : Fld := ⟨.TIDE_SERVO, 0, 16, .RW⟩
abbrev TIDE_SERVO_RATE_MAX : Fld := ⟨.TIDE_SERVO, 16, 11, .RW⟩
abbrev TIDE_HOLD_HOLD_LIMIT : Fld := ⟨.TIDE_HOLD, 0, 8, .RW⟩
abbrev TIDE_STAT_STATE : Fld := ⟨.TIDE_STAT, 0, 3, .RO⟩
abbrev TIDE_STAT_VALID : Fld := ⟨.TIDE_STAT, 3, 1, .RO⟩
abbrev TIDE_STAT_COARSE : Fld := ⟨.TIDE_STAT, 4, 1, .RO⟩
abbrev TIDE_STAT_GM : Fld := ⟨.TIDE_STAT, 5, 1, .RO⟩
abbrev TIDE_STAT_ACTIVE : Fld := ⟨.TIDE_STAT, 6, 4, .RO⟩
abbrev TIDE_STAT_SLOT : Fld := ⟨.TIDE_STAT, 10, 2, .RO⟩
abbrev TIDE_STAT_UNC : Fld := ⟨.TIDE_STAT, 16, 16, .RO⟩
abbrev TIDE_OFS_OFS : Fld := ⟨.TIDE_OFS, 0, 32, .RO⟩
abbrev TIDE_RATE_RATE : Fld := ⟨.TIDE_RATE, 0, 32, .RW⟩
abbrev TIDE_EVT_STEP : Fld := ⟨.TIDE_EVT, 0, 1, .W1C⟩
abbrev TIDE_EVT_LOCK : Fld := ⟨.TIDE_EVT, 1, 1, .W1C⟩
abbrev TIDE_EVT_HOLDOVER : Fld := ⟨.TIDE_EVT, 2, 1, .W1C⟩
abbrev TIDE_EVT_SRC_CHANGE : Fld := ⟨.TIDE_EVT, 3, 1, .W1C⟩
abbrev TIDE_EVT_GM_CHANGE : Fld := ⟨.TIDE_EVT, 4, 1, .W1C⟩
abbrev TIDE_EVT_COARSE_END : Fld := ⟨.TIDE_EVT, 5, 1, .W1C⟩
abbrev TIDE_EVT_REFUSED : Fld := ⟨.TIDE_EVT, 6, 1, .W1C⟩
abbrev TIDE_EVT_HOLD_LONG : Fld := ⟨.TIDE_EVT, 7, 1, .W1C⟩
abbrev TIDE_FREE_LO_FREE : Fld := ⟨.TIDE_FREE_LO, 0, 32, .RO⟩
abbrev TIDE_FREE_HI_FREE : Fld := ⟨.TIDE_FREE_HI, 0, 32, .RO⟩
abbrev TIDE_SNAP_LO_T : Fld := ⟨.TIDE_SNAP_LO, 0, 32, .RO⟩
abbrev TIDE_SNAP_HI_T : Fld := ⟨.TIDE_SNAP_HI, 0, 32, .RO⟩
abbrev TIDE_STEP_LO_V : Fld := ⟨.TIDE_STEP_LO, 0, 32, .WO⟩
abbrev TIDE_STEP_HI_V : Fld := ⟨.TIDE_STEP_HI, 0, 32, .WO⟩
abbrev TIDE_SET_LO_V : Fld := ⟨.TIDE_SET_LO, 0, 32, .WO⟩
abbrev TIDE_SET_HI_V : Fld := ⟨.TIDE_SET_HI, 0, 32, .WO⟩
abbrev TIDE_CMP_FLAG_FLAG : Fld := ⟨.TIDE_CMP_FLAG, 0, 16, .W1C⟩
abbrev TIDE_PTP_CFG_PORT_EN : Fld := ⟨.TIDE_PTP_CFG, 0, 4, .RW⟩
abbrev TIDE_PTP_CFG_PRIO1 : Fld := ⟨.TIDE_PTP_CFG, 8, 8, .RW⟩
abbrev TIDE_PTP_CFG_PRIO2 : Fld := ⟨.TIDE_PTP_CFG, 16, 8, .RW⟩
abbrev TIDE_PTP_CFG_SYNC_EXP : Fld := ⟨.TIDE_PTP_CFG, 24, 3, .RW⟩
abbrev TIDE_PTP_STAT_ROLE : Fld := ⟨.TIDE_PTP_STAT, 0, 8, .RO⟩
abbrev TIDE_PTP_STAT_AS_CAP : Fld := ⟨.TIDE_PTP_STAT, 8, 4, .RO⟩
abbrev TIDE_PTP_STAT_STEPS : Fld := ⟨.TIDE_PTP_STAT, 16, 8, .RO⟩
abbrev TIDE_GM_LO_ID : Fld := ⟨.TIDE_GM_LO, 0, 32, .RO⟩
abbrev TIDE_GM_HI_ID : Fld := ⟨.TIDE_GM_HI, 0, 32, .RO⟩
abbrev TIDE_PDELAY_DELAY : Fld := ⟨.TIDE_PDELAY, 0, 24, .RO⟩
abbrev TIDE_CMP_TLO_T : Fld := ⟨.TIDE_CMP_TLO, 0, 32, .RW⟩
abbrev TIDE_CMP_THI_T : Fld := ⟨.TIDE_CMP_THI, 0, 32, .RW⟩
abbrev TIDE_CMP_CTRL_EN : Fld := ⟨.TIDE_CMP_CTRL, 0, 1, .RW⟩
abbrev TIDE_CMP_CTRL_JNL : Fld := ⟨.TIDE_CMP_CTRL, 1, 1, .RW⟩
abbrev TIDE_CMP_CTRL_MISS : Fld := ⟨.TIDE_CMP_CTRL, 8, 8, .RO⟩
abbrev TIDE_CMP_PER_PER : Fld := ⟨.TIDE_CMP_PER, 0, 32, .RW⟩
abbrev NM_CTRL_EN : Fld := ⟨.NM_CTRL, 0, 1, .RW⟩
abbrev NM_CTRL_MA_ALWAYS : Fld := ⟨.NM_CTRL, 1, 1, .RW⟩
abbrev NM_MODNEED_NEED : Fld := ⟨.NM_MODNEED, 0, 1, .RW⟩
abbrev NM_WAKE_CFG_WAKEIN_EN : Fld := ⟨.NM_WAKE_CFG, 0, 1, .RW⟩
abbrev NM_WAKE_CFG_TIMER_EN : Fld := ⟨.NM_WAKE_CFG, 1, 1, .RW⟩
abbrev NM_WAKE_CFG_WO_MODE : Fld := ⟨.NM_WAKE_CFG, 2, 2, .RW⟩
abbrev NM_WAKE_CFG_WO_PULSE : Fld := ⟨.NM_WAKE_CFG, 8, 8, .RW⟩
abbrev NM_WAKE_TIMER_SECONDS : Fld := ⟨.NM_WAKE_TIMER, 0, 20, .RW⟩
abbrev NM_WAKE_REASON_CAUSE : Fld := ⟨.NM_WAKE_REASON, 0, 4, .RO⟩
abbrev NM_WAKE_REASON_INDEX : Fld := ⟨.NM_WAKE_REASON, 4, 4, .RO⟩
abbrev NM_WAKE_SRC_CAN : Fld := ⟨.NM_WAKE_SRC, 0, 8, .W1C⟩
abbrev NM_WAKE_SRC_WAKE_IN : Fld := ⟨.NM_WAKE_SRC, 8, 1, .W1C⟩
abbrev NM_WAKE_SRC_DI : Fld := ⟨.NM_WAKE_SRC, 9, 1, .W1C⟩
abbrev NM_WAKE_SRC_TOKEN : Fld := ⟨.NM_WAKE_SRC, 10, 1, .W1C⟩
abbrev NM_WAKE_SRC_TIMER : Fld := ⟨.NM_WAKE_SRC, 11, 1, .W1C⟩
abbrev NM_WAKE_SRC_EXTRACT : Fld := ⟨.NM_WAKE_SRC, 12, 1, .W1C⟩
abbrev NM_WAKE_SRC_RECOV : Fld := ⟨.NM_WAKE_SRC, 13, 1, .W1C⟩
abbrev NM_WAKE_SRC_DEBUG : Fld := ⟨.NM_WAKE_SRC, 14, 1, .W1C⟩
abbrev NM_STAT_SLEEP_OK : Fld := ⟨.NM_STAT, 0, 1, .RO⟩
abbrev NM_STAT_SLEEPING : Fld := ⟨.NM_STAT, 1, 1, .RO⟩
abbrev NM_STAT_BLOCK : Fld := ⟨.NM_STAT, 4, 12, .RO⟩
abbrev NM_STAT_MODNEED : Fld := ⟨.NM_STAT, 16, 1, .RO⟩
abbrev NM_EVT_NODE_STUCK : Fld := ⟨.NM_EVT, 0, 1, .W1C⟩
abbrev NM_EVT_OWN_STUCK : Fld := ⟨.NM_EVT, 1, 1, .W1C⟩
abbrev NM_EVT_ISOLATED : Fld := ⟨.NM_EVT, 2, 1, .W1C⟩
abbrev NM_EVT_SLEEP_ABORT : Fld := ⟨.NM_EVT, 3, 1, .W1C⟩
abbrev NM_EVT_HELD : Fld := ⟨.NM_EVT, 4, 1, .W1C⟩
abbrev NM_SEG_CFG_EN : Fld := ⟨.NM_SEG_CFG, 0, 1, .RW⟩
abbrev NM_SEG_CFG_START : Fld := ⟨.NM_SEG_CFG, 1, 1, .RW⟩
abbrev NM_SEG_CFG_ISOLATE_STUCK : Fld := ⟨.NM_SEG_CFG, 2, 1, .RW⟩
abbrev NM_SEG_CFG_MODNEED : Fld := ⟨.NM_SEG_CFG, 3, 1, .RW⟩
abbrev NM_SEG_CFG_WAKEIN : Fld := ⟨.NM_SEG_CFG, 4, 1, .RW⟩
abbrev NM_SEG_CFG_XTD : Fld := ⟨.NM_SEG_CFG, 5, 1, .RW⟩
abbrev NM_SEG_CFG_NODE : Fld := ⟨.NM_SEG_CFG, 8, 6, .RW⟩
abbrev NM_SEG_CFG_NODES : Fld := ⟨.NM_SEG_CFG, 16, 7, .RW⟩
abbrev NM_SEG_KAID_BASE : Fld := ⟨.NM_SEG_KAID, 0, 29, .RW⟩
abbrev NM_SEG_TIME_T_KA : Fld := ⟨.NM_SEG_TIME, 0, 8, .RW⟩
abbrev NM_SEG_TIME_T_PREP : Fld := ⟨.NM_SEG_TIME, 8, 8, .RW⟩
abbrev NM_SEG_TIME_T_SILENCE : Fld := ⟨.NM_SEG_TIME, 16, 12, .RW⟩
abbrev NM_SEG_TIME_REPEAT : Fld := ⟨.NM_SEG_TIME, 28, 4, .RW⟩
abbrev NM_SEG_MAXAW_MAX_AWAKE : Fld := ⟨.NM_SEG_MAXAW, 0, 11, .RW⟩
abbrev NM_SEG_MAXAW_OWN_MAX : Fld := ⟨.NM_SEG_MAXAW, 16, 11, .RW⟩
abbrev NM_SEG_WUF_ID : Fld := ⟨.NM_SEG_WUF, 0, 29, .RW⟩
abbrev NM_SEG_WUF_XTD : Fld := ⟨.NM_SEG_WUF, 29, 1, .RW⟩
abbrev NM_SEG_WUF_EN : Fld := ⟨.NM_SEG_WUF, 30, 1, .RW⟩
abbrev NM_SEG_WUFD0_DATA : Fld := ⟨.NM_SEG_WUFD0, 0, 32, .RW⟩
abbrev NM_SEG_WUFD1_DATA : Fld := ⟨.NM_SEG_WUFD1, 0, 32, .RW⟩
abbrev NM_SEG_NEED_SW : Fld := ⟨.NM_SEG_NEED, 0, 1, .RW⟩
abbrev NM_SEG_STAT_STATE : Fld := ⟨.NM_SEG_STAT, 0, 3, .RO⟩
abbrev NM_SEG_STAT_NEED : Fld := ⟨.NM_SEG_STAT, 3, 1, .RO⟩
abbrev NM_SEG_STAT_OWN_STUCK : Fld := ⟨.NM_SEG_STAT, 4, 1, .RO⟩
abbrev NM_SEG_STAT_HELD : Fld := ⟨.NM_SEG_STAT, 5, 1, .RO⟩
abbrev NM_SEG_STAT_WREASON : Fld := ⟨.NM_SEG_STAT, 8, 4, .RO⟩
abbrev NM_SEG_STAT_SILENCE : Fld := ⟨.NM_SEG_STAT, 16, 16, .RO⟩
abbrev NM_SEG_STUCK0_STUCK : Fld := ⟨.NM_SEG_STUCK0, 0, 32, .RO⟩
abbrev NM_SEG_STUCK1_STUCK : Fld := ⟨.NM_SEG_STUCK1, 0, 32, .RO⟩
abbrev NM_SEG_SEEN0_SEEN : Fld := ⟨.NM_SEG_SEEN0, 0, 32, .RO⟩
abbrev NM_SEG_SEEN1_SEEN : Fld := ⟨.NM_SEG_SEEN1, 0, 32, .RO⟩
abbrev NM_SEG_CMD_WAKE : Fld := ⟨.NM_SEG_CMD, 0, 1, .CMD⟩
abbrev NM_SEG_CMD_UNSTUCK : Fld := ⟨.NM_SEG_CMD, 1, 1, .CMD⟩
abbrev ACC_CTRL_POLL_EN : Fld := ⟨.ACC_CTRL, 0, 1, .RW⟩
abbrev ACC_CTRL_WATCH_EN : Fld := ⟨.ACC_CTRL, 1, 1, .RW⟩
abbrev ACC_CTRL_BAND : Fld := ⟨.ACC_CTRL, 2, 2, .RW⟩
abbrev ACC_CTRL_POLL_INT : Fld := ⟨.ACC_CTRL, 8, 7, .RW⟩
abbrev ACC_AER_EN : Fld := ⟨.ACC_AER, 0, 6, .RW⟩
abbrev ACC_AER_WATCH : Fld := ⟨.ACC_AER, 8, 6, .RW⟩
abbrev ACC_AER_DRIVE : Fld := ⟨.ACC_AER, 16, 5, .RW⟩
abbrev ACC_AER_WATCH_DRIVE : Fld := ⟨.ACC_AER, 24, 5, .RW⟩
abbrev ACC_SEC_RESP_MAX : Fld := ⟨.ACC_SEC, 0, 9, .RW⟩
abbrev ACC_SEC_LOCK_FAILS : Fld := ⟨.ACC_SEC, 12, 4, .RW⟩
abbrev ACC_SEC_LOCK_TIME : Fld := ⟨.ACC_SEC, 16, 16, .RW⟩
abbrev ACC_STAT_POLLING : Fld := ⟨.ACC_STAT, 0, 1, .RO⟩
abbrev ACC_STAT_ENROL : Fld := ⟨.ACC_STAT, 1, 1, .RO⟩
abbrev ACC_STAT_SLOT : Fld := ⟨.ACC_STAT, 4, 4, .RO⟩
abbrev ACC_STAT_ZONE : Fld := ⟨.ACC_STAT, 8, 4, .RO⟩
abbrev ACC_STAT_GATES : Fld := ⟨.ACC_STAT, 16, 8, .RO⟩
abbrev ACC_STAT_USED : Fld := ⟨.ACC_STAT, 24, 7, .RO⟩
abbrev ACC_RSSI0_RSSI : Fld := ⟨.ACC_RSSI0, 0, 32, .RO⟩
abbrev ACC_RSSI1_RSSI : Fld := ⟨.ACC_RSSI1, 0, 16, .RO⟩
abbrev ACC_EVT_OK : Fld := ⟨.ACC_EVT, 0, 1, .W1C⟩
abbrev ACC_EVT_FAIL : Fld := ⟨.ACC_EVT, 1, 1, .W1C⟩
abbrev ACC_EVT_LATE : Fld := ⟨.ACC_EVT, 2, 1, .W1C⟩
abbrev ACC_EVT_COLL : Fld := ⟨.ACC_EVT, 3, 1, .W1C⟩
abbrev ACC_EVT_LOCK : Fld := ⟨.ACC_EVT, 4, 1, .W1C⟩
abbrev ACC_EVT_GATE : Fld := ⟨.ACC_EVT, 5, 1, .W1C⟩
abbrev ACC_EVT_AERIAL : Fld := ⟨.ACC_EVT, 6, 1, .W1C⟩
abbrev ACC_CMD_POLL_NOW : Fld := ⟨.ACC_CMD, 0, 1, .CMD⟩
abbrev ACC_CMD_UNLOCK : Fld := ⟨.ACC_CMD, 1, 1, .CMD⟩
abbrev ACC_ZONE_CFG_EN : Fld := ⟨.ACC_ZONE_CFG, 0, 1, .RW⟩
abbrev ACC_ZONE_CFG_MASK : Fld := ⟨.ACC_ZONE_CFG, 8, 6, .RW⟩
abbrev ACC_ZONE_MIN_MIN0 : Fld := ⟨.ACC_ZONE_MIN, 0, 8, .RW⟩
abbrev ACC_ZONE_MIN_MIN1 : Fld := ⟨.ACC_ZONE_MIN, 8, 8, .RW⟩
abbrev ACC_ZONE_MIN_MIN2 : Fld := ⟨.ACC_ZONE_MIN, 16, 8, .RW⟩
abbrev ACC_ZONE_MIN_MIN3 : Fld := ⟨.ACC_ZONE_MIN, 24, 8, .RW⟩
abbrev ACC_ZONE_EXT_MIN4 : Fld := ⟨.ACC_ZONE_EXT, 0, 8, .RW⟩
abbrev ACC_ZONE_EXT_MIN5 : Fld := ⟨.ACC_ZONE_EXT, 8, 8, .RW⟩
abbrev ACC_ZONE_EXT_MAX4 : Fld := ⟨.ACC_ZONE_EXT, 16, 8, .RW⟩
abbrev ACC_ZONE_EXT_MAX5 : Fld := ⟨.ACC_ZONE_EXT, 24, 8, .RW⟩
abbrev ACC_ZONE_MAX_MAX0 : Fld := ⟨.ACC_ZONE_MAX, 0, 8, .RW⟩
abbrev ACC_ZONE_MAX_MAX1 : Fld := ⟨.ACC_ZONE_MAX, 8, 8, .RW⟩
abbrev ACC_ZONE_MAX_MAX2 : Fld := ⟨.ACC_ZONE_MAX, 16, 8, .RW⟩
abbrev ACC_ZONE_MAX_MAX3 : Fld := ⟨.ACC_ZONE_MAX, 24, 8, .RW⟩
abbrev ACC_GATE_CFG_MODE : Fld := ⟨.ACC_GATE_CFG, 0, 1, .RW⟩
abbrev ACC_GATE_CFG_ZONES : Fld := ⟨.ACC_GATE_CFG, 16, 16, .RW⟩
abbrev ACC_GATE_SEL_SLOTS : Fld := ⟨.ACC_GATE_SEL, 0, 16, .RW⟩
abbrev ACC_GATE_SEL_WINDOW : Fld := ⟨.ACC_GATE_SEL, 16, 12, .RW⟩
abbrev ACC_GATE_HOLD_HOLD_SRC : Fld := ⟨.ACC_GATE_HOLD, 0, 9, .RW⟩
abbrev ACC_GATE_HOLD_HOLD_INV : Fld := ⟨.ACC_GATE_HOLD, 9, 1, .RW⟩
abbrev ACC_GATE_MSG_ID : Fld := ⟨.ACC_GATE_MSG, 0, 29, .RW⟩
abbrev ACC_GATE_MSG_XTD : Fld := ⟨.ACC_GATE_MSG, 29, 1, .RW⟩
abbrev ACC_MSGCFG_PERIOD : Fld := ⟨.ACC_MSGCFG, 0, 16, .RW⟩
abbrev ACC_MSGCFG_PORT : Fld := ⟨.ACC_MSGCFG, 16, 3, .RW⟩
abbrev ACC_MSGCFG_MSG_EN : Fld := ⟨.ACC_MSGCFG, 19, 1, .RW⟩
abbrev ACC_GOUT_GATE : Fld := ⟨.ACC_GOUT, 0, 4, .RW⟩
abbrev ACC_SLOT_STAT_OCC : Fld := ⟨.ACC_SLOT_STAT, 0, 1, .RO⟩
abbrev ACC_SLOT_STAT_MASTER : Fld := ⟨.ACC_SLOT_STAT, 1, 1, .RO⟩
abbrev ACC_SLOT_STAT_VER : Fld := ⟨.ACC_SLOT_STAT, 4, 4, .RO⟩
abbrev ACC_SLOT_STAT_ZONE : Fld := ⟨.ACC_SLOT_STAT, 8, 4, .RO⟩
abbrev ACC_SLOT_STAT_RESULT : Fld := ⟨.ACC_SLOT_STAT, 12, 4, .RO⟩
abbrev ACC_SLOT_STAT_DELAY : Fld := ⟨.ACC_SLOT_STAT, 16, 16, .RO⟩
abbrev ACC_SLOT_ID_ID : Fld := ⟨.ACC_SLOT_ID, 0, 32, .RO⟩
abbrev ACC_SLOT_AGE_AGE : Fld := ⟨.ACC_SLOT_AGE, 0, 32, .RO⟩
abbrev ACC_DENY_ID : Fld := ⟨.ACC_DENY, 0, 32, .RO⟩
abbrev UPD_CTRL_PARK_SRC : Fld := ⟨.UPD_CTRL, 0, 9, .RW⟩
abbrev UPD_CTRL_PARK_INV : Fld := ⟨.UPD_CTRL, 9, 1, .RW⟩
abbrev UPD_CTRL_TRIAL_TIME : Fld := ⟨.UPD_CTRL, 16, 8, .RW⟩
abbrev UPD_STAT_STATE : Fld := ⟨.UPD_STAT, 0, 3, .RO⟩
abbrev UPD_STAT_PREFIX_OK : Fld := ⟨.UPD_STAT, 3, 1, .RO⟩
abbrev UPD_STAT_REFUSE : Fld := ⟨.UPD_STAT, 4, 4, .RO⟩
abbrev UPD_STAT_BLOCKS : Fld := ⟨.UPD_STAT, 8, 10, .RO⟩
abbrev UPD_STAT_BUF : Fld := ⟨.UPD_STAT, 18, 4, .RO⟩
abbrev UPD_STAT_RECOVERY : Fld := ⟨.UPD_STAT, 22, 1, .RO⟩
abbrev UPD_INFO_NBLK : Fld := ⟨.UPD_INFO, 0, 10, .RO⟩
abbrev UPD_INFO_TRIAL : Fld := ⟨.UPD_INFO, 12, 2, .RO⟩
abbrev UPD_INFO_ROLLBACK : Fld := ⟨.UPD_INFO, 16, 8, .RO⟩
abbrev UPD_INFO_SROLL : Fld := ⟨.UPD_INFO, 24, 8, .RO⟩
abbrev UPD_SVER_VERSION : Fld := ⟨.UPD_SVER, 0, 32, .RO⟩
abbrev UPD_RVER_VERSION : Fld := ⟨.UPD_RVER, 0, 32, .RO⟩
abbrev UPD_CMD_ACTIVATE : Fld := ⟨.UPD_CMD, 0, 1, .CMD⟩
abbrev UPD_CMD_CLEAR : Fld := ⟨.UPD_CMD, 1, 1, .CMD⟩
abbrev UPD_CMD_KEY : Fld := ⟨.UPD_CMD, 8, 8, .WO⟩
abbrev UPD_EVT_HDR_BAD : Fld := ⟨.UPD_EVT, 0, 1, .W1C⟩
abbrev UPD_EVT_BLOCK_BAD : Fld := ⟨.UPD_EVT, 1, 1, .W1C⟩
abbrev UPD_EVT_STAGED : Fld := ⟨.UPD_EVT, 2, 1, .W1C⟩
abbrev UPD_EVT_REFUSED : Fld := ⟨.UPD_EVT, 3, 1, .W1C⟩
abbrev UPD_EVT_RESOLED : Fld := ⟨.UPD_EVT, 4, 1, .W1C⟩
abbrev UPD_EVT_CONFIRMED : Fld := ⟨.UPD_EVT, 5, 1, .W1C⟩
abbrev UPD_BITMAP_STAGED : Fld := ⟨.UPD_BITMAP, 0, 32, .RO⟩
abbrev CUST_LC_STATE : Fld := ⟨.CUST_LC, 0, 3, .RO⟩
abbrev CUST_LC_RETURNS : Fld := ⟨.CUST_LC, 4, 2, .RO⟩
abbrev CUST_LC_ENROL : Fld := ⟨.CUST_LC, 8, 7, .RO⟩
abbrev CUST_LC_DBG : Fld := ⟨.CUST_LC, 16, 2, .RO⟩
abbrev CUST_LC_DBG_LOCK : Fld := ⟨.CUST_LC, 18, 1, .RO⟩
abbrev CUST_LC_SAFE : Fld := ⟨.CUST_LC, 19, 1, .RO⟩
abbrev CUST_MBX0_CMD_OP : Fld := ⟨.CUST_MBX0_CMD, 0, 8, .WO⟩
abbrev CUST_MBX0_CMD_KEY : Fld := ⟨.CUST_MBX0_CMD, 8, 8, .WO⟩
abbrev CUST_MBX0_CMD_LEN : Fld := ⟨.CUST_MBX0_CMD, 16, 9, .WO⟩
abbrev CUST_MBX0_CMD_GO : Fld := ⟨.CUST_MBX0_CMD, 31, 1, .CMD⟩
abbrev CUST_MBX0_STAT_BUSY : Fld := ⟨.CUST_MBX0_STAT, 0, 1, .RO⟩
abbrev CUST_MBX0_STAT_DONE : Fld := ⟨.CUST_MBX0_STAT, 1, 1, .W1C⟩
abbrev CUST_MBX0_STAT_ERR : Fld := ⟨.CUST_MBX0_STAT, 2, 1, .RO⟩
abbrev CUST_MBX0_STAT_REFUSED : Fld := ⟨.CUST_MBX0_STAT, 3, 1, .W1C⟩
abbrev CUST_MBX0_STAT_OWNER : Fld := ⟨.CUST_MBX0_STAT, 4, 3, .RO⟩
abbrev CUST_MBX0_STAT_ERRCODE : Fld := ⟨.CUST_MBX0_STAT, 8, 8, .RO⟩
abbrev CUST_MBX0_DATA_D : Fld := ⟨.CUST_MBX0_DATA, 0, 32, .RW⟩
abbrev CUST_MBX1_CMD_OP : Fld := ⟨.CUST_MBX1_CMD, 0, 8, .WO⟩
abbrev CUST_MBX1_CMD_KEY : Fld := ⟨.CUST_MBX1_CMD, 8, 8, .WO⟩
abbrev CUST_MBX1_CMD_LEN : Fld := ⟨.CUST_MBX1_CMD, 16, 9, .WO⟩
abbrev CUST_MBX1_CMD_GO : Fld := ⟨.CUST_MBX1_CMD, 31, 1, .CMD⟩
abbrev CUST_MBX1_STAT_BUSY : Fld := ⟨.CUST_MBX1_STAT, 0, 1, .RO⟩
abbrev CUST_MBX1_STAT_DONE : Fld := ⟨.CUST_MBX1_STAT, 1, 1, .W1C⟩
abbrev CUST_MBX1_STAT_ERR : Fld := ⟨.CUST_MBX1_STAT, 2, 1, .RO⟩
abbrev CUST_MBX1_STAT_REFUSED : Fld := ⟨.CUST_MBX1_STAT, 3, 1, .W1C⟩
abbrev CUST_MBX1_STAT_OWNER : Fld := ⟨.CUST_MBX1_STAT, 4, 3, .RO⟩
abbrev CUST_MBX1_STAT_ERRCODE : Fld := ⟨.CUST_MBX1_STAT, 8, 8, .RO⟩
abbrev CUST_MBX1_DATA_D : Fld := ⟨.CUST_MBX1_DATA, 0, 32, .RW⟩
abbrev JNL_CTRL_PERSIST_MIN : Fld := ⟨.JNL_CTRL, 0, 3, .RW⟩
abbrev JNL_CTRL_EMCY_MIN : Fld := ⟨.JNL_CTRL, 4, 3, .RW⟩
abbrev JNL_STAT_FILL : Fld := ⟨.JNL_STAT, 0, 13, .RO⟩
abbrev JNL_STAT_UNPERS : Fld := ⟨.JNL_STAT, 16, 10, .RO⟩
abbrev JNL_STAT_FLUSHING : Fld := ⟨.JNL_STAT, 26, 1, .RO⟩
abbrev JNL_SEQ_NEW_SEQ : Fld := ⟨.JNL_SEQ_NEW, 0, 32, .RO⟩
abbrev JNL_SEQ_OLD_SEQ : Fld := ⟨.JNL_SEQ_OLD, 0, 32, .RO⟩
abbrev JNL_SEQ_PERS_SEQ : Fld := ⟨.JNL_SEQ_PERS, 0, 32, .RO⟩
abbrev JNL_ERR_ERR_REG : Fld := ⟨.JNL_ERR, 0, 8, .RO⟩
abbrev JNL_ERR_ACTIVE : Fld := ⟨.JNL_ERR, 8, 8, .RO⟩
abbrev JNL_CNT_OVERRUN : Fld := ⟨.JNL_CNT, 0, 16, .RO⟩
abbrev JNL_CNT_EMCY_DROP : Fld := ⟨.JNL_CNT, 16, 16, .RO⟩
abbrev JNL_CMD_FLUSH : Fld := ⟨.JNL_CMD, 0, 1, .CMD⟩
abbrev JNL_CMD_CLR_1003 : Fld := ⟨.JNL_CMD, 1, 1, .CMD⟩
abbrev JNL_RD_SEQ_SEQ : Fld := ⟨.JNL_RD_SEQ, 0, 32, .RW⟩
abbrev JNL_RD_STAT_STAT : Fld := ⟨.JNL_RD_STAT, 0, 2, .RO⟩
abbrev JNL_WIN_W : Fld := ⟨.JNL_WIN, 0, 32, .RO⟩
end F

/-- The card of each register. -/
def Reg.card : Reg → Card
  | .SYS_MODE => ⟨⟨0x40000000, 1, 0, 1, 0⟩, 0x00000002, .U, false, .PER, false⟩
  | .SYS_MODE_CMD => ⟨⟨0x40000004, 1, 0, 1, 0⟩, 0x00000000, .P, false, .PER, false⟩
  | .SYS_CFG => ⟨⟨0x40000008, 1, 0, 1, 0⟩, 0x00000000, .P, true, .PER, false⟩
  | .SYS_RST_CAUSE => ⟨⟨0x4000000C, 1, 0, 1, 0⟩, 0x00000001, .U, false, .AON, false⟩
  | .SYS_LOAD => ⟨⟨0x40000080, 1, 0, 1, 0⟩, 0x00000000, .U, false, .PER, false⟩
  | .SYS_HRP_STAT => ⟨⟨0x40000100, 1, 0, 1, 0⟩, 0x00000000, .P, false, .PER, false⟩
  | .SYS_HRP_CTRL => ⟨⟨0x40000104, 1, 0, 1, 0⟩, 0x00000A01, .S, true, .PER, false⟩
  | .SYS_BOLLARD_FEED => ⟨⟨0x40000200, 1, 0, 1, 0⟩, 0x00000000, .P, false, .PER, false⟩
  | .CLK_STAT => ⟨⟨0x40010000, 1, 0, 1, 0⟩, 0x000001FF, .P, false, .PER, false⟩
  | .CLK_WELT => ⟨⟨0x40010010, 1, 0, 1, 0⟩, 0x00000000, .P, false, .PER, false⟩
  | .GUARD_VIOL => ⟨⟨0x40020000, 1, 0, 1, 0⟩, 0x00000000, .P, false, .PER, false⟩
  | .GUARD_VLAST => ⟨⟨0x40020004, 1, 0, 1, 0⟩, 0x00000000, .P, false, .PER, false⟩
  | .GUARD_VINFO => ⟨⟨0x40020008, 1, 0, 1, 0⟩, 0x00000000, .P, false, .PER, false⟩
  | .GUARD_BERR_ADDR => ⟨⟨0x40020010, 1, 0, 1, 0⟩, 0x00000000, .P, false, .PER, false⟩
  | .GUARD_BERR_INFO => ⟨⟨0x40020014, 1, 0, 1, 0⟩, 0x00000000, .P, false, .PER, false⟩
  | .GUARD_PAR_ADDR => ⟨⟨0x40020020, 1, 0, 1, 0⟩, 0x00000000, .P, false, .PER, false⟩
  | .GUARD_PAR_STAT => ⟨⟨0x40020024, 1, 0, 1, 0⟩, 0x00000000, .P, false, .PER, false⟩
  | .GUARD_REENABLE => ⟨⟨0x40020028, 1, 0, 1, 0⟩, 0x00000000, .P, false, .PER, false⟩
  | .BERTH_STAT => ⟨⟨0x40030000, 1, 0, 1, 0⟩, 0x0000003F, .U, false, .AON, false⟩
  | .BERTH_CAP => ⟨⟨0x40030004, 1, 0, 1, 0⟩, 0x00000000, .U, false, .PER, false⟩
  | .BERTH_RAILCAP => ⟨⟨0x40030008, 1, 0, 1, 0⟩, 0xFFFFFFFF, .U, false, .PER, false⟩
  | .BERTH_LINK => ⟨⟨0x4003000C, 1, 0, 1, 0⟩, 0x00000000, .U, false, .PER, false⟩
  | .BERTH_CTRL => ⟨⟨0x40030010, 1, 0, 1, 0⟩, 0x007D0164, .P, true, .PWR, false⟩
  | .BERTH_EVT => ⟨⟨0x40030014, 1, 0, 1, 0⟩, 0x00000000, .P, false, .PER, false⟩
  | .BERTH_SUP_CTRL => ⟨⟨0x40030100, 1, 0, 1, 0⟩, 0x020100A0, .P, true, .PWR, false⟩
  | .BERTH_SUP_STAT => ⟨⟨0x40030104, 1, 0, 1, 0⟩, 0x00000000, .U, false, .PWR, false⟩
  | .BERTH_VFEED_AB => ⟨⟨0x40030108, 1, 0, 1, 0⟩, 0x00000000, .U, false, .PWR, false⟩
  | .BERTH_VFEED_CD => ⟨⟨0x4003010C, 1, 0, 1, 0⟩, 0x00000000, .U, false, .PWR, false⟩
  | .BERTH_VKEEP => ⟨⟨0x40030110, 1, 0, 1, 0⟩, 0x00000000, .U, false, .PWR, false⟩
  | .BERTH_SUP_EVT => ⟨⟨0x40030114, 1, 0, 1, 0⟩, 0x00000000, .P, false, .PWR, false⟩
  | .BERTH_SUP_MIN => ⟨⟨0x40030118, 1, 0, 1, 0⟩, 0x0000FFFF, .P, false, .PWR, false⟩
  | .SW_CTRL => ⟨⟨0x40040000, 64, 256, 1, 0⟩, 0x00011805, .P, true, .PWR, false⟩
  | .SW_LIMIT => ⟨⟨0x40040004, 64, 256, 1, 0⟩, 0x00000F0F, .S, true, .PWR, false⟩
  | .SW_PWM => ⟨⟨0x40040008, 64, 256, 1, 0⟩, 0x00030D40, .P, true, .PWR, false⟩
  | .SW_PHASE => ⟨⟨0x4004000C, 64, 256, 1, 0⟩, 0x00000000, .P, true, .PWR, false⟩
  | .SW_OUT => ⟨⟨0x40040010, 64, 256, 1, 0⟩, 0x00000000, .P, false, .PWR, false⟩
  | .SW_STAT => ⟨⟨0x40040014, 64, 256, 1, 0⟩, 0x00000000, .U, false, .PWR, false⟩
  | .SW_EDUTY => ⟨⟨0x40040018, 64, 256, 1, 0⟩, 0x00000000, .U, false, .PWR, false⟩
  | .SW_CUR => ⟨⟨0x4004001C, 64, 256, 1, 0⟩, 0x00000000, .U, false, .PWR, false⟩
  | .SW_CURPER => ⟨⟨0x40040020, 64, 256, 1, 0⟩, 0x00000000, .U, false, .PWR, false⟩
  | .SW_PEAK => ⟨⟨0x40040024, 64, 256, 1, 0⟩, 0x00000000, .U, false, .PWR, false⟩
  | .SW_TEMP => ⟨⟨0x40040028, 64, 256, 1, 0⟩, 0x00000000, .U, false, .PWR, false⟩
  | .SW_EVT => ⟨⟨0x4004002C, 64, 256, 1, 0⟩, 0x00000000, .P, false, .PWR, false⟩
  | .SW_GLB_PAIR => ⟨⟨0x40044000, 1, 0, 1, 0⟩, 0x00000000, .P, true, .PWR, false⟩
  | .SW_GLB_GRPLO => ⟨⟨0x40044008, 1, 0, 1, 0⟩, 0x00000000, .P, false, .PWR, false⟩
  | .SW_GLB_GRPHI => ⟨⟨0x4004400C, 1, 0, 1, 0⟩, 0x00000000, .P, false, .PWR, false⟩
  | .SW_GLB_GRPCMD => ⟨⟨0x40044010, 1, 0, 1, 0⟩, 0x00000000, .P, false, .PWR, false⟩
  | .SW_GLB_SATLO => ⟨⟨0x40044014, 1, 0, 1, 0⟩, 0x00000000, .U, false, .PWR, false⟩
  | .SW_GLB_SATHI => ⟨⟨0x40044018, 1, 0, 1, 0⟩, 0x00000000, .U, false, .PWR, false⟩
  | .SW_GLB_STAT => ⟨⟨0x4004401C, 1, 0, 1, 0⟩, 0x00000000, .P, false, .PWR, false⟩
  | .PROT_CFG => ⟨⟨0x40050000, 64, 64, 1, 0⟩, 0x960A0013, .S, true, .PWR, false⟩
  | .PROT_STAT => ⟨⟨0x40050004, 64, 64, 1, 0⟩, 0x00000000, .U, false, .PWR, false⟩
  | .PROT_WIRE => ⟨⟨0x40050008, 64, 64, 1, 0⟩, 0x00000000, .U, false, .PWR, false⟩
  | .PROT_THR => ⟨⟨0x4005000C, 64, 64, 1, 0⟩, 0x00000000, .U, false, .PWR, false⟩
  | .PROT_CNT => ⟨⟨0x40050010, 64, 64, 1, 0⟩, 0x00000000, .U, false, .PWR, false⟩
  | .PROT_EVT => ⟨⟨0x40050014, 64, 64, 1, 0⟩, 0x00000000, .P, false, .PWR, false⟩
  | .PROT_CLR => ⟨⟨0x40050018, 64, 64, 1, 0⟩, 0x00000000, .P, false, .PWR, false⟩
  | .PROT_GLB_HOLDLO => ⟨⟨0x40051000, 1, 0, 1, 0⟩, 0x00000000, .U, false, .PWR, false⟩
  | .PROT_GLB_HOLDHI => ⟨⟨0x40051004, 1, 0, 1, 0⟩, 0x00000000, .U, false, .PWR, false⟩
  | .PROT_GLB_LATLO => ⟨⟨0x40051008, 1, 0, 1, 0⟩, 0x00000000, .U, false, .PWR, false⟩
  | .PROT_GLB_LATHI => ⟨⟨0x4005100C, 1, 0, 1, 0⟩, 0x00000000, .U, false, .PWR, false⟩
  | .PROT_WC_RES => ⟨⟨0x40052000, 16, 16, 1, 0⟩, 0x00000000, .S, true, .PWR, false⟩
  | .PROT_WC_CAP => ⟨⟨0x40052004, 16, 16, 1, 0⟩, 0x00000000, .S, true, .PWR, false⟩
  | .PROT_WC_TH => ⟨⟨0x40052008, 16, 16, 1, 0⟩, 0x00000000, .S, true, .PWR, false⟩
  | .PROT_FL_CTRL => ⟨⟨0x40053000, 4, 32, 1, 0⟩, 0x000A0A55, .S, true, .PWR, false⟩
  | .PROT_FL_STAT => ⟨⟨0x40053004, 4, 32, 1, 0⟩, 0x00000000, .U, false, .PWR, false⟩
  | .PROT_FL_AUX => ⟨⟨0x40053008, 4, 32, 1, 0⟩, 0x00000000, .U, false, .PWR, false⟩
  | .PROT_FL_EVT => ⟨⟨0x4005300C, 4, 32, 1, 0⟩, 0x00000000, .P, false, .PWR, false⟩
  | .PROT_FL_CLR => ⟨⟨0x40053010, 4, 32, 1, 0⟩, 0x00000000, .P, false, .PWR, false⟩
  | .CAL_CTRL => ⟨⟨0x40060000, 1, 0, 1, 0⟩, 0x0000020F, .P, true, .PER, false⟩
  | .CAL_STAT => ⟨⟨0x40060004, 1, 0, 1, 0⟩, 0x00000000, .U, false, .PER, false⟩
  | .CAL_BOOST_A => ⟨⟨0x40060010, 1, 0, 1, 0⟩, 0x00000000, .U, false, .PWR, false⟩
  | .CAL_BOOST_B => ⟨⟨0x40060014, 1, 0, 1, 0⟩, 0x00000000, .U, false, .PWR, false⟩
  | .CAL_LF0 => ⟨⟨0x40060020, 1, 0, 1, 0⟩, 0x00000000, .U, false, .PER, false⟩
  | .CAL_LF1 => ⟨⟨0x40060024, 1, 0, 1, 0⟩, 0x00000000, .U, false, .PER, false⟩
  | .CAL_DI => ⟨⟨0x40060030, 1, 0, 1, 0⟩, 0x00000000, .U, false, .PWR, false⟩
  | .CAL_EVT => ⟨⟨0x40060040, 1, 0, 1, 0⟩, 0x00000000, .P, false, .PER, false⟩
  | .CAL_CH_LIVE => ⟨⟨0x40061000, 64, 32, 1, 0⟩, 0x00000000, .U, false, .PWR, false⟩
  | .CAL_CH_FACT => ⟨⟨0x40061004, 64, 32, 1, 0⟩, 0x00000000, .U, false, .PWR, false⟩
  | .CAL_CH_STAT => ⟨⟨0x40061008, 64, 32, 1, 0⟩, 0x00000000, .U, false, .PWR, false⟩
  | .CAL_CH_DIAG => ⟨⟨0x4006100C, 64, 32, 1, 0⟩, 0x0000000A, .P, true, .PWR, false⟩
  | .CAL_CH_DSTAT => ⟨⟨0x40061010, 64, 32, 1, 0⟩, 0x00000000, .U, false, .PWR, false⟩
  | .CAL_CH_DEVT => ⟨⟨0x40061014, 64, 32, 1, 0⟩, 0x00000000, .P, false, .PWR, false⟩
  | .INJ_GLB_CTRL => ⟨⟨0x40080000, 1, 0, 1, 0⟩, 0x00000000, .P, false, .PWR, false⟩
  | .INJ_GLB_STAT => ⟨⟨0x40080004, 1, 0, 1, 0⟩, 0x00000000, .U, false, .PWR, false⟩
  | .INJ_BST_CFG => ⟨⟨0x40080100, 2, 32, 1, 0⟩, 0x00028A00, .S, true, .PWR, false⟩
  | .INJ_BST_STAT => ⟨⟨0x40080104, 2, 32, 1, 0⟩, 0x00000000, .U, false, .PWR, false⟩
  | .INJ_BST_PWR => ⟨⟨0x40080108, 2, 32, 1, 0⟩, 0x00000000, .U, false, .PWR, false⟩
  | .INJ_BANK_CFG => ⟨⟨0x40080400, 6, 64, 1, 0⟩, 0x00C80A00, .P, true, .PWR, false⟩
  | .INJ_BANK_STAT => ⟨⟨0x40080404, 6, 64, 1, 0⟩, 0x00000000, .U, false, .PWR, false⟩
  | .INJ_CH_CFG => ⟨⟨0x40080800, 24, 64, 1, 0⟩, 0x00960000, .P, true, .PWR, false⟩
  | .INJ_CH_PROT => ⟨⟨0x40080804, 24, 64, 1, 0⟩, 0x0000000A, .S, true, .PWR, false⟩
  | .INJ_CH_CLWIN => ⟨⟨0x40080808, 24, 64, 1, 0⟩, 0x07D00032, .P, true, .PWR, false⟩
  | .INJ_CH_CMD => ⟨⟨0x4008080C, 24, 64, 1, 0⟩, 0x00000000, .P, false, .PWR, false⟩
  | .INJ_CH_STAT => ⟨⟨0x40080810, 24, 64, 1, 0⟩, 0x00000000, .U, false, .PWR, false⟩
  | .INJ_CH_RES => ⟨⟨0x40080814, 24, 64, 1, 0⟩, 0x00000000, .U, false, .PWR, false⟩
  | .INJ_CH_CLOSE => ⟨⟨0x40080818, 24, 64, 1, 0⟩, 0xFFFFFFFF, .U, false, .PWR, false⟩
  | .INJ_CH_CNT => ⟨⟨0x4008081C, 24, 64, 1, 0⟩, 0x00000000, .U, false, .PWR, false⟩
  | .INJ_CH_EVT => ⟨⟨0x40080820, 24, 64, 1, 0⟩, 0x00000000, .P, false, .PWR, false⟩
  | .INJ_LAST_HDR => ⟨⟨0x40081000, 32, 64, 1, 0⟩, 0x0BB81400, .P, true, .PWR, false⟩
  | .INJ_LAST_PH => ⟨⟨0x40081004, 32, 64, 8, 4⟩, 0x00000000, .P, true, .PWR, false⟩
  | .EVE_CTRL => ⟨⟨0x40090000, 1, 0, 1, 0⟩, 0x05DC1000, .P, true, .TIDE, false⟩
  | .EVE_STAT => ⟨⟨0x40090004, 1, 0, 1, 0⟩, 0x00000000, .U, false, .TIDE, false⟩
  | .EVE_CNT0 => ⟨⟨0x40090008, 1, 0, 1, 0⟩, 0x00000000, .U, false, .TIDE, false⟩
  | .EVE_CNT1 => ⟨⟨0x4009000C, 1, 0, 1, 0⟩, 0x00000000, .U, false, .TIDE, false⟩
  | .EVE_CMD_TLO => ⟨⟨0x40090010, 1, 0, 1, 0⟩, 0x00000000, .P, false, .TIDE, true⟩
  | .EVE_CMD_THI => ⟨⟨0x40090014, 1, 0, 1, 0⟩, 0x00000000, .P, false, .TIDE, true⟩
  | .EVE_CMD_SPEC => ⟨⟨0x40090018, 1, 0, 1, 0⟩, 0x00000000, .P, false, .TIDE, false⟩
  | .EVE_CMD_DUR => ⟨⟨0x4009001C, 1, 0, 1, 0⟩, 0x00000000, .P, false, .TIDE, false⟩
  | .EVE_CMD => ⟨⟨0x40090020, 1, 0, 1, 0⟩, 0x00000000, .P, false, .TIDE, false⟩
  | .EVE_CMD_RES => ⟨⟨0x40090024, 1, 0, 1, 0⟩, 0x00000000, .U, false, .TIDE, false⟩
  | .EVE_EVT => ⟨⟨0x40090028, 1, 0, 1, 0⟩, 0x00000000, .P, false, .TIDE, false⟩
  | .EVE_RES_PTR => ⟨⟨0x40090030, 1, 0, 1, 0⟩, 0x00000000, .P, false, .TIDE, false⟩
  | .EVE_ST_CTRL => ⟨⟨0x40090100, 8, 64, 1, 0⟩, 0x07D00000, .P, true, .TIDE, false⟩
  | .EVE_ST_SCALE => ⟨⟨0x40090104, 8, 64, 1, 0⟩, 0x00002710, .P, true, .TIDE, false⟩
  | .EVE_ST_CANID => ⟨⟨0x40090108, 8, 64, 1, 0⟩, 0x00000000, .P, true, .TIDE, false⟩
  | .EVE_ST_CFG2 => ⟨⟨0x4009010C, 8, 64, 1, 0⟩, 0x28C80100, .P, true, .TIDE, false⟩
  | .EVE_ST_ODO => ⟨⟨0x40090110, 8, 64, 1, 0⟩, 0x00000000, .P, false, .TIDE, false⟩
  | .EVE_ST_SPEED => ⟨⟨0x40090114, 8, 64, 1, 0⟩, 0x00000000, .P, false, .TIDE, false⟩
  | .EVE_ST_RECLO => ⟨⟨0x40090118, 8, 64, 1, 0⟩, 0x00000000, .P, false, .TIDE, true⟩
  | .EVE_ST_RECHI => ⟨⟨0x4009011C, 8, 64, 1, 0⟩, 0x00000000, .P, false, .TIDE, true⟩
  | .EVE_ST_STAT => ⟨⟨0x40090120, 8, 64, 1, 0⟩, 0x00000000, .U, false, .TIDE, false⟩
  | .EVE_ST_CNT => ⟨⟨0x40090124, 8, 64, 1, 0⟩, 0x00000000, .U, false, .TIDE, false⟩
  | .EVE_NZ_MAP => ⟨⟨0x40091000, 8, 256, 24, 8⟩, 0x00000000, .P, true, .TIDE, false⟩
  | .EVE_NZ_GEO => ⟨⟨0x40091004, 8, 256, 24, 8⟩, 0x00000000, .P, true, .TIDE, false⟩
  | .LEDS_GLB_CFG => ⟨⟨0x400A0000, 1, 0, 1, 0⟩, 0x00000000, .P, true, .PWR, false⟩
  | .LEDS_GLB_LEVEL => ⟨⟨0x400A0004, 1, 0, 1, 0⟩, 0x000000FF, .P, false, .PWR, false⟩
  | .LEDS_GLB_STAT => ⟨⟨0x400A0008, 1, 0, 1, 0⟩, 0x000000FF, .U, false, .PWR, false⟩
  | .LEDS_GLB_PCAP => ⟨⟨0x400A000C, 1, 0, 1, 0⟩, 0x00000258, .U, false, .PWR, false⟩
  | .LEDS_GLB_CTRL => ⟨⟨0x400A0010, 1, 0, 1, 0⟩, 0x00000000, .P, false, .PWR, false⟩
  | .LEDS_GLB_EVT => ⟨⟨0x400A0014, 1, 0, 1, 0⟩, 0x00000000, .P, false, .PWR, false⟩
  | .LEDS_CH_CFG => ⟨⟨0x400A0100, 32, 32, 1, 0⟩, 0x00640000, .P, true, .PWR, false⟩
  | .LEDS_CH_OUT => ⟨⟨0x400A0104, 32, 32, 1, 0⟩, 0x00000000, .P, false, .PWR, false⟩
  | .LEDS_CH_FADE => ⟨⟨0x400A0108, 32, 32, 1, 0⟩, 0x00000000, .P, false, .PWR, false⟩
  | .LEDS_CH_STAT => ⟨⟨0x400A010C, 32, 32, 1, 0⟩, 0x00000000, .U, false, .PWR, false⟩
  | .LEDS_CH_EDUTY => ⟨⟨0x400A0110, 32, 32, 1, 0⟩, 0x00000000, .U, false, .PWR, false⟩
  | .LEDS_CH_EVT => ⟨⟨0x400A0114, 32, 32, 1, 0⟩, 0x00000000, .P, false, .PWR, false⟩
  | .LEDS_CH_CMD => ⟨⟨0x400A0118, 32, 32, 1, 0⟩, 0x00000000, .P, false, .PWR, false⟩
  | .DIO_DI_LO => ⟨⟨0x400B0000, 1, 0, 1, 0⟩, 0x00000000, .U, false, .PWR, false⟩
  | .DIO_DI_HI => ⟨⟨0x400B0004, 1, 0, 1, 0⟩, 0x00000000, .U, false, .PWR, false⟩
  | .DIO_EDGE_LO => ⟨⟨0x400B0008, 1, 0, 1, 0⟩, 0x00000000, .P, false, .PWR, false⟩
  | .DIO_EDGE_HI => ⟨⟨0x400B000C, 1, 0, 1, 0⟩, 0x00000000, .P, false, .PWR, false⟩
  | .DIO_GRP_CFG => ⟨⟨0x400B0010, 6, 4, 1, 0⟩, 0x00000032, .P, true, .PWR, false⟩
  | .DIO_CNT_CFG => ⟨⟨0x400B0100, 8, 16, 1, 0⟩, 0x00000A00, .P, true, .PWR, false⟩
  | .DIO_CNT_VAL => ⟨⟨0x400B0104, 8, 16, 1, 0⟩, 0x00000000, .U, false, .PWR, false⟩
  | .DIO_CNT_FREQ => ⟨⟨0x400B0108, 8, 16, 1, 0⟩, 0x00000000, .U, false, .PWR, false⟩
  | .DIO_CNT_CMD => ⟨⟨0x400B010C, 8, 16, 1, 0⟩, 0x00000000, .P, false, .PWR, false⟩
  | .DIO_PPS_CFG => ⟨⟨0x400B0200, 1, 0, 1, 0⟩, 0x00000000, .P, true, .PWR, false⟩
  | .DIO_PPS_TLO => ⟨⟨0x400B0208, 1, 0, 1, 0⟩, 0x00000000, .U, false, .PWR, true⟩
  | .DIO_PPS_THI => ⟨⟨0x400B020C, 1, 0, 1, 0⟩, 0x00000000, .U, false, .PWR, true⟩
  | .DIO_WAKE_CFG => ⟨⟨0x400B0300, 1, 0, 1, 0⟩, 0x00000000, .P, true, .AON, false⟩
  | .DIO_WAKE_SRC => ⟨⟨0x400B0304, 1, 0, 1, 0⟩, 0x00000000, .U, false, .AON, false⟩
  | .DIO_DO_OUT => ⟨⟨0x400B0400, 1, 0, 1, 0⟩, 0x00000000, .P, false, .PWR, false⟩
  | .DIO_DO_CFG => ⟨⟨0x400B0404, 1, 0, 1, 0⟩, 0x00000000, .P, true, .PWR, false⟩
  | .DIO_DO_STAT => ⟨⟨0x400B0408, 1, 0, 1, 0⟩, 0x00000000, .U, false, .PWR, false⟩
  | .DIO_DO_DIAG => ⟨⟨0x400B040C, 1, 0, 1, 0⟩, 0x00000000, .U, false, .PWR, false⟩
  | .DIO_DO_CLR => ⟨⟨0x400B0410, 1, 0, 1, 0⟩, 0x00000000, .P, false, .PWR, false⟩
  | .DIO_AUX_CTRL => ⟨⟨0x400B0500, 1, 0, 1, 0⟩, 0x00000000, .P, false, .PWR, false⟩
  | .DIO_AUX_STAT => ⟨⟨0x400B0504, 1, 0, 1, 0⟩, 0x00000000, .U, false, .PWR, false⟩
  | .DIO_EVT => ⟨⟨0x400B0600, 1, 0, 1, 0⟩, 0x00000000, .P, false, .PWR, false⟩
  | .BOLL_CTRL => ⟨⟨0x400B8000, 1, 0, 1, 0⟩, 0x00000219, .S, true, .PWR, false⟩
  | .BOLL_CMD => ⟨⟨0x400B8004, 1, 0, 1, 0⟩, 0x00000000, .P, false, .PWR, false⟩
  | .BOLL_STAT => ⟨⟨0x400B8008, 1, 0, 1, 0⟩, 0x00000000, .U, false, .PWR, false⟩
  | .BOLL_SIL => ⟨⟨0x400B8010, 4, 4, 1, 0⟩, 0x00000000, .S, true, .PWR, false⟩
  | .BOLL_SILSTAT => ⟨⟨0x400B8020, 4, 4, 1, 0⟩, 0x00000000, .U, false, .PWR, false⟩
  | .BOLL_GOV => ⟨⟨0x400B8040, 5, 4, 1, 0⟩, 0x00000000, .U, false, .PWR, false⟩
  | .BOLL_RFX_ACTLO => ⟨⟨0x400B8060, 1, 0, 1, 0⟩, 0x00000000, .U, false, .PWR, false⟩
  | .BOLL_RFX_ACTHI => ⟨⟨0x400B8064, 1, 0, 1, 0⟩, 0x00000000, .U, false, .PWR, false⟩
  | .BOLL_RFX_LATLO => ⟨⟨0x400B8068, 1, 0, 1, 0⟩, 0x00000000, .U, false, .PWR, false⟩
  | .BOLL_RFX_LATHI => ⟨⟨0x400B806C, 1, 0, 1, 0⟩, 0x00000000, .U, false, .PWR, false⟩
  | .BOLL_RFX_CLRLO => ⟨⟨0x400B8070, 1, 0, 1, 0⟩, 0x00000000, .P, false, .PWR, false⟩
  | .BOLL_RFX_CLRHI => ⟨⟨0x400B8074, 1, 0, 1, 0⟩, 0x00000000, .P, false, .PWR, false⟩
  | .BOLL_SAFE => ⟨⟨0x400B8100, 136, 4, 1, 0⟩, 0x00000000, .S, true, .PWR, false⟩
  | .BOLL_RFX_COND => ⟨⟨0x400B8400, 64, 16, 1, 0⟩, 0x00000000, .S, true, .PWR, false⟩
  | .BOLL_RFX_ACT => ⟨⟨0x400B8404, 64, 16, 1, 0⟩, 0x00000000, .S, true, .PWR, false⟩
  | .BOLL_RFX_DLY => ⟨⟨0x400B8408, 64, 16, 1, 0⟩, 0x00000000, .S, true, .PWR, false⟩
  | .CAN_CTRL => ⟨⟨0x400C0000, 8, 8192, 1, 0⟩, 0x00000000, .P, true, .CANC, false⟩
  | .CAN_NBT => ⟨⟨0x400C0004, 8, 8192, 1, 0⟩, 0x00F3E1E1, .P, true, .CANC, false⟩
  | .CAN_DBT => ⟨⟨0x400C0008, 8, 8192, 1, 0⟩, 0x00011A81, .P, true, .CANC, false⟩
  | .CAN_TDC => ⟨⟨0x400C000C, 8, 8192, 1, 0⟩, 0x00001E01, .P, true, .CANC, false⟩
  | .CAN_STAT => ⟨⟨0x400C0010, 8, 8192, 1, 0⟩, 0x00000003, .U, false, .CANC, false⟩
  | .CAN_ERR => ⟨⟨0x400C0014, 8, 8192, 1, 0⟩, 0x00000000, .U, false, .CANC, false⟩
  | .CAN_ERRCFG => ⟨⟨0x400C0018, 8, 8192, 1, 0⟩, 0x00000008, .P, true, .CANC, false⟩
  | .CAN_TXB_CMD => ⟨⟨0x400C0020, 8, 8192, 1, 0⟩, 0x00000000, .P, false, .CANC, false⟩
  | .CAN_TXB_STAT => ⟨⟨0x400C0024, 8, 8192, 1, 0⟩, 0x00000000, .U, false, .CANC, false⟩
  | .CAN_TXTS_LO => ⟨⟨0x400C0028, 8, 8192, 3, 8⟩, 0x00000000, .U, false, .CANC, true⟩
  | .CAN_TXTS_HI => ⟨⟨0x400C002C, 8, 8192, 3, 8⟩, 0x00000000, .U, false, .CANC, true⟩
  | .CAN_FLT_STD => ⟨⟨0x400C0040, 8, 8192, 1, 0⟩, 0x00000000, .P, true, .CANC, false⟩
  | .CAN_FLT_EXT => ⟨⟨0x400C0044, 8, 8192, 1, 0⟩, 0x00000000, .P, true, .CANC, false⟩
  | .CAN_RXF_CFG => ⟨⟨0x400C0048, 8, 8192, 1, 0⟩, 0x00300040, .P, true, .CANC, false⟩
  | .CAN_RXF_STAT => ⟨⟨0x400C004C, 8, 8192, 1, 0⟩, 0x00000000, .U, false, .CANC, false⟩
  | .CAN_RXF_ACK => ⟨⟨0x400C0050, 8, 8192, 1, 0⟩, 0x00000000, .P, false, .CANC, false⟩
  | .CAN_HPM => ⟨⟨0x400C0054, 8, 8192, 1, 0⟩, 0x00000000, .U, false, .CANC, false⟩
  | .CAN_COLL => ⟨⟨0x400C0058, 8, 8192, 1, 0⟩, 0x00000000, .U, false, .CANC, false⟩
  | .CAN_DET_CFG => ⟨⟨0x400C0060, 8, 8192, 1, 0⟩, 0x00000519, .P, true, .CANC, false⟩
  | .CAN_TT_CFG => ⟨⟨0x400C0070, 8, 8192, 1, 0⟩, 0x00640000, .P, true, .CANC, false⟩
  | .CAN_TT_REF => ⟨⟨0x400C0074, 8, 8192, 1, 0⟩, 0x00000000, .P, true, .CANC, false⟩
  | .CAN_TT_STAT => ⟨⟨0x400C0078, 8, 8192, 1, 0⟩, 0x00000000, .U, false, .CANC, false⟩
  | .CAN_SW_CFG => ⟨⟨0x400C0080, 8, 8192, 1, 0⟩, 0x00000014, .P, true, .AON, false⟩
  | .CAN_SW_ID => ⟨⟨0x400C0084, 8, 8192, 1, 0⟩, 0x00000000, .P, true, .AON, false⟩
  | .CAN_SW_IDM => ⟨⟨0x400C0088, 8, 8192, 1, 0⟩, 0x00000000, .P, true, .AON, false⟩
  | .CAN_SW_DLO => ⟨⟨0x400C008C, 8, 8192, 1, 0⟩, 0x00000000, .P, true, .AON, false⟩
  | .CAN_SW_DHI => ⟨⟨0x400C0090, 8, 8192, 1, 0⟩, 0x00000000, .P, true, .AON, false⟩
  | .CAN_SW_STAT => ⟨⟨0x400C0094, 8, 8192, 1, 0⟩, 0x00000000, .U, false, .AON, false⟩
  | .CAN_EVT => ⟨⟨0x400C00A0, 8, 8192, 1, 0⟩, 0x00000000, .P, false, .CANC, false⟩
  | .CAN_CMD => ⟨⟨0x400C00A4, 8, 8192, 1, 0⟩, 0x00000000, .P, false, .CANC, false⟩
  | .CAN_DET_A => ⟨⟨0x400C0100, 8, 8192, 16, 8⟩, 0x00000000, .P, true, .CANC, false⟩
  | .CAN_DET_B => ⟨⟨0x400C0104, 8, 8192, 16, 8⟩, 0x00000000, .P, true, .CANC, false⟩
  | .GWY_CTRL => ⟨⟨0x400E0000, 1, 0, 1, 0⟩, 0x003C0A00, .P, true, .FAB, false⟩
  | .GWY_STAT => ⟨⟨0x400E0004, 1, 0, 1, 0⟩, 0x00000000, .U, false, .FAB, false⟩
  | .GWY_CNT0 => ⟨⟨0x400E0008, 1, 0, 1, 0⟩, 0x00000000, .U, false, .FAB, false⟩
  | .GWY_CNT1 => ⟨⟨0x400E000C, 1, 0, 1, 0⟩, 0x00000000, .U, false, .FAB, false⟩
  | .GWY_CNT2 => ⟨⟨0x400E0010, 1, 0, 1, 0⟩, 0x00000000, .U, false, .FAB, false⟩
  | .GWY_EVT => ⟨⟨0x400E0014, 1, 0, 1, 0⟩, 0x00000000, .P, false, .FAB, false⟩
  | .GWY_CMD => ⟨⟨0x400E0018, 1, 0, 1, 0⟩, 0x00000000, .P, false, .FAB, false⟩
  | .GWY_SRC_CFG => ⟨⟨0x400E0040, 9, 4, 1, 0⟩, 0x00000000, .P, true, .FAB, false⟩
  | .GWY_SEG_CFG => ⟨⟨0x400E0080, 12, 4, 1, 0⟩, 0x00141001, .P, true, .FAB, false⟩
  | .GWY_SEG_STAT => ⟨⟨0x400E00C0, 12, 4, 1, 0⟩, 0x00000000, .U, false, .FAB, false⟩
  | .GWY_QUAR0 => ⟨⟨0x400E0100, 32, 8, 1, 0⟩, 0x00000000, .U, false, .FAB, false⟩
  | .GWY_QUAR1 => ⟨⟨0x400E0104, 32, 8, 1, 0⟩, 0x00000000, .U, false, .FAB, false⟩
  | .GWY_RING_CFG => ⟨⟨0x400E0400, 32, 64, 1, 0⟩, 0x00100000, .P, true, .FAB, false⟩
  | .GWY_RING_BASE => ⟨⟨0x400E0404, 32, 64, 1, 0⟩, 0x20400000, .P, true, .FAB, false⟩
  | .GWY_RING_WM => ⟨⟨0x400E0408, 32, 64, 1, 0⟩, 0x0004000C, .P, true, .FAB, false⟩
  | .GWY_RING_PUT => ⟨⟨0x400E040C, 32, 64, 1, 0⟩, 0x00000000, .U, false, .FAB, false⟩
  | .GWY_RING_GET => ⟨⟨0x400E0410, 32, 64, 1, 0⟩, 0x00000000, .P, false, .FAB, false⟩
  | .GWY_RING_STAT => ⟨⟨0x400E0414, 32, 64, 1, 0⟩, 0x00000000, .U, false, .FAB, false⟩
  | .GWY_ACF_SIDLO => ⟨⟨0x400E0820, 16, 64, 1, 0⟩, 0x00000000, .P, true, .FAB, true⟩
  | .GWY_ACF_SIDHI => ⟨⟨0x400E0824, 16, 64, 1, 0⟩, 0x00000000, .P, true, .FAB, true⟩
  | .GWY_ACF_DMACLO => ⟨⟨0x400E0828, 16, 64, 1, 0⟩, 0x00000000, .P, true, .FAB, false⟩
  | .GWY_ACF_DMACHI => ⟨⟨0x400E082C, 16, 64, 1, 0⟩, 0x00000000, .P, true, .FAB, false⟩
  | .GWY_ACF_TXCFG => ⟨⟨0x400E0830, 16, 64, 1, 0⟩, 0x00640100, .P, true, .FAB, false⟩
  | .GWY_ACF_RXLO => ⟨⟨0x400E0C00, 8, 16, 1, 0⟩, 0x00000000, .P, true, .FAB, true⟩
  | .GWY_ACF_RXHI => ⟨⟨0x400E0C04, 8, 16, 1, 0⟩, 0x00000000, .P, true, .FAB, true⟩
  | .GWY_ACF_RXEN => ⟨⟨0x400E0C08, 8, 16, 1, 0⟩, 0x00000000, .P, true, .FAB, false⟩
  | .GWY_BKT_CFG => ⟨⟨0x400E0D08, 31, 8, 1, 0⟩, 0x00010000, .P, true, .FAB, false⟩
  | .GWY_BKT_STAT => ⟨⟨0x400E0D0C, 31, 8, 1, 0⟩, 0x00000000, .U, false, .FAB, false⟩
  | .GWY_RTE_CNT => ⟨⟨0x400E2000, 2048, 4, 1, 0⟩, 0x00000000, .U, false, .FAB, false⟩
  | .GWY_RTE0 => ⟨⟨0x400E4000, 2048, 16, 1, 0⟩, 0x00000000, .P, true, .FAB, false⟩
  | .GWY_RTE1 => ⟨⟨0x400E4004, 2048, 16, 1, 0⟩, 0x00000000, .P, true, .FAB, false⟩
  | .GWY_RTE2 => ⟨⟨0x400E4008, 2048, 16, 1, 0⟩, 0x00000000, .P, true, .FAB, false⟩
  | .GWY_RTE3 => ⟨⟨0x400E400C, 2048, 16, 1, 0⟩, 0x00000000, .P, true, .FAB, false⟩
  | .ETH_PCTRL => ⟨⟨0x40100000, 4, 256, 1, 0⟩, 0x00320030, .P, true, .PER, false⟩
  | .ETH_PVLAN => ⟨⟨0x40100004, 4, 256, 1, 0⟩, 0x00000001, .P, true, .PER, false⟩
  | .ETH_PSTAT => ⟨⟨0x40100008, 4, 256, 1, 0⟩, 0x00000000, .U, false, .PER, false⟩
  | .ETH_PCNT0 => ⟨⟨0x4010000C, 4, 256, 1, 0⟩, 0x00000000, .U, false, .ETHC, false⟩
  | .ETH_PCNT1 => ⟨⟨0x40100010, 4, 256, 1, 0⟩, 0x00000000, .U, false, .ETHC, false⟩
  | .ETH_PEVT => ⟨⟨0x40100014, 4, 256, 1, 0⟩, 0x00000000, .P, false, .PER, false⟩
  | .ETH_PCMD => ⟨⟨0x40100018, 4, 256, 1, 0⟩, 0x00000000, .P, false, .PER, false⟩
  | .ETH_SW_CTRL => ⟨⟨0x40101000, 1, 0, 1, 0⟩, 0x000012C1, .P, true, .PER, false⟩
  | .ETH_SW_QMAP => ⟨⟨0x40101004, 1, 0, 1, 0⟩, 0x00FAC688, .P, true, .PER, false⟩
  | .ETH_SW_STAT => ⟨⟨0x40101008, 1, 0, 1, 0⟩, 0x00000000, .U, false, .PER, false⟩
  | .ETH_MAC_CMD => ⟨⟨0x40101010, 1, 0, 1, 0⟩, 0x00000000, .P, false, .PER, false⟩
  | .ETH_MAC_D0 => ⟨⟨0x40101014, 1, 0, 1, 0⟩, 0x00000000, .P, false, .PER, false⟩
  | .ETH_MAC_D1 => ⟨⟨0x40101018, 1, 0, 1, 0⟩, 0x00000000, .P, false, .PER, false⟩
  | .ETH_MAC_D2 => ⟨⟨0x4010101C, 1, 0, 1, 0⟩, 0x00000000, .P, false, .PER, false⟩
  | .ETH_SW_CMD => ⟨⟨0x40101020, 1, 0, 1, 0⟩, 0x00000000, .P, false, .PER, false⟩
  | .ETH_VLAN => ⟨⟨0x40104000, 4096, 4, 1, 0⟩, 0x00000000, .P, true, .PER, false⟩
  | .TIDE_CTRL => ⟨⟨0x40120000, 1, 0, 1, 0⟩, 0x004DB300, .P, true, .TIDE, false⟩
  | .TIDE_SRC => ⟨⟨0x40120004, 1, 0, 1, 0⟩, 0x00000001, .P, true, .TIDE, false⟩
  | .TIDE_SERVO => ⟨⟨0x40120008, 1, 0, 1, 0⟩, 0x01F403E8, .P, true, .TIDE, false⟩
  | .TIDE_HOLD => ⟨⟨0x4012000C, 1, 0, 1, 0⟩, 0x0000003C, .P, true, .TIDE, false⟩
  | .TIDE_STAT => ⟨⟨0x40120010, 1, 0, 1, 0⟩, 0x00000000, .U, false, .TIDE, false⟩
  | .TIDE_OFS => ⟨⟨0x40120014, 1, 0, 1, 0⟩, 0x00000000, .U, false, .TIDE, false⟩
  | .TIDE_RATE => ⟨⟨0x40120018, 1, 0, 1, 0⟩, 0x00000000, .P, false, .TIDE, false⟩
  | .TIDE_EVT => ⟨⟨0x4012001C, 1, 0, 1, 0⟩, 0x00000000, .P, false, .TIDE, false⟩
  | .TIDE_FREE_LO => ⟨⟨0x40120020, 1, 0, 1, 0⟩, 0x00000000, .U, false, .TIDE, true⟩
  | .TIDE_FREE_HI => ⟨⟨0x40120024, 1, 0, 1, 0⟩, 0x00000000, .U, false, .TIDE, true⟩
  | .TIDE_SNAP_LO => ⟨⟨0x40120028, 1, 0, 1, 0⟩, 0x00000000, .U, false, .TIDE, true⟩
  | .TIDE_SNAP_HI => ⟨⟨0x4012002C, 1, 0, 1, 0⟩, 0x00000000, .U, false, .TIDE, true⟩
  | .TIDE_STEP_LO => ⟨⟨0x40120030, 1, 0, 1, 0⟩, 0x00000000, .P, false, .TIDE, true⟩
  | .TIDE_STEP_HI => ⟨⟨0x40120034, 1, 0, 1, 0⟩, 0x00000000, .P, false, .TIDE, true⟩
  | .TIDE_SET_LO => ⟨⟨0x40120038, 1, 0, 1, 0⟩, 0x00000000, .P, false, .TIDE, true⟩
  | .TIDE_SET_HI => ⟨⟨0x4012003C, 1, 0, 1, 0⟩, 0x00000000, .P, false, .TIDE, true⟩
  | .TIDE_CMP_FLAG => ⟨⟨0x40120040, 1, 0, 1, 0⟩, 0x00000000, .P, false, .TIDE, false⟩
  | .TIDE_PTP_CFG => ⟨⟨0x40120080, 1, 0, 1, 0⟩, 0x03F8F800, .P, true, .TIDE, false⟩
  | .TIDE_PTP_STAT => ⟨⟨0x40120084, 1, 0, 1, 0⟩, 0x00000000, .U, false, .TIDE, false⟩
  | .TIDE_GM_LO => ⟨⟨0x40120088, 1, 0, 1, 0⟩, 0x00000000, .U, false, .TIDE, true⟩
  | .TIDE_GM_HI => ⟨⟨0x4012008C, 1, 0, 1, 0⟩, 0x00000000, .U, false, .TIDE, true⟩
  | .TIDE_PDELAY => ⟨⟨0x40120090, 4, 4, 1, 0⟩, 0x00000000, .U, false, .TIDE, false⟩
  | .TIDE_CMP_TLO => ⟨⟨0x40120100, 16, 16, 1, 0⟩, 0x00000000, .P, false, .TIDE, true⟩
  | .TIDE_CMP_THI => ⟨⟨0x40120104, 16, 16, 1, 0⟩, 0x00000000, .P, false, .TIDE, true⟩
  | .TIDE_CMP_CTRL => ⟨⟨0x40120108, 16, 16, 1, 0⟩, 0x00000000, .P, false, .TIDE, false⟩
  | .TIDE_CMP_PER => ⟨⟨0x4012010C, 16, 16, 1, 0⟩, 0x00000000, .P, false, .TIDE, false⟩
  | .NM_CTRL => ⟨⟨0x40130000, 1, 0, 1, 0⟩, 0x00000000, .P, true, .PER, false⟩
  | .NM_MODNEED => ⟨⟨0x40130004, 1, 0, 1, 0⟩, 0x00000000, .P, false, .PER, false⟩
  | .NM_WAKE_CFG => ⟨⟨0x40130008, 1, 0, 1, 0⟩, 0x00000A00, .P, true, .AON, false⟩
  | .NM_WAKE_TIMER => ⟨⟨0x4013000C, 1, 0, 1, 0⟩, 0x00000000, .P, true, .AON, false⟩
  | .NM_WAKE_REASON => ⟨⟨0x40130010, 1, 0, 1, 0⟩, 0x00000000, .U, false, .AON, false⟩
  | .NM_WAKE_SRC => ⟨⟨0x40130014, 1, 0, 1, 0⟩, 0x00000000, .P, false, .AON, false⟩
  | .NM_STAT => ⟨⟨0x40130018, 1, 0, 1, 0⟩, 0x00000000, .U, false, .PER, false⟩
  | .NM_EVT => ⟨⟨0x4013001C, 1, 0, 1, 0⟩, 0x00000000, .P, false, .PER, false⟩
  | .NM_SEG_CFG => ⟨⟨0x40130100, 12, 64, 1, 0⟩, 0x00400008, .P, true, .PER, false⟩
  | .NM_SEG_KAID => ⟨⟨0x40130104, 12, 64, 1, 0⟩, 0x00000500, .P, true, .PER, false⟩
  | .NM_SEG_TIME => ⟨⟨0x40130108, 12, 64, 1, 0⟩, 0xA0961E14, .P, true, .PER, false⟩
  | .NM_SEG_MAXAW => ⟨⟨0x4013010C, 12, 64, 1, 0⟩, 0x001E001E, .P, true, .PER, false⟩
  | .NM_SEG_WUF => ⟨⟨0x40130110, 12, 64, 1, 0⟩, 0x00000000, .P, true, .PER, false⟩
  | .NM_SEG_WUFD0 => ⟨⟨0x40130114, 12, 64, 1, 0⟩, 0x00000000, .P, true, .PER, false⟩
  | .NM_SEG_WUFD1 => ⟨⟨0x40130118, 12, 64, 1, 0⟩, 0x00000000, .P, true, .PER, false⟩
  | .NM_SEG_NEED => ⟨⟨0x4013011C, 12, 64, 1, 0⟩, 0x00000000, .P, false, .PER, false⟩
  | .NM_SEG_STAT => ⟨⟨0x40130120, 12, 64, 1, 0⟩, 0x00000000, .U, false, .PER, false⟩
  | .NM_SEG_STUCK0 => ⟨⟨0x40130124, 12, 64, 1, 0⟩, 0x00000000, .U, false, .PER, false⟩
  | .NM_SEG_STUCK1 => ⟨⟨0x40130128, 12, 64, 1, 0⟩, 0x00000000, .U, false, .PER, false⟩
  | .NM_SEG_SEEN0 => ⟨⟨0x4013012C, 12, 64, 1, 0⟩, 0x00000000, .U, false, .PER, false⟩
  | .NM_SEG_SEEN1 => ⟨⟨0x40130130, 12, 64, 1, 0⟩, 0x00000000, .U, false, .PER, false⟩
  | .NM_SEG_CMD => ⟨⟨0x40130134, 12, 64, 1, 0⟩, 0x00000000, .P, false, .PER, false⟩
  | .ACC_CTRL => ⟨⟨0x40140000, 1, 0, 1, 0⟩, 0x00000500, .P, true, .PER, false⟩
  | .ACC_AER => ⟨⟨0x40140004, 1, 0, 1, 0⟩, 0x0514003F, .P, true, .PER, false⟩
  | .ACC_SEC => ⟨⟨0x40140008, 1, 0, 1, 0⟩, 0x012C515E, .P, true, .PER, false⟩
  | .ACC_STAT => ⟨⟨0x40140010, 1, 0, 1, 0⟩, 0x00000F00, .U, false, .PER, false⟩
  | .ACC_RSSI0 => ⟨⟨0x40140014, 1, 0, 1, 0⟩, 0x00000000, .U, false, .PER, false⟩
  | .ACC_RSSI1 => ⟨⟨0x40140018, 1, 0, 1, 0⟩, 0x00000000, .U, false, .PER, false⟩
  | .ACC_EVT => ⟨⟨0x4014001C, 1, 0, 1, 0⟩, 0x00000000, .P, false, .PER, false⟩
  | .ACC_CMD => ⟨⟨0x40140020, 1, 0, 1, 0⟩, 0x00000000, .P, false, .PER, false⟩
  | .ACC_ZONE_CFG => ⟨⟨0x40140100, 8, 16, 1, 0⟩, 0x00000000, .P, true, .PER, false⟩
  | .ACC_ZONE_MIN => ⟨⟨0x40140104, 8, 16, 1, 0⟩, 0x00000000, .P, true, .PER, false⟩
  | .ACC_ZONE_EXT => ⟨⟨0x40140108, 8, 16, 1, 0⟩, 0x00000000, .P, true, .PER, false⟩
  | .ACC_ZONE_MAX => ⟨⟨0x4014010C, 8, 16, 1, 0⟩, 0x00000000, .P, true, .PER, false⟩
  | .ACC_GATE_CFG => ⟨⟨0x40140200, 8, 16, 1, 0⟩, 0x00000000, .P, true, .PER, false⟩
  | .ACC_GATE_SEL => ⟨⟨0x40140204, 8, 16, 1, 0⟩, 0x00000000, .P, true, .PER, false⟩
  | .ACC_GATE_HOLD => ⟨⟨0x40140208, 8, 16, 1, 0⟩, 0x00000000, .P, true, .PER, false⟩
  | .ACC_GATE_MSG => ⟨⟨0x4014020C, 8, 16, 1, 0⟩, 0x00640000, .P, true, .PER, false⟩
  | .ACC_MSGCFG => ⟨⟨0x40140300, 8, 4, 1, 0⟩, 0x00000064, .P, true, .PER, false⟩
  | .ACC_GOUT => ⟨⟨0x40140400, 136, 4, 1, 0⟩, 0x00000000, .P, true, .PER, false⟩
  | .ACC_SLOT_STAT => ⟨⟨0x40140800, 16, 16, 1, 0⟩, 0x00000000, .U, false, .PER, false⟩
  | .ACC_SLOT_ID => ⟨⟨0x40140804, 16, 16, 1, 0⟩, 0x00000000, .U, false, .PER, false⟩
  | .ACC_SLOT_AGE => ⟨⟨0x40140808, 16, 16, 1, 0⟩, 0x00000000, .U, false, .PER, false⟩
  | .ACC_DENY => ⟨⟨0x40140A00, 64, 4, 1, 0⟩, 0x00000000, .U, false, .PER, false⟩
  | .UPD_CTRL => ⟨⟨0x40150000, 1, 0, 1, 0⟩, 0x001E01FF, .P, true, .PER, false⟩
  | .UPD_STAT => ⟨⟨0x40150004, 1, 0, 1, 0⟩, 0x00000000, .U, false, .PER, false⟩
  | .UPD_INFO => ⟨⟨0x40150008, 1, 0, 1, 0⟩, 0x00000000, .U, false, .PER, false⟩
  | .UPD_SVER => ⟨⟨0x4015000C, 1, 0, 1, 0⟩, 0x00000000, .U, false, .PER, false⟩
  | .UPD_RVER => ⟨⟨0x40150010, 1, 0, 1, 0⟩, 0x00000000, .U, false, .PER, false⟩
  | .UPD_CMD => ⟨⟨0x40150014, 1, 0, 1, 0⟩, 0x00000000, .P, false, .PER, false⟩
  | .UPD_EVT => ⟨⟨0x40150018, 1, 0, 1, 0⟩, 0x00000000, .P, false, .PER, false⟩
  | .UPD_BITMAP => ⟨⟨0x40150100, 32, 4, 1, 0⟩, 0x00000000, .U, false, .PER, false⟩
  | .CUST_LC => ⟨⟨0x40160000, 1, 0, 1, 0⟩, 0x00000000, .U, false, .PER, false⟩
  | .CUST_MBX0_CMD => ⟨⟨0x40160100, 1, 0, 1, 0⟩, 0x00000000, .P, false, .PER, false⟩
  | .CUST_MBX0_STAT => ⟨⟨0x40160104, 1, 0, 1, 0⟩, 0x00000000, .U, false, .PER, false⟩
  | .CUST_MBX0_DATA => ⟨⟨0x40160200, 64, 4, 1, 0⟩, 0x00000000, .P, false, .PER, false⟩
  | .CUST_MBX1_CMD => ⟨⟨0x40160400, 1, 0, 1, 0⟩, 0x00000000, .S, false, .PER, false⟩
  | .CUST_MBX1_STAT => ⟨⟨0x40160404, 1, 0, 1, 0⟩, 0x00000000, .U, false, .PER, false⟩
  | .CUST_MBX1_DATA => ⟨⟨0x40160500, 64, 4, 1, 0⟩, 0x00000000, .S, false, .PER, false⟩
  | .JNL_CTRL => ⟨⟨0x40170000, 1, 0, 1, 0⟩, 0x00000011, .P, true, .FAB, false⟩
  | .JNL_STAT => ⟨⟨0x40170004, 1, 0, 1, 0⟩, 0x00000000, .U, false, .FAB, false⟩
  | .JNL_SEQ_NEW => ⟨⟨0x40170008, 1, 0, 1, 0⟩, 0x00000000, .U, false, .FAB, false⟩
  | .JNL_SEQ_OLD => ⟨⟨0x4017000C, 1, 0, 1, 0⟩, 0x00000000, .U, false, .FAB, false⟩
  | .JNL_SEQ_PERS => ⟨⟨0x40170010, 1, 0, 1, 0⟩, 0x00000000, .U, false, .FAB, false⟩
  | .JNL_ERR => ⟨⟨0x40170014, 1, 0, 1, 0⟩, 0x00000000, .U, false, .FAB, false⟩
  | .JNL_CNT => ⟨⟨0x40170018, 1, 0, 1, 0⟩, 0x00000000, .U, false, .FAB, false⟩
  | .JNL_CMD => ⟨⟨0x4017001C, 1, 0, 1, 0⟩, 0x00000000, .P, false, .FAB, false⟩
  | .JNL_RD_SEQ => ⟨⟨0x40170020, 1, 0, 1, 0⟩, 0x00000000, .P, false, .FAB, false⟩
  | .JNL_RD_STAT => ⟨⟨0x40170024, 1, 0, 1, 0⟩, 0x00000000, .P, false, .FAB, false⟩
  | .JNL_WIN => ⟨⟨0x40170040, 8, 4, 1, 0⟩, 0x00000000, .P, false, .FAB, false⟩

/-- The fields of each register (R71); every bit outside them is reserved (R13). -/
def Reg.fields : Reg → List Fld
  | .SYS_MODE => [F.SYS_MODE_MODE, F.SYS_MODE_PREV, F.SYS_MODE_TRANS, F.SYS_MODE_REFUSE, F.SYS_MODE_FRESH]
  | .SYS_MODE_CMD => [F.SYS_MODE_CMD_TARGET, F.SYS_MODE_CMD_KEY, F.SYS_MODE_CMD_GO]
  | .SYS_CFG => [F.SYS_CFG_AUTOSTART, F.SYS_CFG_LIMP_RETRY]
  | .SYS_RST_CAUSE => [F.SYS_RST_CAUSE_POR, F.SYS_RST_CAUSE_HOLDUP, F.SYS_RST_CAUSE_WAKE, F.SYS_RST_CAUSE_CMD, F.SYS_RST_CAUSE_LIMP, F.SYS_RST_CAUSE_EXTRACT, F.SYS_RST_CAUSE_RESOLE, F.SYS_RST_CAUSE_LIMP_COUNT]
  | .SYS_LOAD => [F.SYS_LOAD_LOAD_A, F.SYS_LOAD_LOAD_B, F.SYS_LOAD_OVL_A, F.SYS_LOAD_OVL_B, F.SYS_LOAD_C5_DEFER, F.SYS_LOAD_C6_DEFER]
  | .SYS_HRP_STAT => [F.SYS_HRP_STAT_SESSION, F.SYS_HRP_STAT_LOCKOUT, F.SYS_HRP_STAT_FAILS, F.SYS_HRP_STAT_CRC_ERR]
  | .SYS_HRP_CTRL => [F.SYS_HRP_CTRL_EN, F.SYS_HRP_CTRL_TIMEOUT]
  | .SYS_BOLLARD_FEED => [F.SYS_BOLLARD_FEED_VALUE, F.SYS_BOLLARD_FEED_TIMER, F.SYS_BOLLARD_FEED_FEED]
  | .CLK_STAT => [F.CLK_STAT_LOCK, F.CLK_STAT_PWR_ON_PLL, F.CLK_STAT_ETH_LOCK]
  | .CLK_WELT => [F.CLK_WELT_LAST_OVF, F.CLK_WELT_OVF_COUNT, F.CLK_WELT_OVF]
  | .GUARD_VIOL => [F.GUARD_VIOL_COUNT, F.GUARD_VIOL_VIOL, F.GUARD_VIOL_CLR]
  | .GUARD_VLAST => [F.GUARD_VLAST_ADDR]
  | .GUARD_VINFO => [F.GUARD_VINFO_MASTER, F.GUARD_VINFO_WRITE, F.GUARD_VINFO_CLASS]
  | .GUARD_BERR_ADDR => [F.GUARD_BERR_ADDR_ADDR]
  | .GUARD_BERR_INFO => [F.GUARD_BERR_INFO_MASTER, F.GUARD_BERR_INFO_WRITE, F.GUARD_BERR_INFO_CAUSE, F.GUARD_BERR_INFO_APPLIED, F.GUARD_BERR_INFO_COUNT, F.GUARD_BERR_INFO_CLR]
  | .GUARD_PAR_ADDR => [F.GUARD_PAR_ADDR_ADDR]
  | .GUARD_PAR_STAT => [F.GUARD_PAR_STAT_COUNT, F.GUARD_PAR_STAT_PAR, F.GUARD_PAR_STAT_PENDING]
  | .GUARD_REENABLE => [F.GUARD_REENABLE_BLOCK, F.GUARD_REENABLE_REFUSED, F.GUARD_REENABLE_GO]
  | .BERTH_STAT => [F.BERTH_STAT_SLOT_RAW, F.BERTH_STAT_SLOT_VALID, F.BERTH_STAT_EXTRACT, F.BERTH_STAT_POS, F.BERTH_STAT_CAP_CLASS, F.BERTH_STAT_MATED, F.BERTH_STAT_STATE, F.BERTH_STAT_LINK_UP, F.BERTH_STAT_KEEP_OK]
  | .BERTH_CAP => [F.BERTH_CAP_CAP_A, F.BERTH_CAP_CAP_B, F.BERTH_CAP_CAP_C, F.BERTH_CAP_CAP_D]
  | .BERTH_RAILCAP => [F.BERTH_RAILCAP_ADV]
  | .BERTH_LINK => [F.BERTH_LINK_VERSION, F.BERTH_LINK_RAIL_ID, F.BERTH_LINK_ERR]
  | .BERTH_CTRL => [F.BERTH_CTRL_RAMP_TIME, F.BERTH_CTRL_LINK_EN, F.BERTH_CTRL_OEM_CAP]
  | .BERTH_EVT => [F.BERTH_EVT_MATE, F.BERTH_EVT_EXTRACT, F.BERTH_EVT_RAMP_OK, F.BERTH_EVT_RAMP_FAIL, F.BERTH_EVT_SLOT_CHANGE, F.BERTH_EVT_LINK_LOSS, F.BERTH_EVT_CAP_CHANGE]
  | .BERTH_SUP_CTRL => [F.BERTH_SUP_CTRL_VWARN, F.BERTH_SUP_CTRL_SHED_MASK, F.BERTH_SUP_CTRL_STAGGER]
  | .BERTH_SUP_STAT => [F.BERTH_SUP_STAT_PRESENT, F.BERTH_SUP_STAT_LOW, F.BERTH_SUP_STAT_OVER, F.BERTH_SUP_STAT_RESTORING, F.BERTH_SUP_STAT_VLOG_LOW, F.BERTH_SUP_STAT_STORE_DEFER, F.BERTH_SUP_STAT_STORE_PENDING, F.BERTH_SUP_STAT_HOLDUP]
  | .BERTH_VFEED_AB => [F.BERTH_VFEED_AB_LO, F.BERTH_VFEED_AB_HI]
  | .BERTH_VFEED_CD => [F.BERTH_VFEED_CD_LO, F.BERTH_VFEED_CD_HI]
  | .BERTH_VKEEP => [F.BERTH_VKEEP_KEEP, F.BERTH_VKEEP_VSRC]
  | .BERTH_SUP_EVT => [F.BERTH_SUP_EVT_DIP, F.BERTH_SUP_EVT_ABSENT, F.BERTH_SUP_EVT_OVER, F.BERTH_SUP_EVT_VLOG_LOW, F.BERTH_SUP_EVT_RESTORED]
  | .BERTH_SUP_MIN => [F.BERTH_SUP_MIN_VMIN, F.BERTH_SUP_MIN_FEED, F.BERTH_SUP_MIN_CLR]
  | .SW_CTRL => [F.SW_CTRL_SLEW, F.SW_CTRL_COMP_K, F.SW_CTRL_VREF]
  | .SW_LIMIT => [F.SW_LIMIT_LIMIT, F.SW_LIMIT_INRUSH_LIMIT, F.SW_LIMIT_INRUSH_TIME]
  | .SW_PWM => [F.SW_PWM_PERIOD]
  | .SW_PHASE => [F.SW_PHASE_PHASE]
  | .SW_OUT => [F.SW_OUT_DUTY, F.SW_OUT_MODE]
  | .SW_STAT => [F.SW_STAT_STATE, F.SW_STAT_INRUSH, F.SW_STAT_LIMITING, F.SW_STAT_COMP_SAT, F.SW_STAT_PAIRED, F.SW_STAT_PAIR_IMB, F.SW_STAT_SHED, F.SW_STAT_PROT_OFF, F.SW_STAT_EXTRACT, F.SW_STAT_DUTY_CLAMP, F.SW_STAT_REFUSED]
  | .SW_EDUTY => [F.SW_EDUTY_EDUTY]
  | .SW_CUR => [F.SW_CUR_INST, F.SW_CUR_AVG1]
  | .SW_CURPER => [F.SW_CURPER_PAVG, F.SW_CURPER_ONAVG]
  | .SW_PEAK => [F.SW_PEAK_PEAK, F.SW_PEAK_CLR]
  | .SW_TEMP => [F.SW_TEMP_TJ]
  | .SW_EVT => [F.SW_EVT_COMP_SAT, F.SW_EVT_PAIR_IMB, F.SW_EVT_DUTY_CLAMP, F.SW_EVT_REFUSED]
  | .SW_GLB_PAIR => [F.SW_GLB_PAIR_PAIR]
  | .SW_GLB_GRPLO => [F.SW_GLB_GRPLO_SEL]
  | .SW_GLB_GRPHI => [F.SW_GLB_GRPHI_SEL]
  | .SW_GLB_GRPCMD => [F.SW_GLB_GRPCMD_DUTY, F.SW_GLB_GRPCMD_MODE, F.SW_GLB_GRPCMD_GO]
  | .SW_GLB_SATLO => [F.SW_GLB_SATLO_SAT]
  | .SW_GLB_SATHI => [F.SW_GLB_SATHI_SAT]
  | .SW_GLB_STAT => [F.SW_GLB_STAT_REFUSED]
  | .PROT_CFG => [F.PROT_CFG_WCLASS, F.PROT_CFG_PRIO, F.PROT_CFG_L1_LATCH, F.PROT_CFG_AMB_OFS, F.PROT_CFG_CEIL]
  | .PROT_STAT => [F.PROT_STAT_HOLD, F.PROT_STAT_FT, F.PROT_STAT_L1, F.PROT_STAT_L1_LATCH, F.PROT_STAT_CEIL, F.PROT_STAT_BUDGET, F.PROT_STAT_WIRE, F.PROT_STAT_WIRE_OK, F.PROT_STAT_FL_SHED, F.PROT_STAT_FL_LATCH, F.PROT_STAT_FREEZE, F.PROT_STAT_RESTARTS]
  | .PROT_WIRE => [F.PROT_WIRE_TC, F.PROT_WIRE_TS]
  | .PROT_THR => [F.PROT_THR_THR, F.PROT_THR_TA]
  | .PROT_CNT => [F.PROT_CNT_FT, F.PROT_CNT_L1, F.PROT_CNT_WIRE, F.PROT_CNT_SHED]
  | .PROT_EVT => [F.PROT_EVT_FT, F.PROT_EVT_L1, F.PROT_EVT_CEIL, F.PROT_EVT_BUDGET, F.PROT_EVT_WIRE, F.PROT_EVT_FL_SHED, F.PROT_EVT_FL_LATCH, F.PROT_EVT_FREEZE, F.PROT_EVT_CLR_REFUSED, F.PROT_EVT_CLR_DONE]
  | .PROT_CLR => [F.PROT_CLR_CLR]
  | .PROT_GLB_HOLDLO => [F.PROT_GLB_HOLDLO_HOLD]
  | .PROT_GLB_HOLDHI => [F.PROT_GLB_HOLDHI_HOLD]
  | .PROT_GLB_LATLO => [F.PROT_GLB_LATLO_LATCH]
  | .PROT_GLB_LATHI => [F.PROT_GLB_LATHI_LATCH]
  | .PROT_WC_RES => [F.PROT_WC_RES_RES, F.PROT_WC_RES_TLIM, F.PROT_WC_RES_RST]
  | .PROT_WC_CAP => [F.PROT_WC_CAP_CC, F.PROT_WC_CAP_CS]
  | .PROT_WC_TH => [F.PROT_WC_TH_RCS, F.PROT_WC_TH_RSA]
  | .PROT_FL_CTRL => [F.PROT_FL_CTRL_REL_PCT, F.PROT_FL_CTRL_REL_TIME, F.PROT_FL_CTRL_REPEAT]
  | .PROT_FL_STAT => [F.PROT_FL_STAT_AVG, F.PROT_FL_STAT_SHED, F.PROT_FL_STAT_LATCH, F.PROT_FL_STAT_STATE]
  | .PROT_FL_AUX => [F.PROT_FL_AUX_AUX]
  | .PROT_FL_EVT => [F.PROT_FL_EVT_SHED, F.PROT_FL_EVT_LATCH, F.PROT_FL_EVT_RESTORE, F.PROT_FL_EVT_OVER_AUX]
  | .PROT_FL_CLR => [F.PROT_FL_CLR_CLR]
  | .CAL_CTRL => [F.CAL_CTRL_SENSE_EN, F.CAL_CTRL_BOOST_EN, F.CAL_CTRL_LF_EN, F.CAL_CTRL_DI_EN, F.CAL_CTRL_PERIOD, F.CAL_CTRL_REVERT, F.CAL_CTRL_REENABLE]
  | .CAL_STAT => [F.CAL_STAT_FACT_OK, F.CAL_STAT_REF_OK, F.CAL_STAT_SAFE, F.CAL_STAT_SUSPENDED, F.CAL_STAT_LIVE_CNT, F.CAL_STAT_REJECTS]
  | .CAL_BOOST_A => [F.CAL_BOOST_A_GAIN, F.CAL_BOOST_A_OFFSET]
  | .CAL_BOOST_B => [F.CAL_BOOST_B_GAIN, F.CAL_BOOST_B_OFFSET]
  | .CAL_LF0 => [F.CAL_LF0_TRIM0, F.CAL_LF0_END0, F.CAL_LF0_VALID0, F.CAL_LF0_TRIM1, F.CAL_LF0_END1, F.CAL_LF0_VALID1, F.CAL_LF0_TRIM2, F.CAL_LF0_END2, F.CAL_LF0_VALID2, F.CAL_LF0_TRIM3, F.CAL_LF0_END3, F.CAL_LF0_VALID3]
  | .CAL_LF1 => [F.CAL_LF1_TRIM0, F.CAL_LF1_END0, F.CAL_LF1_VALID0, F.CAL_LF1_TRIM1, F.CAL_LF1_END1, F.CAL_LF1_VALID1]
  | .CAL_DI => [F.CAL_DI_FAIL]
  | .CAL_EVT => [F.CAL_EVT_SENSE_DRIFT, F.CAL_EVT_BOOST_DRIFT, F.CAL_EVT_LF_RANGE, F.CAL_EVT_DI_THRESH, F.CAL_EVT_REF_FAIL, F.CAL_EVT_FACT_BAD]
  | .CAL_CH_LIVE => [F.CAL_CH_LIVE_GAIN, F.CAL_CH_LIVE_OFFSET]
  | .CAL_CH_FACT => [F.CAL_CH_FACT_GAIN, F.CAL_CH_FACT_OFFSET]
  | .CAL_CH_STAT => [F.CAL_CH_STAT_SRC, F.CAL_CH_STAT_STALE, F.CAL_CH_STAT_AGE, F.CAL_CH_STAT_REJ]
  | .CAL_CH_DIAG => [F.CAL_CH_DIAG_OL_THR, F.CAL_CH_DIAG_OFF_EN, F.CAL_CH_DIAG_ON_EN, F.CAL_CH_DIAG_STF_EN]
  | .CAL_CH_DSTAT => [F.CAL_CH_DSTAT_OL_OFF, F.CAL_CH_DSTAT_OL_ON, F.CAL_CH_DSTAT_STF, F.CAL_CH_DSTAT_PULLUP, F.CAL_CH_DSTAT_VOUT]
  | .CAL_CH_DEVT => [F.CAL_CH_DEVT_OL_OFF, F.CAL_CH_DEVT_OL_ON, F.CAL_CH_DEVT_STF]
  | .INJ_GLB_CTRL => [F.INJ_GLB_CTRL_REENABLE]
  | .INJ_GLB_STAT => [F.INJ_GLB_STAT_SAFE, F.INJ_GLB_STAT_PLATE, F.INJ_GLB_STAT_LAST_REFUSED, F.INJ_GLB_STAT_ACTIVE]
  | .INJ_BST_CFG => [F.INJ_BST_CFG_EN, F.INJ_BST_CFG_VTGT]
  | .INJ_BST_STAT => [F.INJ_BST_STAT_VOUT, F.INJ_BST_STAT_READY, F.INJ_BST_STAT_PLIM, F.INJ_BST_STAT_OV, F.INJ_BST_STAT_RUN, F.INJ_BST_STAT_CLR]
  | .INJ_BST_PWR => [F.INJ_BST_PWR_PAVG, F.INJ_BST_PWR_PLIMIT]
  | .INJ_BANK_CFG => [F.INJ_BANK_CFG_EN, F.INJ_BANK_CFG_POLICY, F.INJ_BANK_CFG_BNR_SKIP, F.INJ_BANK_CFG_BOOST_WAIT, F.INJ_BANK_CFG_DEFER_MAX]
  | .INJ_BANK_STAT => [F.INJ_BANK_STAT_HS, F.INJ_BANK_STAT_RUN, F.INJ_BANK_STAT_WAIT, F.INJ_BANK_STAT_HSB_SHORT, F.INJ_BANK_STAT_FEED_OK, F.INJ_BANK_STAT_CLR]
  | .INJ_CH_CFG => [F.INJ_CH_CFG_EN, F.INJ_CH_CFG_MIN_OFF]
  | .INJ_CH_PROT => [F.INJ_CH_PROT_TRISE_MIN]
  | .INJ_CH_CLWIN => [F.INJ_CH_CLWIN_START, F.INJ_CH_CLWIN_END]
  | .INJ_CH_CMD => [F.INJ_CH_CMD_DUR, F.INJ_CH_CMD_LAST, F.INJ_CH_CMD_CLR, F.INJ_CH_CMD_ABORT, F.INJ_CH_CMD_GO]
  | .INJ_CH_STAT => [F.INJ_CH_STAT_STATE, F.INJ_CH_STAT_PHASE, F.INJ_CH_STAT_DEGRADED, F.INJ_CH_STAT_CUR]
  | .INJ_CH_RES => [F.INJ_CH_RES_RESULT, F.INJ_CH_RES_TPEAK, F.INJ_CH_RES_DELAY]
  | .INJ_CH_CLOSE => [F.INJ_CH_CLOSE_DELAY, F.INJ_CH_CLOSE_MEAN]
  | .INJ_CH_CNT => [F.INJ_CH_CNT_RUN, F.INJ_CH_CNT_REJ, F.INJ_CH_CNT_DEFER]
  | .INJ_CH_EVT => [F.INJ_CH_EVT_OPEN, F.INJ_CH_EVT_SHORT, F.INJ_CH_EVT_NOT_CLOSED, F.INJ_CH_EVT_REJECT, F.INJ_CH_EVT_DEGRADED, F.INJ_CH_EVT_CMD_REFUSED]
  | .INJ_LAST_HDR => [F.INJ_LAST_HDR_NPH, F.INJ_LAST_HDR_END_FAST, F.INJ_LAST_HDR_CLOSE_EN, F.INJ_LAST_HDR_HYST, F.INJ_LAST_HDR_END_TMAX]
  | .INJ_LAST_PH => [F.INJ_LAST_PH_TIME, F.INJ_LAST_PH_CURRENT, F.INJ_LAST_PH_TYPE]
  | .EVE_CTRL => [F.EVE_CTRL_EN, F.EVE_CTRL_REENABLE, F.EVE_CTRL_RESERVE, F.EVE_CTRL_HORIZON]
  | .EVE_STAT => [F.EVE_STAT_SPEC, F.EVE_STAT_SAFE, F.EVE_STAT_USED, F.EVE_STAT_FULL, F.EVE_STAT_COARSE, F.EVE_STAT_TIME_OK]
  | .EVE_CNT0 => [F.EVE_CNT0_RETRACT, F.EVE_CNT0_RETIME]
  | .EVE_CNT1 => [F.EVE_CNT1_COMMIT, F.EVE_CNT1_LATE_OP, F.EVE_CNT1_REFUSED]
  | .EVE_CMD_TLO => [F.EVE_CMD_TLO_T]
  | .EVE_CMD_THI => [F.EVE_CMD_THI_T]
  | .EVE_CMD_SPEC => [F.EVE_CMD_SPEC_TARGET, F.EVE_CMD_SPEC_VALUE]
  | .EVE_CMD_DUR => [F.EVE_CMD_DUR_DUR]
  | .EVE_CMD => [F.EVE_CMD_HANDLE, F.EVE_CMD_ABORT_ALL, F.EVE_CMD_ASAP, F.EVE_CMD_ABORT, F.EVE_CMD_GO]
  | .EVE_CMD_RES => [F.EVE_CMD_RES_HANDLE, F.EVE_CMD_RES_STATUS]
  | .EVE_EVT => [F.EVE_EVT_FULL, F.EVE_EVT_LATE, F.EVE_EVT_REFUSED, F.EVE_EVT_SPEED_LOSS, F.EVE_EVT_UNDERRUN, F.EVE_EVT_LATE_DROP]
  | .EVE_RES_PTR => [F.EVE_RES_PTR_WR, F.EVE_RES_PTR_RD, F.EVE_RES_PTR_OVF]
  | .EVE_ST_CTRL => [F.EVE_ST_CTRL_OPEN, F.EVE_ST_CTRL_SRC, F.EVE_ST_CTRL_DI, F.EVE_ST_CTRL_CANPORT, F.EVE_ST_CTRL_DOSE_MODE, F.EVE_ST_CTRL_RUN_AHEAD]
  | .EVE_ST_SCALE => [F.EVE_ST_SCALE_SCALE]
  | .EVE_ST_CANID => [F.EVE_ST_CANID_ID, F.EVE_ST_CANID_IDE]
  | .EVE_ST_CFG2 => [F.EVE_ST_CFG2_BYTE, F.EVE_ST_CFG2_SIGNED, F.EVE_ST_CFG2_DOSE_UNIT, F.EVE_ST_CFG2_TIMEOUT, F.EVE_ST_CFG2_VMIN]
  | .EVE_ST_ODO => [F.EVE_ST_ODO_ODO]
  | .EVE_ST_SPEED => [F.EVE_ST_SPEED_SPEED]
  | .EVE_ST_RECLO => [F.EVE_ST_RECLO_REC]
  | .EVE_ST_RECHI => [F.EVE_ST_RECHI_REC]
  | .EVE_ST_STAT => [F.EVE_ST_STAT_FIFO, F.EVE_ST_STAT_SPEED_OK, F.EVE_ST_STAT_MOVING, F.EVE_ST_STAT_UNDERRUN, F.EVE_ST_STAT_SPEC]
  | .EVE_ST_CNT => [F.EVE_ST_CNT_RECORDS, F.EVE_ST_CNT_SUPERSEDE, F.EVE_ST_CNT_LATE_DROP]
  | .EVE_NZ_MAP => [F.EVE_NZ_MAP_TARGET, F.EVE_NZ_MAP_EN, F.EVE_NZ_MAP_VALUE]
  | .EVE_NZ_GEO => [F.EVE_NZ_GEO_OFS, F.EVE_NZ_GEO_LEAD]
  | .LEDS_GLB_CFG => [F.LEDS_GLB_CFG_DIV]
  | .LEDS_GLB_LEVEL => [F.LEDS_GLB_LEVEL_GLOBAL]
  | .LEDS_GLB_STAT => [F.LEDS_GLB_STAT_F, F.LEDS_GLB_STAT_FOLDBACK, F.LEDS_GLB_STAT_SAFE, F.LEDS_GLB_STAT_PSUM]
  | .LEDS_GLB_PCAP => [F.LEDS_GLB_PCAP_CAP]
  | .LEDS_GLB_CTRL => [F.LEDS_GLB_CTRL_REENABLE]
  | .LEDS_GLB_EVT => [F.LEDS_GLB_EVT_FOLDBACK]
  | .LEDS_CH_CFG => [F.LEDS_CH_CFG_EN, F.LEDS_CH_CFG_SUP, F.LEDS_CH_CFG_SUPCH, F.LEDS_CH_CFG_DIAG_EN, F.LEDS_CH_CFG_VSHORT]
  | .LEDS_CH_OUT => [F.LEDS_CH_OUT_DUTY, F.LEDS_CH_OUT_CODE]
  | .LEDS_CH_FADE => [F.LEDS_CH_FADE_TARGET, F.LEDS_CH_FADE_TIME, F.LEDS_CH_FADE_GO]
  | .LEDS_CH_STAT => [F.LEDS_CH_STAT_ON, F.LEDS_CH_STAT_FADING, F.LEDS_CH_STAT_OPEN, F.LEDS_CH_STAT_SHORT, F.LEDS_CH_STAT_SUSP, F.LEDS_CH_STAT_STRETCH, F.LEDS_CH_STAT_LOWHR, F.LEDS_CH_STAT_REFUSED, F.LEDS_CH_STAT_IMEAS, F.LEDS_CH_STAT_VSINK]
  | .LEDS_CH_EDUTY => [F.LEDS_CH_EDUTY_EDUTY, F.LEDS_CH_EDUTY_ISET]
  | .LEDS_CH_EVT => [F.LEDS_CH_EVT_OPEN, F.LEDS_CH_EVT_SHORT, F.LEDS_CH_EVT_REFUSED]
  | .LEDS_CH_CMD => [F.LEDS_CH_CMD_CLR]
  | .DIO_DI_LO => [F.DIO_DI_LO_STATE]
  | .DIO_DI_HI => [F.DIO_DI_HI_STATE]
  | .DIO_EDGE_LO => [F.DIO_EDGE_LO_EDGE]
  | .DIO_EDGE_HI => [F.DIO_EDGE_HI_EDGE]
  | .DIO_GRP_CFG => [F.DIO_GRP_CFG_DEBOUNCE, F.DIO_GRP_CFG_TYPE]
  | .DIO_CNT_CFG => [F.DIO_CNT_CFG_MODE, F.DIO_CNT_CFG_EDGE, F.DIO_CNT_CFG_GATE]
  | .DIO_CNT_VAL => [F.DIO_CNT_VAL_COUNT]
  | .DIO_CNT_FREQ => [F.DIO_CNT_FREQ_FREQ, F.DIO_CNT_FREQ_VALID]
  | .DIO_CNT_CMD => [F.DIO_CNT_CMD_CLR]
  | .DIO_PPS_CFG => [F.DIO_PPS_CFG_EN, F.DIO_PPS_CFG_FALL]
  | .DIO_PPS_TLO => [F.DIO_PPS_TLO_T]
  | .DIO_PPS_THI => [F.DIO_PPS_THI_T]
  | .DIO_WAKE_CFG => [F.DIO_WAKE_CFG_MASK]
  | .DIO_WAKE_SRC => [F.DIO_WAKE_SRC_SRC, F.DIO_WAKE_SRC_LEVEL]
  | .DIO_DO_OUT => [F.DIO_DO_OUT_ON]
  | .DIO_DO_CFG => [F.DIO_DO_CFG_LATCH, F.DIO_DO_CFG_OL_EN]
  | .DIO_DO_STAT => [F.DIO_DO_STAT_ON, F.DIO_DO_STAT_FAULT]
  | .DIO_DO_DIAG => [F.DIO_DO_DIAG_OPEN, F.DIO_DO_DIAG_SHED]
  | .DIO_DO_CLR => [F.DIO_DO_CLR_CLR]
  | .DIO_AUX_CTRL => [F.DIO_AUX_CTRL_SSUP_EN]
  | .DIO_AUX_STAT => [F.DIO_AUX_STAT_CUR, F.DIO_AUX_STAT_UP, F.DIO_AUX_STAT_LIMIT, F.DIO_AUX_STAT_SSUP_ON, F.DIO_AUX_STAT_SSUP_FAULT, F.DIO_AUX_STAT_RATING]
  | .DIO_EVT => [F.DIO_EVT_DO_OVL, F.DIO_EVT_DO_OPEN, F.DIO_EVT_AUX_OVL, F.DIO_EVT_SSUP_OVL, F.DIO_EVT_AUX_DOWN, F.DIO_EVT_DO_REFUSED]
  | .BOLL_CTRL => [F.BOLL_CTRL_HOLD, F.BOLL_CTRL_AUTO_RECLAIM]
  | .BOLL_CMD => [F.BOLL_CMD_RECLAIM, F.BOLL_CMD_REENABLE]
  | .BOLL_STAT => [F.BOLL_STAT_HOLD_RUN, F.BOLL_STAT_SAFE, F.BOLL_STAT_REFUSED, F.BOLL_STAT_SIL_EXP, F.BOLL_STAT_GOV, F.BOLL_STAT_HOLD_LEFT]
  | .BOLL_SIL => [F.BOLL_SIL_TIMEOUT, F.BOLL_SIL_SRC, F.BOLL_SIL_RPDO]
  | .BOLL_SILSTAT => [F.BOLL_SILSTAT_LEFT, F.BOLL_SILSTAT_RUN, F.BOLL_SILSTAT_EXP, F.BOLL_SILSTAT_SEQERR]
  | .BOLL_GOV => [F.BOLL_GOV_GOV]
  | .BOLL_RFX_ACTLO => [F.BOLL_RFX_ACTLO_ENTRY]
  | .BOLL_RFX_ACTHI => [F.BOLL_RFX_ACTHI_ENTRY]
  | .BOLL_RFX_LATLO => [F.BOLL_RFX_LATLO_ENTRY]
  | .BOLL_RFX_LATHI => [F.BOLL_RFX_LATHI_ENTRY]
  | .BOLL_RFX_CLRLO => [F.BOLL_RFX_CLRLO_CLR]
  | .BOLL_RFX_CLRHI => [F.BOLL_RFX_CLRHI_CLR]
  | .BOLL_SAFE => [F.BOLL_SAFE_STATE, F.BOLL_SAFE_SIL, F.BOLL_SAFE_DUTY]
  | .BOLL_RFX_COND => [F.BOLL_RFX_COND_SRCA, F.BOLL_RFX_COND_INVA, F.BOLL_RFX_COND_SRCB, F.BOLL_RFX_COND_INVB, F.BOLL_RFX_COND_OP]
  | .BOLL_RFX_ACT => [F.BOLL_RFX_ACT_TARGET, F.BOLL_RFX_ACT_ACTION, F.BOLL_RFX_ACT_WHEN, F.BOLL_RFX_ACT_LATCH, F.BOLL_RFX_ACT_EN, F.BOLL_RFX_ACT_VALUE]
  | .BOLL_RFX_DLY => [F.BOLL_RFX_DLY_ON_DLY, F.BOLL_RFX_DLY_OFF_DLY]
  | .CAN_CTRL => [F.CAN_CTRL_EN, F.CAN_CTRL_OPMODE, F.CAN_CTRL_FD_EN, F.CAN_CTRL_TXPRIO, F.CAN_CTRL_TXB2_SRC, F.CAN_CTRL_BO_MAN, F.CAN_CTRL_NOMATCH, F.CAN_CTRL_BO_DELAY, F.CAN_CTRL_BO_LIMIT, F.CAN_CTRL_DET_EN, F.CAN_CTRL_DET_LISTEN]
  | .CAN_NBT => [F.CAN_NBT_BRP, F.CAN_NBT_SJW, F.CAN_NBT_TSEG1, F.CAN_NBT_TSEG2]
  | .CAN_DBT => [F.CAN_DBT_BRP, F.CAN_DBT_SJW, F.CAN_DBT_TSEG1, F.CAN_DBT_TSEG2]
  | .CAN_TDC => [F.CAN_TDC_EN, F.CAN_TDC_OFS, F.CAN_TDC_TDCV]
  | .CAN_STAT => [F.CAN_STAT_STATE, F.CAN_STAT_SYNC, F.CAN_STAT_DET, F.CAN_STAT_DET_IDX, F.CAN_STAT_ACT]
  | .CAN_ERR => [F.CAN_ERR_TEC, F.CAN_ERR_REC, F.CAN_ERR_BOFF_CNT, F.CAN_ERR_LEC, F.CAN_ERR_LEC_DATA]
  | .CAN_ERRCFG => [F.CAN_ERRCFG_COLL_THR]
  | .CAN_TXB_CMD => [F.CAN_TXB_CMD_REQ, F.CAN_TXB_CMD_ABORT]
  | .CAN_TXB_STAT => [F.CAN_TXB_STAT_PEND, F.CAN_TXB_STAT_CCNT, F.CAN_TXB_STAT_RES0, F.CAN_TXB_STAT_RES1, F.CAN_TXB_STAT_RES2]
  | .CAN_TXTS_LO => [F.CAN_TXTS_LO_T]
  | .CAN_TXTS_HI => [F.CAN_TXTS_HI_T]
  | .CAN_FLT_STD => [F.CAN_FLT_STD_START, F.CAN_FLT_STD_LEN]
  | .CAN_FLT_EXT => [F.CAN_FLT_EXT_START, F.CAN_FLT_EXT_LEN]
  | .CAN_RXF_CFG => [F.CAN_RXF_CFG_DEPTH, F.CAN_RXF_CFG_WM]
  | .CAN_RXF_STAT => [F.CAN_RXF_STAT_FILL, F.CAN_RXF_STAT_GET]
  | .CAN_RXF_ACK => [F.CAN_RXF_ACK_COUNT]
  | .CAN_HPM => [F.CAN_HPM_FIDX, F.CAN_HPM_XTD]
  | .CAN_COLL => [F.CAN_COLL_ID, F.CAN_COLL_XTD]
  | .CAN_DET_CFG => [F.CAN_DET_CFG_WIN, F.CAN_DET_CFG_LAST]
  | .CAN_TT_CFG => [F.CAN_TT_CFG_ROLE, F.CAN_TT_CFG_PRIO, F.CAN_TT_CFG_CYCLE]
  | .CAN_TT_REF => [F.CAN_TT_REF_ID, F.CAN_TT_REF_XTD]
  | .CAN_TT_STAT => [F.CAN_TT_STAT_CYC, F.CAN_TT_STAT_MPRIO, F.CAN_TT_STAT_ROLE, F.CAN_TT_STAT_SYNC]
  | .CAN_SW_CFG => [F.CAN_SW_CFG_EN, F.CAN_SW_CFG_RATE, F.CAN_SW_CFG_WUP, F.CAN_SW_CFG_FDTOL, F.CAN_SW_CFG_DLC, F.CAN_SW_CFG_IDE]
  | .CAN_SW_ID => [F.CAN_SW_ID_ID]
  | .CAN_SW_IDM => [F.CAN_SW_IDM_ID]
  | .CAN_SW_DLO => [F.CAN_SW_DLO_MASK]
  | .CAN_SW_DHI => [F.CAN_SW_DHI_MASK]
  | .CAN_SW_STAT => [F.CAN_SW_STAT_FEC, F.CAN_SW_STAT_MATCH, F.CAN_SW_STAT_FEC_OVF]
  | .CAN_EVT => [F.CAN_EVT_BOFF, F.CAN_EVT_EPASS, F.CAN_EVT_COLL, F.CAN_EVT_RXOVF, F.CAN_EVT_RXWM, F.CAN_EVT_HPM, F.CAN_EVT_DET_DONE, F.CAN_EVT_DET_FAIL, F.CAN_EVT_TT_LOSS, F.CAN_EVT_TXB2_WR, F.CAN_EVT_TX_DONE, F.CAN_EVT_REFUSED, F.CAN_EVT_SW_FEC]
  | .CAN_CMD => [F.CAN_CMD_RECOVER, F.CAN_CMD_DET_START, F.CAN_CMD_REENABLE]
  | .CAN_DET_A => [F.CAN_DET_A_BRP, F.CAN_DET_A_SJW, F.CAN_DET_A_TSEG1, F.CAN_DET_A_TSEG2, F.CAN_DET_A_VALID]
  | .CAN_DET_B => [F.CAN_DET_B_BRP, F.CAN_DET_B_SJW, F.CAN_DET_B_TSEG1, F.CAN_DET_B_TSEG2, F.CAN_DET_B_FD]
  | .GWY_CTRL => [F.GWY_CTRL_EN, F.GWY_CTRL_BP_MAX, F.GWY_CTRL_QUAR_TIME]
  | .GWY_STAT => [F.GWY_STAT_SAFE, F.GWY_STAT_RUN, F.GWY_STAT_QUAR_USED, F.GWY_STAT_SPEC]
  | .GWY_CNT0 => [F.GWY_CNT0_SPEC_UNWIND, F.GWY_CNT0_MISS]
  | .GWY_CNT1 => [F.GWY_CNT1_COMMIT, F.GWY_CNT1_QUAR_DROP]
  | .GWY_CNT2 => [F.GWY_CNT2_STAGE, F.GWY_CNT2_FORMAT, F.GWY_CNT2_SEQ_GAP]
  | .GWY_EVT => [F.GWY_EVT_RING_FULL, F.GWY_EVT_WM, F.GWY_EVT_RATE, F.GWY_EVT_QUAR, F.GWY_EVT_HOLD_OVF, F.GWY_EVT_BP_TIMEOUT, F.GWY_EVT_ACF_FORMAT, F.GWY_EVT_STAGE_OVF]
  | .GWY_CMD => [F.GWY_CMD_REENABLE, F.GWY_CMD_QUAR_CLR]
  | .GWY_SRC_CFG => [F.GWY_SRC_CFG_EN, F.GWY_SRC_CFG_MISS_EN, F.GWY_SRC_CFG_MISS_RING]
  | .GWY_SEG_CFG => [F.GWY_SEG_CFG_SLEEP_HOLD, F.GWY_SEG_CFG_HOLD_DEPTH, F.GWY_SEG_CFG_HOLD_AGE]
  | .GWY_SEG_STAT => [F.GWY_SEG_STAT_STATE, F.GWY_SEG_STAT_WAKE_REQ, F.GWY_SEG_STAT_HELD, F.GWY_SEG_STAT_DROP]
  | .GWY_QUAR0 => [F.GWY_QUAR0_ID, F.GWY_QUAR0_XTD, F.GWY_QUAR0_VALID]
  | .GWY_QUAR1 => [F.GWY_QUAR1_SEG, F.GWY_QUAR1_LEFT]
  | .GWY_RING_CFG => [F.GWY_RING_CFG_EN, F.GWY_RING_CFG_POLICY, F.GWY_RING_CFG_PORT, F.GWY_RING_CFG_DEPTH]
  | .GWY_RING_BASE => [F.GWY_RING_BASE_BASE]
  | .GWY_RING_WM => [F.GWY_RING_WM_HI, F.GWY_RING_WM_LO]
  | .GWY_RING_PUT => [F.GWY_RING_PUT_PUT]
  | .GWY_RING_GET => [F.GWY_RING_GET_GET]
  | .GWY_RING_STAT => [F.GWY_RING_STAT_FILL, F.GWY_RING_STAT_HIGH, F.GWY_RING_STAT_BP, F.GWY_RING_STAT_DROP]
  | .GWY_ACF_SIDLO => [F.GWY_ACF_SIDLO_SID]
  | .GWY_ACF_SIDHI => [F.GWY_ACF_SIDHI_SID]
  | .GWY_ACF_DMACLO => [F.GWY_ACF_DMACLO_MACLO]
  | .GWY_ACF_DMACHI => [F.GWY_ACF_DMACHI_MACHI, F.GWY_ACF_DMACHI_VID, F.GWY_ACF_DMACHI_PCP]
  | .GWY_ACF_TXCFG => [F.GWY_ACF_TXCFG_MAX_BYTES, F.GWY_ACF_TXCFG_FLUSH, F.GWY_ACF_TXCFG_BUS_OFS, F.GWY_ACF_TXCFG_BRIEF]
  | .GWY_ACF_RXLO => [F.GWY_ACF_RXLO_SID]
  | .GWY_ACF_RXHI => [F.GWY_ACF_RXHI_SID]
  | .GWY_ACF_RXEN => [F.GWY_ACF_RXEN_EN]
  | .GWY_BKT_CFG => [F.GWY_BKT_CFG_RATE, F.GWY_BKT_CFG_BURST]
  | .GWY_BKT_STAT => [F.GWY_BKT_STAT_TOKENS, F.GWY_BKT_STAT_DROP]
  | .GWY_RTE_CNT => [F.GWY_RTE_CNT_HIT, F.GWY_RTE_CNT_DROP]
  | .GWY_RTE0 => [F.GWY_RTE0_ID, F.GWY_RTE0_XTD, F.GWY_RTE0_EN, F.GWY_RTE0_REWRITE]
  | .GWY_RTE1 => [F.GWY_RTE1_MASK, F.GWY_RTE1_POLICY, F.GWY_RTE1_WAKE]
  | .GWY_RTE2 => [F.GWY_RTE2_EGRESS, F.GWY_RTE2_SRC, F.GWY_RTE2_RING, F.GWY_RTE2_COPY, F.GWY_RTE2_BUCKET]
  | .GWY_RTE3 => [F.GWY_RTE3_NEWID, F.GWY_RTE3_NEWXTD]
  | .ETH_PCTRL => [F.ETH_PCTRL_EN, F.ETH_PCTRL_AN_EN, F.ETH_PCTRL_FIX_SPEED, F.ETH_PCTRL_FIX_ROLE, F.ETH_PCTRL_AN_ADV, F.ETH_PCTRL_AN_ROLE, F.ETH_PCTRL_TC10_EN, F.ETH_PCTRL_AN_TIMEOUT]
  | .ETH_PVLAN => [F.ETH_PVLAN_PVID, F.ETH_PVLAN_DEF_PCP, F.ETH_PVLAN_ACCEPT]
  | .ETH_PSTAT => [F.ETH_PSTAT_LINK, F.ETH_PSTAT_SPEED, F.ETH_PSTAT_ROLE, F.ETH_PSTAT_SRC, F.ETH_PSTAT_SQI, F.ETH_PSTAT_TC10]
  | .ETH_PCNT0 => [F.ETH_PCNT0_RX, F.ETH_PCNT0_TX]
  | .ETH_PCNT1 => [F.ETH_PCNT1_FCS_ERR, F.ETH_PCNT1_STOMP, F.ETH_PCNT1_DROP, F.ETH_PCNT1_OVERSIZE]
  | .ETH_PEVT => [F.ETH_PEVT_UP, F.ETH_PEVT_DOWN, F.ETH_PEVT_FALLBACK, F.ETH_PEVT_AN_FAIL, F.ETH_PEVT_WAKE]
  | .ETH_PCMD => [F.ETH_PCMD_RENEG]
  | .ETH_SW_CTRL => [F.ETH_SW_CTRL_CT_EN, F.ETH_SW_CTRL_AGE]
  | .ETH_SW_QMAP => [F.ETH_SW_QMAP_Q0, F.ETH_SW_QMAP_Q1, F.ETH_SW_QMAP_Q2, F.ETH_SW_QMAP_Q3, F.ETH_SW_QMAP_Q4, F.ETH_SW_QMAP_Q5, F.ETH_SW_QMAP_Q6, F.ETH_SW_QMAP_Q7]
  | .ETH_SW_STAT => [F.ETH_SW_STAT_MAC_USED, F.ETH_SW_STAT_SAFE, F.ETH_SW_STAT_LEARN_FAIL]
  | .ETH_MAC_CMD => [F.ETH_MAC_CMD_OP, F.ETH_MAC_CMD_BUSY, F.ETH_MAC_CMD_FAIL, F.ETH_MAC_CMD_GO]
  | .ETH_MAC_D0 => [F.ETH_MAC_D0_MACLO]
  | .ETH_MAC_D1 => [F.ETH_MAC_D1_MACHI, F.ETH_MAC_D1_VID]
  | .ETH_MAC_D2 => [F.ETH_MAC_D2_PORTS, F.ETH_MAC_D2_STATIC, F.ETH_MAC_D2_VALID]
  | .ETH_SW_CMD => [F.ETH_SW_CMD_REENABLE]
  | .ETH_VLAN => [F.ETH_VLAN_MEMBER, F.ETH_VLAN_UNTAG]
  | .TIDE_CTRL => [F.TIDE_CTRL_MANUAL, F.TIDE_CTRL_SELF_VALID, F.TIDE_CTRL_KP, F.TIDE_CTRL_KI]
  | .TIDE_SRC => [F.TIDE_SRC_SRC0, F.TIDE_SRC_SRC1, F.TIDE_SRC_SRC2, F.TIDE_SRC_SRC3]
  | .TIDE_SERVO => [F.TIDE_SERVO_STEP_THR, F.TIDE_SERVO_RATE_MAX]
  | .TIDE_HOLD => [F.TIDE_HOLD_HOLD_LIMIT]
  | .TIDE_STAT => [F.TIDE_STAT_STATE, F.TIDE_STAT_VALID, F.TIDE_STAT_COARSE, F.TIDE_STAT_GM, F.TIDE_STAT_ACTIVE, F.TIDE_STAT_SLOT, F.TIDE_STAT_UNC]
  | .TIDE_OFS => [F.TIDE_OFS_OFS]
  | .TIDE_RATE => [F.TIDE_RATE_RATE]
  | .TIDE_EVT => [F.TIDE_EVT_STEP, F.TIDE_EVT_LOCK, F.TIDE_EVT_HOLDOVER, F.TIDE_EVT_SRC_CHANGE, F.TIDE_EVT_GM_CHANGE, F.TIDE_EVT_COARSE_END, F.TIDE_EVT_REFUSED, F.TIDE_EVT_HOLD_LONG]
  | .TIDE_FREE_LO => [F.TIDE_FREE_LO_FREE]
  | .TIDE_FREE_HI => [F.TIDE_FREE_HI_FREE]
  | .TIDE_SNAP_LO => [F.TIDE_SNAP_LO_T]
  | .TIDE_SNAP_HI => [F.TIDE_SNAP_HI_T]
  | .TIDE_STEP_LO => [F.TIDE_STEP_LO_V]
  | .TIDE_STEP_HI => [F.TIDE_STEP_HI_V]
  | .TIDE_SET_LO => [F.TIDE_SET_LO_V]
  | .TIDE_SET_HI => [F.TIDE_SET_HI_V]
  | .TIDE_CMP_FLAG => [F.TIDE_CMP_FLAG_FLAG]
  | .TIDE_PTP_CFG => [F.TIDE_PTP_CFG_PORT_EN, F.TIDE_PTP_CFG_PRIO1, F.TIDE_PTP_CFG_PRIO2, F.TIDE_PTP_CFG_SYNC_EXP]
  | .TIDE_PTP_STAT => [F.TIDE_PTP_STAT_ROLE, F.TIDE_PTP_STAT_AS_CAP, F.TIDE_PTP_STAT_STEPS]
  | .TIDE_GM_LO => [F.TIDE_GM_LO_ID]
  | .TIDE_GM_HI => [F.TIDE_GM_HI_ID]
  | .TIDE_PDELAY => [F.TIDE_PDELAY_DELAY]
  | .TIDE_CMP_TLO => [F.TIDE_CMP_TLO_T]
  | .TIDE_CMP_THI => [F.TIDE_CMP_THI_T]
  | .TIDE_CMP_CTRL => [F.TIDE_CMP_CTRL_EN, F.TIDE_CMP_CTRL_JNL, F.TIDE_CMP_CTRL_MISS]
  | .TIDE_CMP_PER => [F.TIDE_CMP_PER_PER]
  | .NM_CTRL => [F.NM_CTRL_EN, F.NM_CTRL_MA_ALWAYS]
  | .NM_MODNEED => [F.NM_MODNEED_NEED]
  | .NM_WAKE_CFG => [F.NM_WAKE_CFG_WAKEIN_EN, F.NM_WAKE_CFG_TIMER_EN, F.NM_WAKE_CFG_WO_MODE, F.NM_WAKE_CFG_WO_PULSE]
  | .NM_WAKE_TIMER => [F.NM_WAKE_TIMER_SECONDS]
  | .NM_WAKE_REASON => [F.NM_WAKE_REASON_CAUSE, F.NM_WAKE_REASON_INDEX]
  | .NM_WAKE_SRC => [F.NM_WAKE_SRC_CAN, F.NM_WAKE_SRC_WAKE_IN, F.NM_WAKE_SRC_DI, F.NM_WAKE_SRC_TOKEN, F.NM_WAKE_SRC_TIMER, F.NM_WAKE_SRC_EXTRACT, F.NM_WAKE_SRC_RECOV, F.NM_WAKE_SRC_DEBUG]
  | .NM_STAT => [F.NM_STAT_SLEEP_OK, F.NM_STAT_SLEEPING, F.NM_STAT_BLOCK, F.NM_STAT_MODNEED]
  | .NM_EVT => [F.NM_EVT_NODE_STUCK, F.NM_EVT_OWN_STUCK, F.NM_EVT_ISOLATED, F.NM_EVT_SLEEP_ABORT, F.NM_EVT_HELD]
  | .NM_SEG_CFG => [F.NM_SEG_CFG_EN, F.NM_SEG_CFG_START, F.NM_SEG_CFG_ISOLATE_STUCK, F.NM_SEG_CFG_MODNEED, F.NM_SEG_CFG_WAKEIN, F.NM_SEG_CFG_XTD, F.NM_SEG_CFG_NODE, F.NM_SEG_CFG_NODES]
  | .NM_SEG_KAID => [F.NM_SEG_KAID_BASE]
  | .NM_SEG_TIME => [F.NM_SEG_TIME_T_KA, F.NM_SEG_TIME_T_PREP, F.NM_SEG_TIME_T_SILENCE, F.NM_SEG_TIME_REPEAT]
  | .NM_SEG_MAXAW => [F.NM_SEG_MAXAW_MAX_AWAKE, F.NM_SEG_MAXAW_OWN_MAX]
  | .NM_SEG_WUF => [F.NM_SEG_WUF_ID, F.NM_SEG_WUF_XTD, F.NM_SEG_WUF_EN]
  | .NM_SEG_WUFD0 => [F.NM_SEG_WUFD0_DATA]
  | .NM_SEG_WUFD1 => [F.NM_SEG_WUFD1_DATA]
  | .NM_SEG_NEED => [F.NM_SEG_NEED_SW]
  | .NM_SEG_STAT => [F.NM_SEG_STAT_STATE, F.NM_SEG_STAT_NEED, F.NM_SEG_STAT_OWN_STUCK, F.NM_SEG_STAT_HELD, F.NM_SEG_STAT_WREASON, F.NM_SEG_STAT_SILENCE]
  | .NM_SEG_STUCK0 => [F.NM_SEG_STUCK0_STUCK]
  | .NM_SEG_STUCK1 => [F.NM_SEG_STUCK1_STUCK]
  | .NM_SEG_SEEN0 => [F.NM_SEG_SEEN0_SEEN]
  | .NM_SEG_SEEN1 => [F.NM_SEG_SEEN1_SEEN]
  | .NM_SEG_CMD => [F.NM_SEG_CMD_WAKE, F.NM_SEG_CMD_UNSTUCK]
  | .ACC_CTRL => [F.ACC_CTRL_POLL_EN, F.ACC_CTRL_WATCH_EN, F.ACC_CTRL_BAND, F.ACC_CTRL_POLL_INT]
  | .ACC_AER => [F.ACC_AER_EN, F.ACC_AER_WATCH, F.ACC_AER_DRIVE, F.ACC_AER_WATCH_DRIVE]
  | .ACC_SEC => [F.ACC_SEC_RESP_MAX, F.ACC_SEC_LOCK_FAILS, F.ACC_SEC_LOCK_TIME]
  | .ACC_STAT => [F.ACC_STAT_POLLING, F.ACC_STAT_ENROL, F.ACC_STAT_SLOT, F.ACC_STAT_ZONE, F.ACC_STAT_GATES, F.ACC_STAT_USED]
  | .ACC_RSSI0 => [F.ACC_RSSI0_RSSI]
  | .ACC_RSSI1 => [F.ACC_RSSI1_RSSI]
  | .ACC_EVT => [F.ACC_EVT_OK, F.ACC_EVT_FAIL, F.ACC_EVT_LATE, F.ACC_EVT_COLL, F.ACC_EVT_LOCK, F.ACC_EVT_GATE, F.ACC_EVT_AERIAL]
  | .ACC_CMD => [F.ACC_CMD_POLL_NOW, F.ACC_CMD_UNLOCK]
  | .ACC_ZONE_CFG => [F.ACC_ZONE_CFG_EN, F.ACC_ZONE_CFG_MASK]
  | .ACC_ZONE_MIN => [F.ACC_ZONE_MIN_MIN0, F.ACC_ZONE_MIN_MIN1, F.ACC_ZONE_MIN_MIN2, F.ACC_ZONE_MIN_MIN3]
  | .ACC_ZONE_EXT => [F.ACC_ZONE_EXT_MIN4, F.ACC_ZONE_EXT_MIN5, F.ACC_ZONE_EXT_MAX4, F.ACC_ZONE_EXT_MAX5]
  | .ACC_ZONE_MAX => [F.ACC_ZONE_MAX_MAX0, F.ACC_ZONE_MAX_MAX1, F.ACC_ZONE_MAX_MAX2, F.ACC_ZONE_MAX_MAX3]
  | .ACC_GATE_CFG => [F.ACC_GATE_CFG_MODE, F.ACC_GATE_CFG_ZONES]
  | .ACC_GATE_SEL => [F.ACC_GATE_SEL_SLOTS, F.ACC_GATE_SEL_WINDOW]
  | .ACC_GATE_HOLD => [F.ACC_GATE_HOLD_HOLD_SRC, F.ACC_GATE_HOLD_HOLD_INV]
  | .ACC_GATE_MSG => [F.ACC_GATE_MSG_ID, F.ACC_GATE_MSG_XTD]
  | .ACC_MSGCFG => [F.ACC_MSGCFG_PERIOD, F.ACC_MSGCFG_PORT, F.ACC_MSGCFG_MSG_EN]
  | .ACC_GOUT => [F.ACC_GOUT_GATE]
  | .ACC_SLOT_STAT => [F.ACC_SLOT_STAT_OCC, F.ACC_SLOT_STAT_MASTER, F.ACC_SLOT_STAT_VER, F.ACC_SLOT_STAT_ZONE, F.ACC_SLOT_STAT_RESULT, F.ACC_SLOT_STAT_DELAY]
  | .ACC_SLOT_ID => [F.ACC_SLOT_ID_ID]
  | .ACC_SLOT_AGE => [F.ACC_SLOT_AGE_AGE]
  | .ACC_DENY => [F.ACC_DENY_ID]
  | .UPD_CTRL => [F.UPD_CTRL_PARK_SRC, F.UPD_CTRL_PARK_INV, F.UPD_CTRL_TRIAL_TIME]
  | .UPD_STAT => [F.UPD_STAT_STATE, F.UPD_STAT_PREFIX_OK, F.UPD_STAT_REFUSE, F.UPD_STAT_BLOCKS, F.UPD_STAT_BUF, F.UPD_STAT_RECOVERY]
  | .UPD_INFO => [F.UPD_INFO_NBLK, F.UPD_INFO_TRIAL, F.UPD_INFO_ROLLBACK, F.UPD_INFO_SROLL]
  | .UPD_SVER => [F.UPD_SVER_VERSION]
  | .UPD_RVER => [F.UPD_RVER_VERSION]
  | .UPD_CMD => [F.UPD_CMD_ACTIVATE, F.UPD_CMD_CLEAR, F.UPD_CMD_KEY]
  | .UPD_EVT => [F.UPD_EVT_HDR_BAD, F.UPD_EVT_BLOCK_BAD, F.UPD_EVT_STAGED, F.UPD_EVT_REFUSED, F.UPD_EVT_RESOLED, F.UPD_EVT_CONFIRMED]
  | .UPD_BITMAP => [F.UPD_BITMAP_STAGED]
  | .CUST_LC => [F.CUST_LC_STATE, F.CUST_LC_RETURNS, F.CUST_LC_ENROL, F.CUST_LC_DBG, F.CUST_LC_DBG_LOCK, F.CUST_LC_SAFE]
  | .CUST_MBX0_CMD => [F.CUST_MBX0_CMD_OP, F.CUST_MBX0_CMD_KEY, F.CUST_MBX0_CMD_LEN, F.CUST_MBX0_CMD_GO]
  | .CUST_MBX0_STAT => [F.CUST_MBX0_STAT_BUSY, F.CUST_MBX0_STAT_DONE, F.CUST_MBX0_STAT_ERR, F.CUST_MBX0_STAT_REFUSED, F.CUST_MBX0_STAT_OWNER, F.CUST_MBX0_STAT_ERRCODE]
  | .CUST_MBX0_DATA => [F.CUST_MBX0_DATA_D]
  | .CUST_MBX1_CMD => [F.CUST_MBX1_CMD_OP, F.CUST_MBX1_CMD_KEY, F.CUST_MBX1_CMD_LEN, F.CUST_MBX1_CMD_GO]
  | .CUST_MBX1_STAT => [F.CUST_MBX1_STAT_BUSY, F.CUST_MBX1_STAT_DONE, F.CUST_MBX1_STAT_ERR, F.CUST_MBX1_STAT_REFUSED, F.CUST_MBX1_STAT_OWNER, F.CUST_MBX1_STAT_ERRCODE]
  | .CUST_MBX1_DATA => [F.CUST_MBX1_DATA_D]
  | .JNL_CTRL => [F.JNL_CTRL_PERSIST_MIN, F.JNL_CTRL_EMCY_MIN]
  | .JNL_STAT => [F.JNL_STAT_FILL, F.JNL_STAT_UNPERS, F.JNL_STAT_FLUSHING]
  | .JNL_SEQ_NEW => [F.JNL_SEQ_NEW_SEQ]
  | .JNL_SEQ_OLD => [F.JNL_SEQ_OLD_SEQ]
  | .JNL_SEQ_PERS => [F.JNL_SEQ_PERS_SEQ]
  | .JNL_ERR => [F.JNL_ERR_ERR_REG, F.JNL_ERR_ACTIVE]
  | .JNL_CNT => [F.JNL_CNT_OVERRUN, F.JNL_CNT_EMCY_DROP]
  | .JNL_CMD => [F.JNL_CMD_FLUSH, F.JNL_CMD_CLR_1003]
  | .JNL_RD_SEQ => [F.JNL_RD_SEQ_SEQ]
  | .JNL_RD_STAT => [F.JNL_RD_STAT_STAT]
  | .JNL_WIN => [F.JNL_WIN_W]

/-- The registers of each block of R42, by the block's base address. -/
def regsSYS : List Reg :=
  [.SYS_MODE, .SYS_MODE_CMD, .SYS_CFG, .SYS_RST_CAUSE, .SYS_LOAD, .SYS_HRP_STAT, .SYS_HRP_CTRL, .SYS_BOLLARD_FEED]
def regsCLK : List Reg :=
  [.CLK_STAT, .CLK_WELT]
def regsGUARD : List Reg :=
  [.GUARD_VIOL, .GUARD_VLAST, .GUARD_VINFO, .GUARD_BERR_ADDR, .GUARD_BERR_INFO, .GUARD_PAR_ADDR, .GUARD_PAR_STAT, .GUARD_REENABLE]
def regsBERTH : List Reg :=
  [.BERTH_STAT, .BERTH_CAP, .BERTH_RAILCAP, .BERTH_LINK, .BERTH_CTRL, .BERTH_EVT, .BERTH_SUP_CTRL, .BERTH_SUP_STAT, .BERTH_VFEED_AB, .BERTH_VFEED_CD, .BERTH_VKEEP, .BERTH_SUP_EVT, .BERTH_SUP_MIN]
def regsSW : List Reg :=
  [.SW_CTRL, .SW_LIMIT, .SW_PWM, .SW_PHASE, .SW_OUT, .SW_STAT, .SW_EDUTY, .SW_CUR, .SW_CURPER, .SW_PEAK, .SW_TEMP, .SW_EVT, .SW_GLB_PAIR, .SW_GLB_GRPLO, .SW_GLB_GRPHI, .SW_GLB_GRPCMD, .SW_GLB_SATLO, .SW_GLB_SATHI, .SW_GLB_STAT]
def regsPROT : List Reg :=
  [.PROT_CFG, .PROT_STAT, .PROT_WIRE, .PROT_THR, .PROT_CNT, .PROT_EVT, .PROT_CLR, .PROT_GLB_HOLDLO, .PROT_GLB_HOLDHI, .PROT_GLB_LATLO, .PROT_GLB_LATHI, .PROT_WC_RES, .PROT_WC_CAP, .PROT_WC_TH, .PROT_FL_CTRL, .PROT_FL_STAT, .PROT_FL_AUX, .PROT_FL_EVT, .PROT_FL_CLR]
def regsCAL : List Reg :=
  [.CAL_CTRL, .CAL_STAT, .CAL_BOOST_A, .CAL_BOOST_B, .CAL_LF0, .CAL_LF1, .CAL_DI, .CAL_EVT, .CAL_CH_LIVE, .CAL_CH_FACT, .CAL_CH_STAT, .CAL_CH_DIAG, .CAL_CH_DSTAT, .CAL_CH_DEVT]
def regsINJ : List Reg :=
  [.INJ_GLB_CTRL, .INJ_GLB_STAT, .INJ_BST_CFG, .INJ_BST_STAT, .INJ_BST_PWR, .INJ_BANK_CFG, .INJ_BANK_STAT, .INJ_CH_CFG, .INJ_CH_PROT, .INJ_CH_CLWIN, .INJ_CH_CMD, .INJ_CH_STAT, .INJ_CH_RES, .INJ_CH_CLOSE, .INJ_CH_CNT, .INJ_CH_EVT, .INJ_LAST_HDR, .INJ_LAST_PH]
def regsEVE : List Reg :=
  [.EVE_CTRL, .EVE_STAT, .EVE_CNT0, .EVE_CNT1, .EVE_CMD_TLO, .EVE_CMD_THI, .EVE_CMD_SPEC, .EVE_CMD_DUR, .EVE_CMD, .EVE_CMD_RES, .EVE_EVT, .EVE_RES_PTR, .EVE_ST_CTRL, .EVE_ST_SCALE, .EVE_ST_CANID, .EVE_ST_CFG2, .EVE_ST_ODO, .EVE_ST_SPEED, .EVE_ST_RECLO, .EVE_ST_RECHI, .EVE_ST_STAT, .EVE_ST_CNT, .EVE_NZ_MAP, .EVE_NZ_GEO]
def regsLEDS : List Reg :=
  [.LEDS_GLB_CFG, .LEDS_GLB_LEVEL, .LEDS_GLB_STAT, .LEDS_GLB_PCAP, .LEDS_GLB_CTRL, .LEDS_GLB_EVT, .LEDS_CH_CFG, .LEDS_CH_OUT, .LEDS_CH_FADE, .LEDS_CH_STAT, .LEDS_CH_EDUTY, .LEDS_CH_EVT, .LEDS_CH_CMD]
def regsDIO : List Reg :=
  [.DIO_DI_LO, .DIO_DI_HI, .DIO_EDGE_LO, .DIO_EDGE_HI, .DIO_GRP_CFG, .DIO_CNT_CFG, .DIO_CNT_VAL, .DIO_CNT_FREQ, .DIO_CNT_CMD, .DIO_PPS_CFG, .DIO_PPS_TLO, .DIO_PPS_THI, .DIO_WAKE_CFG, .DIO_WAKE_SRC, .DIO_DO_OUT, .DIO_DO_CFG, .DIO_DO_STAT, .DIO_DO_DIAG, .DIO_DO_CLR, .DIO_AUX_CTRL, .DIO_AUX_STAT, .DIO_EVT]
def regsBOLL : List Reg :=
  [.BOLL_CTRL, .BOLL_CMD, .BOLL_STAT, .BOLL_SIL, .BOLL_SILSTAT, .BOLL_GOV, .BOLL_RFX_ACTLO, .BOLL_RFX_ACTHI, .BOLL_RFX_LATLO, .BOLL_RFX_LATHI, .BOLL_RFX_CLRLO, .BOLL_RFX_CLRHI, .BOLL_SAFE, .BOLL_RFX_COND, .BOLL_RFX_ACT, .BOLL_RFX_DLY]
def regsCAN : List Reg :=
  [.CAN_CTRL, .CAN_NBT, .CAN_DBT, .CAN_TDC, .CAN_STAT, .CAN_ERR, .CAN_ERRCFG, .CAN_TXB_CMD, .CAN_TXB_STAT, .CAN_TXTS_LO, .CAN_TXTS_HI, .CAN_FLT_STD, .CAN_FLT_EXT, .CAN_RXF_CFG, .CAN_RXF_STAT, .CAN_RXF_ACK, .CAN_HPM, .CAN_COLL, .CAN_DET_CFG, .CAN_TT_CFG, .CAN_TT_REF, .CAN_TT_STAT, .CAN_SW_CFG, .CAN_SW_ID, .CAN_SW_IDM, .CAN_SW_DLO, .CAN_SW_DHI, .CAN_SW_STAT, .CAN_EVT, .CAN_CMD, .CAN_DET_A, .CAN_DET_B]
def regsGWY : List Reg :=
  [.GWY_CTRL, .GWY_STAT, .GWY_CNT0, .GWY_CNT1, .GWY_CNT2, .GWY_EVT, .GWY_CMD, .GWY_SRC_CFG, .GWY_SEG_CFG, .GWY_SEG_STAT, .GWY_QUAR0, .GWY_QUAR1, .GWY_RING_CFG, .GWY_RING_BASE, .GWY_RING_WM, .GWY_RING_PUT, .GWY_RING_GET, .GWY_RING_STAT, .GWY_ACF_SIDLO, .GWY_ACF_SIDHI, .GWY_ACF_DMACLO, .GWY_ACF_DMACHI, .GWY_ACF_TXCFG, .GWY_ACF_RXLO, .GWY_ACF_RXHI, .GWY_ACF_RXEN, .GWY_BKT_CFG, .GWY_BKT_STAT, .GWY_RTE_CNT, .GWY_RTE0, .GWY_RTE1, .GWY_RTE2, .GWY_RTE3]
def regsETH : List Reg :=
  [.ETH_PCTRL, .ETH_PVLAN, .ETH_PSTAT, .ETH_PCNT0, .ETH_PCNT1, .ETH_PEVT, .ETH_PCMD, .ETH_SW_CTRL, .ETH_SW_QMAP, .ETH_SW_STAT, .ETH_MAC_CMD, .ETH_MAC_D0, .ETH_MAC_D1, .ETH_MAC_D2, .ETH_SW_CMD, .ETH_VLAN]
def regsTIDE : List Reg :=
  [.TIDE_CTRL, .TIDE_SRC, .TIDE_SERVO, .TIDE_HOLD, .TIDE_STAT, .TIDE_OFS, .TIDE_RATE, .TIDE_EVT, .TIDE_FREE_LO, .TIDE_FREE_HI, .TIDE_SNAP_LO, .TIDE_SNAP_HI, .TIDE_STEP_LO, .TIDE_STEP_HI, .TIDE_SET_LO, .TIDE_SET_HI, .TIDE_CMP_FLAG, .TIDE_PTP_CFG, .TIDE_PTP_STAT, .TIDE_GM_LO, .TIDE_GM_HI, .TIDE_PDELAY, .TIDE_CMP_TLO, .TIDE_CMP_THI, .TIDE_CMP_CTRL, .TIDE_CMP_PER]
def regsNM : List Reg :=
  [.NM_CTRL, .NM_MODNEED, .NM_WAKE_CFG, .NM_WAKE_TIMER, .NM_WAKE_REASON, .NM_WAKE_SRC, .NM_STAT, .NM_EVT, .NM_SEG_CFG, .NM_SEG_KAID, .NM_SEG_TIME, .NM_SEG_MAXAW, .NM_SEG_WUF, .NM_SEG_WUFD0, .NM_SEG_WUFD1, .NM_SEG_NEED, .NM_SEG_STAT, .NM_SEG_STUCK0, .NM_SEG_STUCK1, .NM_SEG_SEEN0, .NM_SEG_SEEN1, .NM_SEG_CMD]
def regsACC : List Reg :=
  [.ACC_CTRL, .ACC_AER, .ACC_SEC, .ACC_STAT, .ACC_RSSI0, .ACC_RSSI1, .ACC_EVT, .ACC_CMD, .ACC_ZONE_CFG, .ACC_ZONE_MIN, .ACC_ZONE_EXT, .ACC_ZONE_MAX, .ACC_GATE_CFG, .ACC_GATE_SEL, .ACC_GATE_HOLD, .ACC_GATE_MSG, .ACC_MSGCFG, .ACC_GOUT, .ACC_SLOT_STAT, .ACC_SLOT_ID, .ACC_SLOT_AGE, .ACC_DENY]
def regsUPD : List Reg :=
  [.UPD_CTRL, .UPD_STAT, .UPD_INFO, .UPD_SVER, .UPD_RVER, .UPD_CMD, .UPD_EVT, .UPD_BITMAP]
def regsCUST : List Reg :=
  [.CUST_LC, .CUST_MBX0_CMD, .CUST_MBX0_STAT, .CUST_MBX0_DATA, .CUST_MBX1_CMD, .CUST_MBX1_STAT, .CUST_MBX1_DATA]
def regsJNL : List Reg :=
  [.JNL_CTRL, .JNL_STAT, .JNL_SEQ_NEW, .JNL_SEQ_OLD, .JNL_SEQ_PERS, .JNL_ERR, .JNL_CNT, .JNL_CMD, .JNL_RD_SEQ, .JNL_RD_STAT, .JNL_WIN]

/-- The blocks of the peripheral region (R42): base address, span and registers. -/
structure BlockMap where
  base : Nat
  span : Nat
  regs : List Reg

def blockMap : List BlockMap := [
  ⟨0x40000000, 0x10000, regsSYS⟩,
  ⟨0x40010000, 0x10000, regsCLK⟩,
  ⟨0x40020000, 0x10000, regsGUARD⟩,
  ⟨0x40030000, 0x10000, regsBERTH⟩,
  ⟨0x40040000, 0x10000, regsSW⟩,
  ⟨0x40050000, 0x10000, regsPROT⟩,
  ⟨0x40060000, 0x10000, regsCAL⟩,
  ⟨0x40080000, 0x10000, regsINJ⟩,
  ⟨0x40090000, 0x10000, regsEVE⟩,
  ⟨0x400A0000, 0x10000, regsLEDS⟩,
  ⟨0x400B0000, 0x8000, regsDIO⟩,
  ⟨0x400B8000, 0x8000, regsBOLL⟩,
  ⟨0x400C0000, 0x10000, regsCAN⟩,
  ⟨0x400E0000, 0x10000, regsGWY⟩,
  ⟨0x40100000, 0x10000, regsETH⟩,
  ⟨0x40120000, 0x10000, regsTIDE⟩,
  ⟨0x40130000, 0x10000, regsNM⟩,
  ⟨0x40140000, 0x10000, regsACC⟩,
  ⟨0x40150000, 0x10000, regsUPD⟩,
  ⟨0x40160000, 0x10000, regsCUST⟩,
  ⟨0x40170000, 0x10000, regsJNL⟩]

end Sys2Proof.Machine
end

