-- ==== Sys2Proof/Machine/Tbl.lean ====
section
/-! DEFINITION. Sparse tables in one canonical form: a list of key and value pairs, keys strictly rising, no entry equal to
what an unlisted key reads as. Registers, memory and the per-channel records of the blocks are all held so, so that equal
contents are equal data. -/

namespace Sys2Proof.Machine

/-- The value of a key: its entry, or the default of an unlisted key. -/
def Tbl.get {κ α : Type} [DecidableEq κ] (dflt : κ → α) : List (κ × α) → κ → α
  | [], k => dflt k
  | (k', v) :: r, k => if k = k' then v else Tbl.get dflt r k

/-- Insert an entry before the first key that is not below it. -/
def Tbl.ins {κ α : Type} (lt : κ → κ → Bool) : List (κ × α) → κ → α → List (κ × α)
  | [], k, v => [(k, v)]
  | (k', v') :: r, k, v => if lt k' k then (k', v') :: Tbl.ins lt r k v else (k, v) :: (k', v') :: r

/-- Remove a key. -/
def Tbl.del {κ α : Type} [DecidableEq κ] : List (κ × α) → κ → List (κ × α)
  | [], _ => []
  | (k', v') :: r, k => if k' = k then Tbl.del r k else (k', v') :: Tbl.del r k

/-- Write a key; writing what an unlisted key reads as removes the entry. -/
def Tbl.set {κ α : Type} [DecidableEq κ] [DecidableEq α] (lt : κ → κ → Bool) (dflt : κ → α)
    (t : List (κ × α)) (k : κ) (v : α) : List (κ × α) :=
  if v = dflt k then Tbl.del t k else Tbl.ins lt (Tbl.del t k) k v

/-- Every key of the table lies above `k`. -/
def Tbl.above {κ α : Type} (lt : κ → κ → Bool) (k : κ) (t : List (κ × α)) : Bool := t.all fun e => lt k e.1

/-- The canonical form. -/
def Tbl.wf {κ α : Type} [DecidableEq α] (lt : κ → κ → Bool) (dflt : κ → α) : List (κ × α) → Bool
  | [] => true
  | (k, v) :: r => decide (v ≠ dflt k) && Tbl.above lt k r && Tbl.wf lt dflt r

/-- Tables keyed by a number. -/
def natLt (a b : Nat) : Bool := decide (a < b)

end Sys2Proof.Machine
end

