-- ==== Sys2Proof/Machine/State.lean ====
section
/-! DEFINITION. The state of the ZC-640 as plain data: true time, the registers of the cards (one sparse file), the memories,
and beside them the state that spec/ gives the blocks and that no register holds (timers, queues, event stores, sessions).
Every piece is listed in INVENTORY.md with its rule and its reset value. -/

namespace Sys2Proof.Machine

/-- One journal entry (R614). `born` is the true time of its stamp. -/
structure Entry where
  code : Nat := 0
  cls : Nat := 0
  coarse : Bool := false
  late : Bool := false
  clear : Bool := false
  persist : Bool := false
  index : Nat := 0
  stamp : Nat := 0
  seq : Nat := 0
  mode : Nat := 0
  supp : Nat := 0
  d5 : Nat := 0
  d6 : Nat := 0
  d7 : Nat := 0
  born : Nat := 0
deriving DecidableEq, Repr

/-- An active fault (R612): code, index, the class it was raised with, and the true time of its latest raise. -/
structure Active where
  f : FaultId
  idx : Nat
  cls : Nat
  since : Nat
deriving DecidableEq, Repr

/-- An EMCY message waiting for TXB1 (R624). -/
structure Emcy where
  err : Nat
  reg : Nat
  code : Nat
  idx : Nat
  seq : Nat
  ports : List Nat                      -- dictionary ports that have not sent it yet
deriving DecidableEq, Repr

/-- The journal (R611 to R630). -/
structure JnlSt where
  active : List Active := []            -- R612
  shown : List (Nat × Nat) := []        -- code and index of the active faults as the visible entries show them (R622)
  pend : List Entry := []               -- stamped, not yet visible (R38), in the order of R37
  next : Nat := 0                       -- the next SEQ (R615)
  any : Bool := false                   -- an entry has become visible since the ring was emptied
  fill : Nat := 0                       -- entries in the ring (JNL_STAT.FILL)
  lastStamp : Nat := 0                  -- true time of the latest visible stamp (R39)
  lastLog : Nat := 0                    -- that stamp
  err1003 : List Nat := []              -- 1003, newest first (R623)
  emcy : List Emcy := []                -- EMCY queue (R624)
  emcyDrop : Nat := 0                   -- JNL_CNT.EMCY_DROP
  overrun : Nat := 0                    -- JNL_CNT.OVERRUN
  supp : List ((Nat × Nat) × Nat) := [] -- suppressed occurrences per code and index (R614)
  last : List ((Nat × Nat) × Nat) := [] -- true time of the latest journalled raise per code and index (rate limits)
  wait : List Nat := []                 -- SEQ of the PERSIST entries not yet persisted (R620)
  waitSince : List Nat := []            -- true time at which each entry of wait began to wait
  flushing : List Nat := []             -- SEQ of the entries of the running flush
  flushReq : Bool := false              -- a flush has been requested (R620)
  deferSince : Option Nat := none       -- C5 deferred since (R31)
  nvm : List (Nat × List Byte) := []    -- the last 512 persisted entries, by SEQ, oldest first (R620)
  nvmCount : Nat := 0                   -- entries ever persisted: the next slot of the circle
  seqPers : Nat := 0                    -- JNL_SEQ_PERS
  lost : Nat := 0                       -- unflushed count found in AON retention at this Boot (R621)
  retained : List (Nat × List Byte) := []   -- entries R167 holds in AON retention
deriving DecidableEq, Repr

/-- Units that R67, R69 and R70 send to a safe state. -/
inductive SafeUnit where
  | sysCfg | hrp | jnlCfg | cust | supCfg | berthCfg | swPair | protCh (n : Nat) | wireClass (c : Nat) | feedLim (f : Nat)
  | dioGrp (g : Nat) | dioCnt (k : Nat) | dioPps | dioWake | dioDo | tide | nm | acc | upd
  | swCh (n : Nat) | injCh (n : Nat) | injBank (b : Nat) | lastU (l : Nat) | ledCh (n : Nat) | cal | inj | eve | leds | boll | can | eth | gwy
deriving DecidableEq, Repr

/-- How a bus access ended (R47, R61). -/
inductive BusAnswer where
  | ok (v : Nat)       -- completed; the value read, 0 for a write
  | viol               -- guard violation or DEBUG at NONE: reads 0, write ignored (R47, R49)
  | err (cause : Nat)  -- bus error with the cause of GUARD_BERR_INFO
deriving DecidableEq, Repr

/-- A half of a 64-bit atomic pair that a master's shadow holds (R55). -/
structure Shadow where
  rd : Option ((Reg × Nat) × Nat) := none   -- the high register and the latched high word
  wr : Option ((Reg × Nat) × Nat) := none   -- the low register and the held low word
  flt : List ((Nat × Nat) × Nat) := []      -- held filter or route words (R402, R467): (base address, word 1 to 3)
deriving DecidableEq, Repr

/-- Host session on the host register port (R81 to R83) and the port's frame memory. -/
structure HrpSt where
  nonce : Option (List Byte × Nat) := none   -- nonce and the time of its issue
  session : Bool := false
  lastOk : Nat := 0                          -- last frame that checked correctly (R82)
  lockUntil : Option Nat := none             -- lockout (R83)
  status : Nat := 0                          -- status byte of the last frame (R79)
  done : Nat := 0                            -- done byte of the last frame
  reply : List Nat := []                     -- read data of the last frame, words
deriving DecidableEq, Repr

/-- The register interface beside the GUARD registers. -/
structure BusSt where
  shadow : List (Nat × Shadow) := []         -- per master code (R55)
  par : List ((Reg × Nat) × Bool) := []      -- Cfg registers in mismatch, and whether it has been found (R67)
  safe : List SafeUnit := []                 -- units in their safe state (R69)
  answer : BusAnswer := .ok 0                -- the model's own: how the last access was answered
  dmaErr : Bool := false                     -- the DMA channel's error flag (R61)
  hrp : HrpSt := {}
deriving DecidableEq, Repr

/-- Clocks and processor pairs beside CLK_STAT and SYS_LOAD (R18 to R32). -/
structure ClkSt where
  aDown : Option Nat := none     -- pair A restarting since (R23)
  bDown : Option Nat := none
  aMis : Option Nat := none      -- last mismatch of pair A (R25)
  bMis : Option Nat := none
  restarts : List Nat := []      -- pair restarts of the last 60 s, newest first (R25)
  highAt : List (Nat × Nat) := []   -- per pair: when its load was last seen at 75 % or above (R29)
  g0 : Nat := 0                  -- true time at which the PWM timebase G was 0 (R176)
  msAt : Nat := 0                -- true time of the last 1 ms step of the wire models (R202)
deriving DecidableEq, Repr

/-- Plate sensors (R109, R114): beneath L1 and L2, beneath L3 and L4. -/
structure PlateSt where
  t1 : Sens := .val 0
  t2 : Sens := .val 0
deriving DecidableEq, Repr

/-- The berth beside the BERTH registers (R118 to R139). -/
structure BerthSt where
  prechg : Nat := 0                        -- bit f: feed f came within 1.0 V of PRECHG since it last mated (R121)
  prechgMated : Bool := false
  probes : List (Nat × (Nat × Nat)) := []  -- passing probes in a row per feed, and when the last one ran (R121)
  lastAdv : Nat := 0                       -- true time of the last valid RAIL_ADV (R132)
  advSeen : Bool := false
  adopted : Nat := 0                       -- bit f: feed f has had its first adoption (R134)
  raise : List (Nat × List (Nat × Nat)) := []   -- per feed: higher capacities that wait, each with its start, rising (R134)
  extAt : Option Nat := none               -- true time at which EXTRACT read 1 (R138)
  rampAt : Nat := 0                        -- entry to EXTRACTING (R137)
  early : Bool := false                    -- a blade lost its feed before the comparison (R137)
  held : Option Nat := none                -- the held slot sample, closed contacts as 1 (R127)
  lastMs : Nat := 0                        -- last extraction: time to the comparison, ms (2010:0B)
  lastRes : List Nat := []                 -- last extraction: residual of each feed, 0.1 A
  lastOk : Bool := false
  commit : List (Nat × List Byte) := []    -- extraction entries waiting for their commit (R138)
  reports : Nat := 0                       -- MOD_REPORT frames sent
  report : List Byte := []                 -- the last MOD_REPORT, as a frame (R129, R130)
  reportAt : Option Nat := none            -- true time of the last MOD_REPORT (R130)
deriving DecidableEq, Repr

/-- Modes (R141 to R150). -/
structure ModeSt where
  trigInt : Option Nat := none   -- 1 µs interval of the last mode trigger taken (R144)
  trigRank : Nat := 0            -- its rank
  bootMode : Bool := false       -- the present Boot follows a module reset (R142, R153)
  limpAt : Nat := 0              -- entry to Limp (R149)
  bootCause : Nat := 0           -- bit of SYS_RST_CAUSE of the present Boot (R628)
  sleeping : Bool := false       -- the sequence of R150 runs
  sleepAt : Nat := 0             -- sleep commit
  bootEndAt : Nat := 0           -- end of the last Boot (R440)
  holdBoot : Bool := false       -- the module stays in Boot until power goes (R139)
  applying : Bool := false       -- the stored set is being applied (R541)
  setApplied : Bool := false     -- a valid stored set was applied at this Boot
  raised : List (FaultId × Nat) := []  -- faults raised since the present Boot began (R612)
  reset : Option Nat := none     -- a module reset asked for by the access in progress, with its SYS_RST_CAUSE bit
  aon : Bool := false            -- the events that are raised carry AON stamps: those of a wake (R34, R36)
  rom : Bool := false            -- ROM has led this Boot to Recovery, whose settings are still to be made (R606)
  started : Bool := false        -- ROM and firmware have done the start-up work of the present Boot
deriving DecidableEq, Repr

/-- What the world holds the module's input contacts at: the slot strap (bit 1 open), EXTRACT, RECOV low, WAKE_IN high (R87). -/
structure PinSt where
  slot : Nat := 63
  extract : Bool := false
  recov : Bool := false
  wakeIn : Bool := false
deriving DecidableEq, Repr

/-- Supply supervision (R157 to R168). -/
structure SupSt where
  restoring : List (Nat × Nat) := []     -- per feed: true time of the next turn-on of the running restore (R163)
  restored : List Nat := []              -- feeds of which the running restore has turned a channel on
  lossKept : Bool := false               -- the loss entry goes to AON retention: an NVM write had begun (R167)
  keep : Nat := 0                        -- KEEP voltage, 10 mV
deriving DecidableEq, Repr

/-- What an output stage of a switch cell runs (R171, R176, R363). -/
structure Drive where
  mode : Nat := 0        -- 0 off, 1 on, 2 PWM, 3 PWM_COMP
  duty : Nat := 0
  period : Nat := 0      -- 25 ns ticks
  phase : Nat := 0       -- µs
  anchor : Option Nat := none   -- G from which the periods of a switch event count (R303); none: aligned under R176
deriving DecidableEq, Repr

/-- A calibration window (R234, R238): when its visit began, and the starts of its groups so far, oldest first. -/
structure CalRun where
  at0 : Nat
  gs : List Nat := []
deriving DecidableEq, Repr

/-- One switch channel beside its SW and PROT registers. -/
structure SwCh where
  drive : Drive := {}                -- what the stage runs now
  st : Nat := 0                      -- 0 off, 1 on, 2 PWM running, 3 waiting (SW_STAT.STATE)
  waitFrom : Nat := 0                -- true time from which an aligned period start is sought (R174)
  pstart : Nat := 0                  -- G at the start of the running PWM period
  perRun : Nat := 0                  -- period in force of the running PWM, ticks
  onTicks : Nat := 0                 -- on-time of the running period (R177)
  realign : Bool := false            -- the running period completes, then the output waits for an aligned start (R174)
  delay : Option Nat := none         -- delayed group turn-on: true time at which it is due (R184)
  fresh : Bool := false              -- the next conduction is the first after a start (R183)
  inrush : Option Nat := none        -- end of the inrush phase (R183)
  frozen : Nat := 0                  -- time frozen in this inrush phase, ns (R217)
  satAt : Option Nat := none         -- start of the last saturated period (R180, log 118)
  sup : Bool := true                 -- supply-rule hold, rank 8 (R122, R159 to R162, R167)
  restarts : List Nat := []          -- level-1 restarts of the last 10 s, newest first (R201)
  tc : Int := 58880                  -- conductor, 1/1,024 °C (R202), at its start of R210
  ts : Int := 58216                  -- surface, 1/1,024 °C
  policy : Nat := 0                  -- re-enable policy, 2150:71 to 80 (R226)
  clears : List Nat := []            -- clears made under it in the last hour
  ramp : Option Drive := none        -- what the channel runs as its extraction ramp (R135)
  frzAt : Option Nat := none         -- its inrush timer is frozen since (R217)
  setT : List (Nat × Nat) := []      -- per hold of ranks 1 to 6: the PWR cycle in which it was set (R221)
  auto : Option (Nat × Nat) := none  -- mode and duty that pair B has recorded for a clear under the policy (R226)
  onAt : Nat := 0                    -- when the channel began to conduct (R242)
  fullAt : Nat := 0                  -- when it last turned on without PWM (R334)
  offAt : Nat := 0                   -- when the channel turned off (R247)
  ten : List Int := []               -- in ON: sums of 20 samples of the running 10 ms, 2.5 mA (R191)
  low : Option (Nat × Nat) := none   -- the current is below OL_THR since, and the periods evaluated since (R249)
  high : Option Nat := none          -- the current is at OL_THR + 20 mA or more since (R249)
  win : Option CalRun := none        -- the calibration window that runs (R234)
  past : Option CalRun := none       -- the latest one that has ended: its samples may still be to report (R239)
deriving DecidableEq, Repr

/-- A running class restore of a feed limiter (R215). -/
structure FlRestore where
  cls : Nat
  next : Nat
deriving DecidableEq, Repr

/-- A feed limiter and its feed monitor beside the PROT_FL registers (R212 to R217). -/
structure FeedLim where
  win : List Int := []                 -- sums of the last 100 ms, 2.5 mA LSB, newest first
  aux : List Int := []                 -- the auxiliary shares in them (R212)
  at0 : Nat := 0                       -- true time of the last update (R212)
  hold : Option Nat := none            -- end of the hold-off (R213)
  shed : List Nat := []                -- shed classes, most recently shed first (R215)
  below : Option Nat := none           -- the average has been at or below the release level since
  rest : Option FlRestore := none
  lastRest : Option Nat := none        -- latest completed restore of a shed class (R216)
  sagAt : Option Nat := none           -- a sag runs since (R217)
  sagLevel : Nat := 0                  -- its fixed level, 10 mV
deriving DecidableEq, Repr

/-- An output that the bollard governs (R363): the captured state for HOLD_LAST, whether it is forced to OFF by a unit's safe
state (R70, R376), and what sent it there (0 to 3 a silence timer, 4 the hold window, 5 a safe state of its unit). -/
structure Gov where
  cap : Drive := {}
  off : Bool := false
  why : Nat := 0
deriving DecidableEq, Repr

/-- A silence timer (R366 to R369). -/
structure SilTimer where
  left : Nat := 0                    -- time left when it stood still, ns
  since : Option Nat := none         -- running since
  exp : Bool := false
  last : Option Nat := none          -- last accepted feed value
deriving DecidableEq, Repr

/-- A reflex entry's evaluation state (R377 to R381). -/
structure Rfx where
  cond : Bool := false               -- condition at the last evaluation
  since : Nat := 0                   -- since when it has had that value
  res : Bool := false                -- result after the delays (and the latch)
  lat : Bool := false                -- latched
  act : Bool := false                -- active
  eff : Bool := false                -- its action took effect at the last evaluation (R380, R381)
deriving DecidableEq, Repr

/-- The bollard beside its registers. -/
structure BollSt where
  gov : List (Nat × Gov) := []       -- governed outputs by output index
  sil : List (Nat × SilTimer) := []
  hold : Option Nat := none          -- end of the running hold window (R370)
  rfx : List (Nat × Rfx) := []
  rfxAt : Nat := 0                   -- the last evaluation of the reflex entries (R377)
deriving DecidableEq, Repr

/-- A gPTP port of the tide beside its registers (R454 to R456). -/
structure PtpPort where
  best : Option (Nat × Nat) := none  -- the Announce vector in force, as one number, and when it came
  synAt : Option Nat := none         -- last Sync received (R442)
  lost : Nat := 0                    -- Pdelay requests unanswered in a row
  waiting : Bool := false            -- the last Pdelay request is unanswered
  seq : Nat := 0                     -- next sequenceId of the messages sent
  reqSeq : Nat := 0                  -- sequenceId of the last Pdelay request
  reqAt : Nat := 0                   -- its egress stamp
  annTx : Option Nat := none         -- last Announce sent (R455)
  syncTx : Option Nat := none        -- last Sync sent
  pdTx : Option Nat := none          -- last Pdelay_Req sent
  prev : Option (Nat × Nat) := none  -- t3 and t4 of the previous Pdelay response
  ratio : Int := 0                   -- neighbour rate ratio minus 1, 2^-41
deriving DecidableEq, Repr

/-- What the tide keeps in AON retention (R460). -/
structure TideKept where
  time : Nat                         -- logical time of the edge
  ticks : Nat                        -- AON count of the edge
  acc : Rat
  period : Nat
deriving DecidableEq, Repr

/-- The tide beside its registers (R435 to R460). -/
structure TideSt where
  epoch : Nat := 0                   -- true time at which TIDE_FREE was 0 (R435)
  stopped : Option Nat := none       -- the counter value at which the TIDE clock was lost (R21)
  selfAt : Nat := 0                  -- when SELF_VALID last became 1 (R440)
  f : Nat := 0                       -- anchor: counter value
  a : Nat := 0                       -- anchor: ns
  fr : Nat := 0                      -- anchor: fraction, 2^-40 ns
  acc : Rat := 0                     -- servo estimate of the frequency error (R445)
  lastMeas : Option Nat := none      -- logical time of the previous measurement of the source in use
  fresh : Bool := true               -- the next measurement is the first from its source (R447)
  below : Nat := 0                   -- consecutive measurements below the lock threshold (R449)
  above4 : Nat := 0                  -- consecutive measurements at or above 4 times it
  big : Nat := 0                     -- consecutive measurements at or above STEP_THR (R447)
  holdAt : Nat := 0                  -- entry to HOLDOVER (R452)
  retained : Option TideKept := none -- AON retention (R460)
  period : Nat := 30517578000        -- AON period, fs (R459): 30,517.578 ns
  winAt : Option (Nat × Nat) := none -- start of the running 64 s window: AON tick, logical time
  ppsAt : Option Nat := none         -- last PPS edge (R442)
  refAt : List (Nat × Nat) := []     -- per CAN controller: SOF stamp of the previous reference message (R443)
  port : List (Nat × PtpPort) := []  -- the gPTP ports
deriving DecidableEq, Repr

/-- A switch event in delivery (R303): its store entry, its drive, whether it has an output effect. -/
structure SwEv where
  ent : Nat
  d : Drive
  quiet : Bool := false
deriving DecidableEq, Repr

/-- A store entry of the event engine (R294): state 1 SPECULATIVE, 2 COMMITTED, 3 DELIVERED. -/
structure EvEnt where
  st : Nat
  gen : Nat
  target : Nat
  value : Nat
  dur : Nat                          -- µs
  start : Nat                        -- logical ns
  src : Nat                          -- R318: 0 direct, 1 PDO, 2 to 9 streams
  late : Bool := false
  aborted : Bool := false
  result : Nat := 0                  -- result of a delivered switch event so far
  ends : Nat := 0                    -- end of a delivered switch event, true time
  xev : Nat := 0                     -- trigger position, mm (R310)
  dose : Option Nat := none          -- dose in mm of a LENGTH event (R313)
  pos : Nat := 0                     -- position of its record
  lead : Nat := 0                    -- µs
deriving DecidableEq, Repr

/-- A prescription stream beside its EVE_ST registers (R307 to R317). -/
structure Strm where
  recs : List (Nat × Nat × Nat) := []   -- unexpanded records, oldest first: position, mask, dose
  newest : Option Nat := none           -- position of the newest accepted record
  odo : Nat := 0                        -- odometer, 1/65,536 mm, modulo 2^48
  v : Nat := 0                          -- estimate, mm/s
  last : Nat := 0                       -- last message or write of the speed (R308)
  pulses : List Nat := []               -- pulse times, newest first (R307)
  pulseAt : Nat := 0                    -- last pulse, or write of the odometer, from which SRC 0 extrapolates (R307)
  upd : Nat := 0                        -- last estimate update
  loss : Bool := false                  -- SPEED_LOSS
  under : Bool := false                 -- STREAM_UNDERRUN
deriving DecidableEq, Repr

/-- The event engine beside its registers. -/
structure EveSt where
  store : List (Nat × EvEnt) := []
  gens : List (Nat × Nat) := []         -- generation of the last event of an entry
  sw : List (Nat × SwEv) := []          -- per channel: the switch event in delivery
  strm : List (Nat × Strm) := []
  newest : List Byte := []              -- the newest result record (2300:12)
  full : Bool := false                  -- 512 records are unread (R318)
  lateStep : Bool := false              -- EVE_LATE_START has been raised for the present step
deriving DecidableEq, Repr

/-- A valve event as it reaches its channel (R261, R269). -/
structure ValveEv where
  ent : Option Nat := none   -- store entry, none for a direct command
  last : Nat := 0
  dur : Nat := 0             -- µs
  req : Nat := 0             -- requested start, true time
deriving DecidableEq, Repr

/-- A running valve event (R261 to R265): its copy of the last, phase, actual start, command end, end decay. -/
structure ValveRun where
  ev : ValveEv
  hdr : Nat := 0
  phs : List Nat := []
  start : Nat := 0
  cmdEnd : Nat := 0
  phase : Nat := 0
  phAt : Nat := 0
  decay : Bool := false
  decayAt : Nat := 0
  fast : Bool := false               -- low side off: the current falls through the clamp
  result : Nat := 0
  degraded : Bool := false           -- the running phase is a battery fallback
  waitBst : Option Nat := none       -- a BOOST_PEAK phase waits for its rail since (R275)
  tpeak : Option Nat := none
deriving DecidableEq, Repr

/-- A valve channel beside its INJ_CH registers. -/
structure InjCh where
  run : Option ValveRun := none
  wait : Option ValveEv := none
  lastEnd : Option Nat := none       -- end of the previous event (R273)
  latched : Bool := false            -- COIL_SHORT
  closes : List Nat := []            -- the last 8 detected closing delays, newest first (R281)
  misses : Nat := 0                  -- consecutive misses (R282)
deriving DecidableEq, Repr

/-- The high side of a bank (R253, R263). -/
structure HighSide where
  on : Bool := false                 -- the chop of a HOLD has the feed path on
  chopAt : Nat := 0                  -- when it last changed
  path : Nat := 0                    -- the path that is called for: 0 none, 1 feed, 2 boost
  last : Nat := 0                    -- the latest path that was on
  offAt : Nat := 0                   -- when that path turned off
deriving DecidableEq, Repr

/-- The valve banks and boosts beside the INJ registers. -/
structure InjSt where
  ch : List (Nat × InjCh) := []
  hs : List (Nat × HighSide) := []   -- per bank
  enAt : List (Nat × Nat) := []      -- per boost: since when it has been switching and has not become ready (R257)
deriving DecidableEq, Repr

/-- A running fade (R329): from d0 to target over `len` ms, k steps of 4 ms done, the time of step 0. -/
structure Fade where
  d0 : Nat
  target : Nat
  len : Nat
  k : Nat := 0
  at0 : Nat := 0
deriving DecidableEq, Repr

/-- An LED sink beside its LEDS_CH registers. -/
structure LedCh where
  fade : Option Fade := none
  duty : Nat := 0                    -- duty in force by command or fade (R327, R329)
  code : Nat := 0                    -- current code in force
  lit : Bool := false                -- the current in force is above 0 (R323)
  low : Nat := 0                     -- consecutive windows below 0.25 V (R335)
  good : Nat := 0                    -- consecutive windows at 0.25 V or more
  high : Nat := 0                    -- consecutive windows above VSHORT (R336)
  lsupAt : Option Nat := none        -- LEDSUP has been up since, as its last window found (R334)
  pers : Nat := 0                    -- periods since the last stretch pulse (R332)
  pAt : Option Nat := none           -- tick of the latest period start (R325)
  ends : List Nat := []              -- ticks at which on-phases of 8 µs or more end, oldest first (R326, R331)
deriving DecidableEq, Repr

/-- The LEDS block beside its registers (R338): the millisecond of the latest sum and the sum, the time of the latest comparison. -/
structure LedBlk where
  sumMs : Nat := 0
  psum : Nat := 0                    -- 0.1 mW / 16,383
  foldAt : Nat := 0
deriving DecidableEq, Repr

/-- A digital input (R343, R344): comparator level, stamp of the last debounced change. -/
structure DiCh where
  raw : Bool := false                -- comparator level (R343)
  stamp : Nat := 0                   -- logical ns
deriving DecidableEq, Repr

/-- A counter input (R345 to R347). -/
structure CntCh where
  edges : Nat := 0                   -- counted edges in the running gate
  first : Nat := 0                   -- first edge of the gate
  lastE : Option Nat := none         -- latest counted edge
  period : Option Nat := none        -- last measured period, ns
  empty : Nat := 0                   -- consecutive gates without an edge
  gateAt : Nat := 0                  -- start of the running gate
deriving DecidableEq, Repr

/-- Digital inputs, outputs and AUX24 beside the DIO registers. -/
structure DioSt where
  di : List (Nat × DiCh) := []
  cnt : List (Nat × CntCh) := []
  grpAt : List (Nat × Nat) := []     -- per group: its debounce was restarted (R344)
  retry : List (Nat × Nat) := []     -- per output: when its overload retry is due (R352)
  shedAt : Option Nat := none        -- last shed step of AUX24 (R355)
  retAt : Option Nat := none         -- last return step of AUX24
  ovl : Bool := false                -- shedding under R355 is under way
  ssupRetry : Option Nat := none     -- R354
  strobe : List (Nat × Nat) := []    -- consecutive wake strobes that differ, per input (R349)
deriving DecidableEq, Repr

/-- Live calibration beside the CAL registers. -/
structure CalSt where
  accAt : List (Nat × Nat) := []     -- per channel: last accepted window
  visit : List (Nat × Nat) := []     -- per channel: last visit (R241)
  noise : List (Nat × Nat) := []     -- per aerial: measured LF noise floor, µV rms; 2 mV where none is listed (R233, R245)
  lfBad : List (Nat × Nat) := []     -- per aerial: bursts at an end of the trim range with phase above 10°
  factGood : Bool := true            -- the factory set in data NVM passes its CRC-32 (R231, R233)
  fact : List (Nat × (Int × Int)) := []   -- the factory set: per channel gain correction and offset
  factB : List (Nat × (Int × Int)) := []  -- per boost
  sinceBoot : List Nat := []         -- channels with an accepted window since Boot or revert (R237)
  live : List Nat := []              -- channels on the live set (R231)
deriving DecidableEq, Repr
/-- A bank of the stored set (R536): 0 no header, 1 valid, 2 damaged, 3 marked restored (R540). Values by index * 256 + subindex. -/
structure Bank where
  st : Nat := 0
  seq : Nat := 0
  vals : List (Nat × List Byte) := []
deriving DecidableEq, Repr

/-- A store that has been requested and has not completed (R537, R538): who waits for its reply, since when, whether it has begun. -/
structure Job where
  who : List (Client × Nat × Nat) := []   -- client, request, SEQ of the request
  begun : Bool := false
  vals : List (Nat × List Byte) := []
deriving DecidableEq, Repr

/-- A session of the dictionary (R511, R513, R533). -/
structure Sess where
  client : Client
  level : Nat
  last : Nat                       -- last access accepted through it
  sid : Nat := 0
  ks : List Byte := []
  seq : Nat := 0                   -- last accepted SEQ (R534)
  reply : List Byte := []          -- its cached reply
deriving DecidableEq, Repr

/-- A running SDO transfer (R520): kind 0 segmented download, 1 segmented upload, 2 block download, 3 block upload. -/
structure Xfer where
  kind : Nat
  idx : Nat
  sub : Nat
  toggle : Bool := false
  size : Option Nat := none
  data : List Byte := []           -- received, or still to be sent
  all : List Byte := []            -- the whole value of an upload
  last : Nat := 0                  -- last client message
  blk : Nat := 127                 -- block size in force
  seq : Nat := 0                   -- segments of the running block
  crc : Bool := false
  phase : Nat := 0                 -- block transfers: 0 in a block, 1 end expected, 2 start expected
deriving DecidableEq, Repr

/-- A receive PDO beside its entries: data that waits for SYNC, time of the last frame, deadline passed. -/
structure Rpdo where
  wait : Option (List Byte) := none
  last : Option Nat := none
  late : Bool := false
deriving DecidableEq, Repr

/-- A transmit PDO beside its entries: values last sent, when, and its SYNC count; `started` after SYNC start. -/
structure Tpdo where
  sent : List Byte := []
  at0 : Option Nat := none
  before : List Byte × Option Nat := ([], none)  -- `sent` and `at0` before the frame in TXB1 or its queue (R519)
  count : Nat := 0
  started : Bool := false
deriving DecidableEq, Repr

/-- The dictionary beside the registers (R506 to R545). -/
structure OdSt where
  vals : List (Nat × List Byte) := []               -- values that no register holds, by index * 256 + subindex
  banks : List (Nat × Bank) := []
  markDue : Bool := false                           -- the mark of 1011:01 waits for the end of a deferral (R165, R540)
  jobs : List Job := []                             -- the store that runs or is deferred, and one further (R538)
  sess : List Sess := []
  nonce : List (Client × (List Byte × Nat × Nat)) := []   -- issued nonce, its time, its level (R513, R533)
  fails : Nat := 0                                  -- failed authentications in a row (R515)
  lockUntil : Option Nat := none
  xfer : List (Nat × Xfer) := []                    -- per SDO server
  queue : List (Nat × CanFrame × Option Nat) := []  -- dictionary queue: port, frame, its TPDO from 0; oldest first (R519)
  tx1 : List (Nat × Option Nat) := []               -- per port the TPDO whose frame TXB1 holds
  rpdo : List (Nat × Rpdo) := []
  tpdo : List (Nat × Tpdo) := []
  nodes : List (Nat × Nat) := []                    -- node IDs in effect (R517)
  ip : Nat := 0                                     -- IPv4 address, UDP port and node address in effect (R545)
  udp : Nat := 47410
  node : Nat := 0x2FF
  hbAt : Nat := 0                                   -- last heartbeat or boot-up message
  hbIn : List (Nat × Nat) := []                     -- per consumer entry: last heartbeat of its node
  nyd : List (Nat × (Nat × Nat)) := []              -- Nydulet clients: version, block size (R532)
  negVer : Nat := 0
  negBlk : Nat := 0
  dom : List ((Client × Nat) × List Byte) := []     -- domain writes that are being received (R531)
  reply : List (Client × List Byte) := []           -- the newest reply to each client
  window : Nat := 0                                 -- 5000:04
  emcyAt : List (Nat × Nat) := []                   -- per port: last EMCY loaded (1015)
deriving DecidableEq, Repr

/-- A frame that waits in the timer slot of a controller (R397): 0 heartbeat or boot-up, 1 keep-alive, 2 reference message,
3 wake frame, 4 release message of a gate. -/
structure TimerFrame where
  kind : Nat
  frame : CanFrame
deriving DecidableEq, Repr

/-- The collision count of a transmit slot (R410), with the identifier it counts. -/
structure Coll where
  id : Nat := 0
  xtd : Bool := false
  n : Nat := 0
deriving DecidableEq, Repr

/-- A CAN controller and its transceiver beside the CAN registers. -/
structure CanCtl where
  timer : List TimerFrame := []        -- the timer slot, oldest first
  onBus : Option Nat := none           -- the slot whose frame is known to be on the bus: 0 to 2 TXBb, 3 the timer slot
  stopping : Bool := false             -- EN is 0 and the frame on the bus completes (R391)
  abort : Nat := 0                     -- bit b: TXBb is aborted after its frame on the bus (R398)
  late : Nat := 0                      -- bit b: TXBb was requested while pair A restarted or in Limp (R417)
  ring2 : Option Nat := none           -- the egress ring whose frame TXB2 holds (R475)
  coll : List (Nat × Coll) := []       -- per slot
  collAt : List (Nat × Nat) := []      -- per identifier: when ID_COLLISION was last raised (R410)
  boffs : List Nat := []               -- bus-offs of the last 60 s, newest first (R409)
  boffAt : Nat := 0                    -- entry to bus-off
  counting : Bool := false             -- recovery counts recessive sequences (R408)
  limited : Bool := false              -- held in bus-off until RECOVER (R409)
  cand : Nat := 0                      -- candidate under test (R393)
  good : Nat := 0                      -- consecutive frames without error in its window
  bad : Bool := false                  -- its window has seen an error (R395)
  winAt : Nat := 0                     -- start of its window
  found : Bool := false                -- a candidate has been accepted
  listen : Bool := false               -- listen-only after detection (R394)
  xcvr : Nat := 0                      -- transceiver: 0 standby, 1 normal, 2 asleep and armed, 3 asleep and not armed
  refAt : Option Nat := none           -- last reference message, true time (R413)
  ttAt : Option Nat := none            -- the master put its last reference message into the timer slot (R413)
  ownRef : Option Nat := none          -- logical time at the SOF of the own previous reference message (R412)
  fecWake : Bool := false              -- SW_FEC sets at the next Boot (R415)
deriving DecidableEq, Repr

/-- A frame on the way through the switch: its bytes from the destination to the end of the data, whether its FCS is inverted (R428),
and what the port does with its egress stamp (R429, R430): 0 nothing, 1 returns that of a Pdelay request, 2 writes it into a Sync,
3 writes it into a Pdelay response. -/
structure EthFr where
  bytes : List Byte
  stomp : Bool := false
  stamp : Nat := 0
deriving DecidableEq, Repr

/-- An Ethernet port beside its ETH registers. -/
structure EthPort where
  queue : List (Nat × EthFr) := []     -- queue number and frame, oldest first
  inFlight : Option EthFr := none
  pageAt : Nat := 0                    -- last Clause 98 page, or start of the present try (R421)
  fixedTry : Bool := false             -- the port tries the fixed setting (R421)
  retryAt : Option Nat := none         -- negotiation restarts (R420)
  sent : Option (EthFr × Nat) := none  -- the last frame sent, with its egress stamp (R429)
deriving DecidableEq, Repr

/-- An entry of the MAC table (R423). -/
structure MacEnt where
  mac : Nat
  vid : Nat
  ports : Nat
  static : Bool
  seen : Nat
deriving DecidableEq, Repr

/-- The switch beside its registers. -/
structure EthSt where
  port : List (Nat × EthPort) := []
  mac : List MacEnt := []
  internal : List (List Byte) := []    -- the last frame delivered to the internal port that no engine of the module takes
deriving DecidableEq, Repr

/-- A frame in the gateway: as received, its element fields of R401, its source code and segment (R462), flags of R463. -/
structure GwFrame where
  f : CanFrame
  sof : Nat := 0
  tsv : Bool := false
  coarse : Bool := false
  hipri : Bool := false
  fidx : Nat := 0xFFF
  src : Nat
  seg : Nat
  srcts : Bool := false
deriving DecidableEq, Repr

/-- What the lookup of a frame gave (R466, R467): its entry as it stood then, a miss, or a direct ring. -/
inductive GwRoute where
  | entry (e : Nat) (w : List Nat)
  | miss
  | direct (ring : Nat)
deriving DecidableEq, Repr

/-- A frame held on a source by BACKPRESSURE, or waiting behind one (R474). -/
structure GwHeld where
  g : GwFrame
  r : GwRoute
  stamp : Nat
  rings : Option (List Nat) := none    -- rings still to serve; none while its commit has not run
  since : Nat := 0
deriving DecidableEq, Repr

/-- A frame in the hold queue of an ASLEEP segment (R478). -/
structure GwSleep where
  g : GwFrame
  out : CanFrame                       -- as sent
  rewritten : Bool
  route : Nat
  rings : List Nat
  policy : Nat
  stamp : Nat
  at0 : Nat
deriving DecidableEq, Repr

/-- A quarantine (R481). -/
structure Quar where
  seg : Nat
  id : Nat
  xtd : Bool
  till : Nat
deriving DecidableEq, Repr

/-- The gateway beside its registers (R462 to R485). -/
structure GwySt where
  held : List (Nat × List GwHeld) := []   -- per source index 0 to 8
  sleep : List (Nat × List GwSleep) := [] -- per segment
  quar : List (Nat × Quar) := []          -- per table index
  bkt : List (Nat × (Nat × Nat)) := []    -- per bucket: tokens in units of 1e-9 and their true time
  pdu : List (Nat × (List Byte × Nat)) := []   -- per egress ring: the ACF messages packed and when the first was
  seqOut : List (Nat × Nat) := []         -- per egress ring: next sequence_num
  seqIn : List (Nat × Nat) := []          -- per ACF_RX entry: last sequence_num
  closing : List Nat := []                -- rings whose EN has been cleared and whose reservations still stand (R465)
  rteOld : List (Nat × (Nat × List Nat)) := []  -- route entries changed within the last second, newest first: entry, when, words before (R467)
deriving DecidableEq, Repr

/-- A node of a managed CAN segment (R491, R493). -/
structure NmNode where
  last : Option Nat := none            -- last keep-alive
  since : Option Nat := none           -- start of its awake time
  stuck : Bool := false
deriving DecidableEq, Repr

/-- A segment beside its NM_SEG registers (R486 to R498). -/
structure NmSeg where
  silence : Nat := 0                   -- start of the silence timer
  at0 : Nat := 0                       -- entry to the present state
  wokeAt : Nat := 0                    -- the segment has been awake since (R493)
  kaAt : Nat := 0                      -- next keep-alive due
  fast : Nat := 0                      -- fast keep-alives still to send (R490)
  repeatTo : Option Nat := none        -- end of the repeat window (R489)
  lastActive : Bool := false           -- the last wake was active
  isolating : Bool := false            -- the running commit isolates (R494)
  heldBy : Nat := 0                    -- cause of the held request (R501)
  released : Nat := 0                  -- need sources released under R495: bit 0 SW, 1 module need, 2 WAKE_IN
  ownSince : Option Nat := none        -- start of the own awake time
  nodes : List (Nat × NmNode) := []
  rejectAt : Option Nat := none        -- a TC10 partner has rejected since (R498)
deriving DecidableEq, Repr

/-- The harbour master beside its registers. -/
structure NmSt where
  seg : List (Nat × NmSeg) := []
  wakeIn : Bool := false               -- WAKE_IN level as the module sees it
  noFeedAt : Nat := 0                  -- no feed has been present since (R493)
  pulse : Option Nat := none           -- WAKE_OUT pulse since (R504)
  okSince : Option Nat := none         -- the conditions of R499 have held since
  timerAt : Option Nat := none         -- power removed at (R502)
deriving DecidableEq, Repr

/-- A challenge cycle of the access block (R547, R552, R554, R566): what it asks, its start, the aerials it uses, its challenge. -/
inductive CycKind where
  | broadcast
  | addressed (i : Nat)
  | slotted (i k : Nat)
  | assign
deriving DecidableEq, Repr

structure Cycle where
  kind : CycKind
  start : Nat
  aerials : Nat                        -- enabled aerials, a mask
  chal : List Byte
deriving DecidableEq, Repr

/-- A token slot as secure NVM holds it (R564, R566), with the time of its last OK. -/
structure TokSlot where
  occ : Bool := false
  master : Bool := false
  ver : Nat := 0
  id : Nat := 0
  lastOk : Option Nat := none
deriving DecidableEq, Repr

/-- One of the 16 identities that have failed (R556): failure times, newest first, and the end of its lockout. -/
structure Ident where
  id : Nat
  fails : List Nat := []
  lock : Option Nat := none
deriving DecidableEq, Repr

/-- A running enrolment (R564 to R566). -/
structure Enrol where
  slot : Nat
  master : Bool
  id : Nat
  key : List Byte
  start : Nat
  ver : Option Nat := none             -- the version chosen, once the assign frame has been answered
deriving DecidableEq, Repr

/-- A gate (R559, R562): last authentication that opened it, its zone, its last release message. -/
structure AccGate where
  auth : Nat := 0
  zone : Nat := 15
  msgAt : Option Nat := none
deriving DecidableEq, Repr

/-- The access block beside its registers. Slots, deny list and system ID are non-volatile. -/
structure AccSt where
  slot : List (Nat × TokSlot) := []
  deny : List Nat := []
  sysId : Nat := 0
  cyc : Option Cycle := none
  last : Option Nat := none            -- start of the last broadcast cycle
  req : Bool := false                  -- POLL_NOW waits for the running cycle to end
  done : Option (List Nat) := none     -- the slot indexes addressed since the last broadcast cycle (R554)
  lf : List Byte := []                 -- the last LF frame sent (R546)
  low : List (Nat × Nat) := []         -- per aerial: consecutive frames with low drive current (R549)
  good : List (Nat × Nat) := []        -- per aerial: consecutive frames with normal current since
  ids : List Ident := []
  said : List ((Nat × Nat) × Nat) := []   -- per code and identity: last journalled (R556)
  gate : List (Nat × AccGate) := []
  learn : Option (Nat × Nat × Bool) := none   -- zone that is learnt, since when, whether an OK reply has set it (R558)
  enrol : Option Enrol := none
  result : Nat := 0                    -- 2A00:22
  turn : Nat := 5                      -- the aerial of the last watch wake frame (R569)
  watchAt : Option Nat := none         -- its start
deriving DecidableEq, Repr

/-- A mailbox of customs: the operation that runs (R585). -/
structure Mbx where
  owner : Option Nat := none           -- master code
  op : Option (Nat × Nat × Nat) := none   -- OP, KEY, LEN
deriving DecidableEq, Repr

/-- The debug port (R580 to R583). -/
structure DbgSt where
  nonce : Option (List Byte × Nat) := none
  granted : Nat := 0                   -- level granted
  level : Nat := 0                     -- level in force
  mode : Nat := 2                      -- the mode of which the level in force takes account
  fails : Nat := 0
  lock : Option Nat := none
  held : Option Nat := none            -- a request that waits for the end of Boot
  wake : Bool := false                 -- a wake attach waits for its request (R582)
  service : Bool := false              -- the present Service is that of a wake attach
  enabled : Bool := true               -- 2B00:30
deriving DecidableEq, Repr

/-- Customs: keys and counters (R572 to R575), lifecycle, nonces, the debug port, the mailboxes. -/
structure CustSt where
  keys : List (Nat × List Byte) := []  -- present keys by index
  bad : List Nat := []                 -- keys that fail their check (R573)
  lc : Nat := 0                        -- lifecycle code (R576)
  returns : Nat := 0
  enrols : Nat := 0
  rollback : Nat := 0
  fresh : Nat := 0                     -- F (R563)
  freshNvm : Nat := 0                  -- F as last persisted
  nonce : Option (List Byte × Nat) := none   -- lifecycle nonce (R578)
  dbg : DbgSt := {}
  mbx : List (Nat × Mbx) := []
  safe : Bool := false                 -- customs safe state (R586)
deriving DecidableEq, Repr

/-- Marker states of R599. -/
inductive Marker where
  | idle
  | resoling (next : Nat)
  | trial (c : Nat)
deriving DecidableEq, Repr

/-- The update block beside its registers (R588 to R609): marker, staged prefix and bitmap are in staging NVM, the running image record
in the resident-loader region. -/
structure UpdSt where
  marker : Marker := .idle
  gather : List (Nat × List Byte) := []        -- prefix data, by stream offset / 256, until the prefix is complete (R593)
  whole : Bool := false                        -- the prefix has arrived and passed; its staging write has not run (R595)
  head : Option (List Byte) := none            -- header and signature of the image that is gathered or staged
  ok : Bool := false                           -- PREFIX_OK
  bitmap : List Nat := []                      -- staged body blocks
  asm : List (Nat × List (Nat × List Byte)) := []   -- assembly buffers: block, data by offset in the block / 256
  ready : List Nat := []                       -- complete blocks whose staging write has not run (R595)
  runRec : List Byte := []                     -- prefix of the running image
  runOk : Bool := true                         -- the running image passes R604
  trialAt : Option Nat := none                 -- the trial time counts since (R605)
deriving DecidableEq, Repr


/-- Faults of the model: an event whose operands no wire of the module can carry. -/
inductive Fault where
  /-- Raised by CAN_FRAME_RECEIVED and CAN_SELECTIVE_WAKE, the two meanings that take a CAN frame of the bus, where `CanFrame.wf` refuses
  the frame: no bus carries it. Safe. -/
  | illFormed
deriving DecidableEq, Repr

/-- Refusals of the model. -/
inductive Refusal where
  /-- Raised by an arm of `exec` whose command has no meaning yet; no arm is left that raises it. Safe. -/
  | notModelled (mnemonic : String)
deriving DecidableEq, Repr

/-- The state of the module. -/
structure State where
  now : Nat := 0                            -- true time since power-on, ns
  regs : List ((Reg × Nat) × Word) := []    -- the registers of the cards
  mem : List Host.Cell := []                -- RAM and NVM
  jnl : JnlSt := {}
  bus : BusSt := {}
  clk : ClkSt := {}
  pins : PinSt := {}
  plate : PlateSt := {}
  berth : BerthSt := {}
  mode : ModeSt := {}
  sup : SupSt := {}
  sw : List (Nat × SwCh) := []
  fl : List (Nat × FeedLim) := []
  boll : BollSt := {}
  tide : TideSt := {}
  eve : EveSt := {}
  inj : InjSt := {}
  led : List (Nat × LedCh) := []
  leds : LedBlk := {}
  dio : DioSt := {}
  cal : CalSt := {}
  od : OdSt := {}
  can : List (Nat × CanCtl) := []
  eth : EthSt := {}
  gwy : GwySt := {}
  nm : NmSt := {}
  acc : AccSt := {}
  cust : CustSt := {}
  upd : UpdSt := {}
  free : Nat := 0                           -- the model's own: how many free values have been drawn (log 3)
  pending : List Instr := []                -- the commands that wait, first in first out
deriving DecidableEq, Repr

/-- The machine right after a power-on reset (R73, R154): every register at its card's reset value (no entry listed), every
memory byte unlisted, every block's hidden state at its initial value, no command waiting. -/
def State.reset : State := {}

end Sys2Proof.Machine
end

