-- ==== Sys2Proof/Machine/Ops.lean ====
section
/-! DEFINITION. The named operations over the state that every block uses: registers and their fields, memory, time, the
records of the blocks, free values, and raising and clearing a fault in the journal (R612 to R618, R630). -/

namespace Sys2Proof.Machine

/-! ## Registers -/

/-- The per-class defaults of R207 as the three wire class registers hold them: res, tlim, cc, cs, rcs, rsa. -/
def wireDefaults : List (Nat × Nat × Nat × Nat × Nat × Nat) := [
  (52000, 105, 121, 132, 30, 4080), (37100, 105, 173, 196, 32, 3320), (24700, 105, 259, 273, 34, 2790),
  (18500, 105, 345, 325, 35, 2530), (12700, 105, 518, 402, 36, 2210), (7600, 105, 863, 577, 38, 1770),
  (4710, 105, 1380, 870, 40, 1430), (3140, 105, 2070, 1040, 40, 1230), (1820, 105, 3450, 1480, 42, 965),
  (1160, 105, 5520, 2140, 42, 780), (743, 105, 8630, 3270, 44, 624), (527, 105, 12080, 3780, 45, 547),
  (368, 105, 17250, 5040, 46, 461), (18500, 125, 345, 325, 35, 2530), (7600, 125, 863, 577, 38, 1770),
  (3140, 125, 2070, 1040, 40, 1230)]

/-- The default candidate table of R396: first and second word. -/
def detDefaults : List (Nat × Nat) := [(0x80F3E1E1, 0x00011A81), (0x80F3E1E3, 0x00011A81), (0x80F3E1E1, 0x80011A81),
  (0x8133A260, 0x00011A81), (0x80F3E1E7, 0x00011A81), (0x81F7E3E0, 0x8000D460)]

/-- What a register reads as while nothing has written it: its card's reset value (R73), with the registers whose reset value
is stated per index: the wire classes (R207), VLAN 1 and the candidates of R396. -/
def resetVal (k : Reg × Nat) : Word :=
  let d := wireDefaults.getD k.2 (0, 0, 0, 0, 0, 0)
  match k.1 with
  | .PROT_WC_RES => BitVec.ofNat 32 (d.1 + d.2.1 * 2 ^ 16 + 50 * 2 ^ 24)
  | .PROT_WC_CAP => BitVec.ofNat 32 (d.2.2.1 + d.2.2.2.1 * 2 ^ 16)
  | .PROT_WC_TH => BitVec.ofNat 32 (d.2.2.2.2.1 + d.2.2.2.2.2 * 2 ^ 16)
  | .ETH_VLAN => if k.2 = 1 then 0x1F1F else 0
  | .CAN_DET_A => BitVec.ofNat 32 (detDefaults.getD (k.2 % 16) (0, 0)).1
  | .CAN_DET_B => BitVec.ofNat 32 (detDefaults.getD (k.2 % 16) (0, 0)).2
  | r => BitVec.ofNat 32 r.card.reset

/-- The order of the register file: by register, then by index. -/
def regLt (a b : Reg × Nat) : Bool :=
  decide (a.1.ctorIdx < b.1.ctorIdx) || (decide (a.1.ctorIdx = b.1.ctorIdx) && decide (a.2 < b.2))

/-- The word a register holds. -/
def State.rd (s : State) (r : Reg) (i : Nat := 0) : Word := Tbl.get resetVal s.regs (r, i)

/-- Set the word a register holds. -/
def State.wr (s : State) (r : Reg) (i : Nat) (v : Word) : State :=
  { s with regs := Tbl.set regLt resetVal s.regs (r, i) v }

/-- The value of a field in a word. -/
def Fld.of (f : Fld) (w : Word) : Nat := w.toNat / 2 ^ f.lsb % 2 ^ f.w

/-- A word with a field replaced; the value is cut to the field's width. -/
def Fld.into (f : Fld) (w : Word) (v : Nat) : Word :=
  BitVec.ofNat 32 (w.toNat - f.of w * 2 ^ f.lsb + v % 2 ^ f.w * 2 ^ f.lsb)

/-- The value of a register field. -/
def State.fld (s : State) (f : Fld) (i : Nat := 0) : Nat := f.of (s.rd f.reg i)

/-- A one-bit field as a truth value. -/
def State.flag (s : State) (f : Fld) (i : Nat := 0) : Bool := s.fld f i != 0

/-- Set a register field. -/
def State.setFld (s : State) (f : Fld) (i : Nat) (v : Nat) : State := s.wr f.reg i (f.into (s.rd f.reg i) v)

/-- Set a one-bit field. -/
def State.setFlag (s : State) (f : Fld) (i : Nat := 0) (b : Bool := true) : State := s.setFld f i (if b then 1 else 0)

/-- Set bit `k` of a field. -/
def State.setBit (s : State) (f : Fld) (i k : Nat) (b : Bool := true) : State := s.setFld f i (putBit (s.fld f i) k b)

/-- Bit `k` of a field. -/
def State.bit (s : State) (f : Fld) (i k : Nat) : Bool := bitOf (s.fld f i) k

/-- Add to a counter field that saturates at its width. -/
def State.bump (s : State) (f : Fld) (i : Nat := 0) (n : Nat := 1) : State :=
  s.setFld f i (Nat.min (s.fld f i + n) (2 ^ f.w - 1))

/-- Every register of the given domains returns to its reset value (R73); the exceptions of R629 are kept. -/
def State.resetDomains (s : State) (ds : List Domain) (keep : List Reg) : State :=
  { s with regs := s.regs.filter fun e => !(ds.contains e.1.1.card.dom) || keep.contains e.1.1 }

/-! ## Records of the blocks -/

def State.swc (s : State) (n : Nat) : SwCh := Tbl.get (fun _ => {}) s.sw n
def State.setSwc (s : State) (n : Nat) (c : SwCh) : State := { s with sw := Tbl.set natLt (fun _ => {}) s.sw n c }
def State.flc (s : State) (f : Nat) : FeedLim := Tbl.get (fun _ => {}) s.fl f
def State.setFlc (s : State) (f : Nat) (c : FeedLim) : State := { s with fl := Tbl.set natLt (fun _ => {}) s.fl f c }
def State.silc (s : State) (t : Nat) : SilTimer := Tbl.get (fun _ => {}) s.boll.sil t
def State.setSilc (s : State) (t : Nat) (c : SilTimer) : State :=
  { s with boll := { s.boll with sil := Tbl.set natLt (fun _ => {}) s.boll.sil t c } }
def State.rfxc (s : State) (k : Nat) : Rfx := Tbl.get (fun _ => {}) s.boll.rfx k
def State.setRfxc (s : State) (k : Nat) (c : Rfx) : State :=
  { s with boll := { s.boll with rfx := Tbl.set natLt (fun _ => {}) s.boll.rfx k c } }

def State.injc (s : State) (n : Nat) : InjCh := Tbl.get (fun _ => {}) s.inj.ch n
def State.setInjc (s : State) (n : Nat) (c : InjCh) : State :=
  { s with inj := { s.inj with ch := Tbl.set natLt (fun _ => {}) s.inj.ch n c } }
def State.ledc (s : State) (n : Nat) : LedCh := Tbl.get (fun _ => {}) s.led n
def State.setLedc (s : State) (n : Nat) (c : LedCh) : State := { s with led := Tbl.set natLt (fun _ => {}) s.led n c }
def State.dic (s : State) (n : Nat) : DiCh := Tbl.get (fun _ => {}) s.dio.di n
def State.setDic (s : State) (n : Nat) (c : DiCh) : State :=
  { s with dio := { s.dio with di := Tbl.set natLt (fun _ => {}) s.dio.di n c } }
def State.cntc (s : State) (n : Nat) : CntCh := Tbl.get (fun _ => {}) s.dio.cnt n
def State.setCntc (s : State) (n : Nat) (c : CntCh) : State :=
  { s with dio := { s.dio with cnt := Tbl.set natLt (fun _ => {}) s.dio.cnt n c } }
def State.canc (s : State) (n : Nat) : CanCtl := Tbl.get (fun _ => {}) s.can n
def State.setCanc (s : State) (n : Nat) (c : CanCtl) : State := { s with can := Tbl.set natLt (fun _ => {}) s.can n c }
def State.ethp (s : State) (p : Nat) : EthPort := Tbl.get (fun _ => {}) s.eth.port p
def State.setEthp (s : State) (p : Nat) (c : EthPort) : State :=
  { s with eth := { s.eth with port := Tbl.set natLt (fun _ => {}) s.eth.port p c } }
def State.ptp (s : State) (p : Nat) : PtpPort := Tbl.get (fun _ => {}) s.tide.port p
def State.setPtp (s : State) (p : Nat) (c : PtpPort) : State :=
  { s with tide := { s.tide with port := Tbl.set natLt (fun _ => {}) s.tide.port p c } }
def State.nms (s : State) (g : Nat) : NmSeg := Tbl.get (fun _ => {}) s.nm.seg g
def State.setNms (s : State) (g : Nat) (c : NmSeg) : State :=
  { s with nm := { s.nm with seg := Tbl.set natLt (fun _ => {}) s.nm.seg g c } }
def State.setGwy (s : State) (x : GwySt) : State := { s with gwy := x }
def State.setNm (s : State) (x : NmSt) : State := { s with nm := x }
def State.setTide (s : State) (x : TideSt) : State := { s with tide := x }
def State.strm (s : State) (n : Nat) : Strm := Tbl.get (fun _ => {}) s.eve.strm n
def State.setStrm (s : State) (n : Nat) (c : Strm) : State :=
  { s with eve := { s.eve with strm := Tbl.set natLt (fun _ => {}) s.eve.strm n c } }

/-- Look up a key in an association list. -/
def lookup {κ α : Type} [DecidableEq κ] (k : κ) : List (κ × α) → Option α
  | [] => none
  | (k', v) :: r => if k = k' then some v else lookup k r

/-- Set a key of an association list, newest first. -/
def assoc {κ α : Type} [DecidableEq κ] (k : κ) (v : α) (l : List (κ × α)) : List (κ × α) := (k, v) :: Tbl.del l k

/-- Fold a state change over a list. -/
def State.each {α : Type} (s : State) (l : List α) (f : State → α → State) : State := l.foldl f s

/-- A state change under a condition. -/
def State.when (s : State) (b : Bool) (f : State → State) : State := if b then f s else s

/-! ## Memory (R42). A byte of NVM that nothing has written reads 0xFF, any other byte 0 (assumption log 5). -/

def memZero (a : Nat) : Byte := if 0x01000000 ≤ a ∧ a < 0x20000000 then 0xFF else 0
/-- The canonical form of a memory: addresses strictly rising, no entry equal to what an unlisted address reads as. -/
def Memory.wf (m : List Host.Cell) : Bool := Tbl.wf natLt memZero m
def State.byte (s : State) (a : Nat) : Byte := Tbl.get memZero s.mem a
def State.setByte (s : State) (a : Nat) (v : Byte) : State := { s with mem := Tbl.set natLt memZero s.mem a v }

/-- NVM from `lo` up to `hi` is erased: it reads as if nothing had written it (R600, R601). -/
def State.erase (s : State) (lo hi : Nat) : State := { s with mem := s.mem.filter fun e => decide (e.1 < lo) || decide (hi ≤ e.1) }

/-- Write bytes at ascending addresses. -/
def State.setBytes (s : State) (a : Nat) : List Byte → State
  | [] => s
  | b :: r => State.setBytes (s.setByte a b) (a + 1) r

/-- Read `k` bytes at ascending addresses. -/
def State.bytes (s : State) (a : Nat) : Nat → List Byte
  | 0 => []
  | k + 1 => s.byte a :: s.bytes (a + 1) k

/-- A little-endian word of memory (R9). -/
def State.word (s : State) (a : Nat) : Nat := leNat (s.bytes a 4)
def State.setWord (s : State) (a v : Nat) : State := s.setBytes a (leBytes 4 v)

/-- 1 for true. -/
def nat01 (b : Bool) : Nat := if b then 1 else 0

/-! ## Time -/

/-- An event that is due at `t` occurs at `t` at the earliest (assumption log 2). -/
def State.advanceTo (s : State) (t : Nat) : State := { s with now := Nat.max s.now t }

/-- The PWM timebase G: 25 ns ticks since the power-on reset or domain power-up (R176). -/
def State.g (s : State) : Nat := (s.now - s.clk.g0) / 25

/-- The true time of a tick of G. -/
def State.gTime (s : State) (k : Nat) : Nat := s.clk.g0 + 25 * k

/-- TIDE_FREE (R435). -/
def State.counter (s : State) : Nat :=
  match s.tide.stopped with
  | some c => c
  | none => (s.now - s.tide.epoch) / 4

/-- Logical time at counter value `c` (R436), modulo 2^64. -/
def State.logicalAt (s : State) (c : Nat) : Nat :=
  let d := c - s.tide.f
  let r := signed 32 (s.rd .TIDE_RATE).toNat
  let x : Int := (s.tide.fr : Int) + 4 * (d : Int) * r
  unsigned 64 ((s.tide.a : Int) + 4 * (d : Int) + x / ((2 ^ 40 : Nat) : Int))

/-- Logical time now. -/
def State.logical (s : State) : Nat := s.logicalAt s.counter

/-- The stamp of an event that happened `ago` ns before now (R34): logical time then under the anchor and rate in force, with no
residual error. -/
def State.stampAgo (s : State) (ago : Nat) : Nat :=
  let c := (s.now - ago - s.tide.epoch) / 4
  if s.tide.f ≤ c then s.logicalAt c
  else unsigned 64 ((s.tide.a : Int) - 4 * ((s.tide.f - c : Nat) : Int))

/-- `a - b` of two logical times as a signed 64-bit difference (R299). -/
def diff64 (a b : Nat) : Int := signed 64 ((a + 2 ^ 64 - b % 2 ^ 64) % 2 ^ 64)

/-- The machine at the first TIDE cycle in which logical time has reached `l` (R299): at once where it has. -/
def State.reach (s : State) (l : Nat) : State :=
  if 0 ≤ diff64 s.logical l then s
  else
    let need : Int := diff64 l s.tide.a * ((2 ^ 40 : Nat) : Int) - (s.tide.fr : Int)
    let per : Nat := 4 * (((2 ^ 40 : Nat) : Int) + signed 32 (s.rd .TIDE_RATE).toNat).toNat
    let d := (need.toNat + per - 1) / Nat.max per 1
    s.advanceTo (s.tide.epoch + (s.tide.f + d) * 4)

/-- AON ticks of 32.768 kHz since power-on. -/
def State.aonTicks (s : State) : Nat := s.now * 32768 / 1000000000

/-! ## Modes and safe units -/

def State.mode' (s : State) : Nat := s.fld F.SYS_MODE_MODE
/-- Operate or Service: outputs may be commanded on (R172). -/
def State.live (s : State) : Bool := s.mode' == 4 || s.mode' == 6
/-- Configuration that only Configure accepts is open: Configure, or Boot while the stored set is applied (R541). -/
def State.cfgOpen (s : State) : Bool := s.mode' == 3 || (s.mode' == 2 && s.mode.applying)
/-- Boot or later: not Dormant and not Watch. -/
def State.awake (s : State) : Bool := 2 ≤ s.mode'
/-- The TIDE and PWR domains run: from Boot on, but not in Recovery (R142). -/
def State.powered (s : State) : Bool := s.awake && s.mode' != 7
/-- The TIDE domain has its clock (R21): awake, the clock valid. -/
def State.tideRuns (s : State) : Bool := s.awake && s.bit F.CLK_STAT_LOCK 0 4
def State.isSafe (s : State) (u : SafeUnit) : Bool := s.bus.safe.contains u
def State.setSafe (s : State) (u : SafeUnit) (b : Bool := true) : State :=
  { s with bus := { s.bus with safe := if b then (if s.bus.safe.contains u then s.bus.safe else u :: s.bus.safe)
                                        else s.bus.safe.filter (· ≠ u) } }
/-- Extraction under way or done (R135, R136). -/
def State.extracting (s : State) : Bool := 2 ≤ s.fld F.BERTH_STAT_STATE

/-! ## Plate and feeds -/

/-- TP of R109 in 1/1,024 °C, with the sensors judged by R114. -/
def State.tp (s : State) : Int :=
  match s.plate.t1, s.plate.t2 with
  | .val a, .val b => if a < b then b else a
  | .val a, _ => a
  | _, .val b => b
  | _, _ => 100 * 1024

/-- A value that is `a` up to 65 °C, falls linearly to `b` at 85 °C and to 0 at 100 °C (R111), rounded down. -/
def State.derate (s : State) (a b : Nat) : Nat :=
  let t := s.tp
  if t ≤ 65 * 1024 then a
  else if t ≤ 85 * 1024 then a - ((t - 65 * 1024).toNat * (a - b) + 20 * 1024 - 1) / (20 * 1024)
  else b - ((t - 85 * 1024).toNat * b + 15 * 1024 - 1) / (15 * 1024)

/-- Adopted capacity of a feed, A (BERTH_CAP). -/
def State.cap (s : State) (f : Nat) : Nat := (s.rd .BERTH_CAP).toNat / 2 ^ (8 * f) % 256
/-- The feed is mated and present: it may carry auxiliary loads (R122, R158). -/
def State.feedUp (s : State) (f : Nat) : Bool := s.bit F.BERTH_STAT_MATED 0 f && s.bit F.BERTH_SUP_STAT_PRESENT 0 f
/-- Channels of the feed are enabled (R122). -/
def State.feedEnabled (s : State) (f : Nat) : Bool := s.feedUp f && decide (0 < s.cap f)

/-! ## Free values -/

/-- The next free value, cut to `w` bits, and the state that has drawn it. -/
def State.draw (s : State) (w : Nat) : Nat × State := (Config.free s.free % 2 ^ w, { s with free := s.free + 1 })

/-- `k` bytes of the customs TRNG. -/
def State.trng (s : State) (k : Nat) : List Byte × State := (Config.trng s.free k, { s with free := s.free + 1 })

/-! ## The journal -/

/-- JNL_CTRL fields, with the safe values of R70. -/
def State.persistMin (s : State) : Nat := if s.isSafe .jnlCfg then 1 else s.fld F.JNL_CTRL_PERSIST_MIN
def State.emcyMin (s : State) : Nat := if s.isSafe .jnlCfg then 1 else s.fld F.JNL_CTRL_EMCY_MIN

/-- An entry is marked PERSIST (R618): by its class, as an extraction or loss entry, or by its source block. -/
def State.persists (s : State) (f : FaultId) (cls : Nat) : Bool :=
  decide (s.persistMin ≤ cls) || f == .BERTH_RAMP_OK || f == .BERTH_RAMP_FAIL || f == .SUPPLY_LOSS ||
    f.src == 0x32 || f.src == 0x33

/-- The order of R37: by stamp, then source block, then index. -/
def Entry.before (a b : Entry) : Bool :=
  decide (a.stamp < b.stamp) || (a.stamp == b.stamp &&
    (decide (a.code / 256 < b.code / 256) || (a.code / 256 == b.code / 256 && decide (a.index < b.index))))

/-- Put an entry into the queue of stamped entries, behind every entry it does not precede. -/
def insertEntry (e : Entry) : List Entry → List Entry
  | [] => [e]
  | x :: r => if e.before x then e :: x :: r else x :: insertEntry e r

def State.setJnl (s : State) (j : JnlSt) : State := { s with jnl := j }

/-- Stamp an entry (R34, R36, R614). -/
def State.stampEntry (s : State) (f : FaultId) (cls idx : Nat) (clear : Bool) (d : List Nat) : Entry :=
  { code := f.code, cls := cls, coarse := !s.awake || s.mode.aon, clear := clear, persist := s.persists f cls, index := idx % 256,
    stamp := s.logical, mode := s.mode', supp := Nat.min 255 ((lookup (f.code, idx) s.jnl.supp).getD 0),
    d5 := d.getD 0 0 % 2 ^ 32, d6 := d.getD 1 0 % 2 ^ 32, d7 := d.getD 2 0 % 2 ^ 32, born := s.now }

/-- The fault is active with this index (R612). -/
def State.active (s : State) (f : FaultId) (idx : Nat := 0) : Bool :=
  s.jnl.active.any fun a => a.f == f && a.idx == idx

/-- Put an entry of code and index into the journal: it is stamped and waits to become visible. -/
def State.journal (s : State) (f : FaultId) (cls idx : Nat) (clear : Bool) (d : List Nat) : State :=
  s.setJnl { s.jnl with
    pend := insertEntry (s.stampEntry f cls idx clear d) s.jnl.pend
    supp := Tbl.del s.jnl.supp (f.code, idx)
    last := if clear then s.jnl.last else assoc (f.code, idx) s.now s.jnl.last }

/-- A raise is kept out of the journal by its rate limit (R630): the limit `lim` (ns, 0 for none) has not run since the latest
journalled raise of this code and index, and the raise does not make a fault of class WARN or higher active. -/
def State.limited (s : State) (f : FaultId) (cls idx lim : Nat) : Bool :=
  (cls == 0 || s.active f idx) &&
    match lookup (f.code, idx) s.jnl.last with
    | some t => decide (s.now < t + lim)
    | none => false

/-- Raise a fault of class `cls` (R611, R612, R630): active from now on when its class is WARN or higher, journalled unless its
rate limit keeps it out, and counted as suppressed then. -/
def State.raiseC (s : State) (f : FaultId) (cls idx : Nat) (d : List Nat) (lim : Nat) : State :=
  let s1 := if s.limited f cls idx lim then
      s.setJnl { s.jnl with supp := assoc (f.code, idx) ((lookup (f.code, idx) s.jnl.supp).getD 0 + 1) s.jnl.supp }
    else s.journal f cls idx false d
  let s2 := if cls == 0 then s1 else
    s1.setJnl { s1.jnl with
      active := ⟨f, idx, cls, s.now⟩ :: s1.jnl.active.filter (fun a => !(a.f == f && a.idx == idx)) }
  { s2 with mode := { s2.mode with raised := (f, idx) :: s2.mode.raised.filter (· ≠ (f, idx)) } }

/-- Raise a fault with the class of R626. -/
def State.raise (s : State) (f : FaultId) (idx : Nat := 0) (d : List Nat := []) (lim : Nat := 0) : State :=
  s.raiseC f f.cls idx d lim

/-- A fault stops being active (R612); a clear entry is journalled (R613). -/
def State.clearFault (s : State) (f : FaultId) (idx : Nat := 0) : State :=
  match s.jnl.active.find? fun a => a.f == f && a.idx == idx with
  | some a =>
    let s1 := s.setJnl { s.jnl with active := s.jnl.active.filter (fun a => !(a.f == f && a.idx == idx)) }
    s1.journal f a.cls idx true []
  | none => s

/-- A negotiation result changed (R40, R616, R617): partner code and result register. -/
def State.negotiated (s : State) (partner idx : Nat) (result : Nat) : State :=
  s.raise .NEGOTIATED idx [partner, result]

end Sys2Proof.Machine
end

