-- ==== Sys2Proof/Machine/Eth.lean ====
section
/-! DEFINITION. Ethernet ports and switch (R419 to R433): links and negotiation, the MAC table, egress queues and the internal port's
sending. What a received frame does stands in EthRx.lean, behind the gateway and the tide. -/

namespace Sys2Proof.Machine

def State.setEth (s : State) (x : EthSt) : State := { s with eth := x }

/-- The port runs: enabled, outside the safe state, powered (R432, R433). -/
def State.portRuns (s : State) (p : Nat) : Bool :=
  s.flag F.ETH_PCTRL_EN p && !s.isSafe .eth && s.awake && (s.mode' != 7 || p == 0)

/-- The port has a link and runs; the internal port always has. -/
def State.ethLink (s : State) (p : Nat) : Bool := p == 4 || (s.flag F.ETH_PSTAT_LINK p && s.portRuns p)

/-! ## Egress (R426) -/

def EthFr.len (x : EthFr) : Nat := x.bytes.length + 4
def queueBytes (l : List (Nat × EthFr)) : Nat := (l.map fun x => x.2.len).sum

/-- A frame finds room in the port's egress buffer: 32 KB, of which 2 KB is held for queue 7. -/
def State.ethRoom (s : State) (p q : Nat) (x : EthFr) : Bool :=
  let l := (s.ethp p).queue
  let all := queueBytes l + x.len
  let low := queueBytes (l.filter fun y => y.1 != 7) + x.len
  decide (all ≤ 32768) && (q == 7 || decide (low ≤ 30720))

/-- Frames that a port loses count in DROP (R422, R424, R426, R431). -/
def State.ethDrop (s : State) (p n : Nat) : State := s.bump F.ETH_PCNT1_DROP p n

/-- A frame is queued for an external port with a link. -/
def State.ethQueue (s : State) (p q : Nat) (x : EthFr) : State :=
  if !s.ethLink p then s
  else
    let e := s.ethp p
    if e.inFlight.isNone then s.setEthp p { e with inFlight := some x }
    else if s.ethRoom p q x then s.setEthp p { e with queue := e.queue ++ [(q, x)] }
    else (s.ethDrop p 1).raise .ETH_QUEUE_DROP p [] (sec 1)

/-- The queue of a PCP (R426). -/
def State.qmap (s : State) (pcp : Nat) : Nat := (s.rd .ETH_SW_QMAP).toNat / 2 ^ (3 * pcp) % 8

/-- The next frame of a port: the oldest of its highest non-empty queue. -/
def nextFrame (l : List (Nat × EthFr)) : Option (Nat × EthFr) :=
  l.foldl (fun b x => match b with
    | none => some x
    | some y => if y.1 < x.1 then some x else b) none

/-- Write bytes over bytes. -/
def putBytes (l : List Byte) (at0 : Nat) (v : List Byte) : List Byte := l.take at0 ++ v ++ l.drop (at0 + v.length)

/-- A PTP time stamp: 48 bits of seconds and 32 of nanoseconds. -/
def ptpStamp (t : Nat) : List Byte := beBytes 6 (t / 1000000000) ++ beBytes 4 (t % 1000000000)

/-- The time that a PTP time stamp carries. -/
def stampOf (b : List Byte) : Nat := beNat (b.take 6) * 1000000000 + beNat ((b.drop 6).take 4)

/-- A frame completes egress, its SFD having crossed the MDI `ago` before now; the highest non-empty queue sends next (R426, R429,
R430). A Pdelay_Resp carries its receipt time up to here: the turnaround goes into the correctionField. -/
def State.ethSent (s : State) (p ago : Nat) : State :=
  let e := s.ethp p
  match e.inFlight with
  | none => s
  | some x =>
    let t := s.stampAgo ago
    let x := match x.stamp with
      | 2 => { x with bytes := putBytes x.bytes 48 (ptpStamp t) }
      | 3 =>
        let turn := diff64 t (stampOf ((x.bytes.drop 48).take 10))
        { x with bytes := putBytes (putBytes x.bytes 22 (beBytes 8 (unsigned 64 (turn * 65536)))) 48 (ptpStamp t) }
      | _ => x
    let n := nextFrame e.queue
    let s := s.setEthp p { e with
      sent := some (x, t), inFlight := n.map (·.2), queue := match n with | some y => e.queue.erase y | none => e.queue }
    let s := if x.stamp = 1 then s.setPtp p { s.ptp p with reqAt := t } else s
    s.bump F.ETH_PCNT0_TX p

/-! ## The MAC table (R423) -/

def macBucket (m v : Nat) : Nat := Config.macBucket m v % 1024

def State.macFind (s : State) (m v : Nat) : Option MacEnt := s.eth.mac.find? fun x => x.mac == m && x.vid == v
def State.setMac (s : State) (l : List MacEnt) : State := s.setEth { s.eth with mac := l }
def State.macDrop (s : State) (m v : Nat) : State := s.setMac (s.eth.mac.filter fun x => !(x.mac == m && x.vid == v))

/-- The bucket of an address has no free way. -/
def State.macFull (s : State) (m v : Nat) : Bool :=
  decide (4 ≤ (s.eth.mac.filter fun x => macBucket x.mac x.vid == macBucket m v).length)

/-- Learn a source address: static entries stand, learned ones move and are refreshed. -/
def State.macLearn (s : State) (m v p : Nat) : State :=
  match s.macFind m v with
  | some e => if e.static then s else (s.macDrop m v).setMac (⟨m, v, 2 ^ p, false, s.now⟩ :: (s.macDrop m v).eth.mac)
  | none =>
    if s.macFull m v then (s.bump F.ETH_SW_STAT_LEARN_FAIL).raise .ETH_MAC_FULL 0 [] (sec 10)
    else s.setMac (⟨m, v, 2 ^ p, false, s.now⟩ :: s.eth.mac)

/-- A learned address ages out after AGE without a frame; 0 is no ageing. -/
def State.macAge (s : State) (m v : Nat) : State :=
  let age := s.fld F.ETH_SW_CTRL_AGE
  match s.macFind m v with
  | some e => if e.static || age == 0 then s else (s.advanceTo (e.seen + sec age)).macDrop m v
  | none => s

/-- ETH_MAC_CMD with GO: look up, add static, delete, flush learned. -/
def State.macCmd (s : State) (op : Nat) : State :=
  let m := s.fld F.ETH_MAC_D0_MACLO + 2 ^ 32 * s.fld F.ETH_MAC_D1_MACHI
  let v := s.fld F.ETH_MAC_D1_VID
  let found := s.macFind m v
  let fail (s : State) (b : Bool) := s.setFlag F.ETH_MAC_CMD_FAIL 0 b
  match op with
  | 0 =>
    match found with
    | some e =>
      let s := ((s.setFld F.ETH_MAC_D2_PORTS 0 e.ports).setFlag F.ETH_MAC_D2_STATIC 0 e.static).setFlag F.ETH_MAC_D2_VALID 0 true
      fail s false
    | none => fail (s.setFlag F.ETH_MAC_D2_VALID 0 false) true
  | 1 =>
    if found.isNone && s.macFull m v then fail s true
    else
      let s := s.macDrop m v
      fail (s.setMac (⟨m, v, s.fld F.ETH_MAC_D2_PORTS, true, s.now⟩ :: s.eth.mac)) false
  | 2 => fail (s.macDrop m v) found.isNone
  | _ => fail (s.setMac (s.eth.mac.filter (·.static))) false

/-! ## Links (R420 to R422) -/

/-- The result of a negotiation changed: it is journalled (R40). -/
def State.ethResult (s : State) (p : Nat) (was : Word) : State :=
  let w := s.rd .ETH_PSTAT p
  if w = was then s else s.negotiated 1 p w.toNat

/-- The role that two preferences give (R420): none for a conflict. 0 none, 1 prefer master, 2 force master, 3 force slave. -/
def roleOf (own peer : Nat) (nonce : Bool) : Option Bool :=
  if 2 ≤ own ∧ own = peer then none
  else if 2 ≤ own then some (own == 2)
  else if 2 ≤ peer then some (peer == 3)
  else if own = peer then some nonce
  else some (own == 1)

/-- A Clause 98 negotiation gives its result: the partner's speeds (bit 0 100, bit 1 1,000 Mbit/s) and role preference, and whether the
nonce makes this port master (R420). -/
def State.anResult (s : State) (p adv role : Nat) (nonce : Bool) : State :=
  if !(s.portRuns p && s.flag F.ETH_PCTRL_AN_EN p) || s.ethLink p then s
  else
    let was := s.rd .ETH_PSTAT p
    let s := s.setEthp p { s.ethp p with pageAt := s.now, fixedTry := false, retryAt := none }
    let own := s.fld F.ETH_PCTRL_AN_ADV p
    let both k := bitOf own k && bitOf adv k
    let again (s : State) := s.setEthp p { s.ethp p with retryAt := some (s.now + sec 1) }
    let failed (s : State) := (s.setFlag F.ETH_PEVT_AN_FAIL p).raise .ETH_AN_FAIL p
    match roleOf (s.fld F.ETH_PCTRL_AN_ROLE p) role nonce with
    | none =>
      let s := (again (s.setFld F.ETH_PSTAT_SRC p 0)).raise .ETH_ROLE_CONFLICT p
      if both 0 || both 1 then s else failed s
    | some master =>
      let s := s.clearFault .ETH_ROLE_CONFLICT p
      if both 0 || both 1 then
        let s := (s.setFlag F.ETH_PSTAT_SPEED p (both 1)).setFlag F.ETH_PSTAT_ROLE p master
        (s.setFld F.ETH_PSTAT_SRC p 1).ethResult p was
      else failed (again (s.setFld F.ETH_PSTAT_SRC p 0))

/-- A failed negotiation restarts after 1 s (R420). -/
def State.anRetry (s : State) (p adv role : Nat) (nonce : Bool) : State :=
  match (s.ethp p).retryAt with
  | some t => (s.advanceTo t).anResult p adv role nonce
  | none => s

def State.anTimeout (s : State) (p : Nat) : Nat := ms (10 * s.fld F.ETH_PCTRL_AN_TIMEOUT p)

/-- AN_TIMEOUT without a page: the port turns from negotiation to the fixed setting and back (R421). -/
def State.anExpiry (s : State) (p : Nat) : State :=
  if !(s.portRuns p && s.flag F.ETH_PCTRL_AN_EN p) || s.ethLink p then s
  else
    let e := s.ethp p
    let s := s.advanceTo (e.pageAt + s.anTimeout p)
    s.setEthp p { e with pageAt := s.now, fixedTry := !e.fixedTry }

/-- Link setup starts over (R420 to R422). -/
def State.linkSetup (s : State) (p : Nat) : State :=
  s.setEthp p { s.ethp p with pageAt := s.now, fixedTry := false, retryAt := none }

/-- A port's link comes up: negotiated, fixed, or by the fixed setting after a timeout (R420, R421). -/
def State.ethUp (s : State) (p : Nat) : State :=
  let an := s.flag F.ETH_PCTRL_AN_EN p
  let fixed := !an || (s.ethp p).fixedTry
  if !s.portRuns p || s.ethLink p || (!fixed && s.fld F.ETH_PSTAT_SRC p != 1) then s
  else
    let was := s.rd .ETH_PSTAT p
    let s := if fixed then
        let s := s.setFld F.ETH_PSTAT_SPEED p (s.fld F.ETH_PCTRL_FIX_SPEED p)
        let s := s.setFld F.ETH_PSTAT_ROLE p (s.fld F.ETH_PCTRL_FIX_ROLE p)
        s.setFld F.ETH_PSTAT_SRC p (if an then 3 else 2)
      else s
    let s := if fixed then s.ethResult p was else s
    let s := ((s.setFlag F.ETH_PSTAT_LINK p).setFlag F.ETH_PEVT_UP p).setFld F.ETH_PSTAT_TC10 p 0
    let s := s.setBit F.CLK_STAT_ETH_LOCK 0 p true
    let s := (s.clearFault .ETH_LINK_DOWN p).clearFault .ETH_AN_FAIL p
    if fixed && an then (s.setFlag F.ETH_PEVT_FALLBACK p).raise .ETH_AN_FALLBACK p else s

/-- The queued frames of a port are discarded and counted. -/
def State.ethFlush (s : State) (p : Nat) : State :=
  let e := s.ethp p
  (s.setEthp p { e with queue := [], inFlight := none }).ethDrop p e.queue.length

/-! ## Frames -/

/-- A frame as the switch sees it: addresses, VLAN, what follows the addresses and the tag. -/
structure EthView where
  dst : Nat
  src : Nat
  tag : Option (Nat × Nat)   -- PCP and VID
  rest : List Byte           -- from the EtherType

def ethView (b : List Byte) : EthView :=
  let r := b.drop 12
  let tagged := beNat (r.take 2) == 0x8100
  let tci := beNat ((r.drop 2).take 2)
  ⟨beNat (b.take 6), beNat ((b.drop 6).take 6), if tagged then some (tci / 8192, tci % 4096) else none, if tagged then r.drop 4 else r⟩

def EthView.type (v : EthView) : Nat := beNat (v.rest.take 2)

/-- The bytes of a frame with or without its tag (R424). -/
def EthView.out (v : EthView) (pcp vid : Nat) (untag : Bool) : List Byte :=
  beBytes 6 v.dst ++ beBytes 6 v.src ++ (if untag then [] else beBytes 2 0x8100 ++ beBytes 2 (pcp * 8192 + vid)) ++ v.rest

/-- The ports to which a frame from port `p` (4 the internal port) with this destination and VLAN goes: members of the VLAN alone, as
IEEE 802.1Q has it (R423, R424, R425). -/
def State.ethDest (s : State) (p dst vid : Nat) : List Nat :=
  let member := s.fld F.ETH_VLAN_MEMBER vid
  let mask := if bitOf (dst / 2 ^ 40) 0 then member
    else match s.macFind dst vid with
      | some e => e.ports
      | none => member
  [0, 1, 2, 3, 4].filter fun q => q != p && bitOf mask q && bitOf member q && s.ethLink q

/-- The internal port sends a frame into the switch by its destination, VID and PCP (R426, R477, R529); VID 0 is untagged and takes the
default VLAN 1. The internal port must be a member of the VLAN (R424). -/
def State.internalSend (s : State) (b : List Byte) : State :=
  if s.isSafe .eth then s
  else
    let v := ethView b
    let t := v.tag.getD (0, 1)
    if !s.bit F.ETH_VLAN_MEMBER t.2 4 then s
    else s.each ((s.ethDest 4 v.dst t.2).filter (· != 4)) fun s q =>
      s.ethQueue q (s.qmap t.1) ⟨v.out t.1 t.2 (s.bit F.ETH_VLAN_UNTAG t.2 q || v.tag.isNone), false, 0⟩

/-- The tide sends a frame to one named port in queue 7 (R425). -/
def State.ptpSend (s : State) (p : Nat) (b : List Byte) (stamp : Nat) : State :=
  if s.isSafe .eth then s else s.ethQueue p 7 ⟨b, false, stamp⟩

end Sys2Proof.Machine
end

