-- ==== Sys2Proof/Machine/EventStore.lean ====
section
/-! DEFINITION. The event store: entries, handles (R293), result records (R318). -/

namespace Sys2Proof.Machine

def State.setEve (s : State) (e : EveSt) : State := { s with eve := e }
/-- A store entry that is not FREE. -/
def State.ent (s : State) (i : Nat) : Option EvEnt := lookup i s.eve.store
def State.setEnt (s : State) (i : Nat) (e : EvEnt) : State :=
  s.setEve { s.eve with store := s.eve.store.map fun x => if x.1 = i then (i, e) else x }

/-- The handle of an entry (R293). -/
def handleOf (i : Nat) (e : EvEnt) : Nat := i + e.gen * 4096

/-- The entry that a handle names: in use with that generation. -/
def State.byHandle (s : State) (h : Nat) : Option (Nat × EvEnt) :=
  match s.ent (h % 4096) with
  | some e => if e.gen = h / 4096 % 16 then some (h % 4096, e) else none
  | none => none

/-- An entry becomes FREE; EVE_STORE_FULL ends when an entry frees. -/
def State.freeEnt (s : State) (i : Nat) : State :=
  (s.setEve { s.eve with store := s.eve.store.filter fun x => x.1 != i }).clearFault .EVE_STORE_FULL

def State.horizonNs (s : State) : Nat := us (s.fld F.EVE_CTRL_HORIZON)

/-- An entry's start lies within the horizon (R299). -/
def State.commitDue (s : State) (e : EvEnt) : Bool := decide (-(s.horizonNs : Int) ≤ diff64 s.logical e.start)

/-- The entry commits (R299). -/
def State.commit (s : State) (i : Nat) : State :=
  match s.ent i with
  | some e => if e.st = 1 then (s.setEnt i { e with st := 2 }).bump F.EVE_CNT1_COMMIT else s
  | none => s

/-- A SPECULATIVE entry is retracted (R294): no trace but the count. -/
def State.retract (s : State) (i : Nat) : State := (s.freeEnt i).bump F.EVE_CNT0_RETRACT

/-- Retract every SPECULATIVE entry that `p` selects; one whose commit is due commits, and its retraction is refused (R301). -/
def State.retractAll (s : State) (p : EvEnt → Bool) : State :=
  s.each (s.eve.store.filter fun x => x.2.st == 1 && p x.2) fun s x =>
    if s.commitDue x.2 then (s.commit x.1).bump F.EVE_CNT1_LATE_OP else s.retract x.1

/-- The first FREE entry at or cyclically after `i`. -/
def State.freeFrom (s : State) (i : Nat) : Nat → Nat
  | 0 => i
  | k + 1 => if (s.ent (i % 4096)).isNone then i % 4096 else s.freeFrom (i + 1) k

/-- Put an event into a FREE entry. Which FREE entry it takes is a free value (log 3). Its generation is the next of that entry
(R293). -/
def State.putEnt (s : State) (e : EvEnt) : Nat × State :=
  let r := s.draw 12
  let s := r.2
  let i := s.freeFrom r.1 4096
  let g := match lookup i s.eve.gens with
    | some g => (g + 1) % 15
    | none => 0
  (i + g * 4096, s.setEve { s.eve with store := (i, { e with gen := g }) :: s.eve.store, gens := assoc i g s.eve.gens })

/-- Write the result record of an event and free its entry (R318). `late` marks are in the entry. -/
def State.eveResult (s : State) (i result close delay : Nat) : State :=
  match s.ent i with
  | none => s
  | some e =>
    let w0 := handleOf i e + e.target * 65536 + (if e.late then 8388608 else 0) + result * 16777216 + e.src * 268435456
    let rec16 := leBytes 4 w0 ++ leBytes 8 e.start ++ leBytes 2 close ++ leBytes 2 delay
    let wr := s.fld F.EVE_RES_PTR_WR
    let s := if s.eve.full then s.setFlag F.EVE_RES_PTR_OVF else s
    let s := (s.setBytes (0x40098000 + wr * 16) rec16).setFld F.EVE_RES_PTR_WR 0 ((wr + 1) % 512)
    let s := s.setEve { s.eve with newest := rec16, full := s.eve.full || (wr + 1) % 512 == s.fld F.EVE_RES_PTR_RD }
    s.freeEnt i

end Sys2Proof.Machine
end

