-- ==== Sys2Proof/Machine/Switch.lean ====
section
/-! DEFINITION. The switch cells: pairs, holds (R218 to R221), which layer governs an output (R363), what the output stage does
when that changes (R174), PWM periods (R176 to R180), inrush (R183), and what a write of a commanded state does (R172, R184). -/

namespace Sys2Proof.Machine

/-! ## Pairs and feeds -/

/-- Feed of OUTnn (R89). -/
def feedOf (n : Nat) : Nat := n / 16
/-- OUTnn is in a pair (R186). -/
def State.paired (s : State) (n : Nat) : Bool := s.bit F.SW_GLB_PAIR_PAIR 0 (n / 2)
/-- The channel whose registers govern OUTnn: the even channel of its pair (R187), else itself. -/
def State.lead (s : State) (n : Nat) : Nat := if s.paired n then n / 2 * 2 else n
/-- The cells that switch together with OUTnn (R188). -/
def State.cells (s : State) (n : Nat) : List Nat := if s.paired n then [n / 2 * 2, n / 2 * 2 + 1] else [n]
/-- The channels that have a commanded state of their own in force: all but the odd channels of pairs. -/
def State.leads (s : State) : List Nat := (List.range 64).filter fun n => s.lead n == n

/-! ## Holds (R218) -/

inductive Hold where | ft | ceil | budget | l1Latch | wire | flLatch | l1 | flShed | sup
deriving DecidableEq, Repr

/-- Rank of R218. -/
def Hold.rank : Hold → Nat
  | .ft => 1 | .ceil => 2 | .budget => 2 | .l1Latch => 3 | .wire => 4 | .flLatch => 5 | .l1 => 6 | .flShed => 7 | .sup => 8

def Hold.all : List Hold := [.ft, .ceil, .budget, .l1Latch, .wire, .flLatch, .l1, .flShed, .sup]

/-- Place of a hold in that list. -/
def Hold.code : Hold → Nat
  | .ft => 0 | .ceil => 1 | .budget => 2 | .l1Latch => 3 | .wire => 4 | .flLatch => 5 | .l1 => 6 | .flShed => 7 | .sup => 8

/-- The PROT_STAT bit of a hold of ranks 1 to 7. -/
def Hold.bit : Hold → Option Fld
  | .ft => some F.PROT_STAT_FT | .ceil => some F.PROT_STAT_CEIL | .budget => some F.PROT_STAT_BUDGET
  | .l1Latch => some F.PROT_STAT_L1_LATCH | .wire => some F.PROT_STAT_WIRE | .flLatch => some F.PROT_STAT_FL_LATCH
  | .l1 => some F.PROT_STAT_L1 | .flShed => some F.PROT_STAT_FL_SHED | .sup => none

/-- The cell carries the hold. -/
def State.held (s : State) (n : Nat) (h : Hold) : Bool :=
  match h.bit with
  | some f => s.flag f n
  | none => (s.swc n).sup

/-- Rank of the highest hold in force on a cell, 0 for none (R218). -/
def State.holdRank (s : State) (n : Nat) : Nat :=
  match Hold.all.find? (s.held n) with
  | some h => h.rank
  | none => 0

/-- The channel (either cell of a pair) carries a hold of a rank from `lo` to `hi`. -/
def State.heldIn (s : State) (n lo hi : Nat) : Bool :=
  (s.cells n).any fun c => Hold.all.any fun h => decide (lo ≤ h.rank) && decide (h.rank ≤ hi) && s.held c h
/-- The channel carries any hold. -/
def State.anyHold (s : State) (n : Nat) : Bool := s.heldIn n 1 8

/-- Set or end one hold of one cell. -/
def State.putHold (s : State) (n : Nat) (h : Hold) (v : Bool) : State :=
  match h.bit with
  | some f => s.setFlag f n v
  | none => s.setSwc n { s.swc n with sup := v }

/-! ## Modes and layers -/

/-- The output is tied to a closed gate (R560). -/
def State.gateShut (s : State) (i : Nat) : Bool :=
  let g := s.fld F.ACC_GOUT_GATE i
  g != 0 && !(s.bit F.ACC_STAT_GATES 0 (g - 1))

/-- The bollard's record of an output it governs (R363). -/
def State.gov (s : State) (i : Nat) : Option Gov := lookup i s.boll.gov

/-- A hold window runs (R370). -/
def State.holdRun (s : State) : Bool := s.boll.hold.isSome

/-- The action of reflex entry `k` acts on its target now: it is active (R379) and its action takes effect in the present mode
(R379, R380), its output is not tied to a closed gate for ON and PWM (R560), and the BOLL block is not safe (R376). -/
def State.rfxActs (s : State) (k : Nat) : Bool :=
  let act := s.fld F.BOLL_RFX_ACT_ACTION k
  (s.rfxc k).act && !s.isSafe .boll &&
    (act == 0 || ((s.live || s.mode' == 5 || s.holdRun) && !s.gateShut (s.fld F.BOLL_RFX_ACT_TARGET k)))

/-- The reflex entry that prevails on output `i` (R380): OFF over the others, else the lowest number. -/
def State.reflexOn (s : State) (i : Nat) : Option Nat :=
  let on := (s.boll.rfx.map (·.1)).filter fun k => s.fld F.BOLL_RFX_ACT_TARGET k == i && s.rfxActs k
  match on.filter fun k => s.fld F.BOLL_RFX_ACT_ACTION k == 0 with
  | k :: _ => some k
  | [] => on.head?

/-- A drive of a mode and duty code with the channel's period and phase; the unused fields are 0 in OFF and ON. -/
def State.driveOf (s : State) (n mode duty : Nat) : Drive :=
  if mode = 0 then {} else if mode = 1 then { mode := 1 }
  else { mode := mode, duty := duty, period := s.fld F.SW_PWM_PERIOD n, phase := s.fld F.SW_PHASE_PHASE n }

/-- The commanded state of a channel (R171). -/
def State.cmdDrive (s : State) (n : Nat) : Drive := s.driveOf n (s.fld F.SW_OUT_MODE n) (s.fld F.SW_OUT_DUTY n)

/-- The switch event in delivery on a channel. -/
def State.swEv (s : State) (n : Nat) : Option SwEv := lookup n s.eve.sw

/-- Extraction ramp in ms (R135, R70). -/
def State.rampMs (s : State) : Nat := if s.isSafe .berthCfg then 100 else s.fld F.BERTH_CTRL_RAMP_TIME

/-- What the output of a leading channel is to do: the highest layer of R363 that has something to say about it; in Recovery every
output is off (R142). -/
def State.want (s : State) (n : Nat) : Drive :=
  if s.extracting then
    match (s.swc n).ramp with
    | some d => if s.anyHold n || decide (s.berth.rampAt + ms s.rampMs ≤ s.now) then {} else d
    | none => {}
  else if s.mode' = 7 then {}
  else if s.anyHold n then {}
  else if s.isSafe .boll then {}
  else match s.reflexOn n with
  | some k => s.driveOf n (s.fld F.BOLL_RFX_ACT_ACTION k) (s.fld F.BOLL_RFX_ACT_VALUE k)
  | none => match s.gov n with
    | some g => if g.off then {} else match s.fld F.BOLL_SAFE_STATE n with
      | 0 => {}
      | 1 => { mode := 1 }
      | 2 => g.cap
      | _ => s.driveOf n 2 (s.fld F.BOLL_SAFE_DUTY n)
    | none => if s.gateShut n then {} else match s.swEv n with
      | some e => if e.quiet then s.cmdDrive n else e.d
      | none => s.cmdDrive n

/-! ## The output stage -/

/-- The cell conducts: ON, or in the on-phase of a PWM period. -/
def SwCh.gateOn (x : SwCh) (now : Nat) : Bool :=
  x.st == 1 || (x.st == 2 && decide (now < (x.pstart + x.onTicks) * 25))
/-- It is driven: ON or PWM. -/
def SwCh.driving (x : SwCh) : Bool := x.st == 1 || x.st == 2
/-- At tick `g` the running period is complete and the output waits for an aligned start of its new setting (R174). -/
def SwCh.inGap (x : SwCh) (g : Nat) : Bool := x.st == 2 && x.realign && decide (x.pstart + x.perRun ≤ g)
/-- STATE at tick `g`: 3 in such a wait. -/
def SwCh.state (x : SwCh) (g : Nat) : Nat := if x.inGap g then 3 else x.st

/-- The running window ends; its samples may still be to report (R236, R239). -/
def SwCh.endWin (x : SwCh) : SwCh := match x.win with | some w => { x with win := none, past := some w } | none => x

/-- The first conduction after a start begins the inrush phase (R183). -/
def SwCh.conduct (x : SwCh) (now inrushMs : Nat) : SwCh :=
  if x.fresh then { x with fresh := false, frozen := 0, inrush := if inrushMs = 0 then none else some (now + ms inrushMs) } else x

/-- The cell begins to conduct (R242, R191). -/
def SwCh.begin (x : SwCh) (now : Nat) : SwCh := if x.driving then x else { x with onAt := now, ten := [], low := none, high := none }

/-- The stage takes a new drive at `now` (R174); `byCmd`: the command layer governs it, whose delayed group turn-on is waited for (R184,
R364). -/
def SwCh.apply (x : SwCh) (d : Drive) (now inrushMs : Nat) (byCmd : Bool) : SwCh :=
  let x := if d = x.drive then x else x.endWin
  if d.mode = 0 then
    if x.st = 0 then { x with drive := d }
    else { x with drive := d, st := 0, onTicks := 0, realign := false, fresh := false, inrush := none, frozen := 0, offAt := now
                  ten := [], low := none, high := none }
  else
    let x := if x.drive.mode = 0 then { x with fresh := true } else x
    if d.mode = 1 then
      if x.delay.isSome && byCmd && !x.driving then { x with drive := d, st := 3 }
      else ({ x.begin now with drive := d, st := 1, realign := false } : SwCh).conduct now inrushMs
    else if x.drive.mode = 0 ∨ x.drive.mode = 1 then
      { x with drive := d, st := if x.st = 1 then 1 else 3, waitFrom := if d.anchor.isSome then now else now + 2000 }
    else if x.drive.period = d.period ∧ x.drive.phase = d.phase ∧ x.drive.anchor = d.anchor then { x with drive := d }
    else if d.anchor.isSome then { x with drive := d, st := 3, waitFrom := now, realign := false }
    else { x with drive := d, realign := x.st == 2, waitFrom := Nat.max now (if x.st = 2 then now else x.waitFrom) }

/-- The inrush time of the cell's active settings, ms. -/
def State.inrushMs (s : State) (n : Nat) : Nat := s.fld F.SW_LIMIT_INRUSH_TIME (s.lead n)

/-- The command layer governs a leading channel: no layer above it has something to say, and no switch event is in delivery (R363). -/
def State.byCommand (s : State) (n : Nat) : Bool :=
  !s.extracting && s.mode' != 7 && !s.anyHold n && !s.isSafe .boll && (s.reflexOn n).isNone && (s.gov n).isNone && !s.gateShut n &&
    match s.swEv n with
    | some e => e.quiet
    | none => true

/-- The active limit of a cell in A (R183): in inrush the higher of INRUSH_LIMIT and LIMIT, else LIMIT; those of the even channel in a
pair (R187). -/
def State.activeLimit (s : State) (c : Nat) : Nat :=
  let lim := s.fld F.SW_LIMIT_LIMIT (s.lead c)
  if (s.swc c).inrush.isSome then Nat.max lim (s.fld F.SW_LIMIT_INRUSH_LIMIT (s.lead c)) else lim

/-- An inrush phase is frozen while its feed sags, until 1 ms of it has been frozen (R217). -/
def State.freezeInrush (s : State) (c : Nat) : State :=
  let x := s.swc c
  if x.inrush.isSome && x.frzAt.isNone && (s.flc (feedOf c)).sagAt.isSome && decide (x.frozen < ms 1) then
    ((s.setFlag F.PROT_STAT_FREEZE c).setFlag F.PROT_EVT_FREEZE c).setSwc c { x with frzAt := some s.now }
  else if x.inrush.isNone && x.frzAt.isSome then (s.setFlag F.PROT_STAT_FREEZE c false).setSwc c { x with frzAt := none }
  else s

/-- The stage of one cell takes a drive; SW_EDUTY and the flags of the last period follow (R177, R180). -/
def State.stage (s : State) (d : Drive) (c : Nat) : State :=
  let was := (s.swc c).st
  let x := (s.swc c).apply d s.now (s.inrushMs c) (s.byCommand (s.lead c))
  let x := if x.st = 1 ∧ was ≠ 1 then { x with fullAt := s.now } else x
  let s := (s.setSwc c x).freezeInrush c
  let s := if x.driving then s.setFlag F.CAL_CH_DSTAT_PULLUP c false else s
  if x.st = 0 then
    (((s.setFld F.SW_EDUTY_EDUTY c 0).setFlag F.SW_STAT_LIMITING c false).setFlag F.SW_STAT_COMP_SAT c false).setFlag
      F.SW_STAT_DUTY_CLAMP c false
  else if x.st = 1 then s.setFld F.SW_EDUTY_EDUTY c 4095
  else s

/-- The cells of a channel follow what now governs it (R188, R364). -/
def State.refresh (s : State) (n : Nat) : State :=
  let l := s.lead n
  let d := s.want l
  s.each (s.cells l) fun s c => s.stage d c

/-- Every switch channel follows what now governs it. -/
def State.refreshAll (s : State) : State := s.each s.leads fun s n => s.refresh n

/-- A pending restart of one cell ends without a restart (R199, R219). `L1_TRIP` ends with it, unless the cell is latched. -/
def State.dropL1 (s : State) (c : Nat) : State :=
  if s.held c .l1 then
    let s := s.putHold c .l1 false
    if s.held c .l1Latch then s else s.clearFault .L1_TRIP c
  else s

/-- Set a hold on a channel and, in a pair, on its partner (R220). A hold of ranks 1 to 5 ends a pending restart without a
restart (R219). Its PWR cycle is kept for R221. -/
def State.setHold (s : State) (n : Nat) (h : Hold) : State :=
  let s := s.each (s.cells n) fun s c =>
    let s := s.putHold c h true
    let s := if h.rank ≤ 5 then s.dropL1 c else s
    let x := (s.swc c).endWin
    s.setSwc c { x with setT := assoc h.code s.g x.setT }
  s.refresh n

/-- End a hold on a channel and its partner. -/
def State.endHold (s : State) (n : Nat) (h : Hold) : State :=
  (s.each (s.cells n) fun s c => s.putHold c h false).refresh n

/-- Restarts of a channel within the last 10 s (R201). -/
def State.restartsOf (s : State) (n : Nat) : List Nat := (s.swc n).restarts.filter fun t => decide (s.now < t + sec 10)

/-! ## PWM periods -/

/-- Minimum pulse of a slew setting, 25 ns ticks (R181). -/
def tminOf (slew : Nat) : Nat := [200, 400, 1000, 2400].getD slew 200

/-- On-time of a period and whether the minimum pulse adjusted it (R177). -/
def onTime (period e tmin : Nat) : Nat × Bool :=
  let on := period * e / 4095
  let a := if 0 < e ∧ on < tmin then tmin else on
  let b := if a < period ∧ period - a < tmin then period else a
  (b, b != on)

/-- Effective duty code of PWM_COMP (R179): feed voltage and reference in 10 mV, k 1 or 2; and whether it saturated. -/
def compDuty (duty v r k : Nat) : Nat × Bool :=
  let e := if v = 0 then (if 0 < duty then 4096 else 0) else if k = 1 then duty * r / v else duty * r * r / (v * v)
  if 4095 < e then (4095, true) else (e, false)

/-- Feed bus voltage, 10 mV (BERTH_VFEED_AB, BERTH_VFEED_CD). -/
def State.vfeed (s : State) (f : Nat) : Nat :=
  match f with
  | 0 => s.fld F.BERTH_VFEED_AB_LO
  | 1 => s.fld F.BERTH_VFEED_AB_HI
  | 2 => s.fld F.BERTH_VFEED_CD_LO
  | _ => s.fld F.BERTH_VFEED_CD_HI

/-- A feed monitor has a new voltage (10 mV); VMIN keeps the lowest of any present feed (BERTH_SUP_MIN). -/
def State.setVfeed (s : State) (f v : Nat) : State :=
  let s := match f with
    | 0 => s.setFld F.BERTH_VFEED_AB_LO 0 v
    | 1 => s.setFld F.BERTH_VFEED_AB_HI 0 v
    | 2 => s.setFld F.BERTH_VFEED_CD_LO 0 v
    | _ => s.setFld F.BERTH_VFEED_CD_HI 0 v
  if s.bit F.BERTH_SUP_STAT_PRESENT 0 f && decide (v < s.fld F.BERTH_SUP_MIN_VMIN) then
    (s.setFld F.BERTH_SUP_MIN_VMIN 0 v).setFld F.BERTH_SUP_MIN_FEED 0 f
  else s

/-- The first tick at or after `g` at which a period of the drive may start (R176, R303). -/
def Drive.align (d : Drive) (g : Nat) : Nat :=
  let p := Nat.max d.period 1
  let off := match d.anchor with
    | some a => a % p
    | none => d.phase * 40 % p
  g + (off + p - g % p) % p

/-- The tick of the next period start of a cell that runs or waits for PWM, if it does either. -/
def SwCh.nextStart (x : SwCh) (g0 : Nat) : Option Nat :=
  let w := (x.waitFrom - g0 + 24) / 25
  if x.drive.mode < 2 ∨ x.st = 0 then none
  else if x.st = 2 then
    let e := x.pstart + x.perRun
    some (if x.realign then x.drive.align (Nat.max e w) else e)
  else some (x.drive.align w)

/-- The longest edge time of a slew setting, ns (R181). -/
def edgeNs (slew : Nat) : Nat := [3000, 7000, 16000, 40000].getD slew 3000
/-- The edge time of a channel. -/
def State.edge (s : State) (n : Nat) : Nat := edgeNs (s.fld F.SW_CTRL_SLEW (s.lead n))

/-- Effective duty and saturation of the period that starts now on leading channel `n` (R177, R179; the extraction ramp of R135
reduces it linearly). -/
def State.periodDuty (s : State) (n : Nat) (d : Drive) : Nat × Bool :=
  let r := if d.mode = 3 then
      compDuty d.duty (s.vfeed (feedOf n)) (s.fld F.SW_CTRL_VREF n * 10) (if s.flag F.SW_CTRL_COMP_K n then 2 else 1)
    else (d.duty, false)
  if s.extracting then
    let t := ms s.rampMs
    let gone := Nat.min t (s.now - s.berth.rampAt)
    (r.1 * (t - gone) / Nat.max t 1, r.2)
  else r

/-! ## Calibration windows in PWM (R234, R238) -/

/-- Length of a group: four samples of 50 µs (R234). -/
def groupNs : Nat := 200000
/-- Groups of a window: four, or P1 and X alone on a channel that is off (R238). -/
def SwCh.groups (x : SwCh) : Nat := if x.driving then 4 else 2

/-- The groups still to come that fit between two instants, one after the other from the first of them, the last one ending within 100 ms
of the visit (R238). -/
def CalRun.fit (w : CalRun) (total t0 t1 : Nat) : CalRun :=
  let t1 := Nat.min t1 (w.at0 + ms 100)
  { w with gs := w.gs ++ (List.range (Nat.min (total - w.gs.length) ((t1 - t0) / groupNs))).map fun k => t0 + k * groupNs }

/-- An on-phase of `on` ns begins at `t0`: the groups of the running window that fall in it lie one edge time from either edge (R238). A
window whose 100 ms are over is abandoned. -/
def SwCh.winPhase (x : SwCh) (t0 on edge : Nat) : SwCh :=
  match x.win with
  | some w =>
    if w.gs.length = 4 then (if w.gs.all fun g => decide (g + groupNs ≤ t0) then x else x.endWin)
    else if w.at0 + ms 100 ≤ t0 then x.endWin
    else { x with win := some (w.fit 4 (t0 + edge) (t0 + on - edge)) }
  | none => x

/-- One cell starts a period at tick `g` with effective duty `e` (R177). -/
def State.startPeriod (s : State) (n g e : Nat) (sat : Bool) (c : Nat) : State :=
  let x := s.swc c
  let ot := onTime x.drive.period e (tminOf (s.fld F.SW_CTRL_SLEW n))
  let x := { x.begin s.now with st := 2, pstart := g, perRun := x.drive.period, onTicks := ot.1, realign := false
                                satAt := if sat then some s.now else x.satAt }
  let x := if 0 < ot.1 then x.conduct s.now (s.inrushMs c) else x
  let x := x.winPhase s.now (ot.1 * 25) (s.edge n)
  let s := ((s.setSwc c x).freezeInrush c |>.setFlag F.CAL_CH_DSTAT_PULLUP c false).setFld F.SW_EDUTY_EDUTY c e
  let s := (s.setFlag F.SW_STAT_COMP_SAT c sat).setFlag F.SW_STAT_DUTY_CLAMP c ot.2
  if ot.2 then s.setFlag F.SW_EVT_DUTY_CLAMP c else s

/-! ## Currents (R191, R192, R235, R239, R249) -/

/-- A raw sample, µA at nominal gain, with the coefficients in use (R235): (raw − offset) / gain, in µA. -/
def State.corrected (s : State) (c : Nat) (raw : Int) : Int :=
  roundDiv ((raw - 250 * signed 16 (s.fld F.CAL_CH_LIVE_OFFSET c)) * 100000) ((100000 : Int) + signed 16 (s.fld F.CAL_CH_LIVE_GAIN c)).toNat

/-- The group of a window in which a sample taken at `t` lies: 0 P1, 1 J, 2 X, 3 P2; with two groups alone P1 and X (R234, R238). -/
def CalRun.group (w : CalRun) (total t : Nat) : Option Nat :=
  match w.gs.findIdx? fun g => decide (g < t) && decide (t ≤ g + groupNs) with
  | some k => some (if total = 2 ∧ k = 1 then 2 else k)
  | none => none

/-- A sample taken at true time `t` as the module reports it, 2.5 mA (R191, R239): corrected, with the sink current subtracted from a J sample
and an X sample negated. -/
def State.sample (s : State) (c t : Nat) (raw : Int) : Int :=
  let x := s.swc c
  let i := s.corrected c raw
  let grp := match x.win with
    | some w => (match w.group x.groups t with | some k => some k | none => x.past.bind fun p => p.group x.groups t)
    | none => x.past.bind fun p => p.group x.groups t
  let i := match grp with
    | some 1 => i - 1000000
    | some 2 => -i
    | _ => i
  signed 16 (satSigned 16 (roundDiv i 2500))

/-- Mean of samples, nearest; 0 of none. -/
def meanOf (l : List Int) : Int := if l.isEmpty then 0 else roundDiv (l.foldl (· + ·) 0) l.length

/-- The highest magnitude of the samples raises PEAK (R191). -/
def State.peak (s : State) (c : Nat) (l : List Int) : State :=
  let pk := Nat.min 65535 (l.foldl (fun m i => Nat.max m i.natAbs) 0)
  if s.fld F.SW_PEAK_PEAK c < pk then s.setFld F.SW_PEAK_PEAK c pk else s

/-- An evaluation of the on-state current of a channel, 2.5 mA, the sum of both cells in a pair (R249, R250): since when it has been below
OL_THR, over how many evaluations, and since when at OL_THR + 20 mA or more. -/
def State.olEval (s : State) (n : Nat) (i : Int) : State :=
  let x := s.swc n
  let thr := 4 * s.fld F.CAL_CH_DIAG_OL_THR n
  let low := if i.natAbs < thr then some (match x.low with | some (t, k) => (t, k + 1) | none => (s.now, 1)) else none
  let high := if thr + 8 ≤ i.natAbs then some (x.high.getD s.now) else none
  s.setSwc n { x with low := low, high := high }

/-- The samples of a cell's complete period, each with its time from the period start: PAVG, and ONAVG from those at least one edge time from
either edge of the on-phase (R191, R192). PAVG stays where the period held no sample (DESIGN CHOICE, log 103). Answers the clean samples. -/
def State.periodMeans (s : State) (c : Nat) (raw : List (Nat × Int)) : State × List Int :=
  let x := s.swc c
  let t0 := s.gTime x.pstart
  let e := s.edge c
  let l := raw.map fun r => (r.1, s.sample c (t0 + r.1) r.2)
  let clean := (l.filter fun r => decide (e ≤ r.1) && decide (r.1 + e ≤ x.onTicks * 25)).map (·.2)
  let s := if l.isEmpty then s else s.setFld F.SW_CURPER_PAVG c (unsigned 16 (meanOf (l.map (·.2))))
  (s.setFld F.SW_CURPER_ONAVG c (unsigned 16 (meanOf clean)), clean)

/-- A running period of a channel is complete (R191, R249): `raw` holds the samples of its cells. A period without a clean sample is not
evaluated. -/
def State.periodDone (s : State) (n : Nat) (raw : List (List (Nat × Int))) : State :=
  if (s.swc n).st ≠ 2 then s
  else
    let r := ((s.cells n).zip raw).foldl (fun (a : State × Bool) p =>
      let m := a.1.periodMeans p.1 p.2
      (m.1, a.2 && !m.2.isEmpty)) (s, true)
    if r.2 then r.1.olEval n ((s.cells n).foldl (fun t c => t + signed 16 (r.1.fld F.SW_CURPER_ONAVG c)) 0) else r.1

/-- The next aligned period start of a channel occurs, if it runs or waits for PWM (R174 to R180); `raw`: the samples of the period that
ends. The 100 ms of R180 count from the start of the last saturated period (DESIGN CHOICE, log 118). -/
def State.periodStart (s : State) (n : Nat) (raw : List (List (Nat × Int)) := []) : State :=
  let n := s.lead n
  match (s.swc n).nextStart s.clk.g0 with
  | none => s
  | some g =>
    let s := (s.advanceTo (s.gTime g)).periodDone n raw
    let d := s.want n
    if d.mode < 2 then s.refresh n
    else
      let r := s.periodDuty n d
      let first := r.2 && match (s.swc n).satAt with
        | some t => decide (t + ms 100 ≤ s.now)
        | none => true
      let s := s.each (s.cells n) fun s c => s.startPeriod n g r.1 r.2 c
      if first then (s.setFlag F.SW_EVT_COMP_SAT n).raise .COMP_SAT n [] (sec 1) else s

/-! ## Commanded states -/

/-- A write to a channel's registers was refused (R172, R182): REFUSED, the event, SW_REFUSED. -/
def State.swRefuse (s : State) (n : Nat) : State :=
  ((s.setFlag F.SW_STAT_REFUSED n).setFlag F.SW_EVT_REFUSED n).raise .SW_REFUSED n [] (ms 10)

/-- A write to a channel's registers was accepted. -/
def State.swAccept (s : State) (n : Nat) : State := s.setFlag F.SW_STAT_REFUSED n false

/-- Whether a commanded state other than OFF is refused: outside Operate and Service (R172), or behind a closed gate (R560). The tie of the odd
channel of a pair has no effect while the pair exists (R187). -/
def State.onRefused (s : State) (n mode : Nat) : Bool := mode != 0 && (!s.live || (s.lead n == n && s.gateShut n))

/-- The commanded state of a channel becomes `mode` and `duty` and takes effect (R174, R175, R199). A delayed group turn-on that is
pending ends (R185). -/
def State.command (s : State) (n mode duty : Nat) (delay : Option Nat) : State :=
  let s := s.wr .SW_OUT n (F.SW_OUT_MODE.into (F.SW_OUT_DUTY.into 0 duty) mode)
  if s.lead n != n then s else
    let s := s.each (s.cells n) fun s c =>
      let s := s.setSwc c { (s.swc c).endWin with delay := delay, auto := none }
      if mode = 0 then s.dropL1 c else s
    s.refresh n

/-- A write to SW_OUT (R172): the state and whether it was refused. -/
def State.swOutWrite (s : State) (n mode duty : Nat) : State × Bool :=
  if s.onRefused n mode then (s.swRefuse n, true) else ((s.swAccept n).command n mode duty none, false)

/-- A group command (R184): one check for the whole command, then every selected channel takes it; a channel that goes from OFF to
ON turns on PHASE µs later, also where it replaces a delayed turn-on that is still pending (R185). Bits of odd channels in pairs are
ignored. -/
def State.groupCommand (s : State) (sel mode duty : Nat) : State × Bool :=
  let ns := s.leads.filter fun n => bitOf sel n
  if mode != 0 && (!s.live || ns.any fun n => s.gateShut n) then
    ((s.setFlag F.SW_GLB_STAT_REFUSED).raise .SW_REFUSED 0 [] (ms 10), true)
  else
    (s.each ns fun s n =>
      let d := if mode = 1 && (s.fld F.SW_OUT_MODE n == 0 || (s.swc n).delay.isSome) && s.fld F.SW_PHASE_PHASE n != 0
        then some (s.now + us (s.fld F.SW_PHASE_PHASE n)) else none
      s.command n mode duty d, false)

/-- A delayed group turn-on falls due (R184). -/
def State.groupTurnOn (s : State) (n : Nat) : State :=
  let n := s.lead n
  match (s.swc n).delay with
  | none => s
  | some t =>
    let s := s.advanceTo t
    (s.each (s.cells n) fun s c => s.setSwc c { s.swc c with delay := none }).refresh n

/-- A write to SW_GLB_PAIR (R186): taken only in Configure or while the stored set is applied in Boot, and only if every channel
whose pairing changes is commanded OFF with its output off. A dissolved pair's odd wire model starts from ta (R206), which it
has held. -/
def State.pairWrite (s : State) (v : Nat) : State × Bool :=
  let old := s.fld F.SW_GLB_PAIR_PAIR
  let changing := (List.range 64).filter fun n => bitOf old (n / 2) != bitOf v (n / 2)
  if s.cfgOpen &&
      changing.all fun n => s.fld F.SW_OUT_MODE n == 0 && (s.swc n).st == 0 then
    ((s.wr .SW_GLB_PAIR 0 (BitVec.ofNat 32 v)).refreshAll, false)
  else ((s.setFlag F.SW_GLB_STAT_REFUSED).raise .SW_REFUSED 0 [] (ms 10), true)

/-- The shares of a pair differ by more than 20 % of a current of 4 A or more for 100 ms (R190); currents in 2.5 mA. -/
def State.pairImbalance (s : State) (n : Nat) (a b : Int) : State :=
  let l := n / 2 * 2
  if s.paired n ∧ 1600 ≤ (a + b).natAbs ∧ (a + b).natAbs < 5 * (a - b).natAbs ∧ !s.flag F.SW_STAT_PAIR_IMB l then
    (s.each [l, l + 1] fun s c => (s.setFlag F.SW_STAT_PAIR_IMB c).setFlag F.SW_EVT_PAIR_IMB c).raise .PAIR_IMBALANCE l
  else s
/-- The shares have been within 20 % for 100 ms (R190). -/
def State.pairBalance (s : State) (n : Nat) (a b : Int) : State :=
  let l := n / 2 * 2
  if 5 * (a - b).natAbs ≤ (a + b).natAbs then
    (s.each [l, l + 1] fun s c => s.setFlag F.SW_STAT_PAIR_IMB c false).clearFault .PAIR_IMBALANCE l
  else s

/-- Every commanded state becomes OFF (R173). -/
def State.allSwitchesOff (s : State) : State := s.each (List.range 64) fun s n => s.command n 0 (s.fld F.SW_OUT_DUTY n) none

end Sys2Proof.Machine
end

