-- ==== Sys2Proof/Machine/Valve.lean ====
section
/-! DEFINITION. The valve banks: claims and windows (R266 to R268), admission (R269 to R274), phases and end decay (R258 to R265),
boost readiness (R275, R276), coil diagnostics (R277 to R279), closing detection (R280 to R282), results (R283). -/

namespace Sys2Proof.Machine

/-! ## Lasts -/

def bankOf (n : Nat) : Nat := n / 4
/-- Boost of a bank: 0 BSTA, 1 BSTB (R253). -/
def boostOf (b : Nat) : Nat := if b < 3 then 0 else 1
/-- Feed of a boost and of its banks: FEEDB, FEEDC (R92). -/
def boostFeed (x : Nat) : Nat := x + 1

/-- The header and phase words of a last; a last in its safe state acts as one with NPH 0 (R286). -/
def State.lastHdr (s : State) (l : Nat) : Nat :=
  let h := (s.rd .INJ_LAST_HDR l).toNat
  if s.isSafe (.lastU l) then h / 16 * 16 else h
def State.lastPhs (s : State) (l : Nat) : List Nat :=
  (List.range (s.lastHdr l % 16)).map fun k => (s.rd .INJ_LAST_PH (l * 8 + k)).toNat

def phTime (w : Nat) : Nat := w % 65536
def phCur (w : Nat) : Nat := w / 65536 % 4096
def phType (w : Nat) : Nat := w / 268435456 % 8
def hdrHyst (h : Nat) : Nat := h / 256 % 256
def hdrTmax (h : Nat) : Nat := h / 65536 % 65536
def hdrFast (h : Nat) : Bool := bitOf h 4
def hdrClose (h : Nat) : Bool := bitOf h 5

/-- Whether phases satisfy R260, for a header and its phase words. -/
def phasesOk : List Nat → Bool
  | [] => true
  | w :: r =>
    decide (phType w ≤ 5) &&
    (phType w > 1 || (decide (1 ≤ phTime w) && decide (1 ≤ phCur w))) &&
    (phType w < 3 || decide (1 ≤ phTime w)) &&
    (phType w != 5 || phCur w == 0) &&
    (phType w != 2 || decide (1 ≤ phTime w) || r.isEmpty) && phasesOk r

/-- Header limits of R260. -/
def hdrOk (h : Nat) : Bool := decide (h % 16 ≤ 8) && hdrHyst h != 0 && decide (10 ≤ hdrTmax h)

/-- A write to a last: word 0 the header, 1 to 8 the phase words; and whether it was refused (R260). -/
def State.lastWrite (s : State) (l w v : Nat) : State × Bool :=
  let h := (s.rd .INJ_LAST_HDR l).toNat
  let ph := fun k => (s.rd .INJ_LAST_PH (l * 8 + k)).toNat
  let ok := if w = 0 then
      hdrOk v && (v % 16 == 0 || phasesOk ((List.range (v % 16)).map ph))
    else
      decide (h % 16 ≤ w - 1) || phasesOk ((List.range (h % 16)).map fun k => if k + 1 = w then v else ph k)
  if ok then
    (if w = 0 then s.wr .INJ_LAST_HDR l (BitVec.ofNat 32 (v / 256 * 256 + v % 64))
     else s.wr .INJ_LAST_PH (l * 8 + (w - 1)) (BitVec.ofNat 32 (v % 2147483648)), false)
  else (s.setFlag F.INJ_GLB_STAT_LAST_REFUSED, true)

/-! ## Claims and windows -/

/-- What a phase asks of its bank's high side (R266). -/
inductive Claim where | none | off | boost | feed | hold (cur hyst : Nat)
deriving DecidableEq, Repr

/-- R266. -/
def Claim.compatible : Claim → Claim → Bool
  | .none, _ => true
  | _, .none => true
  | .off, .off => true
  | .hold c h, .hold c' h' => c == c' && h == h'
  | _, _ => false

def claimOf (hdr w : Nat) : Claim :=
  match phType w with
  | 0 => .boost
  | 1 => .feed
  | 2 => .hold (phCur w) (hdrHyst hdr)
  | 3 => .off
  | _ => .none

def endClaim (hdr : Nat) : Claim := if hdrFast hdr then .none else .off

structure Win where
  c : Claim
  lo : Nat
  hi : Nat
deriving DecidableEq, Repr

/-- Minimum and maximum of a phase in ns (R267); `toEnd` stands for a HOLD that lasts to command end. -/
def phMin (w toEnd : Nat) : Nat :=
  match phType w with
  | 0 => 0
  | 1 => 0
  | 2 => if phTime w = 0 then toEnd else us (phTime w)
  | 5 => us (phTime w)
  | _ => if phCur w = 0 then us (phTime w) else 0
def phMax (w bw toEnd : Nat) : Nat :=
  match phType w with
  | 0 => us (phTime w) + bw
  | 2 => if phTime w = 0 then toEnd else us (phTime w)
  | _ => us (phTime w)

/-- Windows of the phases `ws` and the end decay, from the earliest and latest instants `lo` and `hi` at which the first of them
can begin, with command end at most `e` (R267). With `least`, every end is the earliest one (R271). -/
def winsFrom (hdr bw e : Nat) (least : Bool) : List Nat → Nat → Nat → List Win
  | [], lo, hi => [⟨endClaim hdr, lo, if least then lo else hi + us (hdrTmax hdr)⟩]
  | w :: r, lo, hi =>
    let lo' := Nat.min (lo + phMin w (e - lo)) e
    let hi' := Nat.min (hi + phMax w bw (e - hi)) e
    ⟨claimOf hdr w, lo, if least then lo' else hi'⟩ :: winsFrom hdr bw e least r lo' hi'

/-- Windows of an event that starts at `t`. -/
def winsAt (hdr bw : Nat) (phs : List Nat) (dur t : Nat) : List Win := winsFrom hdr bw (t + us dur) false phs t t

/-- Windows of a running event at `now` (R267): a phase that has ended has none, the running one starts now. A degraded phase runs
as BAT_PEAK (R275). -/
def ValveRun.wins (r : ValveRun) (bw now : Nat) (least : Bool) : List Win :=
  if r.decay then
    [⟨if r.fast then .none else .off, now, if least then now else r.decayAt + us (hdrTmax r.hdr)⟩]
  else
    match r.phs.drop r.phase with
    | [] => [⟨endClaim r.hdr, now, if least then now else now + us (hdrTmax r.hdr)⟩]
    | w :: rest =>
      let e := r.cmdEnd
      let lo := Nat.max now (Nat.min (r.phAt + phMin w (e - r.phAt)) e)
      let hi := Nat.max now (Nat.min (r.phAt + phMax w (if r.degraded then 0 else bw) (e - r.phAt)) e)
      ⟨if r.degraded then .feed else claimOf r.hdr w, now, if least then lo else hi⟩ ::
        winsFrom r.hdr bw e least rest lo hi

def Win.clash (a b : Win) : Bool := !a.c.compatible b.c && decide (a.lo < b.hi) && decide (b.lo < a.hi)

/-! ## The high side (R253, R263) -/

def State.hsOf (s : State) (b : Nat) : HighSide := (lookup b s.inj.hs).getD {}
def State.setHs (s : State) (b : Nat) (h : HighSide) : State := { s with inj := { s.inj with hs := assoc b h s.inj.hs } }

/-- The claim that a channel's running phase puts into effect: none in its end decay, and while it waits for its boost (R275). -/
def State.phaseClaim (s : State) (n : Nat) : Claim :=
  match (s.injc n).run with
  | some r =>
    if r.decay || r.waitBst.isSome then .none
    else match r.phs[r.phase]? with
      | none => .none
      | some w => if r.degraded then .feed else claimOf r.hdr w
  | none => .none

/-- The channels of a bank that hold, with their CURRENT and HYST in 10 mA: all of one setting (R266). -/
def State.holding (s : State) (b : Nat) : List (Nat × Nat × Nat) :=
  ((List.range 4).map (4 * b + ·)).filterMap fun n => match s.phaseClaim n with | .hold c h => some (n, c, h) | _ => none

/-- One sample of a HOLD at `t` (R263): the lowest current turns the feed path on, the highest turns it off, each no sooner than 2 µs after
the last change. -/
def HighSide.chop (h : HighSide) (lo hi cur hyst t : Nat) : HighSide :=
  if t < h.chopAt + us 2 then h
  else if !h.on && decide (lo + 10 * hyst ≤ 10 * cur) then { h with on := true, chopAt := t }
  else if h.on && decide (10 * (cur + hyst) ≤ hi) then { h with on := false, chopAt := t }
  else h

/-- The chop of a bank over the samples since the last command, which came at `t0`. -/
def State.chop (s : State) (b t0 : Nat) (i : Shunt) : State :=
  match s.holding b with
  | [] => s
  | (n, c, y) :: more =>
    let ns := n :: more.map (·.1)
    s.setHs b (i.foldl (fun h x =>
      let l := ns.map fun n => x.2.getD (n % 4) 0
      h.chop (l.foldl Nat.min (l.headD 0)) (l.foldl Nat.max 0) c y (t0 + x.1)) (s.hsOf b))

/-- The path of its bank that the claims in force call for: 0 none, 1 feed, 2 boost (R258, R266). -/
def State.hsWant (s : State) (b : Nat) : Nat :=
  let cs := ((List.range 4).map (4 * b + ·)).map s.phaseClaim
  if cs.contains .boost then 2
  else if cs.contains .feed then 1
  else if cs.any fun c => match c with | .hold _ _ => true | _ => false then nat01 (s.hsOf b).on
  else 0

/-- High side of a bank: 0 off, 1 feed, 2 boost. For 200 ns after the other path has turned off it is off (R253). -/
def State.bankHs (s : State) (b : Nat) : Nat :=
  let h := s.hsOf b
  if h.last ≠ h.path ∧ s.now < h.offAt + 200 then 0 else h.path

/-- The high side of every bank follows the claims. -/
def State.hsFollow (s : State) : State :=
  if s.inj.ch.isEmpty then s
  else s.each (List.range 6) fun s b =>
    let h := s.hsOf b
    let w := s.hsWant b
    if w = h.path then s
    else if h.path = 0 then s.setHs b { h with path := w }
    else s.setHs b { h with path := w, last := h.path, offAt := s.now }

/-! ## Conditions -/

/-- The rail of boost `x` is ready (R254, R256, R257, R276). -/
def State.railReady (s : State) (x : Nat) : Bool :=
  s.flag F.INJ_BST_STAT_READY x && !s.flag F.INJ_BST_STAT_OV x && s.feedUp (boostFeed x)

/-- Whether boost `x` may switch (R256, R257, R122, R135, R142, R167). -/
def State.bstMay (s : State) (x : Nat) : Bool :=
  s.flag F.INJ_BST_CFG_EN x && s.feedUp (boostFeed x) && !s.flag F.INJ_BST_STAT_OV x && !s.isSafe .inj &&
    !s.extracting && !s.flag F.BERTH_SUP_STAT_HOLDUP && s.powered

/-- The boost starts or stops switching with its conditions. -/
def State.bstRefresh (s : State) (x : Nat) : State :=
  let may := s.bstMay x
  if may == s.flag F.INJ_BST_STAT_RUN x then s
  else
    let s := s.setFlag F.INJ_BST_STAT_RUN x may
    let s := { s with inj := { s.inj with enAt := if may then assoc x s.now s.inj.enAt else Tbl.del s.inj.enAt x } }
    if may then s else s.setFlag F.INJ_BST_STAT_READY x false
def State.bstAll (s : State) : State := (s.bstRefresh 0).bstRefresh 1

/-- Valve `n` is held off by its bollard safe state, a reflex or the BOLL block (R361, R363, R376, R379). -/
def State.valveBarred (s : State) (n : Nat) : Bool :=
  (s.gov (64 + n)).isSome || (s.reflexOn (64 + n)).isSome || s.isSafe .boll

/-- Why an event on channel `n` cannot be admitted now, as a result code of R283, if it cannot: MODE, DISABLED, LAST, FEED. -/
def State.valveBar (s : State) (n last : Nat) : Option Nat :=
  let b := bankOf n
  let boost := (s.lastPhs last).any fun w => phType w == 0
  if !s.live || s.extracting || s.flag F.BERTH_SUP_STAT_HOLDUP then some 13
  else if s.isSafe .inj || !s.flag F.INJ_CH_CFG_EN n || !s.flag F.INJ_BANK_CFG_EN b || (s.injc n).latched ||
      s.flag F.INJ_BANK_STAT_HSB_SHORT b || s.valveBarred n || s.isSafe (.injCh n) || s.isSafe (.injBank b) ||
      (boost && !s.flag F.INJ_BST_CFG_EN (boostOf b)) then some 10
  else if s.lastHdr last % 16 = 0 then some 9
  else if !s.feedUp (boostFeed (boostOf b)) && !boost then some 12
  else none

def State.bankBw (s : State) (b : Nat) : Nat := us (10 * s.fld F.INJ_BANK_CFG_BOOST_WAIT b)
def State.minOffAt (s : State) (n : Nat) : Nat :=
  match (s.injc n).lastEnd with
  | some t => t + us (s.fld F.INJ_CH_CFG_MIN_OFF n)
  | none => 0
def State.deferNs (s : State) (b : Nat) : Nat := us (10 * s.fld F.INJ_BANK_CFG_DEFER_MAX b)
def bankChs (b : Nat) : List Nat := (List.range 4).map (4 * b + ·)

/-- Windows of the events that run on the other channels of the bank. -/
def State.otherWins (s : State) (n : Nat) (least : Bool) : List Win :=
  (bankChs (bankOf n)).flatMap fun m =>
    if m = n then [] else
      match (s.injc m).run with
      | some r => r.wins (s.bankBw (bankOf n)) s.now least
      | none => []

/-- The event fits at instant `t` (R268). -/
def State.fits (s : State) (n : Nat) (ev : ValveEv) (t : Nat) : Bool :=
  let ws := winsAt (s.lastHdr ev.last) (s.bankBw (bankOf n)) (s.lastPhs ev.last) ev.dur t
  let os := s.otherWins n false
  !(ws.any fun a => os.any fun b => a.clash b)

/-- Only its own channel stands in the way: its running event or minimum off-time (R270, R273). -/
def State.ownBusy (s : State) (n : Nat) : Bool := (s.injc n).run.isSome || decide (s.now < s.minOffAt n)

/-- The earliest instant at which the event could fit, on the minimum durations of the windows it waits for (R271): the present
instant, or one at which one of its windows begins where a window of another event ends. -/
def State.earliestFit (s : State) (n : Nat) (ev : ValveEv) : Option Nat :=
  let ws := fun t => winsAt (s.lastHdr ev.last) (s.bankBw (bankOf n)) (s.lastPhs ev.last) ev.dur t
  let os := s.otherWins n true
  let ts := s.now :: (ws 0).flatMap fun a => os.filterMap fun b => if a.lo + s.now ≤ b.hi then some (b.hi - a.lo) else none
  let ok := ts.filter fun t => !((ws t).any fun a => os.any fun b => a.clash b)
  ok.foldl (fun m t => match m with
    | none => some t
    | some u => some (Nat.min t u)) none

/-- The earliest end of the channel's own running event, with its minimum off-time. -/
def State.ownFree (s : State) (n : Nat) : Nat :=
  match (s.injc n).run with
  | some r => (if r.decay then s.now else
      match (r.wins (s.bankBw (bankOf n)) s.now true).getLast? with
      | some w => w.lo
      | none => s.now) + us (s.fld F.INJ_CH_CFG_MIN_OFF n)
  | none => s.minOffAt n

/-! ## Results -/

/-- Record the result of an event of channel `n` (R283); codes 5 to 13 are rejections and skips. -/
def State.valveResult (s : State) (n : Nat) (ev : ValveEv) (code tpeak delay close : Nat) : State :=
  let d := Nat.min delay 65535
  let s := ((s.setFld F.INJ_CH_RES_RESULT n code).setFld F.INJ_CH_RES_TPEAK n (Nat.min tpeak 4095)).setFld F.INJ_CH_RES_DELAY n d
  let hs := (s.injc n).closes
  let s := (s.setFld F.INJ_CH_CLOSE_DELAY n close).setFld F.INJ_CH_CLOSE_MEAN n
    (if hs.length < 8 then 0xFFFF else hs.sum / 8)
  let s := if 5 ≤ code ∧ code ≤ 13 then
      ((s.bump F.INJ_CH_CNT_REJ n).setFlag F.INJ_CH_EVT_REJECT n).raise .INJ_EVENT_REJECTED n [code] (sec 1)
    else s
  match ev.ent with
  | some e => s.eveResult e code close d
  | none => s

/-- Reject the waiting event of a channel. -/
def State.rejectWait (s : State) (n code : Nat) : State :=
  match (s.injc n).wait with
  | some ev => (s.setInjc n { s.injc n with wait := none }).valveResult n ev code 0 0 0xFFFF
  | none => s

/-- The running event of a channel goes to its end decay (R262, R264, R265); `fast` where the low side turns off at once. -/
def State.toDecay (s : State) (n result : Nat) (fast : Bool) : State :=
  match (s.injc n).run with
  | some r =>
    if r.decay then s
    else s.setInjc n { s.injc n with run := some { r with decay := true, decayAt := s.now, cmdEnd := s.now, waitBst := none,
                                                          fast := fast || hdrFast r.hdr,
                                                          result := if result = 0 then r.result else result } }
  | none => s

/-- A channel's event ended (R264, R283). One that skipped its phase 0 has not run (R275). -/
def State.endEvent (s : State) (n result close : Nat) : State :=
  match (s.injc n).run with
  | some r =>
    let s := s.setInjc n { s.injc n with run := none, lastEnd := some s.now }
    let s := if result = 11 ∧ r.phase = 0 then s else s.bump F.INJ_CH_CNT_RUN n
    s.valveResult n r.ev result (r.tpeak.getD 0) ((r.start - r.ev.req) / 1000) close
  | none => s

/-- BOOST_NOT_READY of a bank (R275), at most once per bank per 1 s. -/
def State.bnrRaise (s : State) (b : Nat) : State := s.raise .BOOST_NOT_READY b [] (sec 1)

/-- The rail is not ready when the boost wait ends (R275): battery fallback, or skip, which a bank without its feed takes in any case (R276). -/
def State.bstFallback (s : State) (n : Nat) : State :=
  match (s.injc n).run with
  | some r =>
    let b := bankOf n
    let s := s.bnrRaise b
    if s.flag F.INJ_BANK_CFG_BNR_SKIP b || !s.feedUp (boostFeed (boostOf b)) then
      if r.phase = 0 then s.endEvent n 11 0xFFFF else s.toDecay n 11 false
    else
      let s := s.setFlag F.INJ_CH_EVT_DEGRADED n
      s.setInjc n { s.injc n with run := some { r with degraded := true, result := 1, phAt := s.now, waitBst := none } }
  | none => s

/-- Phase `k` of the running event begins now (R262, R275). -/
def State.beginPhase (s : State) (n k : Nat) : State :=
  match (s.injc n).run with
  | some r =>
    let r := { r with phase := k, phAt := s.now, degraded := false, waitBst := none }
    let s' := s.setInjc n { s.injc n with run := some r }
    match r.phs[k]? with
    | none => s'.toDecay n 0 false
    | some w =>
      if phType w = 0 ∧ !s.railReady (boostOf (bankOf n)) then s'.setInjc n { s'.injc n with run := some { r with waitBst := some s.now } }
      else if phType w = 2 ∧ (s.holding (bankOf n)).isEmpty then s'.setHs (bankOf n) { s'.hsOf (bankOf n) with on := false, chopAt := 0 }
      else s'
  | none => s

/-- Admit an event: it starts now with a copy of its last (R261, R269, R272). -/
def State.valveAdmit (s : State) (n : Nat) (ev : ValveEv) : State :=
  let s := if ev.req < s.now then s.bump F.INJ_CH_CNT_DEFER n else s
  let r : ValveRun := { ev := ev, hdr := s.lastHdr ev.last, phs := s.lastPhs ev.last, start := s.now, cmdEnd := s.now + us ev.dur }
  (s.setInjc n { s.injc n with run := some r, wait := none }).beginPhase n 0

/-- The waiting candidates of a bank, by requested start and then channel number (R269). -/
def State.candidates (s : State) (b : Nat) : List (Nat × ValveEv) :=
  let cs := (bankChs b).filterMap fun n => (s.injc n).wait.bind fun e => if e.req ≤ s.now then some (n, e) else none
  cs.foldl (fun l c => l.filter (fun x => decide (x.2.req ≤ c.2.req)) ++ c :: l.filter (fun x => !decide (x.2.req ≤ c.2.req))) []

/-- One check of the candidates in order (R269, R271): `blocked` is the requested start of an earlier one that still waits, `arr` the
channel whose event has just arrived, which policy REJECT judges (R270). -/
def State.checkList (s : State) (b : Nat) (arr : Option Nat) : List (Nat × ValveEv) → Option Nat → State
  | [], _ => s
  | (n, ev) :: r, blocked =>
    let behind := match blocked with
      | some t => decide (t < ev.req)
      | none => false
    match s.valveBar n ev.last with
    | some code => (s.rejectWait n code).checkList b arr r blocked
    | none =>
      if !behind && !s.ownBusy n && s.fits n ev s.now then (s.valveAdmit n ev).checkList b arr r blocked
      else if arr == some n && s.flag F.INJ_BANK_CFG_POLICY b && !s.fits n ev s.now then (s.rejectWait n 5).checkList b arr r blocked
      else
        let dl := ev.req + s.deferNs b
        let late := match s.earliestFit n ev with
          | some t => decide (dl < t)
          | none => true
        let own := decide (dl < s.ownFree n)
        if late || (decide (dl ≤ s.now) && (behind || !s.fits n ev s.now)) then (s.rejectWait n 6).checkList b arr r blocked
        else if own || decide (dl ≤ s.now) then (s.rejectWait n 7).checkList b arr r blocked
        else s.checkList b arr r (some (match blocked with
          | some t => Nat.min t ev.req
          | none => ev.req))

/-- The bank checks its candidates (R269). -/
def State.bankCheck (s : State) (b : Nat) : State := s.checkList b none (s.candidates b) none

/-- An event reaches its channel at its requested start (R269, R270, R274, R284). -/
def State.valveArrive (s : State) (n : Nat) (ev : ValveEv) : State :=
  match s.valveBar n ev.last with
  | some code => s.valveResult n ev code 0 0 0xFFFF
  | none =>
    if (s.injc n).wait.isSome then s.valveResult n ev 8 0 0 0xFFFF
    else
      let b := bankOf n
      let s := s.setInjc n { s.injc n with wait := some ev }
      s.checkList b (some n) (s.candidates b) none

/-! ## Phases, command end, aborts -/

/-- A coil short ends the channel's event and latches the channel (R278). -/
def State.coilShort (s : State) (n : Nat) : State :=
  let c := s.injc n
  let run := c.run.map fun r => { r with decay := true, decayAt := s.now, cmdEnd := Nat.min r.cmdEnd s.now, fast := true, result := 3, waitBst := none }
  let s := s.setInjc n { c with run := run, latched := true }
  let s := ((s.setFlag F.INJ_CH_EVT_SHORT n).raise .COIL_SHORT n).rejectWait n 10
  s.bankCheck (bankOf n)

/-- A phase ends on its own condition: its current reached the target, or its time elapsed (R258, R262, R277, R278). -/
def State.phaseEnd (s : State) (n : Nat) (reached : Bool) (i : Shunt := []) : State :=
  let s := s.chop (bankOf n) s.now i
  match (s.injc n).run with
  | none => s
  | some r =>
    match r.phs[r.phase]? with
    | none => s
    | some w =>
      let byTime := r.phAt + us (phTime w)
      let peak := decide (phType w ≤ 1)
      if r.decay || r.waitBst.isSome || (phType w == 2 && phTime w == 0) || (reached && !peak && (phCur w == 0 || phType w == 2 || phType w == 5)) then s
      else if !reached && decide (r.cmdEnd ≤ byTime) then s
      else
        let s := if reached then s else s.advanceTo byTime
        let el := s.now - r.phAt
        let r' := if reached && peak && r.tpeak.isNone then { r with tpeak := some (el / 1000) } else r
        let s := s.setInjc n { s.injc n with run := some r' }
        if reached && peak && decide (el < us (s.fld F.INJ_CH_PROT_TRISE_MIN n)) then s.coilShort n
        else
          let s := if !reached && peak && !r.degraded then
              (((s.setFlag F.INJ_CH_EVT_OPEN n).raise .OPEN_COIL n [] (sec 1))).toDecay n 2 false
            else if r.phase + 1 < r.phs.length then s.beginPhase n (r.phase + 1)
            else s.toDecay n 0 false
          s.bankCheck (bankOf n)

/-- Command end of a running event (R262, R264). -/
def State.commandEnd (s : State) (n : Nat) (i : Shunt := []) : State :=
  let s := s.chop (bankOf n) s.now i
  match (s.injc n).run with
  | some r => if r.decay then s else ((s.advanceTo r.cmdEnd).toDecay n 0 false).bankCheck (bankOf n)
  | none => s

/-- The search window for the kink, µs after command end (R281). -/
def State.closeWin (s : State) (n : Nat) (r : ValveRun) : Nat × Nat :=
  let hs := (s.injc n).closes
  let w := if hs.length < 8 then (s.fld F.INJ_CH_CLWIN_START n, s.fld F.INJ_CH_CLWIN_END n)
    else
      let m := hs.sum / 8
      let d := Nat.max 100 (m / 4)
      (m - d, m + d)
  let t := hdrTmax r.hdr
  (Nat.min t (Nat.max 20 w.1), Nat.min t (Nat.max 20 w.2))

/-- Second differences of the 4-sample running mean of the coil voltage, times 4, each with the number of its latest sample (R280). -/
def secondDiffs (v : List Int) : List (Nat × Int) :=
  let at' := fun k => v.getD k 0
  let sum := fun k => at' k + at' (k - 1) + at' (k - 2) + at' (k - 3)
  ((List.range v.length).filter fun k => decide (5 ≤ k)).map fun k => (k, sum k - 2 * sum (k - 1) + sum (k - 2))

/-- A second difference is at least 4 times the noise, the rms of those of the first 20 µs (R280). One of 0 is no kink (DESIGN CHOICE, log
107). -/
def kinkLike (ds : List (Nat × Int)) (d : Int) : Bool :=
  let first := ds.filter fun x => decide (x.1 ≤ 40)
  d != 0 && decide (16 * first.foldl (fun a x => a + x.2 * x.2) 0 ≤ d * d * (first.length : Int))

/-- The kink in a search window of ns after command end: the sample, at 2 MS/s, with the largest magnitude, if that is kink-like (R280). -/
def kinkIn (v : List Int) (lo hi : Nat) : Option Nat :=
  let ds := secondDiffs v
  let best := (ds.filter fun x => decide (lo ≤ 500 * x.1) && decide (500 * x.1 ≤ hi)).foldl (fun (m : Option (Nat × Int)) x => match m with
    | some y => if y.2.natAbs < x.2.natAbs then some x else m
    | none => some x) none
  best.bind fun x => if kinkLike ds x.2 then some (500 * x.1) else none

/-- When the closing search has found a kink, ns after command end: the first sample of its window that is kink-like (R264, R280). -/
def kinkFound (v : List Int) (lo hi : Nat) : Option Nat :=
  let ds := secondDiffs v
  (ds.find? fun x => decide (lo ≤ 500 * x.1) && decide (500 * x.1 ≤ hi) && kinkLike ds x.2).map fun x => 500 * x.1

/-- How long after command end the low side of a slow end decay turns off (R264): at END_TMAX, or below 50 mA once the search is over. -/
def ValveRun.lowOff (r : ValveRun) (w : Nat × Nat) (x : Decay) : Nat :=
  let search := if hdrClose r.hdr then (kinkFound x.volts (us w.1) (us w.2)).getD (us w.2) else 0
  Nat.min (us (hdrTmax r.hdr)) (Nat.max x.below search)

/-- The end decay of a channel's event runs out (R264): the low side turns off, at once where it is fast, and the event ends when the current
has then fallen below 50 mA. The kink is looked for in what of the search window lies before low-side turn-off (R280 to R282). -/
def State.valveEnd (s : State) (n : Nat) (x : Decay) : State :=
  match (s.injc n).run with
  | none => s
  | some r =>
    if !r.decay then s
    else
      let w := s.closeWin n r
      let off := if r.fast then 0 else r.lowOff w x
      let s := s.advanceTo (r.decayAt + off + (if !r.fast && decide (x.below ≤ off) then 0 else x.tail))
      let searched := !r.fast && hdrClose r.hdr && decide (w.1 < w.2) && decide (us w.1 < off)
      let found := if searched then (kinkIn x.volts (us w.1) (Nat.min (us w.2) off)).map fun t => (t + 500) / 1000 else none
      let s := match found with
        | some k => (s.setInjc n { s.injc n with closes := (k :: (s.injc n).closes).take 8, misses := 0 }).clearFault .VALVE_NOT_CLOSED n
        | none => if searched then
            let m := (s.injc n).misses + 1
            let s := s.setInjc n { s.injc n with misses := m }
            if m = 8 then (s.setFlag F.INJ_CH_EVT_NOT_CLOSED n).raise .VALVE_NOT_CLOSED n else s
          else s
      (s.endEvent n r.result (found.getD 0xFFFF)).bankCheck (bankOf n)

/-- ABORT of a channel's running and waiting events (R265). -/
def State.valveAbort (s : State) (n : Nat) : State :=
  let s := match (s.injc n).wait with
    | some ev => (s.setInjc n { s.injc n with wait := none }).valveResult n ev 4 0 0 0xFFFF
    | none => s
  (s.toDecay n 4 false).bankCheck (bankOf n)

/-- The channel's running event is truncated and its waiting event rejected (R285). -/
def State.valveCut (s : State) (n code : Nat) : State := (s.toDecay n 4 false).rejectWait n code
/-- The same, and its bank checks its other candidates (R269). -/
def State.valveStop (s : State) (n code : Nat) : State := (s.valveCut n code).bankCheck (bankOf n)
/-- Every channel stops. -/
def State.allValvesStop (s : State) (code : Nat) : State := s.each (List.range 24) fun s n => s.valveCut n code

/-- Every event of the bank ends and the bank latches (R279). -/
def State.hsbShort (s : State) (b : Nat) : State :=
  let s := (s.setFlag F.INJ_BANK_STAT_HSB_SHORT b).raise .HSB_SHORT b
  s.each (bankChs b) fun s n => (s.toDecay n 3 false).rejectWait n 10

/-- The rail of boost `x` becomes ready (R254, R275): waiting phases start; BOOST_NOT_READY and BOOST_START_FAIL end. -/
def State.boostReady (s : State) (x : Nat) : State :=
  let s := (s.setFlag F.INJ_BST_STAT_READY x).clearFault .BOOST_START_FAIL x
  let s : State := { s with inj := { s.inj with enAt := Tbl.del s.inj.enAt x } }
  s.each ((List.range 6).filter fun b => boostOf b == x) fun s b =>
    let s := s.clearFault .BOOST_NOT_READY b
    s.each (bankChs b) fun s n =>
      match (s.injc n).run with
      | some r => if r.waitBst.isSome then s.setInjc n { s.injc n with run := some { r with waitBst := none, phAt := s.now } } else s
      | none => s

/-- The corrected voltage of a boost rail, 0.1 V, is judged (R254): ready from 95 % of the target on while the boost switches. -/
def State.railVolt (s : State) (x v : Nat) : State :=
  let s := s.setFld F.INJ_BST_STAT_VOUT x (Nat.min 1023 v)
  if s.flag F.INJ_BST_STAT_RUN x && !s.flag F.INJ_BST_STAT_OV x && decide (95 * s.fld F.INJ_BST_CFG_VTGT x ≤ 100 * v) then s.boostReady x
  else s.setFlag F.INJ_BST_STAT_READY x false

/-- BOOST_WAIT of a phase elapses with the rail not ready (R275). -/
def State.boostWaitEnd (s : State) (n : Nat) : State :=
  match (s.injc n).run with
  | some r => match r.waitBst with
    | some t => ((s.advanceTo (t + s.bankBw (bankOf n))).bstFallback n).bankCheck (bankOf n)
    | none => s
  | none => s

/-- A direct command (R284): refused without an event outside Operate and Service or with a duration out of range. 0 taken,
1 refused for the mode, 2 for the duration. -/
def State.directCommand (s : State) (n last dur : Nat) : State × Nat :=
  if dur = 0 ∨ 1000000 < dur then (s.setFlag F.INJ_CH_EVT_CMD_REFUSED n, 2)
  else if !s.live then (s.setFlag F.INJ_CH_EVT_CMD_REFUSED n, 1)
  else (s.valveArrive n { ent := none, last := last, dur := dur, req := s.now }, 0)

/-- Release a short latch once no event of the channel runs (R278). -/
def State.coilClear (s : State) (n : Nat) : State :=
  if (s.injc n).latched ∧ (s.injc n).run.isNone then
    (s.setInjc n { s.injc n with latched := false }).clearFault .COIL_SHORT n
  else s

/-- The bank's feed became absent (R276): running events go to their end decay, and the bank checks its candidates (R269). -/
def State.bankFeedLost (s : State) (b : Nat) : State :=
  (s.each (bankChs b) fun s n => s.toDecay n 0 false).bankCheck b

end Sys2Proof.Machine
end

