-- ==== Sys2Proof/Machine/EventRun.lean ====
section
/-! DEFINITION. The event engine: acceptance (R292 to R298), commit (R299 to R301), delivery and abort (R302 to R305), clearance
(R306), and the prescription streams (R307 to R317). -/

namespace Sys2Proof.Machine

/-- Logical time is valid (R440). -/
def State.timeOk (s : State) : Bool := s.flag F.TIDE_STAT_VALID
/-- Entries that streams may fill (R298). -/
def State.streamRoom (s : State) : Nat := 4096 - 16 * s.fld F.EVE_CTRL_RESERVE

/-- Target, value and duration are refused with status BAD (R292). A valve's last is bits [4:0] of its value, and the other bits are not
judged. -/
def State.badEvent (s : State) (target value dur : Nat) : Bool :=
  dur == 0 || decide (1000000 < dur) ||
    if target < 64 then value == 0 || decide (4095 < value) || s.lead target != target
    else decide (88 ≤ target)

/-- The store is full (R298). -/
def State.storeFull (s : State) : State := (s.setFlag F.EVE_EVT_FULL).raise .EVE_STORE_FULL 0 [] (sec 1)

/-- Accept an event into the store; within the horizon it commits at once (R298, R299). `none` when no entry is free. -/
def State.accept (s : State) (e : EvEnt) : Option (Nat × State) :=
  if 4096 ≤ s.eve.store.length then none
  else
    let r := s.putEnt e
    let s' := if s.commitDue e then r.2.commit (r.1 % 4096) else r.2
    some (r.1, if 4096 ≤ s'.eve.store.length then s'.storeFull else s')

def State.eveRefuse (s : State) : State := (s.bump F.EVE_CNT1_REFUSED).setFlag F.EVE_EVT_REFUSED

/-- A direct command (R296): status 0 accepted, 1 LATE, 2 FULL, 3 TIME, 4 MODE, 5 BAD. Which status shows when several causes hold is
a design choice (log 10). -/
def State.eveDirect (s : State) (start target value dur : Nat) (asap : Bool) : State × Nat :=
  let now := s.logical
  let soon := (now + us 50) % 2 ^ 64
  let early := decide (diff64 start soon < 0)
  let start' := if early && asap then soon else start
  let st : Nat :=
    if !s.timeOk then 3
    else if !s.flag F.EVE_CTRL_EN || !s.live || s.isSafe .eve then 4
    else if s.badEvent target value dur || decide (((sec 100 : Nat) : Int) < diff64 start' now) then 5
    else if early && !asap then 1
    else 0
  if st ≠ 0 then ((s.eveRefuse).setFld F.EVE_CMD_RES_STATUS 0 st, st)
  else
    match s.accept { st := 1, gen := 0, target := target, value := value, dur := dur, start := start', src := 0, late := early } with
    | some (h, s') => ((s'.setFld F.EVE_CMD_RES_HANDLE 0 h).setFld F.EVE_CMD_RES_STATUS 0 0, 0)
    | none => ((s.storeFull.eveRefuse).setFld F.EVE_CMD_RES_STATUS 0 2, 2)

/-- EVE_CMD.GO with the start, target, value and duration of the EVE_CMD registers. -/
def State.eveGo (s : State) (asap : Bool) : State :=
  let t := (s.rd .EVE_CMD_TLO).toNat + (s.rd .EVE_CMD_THI).toNat * 2 ^ 32
  (s.eveDirect t (s.fld F.EVE_CMD_SPEC_TARGET) (s.fld F.EVE_CMD_SPEC_VALUE) (s.fld F.EVE_CMD_DUR_DUR) asap).1

/-- An event PDO, processed only in Operate (R296, R297). -/
def State.evePdo (s : State) (v : Nat) : State :=
  let now := s.logical
  let u := now / 1000
  let d := signed 32 ((v + 2 ^ 32 - u % 2 ^ 32) % 2 ^ 32)
  let start := unsigned 64 (((u : Int) + d) * 1000)
  let target := v / 2 ^ 32 % 128
  let value := v / 2 ^ 39 % 4096
  let dur := v / 2 ^ 51 % 8192 * 100
  if s.mode' != 4 || !s.timeOk || !s.flag F.EVE_CTRL_EN || s.isSafe .eve || s.badEvent target value dur ||
      decide (diff64 start ((now + us 50) % 2 ^ 64) < 0) then s.eveRefuse
  else
    match s.accept { st := 1, gen := 0, target := target, value := value, dur := dur, start := start, src := 1 } with
    | some (_, s') => s'
    | none => s.storeFull.eveRefuse

/-! ## Delivery -/

/-- A switch event in delivery ends (R303): the output returns to what governs it without the event. -/
def State.endSwitch (s : State) (n result : Nat) : State :=
  match s.swEv n with
  | some e =>
    let s := s.setEve { s.eve with sw := s.eve.sw.filter fun x => x.1 != n }
    (s.eveResult e.ent result 0xFFFF 0).refresh n
  | none => s

/-- Deliver a committed entry to its channel (R303 to R305, R365, R560). Its PWM periods count from the first switch tick at or after its
start (R302, R303). -/
def State.deliver (s : State) (i : Nat) : State :=
  match s.ent i with
  | none => s
  | some e =>
    let s := if e.late then s.setFlag F.EVE_EVT_LATE else s
    if e.aborted then s.eveResult i 4 0xFFFF 0
    else if e.target < 64 then
      let n := e.target
      let s := s.endSwitch n 14
      let quiet := s.anyHold n || (s.gov n).isSome || (s.reflexOn n).isSome || s.gateShut n || s.extracting || s.isSafe .boll
      let d : Drive := if e.value = 4095 then { mode := 1 }
        else { mode := 2, duty := e.value, period := s.fld F.SW_PWM_PERIOD n, phase := 0, anchor := some ((s.now - s.clk.g0 + 24) / 25) }
      let s := s.setEnt i { e with st := 3, ends := s.now + us e.dur, result := if quiet then 15 else 0 }
      let s := (s.setEve { s.eve with sw := (n, ⟨i, d, quiet⟩) :: s.eve.sw }).refresh n
      if !quiet && e.value != 4095 then s.periodStart n else s
    else
      (s.setEnt i { e with st := 3 }).valveArrive (e.target - 64) { ent := some i, last := e.value % 32, dur := e.dur, req := s.now }

/-- The end of a switch event's duration (R303). -/
def State.switchEnd (s : State) (n : Nat) : State :=
  match s.swEv n with
  | some e => match s.ent e.ent with
    | some x => (s.advanceTo x.ends).endSwitch n x.result
    | none => s
  | none => s

/-- A delivered event of entry `i` leaves its valve channel: a running one goes to its end decay (R265), a candidate of its bank ends with
result `code`; the bank checks its other candidates (R269). An event of another source on the channel goes on. -/
def State.valveLeave (s : State) (n i code : Nat) : State :=
  let waits := match (s.injc n).wait with | some w => w.ent == some i | none => false
  let runs := match (s.injc n).run with | some r => r.ev.ent == some i | none => false
  if waits then (s.rejectWait n code).bankCheck (bankOf n)
  else if runs then (s.toDecay n 4 false).bankCheck (bankOf n)
  else s

/-- ABORT of one entry (R301, R304): an entry whose commit is due commits first. -/
def State.abortEnt (s : State) (i : Nat) : State :=
  match s.ent i with
  | none => s
  | some e =>
    let due := e.st == 1 && s.commitDue e
    let s := if due then s.commit i else s
    if e.st = 1 ∧ !due then s.retract i
    else if e.st = 3 then
      if e.target < 64 then s.endSwitch e.target 4
      else s.valveLeave (e.target - 64) i 4
    else s.setEnt i { (if due then { e with st := 2 } else e) with aborted := true }

/-- ABORT by handle: true where the handle names an entry (R293, R304). -/
def State.eveAbort (s : State) (h : Nat) : State × Bool :=
  match s.byHandle h with
  | some (i, _) => (s.abortEnt i, true)
  | none => (s.setFld F.EVE_CMD_RES_STATUS 0 6, false)
def State.eveAbortAll (s : State) : State := s.each (s.eve.store.map (·.1)) fun s i => s.abortEnt i

/-- The store is cleared of every event (R306); an entry whose commit is due commits first (R301), and committed events that have not
started leave with result MODE. A delivered valve event is truncated, or leaves its bank's candidates with result MODE; an event of
INJ_CH_CMD is not in the store and goes on. -/
def State.clearStore (s : State) : State :=
  let s := s.each (s.eve.store.filter fun x => x.2.st == 1 && s.commitDue x.2) fun s x => s.commit x.1
  let s := s.retractAll fun _ => true
  s.each s.eve.store fun s x =>
    match s.ent x.1 with
    | none => s
    | some e =>
      if e.st = 2 then s.eveResult x.1 13 0xFFFF 0
      else if e.target < 64 then s.endSwitch e.target 4
      else s.valveLeave (e.target - 64) x.1 13

/-- A forward step of logical time has passed starts of committed events: they are delivered at once in the order of their starts, marked
LATE, and EVE_LATE_START is raised once for the step (R305). -/
def State.lateStarts (s : State) : State :=
  let due := s.eve.store.filter fun x => x.2.st == 2 && decide (0 < diff64 s.logical x.2.start)
  if due.isEmpty then s
  else
    let s := s.raise .EVE_LATE_START
    s.each (due.reverse.insertionSort fun a b => diff64 a.2.start b.2.start ≤ 0) fun s x => (s.setEnt x.1 { x.2 with late := true }).deliver x.1

/-! ## Streams -/

/-- 1/65,536 mm units that `um` µm make. -/
def odoUnits (um : Nat) : Nat := um * 65536 / 1000
/-- A stream as it stands now: with SRC 0 its odometer is extrapolated at v since the last pulse, never more than one pulse ahead (R307). -/
def State.strmNow (s : State) (t : Nat) : Strm :=
  let st := s.strm t
  if s.fld F.EVE_ST_CTRL_SRC t = 0 then
    let ahead := Nat.min (odoUnits (s.fld F.EVE_ST_SCALE_SCALE t)) (st.v * 65536 * (s.now - st.pulseAt) / 1000000000)
    { st with odo := (st.odo + ahead) % 2 ^ 48 }
  else st
/-- Odometer, modulo 2^48 units (R307, R309). -/
def Strm.x (t : Strm) : Nat := t.odo % 2 ^ 48
/-- Whole millimetres. -/
def Strm.mm (t : Strm) : Nat := t.x / 65536

/-- Signed difference of positions (R309). -/
def posDiff (a b : Nat) : Int := signed 32 ((a + 2 ^ 32 - b % 2 ^ 32) % 2 ^ 32)
/-- Signed way from the odometer to a position, 1/65,536 mm. -/
def Strm.way (t : Strm) (pos : Nat) : Int := signed 48 ((pos % 2 ^ 32 * 65536 + 2 ^ 48 - t.x) % 2 ^ 48)

/-- Predicted start in logical ns (R311), rounded to the nearest ns. -/
def State.predict (s : State) (t : Strm) (xev lead : Nat) : Nat :=
  unsigned 64 ((s.logical : Int) + roundDiv (t.way xev * 1000000000) (65536 * Nat.max t.v 1) - (lead * 1000 : Nat))
/-- Duration of a LENGTH dose (R311). -/
def lengthDur (mm v : Nat) : Nat := Nat.min 1000000 (Nat.max 1 (roundDiv ((mm * 1000000 : Nat) : Int) (Nat.max v 1)).toNat)

def State.vmin (s : State) (t : Nat) : Nat := 10 * s.fld F.EVE_ST_CFG2_VMIN t
/-- The stream may expand and re-time: v at or above VMIN and no SPEED_LOSS (R312, R314). -/
def State.moving (s : State) (t : Nat) : Bool := decide (s.vmin t ≤ (s.strm t).v) && !(s.strm t).loss

/-- The events of a record (R310): nozzle, predicted start, duration, trigger position, dose in mm. -/
def State.expand (s : State) (t : Nat) (r : Nat × Nat × Nat) : List EvEnt :=
  let st := s.strmNow t
  let amount := r.2.2 * s.fld F.EVE_ST_CFG2_DOSE_UNIT t
  let len := s.flag F.EVE_ST_CTRL_DOSE_MODE t
  if r.2.2 = 0 then []
  else (List.range 24).filterMap fun i =>
    let k := t * 24 + i
    if bitOf r.2.1 i && s.flag F.EVE_NZ_MAP_EN k then
      let xev := unsigned 32 ((r.1 : Int) + signed 16 (s.fld F.EVE_NZ_GEO_OFS k))
      let lead := s.fld F.EVE_NZ_GEO_LEAD k
      some { st := 1, gen := 0, target := s.fld F.EVE_NZ_MAP_TARGET k, value := s.fld F.EVE_NZ_MAP_VALUE k
             dur := if len then lengthDur amount st.v else Nat.min 1000000 (amount * 10)
             start := s.predict st xev lead, src := t + 2, xev := xev
             dose := if len then some amount else none, pos := r.1, lead := lead }
    else none

/-- Expand the oldest unexpanded record of a stream, if it may (R295, R312, R314, R32). -/
def State.expandRecord (s : State) (t : Nat) : State :=
  let st := s.strm t
  match st.recs with
  | [] => s
  | r :: rest =>
    let evs := s.expand t r
    let due := evs.isEmpty || evs.any fun e =>
      decide (diff64 e.start s.logical ≤ (ms (s.fld F.EVE_ST_CTRL_RUN_AHEAD t) : Nat))
    if !(s.flag F.EVE_ST_CTRL_OPEN t && s.clk.bDown.isNone && s.timeOk && s.flag F.EVE_CTRL_EN && s.live && !s.isSafe .eve && !s.extracting && s.moving t && due) then s
    else
      let keep := evs.filter fun e => !decide (diff64 e.start s.logical < (s.horizonNs : Nat))
      let good := keep.filter fun e => !s.badEvent e.target e.value e.dur
      if s.streamRoom < s.eve.store.length + good.length then
        if 4096 ≤ s.eve.store.length then s.storeFull else s
      else
        let dropped := evs.length - keep.length
        let s := (s.setStrm t { st with recs := rest }).bump F.EVE_ST_CNT_RECORDS t
        let s := s.each (List.range (keep.length - good.length)) fun s _ => s.eveRefuse
        let s := if dropped = 0 then s else
          ((s.bump F.EVE_ST_CNT_LATE_DROP t dropped).setFlag F.EVE_EVT_LATE_DROP).raise .RECORD_LATE t [] (sec 1)
        s.each good fun s e => match s.accept e with
          | some (_, s') => s'
          | none => s

/-- Re-time a SPECULATIVE entry of a stream (R313); one whose commit is due commits as it stands (R301). A start that is moved to
now + 50 µs raises EVE_LATE_START. -/
def State.retime (s : State) (t i : Nat) : State :=
  match s.ent i with
  | none => s
  | some e =>
   if s.commitDue e then s.commit i else
    let st := s.strmNow t
    let start := s.predict st e.xev e.lead
    let dur := match e.dose with
      | some mm => lengthDur mm st.v
      | none => e.dur
    let s := if 1000 ≤ (diff64 start e.start).natAbs then s.bump F.EVE_CNT0_RETIME else s
    if diff64 start ((s.logical + s.horizonNs) % 2 ^ 64) < 0 then
      let soon := (s.logical + us 50) % 2 ^ 64
      let early := decide (diff64 start soon < 0)
      let s := if early then s.raise .EVE_LATE_START else s
      (s.setEnt i { e with start := if early then soon else start, dur := dur, late := e.late || early }).commit i
    else s.setEnt i { e with start := start, dur := dur }

/-- Estimate of SRC 0 from the pulse times, mm/s (R307). -/
def pulseSpeed (pulses : List Nat) (scale now timeout : Nat) : Nat :=
  match pulses with
  | [] => 0
  | p :: rest =>
    if timeout ≤ now - p then 0
    else
      let near := (p :: rest).filter fun q => decide (now < q + ms 20)
      match near.getLast?, decide (2 ≤ near.length) with
      | some q, true => if p = q then 0 else scale * 1000000 * (near.length - 1) / (p - q)
      | _, _ => match rest with
        | q :: _ => if p = q then 0 else scale * 1000000 / (p - q)
        | [] => 0

/-- Estimate and odometer update of a stream, every 1 ms (R307, R313, R314, R316). -/
def State.speedUpdate (s : State) (t : Nat) : State :=
  let st := s.strm t
  let s := s.advanceTo (st.upd + ms 1)
  let scale := s.fld F.EVE_ST_SCALE_SCALE t
  let src := s.fld F.EVE_ST_CTRL_SRC t
  let v := if src = 0 then pulseSpeed st.pulses scale s.now (ms 10 * s.fld F.EVE_ST_CFG2_TIMEOUT t) else if st.loss then 0 else st.v
  let st := if src = 0 then { st with v := v, upd := s.now }
    else { st with v := v, odo := (st.odo + v * 65536 / 1000) % 2 ^ 48, upd := s.now }
  let s := (s.setStrm t st).setFld F.EVE_ST_SPEED_SPEED t v
  let s := if s.moving t then
      s.each (s.eve.store.filter fun x => x.2.st == 1 && x.2.src == t + 2) fun s x => s.retime t x.1
    else s.retractAll fun e => e.src == t + 2
  match st.newest with
  | some p =>
    if s.flag F.EVE_ST_CTRL_OPEN t && s.moving t && decide (posDiff p (s.strmNow t).mm < 0) && !st.under then
      ((s.setStrm t { s.strm t with under := true }).setFlag F.EVE_EVT_UNDERRUN).raise .STREAM_UNDERRUN t
    else s
  | none => s

/-- No speed message or write for TIMEOUT (R308). -/
def State.speedLoss (s : State) (t : Nat) : State :=
  if s.fld F.EVE_ST_CTRL_SRC t = 0 ∨ (s.strm t).loss then s
  else
    let s := s.advanceTo ((s.strm t).last + ms 10 * s.fld F.EVE_ST_CFG2_TIMEOUT t)
    let s := (s.setStrm t { s.strm t with loss := true, v := 0 }).setFld F.EVE_ST_SPEED_SPEED t 0
    ((s.setFlag F.EVE_EVT_SPEED_LOSS).raise .SPEED_LOSS t).retractAll fun e => e.src == t + 2

/-- A valid speed message or write of `v` mm/s (R307, R308); a negative value counts as 0. -/
def State.speedIn (s : State) (t : Nat) (v : Int) : State :=
  let v := v.toNat
  ((s.setStrm t { s.strm t with v := v, last := s.now, loss := false }).setFld F.EVE_ST_SPEED_SPEED t v).clearFault .SPEED_LOSS t

/-- A pulse of counter input `k` (R307). -/
def State.streamPulse (s : State) (k : Nat) : State :=
  s.each (List.range 8) fun s t =>
    if s.fld F.EVE_ST_CTRL_SRC t = 0 ∧ s.fld F.EVE_ST_CTRL_DI t = k then
      let st := s.strm t
      s.setStrm t { st with odo := (st.odo + odoUnits (s.fld F.EVE_ST_SCALE_SCALE t)) % 2 ^ 48, pulseAt := s.now, pulses := (s.now :: st.pulses).take 512 }
    else s

/-- Set the odometer (R307). -/
def State.setOdo (s : State) (t mm : Nat) : State :=
  (s.setStrm t { s.strm t with odo := mm % 2 ^ 32 * 65536, pulseAt := s.now }).setFld F.EVE_ST_ODO_ODO t mm

/-- Append a record (R315, R316, R321): true where it was taken. -/
def State.addRecord (s : State) (t v : Nat) : State × Bool :=
  let st := s.strm t
  let pos := v % 2 ^ 32
  if !s.flag F.EVE_ST_CTRL_OPEN t || !s.live || s.clk.bDown.isSome then (s, false)
  else if 256 ≤ st.recs.length then (s.raise .STREAM_OVERFLOW t, false)
  else
    let back := match st.newest with
      | some p => decide (posDiff pos p ≤ 0)
      | none => false
    let s := if back then s.retractAll fun e => e.src == t + 2 && decide (0 ≤ posDiff e.pos pos) else s
    let keep := if back then st.recs.filter fun r => decide (posDiff r.1 pos < 0) else st.recs
    let s := s.bump F.EVE_ST_CNT_SUPERSEDE t (st.recs.length - keep.length)
    let ahead := decide (0 ≤ posDiff pos (s.strmNow t).mm)
    let s := s.setStrm t { s.strm t with recs := keep ++ [(pos, v / 2 ^ 32 % 2 ^ 24, v / 2 ^ 56 % 256)], newest := some pos
                                         under := (s.strm t).under && !ahead }
    (if ahead then s.clearFault .STREAM_UNDERRUN t else s, true)

/-- Close a stream (R317). -/
def State.closeStream (s : State) (t : Nat) : State :=
  let s := s.retractAll fun e => e.src == t + 2
  s.setStrm t { s.strm t with recs := [], newest := none, under := false }

end Sys2Proof.Machine
end

