-- ==== Sys2Proof/Machine/Tide.lean ====
section
/-! DEFINITION. Network time (R435 to R460): rate and step, sources and their choice, the servo, holdover, gPTP and best master
selection, compare units, AON retention. -/

namespace Sys2Proof.Machine

/-! ## Anchor (R436 to R438) -/

/-- The anchor at the present counter value under the rate in force: integer part and remainder of the floor (R437). -/
def State.reanchor (s : State) : State :=
  let c := s.counter
  let d := c - s.tide.f
  let x : Int := (s.tide.fr : Int) + 4 * (d : Int) * signed 32 (s.rd .TIDE_RATE).toNat
  let q : Int := ((2 ^ 40 : Nat) : Int)
  s.setTide { s.tide with f := c, a := unsigned 64 ((s.tide.a : Int) + 4 * (d : Int) + x / q), fr := (x % q).toNat }

/-- A change of rate re-anchors; it never moves logical time (R437). -/
def State.setRate (s : State) (r : Int) : State := s.reanchor.setFld F.TIDE_RATE_RATE 0 (unsigned 32 r)

/-- A step adds to A (R438). -/
def State.stepAnchor (s : State) (d : Int) : State := s.setTide { s.tide with a := unsigned 64 ((s.tide.a : Int) + d) }

/-- A step; committed events that a forward step passes are delivered late (R438, R305). -/
def State.stepBy (s : State) (d : Int) : State := if 0 < d then (s.stepAnchor d).lateStarts else s.stepAnchor d

/-- A step that is reported: TIDE_EVT.STEP and TIDE_STEP with its size (R444, R447). -/
def State.stepReport (s : State) (d : Int) : State :=
  let u := unsigned 64 d
  (s.setFlag F.TIDE_EVT_STEP).raise .TIDE_STEP 0 [u % 2 ^ 32, u / 2 ^ 32]

/-- Logical time becomes valid (R440). -/
def State.validate (s : State) : State := s.setFlag F.TIDE_STAT_VALID

def State.endCoarse (s : State) : State :=
  if s.flag F.TIDE_STAT_COARSE then
    ((s.setFlag F.TIDE_STAT_COARSE 0 false).setFld F.TIDE_STAT_UNC 0 0).setFlag F.TIDE_EVT_COARSE_END
  else s

/-- Logical time is set to `t` now (R444): the fraction is dropped, the rate stays. -/
def State.setLogical (s : State) (t : Nat) : State :=
  s.setTide { s.tide with f := s.counter, a := t % 2 ^ 64, fr := 0 }

/-- The true time of an AON edge. -/
def aonEdge (tick : Nat) : Nat := (tick * 1000000000 + 32767) / 32768
/-- The first AON edge at or after a true time. -/
def aonAfter (t : Nat) : Nat := (t * 32768 + 999999999) / 1000000000

/-- The first 64 s window of R459 begins at the next AON edge once logical time is valid and not COARSE. -/
def State.winOpen (s : State) : State :=
  if s.flag F.TIDE_STAT_VALID && !s.flag F.TIDE_STAT_COARSE && s.tide.winAt.isNone then
    let k := aonAfter s.now
    s.setTide { s.tide with winAt := some (k, s.logicalAt ((aonEdge k - s.tide.epoch) / 4)) }
  else s

/-! ## Sources (R442) -/

def State.tideState (s : State) : Nat := s.fld F.TIDE_STAT_STATE
def State.syncNs (s : State) : Nat := 1000000000 / 2 ^ s.fld F.TIDE_PTP_CFG_SYNC_EXP
def State.ptpRole (s : State) (p : Nat) : Nat := s.fld F.TIDE_PTP_STAT_ROLE / 4 ^ p % 4
def State.slavePort (s : State) : Option Nat := [0, 1, 2, 3].find? fun p => s.ptpRole p == 2

/-- When source `c` stops being usable for want of a message or an edge (R442): 3 sync intervals after the last Sync, 1.5 s after the last PPS
edge. -/
def State.srcEnd (s : State) (c : Nat) : Option Nat :=
  if c = 1 then s.slavePort.bind fun p => (s.ptp p).synAt.map fun t => t + 3 * s.syncNs
  else if c = 10 then s.tide.ppsAt.map fun t => t + ms 1500
  else none

/-- A source of R442 is usable. At the very end of its 3 intervals or 1.5 s it no longer is (DESIGN CHOICE, log 97). -/
def State.srcUsable (s : State) (c : Nat) : Bool :=
  if c = 1 then
    match s.srcEnd 1 with | some t => decide (s.now < t) | none => false
  else if c ≤ 9 ∧ 2 ≤ c then s.flag F.CAN_TT_STAT_SYNC (c - 2) && s.fld F.CAN_TT_STAT_ROLE (c - 2) == 1
  else if c = 10 then
    !s.isSafe .dioPps && s.flag F.TIDE_STAT_VALID &&
      (match s.srcEnd 10 with | some t => decide (s.now < t) | none => false)
  else false

/-- Slot and code of the highest-ranked usable source; none while MANUAL, safe or without the TIDE clock. -/
def State.bestSource (s : State) : Option (Nat × Nat) :=
  if s.flag F.TIDE_CTRL_MANUAL || s.isSafe .tide || !s.tideRuns then none
  else
    let w := (s.rd .TIDE_SRC).toNat
    ((List.range 4).map fun k => (k, w / 16 ^ k % 16)).find? fun x => s.srcUsable x.2

/-- The source in use, 0 for none. -/
def State.activeSrc (s : State) : Nat := s.fld F.TIDE_STAT_ACTIVE

/-- A change of the source in use (R442), with the state that follows: set, journalled (R40), and its first measurement is a first one
(R447). -/
def State.useSource (s : State) (slot c st : Nat) : State :=
  let s := ((s.setFld F.TIDE_STAT_ACTIVE 0 c).setFld F.TIDE_STAT_SLOT 0 slot).setFld F.TIDE_STAT_STATE 0 st
  let s := s.setTide { s.tide with fresh := true, lastMeas := none, below := 0, above4 := 0, big := 0 }
  let s := s.setFlag F.TIDE_EVT_SRC_CHANGE
  s.negotiated 5 0 (s.rd .TIDE_STAT).toNat

/-- Rate of the servo's estimate (R450). -/
def rateOf (x : Rat) : Int := (x * 2 ^ 40 + 1 / 2).floor

/-- Holdover at the servo's estimate (R450, R70). That no source is in use any more is a change of the source in use (R442). -/
def State.holdover (s : State) : State :=
  let s := if s.activeSrc = 0 then s else s.useSource 0 0 4
  let s := (s.setRate (rateOf s.tide.acc)).setFld F.TIDE_STAT_STATE 0 4
  (s.setTide { s.tide with holdAt := s.now, fresh := true, lastMeas := none }).setFlag F.TIDE_EVT_HOLDOVER

/-- Choose the source (R442, R450): the highest-ranked usable one; with none left the one in use is lost. Under MANUAL the state is
FREE or INVALID (R444). -/
def State.chooseSource (s : State) : State :=
  match s.bestSource with
  | some (k, c) =>
    let s := (s.clearFault .TIDE_SRC_LOSS).clearFault .TIDE_HOLD_LONG
    if s.activeSrc = c then s.setFld F.TIDE_STAT_SLOT 0 k else s.useSource k c (if s.flag F.TIDE_STAT_VALID then 2 else 0)
  | none =>
    if s.activeSrc = 0 then
      if s.flag F.TIDE_CTRL_MANUAL && s.tideState == 4 then s.setFld F.TIDE_STAT_STATE 0 1 else s
    else if s.flag F.TIDE_CTRL_MANUAL then
      s.useSource 0 0 (if s.flag F.TIDE_STAT_VALID then 1 else 0)
    else if !s.flag F.TIDE_STAT_VALID then s.useSource 0 0 0
    else s.holdover.raise .TIDE_SRC_LOSS

/-- The source in use is lost (R442, R450): at once where it is no longer usable, else at the end of its time without a message or an edge. -/
def State.sourceLoss (s : State) : State :=
  let t := if s.srcUsable s.activeSrc then (s.srcEnd s.activeSrc).getD s.now else s.now
  (s.advanceTo t).chooseSource

/-- The TIDE clock is lost or off (R21, R440): the counter stands, logical time is not valid, no source is in use. -/
def State.tideStop (s : State) : State :=
  let s := s.setTide { s.tide with stopped := some s.counter, fresh := true, lastMeas := none, winAt := none }
  let s := ((s.setFlag F.TIDE_STAT_VALID 0 false).setFlag F.TIDE_STAT_COARSE 0 false).setFld F.TIDE_STAT_UNC 0 0
  ((s.setFld F.TIDE_STAT_STATE 0 0).setFld F.TIDE_STAT_ACTIVE 0 0).setFld F.TIDE_STAT_SLOT 0 0

/-- HOLD_LIMIT in HOLDOVER: FREE (R452). -/
def State.holdLong (s : State) : State :=
  if s.tideState ≠ 4 ∨ s.isSafe .tide ∨ !s.tideRuns then s
  else
    let s := s.advanceTo (s.tide.holdAt + sec (s.fld F.TIDE_HOLD_HOLD_LIMIT))
    ((s.setFld F.TIDE_STAT_STATE 0 1).setFlag F.TIDE_EVT_HOLD_LONG).raise .TIDE_HOLD_LONG

/-! ## The servo (R443 to R449) -/

def lockThr (c : Nat) : Nat := if c = 1 then 100 else if c = 10 then 250 else 1000

def clampQ (m x : Rat) : Rat := if x < -m then -m else if m < x then m else x

/-- One servo step with measured offset `o` (R445). -/
def State.servo (s : State) (o : Int) : State :=
  let dt : Int := match s.tide.lastMeas with
    | some t => Max.max 1 (diff64 s.logical t)
    | none => 125000000
  let q : Rat := (o : Rat) / (dt : Rat)
  let rmax : Rat := (s.fld F.TIDE_SERVO_RATE_MAX : Rat) / 1000000
  let acc := clampQ rmax (s.tide.acc + (s.fld F.TIDE_CTRL_KI : Rat) / 256 * q)
  let rate := clampQ rmax (acc + (s.fld F.TIDE_CTRL_KP : Rat) / 256 * q)
  (s.setTide { s.tide with acc := acc }).setRate (rateOf rate)

/-- Count a measurement towards the lock conditions (R449). -/
def State.lockCount (s : State) (o : Int) : State :=
  let thr := lockThr s.activeSrc
  let t := s.tide
  let below := if o.natAbs < thr then t.below + 1 else 0
  let above := if 4 * thr ≤ o.natAbs then t.above4 + 1 else 0
  let change (s : State) (st : Nat) :=
    ((s.setTide { s.tide with below := 0, above4 := 0, big := 0 }).setFld F.TIDE_STAT_STATE 0 st).setFlag F.TIDE_EVT_LOCK
  let s := s.setTide { t with below := below, above4 := above }
  if s.tideState = 2 ∧ 8 ≤ below then change s 3
  else if s.tideState = 3 ∧ 4 ≤ above then change s 2
  else s

/-- A measurement of source `c` (R442 to R448): it counts only while `c` is the source in use after the choice. -/
def State.measurement (s : State) (c : Nat) (o : Int) : State :=
  let s := s.chooseSource
  if s.activeSrc ≠ c then s
  else
    let s := s.setFld F.TIDE_OFS_OFS 0 (satSigned 32 o)
    let thr := us (s.fld F.TIDE_SERVO_STEP_THR)
    let isBig := decide (thr ≤ o.natAbs)
    let big := if isBig then s.tide.big + 1 else 0
    let first := s.tide.fresh || s.flag F.TIDE_STAT_COARSE
    let doStep := first || (s.tideState == 2 && isBig) || (s.tideState == 3 && decide (3 ≤ big))
    let s := s.setTide { s.tide with big := if doStep then 0 else big, fresh := false }
    let s := if s.flag F.TIDE_STAT_VALID then s else s.validate.setFld F.TIDE_STAT_STATE 0 2
    let s := s.endCoarse
    let s := if doStep then (s.stepBy o).stepReport o else s.servo o
    let s := if first then s else s.lockCount o
    (s.setTide { s.tide with lastMeas := some s.logical }).winOpen

/-! ## Manual steering (R444) and self validation (R440) -/

def State.manualOk (s : State) : Bool := s.flag F.TIDE_CTRL_MANUAL && !s.isSafe .tide && s.tideRuns
def State.tideRefuse (s : State) : State := s.setFlag F.TIDE_EVT_REFUSED

def State.manualRate (s : State) (r : Nat) : State × Bool :=
  if s.manualOk then (s.setRate (signed 32 r), false) else (s.tideRefuse, true)

def State.manualStep (s : State) (v : Nat) : State × Bool :=
  if s.manualOk then ((s.stepBy (signed 64 v)).stepReport (signed 64 v), false) else (s.tideRefuse, true)

def State.manualSet (s : State) (v : Nat) : State × Bool :=
  if s.manualOk then
    let jump := diff64 v s.logical
    let was := s.flag F.TIDE_STAT_VALID
    let s := (s.setLogical v).validate.endCoarse
    let s := if s.tideState = 0 then s.setFld F.TIDE_STAT_STATE 0 1 else s
    let s := if was && decide (0 < jump) then s.lateStarts else s
    ((if was then s.stepReport jump else s).winOpen, false)
  else (s.tideRefuse, true)

/-- 1 s after Boot with SELF_VALID 1 at that instant and no other way: valid at 0 (R440). -/
def State.selfValid (s : State) : State :=
  if s.flag F.TIDE_STAT_VALID || !s.flag F.TIDE_CTRL_SELF_VALID || s.mode' < 3 || s.isSafe .tide || !s.tideRuns ||
    decide (s.mode.bootEndAt + sec 1 < s.tide.selfAt) then s
  else
    let s := s.advanceTo (s.mode.bootEndAt + sec 1)
    (((s.setLogical 0).validate).setFld F.TIDE_STAT_STATE 0 (if s.activeSrc = 0 then 1 else 2)).winOpen

/-! ## PPS (R348, R443) -/

/-- An edge of DI46, stamped `ago` before now; FALL selects which edge counts. -/
def State.ppsEdge (s : State) (rising : Bool) (ago : Nat) : State :=
  if !s.flag F.DIO_PPS_CFG_EN || rising == s.flag F.DIO_PPS_CFG_FALL || s.isSafe .dioPps || !s.tideRuns then s
  else
    let t := s.stampAgo ago
    let s := (s.setFld F.DIO_PPS_TLO_T 0 t).setFld F.DIO_PPS_THI_T 0 (t / 2 ^ 32)
    let s := s.setTide { s.tide with ppsAt := some s.now }
    let o := roundDiv t 1000000000 * 1000000000 - (t : Int)
    if s.flag F.TIDE_STAT_VALID && decide (o.natAbs ≤ 500000000) then s.measurement 10 o else s

/-! ## CAN reference messages as a source (R443) -/

/-- A reference message on CANn carries master time `m` (56 bits; all ones for none) for the SOF of the previous one; its own SOF stamp is
`sof`. -/
def State.canMeasure (s : State) (n m sof : Nat) : State :=
  let prev := lookup n s.tide.refAt
  let s := s.setTide { s.tide with refAt := assoc n sof s.tide.refAt }
  match prev with
  | some p => if m = 2 ^ 56 - 1 then s.chooseSource else s.measurement (n + 2) (signed 56 ((m + 2 ^ 56 - p % 2 ^ 56) % 2 ^ 56))
  | none => s.chooseSource

/-! ## gPTP (R454 to R456) -/

/-- The module's clockIdentity: the MAC address of ETH0 as EUI-64. -/
def clockId : Nat := (Config.macEth0 / 2 ^ 24 % 2 ^ 24) * 2 ^ 40 + 0xFFFE * 2 ^ 24 + Config.macEth0 % 2 ^ 24

/-- A port takes part in gPTP (R455). -/
def State.ptpOn (s : State) (p : Nat) : Bool :=
  s.bit F.TIDE_PTP_CFG_PORT_EN 0 p && s.flag F.ETH_PCTRL_EN p && !s.isSafe .tide && s.ethLink p && s.tideRuns

/-- A system identity with its time path as one number, compared as IEEE 802.1AS compares: root identity, steps, source port. -/
def ptpVec (root steps srcId srcPort : Nat) : Nat := ((root * 2 ^ 16 + steps) * 2 ^ 64 + srcId) * 2 ^ 16 + srcPort
def vecRoot (v : Nat) : Nat := v / 2 ^ 96
def vecSteps (v : Nat) : Nat := v / 2 ^ 80 % 2 ^ 16
/-- The root of a system: priority1, class, accuracy, variance, priority2, identity. -/
def ptpRoot (p1 cls acc var p2 id : Nat) : Nat := ((((p1 * 2 ^ 8 + cls) * 2 ^ 8 + acc) * 2 ^ 16 + var) * 2 ^ 8 + p2) * 2 ^ 64 + id

def State.ownRoot (s : State) : Nat :=
  ptpRoot (s.fld F.TIDE_PTP_CFG_PRIO1) 248 0xFE 0x4E5D (s.fld F.TIDE_PTP_CFG_PRIO2) clockId

/-- The best port vector as its path reaches this system: its port and the vector with one more step. -/
def State.bestPort (s : State) : Option (Nat × Nat) :=
  ([0, 1, 2, 3].filter fun p => s.ptpOn p && s.bit F.TIDE_PTP_STAT_AS_CAP 0 p).foldl (fun b p =>
    match (s.ptp p).best with
    | some (v, _) =>
      let v := v + 2 ^ 80
      (match b with
        | some (_, w) => if v < w then some (p, v) else b
        | none => some (p, v))
    | none => b) none

/-- Port roles, grandmaster and steps by best master selection (R454 to R456). A module with PRIO1 255 is not grandmaster-capable. -/
def State.ptpRoles (s : State) : State :=
  let on p := s.ptpOn p && s.bit F.TIDE_PTP_STAT_AS_CAP 0 p
  let capable := s.fld F.TIDE_PTP_CFG_PRIO1 != 255
  let own := ptpVec s.ownRoot 0 clockId 0
  let best := match s.bestPort with
    | some (p, v) => if capable && decide (own < v) then none else some (p, v)
    | none => none
  let gmVec := match best with | some (_, v) => v | none => own
  let role p : Nat :=
    if !on p then 0
    else match best with
      | some (q, v) =>
        if p = q then 2
        else match (s.ptp p).best with
          | some (w, _) => if ptpVec (vecRoot v) (vecSteps v) clockId (p + 1) < w then 1 else 3
          | none => 1
      | none => 1
  let any := [0, 1, 2, 3].any on
  let gm := any && best.isNone && capable
  let id := if any && (best.isSome || capable) then vecRoot gmVec % 2 ^ 64 else 0
  let old := s.fld F.TIDE_GM_LO_ID + 2 ^ 32 * s.fld F.TIDE_GM_HI_ID
  let s := s.setFld F.TIDE_PTP_STAT_ROLE 0 (role 0 + 4 * role 1 + 16 * role 2 + 64 * role 3)
  let s := s.setFld F.TIDE_PTP_STAT_STEPS 0 (if best.isSome then Nat.min 255 (vecSteps gmVec) else 0)
  let s := s.setFlag F.TIDE_STAT_GM 0 gm
  let s := (s.setFld F.TIDE_GM_LO_ID 0 id).setFld F.TIDE_GM_HI_ID 0 (id / 2 ^ 32)
  if id ≠ old then (s.setFlag F.TIDE_EVT_GM_CHANGE).raise .TIDE_GM_CHANGE 0 [id % 2 ^ 32, id / 2 ^ 32] else s

/-- Best master selection, and the choice of the source that follows from it (R442, R454). -/
def State.bmca (s : State) : State := s.ptpRoles.chooseSource

/-- An Announce on port `p` (R454): root, steps, source port identity; 255 steps or more are discarded. -/
def State.announceIn (s : State) (p root steps srcId srcPort : Nat) : State :=
  if !s.ptpOn p || 255 ≤ steps || srcId == clockId then s
  else (s.setPtp p { s.ptp p with best := some (ptpVec root steps srcId srcPort, s.now) }).bmca

/-- Three Announce intervals without one on the port (R455). -/
def State.announceOut (s : State) (p : Nat) : State :=
  match (s.ptp p).best with
  | some (_, t) => ((s.advanceTo (t + sec 3)).setPtp p { s.ptp p with best := none }).bmca
  | none => s

/-- A Sync on the slave port (R443): origin and correction (2^-16 ns), received `ago` before now. -/
def State.syncIn (s : State) (p origin : Nat) (corr : Int) (ago : Nat) : State :=
  if !s.ptpOn p || s.ptpRole p != 2 then s
  else
    let pp := s.ptp p
    let s := s.setPtp p { pp with synAt := some s.now }
    let delay : Int := s.fld F.TIDE_PDELAY_DELAY p
    let scaled : Int := corr * 2 ^ 25 + delay * (2 ^ 41 + pp.ratio)
    s.measurement 1 ((origin : Int) + roundDiv scaled (2 ^ 41) - (s.stampAgo ago : Int))

/-- The common header of a gPTP message (IEEE 802.1AS) with its Ethernet header. -/
def ptpHead (type len seq port ctrl logInt : Nat) : List Byte :=
  beBytes 6 0x0180C200000E ++ beBytes 6 Config.macEth0 ++ beBytes 2 0x88F7 ++
    beBytes 1 (0x10 + type) ++ beBytes 1 2 ++ beBytes 2 len ++ beBytes 1 0 ++ beBytes 1 0 ++ beBytes 2 0x0008 ++
    beBytes 8 0 ++ beBytes 4 0 ++ beBytes 8 clockId ++ beBytes 2 (port + 1) ++ beBytes 2 seq ++ beBytes 1 ctrl ++ beBytes 1 logInt

def State.nextSeq (s : State) (p : Nat) : State := s.setPtp p { s.ptp p with seq := ((s.ptp p).seq + 1) % 65536 }

/-- Announce is sent on a port, 1 s after the last one (R455). -/
def State.announceSend (s : State) (p : Nat) : State :=
  if !s.ptpOn p || s.ptpRole p != 1 then s
  else
    let s := s.advanceTo (match (s.ptp p).annTx with | some t => t + sec 1 | none => s.now)
    let s := s.setPtp p { s.ptp p with annTx := some s.now }
    let root := match s.bestPort with
      | some (_, v) => if s.flag F.TIDE_STAT_GM then s.ownRoot else vecRoot v
      | none => s.ownRoot
    let body := beBytes 10 0 ++ beBytes 2 0 ++ beBytes 1 0 ++ beBytes 1 (root / 2 ^ 104) ++ beBytes 4 (root / 2 ^ 72) ++
      beBytes 1 (root / 2 ^ 64) ++ beBytes 8 root ++ beBytes 2 (s.fld F.TIDE_PTP_STAT_STEPS) ++ beBytes 1 0xA0
    (s.ptpSend p (ptpHead 11 64 (s.ptp p).seq p 5 0 ++ body) 0).nextSeq p

/-- Sync is sent on a master port, a sync interval after the last one: one-step, its origin written on the fly (R430, R455, R456). Logical time
must be valid. -/
def State.syncSend (s : State) (p : Nat) : State :=
  if !s.ptpOn p || s.ptpRole p != 1 || !s.flag F.TIDE_STAT_VALID then s
  else
    let s := s.advanceTo (match (s.ptp p).syncTx with | some t => t + s.syncNs | none => s.now)
    let s := s.setPtp p { s.ptp p with syncTx := some s.now }
    (s.ptpSend p (ptpHead 0 44 (s.ptp p).seq p 0 (256 - s.fld F.TIDE_PTP_CFG_SYNC_EXP) ++ ptpStamp s.logical) 2).nextSeq p

/-- Pdelay_Req is sent, 1 s after the last one (R455): one more request is unanswered if the last one was not answered. -/
def State.pdelaySend (s : State) (p : Nat) : State :=
  if !s.ptpOn p then s
  else
    let s := s.advanceTo (match (s.ptp p).pdTx with | some t => t + sec 1 | none => s.now)
    let pp := s.ptp p
    let s := s.setPtp p
      { pp with lost := if pp.waiting then pp.lost + 1 else pp.lost, waiting := true, reqSeq := pp.seq, reqAt := s.logical, pdTx := some s.now }
    (s.ptpSend p (ptpHead 2 54 pp.seq p 5 0 ++ ptpStamp 0 ++ beBytes 10 0) 1).nextSeq p

/-- A Pdelay request of port identity `srcId`, `srcPort`, received `ago` before now, is answered at once (R454): one-step response with the
turnaround written on the fly. -/
def State.pdelayReq (s : State) (p seq srcId srcPort ago : Nat) : State :=
  if s.ptpOn p then
    s.ptpSend p (ptpHead 3 54 seq p 5 0 ++ ptpStamp (s.stampAgo ago) ++ beBytes 8 srcId ++ beBytes 2 srcPort) 3
  else s

/-- A Pdelay response to the last request: `t2` and `t3` of the partner, received `ago` before now. The mean link delay and the neighbour
rate ratio follow IEEE 802.1AS; the port is asCapable up to 800 ns (R454). -/
def State.pdelayResp (s : State) (p seq t2 t3 ago : Nat) : State :=
  let pp := s.ptp p
  if !s.ptpOn p || !pp.waiting || pp.reqSeq != seq then s
  else
    let t4 := s.stampAgo ago
    let ratio : Int := match pp.prev with
      | some (u3, u4) =>
        if 0 < diff64 t4 u4 then roundDiv (diff64 t3 u3 * 2 ^ 41) (diff64 t4 u4).toNat - 2 ^ 41 else pp.ratio
      | none => pp.ratio
    let round : Int := roundDiv (diff64 t4 pp.reqAt * (2 ^ 41 + ratio)) (2 ^ 41)
    let delay := roundDiv (round - diff64 t3 t2) 2
    let ok := decide (delay ≤ 800)
    let s := s.setPtp p { pp with lost := 0, waiting := false, prev := some (t3, t4), ratio := ratio }
    let s := s.setFld F.TIDE_PDELAY_DELAY p (clamp 0 (2 ^ 24 - 1) delay).toNat
    (s.setBit F.TIDE_PTP_STAT_AS_CAP 0 p ok).bmca

/-- More than three Pdelay requests in a row were lost: the port is no longer asCapable (R454). The last of them is lost when the interval to
the next request ends. -/
def State.pdelayLost (s : State) (p : Nat) : State :=
  let pp := s.ptp p
  if 3 < pp.lost then (s.setBit F.TIDE_PTP_STAT_AS_CAP 0 p false).bmca
  else if pp.waiting && decide (3 ≤ pp.lost) then
    ((s.advanceTo (pp.pdTx.getD s.now + sec 1)).setBit F.TIDE_PTP_STAT_AS_CAP 0 p false).bmca
  else s

/-! ## Compare units (R457, R458) -/

def State.target (s : State) (u : Nat) : Nat := s.fld F.TIDE_CMP_TLO_T u + 2 ^ 32 * s.fld F.TIDE_CMP_THI_T u

/-- Unit `u` fires in the first cycle in which its target is reached. -/
def State.compareFire (s : State) (u : Nat) : State :=
  if !s.flag F.TIDE_CMP_CTRL_EN u || !s.flag F.TIDE_STAT_VALID then s
  else
    let s := s.reach (s.target u)
    let late := diff64 s.logical (s.target u)
    let per := s.fld F.TIDE_CMP_PER_PER u
    let s := s.setBit F.TIDE_CMP_FLAG_FLAG 0 u
    let s := if per = 0 then s.setFlag F.TIDE_CMP_CTRL_EN u false
      else
        let k := late.toNat / per + 1
        let t := (s.target u + k * per) % 2 ^ 64
        ((s.setFld F.TIDE_CMP_TLO_T u t).setFld F.TIDE_CMP_THI_T u (t / 2 ^ 32)).bump F.TIDE_CMP_CTRL_MISS u (k - 1)
    if s.flag F.TIDE_CMP_CTRL_JNL u then s.raise .TIDE_CMP u else s

/-! ## AON retention (R459, R460) -/

/-- A 64 s window ends: the corrected AON period is kept (R459). -/
def State.aonWindow (s : State) : State :=
  if !s.flag F.TIDE_STAT_VALID || s.flag F.TIDE_STAT_COARSE then s.setTide { s.tide with winAt := none }
  else
    match s.tide.winAt with
    | none => s.winOpen
    | some (k, l) =>
      let s := s.advanceTo (aonEdge (k + 64 * 32768))
      let d := (diff64 s.logical l).toNat
      s.setTide { s.tide with period := d * 1000000 / (64 * 32768), winAt := some (k + 64 * 32768, s.logical) }

/-- Sleep commit and module reset write AON retention at the next AON edge (R460). -/
def State.tideKeep (s : State) : State :=
  if !s.flag F.TIDE_STAT_VALID then s.setTide { s.tide with retained := none }
  else
    let k := aonAfter s.now
    let kept : TideKept := ⟨s.logicalAt ((aonEdge k - s.tide.epoch) / 4), k, s.tide.acc, s.tide.period⟩
    s.setTide { s.tide with retained := some kept }

/-- The TIDE domain is released: logical time resumes from retention as FREE and COARSE, or starts INVALID (R460). The registers of the
domain hold their reset values. -/
def State.tideResume (s : State) : State :=
  let s := s.setTide { ({} : TideSt) with epoch := s.now, period := s.tide.period, retained := s.tide.retained }
  match s.tide.retained with
  | none => s
  | some r =>
    let k := aonAfter s.now
    let past := k - r.ticks
    let t := (r.time + past * r.period / 1000000) % 2 ^ 64
    let unc := 31 + (past * r.period / 1000000 * 5 + 999999999) / 1000000000
    let s := s.setTide { s.tide with f := (aonEdge k - s.now) / 4, a := t, fr := 0, acc := r.acc, retained := none }
    let s := (s.setFld F.TIDE_RATE_RATE 0 (unsigned 32 (rateOf r.acc))).validate
    ((s.setFld F.TIDE_STAT_STATE 0 1).setFlag F.TIDE_STAT_COARSE).setFld F.TIDE_STAT_UNC 0 (Nat.min 65535 unc)

/-- The tide's safe state (R70). -/
def State.tideSafe (s : State) : State :=
  let s := s.setSafe .tide
  let s := s.ptpRoles
  if s.flag F.TIDE_STAT_VALID then s.holdover else if s.activeSrc = 0 then s else s.useSource 0 0 0

end Sys2Proof.Machine
end

