-- ==== Sys2Proof/Machine/EthLink.lean ====
section
/-! DEFINITION. Loss of an Ethernet link (R422, R433) with what it means to gPTP on the port. -/

namespace Sys2Proof.Machine

/-- gPTP of a port without a link: no longer asCapable, its information gone, best master selection run again (R454, IEEE 802.1AS). -/
def State.ptpPortDown (s : State) (p : Nat) : State :=
  let s := s.setPtp p { s.ptp p with best := none, waiting := false, lost := 0, prev := none }
  (s.setBit F.TIDE_PTP_STAT_AS_CAP 0 p false).bmca

/-- A link goes without a fault: its queue and its learned addresses go with it, and gPTP leaves the port. -/
def State.linkDrop (s : State) (p : Nat) : State :=
  let s := s.ethFlush p
  let s := s.setMac (s.eth.mac.filter fun x => x.static || x.ports != 2 ^ p)
  ((((s.setFlag F.ETH_PSTAT_LINK p false).setFld F.ETH_PSTAT_SRC p 0).setBit F.CLK_STAT_ETH_LOCK 0 p false).linkSetup p).ptpPortDown p

/-- A link is lost (R422). -/
def State.ethDown (s : State) (p : Nat) : State :=
  if !s.flag F.ETH_PSTAT_LINK p then s
  else
    let s := (s.linkDrop p).setFlag F.ETH_PEVT_DOWN p
    s.raise .ETH_LINK_DOWN p

/-- ETH_PCMD.RENEG: link setup starts over at once. -/
def State.reneg (s : State) (p : Nat) : State := if s.portRuns p then (s.linkDrop p).linkSetup p else s

/-- The safe state of the block: every PHY stops, every link drops (R433). -/
def State.ethSafe (s : State) : State :=
  (s.setSafe .eth).each [0, 1, 2, 3] fun s p => s.ethDown p

end Sys2Proof.Machine
end

