-- ==== Sys2Proof/Machine/CanTx.lean ====
section
/-! DEFINITION. CAN controllers: elements of message RAM (R401), running and stopping (R390 to R392, R416), the transmit path (R397 to
R400), fault confinement (R407 to R409), collisions (R410), rate detection (R393 to R396) and reference messages (R411 to R413). -/

namespace Sys2Proof.Machine

/-! ## Elements (R401) -/

/-- Bytes that a DLC gives (ISO 11898-1). -/
def dlcLen (fdf : Bool) (dlc : Nat) : Nat :=
  if dlc ≤ 8 then dlc else if fdf then [12, 16, 20, 24, 32, 48, 64].getD (dlc - 9) 64 else 8

def filterAddr (k : Nat) : Nat := 0x50000000 + k % 4096 * 16
def rxAddr (n e : Nat) : Nat := 0x50010000 + n * 0x6000 + e * 0x50
def txAddr (n b : Nat) : Nat := 0x50010000 + n * 0x6000 + 0x5000 + b * 0x50

def bit01 (b : Bool) : Nat := if b then 1 else 0

/-- Words 0 and 1 of a frame element. -/
def elemWord0 (f : CanFrame) : Nat := f.id % 2 ^ 29 + bit01 f.rtr * 2 ^ 29 + bit01 f.xtd * 2 ^ 30 + bit01 f.esi * 2 ^ 31
def elemWord1 (f : CanFrame) (hipri tsv : Bool) (fidx : Nat) (coarse : Bool) : Nat :=
  f.dlc % 16 + bit01 f.brs * 16 + bit01 f.fdf * 32 + bit01 hipri * 64 + bit01 tsv * 128 + fidx % 4096 * 256 + bit01 coarse * 2 ^ 20

/-- The bytes of an element up to the end of its data. -/
def elemBytes (f : CanFrame) (hipri tsv : Bool) (fidx : Nat) (coarse : Bool) (sof : Nat) : List Byte :=
  leBytes 4 (elemWord0 f) ++ leBytes 4 (elemWord1 f hipri tsv fidx coarse) ++ leBytes 8 sof ++ f.data

/-- Hardware writes a frame into an element of message RAM. -/
def State.putElem (s : State) (a : Nat) (f : CanFrame) : State := s.setBytes a (elemBytes f false false 0 false 0)

/-- The frame that an element of message RAM holds. -/
def State.elemFrame (s : State) (a : Nat) : CanFrame :=
  let w0 := s.word a
  let w1 := s.word (a + 4)
  let xtd := bitOf w0 30
  let fdf := bitOf w1 5
  let rtr := bitOf w0 29 && !fdf
  { id := if xtd then w0 % 2 ^ 29 else w0 % 2 ^ 11, xtd := xtd, rtr := rtr, fdf := fdf, brs := bitOf w1 4 && fdf, esi := bitOf w0 31,
    dlc := w1 % 16, data := if rtr then [] else s.bytes (a + 16) (dlcLen fdf (w1 % 16)) }

/-- The frame that TXBb of CANp sends: FD only with FD_EN 1 and FDF set (R386; FDF without FD_EN, log 109). -/
def State.txFrame (s : State) (p b : Nat) : CanFrame :=
  let f := s.elemFrame (txAddr p b)
  if f.fdf && !s.flag F.CAN_CTRL_FD_EN p then { f with fdf := false, brs := false, data := f.data.take 8 } else f

/-! ## Running -/

/-- The controller runs (R391, R416, R417). -/
def State.canRuns (s : State) (p : Nat) : Bool :=
  s.flag F.CAN_CTRL_EN p && !s.isSafe .can && s.awake && (s.mode' != 7 || p == 0)

def State.canDet (s : State) (p : Nat) : Bool := s.flag F.CAN_STAT_DET p

/-- The controller may send data and remote frames (R390, R393, R394, R408). -/
def State.canSends (s : State) (p : Nat) : Bool :=
  s.canRuns p && s.fld F.CAN_CTRL_OPMODE p == 0 && !s.canDet p && !(s.canc p).listen && decide (s.fld F.CAN_STAT_STATE p < 2)
    && (s.canc p).xcvr == 1

def resFld (b : Nat) : Fld := if b = 0 then F.CAN_TXB_STAT_RES0 else if b = 1 then F.CAN_TXB_STAT_RES1 else F.CAN_TXB_STAT_RES2
def State.txPend (s : State) (p b : Nat) : Bool := s.bit F.CAN_TXB_STAT_PEND p b

/-- A dictionary value as a number: what has been written, else its default. -/
def State.odNum (s : State) (idx sub dflt : Nat) : Nat :=
  match lookup (idx * 256 + sub) s.od.vals with
  | some b => leNat b
  | none => dflt

/-- The port of TPDO `k` (from 0) while its COB-ID is valid (R521). -/
def State.tpdoPort (s : State) (k : Nat) : Option Nat :=
  if s.odNum (0x1800 + k) 1 0x80000000 < 2 ^ 31 then some (s.odNum (0x1800 + k) 0x20 0 % 8) else none

/-- The port is served by the TXB1 arbiter (R519): a dictionary port, or one that carries a TPDO. -/
def State.arbiterPort (s : State) (p : Nat) : Bool :=
  decide (((lookup p s.od.nodes).getD 0) ≠ 0) || (List.range 64).any fun k => s.tpdoPort k == some p

/-- The frame of a TPDO that TXB1 held has not been sent (R519). -/
def State.tpdoUnsent (s : State) (p : Nat) : State :=
  match lookup p s.od.tx1 with
  | some (some k) =>
    let t := (lookup k s.od.tpdo).getD {}
    { s with od := { s.od with tpdo := assoc k { t with sent := t.before.1, at0 := t.before.2 } s.od.tpdo } }
  | _ => s

/-- A buffer's request ends with a result (R398); a frame of an egress ring that was not sent counts in the ring's DROP (R475). -/
def State.txEnd (s : State) (p b result : Nat) : State :=
  let c := s.canc p
  let s := (s.setBit F.CAN_TXB_STAT_PEND p b false).setFld (resFld b) p result
  let s := match b, c.ring2 with
    | 2, some r => if result = 1 then s else s.bump F.GWY_RING_STAT_DROP r
    | _, _ => s
  let s := if b = 1 ∧ result ≠ 1 then s.tpdoUnsent p else s
  s.setCanc p { s.canc p with
    abort := putBit c.abort b false, late := putBit c.late b false, ring2 := if b = 2 then none else c.ring2
    coll := if result ≤ 2 then Tbl.del c.coll b else c.coll, onBus := if c.onBus = some b then none else c.onBus }

/-- Every pending request is cancelled (R391, R409, R416). -/
def State.txCancel (s : State) (p : Nat) : State :=
  let s := s.each [0, 1, 2] fun s b => if s.txPend p b then s.txEnd p b 4 else s
  s.setCanc p { s.canc p with timer := [], onBus := none }

/-- The controller stops (R391, R416). -/
def State.canStop (s : State) (p : Nat) : State :=
  let s := ((s.txCancel p).setFld F.CAN_STAT_STATE p 3).setFlag F.CAN_STAT_SYNC p false
  let s := (s.setFlag F.CAN_STAT_DET p false).setFld F.CAN_STAT_ACT p 0
  let s := ((s.clearFault .CAN_BUS_OFF p).clearFault .CAN_BUS_OFF_LIMIT p).clearFault .CAN_ERR_PASSIVE p
  s.setCanc p { s.canc p with xcvr := 0, counting := false, limited := false, listen := false, stopping := false }

/-- EN becomes 0 (R391): a frame that is being sent or received completes first; every other request is cancelled. -/
def State.canDisable (s : State) (p : Nat) : State :=
  if s.fld F.CAN_STAT_ACT p = 0 then s.canStop p
  else
    let bus := (s.canc p).onBus
    let s := s.each [0, 1, 2] fun s b => if s.txPend p b ∧ bus ≠ some b then s.txEnd p b 4 else s
    s.setCanc p { s.canc p with timer := if bus = some 3 then (s.canc p).timer.take 1 else [], stopping := true }

/-- The frame on the bus has ended: the bus is idle, and a controller that was to stop stops (R391). -/
def State.canIdle (s : State) (p : Nat) : State :=
  let s := (s.setFld F.CAN_STAT_ACT p 0).setCanc p { s.canc p with onBus := none }
  if (s.canc p).stopping then s.canStop p else s

def State.detValid (s : State) (p i : Nat) : Bool := s.flag F.CAN_DET_A_VALID (p * 16 + i)

/-- The first valid candidate from `i` up to LAST. -/
def State.nextCand (s : State) (p i : Nat) : Option Nat :=
  (List.range 16).find? fun k => decide (i ≤ k) && decide (k ≤ s.fld F.CAN_DET_CFG_LAST p) && s.detValid p k

/-- Detection starts from candidate 0 (R393). -/
def State.detStart (s : State) (p : Nat) : State :=
  if !s.canRuns p then s
  else
    let s := s.setFlag F.CAN_STAT_DET p
    s.setCanc p { s.canc p with cand := (s.nextCand p 0).getD 0, good := 0, bad := false, winAt := s.now, listen := false }

/-- The controller starts: it integrates before it sends or receives (R391), with its error counters at 0. -/
def State.canStart (s : State) (p : Nat) : State :=
  if !s.canRuns p then s
  else
    let s := if (s.canc p).stopping then s.canStop p else s
    let s := ((s.setFld F.CAN_STAT_STATE p 0).setFld F.CAN_ERR_TEC p 0).setFld F.CAN_ERR_REC p 0
    let s := s.setCanc p { s.canc p with xcvr := 1, refAt := some s.now, ownRef := none, listen := false }
    if s.flag F.CAN_CTRL_DET_EN p then s.detStart p else s

/-- The block's safe state (R416). -/
def State.canSafe (s : State) : State := (s.setSafe .can).each (List.range 8) fun s p => s.canStop p

/-- A re-enable leaves it unless the CANC clock is marked lost (R416, R69). -/
def State.canReenable (s : State) : State × Bool :=
  if !s.isSafe .can then (s, false)
  else if s.active .CLK_DOMAIN_LOSS 3 then (s, true)
  else ((s.setSafe .can false).each (List.range 8) fun s p => s.canStart p, false)

/-! ## Requests (R397, R398) -/

def State.canRefuse (s : State) (p : Nat) : State := s.setFlag F.CAN_EVT_REFUSED p

/-- A request of hardware or of a master makes TXBb pending; a new identifier restarts its collision count (R410). -/
def State.txPut (s : State) (p b : Nat) : State :=
  let f := s.txFrame p b
  let c := s.canc p
  let k : Coll := match lookup b c.coll with
    | some k => if k.id = f.id ∧ k.xtd = f.xtd then k else { id := f.id, xtd := f.xtd }
    | none => { id := f.id, xtd := f.xtd }
  (s.setBit F.CAN_TXB_STAT_PEND p b true).setCanc p { c with coll := assoc b k c.coll }

/-- A master's REQ for TXBb (R397, R399, R519). -/
def State.txReq (s : State) (p b : Nat) : State :=
  if b = 2 ∧ s.flag F.CAN_CTRL_TXB2_SRC p then s.setFlag F.CAN_EVT_TXB2_WR p
  else if b = 1 ∧ s.arbiterPort p then s.canRefuse p
  else if s.txPend p b then s
  else
    let s := s.txPut p b
    if s.clk.aDown.isSome || s.mode' == 5 then s.setCanc p { s.canc p with late := putBit (s.canc p).late b true } else s

/-- Rank of an identifier in arbitration (R397). -/
def arbRank (f : CanFrame) : Nat := (if f.xtd then f.id else f.id * 2 ^ 18) * 2 + bit01 f.xtd

/-- Frames that compete at a bus idle: slot (3 the timer slot) and frame, in the order of equal rank. -/
def State.offered (s : State) (p : Nat) : List (Nat × CanFrame) :=
  let c := s.canc p
  let barred b := (s.clk.aDown.isSome || s.mode' == 5) && bitOf c.late b
  ((c.timer.head?.toList).map fun t => (3, t.frame)) ++
    (([0, 1, 2].filter fun b => s.txPend p b && !barred b).map fun b => (b, s.txFrame p b))

/-- The slot that the controller offers (R397). -/
def State.pick (s : State) (p : Nat) : Option (Nat × CanFrame) :=
  if !s.canSends p then none
  else if s.flag F.CAN_CTRL_TXPRIO p then (s.offered p).head?
  else (s.offered p).foldl (fun b x => match b with
    | none => some x
    | some y => if arbRank x.2 < arbRank y.2 then some x else b) none

/-- The slot whose frame an event of the bus ends: the one known to be on the bus, or the one offered. -/
def State.sending (s : State) (p : Nat) : Option (Nat × CanFrame) :=
  match (s.canc p).onBus with
  | some 3 => ((s.canc p).timer.head?).map fun t => (3, t.frame)
  | some b => some (b, s.txFrame p b)
  | none => s.pick p

/-- What the controller is doing on the bus: 0 idle, 1 receiving, 2 sending the frame that it has offered (CAN_STAT.ACT, R391, R398). -/
def State.canBusy (s : State) (p act : Nat) : State :=
  if !s.canRuns p then s
  else if act = 2 then
    match s.sending p with
    | some x => (s.setFld F.CAN_STAT_ACT p 2).setCanc p { s.canc p with onBus := some x.1 }
    | none => s
  else if act = 1 then s.setFld F.CAN_STAT_ACT p 1
  else s

/-- ABORT of TXBb (R398): at once on a waiting buffer, after its frame on one that is on the bus. -/
def State.txAbort (s : State) (p b : Nat) (busy : Bool) : State :=
  if !s.txPend p b then s
  else if busy && (s.sending p).any (fun x => x.1 == b) then
    s.setCanc p { s.canc p with onBus := some b, abort := putBit (s.canc p).abort b true }
  else s.txEnd p b 2

/-- A frame of another node has been on the bus: the frame that the controller had offered has lost arbitration. Its collision count
restarts (R410), and an ABORT takes it out (R398). -/
def State.arbLost (s : State) (p : Nat) : State :=
  match s.sending p with
  | none => s
  | some (slot, _) =>
    let c := s.canc p
    let s := match lookup slot c.coll with
      | some k => s.setCanc p { c with coll := assoc slot { k with n := 0 } c.coll }
      | none => s
    if slot < 3 ∧ bitOf c.abort slot then s.txEnd p slot 2 else s

/-- A write of CAN_TXB_CMD (R397, R398): where both name a buffer, ABORT acts. -/
def State.txCmd (s : State) (p req abort : Nat) (busy : Bool) : State :=
  s.each [0, 1, 2] fun s b =>
    if bitOf abort b then s.txAbort p b busy else if bitOf req b then s.txReq p b else s

/-- A hardware timer puts a frame into the timer slot; one of its kind that still waits is replaced. -/
def State.timerPut (s : State) (p kind : Nat) (f : CanFrame) : State :=
  if !s.canRuns p then s
  else
    let c := s.canc p
    let t : TimerFrame := ⟨kind, f⟩
    if c.timer.any fun x => x.kind == kind then
      s.setCanc p { c with timer := c.timer.map fun x => if x.kind == kind then t else x }
    else s.setCanc p { c with timer := c.timer ++ [t] }

/-- The head of the timer slot is done: sent, or abandoned after collisions. -/
def State.timerDone (s : State) (p : Nat) (sent : Bool) : State :=
  let c := s.canc p
  s.setCanc p { c with timer := c.timer.tail, coll := if sent then Tbl.del c.coll 3 else c.coll, onBus := if c.onBus = some 3 then none else c.onBus }

/-! ## Fault confinement (R407 to R409) -/

/-- The error state follows the counters (ISO 11898-1). -/
def State.errJudge (s : State) (p : Nat) : State :=
  let passive := decide (128 ≤ s.fld F.CAN_ERR_TEC p) || decide (128 ≤ s.fld F.CAN_ERR_REC p)
  let st := s.fld F.CAN_STAT_STATE p
  if passive ∧ st = 0 then ((s.setFld F.CAN_STAT_STATE p 1).setFlag F.CAN_EVT_EPASS p).raise .CAN_ERR_PASSIVE p
  else if !passive ∧ st = 1 then (s.setFld F.CAN_STAT_STATE p 0).clearFault .CAN_ERR_PASSIVE p
  else s

/-- Entry to bus-off (R407), with the limit of R409. -/
def State.busOff (s : State) (p : Nat) : State :=
  let s := ((s.setFld F.CAN_STAT_STATE p 2).setFlag F.CAN_EVT_BOFF p).bump F.CAN_ERR_BOFF_CNT p
  let c := s.canc p
  let l := s.now :: c.boffs.filter fun t => decide (s.now < t + sec 60)
  let n := s.fld F.CAN_CTRL_BO_LIMIT p
  let hit := decide (1 ≤ n) && decide (n ≤ l.length)
  let s := s.setCanc p { c with boffs := l, boffAt := s.now, counting := false, limited := hit, onBus := none }
  let s := s.raise .CAN_BUS_OFF p
  if hit then (s.txCancel p).raise .CAN_BUS_OFF_LIMIT p else s

def State.lastError (s : State) (p lec : Nat) (data : Bool) : State :=
  (s.setFld F.CAN_ERR_LEC p lec).setFlag F.CAN_ERR_LEC_DATA p data

/-- BO_DELAY after entry, automatic recovery starts counting (R408). -/
def State.boDelayEnd (s : State) (p : Nat) : State :=
  let c := s.canc p
  if s.fld F.CAN_STAT_STATE p ≠ 2 ∨ s.flag F.CAN_CTRL_BO_MAN p ∨ c.limited then s
  else (s.advanceTo (c.boffAt + ms (10 * s.fld F.CAN_CTRL_BO_DELAY p))).setCanc p { c with counting := true }

/-- 128 occurrences of 11 recessive bits have been counted (R408): error active. -/
def State.boRecovered (s : State) (p : Nat) : State :=
  if s.fld F.CAN_STAT_STATE p ≠ 2 ∨ !(s.canc p).counting then s
  else
    let s := ((s.setFld F.CAN_STAT_STATE p 0).setFld F.CAN_ERR_TEC p 0).setFld F.CAN_ERR_REC p 0
    ((s.setCanc p { s.canc p with counting := false }).clearFault .CAN_BUS_OFF p).clearFault .CAN_ERR_PASSIVE p

/-- CAN_CMD.RECOVER (R408, R409). -/
def State.boRecover (s : State) (p : Nat) : State :=
  let c := s.canc p
  if s.fld F.CAN_STAT_STATE p ≠ 2 ∨ !(c.limited || s.flag F.CAN_CTRL_BO_MAN p) then s
  else (s.setCanc p { c with counting := true, limited := false }).clearFault .CAN_BUS_OFF_LIMIT p

/-! ## Rate detection (R393 to R396) -/

/-- The window of the candidate under test ends without acceptance (R395). -/
def State.detWindow (s : State) (p : Nat) : State :=
  if !s.canDet p then s
  else
    let c := s.canc p
    let s := s.advanceTo (c.winAt + ms (10 * s.fld F.CAN_DET_CFG_WIN p))
    let go (s : State) (k : Nat) := s.setCanc p { c with cand := k, good := 0, bad := false, winAt := s.now }
    match s.nextCand p (c.cand + 1) with
    | some k => go s k
    | none => ((go s ((s.nextCand p 0).getD 0)).setFlag F.CAN_EVT_DET_FAIL p).raise .CAN_RATE_NOT_FOUND p [] (sec 10)

/-- The candidate under test is accepted (R394, R40). -/
def State.detAccept (s : State) (p : Nat) : State :=
  let c := s.canc p
  let i := p * 16 + c.cand
  let a := (s.rd .CAN_DET_A i).toNat % 2 ^ 27
  let b := (s.rd .CAN_DET_B i).toNat % 2 ^ 18
  let s := (s.wr .CAN_NBT p (BitVec.ofNat 32 a)).wr .CAN_DBT p (BitVec.ofNat 32 b)
  let s := s.setFlag F.CAN_CTRL_FD_EN p (s.flag F.CAN_DET_B_FD i)
  let s := (s.setFlag F.CAN_STAT_DET p false).setFld F.CAN_STAT_DET_IDX p c.cand
  let s := s.setCanc p { c with found := true, listen := s.flag F.CAN_CTRL_DET_LISTEN p }
  let s := (s.setFlag F.CAN_EVT_DET_DONE p).clearFault .CAN_RATE_NOT_FOUND p
  s.negotiated 2 p (s.rd .CAN_STAT p).toNat

/-- A frame that the candidate under test receives without error, within its window (R394). -/
def State.detFrame (s : State) (p : Nat) (f : CanFrame) : State :=
  let c := s.canc p
  let fd := s.flag F.CAN_DET_B_FD (p * 16 + c.cand)
  if c.winAt + ms (10 * s.fld F.CAN_DET_CFG_WIN p) < s.now then s
  else if !fd && f.fdf then s.setCanc p { c with good := 0, bad := true }
  else if c.bad then s
  else
    let s := s.setCanc p { c with good := c.good + 1 }
    if 3 ≤ c.good + 1 then s.detAccept p else s

/-! ## Reference messages (R411 to R413) -/

def State.ttCycle (s : State) (p : Nat) : Nat := us (100 * s.fld F.CAN_TT_CFG_CYCLE p)
def State.ttId (s : State) (p prio : Nat) : Nat := s.fld F.CAN_TT_REF_ID p / 8 * 8 + prio

/-- The reference message of a master (R412). -/
def State.ttFrame (s : State) (p cyc : Nat) : CanFrame :=
  let m := match (s.canc p).ownRef with
    | some t => t % 2 ^ 56
    | none => 2 ^ 56 - 1
  { id := s.ttId p (s.fld F.CAN_TT_CFG_PRIO p), xtd := s.flag F.CAN_TT_REF_XTD p, dlc := 8,
    data := BitVec.ofNat 8 (cyc % 64) :: leBytes 7 m }

/-- ROLE has changed (R411, R413): a follower and a potential master begin as followers that have seen no reference message. -/
def State.ttRole (s : State) (p : Nat) : State :=
  let s := (s.setFld F.CAN_TT_STAT_ROLE p (Nat.min 1 (s.fld F.CAN_TT_CFG_ROLE p))).setFlag F.CAN_TT_STAT_SYNC p false
  (s.setCanc p { s.canc p with refAt := some s.now, ownRef := none, ttAt := none }).chooseSource

/-- A master sends, a CYCLE after its last message, while logical time is valid and not COARSE (R413). -/
def State.ttSend (s : State) (p : Nat) : State :=
  if s.fld F.CAN_TT_CFG_ROLE p ≠ 2 ∨ s.fld F.CAN_TT_STAT_ROLE p ≠ 2 ∨ !s.flag F.TIDE_STAT_VALID ∨ s.flag F.TIDE_STAT_COARSE then s
  else
    let s := match (s.canc p).ttAt with
      | some t => s.advanceTo (t + s.ttCycle p)
      | none => s
    let s := s.setCanc p { s.canc p with ttAt := some s.now }
    let cyc := (s.fld F.CAN_TT_STAT_CYC p + 1) % 64
    (s.timerPut p 2 (s.ttFrame p cyc)).setFld F.CAN_TT_STAT_CYC p cyc

/-- A potential master takes over and sends at once (R413). -/
def State.ttTakeover (s : State) (p : Nat) : State :=
  if s.fld F.CAN_TT_CFG_ROLE p ≠ 2 ∨ s.fld F.CAN_TT_STAT_ROLE p = 2 ∨ !s.canRuns p then s
  else
    let prio := s.fld F.CAN_TT_CFG_PRIO p
    let s := s.advanceTo ((s.canc p).refAt.getD 0 + s.ttCycle p + us (200 * (prio + 1)))
    ((((s.setFld F.CAN_TT_STAT_ROLE p 2).setFld F.CAN_TT_STAT_MPRIO p prio).setCanc p { s.canc p with ttAt := none }).chooseSource).ttSend p

/-- No valid reference message for 3 cycles (R413). -/
def State.ttLoss (s : State) (p : Nat) : State :=
  if s.fld F.CAN_TT_CFG_ROLE p = 0 ∨ !s.canRuns p ∨ s.active .CAN_TT_LOSS p then s
  else
    let s := s.advanceTo ((s.canc p).refAt.getD 0 + 3 * s.ttCycle p)
    let s := ((s.setFlag F.CAN_TT_STAT_SYNC p false).setFlag F.CAN_EVT_TT_LOSS p).raise .CAN_TT_LOSS p
    s.chooseSource

/-- A received frame is a reference message of the controller's time base. -/
def State.isRef (s : State) (p : Nat) (f : CanFrame) : Bool :=
  s.fld F.CAN_TT_CFG_ROLE p != 0 && !f.fdf && !f.rtr && f.dlc == 8 && f.xtd == s.flag F.CAN_TT_REF_XTD p &&
    f.id / 8 * 8 == s.fld F.CAN_TT_REF_ID p / 8 * 8

/-- A reference message is received (R413, R443). -/
def State.ttReceive (s : State) (p : Nat) (f : CanFrame) (sof : Nat) : State :=
  if !s.isRef p f then s
  else
    let prio := f.id % 8
    let master := s.fld F.CAN_TT_STAT_ROLE p == 2
    if master && decide (s.fld F.CAN_TT_CFG_PRIO p ≤ prio) then s
    else
      let s := (s.setFld F.CAN_TT_STAT_ROLE p 1).setFld F.CAN_TT_STAT_MPRIO p prio
      let s := (s.setFld F.CAN_TT_STAT_CYC p ((f.data.getD 0 0).toNat % 64)).setFlag F.CAN_TT_STAT_SYNC p
      let s := s.setCanc p { s.canc p with refAt := some s.now }
      (s.clearFault .CAN_TT_LOSS p).canMeasure p (leNat ((f.data.drop 1).take 7)) sof

end Sys2Proof.Machine
end

