-- ==== Sys2Proof/Machine/GwyRing.lean ====
section
/-! DEFINITION. Rings of the gateway (R463 to R465, R473), the egress of a ring to a CAN port (R475) and into ACF streams (R477), and what
a segment's change of state does to them (R478, R479). -/

namespace Sys2Proof.Machine

/-! ## Rings -/

def State.ringOn (s : State) (r : Nat) : Bool := s.flag F.GWY_RING_CFG_EN r || s.gwy.closing.contains r
def State.ringDepth (s : State) (r : Nat) : Nat := s.fld F.GWY_RING_CFG_DEPTH r
def State.ringFill (s : State) (r : Nat) : Nat := s.fld F.GWY_RING_STAT_FILL r
def State.ringPort (s : State) (r : Nat) : Nat := s.fld F.GWY_RING_CFG_PORT r
def State.ringHigh (s : State) (r : Nat) : Bool := s.flag F.GWY_RING_STAT_HIGH r
def State.ringFull (s : State) (r : Nat) : Bool := decide (s.ringDepth r ≤ s.ringFill r)
def State.ringAddr (s : State) (r k : Nat) : Nat := s.fld F.GWY_RING_BASE_BASE r + k * 96

/-- FILL changes; HIGH follows it (R473). -/
def State.setFill (s : State) (r n : Nat) : State :=
  let s := s.setFld F.GWY_RING_STAT_FILL r n
  let hi := decide (s.fld F.GWY_RING_WM_HI r ≤ n)
  let high := hi || (s.ringHigh r && decide (s.fld F.GWY_RING_WM_LO r < n))
  let s := if hi && !s.ringHigh r then s.setFlag F.GWY_EVT_WM else s
  s.setFlag F.GWY_RING_STAT_HIGH r high

/-- A ring refuses or discards a descriptor (R473). -/
def State.ringDrop (s : State) (r : Nat) : State :=
  ((s.bump F.GWY_RING_STAT_DROP r).setFlag F.GWY_EVT_RING_FULL).raise .GWY_RING_FULL r [] (sec 1)

/-- The oldest descriptor leaves the ring. -/
def State.ringPop (s : State) (r : Nat) : State :=
  let g := (s.fld F.GWY_RING_GET_GET r + 1) % Nat.max 1 (s.ringDepth r)
  (s.setFld F.GWY_RING_GET_GET r g).setFill r (s.ringFill r - 1)

/-- Every descriptor of the ring is discarded; PUT and GET return to 0 (R465, R484). -/
def State.ringEmpty (s : State) (r : Nat) : State :=
  ((s.setFld F.GWY_RING_PUT_PUT r 0).setFld F.GWY_RING_GET_GET r 0).setFill r 0

/-- EN 0 takes effect: every descriptor is counted in DROP and discarded (R465). -/
def State.ringClose (s : State) (r : Nat) : State :=
  let s := (s.bump F.GWY_RING_STAT_DROP r (s.ringFill r)).ringEmpty r
  s.setGwy { s.gwy with closing := s.gwy.closing.filter (· != r) }

/-- A held frame reserves the ring (R468, R474). -/
def State.ringReserved (s : State) (r : Nat) : Bool :=
  s.gwy.held.any fun x => x.2.any fun h => (h.rings.getD []).contains r

/-- RING_CFG.EN has been cleared: at once, or when the last reservation goes (R465). -/
def State.ringDisable (s : State) (r : Nat) : State :=
  if s.ringReserved r then s.setGwy { s.gwy with closing := r :: s.gwy.closing.filter (· != r) } else s.ringClose r

/-- Rings that close and whose reservations are gone. -/
def State.ringsClosing (s : State) : State := s.each s.gwy.closing fun s r => if s.ringReserved r then s else s.ringClose r

/-- Flags of word 21 (R463). -/
structure DescFlags where
  held : Bool := false
  rewritten : Bool := false
  direct : Bool := false
  miss : Bool := false

/-- The 96 bytes of a descriptor (R463). -/
def descBytes (g : GwFrame) (out : CanFrame) (route : Nat) (fl : DescFlags) (stamp : Nat) : List Byte :=
  let e := elemBytes out g.hipri g.tsv g.fidx g.coarse g.sof
  e ++ List.replicate (80 - e.length) 0 ++ leBytes 4 (g.src + route * 2 ^ 16) ++
    leBytes 4 (bit01 g.hipri + 2 * bit01 fl.held + 4 * bit01 fl.rewritten + 8 * bit01 fl.direct + 16 * bit01 fl.miss + 32 * bit01 g.srcts) ++
    leBytes 8 stamp

/-- A descriptor is appended; PUT advances when it is complete (R464). -/
def State.ringAppend (s : State) (r : Nat) (d : List Byte) : State :=
  let put := s.fld F.GWY_RING_PUT_PUT r
  let s := s.setBytes (s.ringAddr r put) d
  (s.setFld F.GWY_RING_PUT_PUT r ((put + 1) % Nat.max 1 (s.ringDepth r))).setFill r (s.ringFill r + 1)

/-! ## ACF streams (R477) -/

/-- Bytes up to a multiple of 4. -/
def pad4 (n : Nat) : Nat := (4 - n % 4) % 4

/-- An ACF CAN or ACF CAN Brief message of IEEE 1722-2016. -/
def acfMessage (f : CanFrame) (bus : Nat) (brief : Bool) (ts : Nat) : List Byte :=
  let p := pad4 f.data.length
  let len := (if brief then 8 else 16) + f.data.length + p
  let type := if brief then 2 else 1
  let flags := p * 64 + bit01 (!brief) * 32 + bit01 f.rtr * 16 + bit01 f.xtd * 8 + bit01 f.brs * 4 + bit01 f.fdf * 2 + bit01 f.esi
  beBytes 2 (type * 512 + len / 4) ++ beBytes 1 flags ++ beBytes 1 (bus % 32) ++ (if brief then [] else beBytes 8 ts) ++
    beBytes 4 (f.id % 2 ^ 29) ++ f.data ++ List.replicate p 0

/-- The PDU of egress ring `r` is queued to its port in the queue of its PCP (R477); the port removes the tag of a VLAN that it
sends untagged (R424). -/
def State.acfSend (s : State) (r : Nat) : State :=
  match lookup r s.gwy.pdu with
  | none => s
  | some (m, _) =>
    let i := r - 16
    let n := (lookup r s.gwy.seqOut).getD 0
    let vid := s.fld F.GWY_ACF_DMACHI_VID i
    let pcp := s.fld F.GWY_ACF_DMACHI_PCP i
    let avtp := beBytes 1 0x82 ++ beBytes 2 (0x8000 + m.length % 2048) ++ beBytes 1 n ++
      beBytes 4 (s.fld F.GWY_ACF_SIDHI_SID i) ++ beBytes 4 (s.fld F.GWY_ACF_SIDLO_SID i)
    let frame := beBytes 2 (s.fld F.GWY_ACF_DMACHI_MACHI i) ++ beBytes 4 (s.fld F.GWY_ACF_DMACLO_MACLO i) ++ beBytes 6 Config.macEth0 ++
      (if vid = 0 ∨ s.bit F.ETH_VLAN_UNTAG vid (s.ringPort r - 8) then [] else beBytes 2 0x8100 ++ beBytes 2 (pcp * 8192 + vid)) ++ beBytes 2 0x22F0 ++ avtp ++ m
    let s := s.setGwy { s.gwy with pdu := Tbl.del s.gwy.pdu r, seqOut := assoc r ((n + 1) % 256) s.gwy.seqOut }
    if s.isSafe .eth then s else s.ethQueue (s.ringPort r - 8) (s.qmap pcp) ⟨frame, false, 0⟩

/-- Pack the oldest descriptor of a ring bound to an Ethernet port; a message that would exceed MAX_BYTES sends the PDU first. -/
def State.acfPack (s : State) (r : Nat) : State :=
  if s.ringPort r < 8 ∨ s.ringFill r = 0 then s
  else
    let i := r - 16
    let a := s.ringAddr r (s.fld F.GWY_RING_GET_GET r)
    let code := s.word (a + 80) % 64
    let bus := if code < 32 then code + s.fld F.GWY_ACF_TXCFG_BUS_OFS i else code - 32
    let m := acfMessage (s.elemFrame a) bus (s.flag F.GWY_ACF_TXCFG_BRIEF i) (leNat (s.bytes (a + 8) 8))
    let used := match lookup r s.gwy.pdu with | some (b, _) => b.length | none => 0
    let s := if s.fld F.GWY_ACF_TXCFG_MAX_BYTES i < used + m.length then s.acfSend r else s
    let s := s.ringPop r
    let pdu := match lookup r s.gwy.pdu with | some (b, t) => (b ++ m, t) | none => (m, s.now)
    let s := s.setGwy { s.gwy with pdu := assoc r pdu s.gwy.pdu }
    if s.fld F.GWY_ACF_TXCFG_FLUSH i = 0 then s.acfSend r else s

/-- FLUSH after the first packed message, or a full PDU (R477). -/
def State.acfFlush (s : State) (r : Nat) : State :=
  match lookup r s.gwy.pdu with
  | some (_, t) => (s.advanceTo (t + us (s.fld F.GWY_ACF_TXCFG_FLUSH (r - 16)))).acfSend r
  | none => s

/-! ## Delivery into a ring (R473) -/

/-- Append to a ring that has space for it, and hand it on to an Ethernet port. -/
def State.ringPut (s : State) (r : Nat) (d : List Byte) : State :=
  let s := s.ringAppend r d
  if 16 ≤ r then s.acfPack r else s

/-- A descriptor for ring `r` under a policy; BACKPRESSURE drops only on a full ring here, its hold stands in `Gwy.lean`. The result says
whether the ring received it. -/
def State.ringDeliver (s : State) (r policy : Nat) (d : List Byte) : State × Bool :=
  if !s.ringOn r then (s, false)
  else if !s.ringFull r then (s.ringPut r d, true)
  else if policy = 1 then ((s.ringDrop r).ringPop r |>.ringPut r d, true)
  else (s.ringDrop r, false)

/-- A frame as a port that is not FD-enabled receives it (R472): classic up to DLC 8, none above. -/
def State.forPort (s : State) (r : Nat) (f : CanFrame) : Option CanFrame :=
  let p := s.ringPort r
  if p < 8 && !s.flag F.CAN_CTRL_FD_EN p && f.fdf then
    if f.dlc ≤ 8 then some { f with fdf := false, brs := false } else none
  else some f

/-! ## TXB2 (R475) -/

/-- The lowest-numbered non-empty egress ring bound to CAN port `p`. -/
def State.servedRing (s : State) (p : Nat) : Option Nat :=
  (List.range 32).find? fun r => decide (16 ≤ r) && s.ringOn r && s.ringPort r == p && decide (0 < s.ringFill r)

/-- TXB2 is free and takes the oldest descriptor (R475). -/
def State.txb2Load (s : State) (p : Nat) : State :=
  if !s.flag F.CAN_CTRL_TXB2_SRC p || !s.canRuns p || s.txPend p 2 then s
  else match s.servedRing p with
    | none => s
    | some r =>
      let d := s.bytes (s.ringAddr r (s.fld F.GWY_RING_GET_GET r)) 80
      let s := ((s.setBytes (txAddr p 2) d).ringPop r).txPut p 2
      s.setCanc p { s.canc p with ring2 := some r }

/-! ## Segments (R478, R479) -/

/-- A segment as the gateway sees it (R487): 0 AWAKE, 1 ASLEEP, 2 ISOLATED. -/
def State.segGate (s : State) (g : Nat) : Nat :=
  match s.fld F.NM_SEG_STAT_STATE g with
  | 4 => 1
  | 5 => 1
  | 6 => 2
  | _ => 0

def State.segDrop (s : State) (g n : Nat) : State := s.bump F.GWY_SEG_STAT_DROP g n
def State.holdQueue (s : State) (g : Nat) : List GwSleep := (lookup g s.gwy.sleep).getD []
def State.setHoldQueue (s : State) (g : Nat) (l : List GwSleep) : State :=
  (s.setGwy { s.gwy with sleep := assoc g l s.gwy.sleep }).setFld F.GWY_SEG_STAT_HELD g l.length

/-- A held frame enters its egress rings with HELD set (R479). -/
def State.holdDeliver (s : State) (x : GwSleep) : State :=
  s.each x.rings fun s r => match s.forPort r x.out with
    | some f => (s.ringDeliver r x.policy (descBytes x.g f x.route { held := true, rewritten := x.rewritten } x.stamp)).1
    | none => s.bump F.GWY_CNT2_FORMAT

/-- The gateway's part in a segment's change from `was` to its present state (R479). -/
def State.segChanged (s : State) (g was : Nat) : State :=
  let is := s.segGate g
  if is = was then s
  else if is = 1 then
    s.each ((List.range 32).filter fun r => decide (16 ≤ r) && s.ringPort r == g && s.ringOn r) fun s r =>
      let n := s.ringFill r
      (s.segDrop g n).each (List.range n) fun s _ => s.ringPop r
  else if is = 0 then
    let age := ms (100 * s.fld F.GWY_SEG_CFG_HOLD_AGE g)
    let q := s.holdQueue g
    let old := q.filter fun x => decide (x.at0 + age < s.now)
    let s := ((s.setHoldQueue g []).segDrop g old.length).setFlag F.GWY_SEG_STAT_WAKE_REQ g false
    if was = 1 then s.each (q.filter fun x => !decide (x.at0 + age < s.now)) fun s x => s.holdDeliver x else s
  else s.setHoldQueue g []

end Sys2Proof.Machine
end

