-- ==== Sys2Proof/Machine/Dio.lean ====
section
/-! DEFINITION. Digital inputs, counters and outputs, SSUP and AUX24 (R343 to R357). -/

namespace Sys2Proof.Machine

def State.setDio (s : State) (d : DioSt) : State := { s with dio := d }

/-! ## Inputs -/

/-- Debounced state of DInn (R344). -/
def State.di (s : State) (n : Nat) : Bool := if n < 32 then s.bit F.DIO_DI_LO_STATE 0 n else s.bit F.DIO_DI_HI_STATE 0 (n - 32)

/-- Debounce of an input, ns (R344, R70). -/
def State.debounceNs (s : State) (n : Nat) : Nat :=
  if s.isSafe (.dioGrp (n / 8)) then ms 5 else 100000 * s.fld F.DIO_GRP_CFG_DEBOUNCE (n / 8)

/-- The level that the comparator of an input gives at `mv` mV, with its hysteresis (R343, R70). -/
def State.comparator (s : State) (n : Nat) (mv : Int) : Bool :=
  let t3 := s.flag F.DIO_GRP_CFG_TYPE (n / 8) && !s.isSafe (.dioGrp (n / 8))
  if (if t3 then 8000 else 11000) ≤ mv then true
  else if mv ≤ (if t3 then 6500 else 9000) then false
  else (s.dic n).raw

/-- The samples of an input have shown the level of `mv` mV for its DEBOUNCE, counted at the earliest from the last restart of its group
(R344): a debounced change is stamped with its first sample. -/
def State.diEdge (s : State) (n : Nat) (mv : Int) : State :=
  let level := s.comparator n mv
  if !s.powered then s
  else if s.di n = level then s.setDic n { s.dic n with raw := level }
  else
    let s := s.advanceTo ((lookup (n / 8) s.dio.grpAt).getD 0 + s.debounceNs n)
    let s := if n < 32 then (s.setBit F.DIO_DI_LO_STATE 0 n level).setBit F.DIO_EDGE_LO_EDGE 0 n
      else (s.setBit F.DIO_DI_HI_STATE 0 (n - 32) level).setBit F.DIO_EDGE_HI_EDGE 0 (n - 32)
    let t := s.now - s.debounceNs n
    s.setDic n { raw := level, stamp := s.logicalAt ((t - s.tide.epoch) / 4) }

/-- An edge that passes the glitch filter of counter input `k` (R345, R346, R307). -/
def State.counterEdge (s : State) (k : Nat) (rising : Bool) : State :=
  let mode := s.fld F.DIO_CNT_CFG_MODE k
  let e := s.fld F.DIO_CNT_CFG_EDGE k
  let hit := e == 2 || (e == 0 && rising) || (e == 1 && !rising)
  if mode = 0 ∨ !hit ∨ s.isSafe (.dioCnt k) ∨ !s.powered then s
  else
    let s := if mode % 2 = 1 then s.setFld F.DIO_CNT_VAL_COUNT k (s.fld F.DIO_CNT_VAL_COUNT k + 1) else s
    let c := s.cntc k
    let s := s.setCntc k { c with edges := c.edges + 1, first := if c.edges = 0 then s.now else c.first
                                  period := match c.lastE with
                                    | some t => some (s.now - t)
                                    | none => c.period
                                  lastE := some s.now }
    s.streamPulse k

/-- DIO_CNT_CMD.CLR (R346): an edge in the PWR cycle of the clear is counted after it. -/
def State.counterClear (s : State) (k : Nat) : State :=
  let n := match (s.cntc k).lastE with
    | some t => nat01 (decide ((t - s.clk.g0) / 25 = s.g) && s.fld F.DIO_CNT_CFG_MODE k % 2 == 1)
    | none => 0
  s.setFld F.DIO_CNT_VAL_COUNT k n

/-- The end of a frequency gate (R347). -/
def State.freqGate (s : State) (k : Nat) : State :=
  if s.fld F.DIO_CNT_CFG_MODE k < 2 ∨ s.isSafe (.dioCnt k) ∨ !s.powered then s
  else
    let c := s.cntc k
    let s := s.advanceTo (c.gateAt + ms 10 * s.fld F.DIO_CNT_CFG_GATE k)
    let empty := if c.edges = 0 then c.empty + 1 else 0
    let f := match c.lastE with
      | some t => if 2 ≤ c.edges ∧ c.first < t then (c.edges - 1) * 100000000000 / (t - c.first)
        else if 10 ≤ empty then 0
        else match c.period with
          | some p => if p = 0 then 0 else 100000000000 / p
          | none => 0
      | none => 0
    let s := s.setCntc k { c with edges := 0, empty := empty, gateAt := s.now }
    (s.setFld F.DIO_CNT_FREQ_FREQ k (Nat.min f 16777215)).setFlag F.DIO_CNT_FREQ_VALID k

/-! ## Outputs -/

/-- AUX24 rating in 10 mA (R355, R94): 6 A with the higher of FEEDB and FEEDC at 18 V or more, else 3 A. -/
def State.auxRating (s : State) : Nat := if 1800 ≤ Nat.max (s.vfeed 1) (s.vfeed 2) then 600 else 300

/-- DOmm is on by the highest layer that has something to say about it (R363); in Recovery every output is off (R142). -/
def State.doWant (s : State) (m : Nat) : Bool :=
  let i := 120 + m
  s.powered && !s.extracting && !s.flag F.BERTH_SUP_STAT_HOLDUP && s.flag F.DIO_AUX_STAT_UP &&
    !s.bit F.DIO_DO_STAT_FAULT 0 m && !s.bit F.DIO_DO_DIAG_SHED 0 m && !s.isSafe .boll &&
    match s.reflexOn i with
    | some k => s.fld F.BOLL_RFX_ACT_ACTION k != 0
    | none => match s.gov i with
      | some g => !g.off && match s.fld F.BOLL_SAFE_STATE i with
        | 1 => true
        | 2 => g.cap.mode != 0
        | _ => false
      | none => s.bit F.DIO_DO_OUT_ON 0 m && !s.gateShut i

def State.doRefresh (s : State) (m : Nat) : State := s.setBit F.DIO_DO_STAT_ON 0 m (s.doWant m)
/-- Every DO output and SSUP follow what governs them (R142, R354, R357). -/
def State.dioRefresh (s : State) : State :=
  let s := s.each (List.range 16) fun s m => s.doRefresh m
  s.setFlag F.DIO_AUX_STAT_SSUP_ON 0 (s.flag F.DIO_AUX_CTRL_SSUP_EN && s.flag F.DIO_AUX_STAT_UP && !s.flag F.DIO_AUX_STAT_SSUP_FAULT &&
    !s.extracting && !s.flag F.BERTH_SUP_STAT_HOLDUP && s.powered)

/-- A write to DIO_DO_OUT (R351, R560): refused as a whole when a bit would go from 0 to 1 outside Operate and Service, or behind a
closed gate. -/
def State.doWrite (s : State) (v : Nat) : State × Bool :=
  let old := s.fld F.DIO_DO_OUT_ON
  let rising := (List.range 16).filter fun m => bitOf v m && !bitOf old m
  if rising.any fun m => !s.live || s.gateShut (120 + m) then (s.setFlag F.DIO_EVT_DO_REFUSED, true)
  else ((s.setFld F.DIO_DO_OUT_ON 0 v).dioRefresh, false)

/-- The overload latch of an output acts (R352, R70). -/
def State.doLatch (s : State) (m : Nat) : Bool := s.isSafe .dioDo || s.bit F.DIO_DO_CFG_LATCH 0 m

/-- An output has been in current limit for 2 ms (R352). -/
def State.doOverload (s : State) (m : Nat) : State :=
  if !s.bit F.DIO_DO_STAT_ON 0 m then s
  else
    let s := ((s.setBit F.DIO_DO_STAT_FAULT 0 m).setFlag F.DIO_EVT_DO_OVL).raise .DO_OVERLOAD m [] (sec 1)
    let s := if s.doLatch m then s else s.setDio { s.dio with retry := assoc m (s.now + ms 100) s.dio.retry }
    s.doRefresh m

/-- The retry of an overloaded output falls due (R352, R356): not while it is shed. -/
def State.doRetry (s : State) (m : Nat) : State :=
  match lookup m s.dio.retry with
  | none => s
  | some t =>
    if s.bit F.DIO_DO_DIAG_SHED 0 m then s
    else
      let s := (s.advanceTo t).setDio { s.dio with retry := Tbl.del s.dio.retry m }
      ((s.setBit F.DIO_DO_STAT_FAULT 0 m false).clearFault .DO_OVERLOAD m).doRefresh m

/-- Release of the overload latch of DOmm (R352): accepted only while its DIO_DO_OUT bit is 0. An output that awaits its retry is not
latched and keeps its time. -/
def State.doClear (s : State) (m : Nat) : State × Bool :=
  if s.bit F.DIO_DO_OUT_ON 0 m then (s.setFlag F.DIO_EVT_DO_REFUSED, true)
  else if (lookup m s.dio.retry).isSome then (s, false)
  else
    (((s.setBit F.DIO_DO_STAT_FAULT 0 m false).clearFault .DO_OVERLOAD m).doRefresh m, false)

/-- An output that is on has drawn less than the open-load threshold for 50 ms (R353). -/
def State.doOpen (s : State) (m : Nat) : State :=
  if s.bit F.DIO_DO_CFG_OL_EN 0 m && !s.isSafe .dioDo && s.bit F.DIO_DO_STAT_ON 0 m && !s.bit F.DIO_DO_DIAG_OPEN 0 m then
    ((s.setBit F.DIO_DO_DIAG_OPEN 0 m).setFlag F.DIO_EVT_DO_OPEN).raise .DO_OPEN_LOAD m
  else s
/-- The open-load flag of an output ends (R353). -/
def State.doOpenClear (s : State) (m : Nat) : State := (s.setBit F.DIO_DO_DIAG_OPEN 0 m false).clearFault .DO_OPEN_LOAD m

/-! ## SSUP and AUX24 -/

/-- A write to SSUP_EN (R354): taken in Configure, Operate and Service; 0 ends the retries. -/
def State.ssupWrite (s : State) (on : Bool) : State × Bool :=
  if s.mode' = 3 ∨ s.live then
    let s := s.setFlag F.DIO_AUX_CTRL_SSUP_EN 0 on
    let s := if on then s else (s.setDio { s.dio with ssupRetry := none }).setFlag F.DIO_AUX_STAT_SSUP_FAULT 0 false
    ((if on then s else s.clearFault .SSUP_OVERLOAD).dioRefresh, false)
  else (s, true)

/-- SSUP has been in limit for 10 ms (R354). -/
def State.ssupOverload (s : State) : State :=
  if !s.flag F.DIO_AUX_STAT_SSUP_ON then s
  else
    let s := ((s.setFlag F.DIO_AUX_STAT_SSUP_FAULT).setFlag F.DIO_EVT_SSUP_OVL).raise .SSUP_OVERLOAD
    (s.setDio { s.dio with ssupRetry := some (s.now + sec 1) }).dioRefresh
/-- SSUP retries (R354). -/
def State.ssupRetry (s : State) : State :=
  match s.dio.ssupRetry with
  | none => s
  | some t =>
    if !s.flag F.DIO_AUX_CTRL_SSUP_EN then s
    else
      let s := (s.advanceTo t).setDio { s.dio with ssupRetry := none }
      ((s.setFlag F.DIO_AUX_STAT_SSUP_FAULT 0 false).clearFault .SSUP_OVERLOAD).dioRefresh

/-- The total output current of AUX24, 10 mA (R355). -/
def State.auxCur (s : State) (cur : Nat) : State :=
  (s.setFld F.DIO_AUX_STAT_CUR 0 (Nat.min cur 1023)).setFlag F.DIO_AUX_STAT_LIMIT 0 (decide (s.auxRating < cur))

/-- The total has stayed above the rating for 5 ms (R355): shedding begins, where it does not go on already. -/
def State.auxOverload (s : State) (cur : Nat) : State :=
  let s := s.auxCur cur
  if cur ≤ s.auxRating ∨ !s.flag F.DIO_AUX_STAT_UP ∨ s.dio.ovl then s
  else ((s.setDio { s.dio with ovl := true, shedAt := none, retAt := none }).setFlag F.DIO_EVT_AUX_OVL).raise .AUX_OVERLOAD

/-- The next output is shed, 1 ms after the one before, from DO15 downward, until the total is at or below the rating (R355). -/
def State.auxShed (s : State) (cur : Nat) : State :=
  if !s.dio.ovl then s
  else
    let s := match s.dio.shedAt with
      | some t => s.advanceTo (t + ms 1)
      | none => s
    let s := s.auxCur cur
    if cur ≤ s.auxRating then s.setDio { s.dio with ovl := false }
    else match (List.range 16).reverse.find? fun m => s.bit F.DIO_DO_STAT_ON 0 m with
      | some m => ((s.setBit F.DIO_DO_DIAG_SHED 0 m).setDio { s.dio with shedAt := some s.now }).doRefresh m
      | none => s

/-- The next shed output returns: first once the total has stayed below 80 % of the rating for 1 s, then one every 10 ms from DO00
upward, until the total rises above the rating; one whose DIO_DO_OUT bit is 0 or that is latched stays shed (R355, R356, R357). -/
def State.auxReturn (s : State) (cur : Nat) : State :=
  let s := match s.dio.retAt with
    | some t => s.advanceTo (t + ms 10)
    | none => s
  let s := s.auxCur cur
  if !s.flag F.DIO_AUX_STAT_UP then s
  else if s.auxRating < cur then s.setDio { s.dio with retAt := none }
  else if s.dio.retAt.isNone ∧ s.auxRating * 8 ≤ cur * 10 then s
  else
    match (List.range 16).find? fun m => s.bit F.DIO_DO_DIAG_SHED 0 m && s.bit F.DIO_DO_OUT_ON 0 m && !(s.bit F.DIO_DO_STAT_FAULT 0 m && s.doLatch m) with
    | some m =>
      let s := ((s.setBit F.DIO_DO_DIAG_SHED 0 m false).setDio { s.dio with retAt := some s.now, ovl := false }).doRefresh m
      if s.fld F.DIO_DO_DIAG_SHED = 0 then s.clearFault .AUX_OVERLOAD else s
    | none => (s.setDio { s.dio with retAt := none, ovl := false }).clearFault .AUX_OVERLOAD

/-- AUX24 falls out of regulation (R357). -/
def State.auxDown (s : State) : State :=
 if !s.flag F.DIO_AUX_STAT_UP then s else
  let s := (s.setFlag F.DIO_AUX_STAT_UP 0 false).setFld F.DIO_DO_DIAG_SHED 0 (s.fld F.DIO_DO_OUT_ON)
  ((s.setDio { s.dio with ovl := false, shedAt := none, retAt := none }).setFlag F.DIO_EVT_AUX_DOWN |>.raise .AUX_DOWN).dioRefresh

/-- AUX24 has been in regulation for 5 ms (R357): the outputs whose bits are 1 return as under R355, SSUP at once. It draws only from
a mated feed that is present (R122, R94). -/
def State.auxUp (s : State) : State :=
  if s.flag F.DIO_AUX_STAT_UP ∨ !(s.feedUp 1 || s.feedUp 2) ∨ !s.powered then s
  else
    let s := (s.setFlag F.DIO_AUX_STAT_UP).setFld F.DIO_DO_DIAG_SHED 0 (s.fld F.DIO_DO_OUT_ON)
    ((s.setDio { s.dio with retAt := some s.now }).clearFault .AUX_DOWN).dioRefresh

end Sys2Proof.Machine
end

