-- ==== Sys2Proof/Machine/Led.lean ====
section
/-! DEFINITION. The LED sinks: duty in force (R324 to R327), fades (R329, R330), windows and their judgement (R331 to R337),
foldback (R338). -/

namespace Sys2Proof.Machine

/-- LEDS is in its safe state, or the sink is (R339, R67). -/
def State.ledSafe (s : State) (n : Nat) : Bool := s.isSafe .leds || s.isSafe (.ledCh n)

/-- The duty that governs a sink by R363: what its command or fade has in force, or what a higher layer sets. -/
def State.ledWant (s : State) (n : Nat) : Nat :=
  let i := 88 + n
  let c := s.ledc n
  if !s.flag F.LEDS_CH_CFG_EN n || s.ledSafe n || s.flag F.LEDS_CH_STAT_SHORT n || !s.awake || s.mode' == 7 ||
      s.flag F.BERTH_SUP_STAT_HOLDUP then 0
  else if s.extracting then c.duty
  else if s.isSafe .boll then 0
  else match s.reflexOn i with
  | some k => match s.fld F.BOLL_RFX_ACT_ACTION k with
    | 0 => 0
    | 1 => 16383
    | _ => s.fld F.BOLL_RFX_ACT_VALUE k
  | none => if (s.gov i).isSome then 0 else c.duty

/-- Set current of a sink, mA, rounded down (R323). -/
def State.iset (s : State) (n : Nat) : Nat :=
  150 * (s.ledc n).code * s.fld F.LEDS_GLB_LEVEL_GLOBAL * s.fld F.LEDS_GLB_STAT_F / (255 * 255 * 255)

/-- Summed dissipation of the enabled and not latched sinks, in units of 0.1 mW / 16,383 (R338). -/
def State.ledPower (s : State) : Nat :=
  (List.range 32).foldl (fun a n =>
    if s.flag F.LEDS_CH_CFG_EN n && !s.flag F.LEDS_CH_STAT_SHORT n then
      a + s.fld F.LEDS_CH_STAT_VSINK n * s.fld F.LEDS_CH_EDUTY_ISET n * s.fld F.LEDS_CH_EDUTY_EDUTY n
    else a) 0
/-- The sum of the present millisecond (R338). -/
def State.ledSum (s : State) : Nat := if s.now / ms 1 = s.leds.sumMs then s.leds.psum else s.ledPower
/-- Before a sink changes, the sum that was due since the last one is formed (R338). -/
def State.ledTick (s : State) : State := { s with leds := { s.leds with sumMs := s.now / ms 1, psum := s.ledSum } }

/-- The sink takes duty `d` into force, its current unchanged: EDUTY, ON, STRETCH (R327, R332). -/
def State.ledDuty (s : State) (n d : Nat) : State :=
  let s := s.ledTick
  let div := s.fld F.LEDS_GLB_CFG_DIV + 1
  let s := (s.setFld F.LEDS_CH_EDUTY_EDUTY n d).setFlag F.LEDS_CH_STAT_ON n (decide (0 < d) && (s.ledc n).lit)
  s.setFlag F.LEDS_CH_STAT_STRETCH n (s.flag F.LEDS_CH_CFG_DIAG_EN n && decide (0 < d) && decide (d * div * 25 < 8000))

/-- At a period start the sink takes the present current and duty `d` into force (R323, R327). -/
def State.ledForce (s : State) (n d : Nat) : State :=
  let s := s.ledTick.setFld F.LEDS_CH_EDUTY_ISET n (s.iset n)
  let lit := decide (0 < (s.ledc n).code * s.fld F.LEDS_GLB_LEVEL_GLOBAL * s.fld F.LEDS_GLB_STAT_F)
  (s.setLedc n { s.ledc n with lit := lit }).ledDuty n d

/-- A sink goes off at once, in the middle of its on-phase (R326, R336). -/
def State.ledCut (s : State) (n : Nat) : State := (s.setLedc n { s.ledc n with ends := [] }).ledDuty n 0

/-- A sink goes off at once: its fade ends and its duty in force is 0. -/
def State.ledOff (s : State) (n : Nat) : State :=
  ((s.setLedc n { s.ledc n with fade := none, duty := 0 }).setFlag F.LEDS_CH_STAT_FADING n false).ledCut n

/-- The running fade of a sink ends; during extraction its ramp goes on (R136, R330). -/
def State.fadeEnd (s : State) (n : Nat) : State :=
  if s.extracting then s else (s.setLedc n { s.ledc n with fade := none }).setFlag F.LEDS_CH_STAT_FADING n false

/-- A sink follows a change of the layer that governs it. A safe state or a latch ends its fade and turns it off at once (R330, R336,
R339, R361); what a reflex action sets takes effect at its next period start, and OFF ends the fade (R379, R381). -/
def State.ledRefresh (s : State) (n : Nat) : State :=
  let i := 88 + n
  let shut := s.ledSafe n || s.flag F.LEDS_CH_STAT_SHORT n
  let off := (s.gov i).isSome || s.isSafe .boll
  let rfx := match s.reflexOn i with
    | some k => s.fld F.BOLL_RFX_ACT_ACTION k == 0
    | none => false
  let s := if (s.ledc n).fade.isNone then s
    else if shut then (s.setLedc n { s.ledc n with fade := none }).setFlag F.LEDS_CH_STAT_FADING n false
    else if off || rfx then s.fadeEnd n
    else s
  if s.ledWant n = 0 ∧ s.fld F.LEDS_CH_EDUTY_EDUTY n ≠ 0 ∧ !(rfx && !shut && !off) then s.ledCut n else s

/-- A write or fade of a sink was refused (R327). -/
def State.ledRefuse (s : State) (n : Nat) : State := (s.setFlag F.LEDS_CH_STAT_REFUSED n).setFlag F.LEDS_CH_EVT_REFUSED n

/-- A command is refused: one that lights a sink outside Operate and Service (R327), any in the safe state of LEDS (R339). -/
def State.ledRefused (s : State) (duty code : Nat) : Bool :=
  s.isSafe .leds || (decide (0 < duty) && decide (0 < code) && !s.live)

/-- A write to a sink's registers was accepted: REFUSED clears. -/
def State.ledAccept (s : State) (n : Nat) : State := s.setFlag F.LEDS_CH_STAT_REFUSED n false

/-- A write to LEDS_CH_OUT (R327, R330): both fields take effect at the next period start. A running fade ends, but for the ramp of an
extraction (R136); it goes on where the write reaches CODE alone (`codeOnly`). -/
def State.ledOutWrite (s : State) (n duty code : Nat) (codeOnly : Bool) : State × Bool :=
  if s.ledRefused duty code then (s.ledRefuse n, true)
  else
    let s := s.wr .LEDS_CH_OUT n (BitVec.ofNat 32 (duty + code * 65536))
    ((if codeOnly then s else s.fadeEnd n).ledAccept n, false)

/-- The tick of the first period start at or after `g` (R325). -/
def State.ledAlign (s : State) (g : Nat) : Nat :=
  let p := 16384 * (s.fld F.LEDS_GLB_CFG_DIV + 1)
  (g + p - 1) / p * p

/-- The tick of the next period start of a sink: the starts of every sink coincide (R325). -/
def State.ledStart (s : State) (n : Nat) : Nat :=
  s.ledAlign (match (s.ledc n).pAt with | some t => Nat.max s.g (t + 1) | none => s.g)

/-- Ticks of 8 µs, the shortest on-phase with a window and the length of a stretch pulse (R331, R332). -/
def ledMin : Nat := 320
/-- The on-phase that begins in the period of tick `t` at the sink's offset of n * 512 slots: where it ends, if it has a window. Every 256th
period of a sink that runs stretch pulses holds one (R325, R326, R331, R332). -/
def State.ledPhase (s : State) (n t : Nat) : Option Nat :=
  let div := s.fld F.LEDS_GLB_CFG_DIV + 1
  let d := s.fld F.LEDS_CH_EDUTY_EDUTY n
  let on := if s.flag F.LEDS_CH_STAT_STRETCH n && (s.ledc n).pers == 0 then ledMin else (if d = 16383 then 16384 else d) * div
  if ledMin ≤ on then some (t + n * 512 * div + on) else none

/-- The next period start of a sink: the commanded state, or the fade's duty, takes effect for the on-phase that begins in the period; one
that still runs completes with the duty it began with (R323, R324, R326, R327). -/
def State.ledPeriod (s : State) (n : Nat) : State :=
  let t := s.ledStart n
  let s := s.advanceTo (s.gTime t)
  let c := s.ledc n
  let c := { c with code := s.fld F.LEDS_CH_OUT_CODE n
                    duty := if c.fade.isSome || s.extracting then c.duty else s.fld F.LEDS_CH_OUT_DUTY n
                    pers := (c.pers + 1) % 256
                    pAt := some t }
  let s := s.setLedc n c
  let s := s.ledForce n (s.ledWant n)
  s.setLedc n { s.ledc n with ends := ((s.ledc n).ends.filter fun e => decide (t ≤ e)) ++ (s.ledPhase n t).toList }

/-! ## Fades -/

/-- The largest `x` below 2^`bits` with `p x`, for a `p` that holds up to some number. -/
def searchBits (p : Nat → Bool) : Nat → Nat → Nat
  | 0, x => x
  | b + 1, x => if p (x + 2 ^ b) then searchBits p b (x + 2 ^ b) else searchBits p b x

/-- Perceived level (d / 16383)^(1 / 2.2), scaled by 2^40 and rounded down (R329). -/
def levelOf (d : Nat) : Nat := searchBits (fun x => decide (x ^ 11 * 16383 ^ 5 ≤ d ^ 5 * (2 ^ 40) ^ 11)) 41 0
/-- 16383 * l^2.2 of a level scaled by 2^40, rounded to nearest (R329). -/
def dutyOf (l : Nat) : Nat :=
  let y := searchBits (fun x => decide (x ^ 5 * (2 ^ 40) ^ 11 ≤ (2 * 16383) ^ 5 * l ^ 11)) 15 0
  (y + 1) / 2
/-- Duty at `k` of `n` parts of the way from `d0` to `target` (R329). -/
def fadeDuty (d0 target k n : Nat) : Nat :=
  let a := levelOf d0
  let b := levelOf target
  dutyOf ((a * (n - k) + b * k) / Nat.max n 1)

/-- A write of 1 to LEDS_CH_FADE.GO (R329, R330): no new fade starts while a pair restarts, and the ramp of an extraction overrides it
(R136). -/
def State.fadeStart (s : State) (n target time : Nat) : State × Bool :=
  if s.ledRefused target (s.fld F.LEDS_CH_OUT_CODE n) || s.clk.aDown.isSome || s.clk.bDown.isSome then (s.ledRefuse n, true)
  else
    let c := s.ledc n
    let s := s.ledAccept n
    if s.extracting then (s, false)
    else if time = 0 then
      (((s.setFld F.LEDS_CH_OUT_DUTY n target).setLedc n { c with fade := none }).setFlag F.LEDS_CH_STAT_FADING n false, false)
    else
      ((s.setLedc n { c with duty := s.fld F.LEDS_CH_EDUTY_EDUTY n
                             fade := some { d0 := s.fld F.LEDS_CH_EDUTY_EDUTY n, target := target, len := 4 * time, at0 := s.now } }).setFlag
        F.LEDS_CH_STAT_FADING n, false)

/-- The next step of a running fade, 4 ms after the one before or at the end of its time (R329, R135). The module computes the duty to within
±1 code: which of the three it is, is a free value (log 3); the last step is the target. -/
def State.fadeStep (s : State) (n : Nat) : State :=
  match (s.ledc n).fade with
  | none => s
  | some f =>
    let t := Nat.min (4 * (f.k + 1)) f.len
    let s := s.advanceTo (f.at0 + ms t)
    if f.len = t then
      let s := s.setLedc n { s.ledc n with fade := none, duty := f.target }
      let s := s.setFlag F.LEDS_CH_STAT_FADING n false
      let s := if s.extracting then s else s.setFld F.LEDS_CH_OUT_DUTY n f.target
      s.ledDuty n (s.ledWant n)
    else
      let r := s.draw 2
      let d := Nat.min 16383 (fadeDuty f.d0 f.target t f.len + r.1 % 3 - 1)
      let s := r.2
      let s := s.setLedc n { s.ledc n with fade := some { f with k := f.k + 1 }, duty := d }
      s.ledDuty n (s.ledWant n)

/-- Every sink fades to 0 over RAMP_TIME from the duty in force (R135, R330). -/
def State.ledsRamp (s : State) : State :=
  s.each (List.range 32) fun s n =>
    let d := s.fld F.LEDS_CH_EDUTY_EDUTY n
    if d = 0 then (s.setLedc n { s.ledc n with fade := none, duty := 0 }).setFlag F.LEDS_CH_STAT_FADING n false
    else (s.setLedc n { s.ledc n with duty := d
                                      fade := some { d0 := d, target := 0, len := s.rampMs, at0 := s.now } }).setFlag
      F.LEDS_CH_STAT_FADING n

/-- Every sink goes to duty 0 at once, without a fade (R328). -/
def State.allLedsOff (s : State) : State :=
  s.each (List.range 32) fun s n => (s.setFld F.LEDS_CH_OUT_DUTY n 0).ledOff n

/-! ## Windows -/

/-- The time since which the string supply of a sink is up, if it is (R333, R334). -/
def State.supplySince (s : State) (n : Nat) : Option Nat :=
  if s.flag F.LEDS_CH_CFG_SUP n then
    let c := s.lead (s.fld F.LEDS_CH_CFG_SUPCH n)
    if (s.swc c).st == 1 && !s.anyHold c then some (s.swc c).fullAt else none
  else (s.ledc n).lsupAt

/-- Open detection of a sink is suspended: its supply has not been up for 10 ms (R334). -/
def State.ledSusp (s : State) (n : Nat) : Bool :=
  match s.supplySince n with
  | some t => decide (s.now < t + ms 10)
  | none => true

/-- The end of an on-phase of at least 8 µs, with the sink's voltage (mV) and current (mA), and how long (ns) LEDSUP has been at 6.0 V or more
(R326, R331, R334 to R336). -/
def State.ledWindow (s : State) (n mv ma : Nat) (ledsup : Option Nat) : State :=
  match (s.ledc n).ends with
  | [] => s
  | e :: rest =>
    let s := (s.advanceTo (s.gTime e)).ledTick
    let c := { s.ledc n with ends := rest, lsupAt := ledsup.map fun d => s.now - d }
    let s := s.setLedc n c
    let susp := s.ledSusp n
    let s := (s.setFld F.LEDS_CH_STAT_VSINK n (Nat.min 1023 (mv / 100))).setFld F.LEDS_CH_STAT_IMEAS n (Nat.min 255 ma)
    let s := (s.setFlag F.LEDS_CH_STAT_LOWHR n (decide (mv < 600) && decide (ma * 100 < 95 * s.fld F.LEDS_CH_EDUTY_ISET n))).setFlag
      F.LEDS_CH_STAT_SUSP n susp
    if !s.flag F.LEDS_CH_CFG_DIAG_EN n then s.setLedc n { c with low := 0, good := 0, high := 0 }
    else
      let below := decide (mv < 250)
      let c := { c with low := if susp then 0 else if below then c.low + 1 else 0
                        good := if below then 0 else c.good + 1
                        high := if decide (100 * s.fld F.LEDS_CH_CFG_VSHORT n < mv) then c.high + 1 else 0 }
      let s := s.setLedc n c
      let s := if c.low = 4 ∧ !s.flag F.LEDS_CH_STAT_OPEN n then
          ((s.setFlag F.LEDS_CH_STAT_OPEN n).setFlag F.LEDS_CH_EVT_OPEN n).raise .LED_OPEN n [] (sec 1)
        else if 4 ≤ c.good ∧ s.flag F.LEDS_CH_STAT_OPEN n then (s.setFlag F.LEDS_CH_STAT_OPEN n false).clearFault .LED_OPEN n
        else s
      if 4 ≤ c.high ∧ !s.flag F.LEDS_CH_STAT_SHORT n then
        (((s.setFlag F.LEDS_CH_STAT_SHORT n).setFlag F.LEDS_CH_EVT_SHORT n).raise .LED_SHORT n).ledRefresh n
      else s

/-- Release of a short latch (R337): the sink turns on again only through a new command or fade. -/
def State.ledRelease (s : State) (n : Nat) : State × Bool :=
  if s.fld F.LEDS_CH_OUT_DUTY n = 0 then
    let s := (s.ledTick.setLedc n { s.ledc n with high := 0, duty := 0, fade := none }).setFlag F.LEDS_CH_STAT_SHORT n false
    let s := s.setFlag F.LEDS_CH_STAT_FADING n false
    ((s.ledAccept n).clearFault .LED_SHORT n, false)
  else (s.ledRefuse n, true)

/-! ## Foldback -/

/-- The next multiple of 4 ms of true time after the last comparison, with the 1 ms sums up to it formed (R338). -/
def State.foldDue (s : State) : State :=
  let s := (s.advanceTo ((Nat.max s.now (s.leds.foldAt + 1) + ms 4 - 1) / ms 4 * ms 4)).ledTick
  { s with leds := { s.leds with foldAt := s.now } }

/-- The comparison of the summed dissipation with the cap, every 4 ms (R338, R111). -/
def State.foldback (s : State) : State :=
  let s := s.foldDue
  let cap := s.derate 600 450
  let p := s.ledSum
  let k := 100 * 16383
  let f := s.fld F.LEDS_GLB_STAT_F
  let f' := if cap * k < p then f * (cap * k) / p else if 100 * p < 95 * cap * k ∧ f < 255 then f + 1 else f
  let s := s.setFld F.LEDS_GLB_STAT_F 0 f'
  let was := s.flag F.LEDS_GLB_STAT_FOLDBACK
  if f' < 255 ∧ !was then
    ((s.setFlag F.LEDS_GLB_STAT_FOLDBACK).setFlag F.LEDS_GLB_EVT_FOLDBACK).raise .LED_FOLDBACK
  else if f' = 255 ∧ was then (s.setFlag F.LEDS_GLB_STAT_FOLDBACK 0 false).clearFault .LED_FOLDBACK
  else s

/-- Configuration of sinks `ns` may change: DUTY 0 and no fade running (R340). -/
def State.ledsIdle (s : State) (ns : List Nat) : Bool :=
  ns.all fun n => s.fld F.LEDS_CH_OUT_DUTY n == 0 && (s.ledc n).fade.isNone

end Sys2Proof.Machine
end

