-- ==== Sys2Proof/Machine/Bollard.lean ====
section
/-! DEFINITION. The bollard: governance of the 136 outputs (R360 to R365), silence timers (R366 to R369), the hold window (R370 to
R375), the BOLL safe state (R376) and the reflexes (R377 to R381). -/

namespace Sys2Proof.Machine

def State.setBoll (s : State) (b : BollSt) : State := { s with boll := b }

/-- An output follows what now governs it (R363, R364, R381). -/
def State.outRefresh (s : State) (i : Nat) : State :=
  if i < 64 then s.refresh i
  else if i < 88 then (if s.valveBarred (i - 64) then s.valveStop (i - 64) 10 else s)
  else if i < 120 then s.ledRefresh (i - 88)
  else s.doRefresh (i - 120)

/-- The unit of an output is still safe under R69 (R67, R70, R286, R372). -/
def State.unitSafe (s : State) (i : Nat) : Bool :=
  if i < 64 then
    (s.isSafe .swPair) || (s.cells i).any fun n => s.isSafe (.swCh n) || s.isSafe (.protCh n) || s.isSafe (.wireClass (s.fld F.PROT_CFG_WCLASS (s.lead n)))
  else if i < 88 then s.isSafe (.injCh (i - 64)) || s.isSafe (.injBank (bankOf (i - 64)))
  else if i < 120 then s.isSafe (.ledCh (i - 88))
  else false

/-- What HOLD_LAST captures: the state that the event engine or the command produces (R361). -/
def State.capture (s : State) (i : Nat) : Drive :=
  if i < 64 then
    let n := s.lead i
    if s.gateShut n then {} else match s.swEv n with
      | some e => if e.quiet then s.cmdDrive n else e.d
      | none => s.cmdDrive n
  else if 120 ≤ i ∧ s.bit F.DIO_DO_OUT_ON 0 (i - 120) ∧ !s.gateShut i then { mode := 1 }
  else {}

/-- The output whose safe state drives output `i`: the even channel of its pair (R362), else itself. -/
def State.outLead (s : State) (i : Nat) : Nat := if i < 64 then s.lead i else i
/-- The outputs that one safe state drives (R362). -/
def State.outCells (s : State) (i : Nat) : List Nat := if i < 64 then s.cells i else [i]

/-- The bollard takes an output to its safe state, unless it governs it already; with `off` to OFF whatever is configured (R361, R362,
R70, R376). -/
def State.take (s : State) (i why : Nat) (off : Bool) : State :=
  let i := s.outLead i
  let put := fun (g : Gov) =>
    (s.setBoll { s.boll with gov := (s.outCells i).foldl (fun l c => assoc c g l) s.boll.gov }).outRefresh i
  match s.gov i with
  | some g => if off then put { g with off := true } else s
  | none => put { cap := s.capture i, off := off, why := why }

/-- A BOLL_SILENCE or BOLL_HOLD_EXPIRED fault is over once none of the outputs it sent is governed (R375). -/
def State.bollFaults (s : State) : State :=
  let any := fun w => s.boll.gov.any fun g => g.2.why == w
  let s := s.each (List.range 4) fun s t => if any t then s else s.clearFault .BOLL_SILENCE t
  if any 4 then s else s.clearFault .BOLL_HOLD_EXPIRED

/-- Hand an output, with its partner in a pair, back to the layers below. -/
def State.release (s : State) (i : Nat) : State :=
  let i := s.outLead i
  (s.setBoll { s.boll with gov := (s.outCells i).foldl Tbl.del s.boll.gov }).outRefresh i

/-! ## Silence timers -/

/-- TIMEOUT of a timer in ns, 0 while disabled. -/
def State.silNs (s : State) (t : Nat) : Nat := ms (s.fld F.BOLL_SIL_TIMEOUT t)
/-- Timers run only in Operate and Service, with no hold window and BOLL not safe (R366, R370, R376); during an extraction, whose ramp they
may not act against, they stand still (R136, log 108). -/
def State.silMay (s : State) : Bool := s.live && !s.holdRun && !s.isSafe .boll && !s.extracting

/-- Every running timer stands still. -/
def State.silPause (s : State) : State :=
  s.each (List.range 4) fun s t =>
    let c := s.silc t
    match c.since with
    | some u => s.setSilc t { c with since := none, left := c.left - (s.now - u) }
    | none => s
/-- Enabled timers that have not expired go on from where they stood, where timers may run. -/
def State.silResume (s : State) : State :=
  if s.silMay then
    s.each (List.range 4) fun s t =>
      let c := s.silc t
      if s.silNs t ≠ 0 ∧ !c.exp ∧ c.since.isNone then s.setSilc t { c with since := some s.now } else s
  else s
/-- A timer is reloaded to its full TIMEOUT and its expiry ends (R366, R369). -/
def State.silReload (s : State) (t : Nat) : State :=
  s.setSilc t { s.silc t with left := s.silNs t, exp := false, since := if s.silMay && s.silNs t != 0 then some s.now else none }
/-- Every enabled timer that has not expired starts at its full TIMEOUT (R366). -/
def State.silStart (s : State) : State :=
  s.each (List.range 4) fun s t => if s.silNs t ≠ 0 ∧ !(s.silc t).exp then s.silReload t else s

/-- A write of 1 to SYS_BOLLARD_FEED.FEED, or to 2600:B0 to B3 (R367). -/
def State.feed (s : State) (t v : Nat) : State :=
  if s.silNs t = 0 ∨ s.flag F.BOLL_SIL_SRC t ∨ s.isSafe .boll then s
  else
    let ok := match (s.silc t).last with
      | some l => v == (l + 1) % 256
      | none => true
    if ok then (s.setSilc t { s.silc t with last := some v }).silReload t
    else (s.bump F.BOLL_SILSTAT_SEQERR t).raise .BOLL_FEED_SEQ t [] (sec 1)

/-- Processing of RPDO `r` (1 to 64) refreshes the timers that choose it (R368). -/
def State.rpdoRefresh (s : State) (r : Nat) : State :=
  s.each (List.range 4) fun s t =>
    if s.silNs t ≠ 0 ∧ s.flag F.BOLL_SIL_SRC t ∧ s.fld F.BOLL_SIL_RPDO t + 1 = r ∧ !s.isSafe .boll then s.silReload t else s

/-- A running timer reaches 0 (R369). -/
def State.silExpire (s : State) (t : Nat) : State :=
  match (s.silc t).since with
  | none => s
  | some u =>
    if !s.silMay then s
    else
      let s := s.advanceTo (u + (s.silc t).left)
      let s := s.setSilc t { s.silc t with left := 0, since := none, exp := true, last := none }
      let s := s.raise .BOLL_SILENCE t
      let s := s.each (List.range 136) fun s i =>
        if s.fld F.BOLL_SAFE_SIL i = t + 1 ∧ s.outLead i = i then s.take i t false else s
      s.bollFaults

/-- A write of a timer's configuration takes effect: enabling starts it at full, TIMEOUT 0 ends its expiry (R366, R369). -/
def State.silConfigured (s : State) (t was : Nat) : State :=
  if s.silNs t = 0 then s.setSilc t {}
  else if was = 0 then (s.setSilc t { s.silc t with last := none }).silReload t
  else s

/-! ## Hold window -/

/-- A cause of R370: the window starts, or starts again at full length; timers stand still. -/
def State.holdStart (s : State) : State :=
  let s := s.silPause
  s.setBoll { s.boll with hold := some (s.now + ms (10 * s.fld F.BOLL_CTRL_HOLD)) }

/-- The window ends without expiry. -/
def State.holdStop (s : State) : State := s.setBoll { s.boll with hold := none }

/-- The window runs out without a reclaim (R373). -/
def State.holdExpire (s : State) : State :=
  match s.boll.hold with
  | none => s
  | some t =>
    let s := (s.advanceTo t).holdStop
    let s := s.raise .BOLL_HOLD_EXPIRED
    let s := s.each (List.range 136) fun s i => s.take i 4 false
    s.bollFaults.silResume

/-- Every commanded state becomes OFF: switch channels, DO outputs, sinks (R146, R173, R328, R351). -/
def State.commandsOff (s : State) : State :=
  let s := s.allSwitchesOff
  ((s.setFld F.DIO_DO_OUT_ON 0 0).dioRefresh).allLedsOff

/-- A write of 1 to BOLL_CMD.RECLAIM or 2600:A2 (R372): true where it was refused. -/
def State.reclaim (s : State) : State × Bool :=
  if s.mode' = 5 ∨ s.isSafe .boll then (s.setFlag F.BOLL_STAT_REFUSED, true)
  else
    let s := s.holdStop
    let back := (s.boll.gov.map (·.1)).filter fun i =>
      let t := s.fld F.BOLL_SAFE_SIL (s.outLead i)
      !s.unitSafe i && !(t != 0 && (s.silc (t - 1)).exp)
    let s := if s.mode' = 3 then s.commandsOff else s
    let s := s.each back fun s i => s.release i
    ((s.bollFaults.silStart).raise .BOLL_RECLAIMED, false)

/-- Firmware that runs again writes RECLAIM with AUTO_RECLAIM at 1 (R371). -/
def State.autoReclaim (s : State) : State :=
  if s.flag F.BOLL_CTRL_AUTO_RECLAIM then s.reclaim.1 else s

/-- Entry to Configure from Operate or Service ends the governance of every output, but for units still safe (R375, R376). -/
def State.governanceEnds (s : State) : State :=
  let s := s.each ((s.boll.gov.map (·.1)).filter fun i => !s.unitSafe i && !s.isSafe .boll) fun s i => s.release i
  let s := s.each (List.range 4) fun s t => s.setSilc t { s.silc t with exp := false }
  s.bollFaults

/-! ## The BOLL safe state -/

/-- CFG_PARITY of a BOLL register (R376): every output turns off, timers and entries stop; an entry that stops keeps neither result nor
latch (log 108). -/
def State.bollSafe (s : State) : State :=
  let s := s.silPause.setSafe .boll
  let s := s.setBoll { s.boll with rfx := [] }
  s.each (List.range 136) fun s i => s.outRefresh i

/-- Re-enable leaves every output governed at safe state OFF until a reclaim (R376). -/
def State.bollReenable (s : State) : State :=
  let s := s.setSafe .boll false
  s.each (List.range 136) fun s i => s.take i 5 true

/-! ## Reflexes -/

/-- A reflex source (R377). -/
def State.source (s : State) (c : Nat) : Bool :=
  if c < 0x30 then s.di c
  else if 0x40 ≤ c ∧ c < 0x80 then (s.swc (c - 0x40)).driving && !(s.swc (c - 0x40)).inGap s.g && s.holdRank (c - 0x40) == 0
  else if 0x80 ≤ c ∧ c < 0xC0 then s.holdRank (c - 0x80) != 0
  else if 0xC0 ≤ c ∧ c < 0xD8 then (s.injc (c - 0xC0)).latched || s.flag F.INJ_BANK_STAT_HSB_SHORT (bankOf (c - 0xC0))
  else if 0xE0 ≤ c ∧ c < 0x100 then s.flag F.LEDS_CH_STAT_OPEN (c - 0xE0) || s.flag F.LEDS_CH_STAT_SHORT (c - 0xE0)
  else if 0x100 ≤ c ∧ c < 0x110 then s.bit F.DIO_DO_STAT_FAULT 0 (c - 0x100)
  else if 0x110 ≤ c ∧ c < 0x114 then s.bit F.BERTH_SUP_STAT_PRESENT 0 (c - 0x110)
  else if 0x114 ≤ c ∧ c < 0x118 then s.bit F.BERTH_SUP_STAT_LOW 0 (c - 0x114)
  else if 0x118 ≤ c ∧ c < 0x11C then (s.silc (c - 0x118)).exp
  else if c = 0x11C then s.holdRun
  else if c = 0x11D then s.mode' == 5
  else if c = 0x11E then s.live
  else if c = 0x11F then s.active .PLATE_HOT
  else if 0x140 ≤ c ∧ c < 0x180 then (s.rfxc (c - 0x140)).res
  else c == 0x1FF

/-- A source code that R377 lists. -/
def sourceOk (c : Nat) : Bool :=
  c < 0x30 || (0x40 ≤ c && c < 0xD8) || (0xE0 ≤ c && c < 0x120) || (0x140 ≤ c && c < 0x180) || c == 0x1FF

/-- One entry is evaluated (R378, R379). -/
def State.evalEntry (s : State) (k : Nat) : State :=
  let a := s.source (s.fld F.BOLL_RFX_COND_SRCA k) != s.flag F.BOLL_RFX_COND_INVA k
  let b := s.source (s.fld F.BOLL_RFX_COND_SRCB k) != s.flag F.BOLL_RFX_COND_INVB k
  let cond := match s.fld F.BOLL_RFX_COND_OP k with
    | 0 => a
    | 1 => a && b
    | 2 => a || b
    | _ => a != b
  let x := s.rfxc k
  let x := if cond = x.cond then x else { x with cond := cond, since := s.now }
  let dly := 100000 * (if cond then s.fld F.BOLL_RFX_DLY_ON_DLY k else s.fld F.BOLL_RFX_DLY_OFF_DLY k)
  let res := if decide (x.since + dly ≤ s.now) then cond else x.res
  let latch := s.flag F.BOLL_RFX_ACT_LATCH k
  let lat := latch && (x.lat || res)
  let res := res || lat
  let i := s.fld F.BOLL_RFX_ACT_TARGET k
  let may := match s.fld F.BOLL_RFX_ACT_WHEN k with
    | 0 => true
    | 1 => (s.gov i).isSome
    | _ => (s.gov i).isNone
  let odd := s.outLead i != i
  let x := { x with res := res, lat := lat, act := s.flag F.BOLL_RFX_ACT_EN k && res && may && !odd }
  let s := s.setRfxc k x
  let eff := s.rfxActs k
  let s := s.setRfxc k { x with eff := eff }
  if eff && !x.eff then s.raise .BOLL_REFLEX k [] (sec 1) else s

/-- The 64 entries are evaluated in ascending order, 100 µs after they last were, and their actions applied (R377 to R381). -/
def State.reflexes (s : State) : State :=
  if !s.powered || s.isSafe .boll then s
  else
    let s := s.advanceTo (s.boll.rfxAt + us 100)
    let s := (s.setBoll { s.boll with rfxAt := s.now }).each (List.range 64) fun s k => s.evalEntry k
    s.each ((List.range 64).filter fun k => s.flag F.BOLL_RFX_ACT_EN k || (s.rfxc k).act) fun s k =>
      s.outRefresh (s.fld F.BOLL_RFX_ACT_TARGET k)

/-- Clear the latch of an entry (R378): it acts only while the condition is false. -/
def State.rfxClear (s : State) (k : Nat) : State :=
  let x := s.rfxc k
  if x.cond then s
  else (s.setRfxc k { x with lat := false, res := x.res && !x.lat, act := x.act && !x.lat }).outRefresh (s.fld F.BOLL_RFX_ACT_TARGET k)

end Sys2Proof.Machine
end

