-- ==== Sys2Proof/Machine/Journal.lean ====
section
/-! DEFINITION. The journal: entries becoming visible (R38, R39, R615, R618), the mirrors 1001 and 1003 and the EMCY queue (R622 to
R624), persistence (R620, R621), the read window (R619), and the expiry of faults that need no recovery (R612). -/

namespace Sys2Proof.Machine

/-- The eight words of an entry (R614). -/
def Entry.words (e : Entry) : List Nat :=
  [e.code % 65536 + e.cls % 8 * 65536 + (if e.coarse then 2 ^ 19 else 0) + (if e.late then 2 ^ 20 else 0) +
     (if e.clear then 2 ^ 21 else 0) + (if e.persist then 2 ^ 22 else 0) + e.index % 256 * 2 ^ 24,
   e.stamp % 2 ^ 32, e.stamp / 2 ^ 32 % 2 ^ 32, e.seq % 2 ^ 32, e.mode % 8 + e.supp % 256 * 256, e.d5, e.d6, e.d7]

/-- Its 32 bytes. -/
def Entry.bytes (e : Entry) : List Byte := e.words.flatMap (leBytes 4)

/-- Where the entry with sequence number `q` lies (the ring of chapter 23). -/
def jnlAddr (q : Nat) : Nat := 0x20300000 + q % 4096 * 32

/-- Error register bit and error code of a fault code (R622). -/
def errBit (code : Nat) : Nat :=
  if 0x0130 ≤ code ∧ code ≤ 0x0132 then 3
  else
    let src := code / 256
    if src = 0x10 ∨ src = 0x11 ∨ src = 0x13 ∨ src = 0x14 then 1
    else if src = 0x02 ∨ src = 0x04 then 2
    else if (0x20 ≤ src ∧ src ≤ 0x24) ∨ src = 0x30 then 4
    else 7
def errCode (code : Nat) : Nat :=
  match errBit code with
  | 3 => 0x4000
  | 1 => 0x2000
  | 2 => 0x3000
  | 4 => 0x8100
  | _ => 0xFF00

/-- The error register 1001 (R622). -/
def State.errReg (s : State) : Nat :=
  if s.jnl.shown.isEmpty then 0
  else s.jnl.shown.foldl (fun a f => putBit a (errBit f.1) true) 1

/-- Dictionary ports and the node IDs in effect on them (R517). -/
def State.dictPorts (s : State) : List Nat := (s.od.nodes.filter fun x => x.2 != 0).map (·.1)

/-- Queue an EMCY message (R624): at most 16 wait. -/
def State.queueEmcy (s : State) (e : Entry) : State :=
  if e.cls < s.emcyMin ∨ s.dictPorts.isEmpty then s
  else if 16 ≤ s.jnl.emcy.length then
    (s.setJnl { s.jnl with emcyDrop := Nat.min 65535 (s.jnl.emcyDrop + 1) }).raise .JNL_EMCY_DROP 0 [] (sec 1)
  else
    s.setJnl { s.jnl with emcy := s.jnl.emcy ++ [{ err := if e.clear then 0 else errCode e.code, reg := s.errReg, code := e.code,
                                                   idx := e.index, seq := e.seq, ports := s.dictPorts }] }

/-- The newest of `q` (unless `none` holds yet) and of `qs`, by the signed difference of R615. -/
def newest (q : Nat) (none : Bool) (qs : List Nat) : Nat :=
  (qs.foldl (fun (a : Nat × Bool) x => if a.2 || decide (0 < signed 32 ((x + 2 ^ 32 - a.1) % 2 ^ 32)) then (x, false) else a) (q, none)).1

/-- Data NVM keeps the last 512 persisted entries (R620). -/
def State.persist (s : State) (es : List (Nat × List Byte)) : State :=
  let all := s.jnl.nvm ++ es
  s.setJnl { s.jnl with nvm := all.drop (all.length - 512), nvmCount := s.jnl.nvmCount + es.length
                        seqPers := newest s.jnl.seqPers (s.jnl.nvmCount == 0) (es.map (·.1)) }

/-- A PERSIST entry is about to be overwritten in the ring before it has been persisted (R618). -/
def State.overwrite (s : State) (q : Nat) : State :=
  if s.jnl.wait.contains q then
    (s.setJnl { s.jnl with wait := s.jnl.wait.filter (· ≠ q), waitSince := s.jnl.waitSince.eraseIdx (s.jnl.wait.idxOf q), overrun := Nat.min 65535 (s.jnl.overrun + 1) }).raise
      .JNL_OVERRUN 0 [] (sec 1)
  else s

/-- The entry takes its place among those that wait for persistence, or its own commit (R138, R167, R618). -/
def State.toPersist (s : State) (e : Entry) : State :=
  if !e.persist then s
  else if e.code = FaultId.SUPPLY_LOSS.code ∧ !e.clear then
    if s.sup.lossKept then s.setJnl { s.jnl with retained := s.jnl.retained ++ [(e.seq, e.bytes)] }
    else s.persist [(e.seq, e.bytes)]
  else if e.code = FaultId.BERTH_RAMP_OK.code ∨ e.code = FaultId.BERTH_RAMP_FAIL.code then
    { s with berth := { s.berth with commit := s.berth.commit ++ [(e.seq, e.bytes)] } }
  else s.setJnl { s.jnl with waitSince := s.jnl.waitSince ++ [s.now], wait := s.jnl.wait ++ [e.seq] }

/-- An entry becomes visible (R38, R39, R615, R622 to R624). -/
def State.makeVisible (s : State) (e : Entry) : State :=
  let late := s.jnl.any && decide (e.born < s.jnl.lastStamp) && decide (e.stamp < s.jnl.lastLog)
  let q := s.jnl.next
  let e := { e with seq := q, late := late }
  let s := if s.jnl.fill = 4096 then s.overwrite ((q + 2 ^ 32 - 4096) % 2 ^ 32) else s
  let s := s.setBytes (jnlAddr q) e.bytes
  let j := s.jnl
  let s := s.setJnl { j with
    next := (q + 1) % 2 ^ 32, any := true, fill := Nat.min 4096 (j.fill + 1), lastStamp := Nat.max j.lastStamp e.born
    lastLog := if j.lastStamp ≤ e.born then e.stamp else j.lastLog
    shown := if e.cls = 0 then j.shown
      else if e.clear then j.shown.filter (· ≠ (e.code, e.index))
      else (e.code, e.index) :: j.shown.filter (· ≠ (e.code, e.index))
    err1003 := if e.cls = 0 || e.clear then j.err1003 else ((errCode e.code + e.code * 65536) :: j.err1003).take 16 }
  let s := (s.toPersist e).queueEmcy e
  if late then s.raise .JNL_LATE else s

/-- A clock or a welt has failed: entries may reach the journal late (R39). -/
def State.pathFault (s : State) : Bool :=
  s.jnl.active.any fun a => a.f == .CLK_DOMAIN_LOSS || a.f == .CLK_REF_LOSS || a.f == .WELT_OVF

/-- The next stamped entry becomes visible, 128 µs after its stamp (R38). After a clock or welt fault the first `held` entries may not have
reached the journal yet, so that the one behind them is the next (R39). -/
def State.nextVisible (s : State) (held : Nat := 0) : State :=
  let k := if s.pathFault then Nat.min held (s.jnl.pend.length - 1) else 0
  match s.jnl.pend.drop k with
  | [] => s
  | e :: r => ((s.advanceTo (e.born + us 128)).setJnl { s.jnl with pend := s.jnl.pend.take k ++ r }).makeVisible e

/-- Every entry whose 128 µs have run becomes visible. -/
def State.visibleAll (s : State) : State :=
  s.each (s.jnl.pend.filter fun e => decide (e.born + us 128 ≤ s.now)) fun s _ => s.nextVisible

/-! ## Persistence -/

/-- A data-NVM write of a store or of a flush is in progress (R620). -/
def State.nvmBusy (s : State) : Bool := !s.jnl.flushing.isEmpty || s.od.jobs.any fun j => j.begun

/-- NVM writes that have not begun are deferred (R165). -/
def State.nvmDeferred (s : State) : Bool := s.flag F.BERTH_SUP_STAT_STORE_DEFER

/-- Flushes may start: not in Limp, Recovery or asleep, pair A running, no other NVM write, nothing deferred, no hold-up (R620,
R621). -/
def State.mayFlush (s : State) : Bool :=
  s.awake && s.mode' != 5 && s.mode' != 7 && s.clk.aDown.isNone && !s.nvmBusy && !s.nvmDeferred && !s.flag F.BERTH_SUP_STAT_HOLDUP

/-- A flush of at most `n` entries begins (R620). -/
def State.beginFlush (s : State) (n : Nat) : State :=
  if !s.mayFlush || s.jnl.wait.isEmpty then s
  else s.setJnl { s.jnl with flushing := s.jnl.wait.take n, flushReq := false }

/-- True time at which the oldest waiting entry began to wait. -/
def State.oldestWait (s : State) : Nat := s.jnl.waitSince.head?.getD 0

/-- A trigger of R620 holds: 16 entries wait, the oldest has waited 1 s, or a flush was requested. -/
def State.flushDue (s : State) : Bool :=
  decide (16 ≤ s.jnl.wait.length) || s.jnl.flushReq || (!s.jnl.wait.isEmpty && decide (s.oldestWait + sec 1 ≤ s.now))

/-- Pair A flushes as class C5 work, which overload defers (R31, R620). With nothing due yet, the oldest entry's second runs out. -/
def State.journalFlush (s : State) : State :=
  if s.jnl.wait.isEmpty then s
  else
    let s := if s.flushDue then s else s.advanceTo (s.oldestWait + sec 1)
    if s.flag F.SYS_LOAD_C5_DEFER then s else s.beginFlush 64

/-- After 2 s of deferral one flush runs ahead of C4, and deferral resumes (R31). -/
def State.forcedFlush (s : State) : State :=
  match s.jnl.deferSince with
  | none => s
  | some t =>
    let s := s.advanceTo (t + sec 2)
    (s.setJnl { s.jnl with deferSince := some s.now }).beginFlush 64

/-- A flush is requested (JNL_CMD.FLUSH, 2E00:08, R620): it begins now, or as soon as it may. -/
def State.flushCommand (s : State) : State :=
  if s.jnl.wait.isEmpty then s
  else
    let s := s.setJnl { s.jnl with flushReq := true }
    if s.flag F.SYS_LOAD_C5_DEFER then s else s.beginFlush 64

/-- The running flush has committed its entries, or its read-back failed (R620, R621). -/
def State.flushComplete (s : State) (ok : Bool) : State :=
  if s.jnl.flushing.isEmpty then s
  else if ok then
    let done := s.jnl.flushing.filter fun q => s.jnl.wait.contains q
    let s := s.persist (done.map fun q => (q, s.bytes (jnlAddr q) 32))
    let s := s.setJnl { s.jnl with wait := s.jnl.wait.filter (fun q => !done.contains q)
                                   waitSince := s.jnl.waitSince.drop done.length, flushing := [] }
    s.clearFault .JNL_NVM_FAIL
  else (s.setJnl { s.jnl with flushing := [] }).raise .JNL_NVM_FAIL

/-- Entries that AON retention holds for the loss of the supply are persisted, then the count found there is reported (R167, R621). -/
def State.journalBoot (s : State) : State :=
  let s := (s.persist s.jnl.retained).setJnl { s.jnl with retained := [] }
  let n := s.jnl.lost
  if n = 0 then s else (s.setJnl { s.jnl with lost := 0 }).raise .JNL_LOST 0 [n]

/-! ## Reading and clearing -/

/-- JNL_SEQ_NEW and JNL_SEQ_OLD. -/
def State.seqNew (s : State) : Nat := if s.jnl.any then (s.jnl.next + 2 ^ 32 - 1) % 2 ^ 32 else 0
def State.seqOld (s : State) : Nat := if s.jnl.any then (s.jnl.next + 2 ^ 32 - s.jnl.fill) % 2 ^ 32 else 0

/-- A write to JNL_RD_SEQ loads the window (R619). -/
def State.readWindow (s : State) (q : Nat) : State :=
  let ahead := decide (0 < signed 32 ((q + 2 ^ 32 - s.seqNew) % 2 ^ 32)) || !s.jnl.any
  let gone := decide (signed 32 ((q + 2 ^ 32 - s.seqOld) % 2 ^ 32) < 0)
  let st := if ahead then 2 else if gone then 1 else 0
  let s := (s.wr .JNL_RD_SEQ 0 (BitVec.ofNat 32 q)).setFld F.JNL_RD_STAT_STAT 0 st
  s.each (List.range 8) fun s k =>
    s.wr .JNL_WIN k (BitVec.ofNat 32 (if st = 0 then s.word (jnlAddr q + 4 * k) else 0))

/-- 1003 is emptied (R623). -/
def State.clr1003 (s : State) : State := s.setJnl { s.jnl with err1003 := [] }

/-- A fault of recovery N ends 1 s after its raise, without a clear entry (R612, R613). -/
def State.faultExpiry (s : State) : State :=
  match (s.jnl.active.filter fun a => a.f.recov == [.N]).getLast? with
  | none => s
  | some a =>
    let s := s.advanceTo (a.since + sec 1)
    s.setJnl { s.jnl with active := s.jnl.active.filter (fun b => !(b.f == a.f && b.idx == a.idx))
                          shown := s.jnl.shown.filter (· ≠ (a.f.code, a.idx % 256)) }

end Sys2Proof.Machine
end

