-- ==== Sys2Proof/Machine/Protect.lean ====
section
/-! DEFINITION. Channel protection: the fast trip (R195), levels 1 and 2 (R197 to R201), the wire model (R202 to R211), the feed
limiter (R212 to R216), the sag (R217) and clears (R222 to R226). -/

namespace Sys2Proof.Machine

/-! ## Wire model -/

/-- Parameters of a wire class as its registers hold them (R202). -/
structure WireClass where
  res : Nat
  cc : Nat
  cs : Nat
  rcs : Nat
  rsa : Nat
  tlim : Nat
  rst : Nat
deriving DecidableEq, Repr

/-- Class `c`; while it is safe it runs with the defaults of R207 (R70). -/
def State.wireClass (s : State) (c : Nat) : WireClass :=
  let rd := fun r => (if s.isSafe (.wireClass c) then resetVal (r, c) else s.rd r c)
  let res := rd .PROT_WC_RES
  let cap := rd .PROT_WC_CAP
  let th := rd .PROT_WC_TH
  { res := F.PROT_WC_RES_RES.of res, tlim := F.PROT_WC_RES_TLIM.of res, rst := F.PROT_WC_RES_RST.of res
    cc := F.PROT_WC_CAP_CC.of cap, cs := F.PROT_WC_CAP_CS.of cap
    rcs := F.PROT_WC_TH_RCS.of th, rsa := F.PROT_WC_TH_RSA.of th }

/-- The class of a channel: that of its lead, or class 0 while its PROT_CFG unit is safe (R70, R206). -/
def State.classOf (s : State) (n : Nat) : WireClass :=
  let n := s.lead n
  if s.isSafe (.protCh n) then s.wireClass 0 else s.wireClass (s.fld F.PROT_CFG_WCLASS n)

/-- Ambient of a channel in 1/1,024 °C (R203, R70). -/
def State.ta (s : State) (n : Nat) : Int :=
  let n := s.lead n
  s.tp + 1024 * (if s.isSafe (.protCh n) then 10 else signed 8 (s.fld F.PROT_CFG_AMB_OFS n))

/-- Nearest integer to a / b, halves upward (R202), for a positive b. -/
def roundUp (a : Int) (b : Int) : Int := (2 * a + b) / (2 * b)

/-- One step of the model (R202): tc and ts in 1/1,024 °C, avg1 in 2.5 mA. -/
def WireClass.step (c : WireClass) (tc ts ta avg1 : Int) : Int × Int :=
  let pd : Int := 160000 * 1000000 * 102400000
  let pn : Int := avg1 * avg1 * c.res * (102400000 + 393 * (tc - 20480))
  let num := 1024 * (pn * 1024 * c.rcs - 100 * (tc - ts) * pd)
  let den : Int := 10 * c.cc * pd * 1024 * c.rcs
  let num2 := 10 * ((tc - ts) * c.rsa - (ts - ta) * c.rcs)
  let den2 : Int := c.cs * c.rcs * c.rsa
  (roundUp (tc * den + num) den, roundUp (ts * den2 + num2) den2)

/-- The wire condition for a clear holds (R205). -/
def State.wireOk (s : State) (n : Nat) : Bool :=
  let c := s.classOf n
  let ta := s.ta n
  let lim : Int := 1024 * c.tlim
  decide (ta < lim) && decide (100 * (s.swc (s.lead n)).tc ≤ 100 * ta + (lim - ta) * c.rst)

/-- The start of R210 for a rated current `ir`: steady state, capped at the restart threshold. -/
def WireClass.start (c : WireClass) (ta ir : Int) : Int × Int :=
  let lim : Int := 1024 * c.tlim
  let rt : Int := c.rcs + c.rsa
  if lim ≤ ta then (ta, ta)
  else
    let den : Int := 10 ^ 13 - ir * ir * c.res * 393 * rt
    let num : Int := ir * ir * c.res * (102400000 + 393 * (ta - 20480)) * rt
    let capN : Int := (lim - ta) * c.rst
    -- rise = num / den, or capN / 100 where den is not positive or the rise is above it
    if den ≤ 0 ∨ capN * den < 100 * num then (ta + roundUp capN 100, ta + roundUp (capN * c.rsa) (100 * rt))
    else (ta + roundUp num den, ta + roundUp (num * c.rsa) (den * rt))

/-- Every model starts at R210; WIRE_START_DEFAULT is journalled once. -/
def State.wireDefault (s : State) : State :=
  let s := s.each (List.range 64) fun s n =>
    let r := (s.classOf n).start (s.ta n) (if s.paired n then 24 else 12)
    let r := if s.lead n = n then r else (s.ta n, s.ta n)
    s.setSwc n { s.swc n with tc := r.1, ts := r.2 }
  s.raise .WIRE_START_DEFAULT

/-- e^(-num / den) scaled by 2^64: a Taylor sum on num / (den * 2^16), squared 16 times. -/
def expNeg (num den : Nat) : Nat :=
  if 64 * den ≤ num then 0
  else
    let one := 2 ^ 64
    let x := num * 2 ^ 48 / Nat.max den 1
    let t := one - x + x * x / (2 * one) - x * x * x / (6 * one * one)
    (List.range 16).foldl (fun y _ => y * y / one) t

/-- The models resume from their retained state after `asleep` ms of sleep (R209): the rise above the ambient at sleep has decayed
with the slow time constant. `kept` holds tc, ts and ta at sleep commit. -/
def State.wireResume (s : State) (kept : List (Nat × (Int × Int × Int))) (asleep : Nat) : State :=
  s.each (List.range 64) fun s n =>
    match lookup n kept with
    | none => s
    | some k =>
      let c := s.classOf n
      let f : Int := expNeg (asleep * 10) ((c.cc + c.cs) * (c.rcs + c.rsa))
      let ta := s.ta n
      let back := fun (t : Int) => ta + roundUp ((t - k.2.2) * f) (2 ^ 64)
      s.setSwc n { s.swc n with tc := back k.1, ts := back k.2.1 }

/-- The signed AVG1 of a channel, 2.5 mA. -/
def State.avg1 (s : State) (n : Nat) : Int := signed 16 (s.fld F.SW_CUR_AVG1 n)

/-- One step of the model of one channel, and its trip (R202, R204, R206). -/
def State.wireStep (s : State) (n : Nat) : State :=
  if s.lead n ≠ n then s.setSwc n { s.swc n with tc := s.ta n, ts := s.ta n }
  else
    let c := s.classOf n
    let x := s.swc n
    let i := (s.cells n).foldl (fun a m => a + s.avg1 m) 0
    let r := c.step x.tc x.ts (s.ta n) i
    let s := s.setSwc n { x with tc := r.1, ts := r.2 }
    if (1024 : Int) * c.tlim < r.1 ∧ !s.held n .wire then
      let s := (s.bump F.PROT_CNT_WIRE n).setFlag F.PROT_EVT_WIRE n
      (s.raise .WIRE_TRIP n [] (sec 1)).setHold n .wire
    else s

/-- In ON, PAVG and ONAVG are the mean of the last 10 ms, every 10 ms (R191); `sum`: that of the millisecond's 20 samples. -/
def State.onMeans (s : State) (n : Nat) (sum : Int) : State :=
  let x := s.swc n
  if x.st ≠ 1 then s
  else
    let l := sum :: x.ten
    if l.length < 10 then s.setSwc n { x with ten := l }
    else
      let v := unsigned 16 (roundDiv (l.foldl (· + ·) 0) 200)
      ((s.setSwc n { x with ten := [] }).setFld F.SW_CURPER_PAVG n v).setFld F.SW_CURPER_ONAVG n v

/-- What the converter and the sensors of a channel show over the last 1 ms (R191, R200, R247): every sample is corrected and taken at its own
time, the latest of them is INST, their mean AVG1. LIMITING: the latest sample is at the active limit (DESIGN CHOICE, log 102). -/
def State.measure (s : State) (m : Meas) : State :=
  let n := m.ch.val
  let k := m.raw.length
  let l := (List.range k).zip m.raw |>.map fun r => s.sample n (s.now - (k - 1 - r.1) * 50000) r.2
  let s := (s.setFld F.SW_TEMP_TJ n (satSigned 8 m.tj)).setFld F.CAL_CH_DSTAT_VOUT n (satSigned 16 m.vout)
  match l.getLast? with
  | none => s
  | some inst =>
    let s := (s.setFld F.SW_CUR_INST n (unsigned 16 inst)).setFld F.SW_CUR_AVG1 n (unsigned 16 (meanOf l))
    let s := s.setFlag F.SW_STAT_LIMITING n ((s.swc n).driving && decide (400 * s.activeLimit n ≤ inst.natAbs))
    (s.peak n l).onMeans n (20 * meanOf l)

/-- In ON the current of a channel is evaluated against the open-load threshold at every 1 ms mean (R249). -/
def State.olOn (s : State) (n : Nat) : State :=
  if s.lead n = n ∧ (s.swc n).st = 1 then s.olEval n ((s.cells n).foldl (fun t c => t + s.avg1 c) 0) else s

/-- The 1 ms step of every model (R202), with the measurements of that millisecond. -/
def State.wireStepAll (s : State) (l : List Meas) : State :=
  if !s.powered then s
  else
    let s := s.advanceTo (s.clk.msAt + ms 1)
    let s : State := { s with clk := { s.clk with msAt := s.now } }
    let s := (s.each l fun s m => s.measure m).each l fun s m => s.olOn m.ch
    s.each (List.range 64) fun s n => s.wireStep n

/-! ## Fast trip, level 1, level 2 -/

/-- The gate of either cell of a channel is on. -/
def State.gateOn (s : State) (n : Nat) : Bool := (s.cells n).any fun c => (s.swc c).gateOn (s.now - s.clk.g0)
/-- Conducting: driven and without a hold, and not in the wait between two settings of PWM (R174). -/
def State.conducting (s : State) (n : Nat) : Bool := (s.swc n).driving && !(s.swc n).inGap s.g && s.holdRank n == 0

/-- The comparator of a cell sees a current, mA, against 1.5 × its own active limit (R195, R196). The threshold is taken at its nominal value
(DESIGN CHOICE, log 102). -/
def State.fastTrip (s : State) (n cur : Nat) : State :=
  if !(s.swc n).gateOn (s.now - s.clk.g0) ∨ cur < 1500 * s.activeLimit n then s
  else
    let s := (s.bump F.PROT_CNT_FT n).setFlag F.PROT_EVT_FT n
    (s.raise .FAST_TRIP n).setHold n .ft

/-- TP in whole terms of 1/1,024 °C against a junction temperature in °C. -/
def State.above (s : State) (tj dt : Int) : Bool := decide (s.tp + 1024 * dt ≤ 1024 * tj)

/-- A level-1 crossing while the gate is on (R197, R198, R201). -/
def State.l1Trip (s : State) (n : Nat) (tj : Int) : State :=
  let s := s.setFld F.SW_TEMP_TJ n (satSigned 8 tj)
  if !s.gateOn n ∨ !(decide (170 ≤ tj) || s.above tj 60) then s
  else
    let s := (s.bump F.PROT_CNT_L1 n).setFlag F.PROT_EVT_L1 n
    let s := s.raise .L1_TRIP n [] (sec 1)
    if s.flag F.PROT_CFG_L1_LATCH (s.lead n) then s.setHold n .l1Latch
    else if 8 ≤ (s.restartsOf (s.lead n)).length then
      ((s.setFlag F.PROT_EVT_BUDGET n).raise .RESTART_BUDGET n).setHold n .budget
    else s.setHold n .l1

/-- Every cell of the channel is cool enough for a level-1 restart (R198), by TJ as SW_TEMP reports it. -/
def State.cool (s : State) (n : Nat) : Bool :=
  (s.cells n).all fun c =>
    let tj := signed 8 (s.fld F.SW_TEMP_TJ c)
    decide (tj ≤ 155) && decide (1024 * tj - s.tp ≤ 45 * 1024)

/-- The pending restart ends and counts (R198, R219); the channel conducts again as a start unless another hold is in force. -/
def State.l1Restart (s : State) (n : Nat) (tj tj2 : Int) : State :=
  let cs := s.cells n
  let s := s.each (cs.zip [tj, tj2]) fun s c => s.setFld F.SW_TEMP_TJ c.1 (satSigned 8 c.2)
  if !(s.heldIn n 6 6) ∨ !s.cool n then s
  else
    let s := s.each cs fun s c => s.setSwc c { s.swc c with restarts := (s.now :: (s.restartsOf c)).take 16 }
    (s.each cs fun s c => s.clearFault .L1_TRIP c).endHold n .l1

/-- A 1 ms reading of the channel supervisor (R200): at or above the ceiling, with the commanded mode not OFF. -/
def State.l2Reading (s : State) (n : Nat) (tj : Int) : State :=
  let s := s.setFld F.SW_TEMP_TJ n (satSigned 8 tj)
  let l := s.lead n
  let ceil : Int := if s.isSafe (.protCh l) then 110 else s.fld F.PROT_CFG_CEIL l
  if s.fld F.SW_OUT_MODE l = 0 ∨ tj < ceil ∨ s.held n .ceil then s
  else ((s.setFlag F.PROT_EVT_CEIL n).raise .L2_CEILING n).setHold n .ceil

/-! ## Feed limiter -/

/-- PROT_FL_CTRL fields, with the safe values of R70. -/
def State.relPct (s : State) (f : Nat) : Nat := if s.isSafe (.feedLim f) then 85 else s.fld F.PROT_FL_CTRL_REL_PCT f
def State.relTime (s : State) (f : Nat) : Nat := ms 100 * (if s.isSafe (.feedLim f) then 10 else s.fld F.PROT_FL_CTRL_REL_TIME f)
def State.repeatNs (s : State) (f : Nat) : Nat := sec (if s.isSafe (.feedLim f) then 10 else s.fld F.PROT_FL_CTRL_REPEAT f)

/-- Sum of the last 100 ms in units of 2.5 mA × 100 (R212). -/
def FeedLim.sum (l : FeedLim) : Int := l.win.foldl (· + ·) 0
/-- The average exceeds the adopted capacity (R213). -/
def State.feedOver (s : State) (f : Nat) : Bool := decide ((s.cap f * 400 * 100 : Nat) < (s.flc f).sum)
/-- The average is at or below REL_PCT of the capacity (R215, R222). -/
def State.feedCalm (s : State) (f : Nat) : Bool := decide ((s.flc f).sum ≤ (s.cap f * 400 * s.relPct f : Nat))
/-- Leading channels of a feed. -/
def State.feedLeads (s : State) (f : Nat) : List Nat := (s.leads).filter fun n => feedOf n == f
/-- Priority class of a channel (R187). -/
def State.prio (s : State) (n : Nat) : Nat := s.fld F.PROT_CFG_PRIO (s.lead n)

/-- A shed decision (R213, R214, R216). -/
def State.shedDecision (s : State) (f : Nat) : State :=
  let l := s.flc f
  if !s.feedOver f ∨ l.hold.isSome then s
  else
    let on := (s.feedLeads f).filter fun n => s.conducting n
    match (List.range 4).find? fun c => on.any fun n => s.prio n == c with
    | none =>
      let s := (s.setFld F.PROT_FL_STAT_STATE f 3).setFlag F.PROT_FL_EVT_OVER_AUX f
      if s.active .FEED_OVER_AUX f then s else s.raise .FEED_OVER_AUX f
    | some c =>
      let ns := on.filter fun n => s.prio n == c
      let again := match l.lastRest with
        | some t => decide (s.now < t + s.repeatNs f)
        | none => false
      let s := s.setFlc f { l with hold := some (s.now + ms 100), rest := if again then l.rest else none
                                   shed := if again then l.shed else c :: l.shed.filter (· ≠ c) }
      let s := s.each ns fun s n =>
        let s := s.each (s.cells n) fun s m =>
          (s.bump F.PROT_CNT_SHED m).setFlag (if again then F.PROT_EVT_FL_LATCH else F.PROT_EVT_FL_SHED) m
        s.setHold n (if again then .flLatch else .flShed)
      let s := s.setFld F.PROT_FL_STAT_STATE f 1
      if again then
        ((s.setBit F.PROT_FL_STAT_LATCH f c).setFlag F.PROT_FL_EVT_LATCH f).raise .FEED_LATCH f [c]
      else
        ((s.setBit F.PROT_FL_STAT_SHED f c).setFlag F.PROT_FL_EVT_SHED f).raise .FEED_SHED f [c]

/-- What the average shows of a limiter's state. -/
def State.limiterState (s : State) (f : Nat) : State :=
  let l := s.flc f
  if s.feedOver f then s
  else
    let s := s.clearFault .FEED_OVER_AUX f
    s.setFld F.PROT_FL_STAT_STATE f (if l.hold.isSome then 1 else if l.rest.isSome then 2 else 0)

/-- The 1 ms update of a feed limiter (R212 to R214); `aux` is the auxiliary share in 2.5 mA. -/
def State.limiterUpdate (s : State) (f : Nat) (aux : Int) : State :=
  if !s.powered then s
  else
    let aux := if f = 1 ∨ f = 2 then aux else 0
    let sum := ((List.range 16).map fun i => s.avg1 (f * 16 + i)).foldl (· + ·) aux
    let l := s.flc f
    let s := s.advanceTo (l.at0 + ms 1)
    let l := { l with win := (sum :: l.win).take 100, aux := (aux :: l.aux).take 100, at0 := s.now }
    let s := s.setFlc f l
    let s := (s.setFld F.PROT_FL_STAT_AVG f (satSigned 16 (roundDiv l.sum 4000))).setFld F.PROT_FL_AUX_AUX f
      (Nat.min 65535 (roundDiv (l.aux.foldl (· + ·) 0) 4000).toNat)
    let s := s.setFlc f { s.flc f with below := if s.feedCalm f then some ((s.flc f).below.getD s.now) else none }
    (s.shedDecision f).limiterState f

/-- The hold-off of a limiter ends (R213); an average still above the capacity sheds again. -/
def State.holdoffEnd (s : State) (f : Nat) : State :=
  match (s.flc f).hold with
  | none => s
  | some t =>
    let s := s.advanceTo t
    let s := s.setFlc f { s.flc f with hold := none }
    (s.limiterState f).shedDecision f

/-- The order in which held channels return: descending priority class, ascending phase, ascending number (R163). -/
def State.restoreOrder (s : State) (ns : List Nat) : List Nat :=
  let before := fun a b =>
    decide (s.prio b < s.prio a) || (s.prio a == s.prio b &&
      (decide (s.fld F.SW_PHASE_PHASE a < s.fld F.SW_PHASE_PHASE b) ||
        (s.fld F.SW_PHASE_PHASE a == s.fld F.SW_PHASE_PHASE b && decide (a < b))))
  ns.foldl (fun l n => l.filter (fun m => before m n) ++ n :: l.filter (fun m => !before m n)) []

/-- Restore step, ns (R163, R70). -/
def State.staggerNs (s : State) : Nat := ms (if s.isSafe .supCfg then 15 else s.fld F.BERTH_SUP_CTRL_STAGGER)

/-- Channels of the restoring class that a step may turn on: shed, commanded other than OFF, and without a hold of ranks 1 to 6 or
8 (R215, R219). -/
def State.flWaiting (s : State) (f c : Nat) : List Nat :=
  s.restoreOrder ((s.feedLeads f).filter fun n =>
    s.prio n == c && s.held n .flShed && s.fld F.SW_OUT_MODE n != 0 && !s.heldIn n 1 6 && !s.heldIn n 8 8)

/-- One turn-on of a class restore; after the last one the restore is complete (R215, R216). -/
def State.flStep (s : State) (f : Nat) : State :=
  let l := s.flc f
  match l.rest with
  | none => s
  | some r =>
    let s := s.advanceTo r.next
    let s := match s.flWaiting f r.cls with
      | n :: _ => s.endHold n .flShed
      | [] => s
    match s.flWaiting f r.cls with
    | _ :: _ => s.setFlc f { s.flc f with rest := some { r with next := s.now + s.staggerNs } }
    | [] =>
      let s := s.each ((s.feedLeads f).filter fun n => s.prio n == r.cls && s.held n .flShed) fun s n => s.endHold n .flShed
      let l := s.flc f
      let shed := l.shed.filter (· ≠ r.cls)
      let s := s.setFlc f { l with rest := none, shed := shed, lastRest := some s.now, below := some s.now }
      let s := ((s.setBit F.PROT_FL_STAT_SHED f r.cls false).setFlag F.PROT_FL_EVT_RESTORE f).limiterState f
      if shed.isEmpty then s.clearFault .FEED_SHED f else s

/-- The average has stayed low for REL_TIME: the most recently shed class is restored (R215); where its restore runs already, its next
channel turns on. -/
def State.flRestore (s : State) (f : Nat) : State :=
  let l := s.flc f
  match l.shed, l.below with
  | c :: _, some t =>
    if l.rest.isSome then s.flStep f
    else
      let s := s.advanceTo (t + s.relTime f)
      let s := (s.setFlc f { s.flc f with rest := some { cls := c, next := s.now } }).setFld F.PROT_FL_STAT_STATE f 2
      s.flStep f
  | _, _ => s

/-! ## Sag (R217) -/

/-- A sag of a feed begins: the sample `v` is below 85 % of the mean over the preceding 1 ms, both in 10 mV; that level is fixed. `clear`: for
how long, ns, the feed has stayed at or above 85 %. -/
def State.sagBegin (s : State) (f mean v clear : Nat) : State :=
  let l := s.flc f
  if !s.powered ∨ l.sagAt.isSome ∨ 85 * mean ≤ 100 * v ∨ clear < us 50 then s
  else
    let s := s.setFlc f { l with sagAt := some s.now, sagLevel := (85 * mean + 99) / 100 }
    s.each ((List.range 64).filter fun n => feedOf n == f) fun s n => s.freezeInrush n

/-- An inrush phase that a sag has frozen goes on, longer by the time frozen, at most 1 ms per phase. -/
def State.thawInrush (s : State) (n till : Nat) : State :=
  let x := s.swc n
  match x.frzAt with
  | none => s
  | some t =>
    let add := Nat.min (till - t) (ms 1 - x.frozen)
    (s.setFlag F.PROT_STAT_FREEZE n false).setSwc n { x with frzAt := none, frozen := x.frozen + add, inrush := x.inrush.map (· + add) }

/-- The sag of a feed ends: the sample `v`, 10 mV, is back at its fixed level, else 200 µs after it began. -/
def State.sagEnd (s : State) (f v : Nat) : State :=
  let l := s.flc f
  match l.sagAt with
  | none => s
  | some t =>
    let s := if l.sagLevel ≤ v then s else s.advanceTo (t + us 200)
    let s := s.setFlc f { l with sagAt := none }
    s.each ((List.range 64).filter fun n => feedOf n == f) fun s n => s.thawInrush n (Nat.min s.now (t + us 200))

/-- The inrush phase of a channel ends (R183): not while it is frozen. -/
def State.inrushEnd (s : State) (n : Nat) : State :=
  match (s.swc n).inrush with
  | none => s
  | some t =>
    if (s.swc n).frzAt.isSome then s
    else
      let s := s.advanceTo t
      s.setSwc n { s.swc n with inrush := none, frozen := 0 }

/-! ## Clears -/

/-- A clear of the channel is permitted (R222). -/
def State.mayClear (s : State) (n : Nat) : Bool :=
  let l := s.lead n
  s.fld F.SW_OUT_MODE l == 0 && s.cool l && s.wireOk l && s.feedCalm (feedOf l)

/-- A feed has no channel of a class under its feed-limiter latch. -/
def State.latchBits (s : State) (f : Nat) : State :=
  s.each (List.range 4) fun s c =>
    if s.bit F.PROT_FL_STAT_LATCH f c && !((List.range 16).any fun i => s.held (f * 16 + i) .flLatch && s.prio (f * 16 + i) == c) then
      let s := s.setBit F.PROT_FL_STAT_LATCH f c false
      if s.fld F.PROT_FL_STAT_LATCH f = 0 then s.clearFault .FEED_LATCH f else s
    else s

/-- A clear ends a hold, but not one that has been set in the same PWR cycle (R221). -/
def State.liftHold (s : State) (c : Nat) (h : Hold) : State :=
  if s.held c h && lookup h.code (s.swc c).setT == some s.g then s else s.putHold c h false

/-- The faults of the holds of ranks 1 to 6. -/
def Hold.faults : List (FaultId × List Hold) :=
  [(.FAST_TRIP, [.ft]), (.L1_TRIP, [.l1, .l1Latch]), (.L2_CEILING, [.ceil]), (.RESTART_BUDGET, [.budget]), (.WIRE_TRIP, [.wire])]

/-- A clear of one channel (R222): true where it was refused. -/
def State.protClear (s : State) (n : Nat) : State × Bool :=
  if !s.mayClear n then (s.setFlag F.PROT_EVT_CLR_REFUSED n, true)
  else
    let s := s.each (s.cells n) fun s c =>
      let s := s.each [.ft, .ceil, .budget, .l1Latch, .wire, .flLatch, .l1] fun s h => s.liftHold c h
      let s := s.each Hold.faults fun s x => if x.2.any fun h => s.held c h then s else s.clearFault x.1 c
      s.setSwc c { s.swc c with auto := none }
    ((s.setFlag F.PROT_EVT_CLR_DONE n).latchBits (feedOf n) |>.refresh n, false)

/-- A feed-limiter clear (R223): every channel of the feed under the latch hold is judged separately. True where the clear of one was
refused. -/
def State.flClear (s : State) (f : Nat) : State × Bool :=
  ((s.feedLeads f).filter fun n => s.held n .flLatch).foldl (fun (a : State × Bool) n =>
    let r := a.1.protClear n
    (r.1, a.2 || r.2)) (s, false)

/-- Pair B clears a latched channel on your behalf (R226): it records the commanded state and writes OFF, and once R222 permits it requests the
clear and writes the recorded state back. Where R222 does not permit the clear yet, OFF stands and a later event goes on; a newer command drops
the record (DESIGN CHOICE, log 120). -/
def State.autoClear (s : State) (n : Nat) : State :=
  let n := s.lead n
  let x := s.swc n
  let used := x.clears.filter fun t => decide (s.now < t + sec 3600)
  if x.policy = 0 ∨ x.policy ≤ used.length ∨ !s.heldIn n 1 5 ∨ s.clk.bDown.isSome ∨ s.mode' = 5 then s
  else
    let was := x.auto.getD (s.fld F.SW_OUT_MODE n, s.fld F.SW_OUT_DUTY n)
    let s := if x.auto.isSome then s else s.command n 0 was.2 none
    let s := s.setSwc n { s.swc n with auto := some was }
    if !s.mayClear n then s
    else
      let s := (s.protClear n).1
      let s := s.setSwc n { s.swc n with clears := s.now :: used, auto := none }
      if s.onRefused n was.1 then s else s.command n was.1 was.2 none

end Sys2Proof.Machine
end

