-- ==== Sys2Proof/Machine/Mode.lean ====
section
/-! DEFINITION. Modes (R141 to R150): triggers and their race (R144), mode requests (R145), what entering a mode does (R146 to R149),
processor pairs and their load (R23 to R32), and the plate sensors' judgement (R112 to R114). -/

namespace Sys2Proof.Machine

/-- A service session is open: level 2 or 3 over SDO or Nydulet (R511). -/
def State.serviceOpen (s : State) : Bool := s.od.sess.any fun x => decide (2 ≤ x.level)

/-- A sleep sequence under way ends without sleep. -/
def State.sleepEnds (s : State) : State := { s with mode := { s.mode with sleeping := false } }

/-- The mode changes; the previous one is kept in SYS_MODE.PREV. A sleep sequence under way ends with it (DESIGN CHOICE, log 101). -/
def State.setMode (s : State) (m : Nat) : State :=
  ((s.setFld F.SYS_MODE_PREV 0 s.mode').setFld F.SYS_MODE_MODE 0 m).sleepEnds

/-- A mode trigger of rank `rank` arises now (R144): whether it is taken, and the state that has taken it. In one interval of 1 µs only
a trigger of a higher rank is taken after another; a mode request that it overtakes is refused with cause 7, and a sleep commit that it
overtakes is discarded (log 11). -/
def State.takeTrigger (s : State) (rank : Nat) : State × Bool :=
  let i := (s.now - s.clk.g0) / 1000
  if s.mode.trigInt = some i ∧ s.mode.trigRank ≤ rank then (s, false)
  else
    let beaten := s.mode.trigInt == some i && s.mode.trigRank == 5
    let s := if beaten then (s.setFld F.SYS_MODE_REFUSE 0 7).raise .MODE_REFUSED 0 [7] else s
    let s := if s.mode.trigInt == some i && s.mode.trigRank == 6 then s.sleepEnds else s
    ({ s with mode := { s.mode with trigInt := some i, trigRank := rank } }, true)

/-- A module reset is asked for, with its bit of SYS_RST_CAUSE; it runs when the command in progress ends. -/
def State.askReset (s : State) (bit : Nat) : State := { s with mode := { s.mode with reset := some (s.mode.reset.getD bit) } }

/-- Entry to Limp by a fault with reaction MODULE_LIMP (R143, R148, R149, R306, R370), unless it loses the race of R144. -/
def State.enterLimp (s : State) (f : FaultId) : State :=
  if s.mode' = 2 ∨ s.mode' = 3 ∨ s.mode' = 4 ∨ s.mode' = 6 then
    let r := s.takeTrigger 3
    if !r.2 then s
    else
      let s := (r.1.raise .MODE_LIMP 0 [f.code]).setMode 5
      let s := { s with mode := { s.mode with limpAt := s.now } }
      let s := if 3 ≤ s.fld F.SYS_RST_CAUSE_LIMP_COUNT then s.raise .LIMP_RETRY_LIMIT else s
      s.clearStore.holdStart
  else s

/-- Every running valve event ends with its normal decay, waiting ones are rejected (R146). -/
def State.valvesOff (s : State) : State := s.allValvesStop 13

/-- Entry to Configure (R146, R306, R375): from Operate or Service every output turns off and the bollard's governance ends; from Boot
governance and a running window stay. -/
def State.enterConfigure (s : State) : State :=
  if s.live then
    let s := (s.valvesOff.clearStore).setMode 3
    let s := s.silPause
    s.commandsOff.governanceEnds
  else s.setMode 3

/-- Entry to Operate starts every enabled silence timer at its full TIMEOUT (R366). -/
def State.enterOperate (s : State) : State := (s.setMode 4).silStart

/-- Entry to Service (R147): from Operate outputs keep their states and timers keep running. -/
def State.enterService (s : State) : State := (s.setMode 6).silResume

/-- Entry to Recovery: every output off (R142), while what the bollard governs stays governed (R372, R375); UPD_RECOVERY with its cause, by the order of R606: 1 ROM or the resoler, 2 RECOV low,
3 a mode request. -/
def State.enterRecovery (s : State) (cause : Nat) : State :=
  let s := (s.valvesOff.clearStore).setMode 7
  (s.silPause.commandsOff.bstAll).raise .UPD_RECOVERY 0 [cause]

/-- A feed is mated and present (R143, R145). -/
def State.anyFeed (s : State) : Bool := (List.range 4).any fun f => s.feedUp f

/-- The transition to `target` is in R143 from the present mode, whatever its trigger there (R145). -/
def State.listed (s : State) (target : Nat) : Bool :=
  let m := s.mode'
  match target with
  | 0 => m == 3 || m == 4 || m == 6
  | 1 => m == 3 || m == 4 || m == 6
  | 2 => m == 3 || m == 4 || m == 6 || m == 5
  | 3 => m == 4 || m == 6
  | 4 => m == 3
  | 5 => m == 2 || m == 3 || m == 4 || m == 6
  | 6 => m == 3 || m == 4
  | 7 => m == 3 || m == 4 || m == 6
  | _ => false

/-- The lowest cause of R145 that holds, 0 for none. -/
def State.modeCause (s : State) (target : Nat) (keyOk : Bool) : Nat :=
  if !s.listed target then 1
  else if target = 4 ∧ !s.anyFeed then 2
  else if (target = 6 ∨ target = 7) ∧ !s.serviceOpen then 3
  else if s.extracting then 4
  else if s.mode' = 5 ∧ target ≠ 2 then 5
  else if target = 1 ∨ target = 5 ∨ !keyOk then 6
  else 0

/-- A refused mode request (R145). -/
def State.modeRefuse (s : State) (cause : Nat) : State :=
  (s.setFld F.SYS_MODE_REFUSE 0 cause).raise .MODE_REFUSED 0 [cause]

/-- The Limp retry falls due (R149). -/
def State.limpRetry (s : State) : State :=
  let n := if s.isSafe .sysCfg then 0 else s.fld F.SYS_CFG_LIMP_RETRY
  let k := s.fld F.SYS_RST_CAUSE_LIMP_COUNT
  if s.mode' ≠ 5 ∨ n = 0 ∨ 3 ≤ k then s
  else ((s.advanceTo (s.mode.limpAt + sec n)).setFld F.SYS_RST_CAUSE_LIMP_COUNT 0 (k + 1)).askReset 4

/-! ## Processor pairs -/

def lockstepOf : Pair → FaultId | .A => .LOCKSTEP_A | .B => .LOCKSTEP_B
def State.pairDown (s : State) (p : Pair) : Option Nat := match p with | .A => s.clk.aDown | .B => s.clk.bDown
def State.setPairDown (s : State) (p : Pair) (t : Option Nat) : State :=
  match p with
  | .A => { s with clk := { s.clk with aDown := t } }
  | .B => { s with clk := { s.clk with bDown := t } }
def State.lastMis (s : State) (p : Pair) : Option Nat := match p with | Pair.A => s.clk.aMis | .B => s.clk.bMis
def otherPair : Pair → Pair | .A => .B | .B => .A

/-- A compare mismatch (R23, R25, R370): the pair restarts, the hold window starts; three restarts within 60 s, or mismatches of both
pairs within 1 ms, lead to Limp. INDEX of LOCKSTEP_A is 0 and of LOCKSTEP_B 1; restarts exactly 60 s apart and mismatches exactly 1 ms
apart are not within (DESIGN CHOICE, logs 96, 97). -/
def State.compareMismatch (s : State) (p : Pair) : State :=
  let s := (s.raise (lockstepOf p) p.idx).setPairDown p (some s.now)
  let recent := (s.now :: s.clk.restarts).filter fun t => decide (s.now < t + sec 60)
  let s := { s with clk := { s.clk with restarts := recent, aMis := if p = Pair.A then some s.now else s.clk.aMis
                                        bMis := if p = Pair.B then some s.now else s.clk.bMis } }
  let both := match s.lastMis (otherPair p) with
    | some t => decide (s.now < t + ms 1)
    | none => false
  let third := decide (3 ≤ recent.length)
  let s := ((s.holdStart).when third fun s => s.raise .PAIR_RESTART_LIMIT 0).when both fun s => s.raise .PAIR_RESTART_LIMIT 1
  s.when (third || both) fun s => s.enterLimp .PAIR_RESTART_LIMIT

/-- Frames requested while pair A restarted are pending ones from now on (R417). -/
def State.lateEnds (s : State) : State := s.each (List.range 8) fun s p => s.setCanc p { s.canc p with late := 0 }

/-- The pair's firmware runs again, at most 40 ms after the restart began (R24, R371). -/
def State.pairBack (s : State) (p : Pair) : State :=
  match s.pairDown p with
  | none => s
  | some _ =>
    let s := (s.setPairDown p none).clearFault (lockstepOf p) p.idx
    if p = .A ∧ s.mode' ≠ 5 then s.lateEnds else s

def overloadOf : Pair → FaultId | .A => .OVERLOAD_A | .B => .OVERLOAD_B
def loadFldOf : Pair → Fld | .A => F.SYS_LOAD_LOAD_A | .B => F.SYS_LOAD_LOAD_B
def ovlFldOf : Pair → Fld | .A => F.SYS_LOAD_OVL_A | .B => F.SYS_LOAD_OVL_B

/-- The load of a pair as its 100 ms window shows it, in per cent; a load of 75 or more starts the 500 ms of R29 afresh. -/
def State.loadSeen (s : State) (p : Pair) (load : Nat) : State :=
  (s.setFld (loadFldOf p) 0 (Nat.min load 100)).when (decide (75 ≤ load)) fun s =>
    { s with clk := { s.clk with highAt := assoc p.idx s.now s.clk.highAt } }

/-- The load of a pair reaches 90 % (R29 to R31): C5 and C6 are deferred with pair A. INDEX of OVERLOAD_A is 0 and of OVERLOAD_B 1
(DESIGN CHOICE, log 96). -/
def State.overloadEntry (s : State) (p : Pair) (load : Nat) : State :=
  let s := s.loadSeen p load
  if load < 90 ∨ s.flag (ovlFldOf p) then s
  else
    let s := (s.setFlag (ovlFldOf p)).raise (overloadOf p) p.idx
    match p with
    | .B => s
    | .A => ((s.setFlag F.SYS_LOAD_C5_DEFER).setFlag F.SYS_LOAD_C6_DEFER).setJnl { s.jnl with deferSince := some s.now }

/-- The load has stayed below 75 % for 500 ms (R29), since it was last seen at 75 % or above. -/
def State.overloadExit (s : State) (p : Pair) (load : Nat) : State :=
  let s := s.loadSeen p load
  if 75 ≤ load ∨ !s.flag (ovlFldOf p) then s
  else
    let s := (s.advanceTo ((lookup p.idx s.clk.highAt).getD s.now + ms 500)).setFlag (ovlFldOf p) 0 false
    match p with
    | .B => s
    | .A => ((s.setFlag F.SYS_LOAD_C5_DEFER 0 false).setFlag F.SYS_LOAD_C6_DEFER 0 false).setJnl { s.jnl with deferSince := none }

/-! ## Plate sensors -/

def sensBad : Sens → Bool | .val _ => false | _ => true

/-- INJ and LEDS go to BLOCK_SAFE (R113, R285, R339). -/
def State.injSafe (s : State) : State :=
  let s := s.setSafe .inj
  (s.each (List.range 24) fun s n => s.valveStop n 10).bstAll
def State.ledsSafe (s : State) : State := (s.setSafe .leds).each (List.range 32) fun s n => s.ledRefresh n

/-- TP has risen above 85 °C, or fallen below 82 °C (R112). -/
def State.plateHot (s : State) (t1 t2 : Sens) : State :=
  let s := { s with plate := { t1 := t1, t2 := t2 } }
  if 85 * 1024 < s.tp then (if s.active .PLATE_HOT then s else s.raise .PLATE_HOT)
  else if s.tp < 82 * 1024 then s.clearFault .PLATE_HOT
  else s

/-- TP has been at 100 °C or above for 1 s (R113): INJ and LEDS go safe. -/
def State.plateLimit (s : State) (t1 t2 : Sens) : State :=
  let s := s.plateHot t1 t2
  if 100 * 1024 ≤ s.tp ∧ !s.active .PLATE_LIMIT then ((s.raise .PLATE_LIMIT).injSafe).ledsSafe else s

/-- TP has fallen below 90 °C (R113): the fault ends, INJ and LEDS stay safe. -/
def State.plateLimitClear (s : State) (t1 t2 : Sens) : State :=
  let s := s.plateHot t1 t2
  if s.tp < 90 * 1024 then s.clearFault .PLATE_LIMIT else s

/-- A judgement of R114 has held for 1 s: the sensors differ by more than 5 K, or one or both read open or shorted. -/
def State.plateSensor (s : State) (t1 t2 : Sens) : State :=
  let s := s.plateHot t1 t2
  match t1, t2 with
  | .val a, .val b => if 5 * 1024 < (a - b).natAbs then s.raise .PLATE_SENSOR 0 else s
  | a, b =>
    let s := if sensBad a then s.raise .PLATE_SENSOR 1 else s
    if sensBad b then s.raise .PLATE_SENSOR 2 else s

/-- Both sensors read valid and have agreed within 5 K for 1 s (R114). -/
def State.plateSensorClear (s : State) (t1 t2 : Sens) : State :=
  let s := s.plateHot t1 t2
  match t1, t2 with
  | .val a, .val b =>
    if (a - b).natAbs ≤ 5 * 1024 then ((s.clearFault .PLATE_SENSOR 0).clearFault .PLATE_SENSOR 1).clearFault .PLATE_SENSOR 2 else s
  | _, _ => s

end Sys2Proof.Machine
end

