-- ==== Sys2Proof/Machine/Nm.lean ====
section
/-! DEFINITION. The harbour master (R486 to R504): managed segments and their states, own need, keep-alives, stuck nodes, wake of a
segment, and what of module sleep does not touch the power domains. -/

namespace Sys2Proof.Machine

def State.nmState (s : State) (g : Nat) : Nat := s.fld F.NM_SEG_STAT_STATE g

/-- The harbour master runs: from Configure on, not in Recovery (R504). -/
def State.nmRuns (s : State) : Bool := decide (3 ≤ s.mode') && s.mode' != 7

/-- A segment is managed (R486). -/
def State.managed (s : State) (g : Nat) : Bool :=
  s.nmRuns && s.flag F.NM_SEG_CFG_EN g && s.flag F.NM_CTRL_EN &&
    (if g < 8 then s.flag F.CAN_CTRL_EN g && s.fld F.CAN_CTRL_OPMODE g == 0
     else s.flag F.ETH_PCTRL_EN (g - 8) && s.flag F.ETH_PCTRL_TC10_EN (g - 8))

/-- A segment takes a state; the gateway sees the change (R487, R479). -/
def State.segEnter (s : State) (g st : Nat) : State :=
  let was := s.segGate g
  let up (k : Nat) : Bool := k == 1 || k == 2 || k == 3
  let woke := up st && !up (s.nmState g)
  let s := (s.setFld F.NM_SEG_STAT_STATE g st).setNms g { s.nms g with at0 := s.now, wokeAt := if woke then s.now else (s.nms g).wokeAt }
  s.segChanged g was

/-- The CAN transceiver of a segment changes its state; Ethernet segments have none. Arming starts its frame error counter at 0
(ISO 11898-2). -/
def State.setXcvr (s : State) (g x : Nat) : State :=
  if g < 8 then
    let s := s.setCanc g { s.canc g with xcvr := x }
    if x = 2 then s.setFld F.CAN_SW_STAT_FEC g 0 else s
  else s

def State.restartSilence (s : State) (g : Nat) : State := s.setNms g { s.nms g with silence := s.now }

/-! ## Own need (R488) -/

/-- Need sources that are set: bit 0 SW, 1 the module need, 2 WAKE_IN. -/
def State.needSources (s : State) (g : Nat) : Nat :=
  bit01 (s.flag F.NM_SEG_NEED_SW g) + 2 * bit01 (s.flag F.NM_MODNEED_NEED && s.flag F.NM_SEG_CFG_MODNEED g) +
    4 * bit01 (s.nm.wakeIn && s.flag F.NM_SEG_CFG_WAKEIN g)

/-- The own need is in force: a source is set that has not been released (R488, R495). -/
def State.ownNeed (s : State) (g : Nat) : Bool :=
  (List.range 3).any fun b => bitOf (s.needSources g) b && !bitOf (s.nms g).released b

/-! ## Keep-alives (R490) -/

def State.kaFrame (s : State) (g : Nat) : CanFrame :=
  let n := s.nms g
  let node := s.fld F.NM_SEG_CFG_NODE g
  let inWindow := match n.repeatTo with | some t => decide (s.now < t) | none => false
  { id := s.fld F.NM_SEG_KAID_BASE g + node, xtd := s.flag F.NM_SEG_CFG_XTD g, dlc := 2,
    data := [BitVec.ofNat 8 node, BitVec.ofNat 8 (bit01 inWindow + 2 * bit01 n.lastActive)] }

/-- A keep-alive is generated; the first three after entry to AWAKE are 10 ms apart, later ones T_KA. -/
def State.kaSend (s : State) (g : Nat) : State :=
  let n := s.nms g
  let k := n.fast + 1
  let gap := if k < 3 then ms 10 else ms (10 * s.fld F.NM_SEG_TIME_T_KA g)
  (s.timerPut g 1 (s.kaFrame g)).setNms g { n with fast := Nat.min k 3, kaAt := s.now + gap }

/-- KEEP_ALIVE_SEND falls due. -/
def State.keepAlive (s : State) (g : Nat) : State :=
  if 8 ≤ g ∨ !s.managed g ∨ s.nmState g ≠ 1 then s else (s.advanceTo (s.nms g).kaAt).kaSend g

/-- Entry to AWAKE; a CAN segment sends its first keep-alive at once (R490, R492). -/
def State.goAwake (s : State) (g : Nat) : State :=
  let s := s.segEnter g 1
  let s := s.setNms g { s.nms g with fast := 0 }
  if g < 8 then s.kaSend g else s

/-! ## Wake of a segment (R496, R497) -/

def State.startRepeat (s : State) (g : Nat) : State :=
  s.setNms g { s.nms g with repeatTo := some (s.now + ms (100 * s.fld F.NM_SEG_TIME_REPEAT g)) }

def State.wakeFrame (s : State) (g : Nat) : CanFrame :=
  { id := s.fld F.NM_SEG_WUF_ID g, xtd := s.flag F.NM_SEG_WUF_XTD g, dlc := 8,
    data := leBytes 4 (s.rd .NM_SEG_WUFD0 g).toNat ++ leBytes 4 (s.rd .NM_SEG_WUFD1 g).toNat }

/-- An active wake of an ASLEEP or ISOLATED segment with its cause of R501. -/
def State.activeWake (s : State) (g cause : Nat) : State :=
  let s := s.setFld F.NM_SEG_STAT_WREASON g cause
  let s := (s.setNms g { s.nms g with lastActive := true, heldBy := 0 }).startRepeat g
  let s := (s.setFlag F.NM_SEG_STAT_HELD g false).clearFault .NM_SEG_ISOLATED g
  let s := if g < 8 then
      let s := s.setXcvr g 1
      if s.flag F.NM_SEG_WUF_EN g then s.timerPut g 3 (s.wakeFrame g) else s
    else (s.setFld F.ETH_PSTAT_TC10 (g - 8) 3).linkSetup (g - 8)
  s.goAwake g

/-- A request in COMMIT is held (R497). -/
def State.holdWake (s : State) (g cause : Nat) : State :=
  if s.flag F.NM_SEG_STAT_HELD g then s
  else
    let s := (s.setFlag F.NM_SEG_STAT_HELD g).setFlag F.NM_EVT_HELD
    (s.setNms g { s.nms g with heldBy := cause }).raise .NM_WAKE_HELD g

/-- A wake source after the sleep decision cancels the commit (R500). -/
def State.sleepAbort (s : State) (cause : Nat) : State :=
  if s.mode.sleeping then
    ({ s with mode := { s.mode with sleeping := false } }.setFlag F.NM_EVT_SLEEP_ABORT).raise .NM_SLEEP_ABORT 0 [cause]
  else s

/-- Own need comes into force, or a wake command: an active request (R496). -/
def State.wakeRequest (s : State) (g : Nat) (command : Bool) : State :=
  if !s.managed g then s
  else
    let s := s.sleepAbort 11
    match s.nmState g with
    | 1 => if command then s.startRepeat g else s
    | 4 => s.holdWake g 11
    | 5 => s.activeWake g 11
    | 6 => s.activeWake g 11
    | _ => (if command then s.startRepeat g else s).goAwake g

/-- A WAKE route of the gateway asks for a segment (R478, R496): one request stands until it wakes. -/
def State.gwyWake (s : State) (g : Nat) : State :=
  if s.flag F.GWY_SEG_STAT_WAKE_REQ g || !s.managed g then s
  else match s.nmState g with
    | 4 => ((s.sleepAbort 12).setFlag F.GWY_SEG_STAT_WAKE_REQ g).holdWake g 12
    | 5 => ((s.sleepAbort 12).setFlag F.GWY_SEG_STAT_WAKE_REQ g).activeWake g 12
    | 6 => s.setFlag F.GWY_SEG_STAT_WAKE_REQ g
    | _ => s

/-- The armed transceiver of an ASLEEP segment, or a TC10 wake, wakes it passively with its cause (R496). -/
def State.passiveWake (s : State) (g cause : Nat) : State :=
  if !s.managed g || s.nmState g != 5 then s
  else
    let s := (s.sleepAbort cause).setFld F.NM_SEG_STAT_WREASON g cause
    let s := ((s.setNms g { s.nms g with lastActive := false }).setXcvr g 1).restartSilence g
    if s.ownNeed g then s.goAwake g else s.segEnter g 2

/-- The own need of a segment is judged anew after a source has changed (R488, R492, R495). -/
def State.needUpdate (s : State) (g : Nat) : State :=
  let src := s.needSources g
  let n := s.nms g
  let s := s.setNms g { n with released := bitsOf 3 fun b => bitOf n.released b && bitOf src b }
  let was := s.flag F.NM_SEG_STAT_NEED g
  let is := s.managed g && s.ownNeed g
  let s := s.setFlag F.NM_SEG_STAT_NEED g is
  if is && !was then
    let s := (s.setNms g { s.nms g with ownSince := some s.now }).clearFault .NM_OWN_STUCK g
    (s.setFlag F.NM_SEG_STAT_OWN_STUCK g false).wakeRequest g false
  else if was && !is then
    let s := s.setNms g { s.nms g with ownSince := none }
    let s := if 8 ≤ g then s.restartSilence g else s
    if s.nmState g = 1 ∧ (s.nms g).repeatTo.isNone then s.segEnter g 2 else s
  else s

def State.needAll (s : State) : State := s.each (List.range 12) fun s g => s.needUpdate g

/-- A segment becomes managed or stops being so (R486): a newly managed one is READY. -/
def State.segManage (s : State) (g : Nat) : State :=
  if s.managed g && s.nmState g == 0 then ((s.segEnter g 2).restartSilence g).needUpdate g
  else if !s.managed g && s.nmState g != 0 then
    let asleep := decide (4 ≤ s.nmState g)
    let s := ((s.segEnter g 0).setFlag F.NM_SEG_STAT_HELD g false).setFlag F.NM_SEG_STAT_NEED g false
    let s := s.setNms g {}
    if asleep && g < 8 && s.canRuns g then s.setXcvr g 1 else s
  else s

def State.nmConfigured (s : State) : State := s.each (List.range 12) fun s g => (s.segManage g).needUpdate g

/-- Every segment starts after a Boot (R503): READY, or ASLEEP with START, but for the one whose port woke the module. -/
def State.nmStart (s : State) (woke : Option Nat) : State :=
  let s := s.each (List.range 12) fun s g =>
    if !s.managed g then s.segEnter g 0
    else if s.flag F.NM_SEG_CFG_START g && woke != some g then (s.setXcvr g 2).segEnter g 5
    else (s.segEnter g 2).restartSilence g
  (s.setFlag F.NM_MODNEED_NEED).needAll

/-! ## Frames on a segment (R491, R493) -/

def State.silenceNs (s : State) (g : Nat) : Nat := ms (10 * s.fld F.NM_SEG_TIME_T_SILENCE g)
def State.nmNode (s : State) (g k : Nat) : NmNode := (lookup k (s.nms g).nodes).getD {}
def State.setNode (s : State) (g k : Nat) (x : NmNode) : State := s.setNms g { s.nms g with nodes := assoc k x (s.nms g).nodes }

/-- The node of a keep-alive on segment `g` (R491). -/
def State.kaNode (s : State) (g : Nat) (f : CanFrame) : Option Nat :=
  let base := s.fld F.NM_SEG_KAID_BASE g
  if !f.rtr && f.xtd == s.flag F.NM_SEG_CFG_XTD g && decide (base ≤ f.id) && decide (f.id < base + s.fld F.NM_SEG_CFG_NODES g) then
    some (f.id - base) else none

/-- A counted keep-alive restarts the silence timer (R492). -/
def State.counted (s : State) (g : Nat) : State :=
  let s := s.restartSilence g
  match s.nmState g with
  | 3 => s.segEnter g 2
  | 4 => s.holdWake g 13
  | _ => s

/-- A frame matches the wake-up pattern of a port (R414). -/
def State.isWuf (s : State) (p : Nat) (f : CanFrame) : Bool :=
  let ide := s.flag F.CAN_SW_CFG_IDE p
  let mask := s.fld F.CAN_SW_IDM_ID p % 2 ^ (if ide then 29 else 11)
  let dm := (s.rd .CAN_SW_DLO p).toNat + 2 ^ 32 * (s.rd .CAN_SW_DHI p).toNat
  !f.fdf && !f.rtr && f.xtd == ide && (f.id &&& mask) == (s.fld F.CAN_SW_ID_ID p &&& mask) &&
    (dm == 0 || (f.dlc == s.fld F.CAN_SW_CFG_DLC p && (leNat (f.data.take 8) &&& dm) != 0))

/-- The harbour master sees a valid frame on a managed CAN segment (R491, R493, R496). -/
def State.nmFrame (s : State) (g : Nat) (f : CanFrame) : State :=
  if !s.managed g then s
  else match s.kaNode g f with
    | some k =>
      let x := s.nmNode g k
      if x.stuck then s.setNode g k { x with last := some s.now }
      else
        let fresh := match x.last with | some t => decide (t + s.silenceNs g ≤ s.now) | none => true
        (s.setNode g k { x with last := some s.now, since := if fresh then some s.now else x.since }).counted g
    | none => if s.nmState g = 4 ∧ s.isWuf g f then s.holdWake g 13 else s

/-! ## Timers (R489, R492, R497) -/

/-- T_SILENCE in READY: PREPARE, unless the harbour master is in its safe state (R492, R70). -/
def State.silenceExpiry (s : State) (g : Nat) : State :=
  if !s.managed g || s.nmState g != 2 || s.isSafe .nm then s
  else (s.advanceTo ((s.nms g).silence + s.silenceNs g)).segEnter g 3

/-- A keep-alive of a STUCK node came within the last T_SILENCE (R494). -/
def State.stuckNear (s : State) (g : Nat) : Bool :=
  (s.nms g).nodes.any fun x => x.2.stuck && (match x.2.last with | some t => decide (s.now < t + s.silenceNs g) | none => false)

/-- Entry to COMMIT (R492, R494, R498). -/
def State.commitSeg (s : State) (g : Nat) : State :=
  let iso := g < 8 && s.flag F.NM_SEG_CFG_ISOLATE_STUCK g && s.stuckNear g
  let s := s.segEnter g 4
  let s := s.setNms g { s.nms g with isolating := iso }
  if g < 8 then
    let s := s.setXcvr g (if iso then 3 else 2)
    if iso then (s.setFlag F.NM_EVT_ISOLATED).raise .NM_SEG_ISOLATED g else s
  else s.setFld F.ETH_PSTAT_TC10 (g - 8) 1

/-- T_PREP in PREPARE: COMMIT (R492). -/
def State.prepareExpiry (s : State) (g : Nat) : State :=
  if !s.managed g || s.nmState g != 3 || s.isSafe .nm then s
  else (s.advanceTo ((s.nms g).at0 + ms (10 * s.fld F.NM_SEG_TIME_T_PREP g))).commitSeg g

/-- The segment is asleep or isolated; a held request acts now as an active wake (R497). -/
def State.commitDone (s : State) (g : Nat) : State :=
  let n := s.nms g
  let s := s.segEnter g (if n.isolating then 6 else 5)
  if s.flag F.NM_SEG_STAT_HELD g then s.activeWake g n.heldBy else s

/-- The transceiver confirms sleep (R492, R497); an Ethernet segment still waits for its partner's answer (R498). -/
def State.sleepConfirm (s : State) (g : Nat) : State :=
  if !s.managed g || s.nmState g != 4 || (decide (8 ≤ g) && s.fld F.ETH_PSTAT_TC10 (g - 8) == 1) then s else s.commitDone g

/-- The transition window is over without a confirmation: a held request wakes the segment now, and later requests find it asleep (R497). An
Ethernet segment without a held request still waits for its partner's answer (R498). -/
def State.transitionEnd (s : State) (g : Nat) : State :=
  if !s.managed g || s.nmState g != 4 || (decide (8 ≤ g) && !s.flag F.NM_SEG_STAT_HELD g) then s
  else (s.advanceTo ((s.nms g).at0 + ms 5)).commitDone g

/-- The repeat window is over (R489). -/
def State.repeatEnd (s : State) (g : Nat) : State :=
  match (s.nms g).repeatTo with
  | none => s
  | some t =>
    let s := s.advanceTo t
    let s := s.setNms g { s.nms g with repeatTo := none }
    if s.nmState g = 1 ∧ !s.ownNeed g then (if 8 ≤ g then s.restartSilence g else s).segEnter g 2 else s

/-! ## Stuck nodes (R493 to R495, R498) -/

def State.feedThere (s : State) : Bool := s.fld F.BERTH_SUP_STAT_PRESENT != 0

/-- When an awake time that started at `t` began to advance; none while it stands still. -/
def State.awakeFrom (s : State) (t : Nat) : Option Nat :=
  if s.flag F.NM_CTRL_MA_ALWAYS then some t else if s.feedThere then none else some (Nat.max t s.nm.noFeedAt)

def minutes (n : Nat) : Nat := sec (60 * n)

/-- A node's awake time passes MAX_AWAKE; a TC10 partner's on an Ethernet segment (R493, R498). -/
def State.nodeStuck (s : State) (g k : Nat) : State :=
  let max := minutes (s.fld F.NM_SEG_MAXAW_MAX_AWAKE g)
  let report (s : State) := (s.setFlag F.NM_EVT_NODE_STUCK).raise .NM_NODE_STUCK g [k]
  if !s.managed g then s
  else if g < 8 then
    let x := s.nmNode g k
    match x.since.bind s.awakeFrom with
    | some t => if x.stuck then s else report ((s.advanceTo (t + max)).setNode g k { x with stuck := true })
    | none => s
  else
    match (s.nms g).rejectAt.bind s.awakeFrom with
    | some t =>
      let s := report ((s.advanceTo (t + max)).setNode g 0 { s.nmNode g 0 with stuck := true })
      if s.flag F.NM_SEG_CFG_ISOLATE_STUCK g then ((s.linkDrop (g - 8)).setFld F.ETH_PSTAT_TC10 (g - 8) 2).segEnter g 6 else s
    | none => s

def State.noneStuck (s : State) (g : Nat) : State :=
  if (s.nms g).nodes.any fun x => x.2.stuck then s else s.clearFault .NM_NODE_STUCK g

/-- T_SILENCE without a keep-alive from the node while the segment is awake (R493). -/
def State.nodeUnstuck (s : State) (g k : Nat) : State :=
  let x := s.nmNode g k
  if !x.stuck || !s.managed g || 4 ≤ s.nmState g then s
  else
    let s := s.advanceTo (Nat.max (x.last.getD 0) (s.nms g).wokeAt + s.silenceNs g)
    (s.setNode g k { x with stuck := false, since := none }).noneStuck g

/-- Every STUCK mark is cleared (R493). -/
def State.unstuckAll (s : State) (g : Nat) : State :=
  (s.setNms g { s.nms g with nodes := (s.nms g).nodes.map fun x => (x.1, { x.2 with stuck := false, since := none }) }).noneStuck g

/-- The own awake time passes OWN_MAX: every source in force is released (R495). -/
def State.ownStuck (s : State) (g : Nat) : State :=
  let max := s.fld F.NM_SEG_MAXAW_OWN_MAX g
  match (s.nms g).ownSince.bind s.awakeFrom with
  | some t =>
    if max = 0 ∨ !s.managed g ∨ !s.ownNeed g then s
    else
      let s := s.advanceTo (t + minutes max)
      let s := s.setNms g { s.nms g with released := s.needSources g }
      let s := ((s.setFlag F.NM_SEG_STAT_OWN_STUCK g).setFlag F.NM_EVT_OWN_STUCK).raise .NM_OWN_STUCK g
      s.needUpdate g
  | none => s

/-- The last feed has gone (R493). -/
def State.nmFeeds (s : State) : State := if s.feedThere then s else s.setNm { s.nm with noFeedAt := s.now }

/-! ## TC10 (R431, R498) -/

/-- The partner answers the module's sleep request. -/
def State.tc10Response (s : State) (p : Nat) (accept : Bool) : State :=
  let g := p + 8
  if s.nmState g ≠ 4 ∨ s.fld F.ETH_PSTAT_TC10 p ≠ 1 then s
  else if accept then
    let s := ((s.linkDrop p).setFld F.ETH_PSTAT_TC10 p 2).setNms g { s.nms g with rejectAt := none }
    s.commitDone g
  else
    let held := s.flag F.NM_SEG_STAT_HELD g
    let s := (s.setFld F.ETH_PSTAT_TC10 p 0).setNms g { s.nms g with rejectAt := some ((s.nms g).rejectAt.getD s.now) }
    let s := ((s.segEnter g 2).restartSilence g).setFlag F.NM_SEG_STAT_HELD g false
    if held then s.goAwake g else s

/-- The partner asks for sleep: rejected while the segment is held awake, else accepted (R431, R498). -/
def State.tc10Request (s : State) (p : Nat) : State :=
  let g := p + 8
  if !s.flag F.ETH_PCTRL_TC10_EN p || !s.ethLink p || s.nmState g = 1 || s.nmState g = 4 then s
  else
    let s := (s.linkDrop p).setFld F.ETH_PSTAT_TC10 p 2
    if s.nmState g = 2 ∨ s.nmState g = 3 then
      let s := s.segEnter g 4
      (s.setNms g { s.nms g with isolating := false, rejectAt := none })
    else s

/-- A sleeping port detects wake-up on its MDI (R431, R496). -/
def State.tc10Wake (s : State) (p : Nat) : State :=
  if s.fld F.ETH_PSTAT_TC10 p ≠ 2 then s
  else
    let s := ((s.setFlag F.ETH_PEVT_WAKE p).setFld F.ETH_PSTAT_TC10 p 3).linkSetup p
    s.passiveWake (p + 8) 10

/-! ## Module need and WAKE_IN (R488, R501) -/

def State.setNeed (s : State) (g : Nat) (v : Bool) : State := (s.setFlag F.NM_SEG_NEED_SW g v).needUpdate g

def State.setModNeed (s : State) (v : Bool) : State :=
  let rises := v && !s.flag F.NM_MODNEED_NEED
  let s := if rises then s.sleepAbort 11 else s
  (s.setFlag F.NM_MODNEED_NEED 0 v).needAll

/-- WAKE_IN is at a level, for `held` ns, while the module is awake. -/
def State.wakeInLevel (s : State) (v : Bool) (held : Nat) : State :=
  let s := s.setNm { s.nm with wakeIn := v }
  let s := if v && s.flag F.NM_WAKE_CFG_WAKEIN_EN && decide (ms 1 ≤ held) then s.sleepAbort 4 else s
  s.needAll

/-- WAKE_OUT (R504, R70). -/
def State.wakeOut (s : State) : Bool :=
  !s.isSafe .nm && (match s.fld F.NM_WAKE_CFG_WO_MODE with
    | 1 => s.nm.pulse.isSome
    | 2 => s.flag F.NM_MODNEED_NEED
    | _ => false)

def State.wakeOutEnd (s : State) : State :=
  match s.nm.pulse with
  | some t => (s.advanceTo (t + ms (10 * s.fld F.NM_WAKE_CFG_WO_PULSE))).setNm { s.nm with pulse := none }
  | none => s

/-- The conditions of R499 hold now, with those of R582 and R603. -/
def State.sleepOk (s : State) : Bool :=
  (s.mode' == 3 || s.mode' == 4 || s.mode' == 6) && !s.flag F.NM_MODNEED_NEED && !s.isSafe .nm &&
    ((List.range 12).all fun g => !s.managed g || (decide (5 ≤ s.nmState g) && !s.flag F.NM_SEG_STAT_HELD g && (s.nms g).repeatTo.isNone)) &&
    (!s.nm.wakeIn || !s.flag F.NM_WAKE_CFG_WAKEIN_EN) && s.fld F.BERTH_STAT_STATE == 1 && !s.serviceOpen &&
    !s.cust.dbg.service && s.upd.marker == .idle

/-- The harbour master's safe state: sleeping segments wake actively (R70). -/
def State.nmSafe (s : State) : State :=
  (s.setSafe .nm).each (List.range 12) fun s g => if 5 ≤ s.nmState g then s.activeWake g 11 else s

end Sys2Proof.Machine
end

