-- ==== Sys2Proof/Machine/Gwy.lean ====
section
/-! DEFINITION. The gateway's path of a frame: route lookup (R466, R467), commit (R472), policies and held frames (R473, R474), rate
buckets (R476), quarantine (R481), ACF reception (R471, R477) and the safe state (R484). -/

namespace Sys2Proof.Machine

/-- The gateway routes (R483). -/
def State.gwyRuns (s : State) : Bool := s.flag F.GWY_CTRL_EN && !s.isSafe .gwy && decide (3 ≤ s.mode') && s.mode' != 7

/-- Source index of GWY_SRC_CFG: 0 to 7 for CAN, 8 for every ACF source. -/
def srcIdx (src : Nat) : Nat := if src < 32 then src else 8

/-! ## Lookup (R466) -/

def State.routeWord (s : State) (r : Reg) (e : Nat) : Nat := (s.rd r e).toNat

/-- The words of entry `e` as they stand. -/
def State.routeNow (s : State) (e : Nat) : List Nat :=
  [s.routeWord .GWY_RTE0 e, s.routeWord .GWY_RTE1 e, s.routeWord .GWY_RTE2 e, s.routeWord .GWY_RTE3 e]

/-- The words of entry `e` as they stood at `t`, at most 1 s ago: a lookup uses them even if the entry has changed since (R467). -/
def State.routeAt (s : State) (t e : Nat) : List Nat :=
  match (s.gwy.rteOld.filter fun x => x.1 == e && decide (t < x.2.1)).getLast? with
  | some x => x.2.2
  | none => s.routeNow e

/-- An entry is about to change: what it holds is kept for the frames whose lookup has run. -/
def State.routeKeep (s : State) (e : Nat) : State :=
  s.setGwy { s.gwy with rteOld := (e, s.now, s.routeNow e) :: s.gwy.rteOld.filter fun x => decide (s.now < x.2.1 + sec 1) }

/-- Entry words that match a frame of source `src` (R466). -/
def routeMatch (w : List Nat) (src : Nat) (f : CanFrame) : Bool :=
  let w0 := w.getD 0 0
  bitOf w0 30 && w.getD 2 0 / 2 ^ 16 % 64 == src && bitOf w0 29 == f.xtd &&
    (let m := w.getD 1 0 % 2 ^ (if f.xtd then 29 else 11)
     (f.id &&& m) == (w0 % 2 ^ 29 &&& m))

/-- The lookup that ran at `t`: the first matching entry decides. -/
def State.lookupRoute (s : State) (t src : Nat) (f : CanFrame) : GwRoute :=
  match (List.range 2048).find? fun e => routeMatch (s.routeAt t e) src f with
  | some e => .entry e (s.routeAt t e)
  | none => .miss

/-- When the lookup of a CAN frame ran whose SOF was `ago` before now: its arbitration field had been received then (R468), SOF and 12 bits of
a standard frame or 32 of an extended one, stuff bits not counted. -/
def State.lookupTime (s : State) (p : Nat) (f : CanFrame) (ago : Nat) : Nat :=
  let bit := (s.fld F.CAN_NBT_BRP p + 1) * (3 + s.fld F.CAN_NBT_TSEG1 p + s.fld F.CAN_NBT_TSEG2 p)
  Nat.min s.now (s.now - ago + (if f.xtd then 33 else 13) * bit * 25 / 2)

/-- What a route asks for a frame (R466, R467, R470). -/
structure GwPlan where
  egress : List Nat := []
  copy : Option Nat := none
  out : CanFrame
  rewritten : Bool := false
  policy : Nat := 0
  bucket : Nat := 0
  wake : Bool := false
  entry : Option Nat := none
  fl : DescFlags := {}

def State.plan (s : State) (g : GwFrame) : GwRoute → GwPlan
  | .entry e w =>
    let w0 := w.getD 0 0
    let w1 := w.getD 1 0
    let w2 := w.getD 2 0
    let w3 := w.getD 3 0
    let rw := bitOf w0 31
    { egress := ((List.range 16).filter fun k => bitOf w2 k).map (· + 16)
      copy := if bitOf w2 26 then some (w2 / 2 ^ 22 % 16) else none
      out := if rw then { g.f with id := if bitOf w3 29 then w3 % 2 ^ 29 else w3 % 2 ^ 11, xtd := bitOf w3 29 } else g.f
      rewritten := rw, policy := w1 / 2 ^ 29 % 4, bucket := w2 / 2 ^ 27 % 32, wake := bitOf w1 31, entry := some e }
  | .miss =>
    let i := srcIdx g.src
    let r := s.fld F.GWY_SRC_CFG_MISS_RING i
    if s.flag F.GWY_SRC_CFG_MISS_EN i then
      { copy := some r, out := g.f, policy := s.fld F.GWY_RING_CFG_POLICY r, fl := { miss := true } }
    else { out := g.f }
  | .direct r => { copy := some r, out := g.f, policy := s.fld F.GWY_RING_CFG_POLICY r, fl := { direct := true } }

/-! ## Quarantine (R481) -/

def State.quarantined (s : State) (seg id : Nat) (xtd : Bool) : Bool :=
  s.gwy.quar.any fun x => x.2.seg == seg && x.2.id == id && x.2.xtd == xtd

/-- Quarantines of a segment that are over end its fault. -/
def State.quarFault (s : State) (seg : Nat) : State :=
  if s.gwy.quar.any fun x => x.2.seg == seg then s else s.clearFault .GWY_QUARANTINE seg

def State.quarEnter (s : State) (seg id : Nat) (xtd : Bool) : State :=
  let q : Quar := ⟨seg, id, xtd, s.now + sec (s.fld F.GWY_CTRL_QUAR_TIME)⟩
  let l := s.gwy.quar
  let s := s.setFlag F.GWY_EVT_QUAR
  let put (s : State) (i : Nat) := s.setGwy { s.gwy with quar := assoc i q l }
  match l.find? fun x => x.2.seg == seg && x.2.id == id && x.2.xtd == xtd with
  | some x => (put s x.1).raise .GWY_QUARANTINE seg [id + bit01 xtd * 2 ^ 29]
  | none =>
    match (List.range 32).find? fun i => (lookup i l).isNone with
    | some i => (put s i).raise .GWY_QUARANTINE seg [id + bit01 xtd * 2 ^ 29]
    | none =>
      let last := l.foldl (fun b x => match b with
        | none => some x
        | some y => if x.2.till < y.2.till then some x else b) none
      let i := match last with | some x => x.1 | none => 0
      let old := match last with | some x => x.2.seg | none => seg
      (((put s i).quarFault old).raise .GWY_QUAR_FULL).raise .GWY_QUARANTINE seg [id + bit01 xtd * 2 ^ 29]

def State.quarExpire (s : State) (i : Nat) : State :=
  match lookup i s.gwy.quar with
  | some q => ((s.advanceTo q.till).setGwy { s.gwy with quar := Tbl.del s.gwy.quar i }).quarFault q.seg
  | none => s

def State.quarClear (s : State) : State :=
  (s.setGwy { s.gwy with quar := [] }).each (List.range 12) fun s g => s.quarFault g

/-! ## Rate buckets (R476) -/

def State.bktTokens (s : State) (k : Nat) : Nat :=
  let full := s.fld F.GWY_BKT_CFG_BURST (k - 1) * 1000000000
  match lookup k s.gwy.bkt with
  | some (n, t) => Nat.min full (n + s.fld F.GWY_BKT_CFG_RATE (k - 1) * (s.now - t))
  | none => full

/-- A frame takes its token: whether it passes. -/
def State.takeToken (s : State) (k : Nat) : State × Bool :=
  if k = 0 ∨ s.fld F.GWY_BKT_CFG_RATE (k - 1) = 0 then (s, true)
  else
    let n := s.bktTokens k
    if 1000000000 ≤ n then (s.setGwy { s.gwy with bkt := assoc k (n - 1000000000, s.now) s.gwy.bkt }, true)
    else (((s.bump F.GWY_BKT_STAT_DROP (k - 1)).setFlag F.GWY_EVT_RATE).raise .GWY_RATE_LIMIT k [] (sec 1), false)

/-! ## Commit (R472) -/

/-- Step 5 for one ring: an egress ring bound to a classic port takes a classic frame or none. -/
def State.deliverRing (s : State) (p : GwPlan) (g : GwFrame) (stamp r : Nat) : State :=
  let lost (s : State) := match p.entry with | some e => s.bump F.GWY_RTE_CNT_DROP e | none => s
  let route := p.entry.getD 0xFFF
  if r < 16 then
    let x := s.ringDeliver r p.policy (descBytes g g.f route p.fl stamp)
    if x.2 then x.1 else lost x.1
  else match s.forPort r p.out with
    | none => lost (s.bump F.GWY_CNT2_FORMAT)
    | some f =>
      let x := s.ringDeliver r p.policy (descBytes g f route { p.fl with rewritten := p.rewritten } stamp)
      if x.2 then x.1 else lost x.1

/-- Step 3 for one ASLEEP segment (R478): hold or drop, and a wake request with WAKE. -/
def State.sleepSegment (s : State) (p : GwPlan) (g : GwFrame) (stamp seg : Nat) (rings : List Nat) : State :=
  let q := s.holdQueue seg
  let s :=
    if s.flag F.GWY_SEG_CFG_SLEEP_HOLD seg then
      if q.length < s.fld F.GWY_SEG_CFG_HOLD_DEPTH seg then
        let x : GwSleep := ⟨g, p.out, p.rewritten, p.entry.getD 0xFFF, rings, p.policy, stamp, s.now⟩
        s.setHoldQueue seg (q ++ [x])
      else ((s.segDrop seg 1).setFlag F.GWY_EVT_HOLD_OVF).raise .GWY_HOLD_OVF seg [] (sec 1)
    else s.segDrop seg 1
  if p.wake then s.gwyWake seg else s

/-- The frame's rings that BACKPRESSURE holds. -/
def State.bpHolds (s : State) (policy : Nat) (rings : List Nat) : Bool :=
  policy == 2 && rings.any fun r => s.ringOn r && (s.ringHigh r || s.ringFull r)

/-- Steps 1 to 5 (R472). The second component gives the rings that hold the frame, if BACKPRESSURE holds it. -/
def State.commitFrame (s : State) (h : GwHeld) : State × Option (List Nat) :=
  let p := s.plan h.g h.r
  let s := match h.r, p.copy with
    | .miss, none => s.bump F.GWY_CNT0_MISS
    | _, _ => s.bump F.GWY_CNT1_COMMIT
  let s := match p.entry with | some e => s.bump F.GWY_RTE_CNT_HIT e | none => s
  let egress := p.egress.filter fun r => s.ringOn r
  let cut := s.segGate h.g.seg == 2 && !egress.isEmpty
  let s := if cut then s.segDrop h.g.seg 1 else s
  let egress := if cut then [] else egress
  let quar r := s.quarantined (s.ringPort r) p.out.id p.out.xtd || s.quarantined h.g.seg h.g.f.id h.g.f.xtd
  let blocked := egress.filter quar
  let s := s.bump F.GWY_CNT1_QUAR_DROP 0 blocked.length
  let egress := egress.filter fun r => !quar r
  let gate r := s.segGate (s.ringPort r)
  let isolated := egress.filter fun r => gate r == 2
  let asleep := egress.filter fun r => gate r == 1
  let egress := egress.filter fun r => gate r == 0
  let port r := s.ringPort r
  let s := s.each ((List.range 12).filter fun seg => isolated.any fun r => port r == seg) fun s seg => s.segDrop seg 1
  let s := s.each ((List.range 12).filter fun seg => asleep.any fun r => port r == seg) fun s seg =>
    s.sleepSegment p h.g h.stamp seg (asleep.filter fun r => port r == seg)
  let t := if egress.isEmpty then (s, true) else s.takeToken p.bucket
  let s := t.1
  let rings := p.copy.toList ++ (if t.2 then egress else [])
  if s.bpHolds p.policy rings then (s, some rings)
  else (s.each rings fun s r => s.deliverRing p h.g h.stamp r, none)

/-! ## Held frames (R474) -/

def State.heldOf (s : State) (i : Nat) : List GwHeld := (lookup i s.gwy.held).getD []
def State.setHeld (s : State) (i : Nat) (l : List GwHeld) : State := s.setGwy { s.gwy with held := assoc i l s.gwy.held }

/-- Commit the waiting frames of a source in reception order until one is held. -/
def State.drainHeld (s : State) (i : Nat) : List GwHeld → State
  | [] => s.setHeld i []
  | h :: rest =>
    match s.commitFrame h with
    | (s', none) => s'.drainHeld i rest
    | (s', some rings) => s'.setHeld i ({ h with rings := some rings, since := s.now } :: rest)

def gwBytes (h : GwHeld) : Nat := 16 + h.g.f.data.length

/-- A frame reaches its commit: behind a held frame of its source it waits (R474). The room for ACF sources is judged per PDU. -/
def State.gwArrive (s : State) (g : GwFrame) (r : GwRoute) : State :=
  let i := srcIdx g.src
  let h : GwHeld := { g := g, r := r, stamp := s.logical }
  let l := s.heldOf i
  if l.isEmpty then s.drainHeld i [h]
  else
    if 8 ≤ i ∨ l.length < 4 then s.setHeld i (l ++ [h])
    else ((s.bump F.GWY_CNT2_STAGE).setFlag F.GWY_EVT_STAGE_OVF).raise .GWY_STAGE_OVF g.seg [] (sec 1)

/-- The held frame of a source is delivered when its rings have left high (R474). -/
def State.bpRelease (s : State) (i : Nat) : State :=
  match s.heldOf i with
  | h :: rest =>
    let rings := h.rings.getD []
    let p := s.plan h.g h.r
    if s.bpHolds 2 rings then s
    else ((s.setHeld i rest).each rings fun s r => s.deliverRing p h.g h.stamp r).drainHeld i rest |>.ringsClosing
  | [] => s

/-- BP_MAX elapses first: delivered where there is room, dropped for the others (R474). -/
def State.bpTimeout (s : State) (i : Nat) : State :=
  match s.heldOf i with
  | h :: rest =>
    if !s.bpHolds 2 (h.rings.getD []) then s.bpRelease i else
    let s := s.advanceTo (h.since + ms (s.fld F.GWY_CTRL_BP_MAX))
    let p := s.plan h.g h.r
    let s := (s.setHeld i rest).each (h.rings.getD []) fun s r => s.deliverRing p h.g h.stamp r
    let s := ((s.setFlag F.GWY_EVT_BP_TIMEOUT).raise .GWY_BP_TIMEOUT i [] (sec 1))
    (s.drainHeld i rest).ringsClosing
  | [] => s

/-- A write of GWY_RING_GET (R464): the state, and whether it was refused. -/
def State.ringGet (s : State) (r v : Nat) : State × Bool :=
  if 16 ≤ r then (s, false)
  else
    let d := s.ringDepth r
    let get := s.fld F.GWY_RING_GET_GET r
    let n := (v + d - get % d) % d
    if d ≤ v ∨ s.ringFill r < n then (s, true)
    else ((s.setFld F.GWY_RING_GET_GET r v).setFill r (s.ringFill r - n), false)

/-! ## ACF reception (R471, R477) -/

/-- The DLC of a number of data bytes: the smallest that gives at least as many. -/
def lenDlc (n : Nat) : Nat :=
  if n ≤ 8 then n else 9 + ((List.range 7).find? fun k => decide (n ≤ [12, 16, 20, 24, 32, 48, 64].getD k 64)).getD 6

def State.acfFormat (s : State) : State :=
  ((s.bump F.GWY_CNT2_FORMAT).setFlag F.GWY_EVT_ACF_FORMAT).raise .GWY_ACF_FORMAT

/-- One ACF CAN or ACF CAN Brief message, whole. -/
def State.acfMsg (s : State) (p stamp : Nat) (m : List Byte) : State :=
  let type := beNat (m.take 2) / 512
  let fl := (m.getD 2 0).toNat
  let head := if type = 1 then 16 else 8
  let bus := (m.getD 3 0).toNat % 32
  let idAt := head - 4
  let id := beNat ((m.drop idAt).take 4) % 2 ^ 29
  let data := (m.drop head).take (m.length - head - fl / 64)
  let xtd := bitOf fl 3
  let fdf := bitOf fl 1
  let mtv := type == 1 && bitOf fl 5
  let f : CanFrame := {
    id := if xtd then id else id % 2 ^ 11
    xtd := xtd
    rtr := bitOf fl 4 && !fdf
    fdf := fdf
    brs := bitOf fl 2 && fdf
    esi := bitOf fl 0
    dlc := lenDlc data.length
    data := data }
  let g : GwFrame := {
    f := f
    sof := if mtv then beNat ((m.drop 4).take 8) else stamp
    tsv := mtv || s.flag F.TIDE_STAT_VALID
    coarse := !mtv && s.flag F.TIDE_STAT_COARSE
    src := 32 + bus
    seg := 8 + p
    srcts := mtv }
  s.gwArrive g (s.lookupRoute s.now g.src f)

/-- The ACF messages of a PDU in order; `fuel` bounds their number. -/
def State.acfMsgs (s : State) (p stamp : Nat) : Nat → List Byte → State
  | 0, _ => s
  | fuel + 1, b =>
    if b.isEmpty then s
    else
      let w := beNat (b.take 2)
      let len := w % 512 * 4
      let type := w / 512
      let head := if type = 1 then 16 else 8
      if len < 4 ∨ b.length < len ∨ ((type = 1 ∨ type = 2) ∧ len < head) then s.acfFormat
      else
        let s := if type = 1 ∨ type = 2 then s.acfMsg p stamp (b.take len) else s.bump F.GWY_CNT2_FORMAT
        s.acfMsgs p stamp fuel (b.drop len)

/-- An AVTP PDU from port `p` at the internal port (R471, R477), what follows its EtherType. -/
def State.acfReceive (s : State) (p stamp : Nat) (b : List Byte) : State :=
  let sub := (b.getD 0 0).toNat
  let w := beNat ((b.drop 1).take 2)
  let sid := beNat ((b.drop 4).take 8)
  let tscf := sub == 0x05
  let seq := if tscf then (b.getD 2 0).toNat else (b.getD 3 0).toNat
  let len := if tscf then beNat ((b.drop 20).take 2) else w % 2048
  let body := (b.drop (if tscf then 24 else 12)).take len
  let known := (List.range 8).find? fun j => s.flag F.GWY_ACF_RXEN_EN j &&
    s.fld F.GWY_ACF_RXLO_SID j + 2 ^ 32 * s.fld F.GWY_ACF_RXHI_SID j == sid
  let waiting := ((s.heldOf 8).map gwBytes).sum
  if !s.gwyRuns || !s.flag F.GWY_SRC_CFG_EN 8 || !(tscf || sub == 0x82) then s
  else if waiting ≠ 0 ∧ 65536 < waiting + body.length ∧ known.isSome then
    ((s.bump F.GWY_CNT2_STAGE).setFlag F.GWY_EVT_STAGE_OVF).raise .GWY_STAGE_OVF (8 + p) [] (sec 1)
  else match known with
    | none => s
    | some j =>
      let gap := match lookup j s.gwy.seqIn with | some n => seq != (n + 1) % 256 | none => false
      let s := if gap then s.bump F.GWY_CNT2_SEQ_GAP else s
      (s.setGwy { s.gwy with seqIn := assoc j seq s.gwy.seqIn }).acfMsgs p stamp body.length body

/-! ## Safe state (R484) -/

/-- Every held frame is released, every ring emptied, routing stops. -/
def State.gwySafe (s : State) : State :=
  let s := (s.setSafe .gwy).setGwy { s.gwy with held := [], sleep := [], pdu := [], closing := [] }
  let s := s.each (List.range 12) fun s g => s.setFld F.GWY_SEG_STAT_HELD g 0
  s.each (List.range 32) fun s r => s.ringEmpty r

end Sys2Proof.Machine
end

