-- ==== Sys2Proof/Machine/CanRx.lean ====
section
/-! DEFINITION. CAN frames on the bus: filters (R402 to R404), the RX FIFO (R405), reception, errors, transmission (R400, R406, R407,
R410), and the transceivers' wake detection (R414, R415). -/

namespace Sys2Proof.Machine

/-! ## Filters (R402, R403) -/

/-- The test of a filter element on an identifier of `w` bits (R403). -/
def filterTest (kind a b id w : Nat) : Bool :=
  let a := a % 2 ^ w
  let b := b % 2 ^ w
  match kind with
  | 1 => (id &&& b) == (a &&& b)
  | 2 => decide (a ≤ id) && decide (id ≤ b)
  | _ => id == a || id == b

/-- Element `k` decides for a frame (R403). -/
def State.filterHit (s : State) (k : Nat) (f : CanFrame) : Bool :=
  let a := filterAddr k
  let w := s.word a
  let kind := w % 4
  let format := w / 8 % 4
  kind != 0 && format != 3 && !(format == 1 && f.fdf) && !(format == 2 && !f.fdf) &&
    (filterTest kind (s.word (a + 4)) (s.word (a + 8)) f.id (if f.xtd then 29 else 11) != bitOf w 2)

/-- The first deciding element of the list of the frame's identifier type (R403). -/
def State.filterSearch (s : State) (p : Nat) (f : CanFrame) : Option Nat :=
  let start := if f.xtd then s.fld F.CAN_FLT_EXT_START p else s.fld F.CAN_FLT_STD_START p
  let len := if f.xtd then s.fld F.CAN_FLT_EXT_LEN p else s.fld F.CAN_FLT_STD_LEN p
  ((List.range len).map fun j => (start + j) % 4096).find? fun k => s.filterHit k f

/-- The hit count of an element, saturating (R402). -/
def State.filterCount (s : State) (k : Nat) : State :=
  s.setWord (filterAddr k + 12) (Nat.min (2 ^ 32 - 1) (s.word (filterAddr k + 12) + 1))

/-! ## RX FIFO (R405) -/

/-- A frame enters the RX FIFO, or is dropped by a full one. -/
def State.fifoPut (s : State) (p : Nat) (g : GwFrame) : State :=
  let d := Nat.max 1 (s.fld F.CAN_RXF_CFG_DEPTH p)
  let n := s.fld F.CAN_RXF_STAT_FILL p
  if d ≤ n then (s.setFlag F.CAN_EVT_RXOVF p).raise .CAN_RX_OVF p [] (sec 1)
  else
    let e := (s.fld F.CAN_RXF_STAT_GET p + n) % d
    let s := s.setBytes (rxAddr p e) (elemBytes g.f g.hipri g.tsv g.fidx g.coarse g.sof)
    let s := s.setFld F.CAN_RXF_STAT_FILL p (n + 1)
    if n + 1 = s.fld F.CAN_RXF_CFG_WM p then s.setFlag F.CAN_EVT_RXWM p else s

/-- CAN_RXF_ACK.COUNT releases elements. -/
def State.fifoAck (s : State) (p k : Nat) : State :=
  let n := s.fld F.CAN_RXF_STAT_FILL p
  let k := Nat.min k n
  let d := Nat.max 1 (s.fld F.CAN_RXF_CFG_DEPTH p)
  (s.setFld F.CAN_RXF_STAT_GET p ((s.fld F.CAN_RXF_STAT_GET p + k) % d)).setFld F.CAN_RXF_STAT_FILL p (n - k)

/-! ## Reception (R404, R406) -/

/-- REC after a valid frame (ISO 11898-1): one less, or a value from 119 to 127 when it was above 127. -/
def State.recDown (s : State) (p : Nat) : State :=
  let r := s.fld F.CAN_ERR_REC p
  if 127 < r then
    let x := s.draw 8
    (x.2.setFld F.CAN_ERR_REC p (119 + x.1 % 9)).errJudge p
  else (s.setFld F.CAN_ERR_REC p (r - 1)).errJudge p

/-- Delivery of a frame by the search result (R404): `hit` the deciding element; the route lookup ran at `looked` (R468). -/
def State.canDeliver (s : State) (p : Nat) (g : GwFrame) (hit : Option Nat) (routed : Bool) (looked : Nat) : State :=
  match hit with
  | none => if s.flag F.CAN_CTRL_NOMATCH p then s.fifoPut p g else s
  | some k =>
    let w := s.word (filterAddr k)
    let action := w / 32 % 4
    let hipri := bitOf w 7
    let g := { g with fidx := k, hipri := hipri && action != 0 }
    let s := s.filterCount k
    let s := if hipri && action != 0 then
        ((s.setFld F.CAN_HPM_FIDX p k).setFlag F.CAN_HPM_XTD p g.f.xtd).setFlag F.CAN_EVT_HPM p
      else s
    let route := routed && s.gwyRuns && s.flag F.GWY_SRC_CFG_EN p
    match action with
    | 1 => s.fifoPut p g
    | 2 => if route then s.gwArrive g (.direct (w / 256 % 16)) else s
    | 3 => if route then s.gwArrive g (s.lookupRoute looked p g.f) else s
    | _ => s

/-- The controller takes part in traffic on its bus, to the end of the last frame after EN became 0 (R391). -/
def State.canHears (s : State) (p : Nat) : Bool :=
  (s.canRuns p || (s.canc p).stopping) && decide (s.fld F.CAN_STAT_STATE p < 2) && (s.canc p).xcvr == 1

/-- A valid frame is received whose SOF was `ago` before now. With FD_EN 0 an FD frame is a protocol exception, after which the controller
integrates again (R386); a classic candidate takes it for an error (R394). While a transceiver is going to sleep its frames reach the harbour master alone (R496). -/
def State.canReceive (s : State) (p : Nat) (f : CanFrame) (ago : Nat) : State :=
  if !s.canHears p then (if s.nmState p = 4 then s.nmFrame p f else s)
  else
    let s := s.arbLost p
    let det := s.canDet p
    let fdOk := if det then s.flag F.CAN_DET_B_FD (p * 16 + (s.canc p).cand) else s.flag F.CAN_CTRL_FD_EN p
    if f.fdf && !fdOk then (if det then s.detFrame p f else s.setFlag F.CAN_STAT_SYNC p false).canIdle p
    else
      let valid := s.flag F.TIDE_STAT_VALID
      let sof := if valid then s.stampAgo ago else 0
      let g : GwFrame := { f := f, sof := sof, tsv := valid, coarse := s.flag F.TIDE_STAT_COARSE, src := p, seg := p }
      let looked := s.lookupTime p f ago
      let s := (s.recDown p).setFlag F.CAN_STAT_SYNC p
      let s := s.canDeliver p g (s.filterSearch p f) (!det) looked
      let s := s.nmFrame p f
      let s := s.ttReceive p f (s.stampAgo ago)
      (if det then s.detFrame p f else s).canIdle p

/-! ## Errors (R407, R410, R470) -/

/-- A received frame ends in an error: `dom` where ISO 11898-1 adds 8 and not 1 to REC, `header` where its arbitration field had been
received, so that its route was under speculation (R470). -/
def State.canError (s : State) (p lec : Nat) (data dom header : Bool) : State :=
  if !s.canHears p then s
  else
    let s := ((s.arbLost p).lastError p lec data).bump F.CAN_ERR_REC p (if dom then 8 else 1)
    let s := s.errJudge p
    (if s.canDet p then s.setCanc p { s.canc p with good := 0, bad := true }
     else if header && s.gwyRuns && s.flag F.GWY_SRC_CFG_EN p then s.bump F.GWY_CNT0_SPEC_UNWIND else s).canIdle p

/-- A frame is sent successfully, its SOF `ago` before now (R400, R407, R412, R492). -/
def State.canSent (s : State) (p ago : Nat) : State :=
  match s.sending p with
  | none => s
  | some (slot, f) =>
    let t := if s.flag F.TIDE_STAT_VALID then s.stampAgo ago else 0
    -- the loop delay that transmitter delay compensation measures (R388) is a free value (log 3)
    let s := if f.fdf && f.brs && s.flag F.CAN_TDC_EN p then (s.draw 7).2.setFld F.CAN_TDC_TDCV p (s.draw 7).1 else s
    let s := s.setFld F.CAN_ERR_TEC p (s.fld F.CAN_ERR_TEC p - 1)
    let s := ((s.errJudge p).setFlag F.CAN_EVT_TX_DONE p).setFlag F.CAN_STAT_SYNC p
    let s := s.setFld F.CAN_TXB_STAT_CCNT p 0
    if slot < 3 then
      let w := s.word (txAddr p slot + 4)
      let s := s.setWord (txAddr p slot + 4) (putBit (putBit w 7 (s.flag F.TIDE_STAT_VALID)) 20 (s.flag F.TIDE_STAT_COARSE))
      let s := s.setBytes (txAddr p slot + 8) (leBytes 8 t)
      let s := (s.setFld F.CAN_TXTS_LO_T (p * 3 + slot) t).setFld F.CAN_TXTS_HI_T (p * 3 + slot) (t / 2 ^ 32)
      (s.txEnd p slot 1).canIdle p
    else
      let kind := match (s.canc p).timer.head? with | some x => x.kind | none => 0
      let s := (s.timerDone p true).canIdle p
      if kind = 1 then (if s.managed p then s.restartSilence p else s)
      else if kind = 2 then s.setCanc p { s.canc p with ownRef := some t, refAt := some s.now }
      else s

/-- A transmit attempt ends in an error. `collide`: it had won arbitration and ended in a bit or stuff error in the control or data field
(R410); `free`: one of the cases in which ISO 11898-1 leaves TEC unchanged. -/
def State.canTxError (s : State) (p lec : Nat) (data collide free : Bool) : State :=
  match s.sending p with
  | none => s
  | some (slot, f) =>
    let s := s.lastError p lec data
    let tec := s.fld F.CAN_ERR_TEC p + (if free then 0 else 8)
    let s := (s.setFld F.CAN_ERR_TEC p (Nat.min tec 255)).errJudge p
    let c := s.canc p
    let k : Coll := match lookup slot c.coll with
      | some k => if k.id = f.id ∧ k.xtd = f.xtd then k else { id := f.id, xtd := f.xtd }
      | none => { id := f.id, xtd := f.xtd }
    let n := if collide then k.n + 1 else 0
    let s := s.setCanc p { c with coll := assoc slot { k with n := n } c.coll, onBus := none }
    let s := s.setFld F.CAN_TXB_STAT_CCNT p (Nat.min n 63)
    let s :=
      if s.fld F.CAN_ERRCFG_COLL_THR p ≤ n then
        let w := f.id + bit01 f.xtd * 2 ^ 29
        let s := if slot < 3 then s.txEnd p slot 3 else s.timerDone p false
        let s := ((s.setFld F.CAN_COLL_ID p f.id).setFlag F.CAN_COLL_XTD p f.xtd).setFlag F.CAN_EVT_COLL p
        let recent := match lookup w (s.canc p).collAt with | some t => decide (s.now < t + sec 1) | none => false
        let s := if recent then s
          else (s.setCanc p { s.canc p with collAt := assoc w s.now (s.canc p).collAt }).raise .ID_COLLISION p [w]
        s.quarEnter p f.id f.xtd
      else if slot < 3 ∧ bitOf (s.canc p).abort slot then s.txEnd p slot 2
      else s
    (if 255 < tec then s.busOff p else s).canIdle p

/-! ## The transceivers (R414, R415) -/

/-- A frame of the bus at an armed transceiver with selective wake, `none` for one in error: the state, and the wake cause. -/
def State.xcvrFrame (s : State) (p : Nat) (f : Option CanFrame) : State × Option Nat :=
  if (s.canc p).xcvr ≠ 2 ∨ !s.flag F.CAN_SW_CFG_EN p then (s, none)
  else
    let err (s : State) : State × Option Nat :=
      let s := s.bump F.CAN_SW_STAT_FEC p
      if 31 < s.fld F.CAN_SW_STAT_FEC p then
        let s := (s.setFlag F.CAN_SW_STAT_FEC_OVF p).setFlag F.CAN_SW_STAT_MATCH p false
        (s.setCanc p { s.canc p with fecWake := true }, some 2)
      else (s, none)
    match f with
    | none => err s
    | some f =>
      if f.fdf then (if s.flag F.CAN_SW_CFG_FDTOL p then (s, none) else err s)
      else
        let s := s.setFld F.CAN_SW_STAT_FEC p (s.fld F.CAN_SW_STAT_FEC p - 1)
        if s.isWuf p f then ((s.setFlag F.CAN_SW_STAT_MATCH p).setFlag F.CAN_SW_STAT_FEC_OVF p false, some 1) else (s, none)

/-- The wake-up pattern at an armed transceiver without selective wake (R415). -/
def State.xcvrPattern (s : State) (p : Nat) : Option Nat :=
  if (s.canc p).xcvr = 2 ∧ !s.flag F.CAN_SW_CFG_EN p ∧ s.flag F.CAN_SW_CFG_WUP p then some 3 else none

end Sys2Proof.Machine
end

