-- ==== Sys2Proof/Machine/EthRx.lean ====
section
/-! DEFINITION. A frame received on an Ethernet port: learning, VLAN, forwarding, stomp, delivery to the internal port (R423 to R429). -/

namespace Sys2Proof.Machine

/-- A frame from external port `p` reaches the internal port with its ingress stamp (R426, R429). -/
def State.internalIn (s : State) (p stamp : Nat) (v : EthView) (b : List Byte) : State :=
  if v.type = 0x22F0 then s.acfReceive p stamp (v.rest.drop 2) else s.setEth { s.eth with internal := [b] }

/-- A frame is sent cut-through on port `q` (R427). -/
def State.cutThrough (s : State) (p q : Nat) : Bool :=
  s.flag F.ETH_SW_CTRL_CT_EN && q < 4 && (s.ethp q).queue.isEmpty && (s.ethp q).inFlight.isNone &&
    decide (s.fld F.ETH_PSTAT_SPEED q ≤ s.fld F.ETH_PSTAT_SPEED p)

/-- A frame of bytes `b` (without its FCS) ends on port `p`, `good` where neither its FCS nor a symbol was in error, its SFD `ago` before
now. -/
def State.ethReceive (s : State) (p : Nat) (b : List Byte) (good : Bool) (ago : Nat) : State :=
  if !s.ethLink p || !s.portRuns p then s
  else
    let len := b.length + 4
    let v := ethView b
    let tagged := match v.tag with | some (_, i) => i != 0 | none => false
    let vid := match v.tag with | some (_, i) => if i = 0 then s.fld F.ETH_PVLAN_PVID p else i | none => s.fld F.ETH_PVLAN_PVID p
    let pcp := match v.tag with
      | some (c, i) => if i = 0 then s.fld F.ETH_PVLAN_DEF_PCP p else c
      | none => s.fld F.ETH_PVLAN_DEF_PCP p
    let accept := s.fld F.ETH_PVLAN_ACCEPT p
    let admitted := !(accept == 1 && !tagged) && !(accept == 2 && tagged) && s.bit F.ETH_VLAN_MEMBER vid p
    let local' := v.dst == 0x0180C200000E || v.type == 0x88F7
    let dest := if local' then [4] else s.ethDest p v.dst vid
    let frame (s : State) (q : Nat) (stomp : Bool) : EthFr := ⟨v.out pcp vid (s.bit F.ETH_VLAN_UNTAG vid q), stomp, 0⟩
    if len < 64 then s.bump F.ETH_PCNT1_FCS_ERR p
    else if !good || 1522 < len then
      let s := if 1522 < len then s.bump F.ETH_PCNT1_OVERSIZE p else s
      let ct := admitted && dest.any fun q => s.cutThrough p q
      let s := if good && !ct then s else s.bump F.ETH_PCNT1_FCS_ERR p
      if !admitted then s
      else s.each dest fun s q =>
        if s.cutThrough p q then (s.ethQueue q (s.qmap pcp) (frame s q true)).bump F.ETH_PCNT1_STOMP q else s
    else if v.type = 0x8808 then s
    else
      let s := (s.bump F.ETH_PCNT0_RX p).macLearn v.src vid p
      if !admitted then s.ethDrop p 1
      else s.each dest fun s q =>
        if q = 4 then s.internalIn p (s.stampAgo ago) v b else s.ethQueue q (s.qmap pcp) (frame s q false)

end Sys2Proof.Machine
end

