-- ==== Sys2Proof/Machine/Supply.lean ====
section
/-! DEFINITION. Supply supervision (R157 to R168): the feed monitors and their holds, the staggered restore, the source monitor, supply
loss. Voltages are in 10 mV. -/

namespace Sys2Proof.Machine

def State.setSup (s : State) (x : SupSt) : State := { s with sup := x }

/-- VWARN in 10 mV and SHED_MASK, with the safe values of R70. -/
def State.vwarn (s : State) : Nat := 10 * (if s.isSafe .supCfg then 70 else s.fld F.BERTH_SUP_CTRL_VWARN)
def State.shedMask (s : State) : Nat := if s.isSafe .supCfg then 1 else s.fld F.BERTH_SUP_CTRL_SHED_MASK

/-- VSRC follows the highest of the feeds and KEEP (R157). -/
def State.sources (s : State) : State :=
  let v := (List.range 4).foldl (fun a f => Nat.max a (s.vfeed f)) s.sup.keep
  (s.setFld F.BERTH_VKEEP_VSRC 0 (Nat.min 65535 v)).setFld F.BERTH_VKEEP_KEEP 0 (Nat.min 65535 s.sup.keep)

/-- A feed monitor shows a new voltage. -/
def State.feedVolt (s : State) (f v : Nat) : State := (s.setVfeed f (Nat.min v 65535)).sources
/-- KEEP has a new voltage. -/
def State.keepVolt (s : State) (v : Nat) : State :=
  let s := s.setSup { s.sup with keep := v }
  (s.setFlag F.BERTH_STAT_KEEP_OK 0 (decide (900 ≤ v))).sources

/-- The supply rules hold a channel now (R122, R162, R167). -/
def State.mustHold (s : State) (n : Nat) : Bool :=
  let f := feedOf n
  !s.feedEnabled f || s.bit F.BERTH_SUP_STAT_OVER 0 f || s.flag F.BERTH_SUP_STAT_HOLDUP ||
    (s.bit F.BERTH_SUP_STAT_LOW 0 f && bitOf s.shedMask (s.prio n))

/-- Every leading channel that the supply rules hold now takes the rank-8 hold. -/
def State.supplyHolds (s : State) : State :=
  s.each (s.leads.filter fun n => s.mustHold n && !(s.cells n).all fun c => (s.swc c).sup) fun s n => s.setHold n .sup

/-- Held channels of a feed that the supply rules no longer hold. -/
def State.restorable (s : State) (f : Nat) : List Nat :=
  (s.feedLeads f).filter fun n => s.heldIn n 8 8 && !s.mustHold n
/-- Those of them that the restore turns on, in its order (R162, R163): commanded other than OFF, without another hold. -/
def State.toRestore (s : State) (f : Nat) : List Nat :=
  s.restoreOrder ((s.restorable f).filter fun n => s.fld F.SW_OUT_MODE n != 0 && !s.heldIn n 1 7)

/-- The restore of a feed is over: the holds of channels that stay off end too; SUPPLY_RESTORED if a channel was turned on. -/
def State.restoreEnd (s : State) (f : Nat) : State :=
  let s := s.each (s.restorable f) fun s n => s.endHold n .sup
  let lit := s.sup.restored.contains f
  let s := (s.setSup { s.sup with restoring := Tbl.del s.sup.restoring f, restored := s.sup.restored.filter (· ≠ f) }).setBit
    F.BERTH_SUP_STAT_RESTORING 0 f false
  if lit then (s.setFlag F.BERTH_SUP_EVT_RESTORED).raise .SUPPLY_RESTORED f else s

/-- One turn-on of a running restore (R163); the next follows STAGGER later. -/
def State.restoreTurnOn (s : State) (f : Nat) : State :=
  match s.toRestore f with
  | [] => s.restoreEnd f
  | n :: rest =>
    let s := (s.endHold n .sup).setSup { s.sup with restored := f :: s.sup.restored.filter (· ≠ f) }
    if rest.isEmpty then s.restoreEnd f
    else s.setSup { s.sup with restoring := assoc f (s.now + s.staggerNs) s.sup.restoring }

/-- A restore of a feed starts where channels wait for one and none runs (R163): the first turn-on at once. -/
def State.tryRestore (s : State) (f : Nat) : State :=
  if (lookup f s.sup.restoring).isSome ∨ (s.restorable f).isEmpty ∨ s.flag F.BERTH_SUP_STAT_HOLDUP then s
  else
    let s := (s.setSup { s.sup with restoring := assoc f s.now s.sup.restoring, restored := s.sup.restored.filter (· ≠ f) }).setBit
      F.BERTH_SUP_STAT_RESTORING 0 f
    s.restoreTurnOn f

/-- The restore of a feed stops where it stands (R164). -/
def State.stopRestore (s : State) (f : Nat) : State :=
  (s.setSup { s.sup with restoring := Tbl.del s.sup.restoring f, restored := s.sup.restored.filter (· ≠ f) }).setBit
    F.BERTH_SUP_STAT_RESTORING 0 f false

/-- The next step of a running restore falls due (R163). -/
def State.restoreStep (s : State) (f : Nat) : State :=
  match lookup f s.sup.restoring with
  | none => s
  | some t => (s.advanceTo t).restoreTurnOn f

/-- The turn-on that is due first, of the running supply restore of a feed or of the running restore of its limiter (R163, R215). -/
def State.restoreNext (s : State) (f : Nat) : State :=
  match (s.flc f).rest with
  | none => s.restoreStep f
  | some r =>
    match lookup f s.sup.restoring with
    | none => s.flStep f
    | some t => if r.next < t then s.flStep f else s.restoreStep f

/-- What the supply rules hold may have changed while feeds dip (R162): channels that have come into a shed class are held, and those that
have left them return in a restore. -/
def State.shedChanged (s : State) : State := s.supplyHolds.each (List.range 4) fun s f => s.tryRestore f

/-- The enable of R122 of a feed's channels may have changed. -/
def State.enableChanged (s : State) (f : Nat) : State :=
  let s := s.supplyHolds
  if s.feedEnabled f then s.tryRestore f else s.stopRestore f

/-- Boost and AUX24 follow the feeds that they draw from (R92, R94, R122). -/
def State.auxFeeds (s : State) : State :=
  let s := s.bstAll
  if s.flag F.DIO_AUX_STAT_UP && !(s.feedUp 1 || s.feedUp 2) then s.auxDown else s

/-- A feed has been above the return level for 5 ms (R158). -/
def State.feedPresent (s : State) (f v : Nat) : State :=
  let s := s.feedVolt f v
  if s.bit F.BERTH_SUP_STAT_PRESENT 0 f || !s.powered || decide (v ≤ 730) then s
  else
    let s := (s.setBit F.BERTH_SUP_STAT_PRESENT 0 f).clearFault .FEED_ABSENT f
    ((s.feedVolt f v).enableChanged f).auxFeeds

/-- A feed has been below VWARN for 100 µs (R159, R164). -/
def State.supplyDip (s : State) (f v : Nat) : State :=
  let s := s.feedVolt f v
  if s.bit F.BERTH_SUP_STAT_LOW 0 f || !s.powered || decide (s.vwarn ≤ v) then s
  else
    let s := ((s.setBit F.BERTH_SUP_STAT_LOW 0 f).setBit F.BERTH_SUP_EVT_DIP 0 f).stopRestore f
    (s.raise .SUPPLY_DIP f).supplyHolds

/-- A blade loses its feed before the comparison of R137: BERTH_RAMP_FAIL at once, with the time since EXTRACT and the early-parting mark.
Its residuals, which nothing has measured yet, read 0 (DESIGN CHOICE, log 34). -/
def State.partEarly (s : State) : State :=
  let s : State := { s with berth := { s.berth with early := true } }
  let t := Nat.min 65535 ((s.now - s.berth.extAt.getD s.now) / 1000000)
  (s.setFlag F.BERTH_EVT_RAMP_FAIL).raise .BERTH_RAMP_FAIL 0 [t + 65536, 0, 0]

/-- A feed has been below VRST for 100 µs (R121, R158, R160, R137). -/
def State.feedAbsent (s : State) (f v : Nat) : State :=
  let s := s.feedVolt f v
  if !s.bit F.BERTH_SUP_STAT_PRESENT 0 f || !s.powered || decide (650 ≤ v) then s
  else
    let s := ((s.setBit F.BERTH_SUP_STAT_PRESENT 0 f false).setBit F.BERTH_SUP_EVT_ABSENT 0 f).stopRestore f
    let s := s.setBit F.BERTH_STAT_MATED 0 f false
    let s := s.setFld F.BERTH_STAT_STATE 0 (match s.fld F.BERTH_STAT_STATE with
      | 1 => if s.fld F.BERTH_STAT_MATED = 0 then 0 else 1
      | m => m)
    let s := if s.fld F.BERTH_STAT_STATE = 2 then s.partEarly else s
    let s := { s with berth := { s.berth with probes := Tbl.del s.berth.probes f } }
    let s := (s.raise .FEED_ABSENT f).supplyHolds
    let s := if f = 1 then (s.bankFeedLost 0 |>.bankFeedLost 1 |>.bankFeedLost 2)
      else if f = 2 then (s.bankFeedLost 3 |>.bankFeedLost 4 |>.bankFeedLost 5) else s
    s.auxFeeds

/-- A feed has been above 62.0 V for 100 µs (R161). -/
def State.feedOvervolt (s : State) (f v : Nat) : State :=
  let s := s.feedVolt f v
  if s.bit F.BERTH_SUP_STAT_OVER 0 f || !s.powered || decide (v ≤ 6200) then s
  else
    let s := ((s.setBit F.BERTH_SUP_STAT_OVER 0 f).setBit F.BERTH_SUP_EVT_OVER 0 f).stopRestore f
    (s.raise .FEED_OVERVOLT f).supplyHolds

/-- A feed has stayed for 5 ms above the VWARN release level, or below the over-voltage release level (R157, R161, R163). -/
def State.restoreBegin (s : State) (f v : Nat) : State :=
  let s := s.feedVolt f v
  if !s.powered || s.flag F.BERTH_SUP_STAT_HOLDUP then s
  else
    let s := if s.bit F.BERTH_SUP_STAT_LOW 0 f && decide (s.vwarn + 80 < v) then
      (s.setBit F.BERTH_SUP_STAT_LOW 0 f false).clearFault .SUPPLY_DIP f else s
    let s := if s.bit F.BERTH_SUP_STAT_OVER 0 f && decide (v < 5800) then
      (s.setBit F.BERTH_SUP_STAT_OVER 0 f false).clearFault .FEED_OVERVOLT f else s
    s.tryRestore f

/-- VSRC has been below VWARN for 100 µs (R165). -/
def State.vlogLow (s : State) (keep : Nat) : State :=
  let s := s.keepVolt keep
  if s.flag F.BERTH_SUP_STAT_VLOG_LOW || !s.powered || decide (s.vwarn ≤ s.fld F.BERTH_VKEEP_VSRC) then s
  else
    (((s.setFlag F.BERTH_SUP_STAT_VLOG_LOW).setFlag F.BERTH_SUP_STAT_STORE_DEFER).setFlag F.BERTH_SUP_EVT_VLOG_LOW).raise .VLOG_LOW

/-- VSRC has stayed above the VWARN release level for 5 ms (R165): deferral ends. What waited then begins in the dictionary and in the
journal. -/
def State.vlogBack (s : State) (keep : Nat) : State :=
  let s := s.keepVolt keep
  if !s.flag F.BERTH_SUP_STAT_VLOG_LOW || decide (s.fld F.BERTH_VKEEP_VSRC ≤ s.vwarn + 80) then s
  else
    ((s.setFlag F.BERTH_SUP_STAT_VLOG_LOW 0 false).setFlag F.BERTH_SUP_STAT_STORE_DEFER 0 false).clearFault .VLOG_LOW

/-- Every running valve event loses its low side, one in its end decay too, and every waiting one is rejected with cause MODE (R167). -/
def State.valvesLost (s : State) : State :=
  s.each (List.range 24) fun s n =>
    let s := s.toDecay n 4 true
    let s := match (s.injc n).run with
      | some r => s.setInjc n { s.injc n with run := some { r with fast := true } }
      | none => s
    s.rejectWait n 13

/-- VSRC has been below VRST for 20 µs: hold-up (R167). -/
def State.supplyLoss (s : State) (vsrc : Nat) : State :=
  if s.flag F.BERTH_SUP_STAT_HOLDUP || !s.powered || decide (650 ≤ vsrc) then s
  else
    let s := (s.takeTrigger 1).1
    let s := s.setSup { s.sup with lossKept := s.nvmBusy, restoring := [], restored := [] }
    let s := (s.setFld F.BERTH_VKEEP_VSRC 0 vsrc).setFld F.BERTH_SUP_STAT_RESTORING 0 0
    let s := (s.setFlag F.BERTH_SUP_STAT_HOLDUP).raise .SUPPLY_LOSS
    let s := (s.supplyHolds.valvesLost).bstAll
    let s := s.each (List.range 32) fun s n => s.ledOff n
    s.dioRefresh

end Sys2Proof.Machine
end

