-- ==== Sys2Proof/Machine/Berth.lean ====
section
/-! DEFINITION. The berth: mating (R118 to R124), the slot code (R126 to R128), the berth link and capacities (R129 to R134),
extraction (R135 to R139). -/

namespace Sys2Proof.Machine

def State.setBerth (s : State) (b : BerthSt) : State := { s with berth := b }

/-! ## Mating -/

/-- PRECHG mates (R120): since now no bus has come within 1.0 V of it. -/
def State.prechgMate (s : State) : State := s.setBerth { s.berth with prechgMated := true, prechg := 0, probes := [] }

/-- A probe of a bus that is not mated (R121): bus and PRECHG voltages and the sag, 10 mV. Two passing probes in a row, 10 ms apart,
with the precharge completed, declare the feed mated. -/
def State.feedProbe (s : State) (f bus prechg sag : Nat) : State :=
  if s.bit F.BERTH_STAT_MATED 0 f || !s.awake then s
  else
    let last := (lookup f s.berth.probes).getD (0, 0)
    let s := if last.1 = 0 then s else s.advanceTo (last.2 + ms 10)
    let near := decide (bus ≤ prechg + 100) && decide (prechg ≤ bus + 100)
    let s := s.setBerth { s.berth with prechg := putBit s.berth.prechg f (bitOf s.berth.prechg f || (near && s.berth.prechgMated)) }
    let n := if sag < 25 then last.1 + 1 else 0
    let s := s.setBerth { s.berth with probes := assoc f (n, s.now) s.berth.probes }
    if 2 ≤ n ∧ bitOf s.berth.prechg f then
      let s := (s.setBit F.BERTH_STAT_MATED 0 f).setFlag F.BERTH_EVT_MATE
      let s := s.setFld F.BERTH_STAT_STATE 0 (if s.fld F.BERTH_STAT_STATE = 0 then 1 else s.fld F.BERTH_STAT_STATE)
      let s := s.setBerth { s.berth with probes := Tbl.del s.berth.probes f }
      (s.enableChanged f).auxFeeds
    else s

/-- A bus jumped by more than 20 % of the PRECHG voltage within 1 ms after its blade touched (R123). -/
def State.hardMate (s : State) (f : Nat) : State := s.raise .BERTH_HARD_MATE f

/-- KEEP is at 9 V or more (R124). -/
def State.keepReturn (s : State) (v : Nat) : State :=
  let s := s.keepVolt v
  if 900 ≤ v then s.clearFault .BERTH_NO_KEEP else s

/-! ## Slot code -/

/-- Closed contacts of a raw code as 1 bits (R126). -/
def slotClosed (raw : Nat) : Nat := 63 - raw % 64
def ones (n k : Nat) : Nat := ((List.range k).filter fun i => bitOf n i).length
/-- R126. -/
def slotValid (raw : Nat) : Bool := ones (slotClosed raw) 6 % 2 == 1
def slotPos (raw : Nat) : Nat := slotClosed raw % 8
def slotClass (raw : Nat) : Nat := slotClosed raw / 8 % 4

/-- Adopted capacities that a change of R133 makes: lower ones at once. -/
def State.capTarget (s : State) (f : Nat) : Nat :=
  let cls := [63, 80, 100, 125].getD (s.fld F.BERTH_STAT_CAP_CLASS) 63
  let link := s.isSafe .berthCfg || s.flag F.BERTH_CTRL_LINK_EN
  let rail := if link && s.berth.advSeen then s.fld F.BERTH_RAILCAP_ADV / 2 ^ (8 * f) % 256 else 255
  let oem := if s.isSafe .berthCfg then 63 else s.fld F.BERTH_CTRL_OEM_CAP
  Nat.min (Nat.min cls rail) (Nat.min oem 125)

/-- The adopted capacity of a feed becomes `v` (R134, R40). -/
def State.setCap (s : State) (f v : Nat) : State :=
  let old := s.cap f
  if v = old then s
  else
    let w := (s.rd .BERTH_CAP).toNat
    let s := (s.wr .BERTH_CAP 0 (BitVec.ofNat 32 (w - old * 2 ^ (8 * f) + v * 2 ^ (8 * f)))).setFlag F.BERTH_EVT_CAP_CHANGE
    (s.negotiated 0 f (s.rd .BERTH_CAP).toNat).enableChanged f

/-- A higher value joins the values that wait, each with the time since which the target has been at or above it. -/
def raiseStack (t now : Nat) (l : List (Nat × Nat)) : List (Nat × Nat) :=
  let low := l.filter fun x => decide (x.1 < t)
  match l.find? fun x => decide (t ≤ x.1) with
  | some x => low ++ [(t, x.2)]
  | none => low ++ [(t, now)]

/-- The value computed under R133 may have changed: R134. -/
def State.adopt (s : State) : State :=
  s.each (List.range 4) fun s f =>
    let t := s.capTarget f
    if t ≤ s.cap f then (s.setBerth { s.berth with raise := Tbl.del s.berth.raise f }).setCap f t
    else if !bitOf s.berth.adopted f then (s.setBerth { s.berth with adopted := putBit s.berth.adopted f true }).setCap f t
    else s.setBerth { s.berth with raise := assoc f (raiseStack t s.now ((lookup f s.berth.raise).getD [])) s.berth.raise }

/-- A higher capacity has stayed for 1 s and takes effect (R134). -/
def State.capRaise (s : State) (f : Nat) : State :=
  match (lookup f s.berth.raise).getD [] with
  | [] => s
  | (v, t) :: rest =>
    let s := s.advanceTo (t + sec 1)
    (s.setBerth { s.berth with raise := if rest.isEmpty then Tbl.del s.berth.raise f else assoc f rest s.berth.raise }).setCap f v

/-- The slot code is sampled at a pass through Boot (R127, R128): a code that is not valid takes capacity class 0. -/
def State.sampleSlot (s : State) : State :=
  let raw := s.pins.slot
  let ok := slotValid raw
  let s := (s.setFld F.BERTH_STAT_SLOT_RAW 0 raw).setFlag F.BERTH_STAT_SLOT_VALID 0 ok
  let s := (s.setFld F.BERTH_STAT_POS 0 (if ok then slotPos raw else 0)).setFld F.BERTH_STAT_CAP_CLASS 0 (if ok then slotClass raw else 0)
  let s := s.setBerth { s.berth with held := some raw }
  (if ok then s else s.raise .BERTH_SLOT_INVALID).adopt

/-- The strap reads a new code; a valid one that differs from the held sample for 100 ms is reported (R127). -/
def State.slotChange (s : State) (raw : Nat) : State :=
  let s := { s with pins := { s.pins with slot := raw % 64 } }
  if !s.awake then s
  else
    let s := s.setFld F.BERTH_STAT_SLOT_RAW 0 raw
    if slotValid raw && s.berth.held != some (raw % 64) && s.berth.held.isSome then
      (s.setFlag F.BERTH_EVT_SLOT_CHANGE).raise .BERTH_SLOT_CHANGE
    else s

/-! ## Link -/

/-- A frame of the berth link (R129): start byte, type, length, payload, CRC-16 over type, length and payload. -/
def berthFrame (type : Nat) (p : List Byte) : List Byte :=
  let body := BitVec.ofNat 8 type :: BitVec.ofNat 8 p.length :: p
  0x7E :: body ++ leBytes 2 (crc16 body)

/-- The payload of the bytes of a frame, where they are a RAIL_ADV whose length matches and whose CRC checks (R129 to R131). -/
def railPayload (b : List Byte) : Option (List Byte) :=
  let p := (b.drop 3).take 7
  if p.length = 7 ∧ b = berthFrame 1 p then some p else none

/-- The bytes of one transmission on RAIL_RX, after 20 bit times of idle (R129 to R133). Without the start byte they are no frame; a frame
that is no RAIL_ADV, has another length or fails its CRC is discarded and counted. One without a common version leaves the link as it is,
so that a link that is up is lost in time (DESIGN CHOICE, log 100). -/
def State.railAdv (s : State) (b : List Byte) : State :=
  if !s.awake || b.head? != some 0x7E then s
  else match railPayload b with
  | none => s.bump F.BERTH_LINK_ERR
  | some p =>
    let vers := (p.getD 0 0).toNat
    let v := if bitOf vers 2 then 2 else if bitOf vers 1 then 1 else 0
    if v = 0 then s
    else
      let s := (s.setFld F.BERTH_LINK_VERSION 0 v).setFld F.BERTH_LINK_RAIL_ID 0 (leNat ((p.drop 1).take 2))
      let s := (s.setFld F.BERTH_RAILCAP_ADV 0 (leNat (p.drop 3))).setFlag F.BERTH_STAT_LINK_UP
      ((s.setBerth { s.berth with advSeen := true, lastAdv := s.now }).clearFault .BERTH_LINK_LOSS).adopt

/-- No valid RAIL_ADV for 500 ms (R132). -/
def State.linkLoss (s : State) : State :=
  if !s.flag F.BERTH_STAT_LINK_UP then s
  else
    let s := s.advanceTo (s.berth.lastAdv + ms 500)
    let s := (s.setFlag F.BERTH_STAT_LINK_UP 0 false).setFld F.BERTH_LINK_VERSION 0 0
    (s.setFlag F.BERTH_EVT_LINK_LOSS).raise .BERTH_LINK_LOSS

/-- The frame of MOD_REPORT (R129, R130); the feed currents are the limiters' averages in whole amperes. -/
def State.modFrame (s : State) : List Byte :=
  let b : Nat → Byte := BitVec.ofNat 8
  let v := s.fld F.BERTH_LINK_VERSION
  let pos := if s.flag F.BERTH_STAT_SLOT_VALID then s.fld F.BERTH_STAT_POS else 255
  let cur := (List.range 4).map fun f => b (Nat.min 255 (signed 16 (s.fld F.PROT_FL_STAT_AVG f) / 10).toNat)
  berthFrame 0x81 ([b v, b pos, b (s.fld F.BERTH_STAT_STATE)] ++ (List.range 4).map (fun f => b (s.cap f)) ++ (if v = 2 then cur else []))

/-- The next MOD_REPORT leaves (R130): at once where its content is not that of the last one, else 100 ms after the last one. -/
def State.modReport (s : State) : State :=
  if !s.awake then s
  else
    let s := match s.berth.reportAt with
      | some t => if s.modFrame = s.berth.report then s.advanceTo (t + ms 100) else s
      | none => s
    s.setBerth { s.berth with reports := s.berth.reports + 1, report := s.modFrame, reportAt := some s.now }

/-! ## Extraction -/

/-- EXTRACT has read 1 for 1 ms in a powered mode (R135). -/
def State.extractBegin (s : State) : State :=
  let s := (({ s with pins := { s.pins with extract := true } } : State)).setFlag F.BERTH_STAT_EXTRACT
  if s.extracting then s
  else
    let s := (s.takeTrigger 2).1.sleepEnds
    let s := (s.silPause.setFlag F.BERTH_EVT_EXTRACT).raise .BERTH_EXTRACT
    let s := s.each s.leads fun s n =>
      let x := s.swc n
      let d : Option Drive := if !x.driving then none
        else if x.drive.mode = 1 then some { mode := 2, duty := 4095, period := 200000 }
        else some x.drive
      s.each (s.cells n) fun s c => s.setSwc c { (s.swc c).endWin with ramp := d }
    let s := (s.setBerth { s.berth with extAt := some (s.now - ms 1), rampAt := s.now, early := false }).setFld F.BERTH_STAT_STATE 0 2
    let s := (s.allValvesStop 13).clearStore
    let s := s.ledsRamp
    s.refreshAll.dioRefresh.bstAll

/-- The ramp of an extraction is over (R135): from RAMP_TIME on every switch channel is off and every fade at 0. -/
def State.rampEnd (s : State) : State :=
  if s.fld F.BERTH_STAT_STATE ≠ 2 ∨ s.now < s.berth.rampAt + ms s.rampMs then s
  else s.refreshAll.each (List.range 32) fun s n => if (s.ledc n).fade.isSome then s.ledOff n else s

/-- The comparison of R137, with the residual currents of the feeds in 0.1 A, and the extraction entry of R138, which carries the mark of
an early parting. -/
def State.rampCompare (s : State) (res : List Nat) : State :=
  if s.fld F.BERTH_STAT_STATE ≠ 2 then s
  else
    let s := (s.advanceTo (s.berth.rampAt + ms s.rampMs)).rampEnd
    let s := s.advanceTo (s.berth.rampAt + ms (s.rampMs + 30))
    let r := fun f => Nat.min 65535 (res.getD f 0)
    let t := Nat.min 65535 ((s.now - s.berth.extAt.getD s.now) / 1000000)
    let ok := (List.range 4).all fun f => decide (r f < 5)
    let d := [t + (if s.berth.early then 65536 else 0), r 0 + r 1 * 65536, r 2 + r 3 * 65536]
    let s := s.setBerth { s.berth with lastMs := t, lastRes := (List.range 4).map r, lastOk := ok }
    if ok then ((s.setFld F.BERTH_STAT_STATE 0 3).setFlag F.BERTH_EVT_RAMP_OK).raise .BERTH_RAMP_OK 0 d
    else (s.setFlag F.BERTH_EVT_RAMP_FAIL).raise .BERTH_RAMP_FAIL 0 d

/-- The extraction entry is committed to data NVM as soon as no other NVM write is in progress (R138, R165). -/
def State.extractionCommit (s : State) : State :=
  if s.berth.commit.isEmpty || s.nvmBusy then s else (s.setBerth { s.berth with commit := [] }).persist s.berth.commit

/-- EXTRACT has been back at 0 for 500 ms with a blade still mated (R139): a module reset with every commanded state OFF. -/
def State.extractAbort (s : State) : State :=
  let s := (({ s with pins := { s.pins with extract := false } } : State)).setFlag F.BERTH_STAT_EXTRACT 0 false
  if !s.extracting || s.fld F.BERTH_STAT_MATED == 0 then s
  else
    let s := (s.takeTrigger 2).1
    let s := (s.raise .BERTH_EXTRACT_ABORT).setFld F.BERTH_STAT_STATE 0 1
    s.askReset 5

end Sys2Proof.Machine
end

