-- ==== Sys2Proof/Machine/Cal.lean ====
section
/-! DEFINITION. Live calibration and load diagnostics (R230 to R250). -/

namespace Sys2Proof.Machine

def State.setCal (s : State) (c : CalSt) : State := { s with cal := c }

/-- The references differ by `ppm` and have done so for `held` ns: a failure above 0.3 % from 1 s on (R230). -/
def State.calRefFail (s : State) (ppm held : Nat) : State :=
  if s.active .CAL_REF_FAIL || !s.powered || decide (ppm ≤ 3000) || decide (held < sec 1) then s
  else ((s.setFlag F.CAL_STAT_REF_OK 0 false).setFlag F.CAL_EVT_REF_FAIL).raise .CAL_REF_FAIL
/-- They agree again: within 0.2 % for 10 s (R230). -/
def State.calRefOk (s : State) (ppm held : Nat) : State :=
  if 2000 < ppm ∨ held < sec 10 then s else (s.setFlag F.CAL_STAT_REF_OK 0 s.powered).clearFault .CAL_REF_FAIL

/-- Live calibration may take new coefficients (R230, the CAL safe state). -/
def State.calMay (s : State) : Bool := s.powered && !s.active .CAL_REF_FAIL && !s.isSafe .cal

/-- A channel uses the factory set, or the nominal set where that fails its check (R231, R233). -/
def State.factoryCh (s : State) (n : Nat) : State :=
  (s.wr .CAL_CH_LIVE n (s.rd .CAL_CH_FACT n)).setCal { s.cal with live := s.cal.live.filter (· ≠ n) }

/-- Both boosts use the factory set. -/
def State.factoryBoosts (s : State) : State :=
  let w : Nat → Word := fun x =>
    let f := (lookup x s.cal.factB).getD (0, 0)
    if s.cal.factGood then BitVec.ofNat 32 (unsigned 16 f.1 + unsigned 16 f.2 * 65536) else 0
  (s.wr .CAL_BOOST_A 0 (w 0)).wr .CAL_BOOST_B 0 (w 1)

/-- Revert to the factory set (R243): live calibration starts afresh. -/
def State.calRevert (s : State) : State :=
  let s := (s.each (List.range 64) fun s n => (s.factoryCh n).setFlag F.CAL_CH_STAT_STALE n false).factoryBoosts
  s.setCal { s.cal with sinceBoot := [], accAt := [] }

/-- The factory set is read at Boot (R231 to R233): after a power-on reset or domain power-up every converter starts on it. -/
def State.calBoot (s : State) (powerUp : Bool) : State :=
  let s := s.setFlag F.CAL_STAT_FACT_OK 0 s.cal.factGood
  let s := if powerUp && s.cal.factGood then
      s.each s.cal.fact fun s x => s.wr .CAL_CH_FACT x.1 (BitVec.ofNat 32 (unsigned 16 x.2.1 + unsigned 16 x.2.2 * 65536))
    else s
  let s := if powerUp then s.calRevert else s.setCal { s.cal with sinceBoot := [] }
  if s.cal.factGood then s else (s.setFlag F.CAL_EVT_FACT_BAD).raise .CAL_FACTORY_BAD

/-- Conditions of R236 and R238 on a channel: each of its cells conducts freely, or it has been OFF for 1 s (offset only). -/
def State.windowMay (s : State) (n : Nat) : Bool :=
  let x := s.swc n
  s.calMay && s.flag F.CAL_CTRL_SENSE_EN && s.clk.bDown.isNone && s.mode' != 5 && s.fld F.BERTH_STAT_STATE == 1 && !s.anyHold n &&
    (s.flc (feedOf n)).sagAt.isNone &&
    if x.driving then
      (s.cells n).all fun c => (s.swc c).inrush.isNone && !s.flag F.SW_STAT_LIMITING c &&
        decide (s.avg1 c ≤ 400 * (s.activeLimit c : Int) - 600)
    else x.st == 0 && decide (x.offAt + sec 1 ≤ s.now)

/-- The on-phases of a channel in PWM can hold one group (R238). -/
def State.groupFits (s : State) (n : Nat) : Bool :=
  (s.swc n).st != 2 || decide (groupNs + 2 * s.edge n ≤ (s.swc n).onTicks * 25)

/-- The next visit of a channel is due: once per `CAL_CTRL.PERIOD` (R241). -/
def State.visitDue (s : State) (n : Nat) : Bool :=
  match lookup n s.cal.visit with
  | some t => decide (t + sec (s.fld F.CAL_CTRL_PERIOD) ≤ s.now)
  | none => true

/-- A window of a cell from now on: its groups follow each other in ON and in the off state, and lie in what is left of the on-phase in PWM
(R234, R238; DESIGN CHOICE, log 104). -/
def State.windowOf (s : State) (c : Nat) : CalRun :=
  let x := s.swc c
  let w : CalRun := { at0 := s.now }
  if x.st = 2 then
    let t0 := s.gTime x.pstart
    w.fit 4 (Nat.max s.now (t0 + s.edge c)) (t0 + x.onTicks * 25 - s.edge c)
  else w.fit x.groups s.now (s.now + ms 100)

/-- A calibration window starts on a channel (R236, R241): when its visit is due, one at a time per feed, and in ascending order among the
channels of the feed that are due and may have one. -/
def State.windowStart (s : State) (n : Nat) : State :=
  let n := s.lead n
  let may := fun (s : State) m => s.windowMay m && s.groupFits m
  let busy := (s.feedLeads (feedOf n)).any fun m => (s.swc m).win.isSome
  if !may s n || busy then s
  else
    let s := s.advanceTo (match lookup n s.cal.visit with | some t => t + sec (s.fld F.CAL_CTRL_PERIOD) | none => 0)
    if (s.feedLeads (feedOf n)).any fun m => decide (m < n) && may s m && s.visitDue m then s
    else
      let s := s.each (s.cells n) fun s c => s.setSwc c { s.swc c with win := some (s.windowOf c) }
      s.setCal { s.cal with visit := assoc n s.now s.cal.visit }

/-- The windows of a channel's cells end without a result. -/
def State.windowStop (s : State) (n : Nat) : State := s.each (s.cells n) fun s c => s.setSwc c (s.swc c).endWin

/-- Every window of which a condition of R236 has ceased ends at once. -/
def State.calWatch (s : State) : State :=
  s.each ((s.sw.filter fun e => e.2.win.isSome).map (·.1)) fun s n =>
    if s.windowMay (s.lead n) then s else s.setSwc n (s.swc n).endWin

/-- Old coefficient and measured one: the first accepted window after Boot replaces, later ones move a quarter of the way, rounded to
nearest (R237, log 13). -/
def settle (first : Bool) (old new : Int) : Int := if first then new else old + roundDiv (new - old) 4

/-- A gain lies within ± `pct` % of the factory gain (R237, R244); both are corrections in 10 ppm, so that the gains themselves are
100000 + correction. -/
def near (fact gain : Int) (pct : Nat) : Bool := decide (100 * (gain - fact).natAbs ≤ pct * (100000 + fact).natAbs)

/-- One cell takes the result of a window: gain correction in 10 ppm, offset in 0.25 mA, or neither (R237). -/
def State.windowResult (s : State) (n : Nat) (gain : Option Int) (off : Int) (ok : Bool) : State :=
  let s := s.setSwc n (s.swc n).endWin
  if ok then
    let first := !s.cal.sinceBoot.contains n
    let g0 := signed 16 (s.fld F.CAL_CH_LIVE_GAIN n)
    let o0 := signed 16 (s.fld F.CAL_CH_LIVE_OFFSET n)
    let s := match gain with
      | some g => s.setFld F.CAL_CH_LIVE_GAIN n (satSigned 16 (settle first g0 g))
      | none => s
    let s := s.setFld F.CAL_CH_LIVE_OFFSET n (satSigned 16 (settle first o0 off))
    let s := (s.setFld F.CAL_CH_STAT_REJ n 0).setFlag F.CAL_CH_STAT_STALE n false
    let s := s.setCal { s.cal with accAt := assoc n s.now s.cal.accAt, live := n :: s.cal.live.filter (· ≠ n)
                                   sinceBoot := n :: s.cal.sinceBoot.filter (· ≠ n) }
    s.clearFault .CAL_SENSE_DRIFT n
  else
    let s := (s.bump F.CAL_CH_STAT_REJ n).bump F.CAL_STAT_REJECTS
    if s.fld F.CAL_CH_STAT_REJ n = 16 then (s.setFlag F.CAL_EVT_SENSE_DRIFT).raise .CAL_SENSE_DRIFT n else s

/-- The groups of a running window with their raw means, of both cells for a pair (R235, R237, R238, R240): a window that is complete is judged
at the end of its last group; one whose groups have not all found their place is abandoned 100 ms after its visit began. -/
def State.windowEnd (s : State) (n : Nat) (a b : CalWin) : State :=
  let n := s.lead n
  let run := (s.swc n).win
  let whole := match run with | some w => decide ((s.swc n).groups ≤ w.gs.length) | none => false
  let s := match run with
    | some w => s.advanceTo (if whole then w.gs.getLast?.getD w.at0 + groupNs else w.at0 + ms 100)
    | none => s
  if run.isNone then s
  else if !whole || !s.windowMay n then s.windowStop n
  else
    let pair := s.paired n
    let ws := if pair then [a, b] else [a]
    let off := fun (w : CalWin) => roundDiv ((w.p1 + w.p2) + 2 * w.x) 1000
    let half := fun (w : CalWin) => w.p1 + w.p2
    let num := ws.foldl (fun t w => t + (2 * w.j - half w)) 0
    let gain := roundDiv (num - 2000000 * (ws.length : Int)) (20 * ws.length)
    let on := (s.swc n).driving
    let offOnly := fun (w : CalWin) => roundDiv (w.p1 + w.x) 500
    let steady := ws.all fun w => decide ((w.p1 - w.p2).natAbs ≤ 10000)
    s.each ((s.cells n).zip ws) fun s x =>
      let fact := signed 16 (s.fld F.CAL_CH_FACT_GAIN x.1)
      let o := if on then off x.2 else offOnly x.2
      let ok := (!on || (steady && near fact gain 3)) && decide (o.natAbs ≤ 600)
      s.windowResult x.1 (if on then some gain else none) o ok

/-- A conducting channel has had no accepted window for 60 s (R242): since the last one, or, where it has had none, since it began to conduct
(DESIGN CHOICE, log 104). -/
def State.calStale (s : State) (n : Nat) : State :=
  if s.conducting n then
    (s.advanceTo ((lookup n s.cal.accAt).getD (s.swc (s.lead n)).onAt + sec 60)).setFlag F.CAL_CH_STAT_STALE n
  else s

/-- The 100 ms conversion of a boost sense converter: gain correction in 10 ppm, offset in mV (R244). -/
def State.boostCal (s : State) (x : Nat) (gain off : Int) : State :=
  if !s.calMay || !s.flag F.CAL_CTRL_BOOST_EN then s
  else
    let fact := if s.cal.factGood then ((lookup x s.cal.factB).getD (0, 0)).1 else 0
    if near fact gain 2 then
      let w := BitVec.ofNat 32 (satSigned 16 gain + satSigned 16 off * 65536)
      (s.wr (if x = 0 then .CAL_BOOST_A else .CAL_BOOST_B) 0 w).clearFault .CAL_BOOST_DRIFT x
    else if s.active .CAL_BOOST_DRIFT x then s
    else (s.setFlag F.CAL_EVT_BOOST_DRIFT).raise .CAL_BOOST_DRIFT x

/-- The 1 s check of a group's thresholds, in mV (R246, R343). -/
def State.diCheck (s : State) (g onV offV : Nat) : State :=
  if !s.powered || s.isSafe .cal || !s.flag F.CAL_CTRL_DI_EN then s
  else
    let t3 := s.flag F.DIO_GRP_CFG_TYPE g && !s.isSafe (.dioGrp g)
    let on0 : Int := if t3 then 8000 else 11000
    let off0 : Int := if t3 then 6500 else 9000
    if ((onV : Int) - on0).natAbs ≤ 400 ∧ ((offV : Int) - off0).natAbs ≤ 400 then
      (s.setBit F.CAL_DI_FAIL 0 g false).clearFault .CAL_DI_THRESH g
    else
      let s := (s.setBit F.CAL_DI_FAIL 0 g).setFlag F.CAL_EVT_DI_THRESH
      if s.active .CAL_DI_THRESH g then s else s.raise .CAL_DI_THRESH g

/-! ## Aerials -/

def lfReg (a : Nat) : Reg := if a < 4 then .CAL_LF0 else .CAL_LF1
/-- The byte of an aerial in CAL_LF0 and CAL_LF1. -/
def State.lfByte (s : State) (a : Nat) : Nat := (s.rd (lfReg a)).toNat / 2 ^ (8 * (a % 4)) % 256
def State.setLf (s : State) (a v : Nat) : State :=
  s.wr (lfReg a) 0 (BitVec.ofNat 32 ((s.rd (lfReg a)).toNat - s.lfByte a * 2 ^ (8 * (a % 4)) + v % 256 * 2 ^ (8 * (a % 4))))

/-- The first 512 µs of an LF burst measure a phase in tenths of a degree, positive where a higher trim brings it down (R245). -/
def State.lfTrim (s : State) (a : Nat) (phase : Int) : State :=
  if s.isSafe .cal || !s.flag F.CAL_CTRL_LF_EN then s
  else
    let t := signed 6 (s.lfByte a)
    let t' := if 50 < phase then clamp (-32) 31 (t + 1) else if phase < -50 then clamp (-32) 31 (t - 1) else t
    let atEnd := decide (t' = -32) || decide (t' = 31)
    let s := s.setLf a (unsigned 6 t' + (if atEnd then 64 else 0) + 128)
    let bad := if atEnd && decide (100 < phase.natAbs) then (lookup a s.cal.lfBad).getD 0 + 1 else 0
    let s := s.setCal { s.cal with lfBad := assoc a (Nat.min bad 8) s.cal.lfBad }
    if 8 ≤ bad ∧ !s.active .CAL_LF_RANGE a then (s.setFlag F.CAL_EVT_LF_RANGE).raise .CAL_LF_RANGE a
    else if atEnd then s else s.clearFault .CAL_LF_RANGE a

/-- An LF burst on the aerials of `mask`: the noise floor of the millisecond before it and the phase of its first 512 µs (R245). -/
def State.lfBurst (s : State) (mask : Nat) (x : LfBurst) : State :=
  s.each ((List.range 6).filter fun a => bitOf mask a) fun s a =>
    let s := match x.noise[a]? with
      | some v => s.setCal { s.cal with noise := assoc a v s.cal.noise }
      | none => s
    match x.phase[a]? with
    | some d => s.lfTrim a d
    | none => s

/-- The LF noise floor of an aerial, µV rms (R233, R245). -/
def State.lfNoise (s : State) (a : Nat) : Nat := (lookup a s.cal.noise).getD 2000

/-! ## Load diagnostics -/

/-- A diagnosis may run on a channel: CAL not safe (R250). -/
def State.diagMay (s : State) (n : Nat) (en : Fld) : Bool := s.powered && !s.isSafe .cal && s.flag en (s.lead n)
/-- The output is off for another reason than a PWM off-phase or extraction (R247, R248). -/
def State.offState (s : State) (n : Nat) : Bool := (s.swc (s.lead n)).st == 0 && !s.extracting

/-- The pull-up is applied, 2 ms after the output turned off (R247). -/
def State.pullup (s : State) (n : Nat) : State :=
  let n := s.lead n
  if s.diagMay n F.CAL_CH_DIAG_OFF_EN ∧ s.offState n ∧ s.powered then
    (s.advanceTo ((s.swc n).offAt + ms 2)).setFlag F.CAL_CH_DSTAT_PULLUP n
  else s

/-- A flag of the load diagnostics begins (R247 to R250). -/
def State.diagSet (s : State) (n : Nat) (st ev : Fld) (f : FaultId) : State :=
  if s.flag st n then s else ((s.setFlag st n).setFlag ev n).raise f n [] (sec 1)
/-- It ends. -/
def State.diagEnd (s : State) (n : Nat) (st : Fld) (f : FaultId) : State := (s.setFlag st n false).clearFault f n

/-- VOUT (10 mV) has been above 2.5 V for 10 ms with the pull-up applied (R247). -/
def State.openLoadOff (s : State) (n : Nat) (vout : Int) : State :=
  let n := s.lead n
  let s := s.setFld F.CAL_CH_DSTAT_VOUT n (satSigned 16 vout)
  if s.diagMay n F.CAL_CH_DIAG_OFF_EN ∧ s.offState n ∧ s.flag F.CAL_CH_DSTAT_PULLUP n ∧ 250 < vout then
    s.diagSet n F.CAL_CH_DSTAT_OL_OFF F.CAL_CH_DEVT_OL_OFF .OPEN_LOAD_OFF else s
/-- VOUT has stayed below that level for 10 ms (R247). -/
def State.openLoadOffEnd (s : State) (n : Nat) : State := s.diagEnd (s.lead n) F.CAL_CH_DSTAT_OL_OFF .OPEN_LOAD_OFF

/-- VOUT has been at 6.0 V or more for 10 ms in an off state (R248). -/
def State.shortToFeed (s : State) (n : Nat) (vout : Int) : State :=
  let n := s.lead n
  let s := s.setFld F.CAL_CH_DSTAT_VOUT n (satSigned 16 vout)
  if s.diagMay n F.CAL_CH_DIAG_STF_EN ∧ s.offState n ∧ 600 ≤ vout then
    s.diagSet n F.CAL_CH_DSTAT_STF F.CAL_CH_DEVT_STF .SHORT_TO_FEED else s
def State.shortToFeedEnd (s : State) (n : Nat) : State := s.diagEnd (s.lead n) F.CAL_CH_DSTAT_STF .SHORT_TO_FEED

/-- The current of a conducting channel has stayed below OL_THR for 10 ms, in PWM and PWM_COMP for two evaluated periods too (R249). -/
def State.openLoadOn (s : State) (n : Nat) : State :=
  let n := s.lead n
  match (s.swc n).low with
  | some (t, k) =>
    if s.diagMay n F.CAL_CH_DIAG_ON_EN && s.conducting n && ((s.swc n).st == 1 || decide (2 ≤ k)) then
      (s.advanceTo (t + ms 10)).diagSet n F.CAL_CH_DSTAT_OL_ON F.CAL_CH_DEVT_OL_ON .OPEN_LOAD_ON
    else s
  | none => s
/-- The current has stayed at OL_THR + 20 mA or more for 10 ms (R249). -/
def State.openLoadOnEnd (s : State) (n : Nat) : State :=
  let n := s.lead n
  match (s.swc n).high with
  | some t => (s.advanceTo (t + ms 10)).diagEnd n F.CAL_CH_DSTAT_OL_ON .OPEN_LOAD_ON
  | none => s

/-- A check that is disabled, or stopped by the CAL safe state, clears its flag at once (R250). -/
def State.diagConfigured (s : State) (n : Nat) : State :=
  let n := s.lead n
  let s := if s.diagMay n F.CAL_CH_DIAG_OFF_EN then s
    else (s.diagEnd n F.CAL_CH_DSTAT_OL_OFF .OPEN_LOAD_OFF).setFlag F.CAL_CH_DSTAT_PULLUP n false
  let s := if s.diagMay n F.CAL_CH_DIAG_ON_EN then s else s.diagEnd n F.CAL_CH_DSTAT_OL_ON .OPEN_LOAD_ON
  if s.diagMay n F.CAL_CH_DIAG_STF_EN then s else s.diagEnd n F.CAL_CH_DSTAT_STF .SHORT_TO_FEED

/-- The CAL safe state: live calibration and diagnostics stop, every converter reverts to the factory set. -/
def State.calSafe (s : State) : State :=
  (s.setSafe .cal).calRevert.each (List.range 64) fun s n =>
    (s.setSwc n (s.swc n).endWin).diagConfigured n

end Sys2Proof.Machine
end

