-- ==== Sys2Proof/Machine/Acc.lean ====
section
/-! DEFINITION. Access and immobiliser (R546 to R569): challenge cycles, the judgement of replies, zones, gates, release messages,
enrolment, revocation and the watch, over the keys that customs holds (R572, R573). -/

namespace Sys2Proof.Machine

def State.setAcc (s : State) (x : AccSt) : State := { s with acc := x }
def State.setCust (s : State) (x : CustSt) : State := { s with cust := x }
def State.slotc (s : State) (i : Nat) : TokSlot := Tbl.get (fun _ => {}) s.acc.slot i
def State.setSlotc (s : State) (i : Nat) (x : TokSlot) : State :=
  s.setAcc { s.acc with slot := Tbl.set natLt (fun _ => {}) s.acc.slot i x }
def State.gatec (s : State) (g : Nat) : AccGate := Tbl.get (fun _ => {}) s.acc.gate g
def State.setGatec (s : State) (g : Nat) (x : AccGate) : State :=
  s.setAcc { s.acc with gate := Tbl.set natLt (fun _ => {}) s.acc.gate g x }

/-! ## Keys -/

/-- The key of an index, where it is present and passes its check (R573). -/
def State.key (s : State) (i : Nat) : Option (List Byte) := if s.cust.bad.contains i then none else lookup i s.cust.keys

/-- A use of a key checks it: one that fails is treated as absent and raises CUST_KEY_BAD (R573). -/
def State.keyUsed (s : State) (i : Nat) : State := if s.cust.bad.contains i then s.raise .CUST_KEY_BAD i else s

def State.setKey (s : State) (i : Nat) (k : List Byte) : State :=
  s.setCust { s.cust with keys := Tbl.set natLt (fun _ => []) s.cust.keys i k, bad := s.cust.bad.filter (· ≠ i) }
def State.eraseKeys (s : State) (p : Nat → Bool) : State :=
  s.setCust { s.cust with keys := s.cust.keys.filter fun e => !p e.1, bad := s.cust.bad.filter fun i => !p i }

/-- The serial number as its 8 bytes. -/
def serialBytes : List Byte := leBytes 8 Config.serial

/-! ## Cycles -/

/-- ACC serves tokens: neither it nor customs is safe (R70, R586). -/
def State.accRuns (s : State) : Bool := !s.isSafe .acc && !s.cust.safe
/-- The modes in which gates open and polling runs (R548, R559). -/
def State.accMode (s : State) : Bool := s.mode' == 3 || s.mode' == 4 || s.mode' == 5 || s.mode' == 6

/-- Challenge end of a cycle (R547). -/
def Cycle.chalEnd (c : Cycle) : Nat := c.start + us (31000 + 600 * ((List.range 6).filter (bitOf c.aerials)).length)
/-- Expected start of reply slot `k` (R551). -/
def Cycle.expected (c : Cycle) (k : Nat) : Nat := c.chalEnd + us (300 + k * 10600)
/-- End of a cycle: that of its last reply slot (R552). -/
def Cycle.endAt (c : Cycle) : Nat :=
  match c.kind with
  | .broadcast => c.expected 3 + us 10000
  | .slotted _ _ => c.expected 3 + us 10000
  | _ => c.expected 0 + us 10000

/-- A cycle is running (ACC_STAT.POLLING). -/
def State.cycling (s : State) : Bool := match s.acc.cyc with | some c => decide (s.now < c.endAt) | none => false

/-- The driver current of a frame on an aerial, in mA, against 30 % of the set drive, which has an LSB of 100 mA (R549). -/
def State.aerialDrive (s : State) (a drive : Nat) (ma : Option Nat) : State :=
  match ma with
  | none => s
  | some ma =>
    let low := decide (ma < 30 * drive)
    let n := if low then (lookup a s.acc.low).getD 0 + 1 else 0
    let k := if low then 0 else (lookup a s.acc.good).getD 0 + 1
    let s := s.setAcc { s.acc with low := assoc a n s.acc.low, good := assoc a k s.acc.good }
    if n = 4 then (s.setFlag F.ACC_EVT_AERIAL).raise .ACC_AERIAL_OPEN a
    else if k = 4 then s.clearFault .ACC_AERIAL_OPEN a
    else s

/-- A frame on the aerials of `mask`. -/
def State.frameDrive (s : State) (mask drive : Nat) (ma : List Nat) : State :=
  s.each ((List.range 6).filter (bitOf mask)) fun s a => s.aerialDrive a drive ma[a]?

/-- The noise measurement and the frame of a cycle on every enabled aerial (R245, R549). -/
def State.cycleBurst (s : State) (x : LfBurst) : State :=
  (s.lfBurst (s.fld F.ACC_AER_EN) x).frameDrive (s.fld F.ACC_AER_EN) (s.fld F.ACC_AER_DRIVE) x.ma

/-- The frame of a cycle that a register or object write has started. -/
def State.burstAfter (s : State) (x : LfBurst) (f : State → State) : State :=
  let t := f s
  if t.acc.cyc.map (·.start) = s.acc.cyc.map (·.start) then t else t.cycleBurst x

/-- An LF frame (R546): preamble, command, system ID, what follows, and the CRC-8 over all but the preamble. -/
def State.lfFrame (s : State) (cmd : Nat) (rest : List Byte) : List Byte :=
  let body := leBytes 1 cmd ++ leBytes 3 s.acc.sysId ++ rest
  leBytes 1 0xFE ++ body ++ leBytes 1 (crc8 body)

/-- The slot index `i` as a cycle or a reply names it: occupied, or the slot that is being enrolled (R566). -/
def State.slotFor (s : State) (i : Nat) : TokSlot × Option (List Byte) :=
  match s.acc.enrol with
  | some e =>
    if e.slot = i then
      match e.ver with
      | some v => (⟨true, e.master, v, e.id, none⟩, some e.key)
      | none => ({}, none)
    else (s.slotc i, s.key (11 + i))
  | none => (s.slotc i, s.key (11 + i))

/-- Command and parameter of a cycle's frame (R546). The assign frame carries the slot index and, in bits [7:4], the versions 1 and 2 as a
bitmap (DEDUCED, log 115). -/
def State.cycleCmd (s : State) : CycKind → Nat × Nat
  | .broadcast => (1, 0)
  | .addressed i => (2, i % 16 + 16 * ((s.slotFor i).1.ver % 16))
  | .slotted i k => (3, i % 16 + 16 * (k % 16))
  | .assign => (5, (match s.acc.enrol with | some e => e.slot % 16 | none => 0) + 16 * 3)

/-- The 64 bits of a cycle's challenge (R546): drawn from the customs TRNG; for an assign frame the token ID and a 32-bit CMAC, of which the
spec does not name the message: a free value. -/
def State.cycleChal (s : State) : CycKind → List Byte × State
  | .assign =>
    let r := s.draw 32
    (leBytes 4 (match s.acc.enrol with | some e => e.id | none => 0) ++ leBytes 4 r.1, r.2)
  | _ => s.trng 8

/-- A cycle starts now, or at the end of the one that runs (R547, R548). -/
def State.startCycle (s : State) (k : CycKind) : State :=
  let t := match s.acc.cyc with | some c => Nat.max s.now c.endAt | none => s.now
  let r := s.cycleChal k
  let c := s.cycleCmd k
  r.2.setAcc { r.2.acc with cyc := some ⟨k, t, s.fld F.ACC_AER_EN, r.1⟩, lf := s.lfFrame c.1 (leBytes 1 c.2 ++ r.1) }

/-- The running cycle ends first. -/
def State.cycleWait (s : State) : State := match s.acc.cyc with | some c => s.advanceTo c.endAt | none => s

/-- POLL_INT in ns. -/
def State.pollInt (s : State) : Nat := ms (100 * s.fld F.ACC_CTRL_POLL_INT)

/-- A broadcast cycle falls due (R547, R548). -/
def State.challenge (s : State) (x : LfBurst) : State :=
  if !s.accRuns || !s.accMode || !(s.flag F.ACC_CTRL_POLL_EN || s.acc.req) then s
  else
    let s := if s.acc.req then s else match s.acc.last with | some t => s.advanceTo (t + s.pollInt) | none => s
    let s := s.cycleWait
    let s := (s.setAcc { s.acc with last := some s.now, req := false, done := some [] }).startCycle .broadcast
    s.cycleBurst x

/-- ACC_CMD.POLL_NOW: at once, or at the end of the running cycle. -/
def State.pollNow (s : State) : State :=
  if !s.accRuns || !s.accMode then s
  else if s.cycling then s.setAcc { s.acc with req := true }
  else (s.setAcc { s.acc with last := some s.now, done := some [] }).startCycle .broadcast

/-- A reply slot is judged a collision (R552). -/
def collides (x : SlotRx) : Bool := decide (ms 1 ≤ x.energy) || decide (2 ≤ x.syncs)

/-- It is the turn of slot index `i` since the last broadcast cycle: it is occupied and not yet addressed, and every occupied index below it
of the same reply slot has been (R554). -/
def State.addressDue (s : State) (i : Nat) : Bool :=
  match s.acc.done with
  | none => false
  | some d => (s.slotc i).occ && !d.contains i &&
      (List.range i).all fun j => j % 4 != i % 4 || !(s.slotc j).occ || d.contains j

/-- An addressed cycle for index `i` (R554, R566): for the slot that is being enrolled, or after a collision in reply slot i mod 4 of the
broadcast cycle, where `rx` says what that slot received. -/
def State.addressed (s : State) (i : Nat) (rx : SlotRx) (x : LfBurst) : State :=
  let enrolling := match s.acc.enrol with | some e => e.slot == i && e.ver.isSome | none => false
  if !s.accRuns then s
  else if enrolling then (s.cycleWait.startCycle (.addressed i)).cycleBurst x
  else if s.acc.done.isNone || !(collides rx) then s
  else
    let s := s.setFlag F.ACC_EVT_COLL
    if s.addressDue i then
      ((s.cycleWait.setAcc { s.cycleWait.acc with done := s.acc.done.map (· ++ [i]) }).startCycle (.addressed i)).cycleBurst x
    else s

/-- An addressed or ID-slotted cycle was a collision, `rx` says of what it received: the next ID-slotted cycle follows, or the sequence ends
after k = 7 (R554). -/
def State.slotted (s : State) (rx : SlotRx) (x : LfBurst) : State :=
  if !s.accRuns || !(collides rx) then s
  else
    match s.acc.cyc with
    | none => s
    | some c =>
      let go := fun (i k : Nat) =>
        (((s.setFlag F.ACC_EVT_COLL).cycleWait).startCycle (.slotted i k)).cycleBurst x
      match c.kind with
      | .addressed i => go i 0
      | .slotted i k =>
        if k < 7 then go i (k + 1)
        else
          let s := ((s.setFlag F.ACC_EVT_COLL).cycleWait).raise .ACC_COLLISION i
          s.setAcc { s.acc with cyc := none }
      | _ => s

/-! ## Gates -/

/-- The hold source of a gate is true (R559). -/
def State.gateHeld (s : State) (g : Nat) : Bool :=
  s.fld F.ACC_GATE_CFG_MODE g == 1 && (s.source (s.fld F.ACC_GATE_HOLD_HOLD_SRC g) != s.flag F.ACC_GATE_HOLD_HOLD_INV g)

/-- A gate opens, or its authentication is renewed. -/
def State.gateOpen (s : State) (g zone : Nat) : State :=
  let was := s.bit F.ACC_STAT_GATES 0 g
  let s := s.setGatec g { s.gatec g with auth := s.now, zone := zone, msgAt := if was then (s.gatec g).msgAt else some s.now }
  if was then s
  else
    let s := ((s.setBit F.ACC_STAT_GATES 0 g).setFlag F.ACC_EVT_GATE).raise .ACC_GATE g [1]
    s.each ((List.range 136).filter fun i => s.fld F.ACC_GOUT_GATE i == g + 1) fun s i => s.outRefresh i

/-- The commanded state of a tied output becomes OFF (R560). -/
def State.outOff (s : State) (i : Nat) : State :=
  if i < 64 then s.command i 0 (s.fld F.SW_OUT_DUTY i) none
  else if 120 ≤ i then (s.setBit F.DIO_DO_OUT_ON 0 (i - 120) false).doRefresh (i - 120)
  else s

/-- A gate closes: its tied outputs are commanded off (R559, R560). -/
def State.gateShutNow (s : State) (g : Nat) : State :=
  if !s.bit F.ACC_STAT_GATES 0 g then s
  else
    let s := ((s.setBit F.ACC_STAT_GATES 0 g false).setFlag F.ACC_EVT_GATE).setGatec g { s.gatec g with zone := 15, msgAt := some s.now }
    let s := s.raise .ACC_GATE g [0]
    s.each ((List.range 136).filter fun i => s.fld F.ACC_GOUT_GATE i == g + 1) fun s i => s.outOff i

def State.gatesShut (s : State) : State := s.each (List.range 8) fun s g => s.gateShutNow g

/-- The window of an open gate is over and its hold source is not true (R559). -/
def State.gateClose (s : State) (g : Nat) : State :=
  if !s.bit F.ACC_STAT_GATES 0 g then s
  else
    let s := s.advanceTo ((s.gatec g).auth + sec (s.fld F.ACC_GATE_SEL_WINDOW g))
    if s.gateHeld g then s else s.gateShutNow g

/-- An OK of slot `i` in zone `z` opens the gates that it may open (R559). -/
def State.gatesTry (s : State) (i z : Nat) : State :=
  if !s.accMode then s
  else
    s.each ((List.range 8).filter fun g => s.bit F.ACC_GATE_SEL_SLOTS g i && s.bit F.ACC_GATE_CFG_ZONES g z) fun s g =>
      s.gateOpen g z

/-- The ACC safe state of R70: polling stops and every gate closes. -/
def State.accSafe (s : State) : State := ((s.setSafe .acc).setAcc { s.acc with cyc := none, req := false }).gatesShut

/-- The customs safe state (R586). -/
def State.custSelftest (s : State) : State :=
  let s := s.setCust { s.cust with safe := true }
  ((s.setSafe .cust).raise .CUST_SELFTEST).gatesShut

/-! ## Release messages -/

/-- A release message of gate `g` (R562, R563): on every change of the gate and every PERIOD, from the timer slot of its port. -/
def State.releaseMsg (s : State) (g : Nat) : State :=
  let p := s.fld F.ACC_MSGCFG_PORT g
  match s.flag F.ACC_MSGCFG_MSG_EN g && s.accRuns && s.awake && s.canRuns p && s.fld F.CAN_CTRL_OPMODE p == 0, s.key 10 with
  | true, some k =>
    let s := match (s.gatec g).msgAt with | some t => s.advanceTo t | none => s
    let f := (s.cust.fresh + 1) % 2 ^ 64
    let open' := s.bit F.ACC_STAT_GATES 0 g
    let b0 := (if open' then 1 else 0) + 2 * g + 16 * (if open' then (s.gatec g).zone else 15)
    let id := s.fld F.ACC_GATE_MSG_ID g
    let tag := (aesCmac k (leBytes 4 id ++ leBytes 1 b0 ++ leBytes 8 f)).take 4
    let s := s.setCust { s.cust with fresh := f, freshNvm := if f % 65536 = 0 then f else s.cust.freshNvm }
    let s := s.setGatec g { s.gatec g with msgAt := some (s.now + ms (s.fld F.ACC_MSGCFG_PERIOD g)) }
    s.timerPut p (4 + g) { id := id, xtd := s.flag F.ACC_GATE_MSG_XTD g, dlc := 8, data := leBytes 1 b0 ++ leBytes 3 f ++ tag }
  | true, none => s.keyUsed 10
  | _, _ => s

/-- At each Boot F rises to the next multiple of 65,536 above the value last persisted (R563). -/
def State.freshBoot (s : State) : State :=
  let f := (s.cust.freshNvm / 65536 + 1) * 65536 % 2 ^ 64
  s.setCust { s.cust with fresh := f, freshNvm := f }

/-! ## Zones (R557, R558) -/

def byteOf (w k : Nat) : Nat := w / 2 ^ (8 * k) % 256
def putByte (w k v : Nat) : Nat := w - byteOf w k * 2 ^ (8 * k) + v % 256 * 2 ^ (8 * k)

/-- Minimum and maximum of aerial `a` in zone `z`. -/
def State.zoneMin (s : State) (z a : Nat) : Nat :=
  if a < 4 then byteOf (s.rd .ACC_ZONE_MIN z).toNat a else byteOf (s.rd .ACC_ZONE_EXT z).toNat (a - 4)
def State.zoneMax (s : State) (z a : Nat) : Nat :=
  if a < 4 then byteOf (s.rd .ACC_ZONE_MAX z).toNat a else byteOf (s.rd .ACC_ZONE_EXT z).toNat (a - 2)
def State.setZone (s : State) (z a lo hi : Nat) : State :=
  if a < 4 then
    let s := s.wr .ACC_ZONE_MIN z (BitVec.ofNat 32 (putByte (s.rd .ACC_ZONE_MIN z).toNat a lo))
    s.wr .ACC_ZONE_MAX z (BitVec.ofNat 32 (putByte (s.rd .ACC_ZONE_MAX z).toNat a hi))
  else
    s.wr .ACC_ZONE_EXT z (BitVec.ofNat 32 (putByte (putByte (s.rd .ACC_ZONE_EXT z).toNat (a - 4) lo) (a - 2) hi))

/-- A token reply that passes its CRC (R550): its start against the expected start in µs (R551), the index and version of its header, its
token ID, the strengths it reports and its response. -/
structure Reply where
  delay  : Int
  idx    : Nat
  ver    : Nat
  id     : Nat
  rssi   : List Byte
  resp   : List Byte
deriving DecidableEq, Repr

/-- The reply slot in which a reply belongs (R552). -/
def Cycle.replySlot (c : Cycle) (idx id : Nat) : Nat :=
  match c.kind with
  | .broadcast => idx % 4
  | .slotted _ k => id / 2 ^ (2 * k) % 4
  | _ => 0

/-- The bytes of a reply from its header to its CRC-16 (R550), whose start lies `start` µs after the challenge end; none where the CRC fails or
the length is not that of the header's version. -/
def Cycle.parse (c : Cycle) (start : Nat) (b : List Byte) : Option Reply :=
  let hdr := leNat (b.take 1)
  let id := leNat ((b.drop 1).take 4)
  let ver := hdr / 16
  let n := if ver = 1 then 4 else 8
  if (ver = 1 ∨ ver = 2) ∧ b.length = 13 + n ∧ crc16 (b.take (11 + n)) = leNat (b.drop (11 + n)) then
    some ⟨(start : Int) - (300 + 10600 * c.replySlot (hdr % 16) id : Nat), hdr % 16, ver, id, (b.drop 5).take 6, (b.drop 11).take n⟩
  else none

def rssiOf (r : Reply) (a : Nat) : Nat := (r.rssi.getD a 0).toNat

/-- The zone of an OK reply: the first that it lies in, else 0xF. -/
def State.zoneOf (s : State) (r : Reply) : Nat :=
  ((List.range 8).find? fun z => s.flag F.ACC_ZONE_CFG_EN z &&
    (List.range 6).all fun a => !s.bit F.ACC_ZONE_CFG_MASK z a ||
      (decide (s.zoneMin z a ≤ rssiOf r a) && decide (rssiOf r a ≤ s.zoneMax z a))).getD 15

/-- An OK reply while a zone is learnt. -/
def State.learnFrom (s : State) (r : Reply) : State :=
  match s.acc.learn with
  | none => s
  | some (z, t, set) =>
    let s := s.setAcc { s.acc with learn := some (z, t, true) }
    s.each ((List.range 6).filter fun a => s.bit F.ACC_ZONE_CFG_MASK z a) fun s a =>
      let v := rssiOf r a
      let lo := v - 3
      let hi := Nat.min 255 (v + 3)
      if set then s.setZone z a (Nat.min lo (s.zoneMin z a)) (Nat.max hi (s.zoneMax z a)) else s.setZone z a lo hi

/-- A write of 2A00:14 (R558): z + 1 starts learning of zone z, 0 stops it; the abort code, 0 for none. -/
def State.learnWrite (s : State) (v : Nat) : State × Nat :=
  if s.mode' ≠ 6 then (s, 0x08000022)
  else if 8 < v then (s, 0x06090030)
  else (s.setAcc { s.acc with learn := if v = 0 then none else some (v - 1, s.now, false) }, 0)

def State.learnEnd (s : State) : State :=
  match s.acc.learn with
  | some (_, t, _) => let s := s.advanceTo (t + sec 60); s.setAcc { s.acc with learn := none }
  | none => s

/-! ## Replies (R551, R553, R555, R556) -/

/-- Journal a code of R556 for an identity, at most once per identity per 60 s. -/
def State.sayOnce (s : State) (f : FaultId) (id : Nat) : State :=
  let due := match lookup (f.code, id) s.acc.said with | some t => decide (t + sec 60 ≤ s.now) | none => true
  if due then
    (s.setAcc { s.acc with said := assoc (f.code, id) s.now (s.acc.said.filter fun e => decide (s.now < e.2 + sec 60)) }).raise f 0 [id]
  else s

def State.lockedOut (s : State) (id : Nat) : Bool := s.acc.ids.any fun x => x.id == id && x.lock.isSome

/-- The identity with the fewest failures, the first of several. -/
def fewest : List Ident → Option Ident
  | [] => none
  | x :: r => match fewest r with
    | some y => if y.fails.length < x.fails.length then some y else some x
    | none => some x

/-- ACC_LOCKOUT is over once no identity is locked out. -/
def State.lockoutJudge (s : State) : State :=
  if s.acc.ids.any (·.lock.isSome) then s else s.clearFault .ACC_LOCKOUT

/-- A FAIL counts against its token ID alone (R556). -/
def State.failCount (s : State) (id : Nat) : State :=
  let old : Ident := (s.acc.ids.find? (·.id == id)).getD ⟨id, [], none⟩
  let fails := s.now :: old.fails.filter fun t => decide (s.now < t + sec 60)
  let hit := decide (s.fld F.ACC_SEC_LOCK_FAILS ≤ fails.length)
  let new : Ident := { old with fails := fails, lock := if hit then some (s.now + sec (s.fld F.ACC_SEC_LOCK_TIME)) else old.lock }
  let others := s.acc.ids.filter (·.id ≠ id)
  let others := if others.length < 16 then others else
    match fewest others with | some y => others.filter (· ≠ y) | none => others
  let s := s.setAcc { s.acc with ids := others ++ [new] }
  if hit then (s.setFlag F.ACC_EVT_LOCK).raise .ACC_LOCKOUT 0 [id] else s.lockoutJudge

/-- The lockout of an identity ends (R556). -/
def State.lockoutEnd (s : State) (id : Nat) : State :=
  match s.acc.ids.find? fun x => x.id == id && x.lock.isSome with
  | some x =>
    let s := s.advanceTo (x.lock.getD 0)
    (s.setAcc { s.acc with ids := s.acc.ids.filter (·.id ≠ id) }).lockoutJudge
  | none => s

/-- ACC_CMD.UNLOCK ends every lockout. -/
def State.unlockAll (s : State) : State := (s.setAcc { s.acc with ids := s.acc.ids.filter (·.lock.isNone) }).lockoutJudge

/-- The diagnostic fields of the slot that holds the token ID of a reply (R555). -/
def State.noteReply (s : State) (r : Reply) (result : Nat) : State :=
  s.each ((List.range 16).filter fun i => (s.slotc i).occ && (s.slotc i).id == r.id) fun s i =>
    (s.setFld F.ACC_SLOT_STAT_RESULT i result).setFld F.ACC_SLOT_STAT_DELAY i (satSigned 16 r.delay)

/-- The response is the one that the key of the header's index gives (R550). -/
def State.respOk (s : State) (c : Cycle) (r : Reply) : Bool :=
  let e := s.slotFor r.idx
  let hdr := r.idx + 16 * r.ver
  match e.2 with
  | none => false
  | some k =>
    let n := if r.ver = 1 then 4 else 8
    decide (r.ver = e.1.ver) &&
      decide (r.resp = (aes128 k (c.chal ++ leBytes 4 r.id ++ leBytes 3 s.acc.sysId ++ leBytes 1 hdr)).take n)

/-- The slot of a running enrolment is committed at its OK (R566). -/
def State.enrolDone (s : State) (e : Enrol) : State :=
  let s := s.setSlotc e.slot ⟨true, e.master, e.ver.getD 0, e.id, none⟩
  let s := s.setKey (11 + e.slot) e.key
  let s := s.setCust { s.cust with enrols := Nat.min 64 (s.cust.enrols + 1) }
  let s := (s.setAcc { s.acc with enrol := none, result := 2 }).raise .ACC_ENROLLED e.slot
  if s.cust.enrols = 64 then s.raise .ACC_ENROL_LIMIT else s

/-- An OK reply (R553, R555, R557): it is recorded, its zone found, the gates opened. -/
def State.replyOk (s : State) (r : Reply) : State :=
  let i := r.idx
  let s := match s.acc.enrol with
    | some e => if e.slot = i ∧ e.ver.isSome then s.enrolDone e else s
    | none => s
  let z := s.zoneOf r
  let s := (s.setSlotc i { s.slotc i with lastOk := some s.now }).setFld F.ACC_SLOT_STAT_ZONE i z
  let s := s.noteReply r 1
  let s := ((s.setFld F.ACC_STAT_SLOT 0 i).setFld F.ACC_STAT_ZONE 0 z).setFlag F.ACC_EVT_OK
  let s := s.setFld F.ACC_RSSI0_RSSI 0 (leNat (r.rssi.take 4))
  let s := s.setFld F.ACC_RSSI1_RSSI 0 (leNat ((r.rssi.drop 4).take 2))
  (s.learnFrom r).gatesTry i z

/-- A token reply is judged, within 1 ms of its end (R551, R553). -/
def State.judge (s : State) (c : Cycle) (r : Reply) : State :=
  if r.delay < -10 ∨ ((s.fld F.ACC_SEC_RESP_MAX : Nat) : Int) - 300 < r.delay then
    let good := s.respOk c r
    let s := (s.noteReply r 3).setFlag F.ACC_EVT_LATE
    if good then s.raise .ACC_RELAY r.idx [unsigned 32 r.delay] else s
  else if s.acc.deny.contains r.id then s.sayOnce .ACC_DENIED r.id
  else if s.lockedOut r.id then s
  else if (s.slotFor r.idx).1.occ && (s.slotFor r.idx).1.id == r.id && s.respOk c r then s.replyOk r
  else (((s.noteReply r 2).setFlag F.ACC_EVT_FAIL).sayOnce .ACC_AUTH_FAIL r.id).failCount r.id

/-- The enrolment ends without an OK (R566). -/
def State.enrolFail (s : State) (result : Nat) : State :=
  match s.acc.enrol with
  | some e => (s.setAcc { s.acc with enrol := none, result := result }).raise .ACC_ENROL_FAIL e.slot
  | none => s

/-- No OK within 30 s. -/
def State.enrolExpire (s : State) : State :=
  match s.acc.enrol with
  | some e => (s.advanceTo (e.start + sec 30)).enrolFail 3
  | none => s

/-- The token answers the assign frame with its version bitmap, of which bit v - 1 stands for version v (R40, R566). -/
def State.assignReply (s : State) (r : Reply) (bitmap : Byte) : State :=
  match s.acc.enrol with
  | some e =>
    if e.id ≠ r.id then s
    else if bitOf bitmap.toNat 1 then (s.setAcc { s.acc with enrol := some { e with ver := some 2 } }).negotiated 3 e.slot 2
    else if bitOf bitmap.toNat 0 then (s.setAcc { s.acc with enrol := some { e with ver := some 1 } }).negotiated 3 e.slot 1
    else s.enrolFail 4
  | none => s

/-- A reply of the present cycle is complete: `start` is in µs after the challenge end, `bitmap` the version bitmap that a reply to an assign
frame carries. One that fails its CRC has no effect. -/
def State.uhfReply (s : State) (start : Nat) (b : List Byte) (bitmap : Byte) : State :=
  match s.acc.cyc with
  | none => s
  | some c =>
    match c.parse start b with
    | none => s
    | some r =>
      if !s.accRuns then s
      else
        let s := s.advanceTo (c.chalEnd + us (start + if r.ver = 1 then 8400 else 10000))
        match c.kind with
        | .assign => s.assignReply r bitmap
        | _ => s.judge c r

/-! ## Enrolment, revocation, re-keying (R564 to R568). Each answers the abort code, 0 where it is accepted. -/

/-- Enrolment is permitted in this lifecycle state (R576). -/
def State.lcEnrols (s : State) : Bool := s.cust.lc == 1 || s.cust.lc == 2 || s.cust.lc == 3

def State.masterNear (s : State) : Bool :=
  (List.range 16).any fun i =>
    let c := s.slotc i
    c.occ && c.master && match c.lastOk with | some t => decide (s.now < t + sec 10) | none => false

/-- A write of 2A00:20; `svc` says that a service session is open. -/
def State.enrolWrite (s : State) (svc : Bool) (b : List Byte) : State × Nat :=
  let slot := leNat (b.take 1)
  let master := bitOf (leNat ((b.drop 1).take 1)) 0
  let idBytes := (b.drop 2).take 4
  let id := leNat idBytes
  let auth := leNat ((b.drop 30).take 1)
  let code := (b.drop 31).take 8
  if b.length ≠ 39 then (s, if 39 < b.length then 0x06070012 else 0x06070013)
  else if 15 < slot ∨ 1 < auth then (s, 0x06090030)
  else if !svc ∨ !s.lcEnrols ∨ s.cust.safe ∨ s.isSafe .acc ∨ 64 ≤ s.cust.enrols ∨ (s.slotc slot).occ ∨ s.acc.deny.contains id
      ∨ (List.range 16).any (fun i => (s.slotc i).occ && (s.slotc i).id == id) ∨ s.acc.enrol.isSome then (s, 0x08000022)
  else
    let s := if auth = 1 then (s.keyUsed 8).keyUsed 9 else s.keyUsed 8
    let authOk := if auth = 0 then s.masterNear else
      match s.key 9 with
      | some k => decide (code = (hmacSha256 k (serialBytes ++ idBytes ++ leBytes 1 slot ++ leBytes 1 s.cust.enrols)).take 8)
      | none => false
    let key := match s.key 8 with | some k => keyUnwrap k ((b.drop 6).take 24) | none => none
    match authOk, key with
    | true, some k =>
      ((s.setAcc { s.acc with enrol := some ⟨slot, master, id, k, s.now, none⟩, result := 1 }).startCycle .assign, 0)
    | _, _ => (s, 0x08000020)

/-- A write of 2A00:21. -/
def State.revokeWrite (s : State) (svc : Bool) (v : Nat) : State × Nat :=
  if 15 < v then (s, 0x06090030)
  else if !svc then (s, 0x08000022)
  else if !(s.slotc v).occ then (s, 0)
  else if 64 ≤ s.acc.deny.length then (s.raise .ACC_DENY_FULL, 0x08000022)
  else
    let s := s.setAcc { s.acc with deny := s.acc.deny ++ [(s.slotc v).id] }
    ((s.setSlotc v {}).eraseKeys (· == 11 + v) |>.wr .ACC_SLOT_STAT v 0, 0)

/-- Every slot and the deny list are cleared, a new system ID and a new release key are drawn (R568, R579). -/
def State.rekey (s : State) : State :=
  let s := s.eraseKeys fun i => decide (11 ≤ i) && decide (i ≤ 26)
  let r := s.trng 3
  let q := r.2.trng 16
  let s := (q.2.setKey 10 q.1).setAcc { q.2.acc with slot := [], deny := [], sysId := leNat r.1 % 2 ^ 24, enrol := none }
  s.each (List.range 16) fun s i => s.wr .ACC_SLOT_STAT i 0

/-- A write of 2A00:24; `fac` says that it comes within a factory session. -/
def State.rekeyWrite (s : State) (fac : Bool) (v : Nat) : State × Nat :=
  if v ≠ 1 then (s, 0x06090030)
  else if !fac ∨ s.cust.lc ≠ 4 ∨ s.cust.safe then (s, 0x08000022)
  else (s.rekey, 0)

/-! ## Watch (R569) -/

/-- The next aerial of the mask after `a`, in turn. -/
def nextAerial (mask a : Nat) : Option Nat :=
  ((List.range 6).map fun k => (a + 1 + k) % 6).find? (bitOf mask)

/-- A watch wake frame on the next aerial of the WATCH mask, 250 ms after the last; `ma` is its driver current. -/
def State.watchFrame (s : State) (ma : Nat) : State :=
  if s.mode' ≠ 1 ∨ !s.flag F.ACC_CTRL_WATCH_EN ∨ !s.accRuns then s
  else
    match nextAerial (s.fld F.ACC_AER_WATCH) s.acc.turn with
    | none => s
    | some a =>
      let s := match s.acc.watchAt with | some t => s.advanceTo (t + ms 250) | none => s
      (s.setAcc { s.acc with turn := a, watchAt := some s.now, lf := s.lfFrame 4 [] }).aerialDrive a (s.fld F.ACC_AER_WATCH_DRIVE) (some ma)

/-- The reply to a watch wake frame from its header to its CRC-16, complete `after` µs after the end of that frame: it passes its CRC, comes
while the module listens, names an occupied slot and is not on the deny list. -/
def State.watchOk (s : State) (b : List Byte) (after : Nat) : Bool :=
  s.mode' == 1 && s.flag F.ACC_CTRL_WATCH_EN && s.accRuns && s.acc.watchAt.isSome && b.length == 7 && crc16 (b.take 5) == leNat (b.drop 5) &&
    decide (after ≤ 5000) && (s.slotc (leNat (b.take 1) % 16)).occ && !s.acc.deny.contains (leNat ((b.drop 1).take 4))

/-- What a module reset and a wake leave of ACC (R154): every gate closed, no cycle, no enrolment, no learning, no lockout. -/
def State.accReset (s : State) : State :=
  let s := s.gatesShut
  let s := match s.acc.enrol with | some _ => s.enrolFail 3 | none => s
  (s.setAcc { s.acc with cyc := none, last := none, req := false, done := none, watchAt := none, low := [], good := [], ids := [], said := [], gate := [], learn := none
                         slot := s.acc.slot.map fun e => (e.1, { e.2 with lastOk := none }) }).lockoutJudge

end Sys2Proof.Machine
end

