-- ==== Sys2Proof/Machine/Cust.lean ====
section
/-! DEFINITION. Customs, lifecycle and debug (R572 to R586): key records, lifecycle requests, the debug port and its matrix, the
mailboxes, the self-test. -/

namespace Sys2Proof.Machine

def State.setDbg (s : State) (d : DbgSt) : State := s.setCust { s.cust with dbg := d }
def State.mbx (s : State) (m : Nat) : Mbx := Tbl.get (fun _ => {}) s.cust.mbx m
def State.setMbx (s : State) (m : Nat) (x : Mbx) : State :=
  s.setCust { s.cust with mbx := Tbl.set natLt (fun _ => {}) s.cust.mbx m x }

/-- VSRC is above VWARN. -/
def State.vsrcOk (s : State) : Bool := decide (s.vwarn < s.fld F.BERTH_VKEEP_VSRC)
/-- The berth state is READY. -/
def State.berthReady (s : State) : Bool := s.fld F.BERTH_STAT_STATE == 1

/-! ## Lifecycle (R576 to R579) -/

/-- The state permits a session of this level. -/
def State.lcLevel (s : State) (level : Nat) : Bool :=
  match s.cust.lc with
  | 1 => level == 1 || level == 2 || level == 3
  | 2 => level == 1 || level == 2 || level == 3
  | 3 => level == 1 || level == 2
  | 4 => level == 2 || level == 3
  | _ => false

/-- The state permits the host session. -/
def State.lcHost (s : State) : Bool := s.cust.lc == 1 || s.cust.lc == 2 || s.cust.lc == 3

/-- A key record is permitted for key `k` (R574); `fac` says that it comes within a factory session. -/
def State.recordOk (s : State) (fac : Bool) (k : Nat) : Bool :=
  match s.cust.lc with
  | 1 => 4 ≤ k && k ≤ 9 && (fac || (s.key 6).isNone)
  | 2 => 4 ≤ k && k ≤ 7 && fac
  | 4 => 4 ≤ k && k ≤ 9 && fac
  | _ => false

/-- A write of 2B00:10: the abort code, 0 where the key is replaced. -/
def State.keyRecord (s : State) (fac : Bool) (b : List Byte) : State × Nat :=
  let k := leNat (b.take 1)
  let w := b.drop 1
  let len := if k = 8 then 24 else 40
  if k < 4 ∨ 9 < k then (s, 0x08000022)
  else if w.length ≠ len then (s, if len < w.length then 0x06070012 else 0x06070013)
  else if !s.recordOk fac k ∨ s.cust.safe then (s, 0x08000022)
  else
    let s := s.keyUsed 3
    match s.key 3 with
    | none => (s, 0x08000020)
    | some u =>
      match keyUnwrap u w with
      | none => (s, 0x08000020)
      | some v => ((s.setKey k v).raise .CUST_KEY_WRITE k, 0)

/-- A read of 2B00:21. -/
def State.lcNonce (s : State) : List Byte × State :=
  let r := s.trng 16
  (r.1, r.2.setCust { r.2.cust with nonce := some (r.1, r.2.now) })

/-- Every debug grant ends; with the Service of a wake attach the module returns to Configure (R143, R582, R583). -/
def State.debugEnd (s : State) : State :=
  let d := s.cust.dbg
  let back := d.service && s.mode' == 6
  let had := d.granted != 0
  let s := s.setDbg { d with granted := 0, level := 0, held := none, service := false }
  let s := if had then s.raise .DBG_GRANT 0 [0] else s
  if back then s.enterConfigure else s

/-- The transition is listed in R577 and the session it asks for is open. -/
def State.lcListed (s : State) (svc fac : Bool) (target : Nat) : Bool :=
  match s.cust.lc, target with
  | 1, 2 => fac && [4, 5, 6, 7, 8, 9].all fun k => (s.key k).isSome
  | 2, 3 => fac
  | 2, 4 => svc && decide (s.cust.returns < 3)
  | 3, 4 => svc && decide (s.cust.returns < 3)
  | 4, 1 => fac
  | _, _ => false

/-- The key whose signature the transition asks for: none from PROVISIONED to FIELD. -/
def lcKey (present target : Nat) : Option Nat := if present = 1 then none else if target = 3 then some 2 else some 1

/-- What a signature of R578 and R580 covers. -/
def State.signOk (s : State) (k : Nat) (msg sig : List Byte) : Bool :=
  match s.key k with
  | some pub => sig.length == 64 && ecdsaP256 pub (sha256 msg) sig
  | none => false

/-- The effects of a transition (R579). -/
def State.lcChange (s : State) (target : Nat) : State :=
  let was := s.cust.lc
  let s := s.debugEnd
  let s := if target = 4 then s.setCust { s.cust with returns := s.cust.returns + 1 } else s
  let s := if was = 4 then (s.eraseKeys fun i => decide (4 ≤ i) && decide (i ≤ 9)).rekey else s
  (s.setCust { s.cust with lc := target }).raise .LC_CHANGE 0 [was, target]

/-- A write of 2B00:20: the abort code, 0 where the request is carried out. -/
def State.lcRequest (s : State) (svc fac : Bool) (b : List Byte) : State × Nat :=
  let target := leNat (b.take 1)
  let was := s.cust.lc
  let refuse := fun (s : State) (c : Nat) => (s.raise .LC_REFUSED 0 [was, target], c)
  let nonce := s.cust.nonce
  let s := s.setCust { s.cust with nonce := none }
  if s.mode' ≠ 3 ∨ !s.berthReady ∨ !s.vsrcOk ∨ s.cust.safe ∨ !s.lcListed svc fac target then refuse s 0x08000022
  else
    match nonce with
    | none => refuse s 0x08000020
    | some (n, t) =>
      if t + sec 1 ≤ s.now then refuse s 0x08000020
      else
        match lcKey was target with
        | none => (s.lcChange target, 0)
        | some k =>
          let s := s.keyUsed k
          if s.signOk k (n ++ serialBytes ++ leBytes 1 was ++ leBytes 1 target) (b.drop 1) then (s.lcChange target, 0)
          else refuse s 0x08000020

/-! ## Debug authentication (R580 to R583) -/

/-- The debug key of the lifecycle state (R576). -/
def State.dbgKey (s : State) : Nat := if s.cust.lc = 0 ∨ s.cust.lc = 4 then 1 else 2

/-- The matrix of R581: the level that a request of level `req` gets in mode `m` (0 denied). Boot holds a request and grants nothing. -/
def dbgCell (lc m req : Nat) : Nat :=
  match lc, m with
  | _, 2 => 0
  | 0, _ => req
  | 4, _ => req
  | 1, 3 => req
  | 1, 6 => req
  | 1, 5 => req
  | 1, _ => Nat.min req 1
  | 2, 3 => Nat.min req 1
  | 2, 6 => req
  | 2, 4 => Nat.min req 1
  | 2, 5 => Nat.min req 1
  | 3, 6 => if req = 1 then 1 else 0
  | _, _ => 0

/-- The debugger reads the challenge (R580): not asleep, and after a wake attach not before Configure (R582). -/
def State.dbgChallenge (s : State) : State :=
  let d := s.cust.dbg
  if !s.awake ∨ s.cust.safe ∨ (d.wake ∧ s.mode' = 2) then s
  else
    let r := s.trng 32
    r.2.setDbg { d with nonce := some (r.1, s.now) }

def State.dbgDeny (s : State) : State := (s.setDbg { s.cust.dbg with wake := false }).raise .DBG_DENIED

/-- A request that has verified is judged in mode `m` (R581); after a wake attach the grant asks for Service (R582). -/
def State.dbgJudge (s : State) (m req : Nat) : State :=
  let lvl := dbgCell s.cust.lc m req
  if !s.cust.dbg.enabled ∨ lvl = 0 then s.dbgDeny
  else
    let wake := s.cust.dbg.wake
    let s := (s.setDbg { s.cust.dbg with granted := lvl, level := lvl, mode := s.mode', wake := false, held := none }).raise .DBG_GRANT 0 [lvl]
    if wake && s.mode' == 3 && !s.extracting then
      let r := s.takeTrigger 5
      if r.2 then
        let s := r.1.enterService
        s.setDbg { s.cust.dbg with service := true, mode := 6 }
      else s.modeRefuse 7
    else s

/-- An attach (R580): level and signature. Three failures in a row lock the port. -/
def State.dbgAttach (s : State) (req : Nat) (sig : List Byte) : State :=
  let d := s.cust.dbg
  let s := s.setDbg { d with nonce := none }
  match d.nonce with
  | none => s.dbgDeny
  | some (n, t) =>
    if d.lock.isSome ∨ s.cust.safe ∨ !d.enabled ∨ t + sec 10 ≤ s.now ∨ (req ≠ 1 ∧ req ≠ 2) then s.dbgDeny
    else
      let s := s.keyUsed s.dbgKey
      if !s.signOk s.dbgKey (n ++ serialBytes ++ leBytes 1 s.cust.lc ++ leBytes 1 req) sig then
        if d.fails + 1 < 3 then (s.setDbg { s.cust.dbg with fails := d.fails + 1 }).dbgDeny
        else ((s.setDbg { s.cust.dbg with fails := 0, lock := some (s.now + sec 60) }).raise .DBG_AUTH_FAIL).dbgDeny
      else
        let s := s.setDbg { s.cust.dbg with fails := 0 }
        if s.mode' = 2 then s.setDbg { s.cust.dbg with held := some req }
        else s.dbgJudge (if d.wake then 0 else s.mode') req

/-- A held request is judged in the mode that Boot enters (R581). -/
def State.dbgHeld (s : State) : State :=
  match s.cust.dbg.held with
  | some req => (s.setDbg { s.cust.dbg with held := none }).dbgJudge s.mode' req
  | none => s

/-- The port's lockout ends. -/
def State.dbgLockEnd (s : State) : State :=
  match s.cust.dbg.lock with
  | some t => let s := s.advanceTo t; (s.setDbg { s.cust.dbg with lock := none }).clearFault .DBG_AUTH_FAIL
  | none => s

/-- The level in force after a change of mode (R583): the lower of the level granted and the matrix cell, never raised again. -/
def State.dbgMode (s : State) : State :=
  let d := s.cust.dbg
  let t := s.setDbg { d with mode := s.mode', service := d.service && s.mode' == 6 }
  if d.mode = s.mode' ∨ d.granted = 0 then t
  else if !s.awake then t.debugEnd
  else
    let lvl := Nat.min d.level (dbgCell s.cust.lc s.mode' d.granted)
    if lvl = d.level then t else (t.setDbg { t.cust.dbg with level := lvl }).raise .DBG_GRANT 0 [lvl]

/-- The boundary-scan operations of the debug port (IEEE 1149.1, R87, R584). -/
inductive ScanOp where | bypass | idcode | sample | preload | extest
deriving DecidableEq, Repr

/-- The debug port takes the boundary-scan operation at the level in force (R584): PRELOAD and EXTEST only in Configure, and in BLANK,
PROVISIONED or RETURNED. -/
def State.scanMay (s : State) (op : ScanOp) : Bool :=
  match op with
  | .bypass => decide (1 ≤ s.cust.dbg.level)
  | .idcode => decide (1 ≤ s.cust.dbg.level)
  | .sample => decide (1 ≤ s.cust.dbg.level)
  | .preload => s.cust.dbg.level == 2 && s.mode' == 3 && (s.cust.lc == 0 || s.cust.lc == 1 || s.cust.lc == 4)
  | .extest => s.cust.dbg.level == 2 && s.mode' == 3 && (s.cust.lc == 0 || s.cust.lc == 1 || s.cust.lc == 4)

/-- The debug master may halt and step a processor (R584). -/
def State.haltMay (s : State) : Bool := s.cust.dbg.level == 2 && (s.cust.lc == 0 || s.cust.lc == 4)

/-- A write of 2B00:30. -/
def State.dbgEnable (s : State) (on : Bool) : State :=
  let s := s.setDbg { s.cust.dbg with enabled := on }
  if on then s else s.debugEnd

/-! ## Mailboxes (R585) -/

/-- The mailbox registers by mailbox. -/
def mbxStat (m : Nat) : Reg := if m = 0 then .CUST_MBX0_STAT else .CUST_MBX1_STAT
def mbxData (m : Nat) : Reg := if m = 0 then .CUST_MBX0_DATA else .CUST_MBX1_DATA
def mbxFld (m : Nat) (f : Fld) : Fld := { f with reg := mbxStat m }

/-- The mailbox takes no write of this master: another owns it. -/
def State.mbxBarred (s : State) (m code : Nat) : Bool := match (s.mbx m).owner with | some o => o != code | none => false
def State.mbxRefuse (s : State) (m : Nat) : State := s.setFlag (mbxFld m F.CUST_MBX0_STAT_REFUSED)

/-- GO by the master of `code`. -/
def State.mbxGo (s : State) (m code op key len : Nat) : State :=
  if s.mbxBarred m code || (s.mbx m).op.isSome then s.mbxRefuse m
  else
    let s := s.setMbx m ⟨some code, some (op, key, len)⟩
    let s := s.wr (mbxStat m) 0 (F.CUST_MBX0_STAT_REFUSED.into 0 (s.fld (mbxFld m F.CUST_MBX0_STAT_REFUSED)))
    (s.setFlag (mbxFld m F.CUST_MBX0_STAT_BUSY)).setFld (mbxFld m F.CUST_MBX0_STAT_OWNER) 0 code

/-- The first `n` bytes of a mailbox. -/
def State.mbxIn (s : State) (m n : Nat) : List Byte :=
  ((List.range 64).flatMap fun i => leBytes 4 (s.rd (mbxData m) i).toNat).take n

/-- Replace word `i` of a mailbox. -/
def wordsOf : Nat → List Byte → List Nat
  | 0, _ => []
  | k + 1, l => leNat (l.take 4) :: wordsOf k (l.drop 4)

/-- Write bytes into a mailbox from its byte 0; the bytes beyond them stay. -/
def State.mbxOut (s : State) (m : Nat) (out : List Byte) : State :=
  let all := out.take 256 ++ (s.mbxIn m 256).drop out.length
  s.each ((wordsOf 64 all).zipIdx) fun s x => s.wr (mbxData m) x.2 (BitVec.ofNat 32 x.1)

/-- The outcome of an operation: its output, or its error code and output (ERRCODE of `CUST_MBX_STAT`). -/
def State.mbxRun (s : State) (m op k len : Nat) : State × List Byte × Nat :=
  let keyed := fun (ok : Bool) (f : List Byte → List Byte) =>
    if !ok then (s, [], 2)
    else
      let s := s.keyUsed k
      match s.key k with | some key => (s, f key, 0) | none => (s, [], 1)
  if s.cust.safe then (s, [], 5)
  else if len = 0 ∨ 256 < len then (s, [], 3)
  else
    match op with
    | 0x01 => let r := s.trng len; (r.2, r.1, 0)
    | 0x02 => (s, sha256 (s.mbxIn m len), 0)
    | 0x03 =>
      if 2 < k then (s, [], 2)
      else if len ≠ 96 then (s, [], 3)
      else
        let s := s.keyUsed k
        match s.key k with
        | none => (s, [], 1)
        | some pub =>
          let b := s.mbxIn m 96
          let ok := ecdsaP256 pub (b.take 32) (b.drop 32)
          let w := (s.rd (mbxData m) 0).toNat
          (s, leBytes 4 (putBit w 0 ok), if ok then 0 else 4)
    | 0x10 => if m = 0 then (s, [], 2) else keyed (k == 9 || (4 ≤ k && k ≤ 7)) fun key => hmacSha256 key (s.mbxIn m len)
    | 0x11 => if m = 0 then (s, [], 2) else keyed (k == 10) fun key => aesCmac key (s.mbxIn m len)
    | 0x12 =>
      if m = 0 then (s, [], 2)
      else if len ≠ 16 then (s, [], 3)
      else keyed (11 ≤ k && k ≤ 26) fun key => aes128 key (s.mbxIn m 16)
    | _ => (s, [], 2)

/-- The running operation of a mailbox completes. -/
def State.mbxDone (s : State) (m : Nat) : State :=
  match (s.mbx m).op with
  | none => s
  | some (op, k, len) =>
    let r := s.mbxRun m op k len
    let s := (r.1.setMbx m { s.mbx m with op := none }).mbxOut m r.2.1
    let s := (s.setFlag (mbxFld m F.CUST_MBX0_STAT_BUSY) 0 false).setFlag (mbxFld m F.CUST_MBX0_STAT_DONE)
    (s.setFlag (mbxFld m F.CUST_MBX0_STAT_ERR) 0 (r.2.2 != 0)).setFld (mbxFld m F.CUST_MBX0_STAT_ERRCODE) 0 r.2.2

/-- The owner clears DONE: the mailbox is free. -/
def State.mbxFree (s : State) (m : Nat) : State :=
  if !s.flag (mbxFld m F.CUST_MBX0_STAT_DONE) then s
  else ((s.setMbx m {}).setFlag (mbxFld m F.CUST_MBX0_STAT_DONE) 0 false).setFld (mbxFld m F.CUST_MBX0_STAT_OWNER) 0 0

/-! ## Boot (R573, R586) -/

/-- Customs at Boot: where its tests pass its safe state ends; every key of secure NVM (4 to 26) is checked. -/
def State.custBoot (s : State) (b : BootIn) : State :=
  let bad := (b.keys.map (·.val)).filter fun i => decide (4 ≤ i) && (lookup i s.cust.keys).isSome
  let s := (s.setCust { s.cust with safe := false, bad := bad }).setSafe .cust false
  let s := if b.kat then s else s.custSelftest
  s.each ((s.cust.keys.map (·.1)).filter s.cust.bad.contains) fun s i => s.keyUsed i

/-- What a module reset, a power-on reset and a commit to Dormant or Watch end in customs: nonces and the debug grant. -/
def State.custReset (s : State) : State :=
  let s := (s.setCust { s.cust with nonce := none, mbx := [] }).debugEnd
  s.setDbg { s.cust.dbg with nonce := none, held := none, wake := false }

end Sys2Proof.Machine
end

