-- ==== Sys2Proof/Machine/Upd.lean ====
section
/-! DEFINITION. Firmware update, resoling and recovery (R588 to R609): the image, parcels, staging, activation, the resoler, the trial
and Recovery's own rules. -/

namespace Sys2Proof.Machine

def State.setUpd (s : State) (x : UpdSt) : State := { s with upd := x }

/-! ## The image (R588, R589) -/

/-- A little-endian field of a header. -/
def hdrField (h : List Byte) (off n : Nat) : Nat := leNat ((h.drop off).take n)
def hdrVersion (h : List Byte) : Nat := hdrField h 24 4
def hdrRollback (h : List Byte) : Nat := hdrField h 28 4
def hdrLength (h : List Byte) : Nat := hdrField h 32 4
def hdrNblk (h : List Byte) : Nat := hdrField h 36 2
/-- Prefix length P: (192 + 32 × NBLK) rounded up to a multiple of 4,096. -/
def prefixLen (h : List Byte) : Nat := (192 + 32 * hdrNblk h + 4095) / 4096 * 4096

/-- The first check of R589 that a header and its signature (192 bytes) fail, 0 where they pass. -/
def State.hdrCheck (s : State) (h : List Byte) : Nat :=
  if hdrField h 0 4 ≠ 0x4C4F5352 ∨ hdrField h 4 2 ≠ 1 ∨ hdrField h 6 2 ≠ 128 ∨ hdrField h 8 4 ≠ 0x640 then 1
  else if hdrField h 16 8 ≠ Config.serial % 2 ^ 64 ∧ hdrField h 16 8 ≠ 2 ^ 64 - 1 then 2
  else if hdrRollback h < s.cust.rollback ∨ 255 < hdrRollback h then 3
  else if hdrLength h = 0 ∨ 4128768 < hdrLength h ∨ hdrNblk h ≠ (hdrLength h + 4095) / 4096 then 4
  else if !s.signOk 0 (h.take 128) ((h.drop 128).take 64) then 5
  else 0

/-- The image that is gathered or staged is discarded (R592, R596). -/
def State.unstage (s : State) : State :=
  s.setUpd { s.upd with gather := [], whole := false, head := none, ok := false, bitmap := [], asm := [], ready := [] }

def State.hdrBad (s : State) (check : Nat) : State := (s.setFlag F.UPD_EVT_HDR_BAD).raise .UPD_HDR_BAD 0 [check]

def State.stagedNblk (s : State) : Nat := match s.upd.head with | some h => if s.upd.ok then hdrNblk h else 0 | none => 0
/-- Every block is staged. -/
def State.complete (s : State) : Bool := s.upd.ok && (List.range s.stagedNblk).all fun b => s.upd.bitmap.contains b

/-- UPD_STAT.STATE. -/
def State.updState (s : State) : Nat :=
  match s.upd.marker with
  | .resoling _ => 3
  | .trial _ => 4
  | .idle => if s.complete then 2 else if s.upd.head.isSome then 1 else 0

/-- The hash list entry of body block `b` of the staged prefix. -/
def State.blockHash (s : State) (b : Nat) : List Byte := s.bytes (0x02000000 + 192 + 32 * b) 32

/-- Length of body block `b`. -/
def blockLen (h : List Byte) (b : Nat) : Nat := if b + 1 < hdrNblk h then 4096 else hdrLength h - 4096 * (hdrNblk h - 1)

/-- A block padded with 0xFF to 4,096 bytes. -/
def pad4k (l : List Byte) : List Byte := l ++ List.replicate (4096 - l.length) 0xFF

/-! ## Parcels (R590 to R593) -/

/-- Cut data into pieces of 256 bytes, numbered from `k`. -/
def pieces : Nat → Nat → List Byte → List (Nat × List Byte)
  | 0, _, _ => []
  | n + 1, k, l => if l.isEmpty then [] else (k, l.take 256) :: pieces n (k + 1) (l.drop 256)

def addPieces (old new : List (Nat × List Byte)) : List (Nat × List Byte) := new.foldl (fun l x => assoc x.1 x.2 l) old
def joinPieces (n : Nat) (l : List (Nat × List Byte)) : List Byte := (List.range n).flatMap fun k => (lookup k l).getD []
def havePieces (n : Nat) (l : List (Nat × List Byte)) : Bool := (List.range n).all fun k => (lookup k l).isSome

/-- Parcels and the other requests of R591 are accepted now. -/
def State.updOpen (s : State) : Bool :=
  (s.mode' == 3 || s.mode' == 4 || s.mode' == 6 || s.mode' == 7) && !s.extracting && s.mode.reset.isNone &&
    match s.upd.marker with | .resoling _ => false | _ => true

/-- A prefix parcel (R593): when all of the prefix has arrived, its hash list is checked. -/
def State.prefixParcel (s : State) (h : List Byte) (off : Nat) (data : List Byte) : State × Nat :=
  if s.upd.ok ∨ s.upd.whole then (s, 0)
  else
    let g := addPieces s.upd.gather (pieces 4 (off / 256) data)
    let n := prefixLen h / 256
    let s := s.setUpd { s.upd with gather := g }
    if !havePieces n g then (s, 0)
    else if sha256 (((joinPieces n g).drop 192).take (32 * hdrNblk h)) = (h.drop 40).take 32 then
      (s.setUpd { s.upd with whole := true }, 0)
    else (s.unstage.hdrBad 6, 0)

/-- The parcel that carries the header (R592). With the header of the staged image it restarts nothing; what it holds beyond its first 256
bytes is prefix data as in any other parcel (R593). -/
def State.firstParcel (s : State) (data : List Byte) : State × Nat :=
  let h := data.take 192
  if s.upd.head.map (·.take 128) = some (h.take 128) then s.prefixParcel h 256 (data.drop 256)
  else
    let s := s.keyUsed 0
    let c := s.hdrCheck h
    if c = 5 then (s.hdrBad 5, 0x08000020)
    else if c ≠ 0 then (s.hdrBad c, 0x06090030)
    else (s.unstage.setUpd { s.unstage.upd with head := some h, gather := pieces 4 0 data }, 0)

/-- A body parcel (R593). -/
def State.bodyParcel (s : State) (h : List Byte) (off : Nat) (data : List Byte) : State × Nat :=
  let o := off - prefixLen h
  let b := o / 4096
  if !s.upd.ok then (s, 0x08000022)
  else if s.upd.bitmap.contains b ∨ s.upd.ready.contains b then (s, 0)
  else if (lookup b s.upd.asm).isNone ∧ 8 ≤ s.upd.asm.length then (s, 0x08000022)
  else
    let g := addPieces ((lookup b s.upd.asm).getD []) (pieces 4 (o % 4096 / 256) data)
    let n := (blockLen h b + 255) / 256
    (s.setUpd { s.upd with asm := assoc b g s.upd.asm, ready := if havePieces n g then s.upd.ready ++ [b] else s.upd.ready }, 0)

/-- A write of 1F50:01: the abort code, 0 where the parcel is accepted. -/
def State.parcel (s : State) (b : List Byte) : State × Nat :=
  let off := leNat (b.take 4)
  let dlen := leNat ((b.drop 4).take 2)
  let data := b.drop 8
  let ends := match s.upd.head with | some h => prefixLen h + hdrLength h | none => 0
  let full := dlen = 256 ∨ dlen = 512 ∨ dlen = 768 ∨ dlen = 1024
  if !s.updOpen || s.flag F.SYS_LOAD_C6_DEFER then (s, 0x08000022)
  else if off % 256 ≠ 0 ∨ dlen ≠ data.length ∨ dlen = 0 ∨ 1024 < dlen ∨ 4096 < off % 4096 + dlen ∨ crc16 data ≠ leNat ((b.drop 6).take 2) then
    (s, 0x06090030)
  else if off = 0 then (if full then s.firstParcel data else (s, 0x06090030))
  else
    match s.upd.head with
    | none => (s, 0x08000022)
    | some h =>
      if ends < off + dlen ∨ (!full ∧ off + dlen ≠ ends) then (s, 0x06090030)
      else if off < prefixLen h then s.prefixParcel h off data
      else s.bodyParcel h off data

/-! ## Staging (R594 to R596) -/

/-- A staging write: the prefix, or the oldest complete block. `good` says that its read-back compares. -/
def State.stageWrite (s : State) (good : Bool) : State :=
  if s.flag F.SYS_LOAD_C6_DEFER || s.nvmDeferred then s
  else
    match s.upd.head with
    | none => s
    | some h =>
      if s.upd.whole then
        let p := joinPieces (prefixLen h / 256) s.upd.gather
        if good then ((s.erase 0x02000000 0x02008000).setBytes 0x02000000 p).setUpd { s.upd with whole := false, gather := [], ok := true }
        else s.unstage.hdrBad 6
      else
        match s.upd.ready with
        | [] => s
        | b :: rest =>
          let data := pad4k (joinPieces ((blockLen h b + 255) / 256) ((lookup b s.upd.asm).getD []))
          let s := s.setUpd { s.upd with ready := rest, asm := Tbl.del s.upd.asm b }
          if good && decide (sha256 data = s.blockHash b) then
            let s := s.setBytes (0x02010000 + 4096 * b) data
            let s := s.setUpd { s.upd with bitmap := b :: s.upd.bitmap }
            if s.complete then (s.setFlag F.UPD_EVT_STAGED).raise .UPD_STAGED else s
          else (s.setFlag F.UPD_EVT_BLOCK_BAD).raise .UPD_BLOCK_BAD 0 [b]

/-- A request to discard the staged image: true where it was refused. -/
def State.stageClear (s : State) : State × Bool := if s.updOpen then (s.unstage, false) else (s, true)

/-- Boot judges the staged header again (R596). -/
def State.stageJudge (s : State) : State :=
  match s.upd.head with
  | some h =>
    let s := s.keyUsed 0
    let c := s.hdrCheck h
    if c = 0 then s else s.unstage.hdrBad c
  | none => s

/-! ## Activation (R597, R598) -/

/-- The park source is true; the UPD safe state refuses it (R70). -/
def State.parked (s : State) : Bool := !s.isSafe .upd && (s.source (s.fld F.UPD_CTRL_PARK_SRC) != s.flag F.UPD_CTRL_PARK_INV)

/-- The supply of condition 6. -/
def State.updSupply (s : State) : Bool :=
  s.berthReady && s.anyFeed && s.fld F.BERTH_SUP_STAT_LOW == 0 && s.vsrcOk && !s.flag F.BERTH_SUP_STAT_HOLDUP

/-- The staged header passes R589. -/
def State.stagedOk (s : State) : Bool := match s.upd.head with | some h => s.hdrCheck h == 0 | none => false

/-- The cause of the first failing condition of R597, 0 for none; in Recovery conditions 1, 2, 5 and 8 do not apply (R609). -/
def State.actCause (s : State) (keyOk : Bool) : Nat :=
  let rec7 := s.mode' == 7
  if !rec7 && s.mode' != 3 then 1
  else if !rec7 && !s.serviceOpen then 2
  else if !s.complete || (!rec7 && s.updState != 2) then 3
  else if !s.stagedOk then 4
  else if !rec7 && !s.parked then 5
  else if !s.updSupply then 6
  else if !s.od.jobs.isEmpty then 7
  else if !rec7 && s.upd.marker != .idle then 8
  else if !keyOk then 9
  else 0

/-- An accepted request (R598): the rollback counter, the marker, a module reset. -/
def State.actGo (s : State) : State :=
  let h := s.upd.head.getD []
  let s := s.setCust { s.cust with rollback := Nat.max s.cust.rollback (hdrRollback h) }
  ((s.setUpd { s.upd with marker := .resoling 0 }).raise .UPD_ACTIVATE).askReset 6

def State.actRefuse (s : State) (c : Nat) : State := (s.setFld F.UPD_STAT_REFUSE 0 c).setFlag F.UPD_EVT_REFUSED

/-- Recovery is left for Boot (R609): true where that is refused. -/
def State.leaveRecovery (s : State) (bit : Nat) : State × Bool :=
  if s.pins.recov || !s.upd.runOk || s.upd.marker != .idle then (s, true) else (s.askReset bit, false)

/-- An activation request: true where it was refused. -/
def State.activate (s : State) (keyOk : Bool) : State × Bool :=
  if s.mode' = 7 ∧ s.upd.head.isNone then s.leaveRecovery 3
  else
    let s := s.keyUsed 0
    let c := s.actCause keyOk
    if c = 0 then (s.actGo, false) else (s.actRefuse c, true)

/-! ## The resoler (R599 to R603) -/

/-- The module enters Recovery from ROM or the resoler with a fault. -/
def State.toRecovery (s : State) (f : FaultId) : State :=
  let s := (s.raise f).enterRecovery 1
  { s with mode := { s.mode with rom := true } }

/-- The pass is complete (R601). -/
def State.resoled (s : State) (h : List Byte) : State :=
  let s := s.erase (0x01040000 + 4096 * hdrNblk h) 0x01800000
  let p := s.bytes 0x02000000 (prefixLen h)
  let s := s.setUpd { s.upd with runRec := p, runOk := true, marker := .trial 0 }
  let s := (s.setFlag F.UPD_EVT_RESOLED).raise .UPD_RESOLE_DONE
  ((s.unstage.erase 0x02000000 0x02008000).erase 0x02010000 0x02400000).askReset 6

/-- A block copy of the resoler; `first` and `second` say whether the target compares after it is programmed and, where it does not, after the
repeat (R600). A copy waits while NVM writes are deferred. -/
def State.resolerCopy (s : State) (first second : Bool) : State :=
  match s.upd.marker, s.upd.head with
  | .resoling b, some h =>
    if s.mode' ≠ 2 ∨ s.nvmDeferred ∨ s.extracting then s
    else
      let data := s.bytes (0x02010000 + 4096 * b) 4096
      if sha256 data ≠ s.blockHash b then s.toRecovery .UPD_IMAGE_BAD
      else
        let s := (s.erase (0x01040000 + 4096 * b) (0x01040000 + 4096 * (b + 1))).setUpd { s.upd with runOk := false }
        if !first && !second then s.toRecovery .UPD_IMAGE_BAD
        else
          let s := s.setBytes (0x01040000 + 4096 * b) data
          if b + 1 < hdrNblk h then s.setUpd { s.upd with marker := .resoling (b + 1) } else s.resoled h
  | _, _ => s

/-- What ROM does with the marker and the running image at Boot (R599, R602, R604, R605); `good` says that the running image passes its
check. -/
def State.romBoot (s : State) (good : Bool) : State :=
  let s := s.stageJudge
  match s.upd.marker with
  | .resoling b => if s.mode.bootCause = 6 ∧ b = 0 then s else s.raise .UPD_RESOLE_RESUME
  | m =>
    let s := s.setUpd { s.upd with runOk := good }
    if !good then
      if s.complete && s.stagedOk then s.setUpd { s.upd with marker := .resoling 0 } else s.toRecovery .UPD_IMAGE_BAD
    else
      match m with
      | .trial c => if c < 3 then s.setUpd { s.upd with marker := .trial (c + 1) } else s.toRecovery .UPD_TRIAL_FAIL
      | _ => s

/-- The resoler runs in this Boot. -/
def State.resoling (s : State) : Bool := match s.upd.marker with | .resoling _ => true | _ => false

/-! ## Trial (R605) -/

def State.trialTime (s : State) : Nat := if s.isSafe .upd then 30 else s.fld F.UPD_CTRL_TRIAL_TIME

/-- The trial time has passed without a pair restart or Limp. -/
def State.trialConfirm (s : State) : State :=
  match s.upd.marker, s.upd.trialAt with
  | .trial _, some t =>
    if s.mode' = 3 ∨ s.mode' = 4 ∨ s.mode' = 6 then
      let s := s.advanceTo (t + sec s.trialTime)
      let s := s.setUpd { s.upd with marker := .idle, trialAt := none }
      (s.setFlag F.UPD_EVT_CONFIRMED).raise .UPD_CONFIRMED
    else s
  | _, _ => s

/-- The trial time counts while the module runs in Configure, Operate or Service with both pairs running. -/
def State.trialWatch (s : State) : State :=
  match s.upd.marker with
  | .trial _ =>
    let runs := (s.mode' == 3 || s.mode' == 4 || s.mode' == 6) && s.clk.aDown.isNone && s.clk.bDown.isNone
    if !runs then s.setUpd { s.upd with trialAt := none }
    else if s.upd.trialAt.isNone then s.setUpd { s.upd with trialAt := some s.now } else s
  | _ => s

/-- What a reset and sleep lose of the update block (R595). -/
def State.updReset (s : State) : State :=
  let s := s.setUpd { s.upd with asm := [], ready := [], trialAt := none }
  if s.upd.ok then s else s.setUpd { s.upd with gather := [], whole := false, head := none }

/-- Version of the running image. -/
def State.runVersion (s : State) : Nat :=
  if s.upd.runRec.isEmpty then 3 * 2 ^ 24 + Config.swMinor % 2 ^ 24 else hdrVersion s.upd.runRec

end Sys2Proof.Machine
end

