-- ==== Sys2Proof/Machine/Flags.lean ====
section
/-! DEFINITION. What a register reads as: the stored word, with every status field that the machine computes from its other
state put in its place, and 0 in every WO and CMD field (R71). -/

namespace Sys2Proof.Machine

/-- The stored word of a register with some of its fields replaced. -/
def State.over (s : State) (r : Reg) (i : Nat) (l : List (Fld × Nat)) : Word := l.foldl (fun w e => e.1.into w e.2) (s.rd r i)

/-- 32 flags from number `lo` on, as a word. -/
def flags32 (lo : Nat) (p : Nat → Bool) : Word := BitVec.ofNat 32 (bitsOf 32 fun b => p (lo + b))
/-- A temperature of 1/1,024 °C in 0.1 °C, nearest, in 16 bits (R208). -/
def deci (t : Int) : Nat := satSigned 16 (roundDiv (10 * t) 1024)

/-- The restart threshold of R205 in 1/1,024 °C; none while the ambient is at or above the limit. -/
def State.wireThr (s : State) (n : Nat) : Option Int :=
  let c := s.classOf n
  let ta := s.ta n
  let lim : Int := 1024 * c.tlim
  if ta < lim then some (ta + (lim - ta) * c.rst / 100) else none

/-- INJ_CH_STAT.STATE. -/
def State.valveState (s : State) (n : Nat) : Nat :=
  let c := s.injc n
  match c.run with
  | some r => if r.decay then 2 else 1
  | none =>
    if c.wait.isSome then 3 else if c.latched then 4
    else if !s.flag F.INJ_CH_CFG_EN n || !s.flag F.INJ_BANK_CFG_EN (bankOf n) then 5 else 0

/-- The open gates (ACC_STAT.GATES) and the slots' status are stored; this is the age of a slot in ms, saturating. -/
def State.slotAge (s : State) (i : Nat) : Nat :=
  match (s.slotc i).lastOk with
  | some t => Nat.min (2 ^ 32 - 1) ((s.now - t) / 1000000)
  | none => 2 ^ 32 - 1

/-- Entry `q` of the quarantine table while it is in force. -/
def State.quarOf (s : State) (q : Nat) : Option Quar :=
  match lookup q s.gwy.quar with
  | some x => if s.now < x.till then some x else none
  | none => none

/-- A node has been heard within T_SILENCE (NM_SEG_SEEN). -/
def State.nodeSeen (s : State) (g k : Nat) : Bool :=
  match (s.nmNode g k).last with
  | some t => decide (s.now < t + s.silenceNs g)
  | none => false

/-- Segment `g` blocks module sleep (R499). -/
def State.segBlocks (s : State) (g : Nat) : Bool :=
  s.managed g && !(decide (5 ≤ s.nmState g) && !s.flag F.NM_SEG_STAT_HELD g && (s.nms g).repeatTo.isNone)

/-- Events of a stream that are SPECULATIVE, or of all with none. -/
def State.specCount (s : State) (src : Option Nat) : Nat :=
  (s.eve.store.filter fun e => e.2.st == 1 && (src.isNone || src == some e.2.src)).length

/-- Registers of the supply, switch and protection blocks that hold computed fields. -/
def State.viewA (s : State) (r : Reg) (i : Nat) : Word :=
  match r with
  | .SYS_MODE => s.over r i [(F.SYS_MODE_TRANS, nat01 s.mode.sleeping)]
  | .BERTH_SUP_STAT => s.over r i [(F.BERTH_SUP_STAT_STORE_PENDING, nat01 !s.od.jobs.isEmpty)]
  | .SYS_HRP_STAT => s.over r i [(F.SYS_HRP_STAT_SESSION, nat01 s.bus.hrp.session),
      (F.SYS_HRP_STAT_LOCKOUT, nat01 s.bus.hrp.lockUntil.isSome)]
  | .GUARD_PAR_STAT => s.over r i [(F.GUARD_PAR_STAT_PENDING, Nat.min 255 (s.bus.par.filter fun e => e.2).length)]
  | .SW_STAT =>
    let c := s.swc i
    let l := s.lead i
    s.over r i [(F.SW_STAT_STATE, c.state s.g), (F.SW_STAT_INRUSH, nat01 c.inrush.isSome), (F.SW_STAT_PAIRED, nat01 (s.paired i)),
      (F.SW_STAT_SHED, nat01 c.sup), (F.SW_STAT_PROT_OFF, nat01 (s.heldIn l 1 7)),
      (F.SW_STAT_EXTRACT, nat01 s.extracting)]
  | .SW_GLB_SATLO => flags32 0 fun n => s.flag F.SW_STAT_COMP_SAT n
  | .SW_GLB_SATHI => flags32 32 fun n => s.flag F.SW_STAT_COMP_SAT n
  | .PROT_STAT => s.over r i [(F.PROT_STAT_HOLD, s.holdRank i), (F.PROT_STAT_WIRE_OK, nat01 (s.wireOk i)),
      (F.PROT_STAT_RESTARTS, Nat.min 15 (s.restartsOf i).length)]
  | .PROT_WIRE => s.over r i [(F.PROT_WIRE_TC, deci (s.swc i).tc), (F.PROT_WIRE_TS, deci (s.swc i).ts)]
  | .PROT_THR => s.over r i [(F.PROT_THR_THR, match s.wireThr i with | some t => deci t | none => 0x7FFF),
      (F.PROT_THR_TA, deci (s.ta i))]
  | .PROT_GLB_HOLDLO => flags32 0 fun n => decide (s.holdRank n ≠ 0)
  | .PROT_GLB_HOLDHI => flags32 32 fun n => decide (s.holdRank n ≠ 0)
  | .PROT_GLB_LATLO => flags32 0 fun n => decide (s.holdRank n ≠ 0) && decide (s.holdRank n ≤ 5)
  | .PROT_GLB_LATHI => flags32 32 fun n => decide (s.holdRank n ≠ 0) && decide (s.holdRank n ≤ 5)
  | .CAL_STAT => s.over r i [(F.CAL_STAT_SAFE, nat01 (s.isSafe .cal)),
      (F.CAL_STAT_SUSPENDED, nat01 (s.clk.bDown.isSome || s.mode' == 5)), (F.CAL_STAT_LIVE_CNT, s.cal.live.length)]
  | .CAL_CH_STAT => s.over r i [(F.CAL_CH_STAT_SRC, if s.cal.live.contains i then 2 else nat01 (s.flag F.CAL_STAT_FACT_OK)),
      (F.CAL_CH_STAT_AGE, match lookup i s.cal.accAt with | some t => Nat.min 255 ((s.now - t) / sec 1) | none => 0)]
  | .INJ_GLB_STAT => s.over r i [(F.INJ_GLB_STAT_SAFE, nat01 (s.isSafe .inj)), (F.INJ_GLB_STAT_PLATE, nat01 (s.active .PLATE_LIMIT)),
      (F.INJ_GLB_STAT_ACTIVE, bitsOf 24 fun n => (s.injc n).run.isSome)]
  | .INJ_BST_PWR => s.over r i [(F.INJ_BST_PWR_PLIMIT, s.derate 1200 900)]
  | .INJ_BANK_STAT => s.over r i [(F.INJ_BANK_STAT_HS, s.bankHs i), (F.INJ_BANK_STAT_RUN, bitsOf 4 fun k => (s.injc (4 * i + k)).run.isSome),
      (F.INJ_BANK_STAT_WAIT, bitsOf 4 fun k => (s.injc (4 * i + k)).wait.isSome),
      (F.INJ_BANK_STAT_FEED_OK, nat01 (s.feedUp (boostFeed (boostOf i))))]
  | .INJ_CH_STAT =>
    let run := (s.injc i).run
    s.over r i [(F.INJ_CH_STAT_STATE, s.valveState i), (F.INJ_CH_STAT_PHASE, match run with | some x => Nat.min 7 x.phase | none => 0),
      (F.INJ_CH_STAT_DEGRADED, match run with | some x => nat01 x.degraded | none => 0),
      (F.INJ_CH_STAT_CUR, if run.isSome then Config.meas i s.now else 0)]
  | r => s.rd r i

/-- Those of the event engine, the lighting, input, bollard and network blocks. -/
def State.viewB (s : State) (r : Reg) (i : Nat) : Word :=
  match r with
  | .EVE_STAT => s.over r i [(F.EVE_STAT_SPEC, s.specCount none), (F.EVE_STAT_SAFE, nat01 (s.isSafe .eve)),
      (F.EVE_STAT_USED, s.eve.store.length), (F.EVE_STAT_FULL, nat01 (decide (4096 ≤ s.eve.store.length))),
      (F.EVE_STAT_COARSE, nat01 (s.flag F.TIDE_STAT_COARSE)), (F.EVE_STAT_TIME_OK, nat01 (s.flag F.TIDE_STAT_VALID))]
  | .EVE_ST_ODO => BitVec.ofNat 32 (s.strmNow i).mm
  | .EVE_ST_SPEED => BitVec.ofNat 32 (s.strm i).v
  | .EVE_ST_STAT =>
    let t := s.strm i
    if !s.flag F.EVE_ST_CTRL_OPEN i then 0
    else s.over r i [(F.EVE_ST_STAT_FIFO, t.recs.length), (F.EVE_ST_STAT_SPEED_OK, nat01 !t.loss),
      (F.EVE_ST_STAT_MOVING, nat01 (decide (s.vmin i ≤ t.v))), (F.EVE_ST_STAT_UNDERRUN, nat01 t.under),
      (F.EVE_ST_STAT_SPEC, s.specCount (some (i + 2)))]
  | .LEDS_GLB_STAT => s.over r i [(F.LEDS_GLB_STAT_SAFE, nat01 (s.isSafe .leds)),
      (F.LEDS_GLB_STAT_PSUM, Nat.min 65535 (s.ledSum / (100 * 16383)))]
  | .LEDS_GLB_PCAP => s.over r i [(F.LEDS_GLB_PCAP_CAP, s.derate 600 450)]
  | .LEDS_CH_STAT =>
    let susp := if s.flag F.LEDS_CH_CFG_SUP i then s.ledSusp i else s.flag F.LEDS_CH_STAT_SUSP i && s.ledSusp i
    s.over r i [(F.LEDS_CH_STAT_SUSP, nat01 susp)]
  | .DIO_AUX_STAT => s.over r i [(F.DIO_AUX_STAT_RATING, nat01 (s.auxRating == 600))]
  | .BOLL_STAT => s.over r i [(F.BOLL_STAT_HOLD_RUN, nat01 s.holdRun), (F.BOLL_STAT_SAFE, nat01 (s.isSafe .boll)),
      (F.BOLL_STAT_SIL_EXP, bitsOf 4 fun t => (s.silc t).exp), (F.BOLL_STAT_GOV, s.boll.gov.length),
      (F.BOLL_STAT_HOLD_LEFT, match s.boll.hold with | some e => (e - s.now) / 1000000 | none => 0)]
  | .BOLL_SILSTAT =>
    let c := s.silc i
    let left := match c.since with | some t => c.left - (s.now - t) | none => c.left
    s.over r i [(F.BOLL_SILSTAT_LEFT, left / 1000000), (F.BOLL_SILSTAT_RUN, nat01 c.since.isSome), (F.BOLL_SILSTAT_EXP, nat01 c.exp)]
  | .BOLL_GOV => flags32 (32 * i) fun o => decide (o < 136) && (s.gov o).isSome
  | .BOLL_RFX_ACTLO => flags32 0 fun k => (s.rfxc k).act
  | .BOLL_RFX_ACTHI => flags32 32 fun k => (s.rfxc k).act
  | .BOLL_RFX_LATLO => flags32 0 fun k => (s.rfxc k).lat
  | .BOLL_RFX_LATHI => flags32 32 fun k => (s.rfxc k).lat
  | .GWY_STAT => s.over r i [(F.GWY_STAT_SAFE, nat01 (s.isSafe .gwy)), (F.GWY_STAT_RUN, nat01 s.gwyRuns),
      (F.GWY_STAT_QUAR_USED, s.gwy.quar.length)]
  | .GWY_SEG_STAT => s.over r i [(F.GWY_SEG_STAT_STATE, s.segGate i), (F.GWY_SEG_STAT_HELD, (s.holdQueue i).length)]
  | .GWY_QUAR0 =>
    match s.quarOf i with
    | some q => s.over r i [(F.GWY_QUAR0_ID, q.id), (F.GWY_QUAR0_XTD, nat01 q.xtd), (F.GWY_QUAR0_VALID, 1)]
    | none => 0
  | .GWY_QUAR1 =>
    match s.quarOf i with
    | some q => s.over r i [(F.GWY_QUAR1_SEG, q.seg), (F.GWY_QUAR1_LEFT, (q.till - s.now + sec 1 - 1) / sec 1)]
    | none => 0
  | .GWY_RING_STAT => s.over r i [(F.GWY_RING_STAT_BP, nat01 (s.ringReserved i))]
  | .GWY_BKT_STAT => s.over r i [(F.GWY_BKT_STAT_TOKENS, s.bktTokens (i + 1) / 1000000000)]
  | .ETH_PSTAT => s.over r i [(F.ETH_PSTAT_LINK, nat01 (s.ethLink i)), (F.ETH_PSTAT_SQI, if s.ethLink i then Config.meas (64 + i) s.now else 0)]
  | .ETH_SW_STAT => s.over r i [(F.ETH_SW_STAT_MAC_USED, s.eth.mac.length), (F.ETH_SW_STAT_SAFE, nat01 (s.isSafe .eth))]
  | .TIDE_FREE_LO => BitVec.ofNat 32 s.counter
  | .TIDE_FREE_HI => BitVec.ofNat 32 (s.counter / 2 ^ 32)
  | .TIDE_SNAP_LO => if s.flag F.TIDE_STAT_VALID then BitVec.ofNat 32 s.logical else 0
  | .TIDE_SNAP_HI => if s.flag F.TIDE_STAT_VALID then BitVec.ofNat 32 (s.logical / 2 ^ 32) else 0
  | r => s.rd r i

/-- Those of the harbour master, the access block, update, customs and the journal. -/
def State.viewC (s : State) (r : Reg) (i : Nat) : Word :=
  match r with
  | .NM_STAT => s.over r i [(F.NM_STAT_SLEEP_OK, nat01 s.sleepOk), (F.NM_STAT_SLEEPING, nat01 s.mode.sleeping),
      (F.NM_STAT_BLOCK, bitsOf 12 s.segBlocks), (F.NM_STAT_MODNEED, s.fld F.NM_MODNEED_NEED)]
  | .NM_SEG_STAT => s.over r i [(F.NM_SEG_STAT_SILENCE,
      if s.managed i then Nat.min 65535 ((s.now - (s.nms i).silence) / ms 10) else 0)]
  | .NM_SEG_STUCK0 => flags32 0 fun k => (s.nmNode i k).stuck
  | .NM_SEG_STUCK1 => flags32 32 fun k => (s.nmNode i k).stuck
  | .NM_SEG_SEEN0 => flags32 0 (s.nodeSeen i)
  | .NM_SEG_SEEN1 => flags32 32 (s.nodeSeen i)
  | .ACC_STAT => s.over r i [(F.ACC_STAT_POLLING, nat01 s.cycling), (F.ACC_STAT_ENROL, nat01 s.acc.enrol.isSome),
      (F.ACC_STAT_USED, s.cust.enrols)]
  | .ACC_SLOT_STAT =>
    let t := s.slotc i
    s.over r i [(F.ACC_SLOT_STAT_OCC, nat01 t.occ), (F.ACC_SLOT_STAT_MASTER, nat01 t.master), (F.ACC_SLOT_STAT_VER, t.ver)]
  | .ACC_SLOT_ID => BitVec.ofNat 32 (s.slotc i).id
  | .ACC_SLOT_AGE => if (s.slotc i).occ then BitVec.ofNat 32 (s.slotAge i) else 0
  | .ACC_DENY => BitVec.ofNat 32 (s.acc.deny.getD i 0)
  | .UPD_STAT => s.over r i [(F.UPD_STAT_STATE, s.updState), (F.UPD_STAT_PREFIX_OK, nat01 s.upd.ok),
      (F.UPD_STAT_BLOCKS, s.upd.bitmap.length), (F.UPD_STAT_BUF, s.upd.asm.length), (F.UPD_STAT_RECOVERY, nat01 (s.mode' == 7))]
  | .UPD_INFO => s.over r i [(F.UPD_INFO_NBLK, s.stagedNblk), (F.UPD_INFO_TRIAL, match s.upd.marker with | .trial c => c | _ => 0),
      (F.UPD_INFO_ROLLBACK, s.cust.rollback), (F.UPD_INFO_SROLL, match s.upd.head with | some h => hdrRollback h | none => 0)]
  | .UPD_SVER => BitVec.ofNat 32 (match s.upd.head with | some h => hdrVersion h | none => 0)
  | .UPD_RVER => BitVec.ofNat 32 s.runVersion
  | .UPD_BITMAP => flags32 (32 * i) fun b => s.upd.bitmap.contains b
  | .CUST_LC => s.over r i [(F.CUST_LC_STATE, s.cust.lc), (F.CUST_LC_RETURNS, s.cust.returns), (F.CUST_LC_ENROL, s.cust.enrols),
      (F.CUST_LC_DBG, s.cust.dbg.level), (F.CUST_LC_DBG_LOCK, nat01 s.cust.dbg.lock.isSome), (F.CUST_LC_SAFE, nat01 s.cust.safe)]
  | .JNL_STAT => s.over r i [(F.JNL_STAT_FILL, s.jnl.fill), (F.JNL_STAT_UNPERS, Nat.min 1023 s.jnl.wait.length),
      (F.JNL_STAT_FLUSHING, nat01 !s.jnl.flushing.isEmpty)]
  | .JNL_SEQ_NEW => BitVec.ofNat 32 s.seqNew
  | .JNL_SEQ_OLD => BitVec.ofNat 32 s.seqOld
  | .JNL_SEQ_PERS => BitVec.ofNat 32 s.jnl.seqPers
  | .JNL_ERR => s.over r i [(F.JNL_ERR_ERR_REG, s.errReg), (F.JNL_ERR_ACTIVE, Nat.min 255 s.jnl.active.length)]
  | .JNL_CNT => s.over r i [(F.JNL_CNT_OVERRUN, Nat.min 65535 s.jnl.overrun), (F.JNL_CNT_EMCY_DROP, Nat.min 65535 s.jnl.emcyDrop)]
  | r => s.rd r i

/-- The bits of a register that read as something: those of its RW, RO, W1C and lockable fields (R14, R71). -/
def Reg.readMask (r : Reg) : Nat :=
  r.fields.foldl (fun m f => match f.ty with
    | .WO => m
    | .CMD => m
    | _ => m ||| ((2 ^ f.w - 1) * 2 ^ f.lsb)) 0

/-- The live value that a read of a register gives (R71). -/
def State.view (s : State) (r : Reg) (i : Nat := 0) : Word :=
  let k := r.ctorIdx
  let w := if k < Reg.EVE_CTRL.ctorIdx then s.viewA r i else if k < Reg.NM_CTRL.ctorIdx then s.viewB r i else s.viewC r i
  w &&& BitVec.ofNat 32 r.readMask

/-- The value of a register field as it reads. -/
def State.vfld (s : State) (f : Fld) (i : Nat := 0) : Nat := f.of (s.view f.reg i)

end Sys2Proof.Machine
end

