-- ==== Sys2Proof/Machine/Parity.lean ====
section
/-! DEFINITION. Configuration parity (R66 to R70): where a register lies on the bus, the unit that owns a Cfg register, a mismatch,
its finding, the safe states of the units and the re-enables. -/

namespace Sys2Proof.Machine

/-! ## Addresses (R42 to R44) -/

/-- Bus address of a register. -/
def Reg.addr (r : Reg) (i : Nat) : Nat :=
  let p := r.card.place
  p.base + i / p.n2 * p.s1 + i % p.n2 * p.s2

/-- The cell index of an address among the cells of a register, if it is one. -/
def Place.find (p : Place) (a : Nat) : Option Nat :=
  if a < p.base then none
  else
    let d := a - p.base
    let i := if p.s1 = 0 then 0 else d / p.s1
    let e := d - i * p.s1
    let j := if p.s2 = 0 then 0 else e / p.s2
    if i < p.n1 ∧ j < p.n2 ∧ e = j * p.s2 then some (i * p.n2 + j) else none

def blockAt (a : Nat) : Option BlockMap := blockMap.find? fun b => decide (b.base ≤ a) && decide (a < b.base + b.span)

/-- The register at a word address of the peripheral region; none at an unlisted offset or outside every block. -/
def findReg (a : Nat) : Option (Reg × Nat) :=
  match blockAt a with
  | none => none
  | some b => b.regs.findSome? fun r => (r.card.place.find a).map fun i => (r, i)

/-! ## Units (R67, R70, R286) -/

/-- The unit that owns a Cfg register; none for the AON registers of CAN, for which no chapter names one (R416). -/
def unitOf (r : Reg) (i : Nat) : Option SafeUnit :=
  match r with
  | .SYS_CFG => some .sysCfg
  | .SYS_HRP_CTRL => some .hrp
  | .JNL_CTRL => some .jnlCfg
  | .BERTH_SUP_CTRL => some .supCfg
  | .BERTH_CTRL => some .berthCfg
  | .SW_GLB_PAIR => some .swPair
  | .SW_CTRL => some (.swCh i)
  | .SW_LIMIT => some (.swCh i)
  | .SW_PWM => some (.swCh i)
  | .SW_PHASE => some (.swCh i)
  | .PROT_CFG => some (.protCh i)
  | .PROT_WC_RES => some (.wireClass i)
  | .PROT_WC_CAP => some (.wireClass i)
  | .PROT_WC_TH => some (.wireClass i)
  | .PROT_FL_CTRL => some (.feedLim i)
  | .CAL_CTRL => some .cal
  | .CAL_CH_DIAG => some .cal
  | .INJ_BST_CFG => some .inj
  | .INJ_BANK_CFG => some (.injBank i)
  | .INJ_CH_CFG => some (.injCh i)
  | .INJ_CH_PROT => some (.injCh i)
  | .INJ_CH_CLWIN => some (.injCh i)
  | .INJ_LAST_HDR => some (.lastU i)
  | .INJ_LAST_PH => some (.lastU (i / 8))
  | .LEDS_GLB_CFG => some .leds
  | .LEDS_CH_CFG => some (.ledCh i)
  | .DIO_GRP_CFG => some (.dioGrp i)
  | .DIO_CNT_CFG => some (.dioCnt i)
  | .DIO_PPS_CFG => some .dioPps
  | .DIO_WAKE_CFG => some .dioWake
  | .DIO_DO_CFG => some .dioDo
  | .CAN_SW_CFG => none
  | .CAN_SW_ID => none
  | .CAN_SW_IDM => none
  | .CAN_SW_DLO => none
  | .CAN_SW_DHI => none
  | r =>
    if regsEVE.contains r then some .eve else if regsBOLL.contains r then some .boll else if regsCAN.contains r then some .can
    else if regsGWY.contains r then some .gwy else if regsETH.contains r then some .eth else if regsTIDE.contains r then some .tide
    else if regsNM.contains r then some .nm else if regsACC.contains r then some .acc else if regsUPD.contains r then some .upd
    else none

/-- The block ID of R70, or the source block of the unit's fault codes. -/
def SafeUnit.block : SafeUnit → Nat
  | .sysCfg => 0x01 | .hrp => 0x01 | .jnlCfg => 0x01 | .supCfg => 0x02 | .berthCfg => 0x04
  | .swPair => 0x10 | .protCh _ => 0x10 | .wireClass _ => 0x10 | .feedLim _ => 0x10 | .swCh _ => 0x10
  | .dioGrp _ => 0x14 | .dioCnt _ => 0x14 | .dioPps => 0x14 | .dioWake => 0x14 | .dioDo => 0x14
  | .tide => 0x22 | .nm => 0x24 | .acc => 0x31 | .upd => 0x33 | .cust => 0x32
  | .injCh _ => 0x11 | .injBank _ => 0x11 | .lastU _ => 0x11 | .inj => 0x11
  | .ledCh _ => 0x13 | .leds => 0x13 | .cal => 0x16 | .eve => 0x12 | .boll => 0x15 | .can => 0x20 | .eth => 0x21 | .gwy => 0x23

/-- Block ID of a register (R616). -/
def regBlock (r : Reg) (i : Nat) : Nat := match unitOf r i with | some u => u.block | none => 0x20

/-- A unit that its block re-enables by a bit of its own, and not by its block ID. -/
def SafeUnit.ownBit : SafeUnit → Bool
  | .cal => true | .inj => true | .eve => true | .leds => true | .boll => true | .can => true | .eth => true | .gwy => true
  | .cust => true
  | _ => false

/-- Every switch channel of a wire class turns off under its unit's safe state. -/
def State.classOff (s : State) (c : Nat) : State :=
  (s.setSafe (.wireClass c)).each (List.range 64) fun s n => if s.fld F.PROT_CFG_WCLASS (s.lead n) = c then s.take n 5 true else s

/-- A unit goes to its safe state. -/
def State.unitToSafe (s : State) (u : SafeUnit) : State :=
  match u with
  | .berthCfg => (s.setSafe u).adopt
  | .hrp => (s.setSafe u) |> fun s => { s with bus := { s.bus with hrp := { s.bus.hrp with session := false } } }
  | .swPair => (s.setSafe u).each (List.range 64) fun s n => s.take n 5 true
  | .protCh n => (s.setSafe u).each (s.cells n) fun s c => s.take c 5 true
  | .wireClass c => s.classOff c
  | .swCh n => (s.setSafe u).take n 5 false
  | .injCh n => (s.setSafe u).take (64 + n) 5 false
  | .injBank b => (s.setSafe u).each (bankChs b) fun s n => s.take (64 + n) 5 false
  | .ledCh n => (s.setSafe u).take (88 + n) 5 false
  | .dioCnt k => (s.setSafe u).setFlag F.DIO_CNT_FREQ_VALID k false
  | .dioDo => (s.setSafe u).dioRefresh
  | .dioPps => (s.setSafe u).chooseSource
  | .tide => s.tideSafe
  | .nm => s.nmSafe
  | .acc => s.accSafe
  | .cal => s.calSafe
  | .inj => s.injSafe
  | .eve => s.clearStore.setSafe .eve
  | .leds => s.ledsSafe
  | .boll => s.bollSafe
  | .can => s.canSafe
  | .eth => s.ethSafe
  | .gwy => s.gwySafe
  | u => s.setSafe u

/-! ## Mismatches -/

/-- A register is in mismatch. -/
def State.mismatch (s : State) (k : Reg × Nat) : Bool := s.bus.par.any fun e => e.1 == k

def State.setPar (s : State) (l : List ((Reg × Nat) × Bool)) : State := { s with bus := { s.bus with par := l } }

/-- A bit of a Cfg register flips: the value as stored changes and its parity does not (R66). `bit` is the bit. -/
def State.flipBit (s : State) (k : Reg × Nat) (b : Nat) : State :=
  if !k.1.card.cfg then s
  else
    let s := s.wr k.1 k.2 (s.rd k.1 k.2 ^^^ BitVec.ofNat 32 (2 ^ (b % 32)))
    if s.mismatch k then s.setPar (s.bus.par.filter fun e => e.1 ≠ k) else s.setPar ((k, false) :: s.bus.par)

/-- The first read or scrubber visit that meets a mismatch finds it (R67). -/
def State.findMismatch (s : State) (k : Reg × Nat) : State :=
  if s.bus.par.any (fun e => e.1 == k && !e.2) then
    let a := k.1.addr k.2
    let s := s.setPar (s.bus.par.map fun e => if e.1 = k then (k, true) else e)
    let s := ((s.bump F.GUARD_PAR_STAT_COUNT).setFlag F.GUARD_PAR_STAT_PAR).wr .GUARD_PAR_ADDR 0 (BitVec.ofNat 32 a)
    let s := s.raise .CFG_PARITY (regBlock k.1 k.2) [a]
    match unitOf k.1 k.2 with
    | some u => s.unitToSafe u
    | none => s
  else s

/-- The scrubber visits every Cfg register of every powered domain, from Boot on (R66). -/
def State.scrub (s : State) : State :=
  if !s.awake then s else s.each ((s.bus.par.filter fun e => !e.2).map (·.1)) fun s k => s.findMismatch k

/-- A CFG_PARITY fault is over when no register of its block is in mismatch and none of its units is safe (R69, R612). -/
def State.parityJudge (s : State) (blk : Nat) : State :=
  if s.bus.par.any (fun e => regBlock e.1.1 e.1.2 == blk) || s.bus.safe.any (fun u => u.block == blk) then s
  else s.clearFault .CFG_PARITY blk

/-- A full 32-bit write clears a mismatch (R68). -/
def State.clearMismatch (s : State) (k : Reg × Nat) : State :=
  if s.mismatch k then (s.setPar (s.bus.par.filter fun e => e.1 ≠ k)).parityJudge (regBlock k.1 k.2) else s

/-! ## Re-enables (R69, R70) -/

/-- The cause of a safe state persists: a register of the unit in mismatch, or the condition that its chapter names. -/
def State.unitBarred (s : State) (u : SafeUnit) : Bool :=
  s.bus.par.any (fun e => unitOf e.1.1 e.1.2 == some u) ||
    match u with
    | .inj => s.active .PLATE_LIMIT
    | .leds => s.active .PLATE_LIMIT
    | .can => s.active .CLK_DOMAIN_LOSS 3
    | _ => false

/-- The unit leaves its safe state. -/
def State.unitBack (s : State) (u : SafeUnit) : State :=
  match u with
  | .boll => s.bollReenable
  | .can => s.canReenable.1
  | .inj => (s.setSafe .inj false).bstAll
  | .berthCfg => (s.setSafe u false).adopt
  | .dioDo => (s.setSafe u false).dioRefresh
  | .dioPps => (s.setSafe u false).chooseSource
  | .tide => (s.setSafe .tide false).bmca
  | .eth => (s.setSafe .eth false).each [0, 1, 2, 3] fun s p => s.linkSetup p
  | .nm => s.setSafe .nm false
  | u => s.setSafe u false

/-- A re-enable of every safe unit that `p` selects, and whether it was refused for one of them; the refusal is noted (R69). -/
def State.reenable (s : State) (p : SafeUnit → Bool) : State × Bool :=
  let us := s.bus.safe.filter p
  let bad := us.any s.unitBarred
  let s := s.each (us.filter fun u => !s.unitBarred u) fun s u => (s.unitBack u).parityJudge u.block
  (if bad then s.setFlag F.GUARD_REENABLE_REFUSED else s, bad)

/-- A re-enable by block ID (GUARD_REENABLE, 2000:1B). -/
def State.reenableBlock (s : State) (id : Nat) : State × Bool := s.reenable fun u => u.block == id && !u.ownBit
/-- A re-enable by a block's own bit. -/
def State.reenableUnit (s : State) (u : SafeUnit) : State × Bool := s.reenable fun x => x == u

/-! ## Resets -/

/-- Domains that a module reset resets (R73). -/
def resetByModule : List Domain := [.PER, .FAB, .CANC, .ETHC, .TIDE]

/-- Units all of whose registers lie in domains that a module reset resets: it ends their safe states (R69). -/
def SafeUnit.endsByReset : SafeUnit → Bool
  | .sysCfg => true | .hrp => true | .jnlCfg => true | .tide => true | .eve => true | .can => true | .eth => true | .gwy => true
  | .acc => true | .upd => true
  | _ => false

/-- What a module reset does to parity: reset registers have good parity again. -/
def State.parityReset (s : State) : State :=
  let blks := (s.bus.par.map fun e => regBlock e.1.1 e.1.2) ++ s.bus.safe.map SafeUnit.block
  let s := s.setPar (s.bus.par.filter fun e => !resetByModule.contains e.1.1.card.dom)
  let s := { s with bus := { s.bus with safe := s.bus.safe.filter fun u => !u.endsByReset } }
  s.each blks fun s b => s.parityJudge b

end Sys2Proof.Machine
end

