-- ==== Sys2Proof/Machine/Arch.lean ====
section
/-! DEFINITION. Clock domains and welts (R18 to R22), and mode requests (R145). -/

namespace Sys2Proof.Machine

/-! ## Mode requests -/

/-- A mode request (R145): the state, and whether it was refused. A request for Dormant releases the module need; one for Boot is a
module reset. -/
def State.modeRequest (s : State) (target : Nat) (keyOk : Bool) : State × Bool :=
  let c := s.modeCause target keyOk
  if c ≠ 0 then (s.modeRefuse c, true)
  else
    let r := s.takeTrigger 5
    if !r.2 then (s.modeRefuse 7, true)
    else
      let s := r.1
      (match target with
        | 0 => s.setModNeed false
        | 2 => s.askReset 3
        | 3 => s.enterConfigure
        | 4 => s.enterOperate
        | 6 => s.enterService
        | _ => s.enterRecovery 3, false)

/-! ## Clock domains -/

def clkBit : ClkDom → Nat
  | .core => 0 | .fab => 1 | .per => 2 | .canc => 3 | .tide => 4 | .pwr => 5 | .aon => 6 | .ethc p => p.val

/-- The PWR domain runs from its RC oscillator (R19). -/
def State.pwrOnRc (s : State) : State := s.setFlag F.CLK_STAT_PWR_ON_PLL 0 false

/-- A clock is declared lost (R18): it deviates from nominal by more than `thr` ppm as its judge sees it, or has stood still for 10 µs. -/
def clkLost (thr : Nat) (dev : Int) (still : Nat) : Bool := decide (thr < dev.natAbs) || decide (10000 ≤ still)

/-- The threshold of R18 in ppm: the TIDE clock is judged by the PWR RC oscillator, every other clock by the TIDE clock. -/
def clkThr : ClkDom → Nat | .tide => 50000 | _ => 20000

/-- The clock of a domain is marked valid (CLK_STAT). -/
def State.clkValid (s : State) (d : ClkDom) : Bool :=
  match d with
  | .ethc p => s.bit F.CLK_STAT_ETH_LOCK 0 p.val
  | d => s.bit F.CLK_STAT_LOCK 0 (clkBit d)

/-- A domain clock is lost (R18 to R21), with the reaction of the domain table. INDEX carries the number of the domain's LOCK bit (DESIGN
CHOICE, log 95). -/
def State.clkLoss (s : State) (d : ClkDom) : State :=
  match d with
  | .ethc p => (s.setBit F.CLK_STAT_ETH_LOCK 0 p.val false).ethDown p.val
  | _ =>
    let s := s.setBit F.CLK_STAT_LOCK 0 (clkBit d) false
    match d with
    | .pwr => s.pwrOnRc.raiseC .CLK_DOMAIN_LOSS 1 (clkBit d) [] 0
    | .aon => s.raiseC .CLK_DOMAIN_LOSS 1 (clkBit d) [] 0
    | .canc => (s.raiseC .CLK_DOMAIN_LOSS 3 (clkBit d) [] 0).canSafe
    | .tide => (s.raiseC .CLK_DOMAIN_LOSS 4 (clkBit d) [] 0).tideStop.enterLimp .CLK_DOMAIN_LOSS
    | _ => (s.raiseC .CLK_DOMAIN_LOSS 4 (clkBit d) [] 0).enterLimp .CLK_DOMAIN_LOSS

/-- The crystal reference is lost (R20). -/
def State.clkRefLoss (s : State) : State :=
  ((s.setBit F.CLK_STAT_LOCK 0 7 false).pwrOnRc.raise .CLK_REF_LOSS).enterLimp .CLK_REF_LOSS

/-- A judgement of a domain's clock (R18): `dev` ppm from nominal, standing still for `still` ns. A clock that is lost already stays
lost (R21). -/
def State.clkJudge (s : State) (d : ClkDom) (dev : Int) (still : Nat) : State :=
  if s.clkValid d && clkLost (clkThr d) dev still then s.clkLoss d else s

/-- A judgement of the crystal reference by the PWR RC oscillator (R18, R20). -/
def State.refJudge (s : State) (dev : Int) (still : Nat) : State :=
  if s.bit F.CLK_STAT_LOCK 0 7 && clkLost 50000 dev still then s.clkRefLoss else s

/-- The blocks that receive from a welt, by block ID, the first of them where a word names none of them (R22 and the welt table; log 12):
the readers of measurements, the power-plane blocks, the event engine's outputs, the gateway, CAN, Ethernet, and the blocks with AON registers. -/
def weltBlocks (w : Nat) : List Nat :=
  if w = 0 then [0x16]
  else if w = 1 then [0x10, 0x11, 0x13, 0x14, 0x15, 0x16, 0x02]
  else if w = 2 then [0x12, 0x10, 0x11]
  else if w ≤ 10 then [0x23]
  else if w ≤ 18 then [0x20]
  else if w ≤ 26 then [0x21]
  else [0x24, 0x04, 0x14, 0x20]

/-- The units of a block that stand for the whole of it in its safe state (R67, R70). -/
def blockUnits (blk : Nat) : List SafeUnit :=
  if blk = 0x01 then [.sysCfg, .hrp, .jnlCfg]
  else if blk = 0x14 then (List.range 6).map .dioGrp ++ (List.range 8).map .dioCnt ++ [.dioPps, .dioWake, .dioDo]
  else [SafeUnit.supCfg, .berthCfg, .swPair, .inj, .eve, .leds, .boll, .cal, .can, .eth, .tide, .gwy, .nm, .acc, .upd].filter
    fun u => u.block == blk

/-- The receiving block of a welt goes to its safe state (R22); `blk` is the block to which the welt was carrying (log 12). -/
def State.weltSafe (s : State) (w blk : Nat) : State :=
  let l := weltBlocks w
  s.each (blockUnits (if l.contains blk then blk else l.headD 0)) fun s u => s.unitToSafe u

/-- A welt overflows (R22). -/
def State.weltOvf (s : State) (w blk : Nat) : State :=
  let s := ((s.setFld F.CLK_WELT_LAST_OVF 0 w).bump F.CLK_WELT_OVF_COUNT).setFlag F.CLK_WELT_OVF
  (s.raise .WELT_OVF w).weltSafe w blk

end Sys2Proof.Machine
end

