-- ==== Sys2Proof/Machine/Operands.lean ====
section
/-! DEFINITION. How a write's data reaches a register (R52, R64, R71): the lanes of the write, the bits it sets, clears and triggers,
and the answers of a write. -/

namespace Sys2Proof.Machine

/-- The bits of a register in the fields that `p` selects. -/
def Reg.tyMask (r : Reg) (p : FTy → Bool) : Word :=
  BitVec.ofNat 32 (r.fields.foldl (fun m f => if p f.ty then m ||| ((2 ^ f.w - 1) * 2 ^ f.lsb) else m) 0)

def FTy.sets : FTy → Bool | .RW => true | .WO => true | _ => false
def FTy.clears : FTy → Bool | .W1C => true | _ => false
def FTy.fires : FTy → Bool | .CMD => true | _ => false

/-- The value that the fields of a register have before a write (R71). -/
def State.before (s : State) (r : Reg) (i : Nat) : Word :=
  match r with
  | .EVE_ST_ODO => s.view r i
  | .EVE_ST_SPEED => s.view r i
  | r => s.rd r i

/-- The word that a write of `w` on the bits of `m` leaves: RW and WO fields take the data, W1C bits written 1 clear. -/
def State.merge (s : State) (r : Reg) (i : Nat) (w m : Word) : Word :=
  let old := s.before r i
  let set := m &&& r.tyMask FTy.sets
  ((old &&& ~~~set) ||| (w &&& set)) &&& ~~~(w &&& m &&& r.tyMask FTy.clears)

/-- The command bits that the write triggers. -/
def Reg.fired (r : Reg) (w m : Word) : Word := w &&& m &&& r.tyMask FTy.fires

/-- A one-bit command field is triggered. -/
def Fld.on (f : Fld) (w : Word) : Bool := f.of w != 0

/-- Abort codes of R510 that a register write may answer with through the dictionary; 0 where it was accepted. -/
def abRange : Nat := 0x06090030
def abState : Nat := 0x08000022

def inRange (lo hi x : Nat) : Bool := decide (lo ≤ x) && decide (x ≤ hi)

/-- Store the merged word. -/
def State.store (s : State) (r : Reg) (i : Nat) (n : Word) : State × Nat := (s.wr r i n, 0)
/-- Store it where the ranges hold; else the whole write is refused. -/
def State.storeIf (s : State) (b : Bool) (r : Reg) (i : Nat) (n : Word) : State × Nat :=
  if b then (s.wr r i n, 0) else (s, abRange)
/-- A further effect where a write was accepted. -/
def andThen (x : State × Nat) (f : State → State) : State × Nat := if x.2 = 0 then (f x.1, 0) else x
/-- An answer from a refusal flag. -/
def refusedAs (ab : Nat) (x : State × Bool) : State × Nat := (x.1, if x.2 then ab else 0)

/-- A field keeps its value where its own range refuses it. -/
def keepField (f : Fld) (old n : Word) (ok : Bool) : Word := if ok then n else f.into n (f.of old)

end Sys2Proof.Machine
end

