-- ==== Sys2Proof/Machine/RegA.lean ====
section
/-! DEFINITION. Writes to the registers of SYS, CLK, GUARD, BERTH, SW, PROT and CAL: ranges, refusals and effects. `n` is the word that
the write leaves, `c` the command bits it triggers; the answer is 0 or the abort code of a refusal. -/

namespace Sys2Proof.Machine

/-- A write to a channel register is refused for its range: the flags of the channel set (SW register cards). -/
def State.swRange (s : State) (n : Nat) : State × Nat :=
  ((s.setFlag F.SW_STAT_REFUSED n).setFlag F.SW_EVT_REFUSED n, abRange)
/-- It is refused for R182. -/
def State.swSlewBad (s : State) (n : Nat) : State × Nat := (s.swRefuse n, abRange)
/-- It is stored, and the channel follows it. -/
def State.swStore (s : State) (r : Reg) (i : Nat) (w : Word) : State × Nat := (((s.swAccept i).wr r i w).refresh (s.lead i), 0)

def State.wrSw (s : State) (r : Reg) (i : Nat) (n c : Word) : State × Nat :=
  match r with
  | .SW_CTRL =>
    if !inRange 60 600 (F.SW_CTRL_VREF.of n) then s.swRange i
    else if s.fld F.SW_PWM_PERIOD i < 4 * tminOf (F.SW_CTRL_SLEW.of n) then s.swSlewBad i
    else s.swStore r i n
  | .SW_LIMIT =>
    if inRange 10 80 (F.SW_LIMIT_LIMIT.of n) && inRange 10 80 (F.SW_LIMIT_INRUSH_LIMIT.of n) && inRange 0 500 (F.SW_LIMIT_INRUSH_TIME.of n)
    then s.swStore r i n else s.swRange i
  | .SW_PWM =>
    if !inRange 2000 1600000 (F.SW_PWM_PERIOD.of n) then s.swRange i
    else if F.SW_PWM_PERIOD.of n < 4 * tminOf (s.fld F.SW_CTRL_SLEW i) then s.swSlewBad i
    else s.swStore r i n
  | .SW_PHASE => if inRange 0 40000 (F.SW_PHASE_PHASE.of n) then s.swStore r i n else s.swRange i
  | .SW_OUT => refusedAs abState (s.swOutWrite i (F.SW_OUT_MODE.of n) (F.SW_OUT_DUTY.of n))
  | .SW_PEAK => (let s := s.swAccept i; if F.SW_PEAK_CLR.on c then s.setFld F.SW_PEAK_PEAK i 0 else s, 0)
  | .SW_EVT => (s.swAccept i).store r i n
  | .SW_GLB_PAIR => refusedAs abState (s.pairWrite (F.SW_GLB_PAIR_PAIR.of n))
  | .SW_GLB_GRPCMD =>
    let s := s.wr r i n
    if F.SW_GLB_GRPCMD_GO.on c then
      refusedAs abState (s.groupCommand (s.fld F.SW_GLB_GRPLO_SEL + 2 ^ 32 * s.fld F.SW_GLB_GRPHI_SEL)
        (F.SW_GLB_GRPCMD_MODE.of n) (F.SW_GLB_GRPCMD_DUTY.of n))
    else (s, 0)
  | r => s.store r i n

/-- Any channel of the class has a commanded mode other than OFF (R208). -/
def State.classBusy (s : State) (c : Nat) : Bool :=
  (List.range 64).any fun n => s.fld F.PROT_CFG_WCLASS (s.lead n) == c && s.fld F.SW_OUT_MODE (s.lead n) != 0

def State.wrProt (s : State) (r : Reg) (i : Nat) (n c : Word) : State × Nat :=
  match r with
  | .PROT_CFG =>
    let amb := signed 8 (F.PROT_CFG_AMB_OFS.of n)
    andThen (s.storeIf (decide (-20 ≤ amb) && decide (amb ≤ 60) && inRange 110 165 (F.PROT_CFG_CEIL.of n)) r i n) fun s =>
      let s := s.shedChanged
      if s.isSafe (.wireClass (F.PROT_CFG_WCLASS.of n)) && s.lead i == i then s.each (s.cells i) fun s k => s.take k 5 true else s
  | .PROT_WC_RES => if s.classBusy i then (s, abState) else
    s.storeIf (inRange 100 60000 (F.PROT_WC_RES_RES.of n) && inRange 60 150 (F.PROT_WC_RES_TLIM.of n) &&
      inRange 10 90 (F.PROT_WC_RES_RST.of n)) r i n
  | .PROT_WC_CAP => if s.classBusy i then (s, abState) else
    s.storeIf (inRange 10 60000 (F.PROT_WC_CAP_CC.of n) && inRange 10 60000 (F.PROT_WC_CAP_CS.of n)) r i n
  | .PROT_WC_TH => if s.classBusy i then (s, abState) else
    s.storeIf (inRange 1 1000 (F.PROT_WC_TH_RCS.of n) && inRange 100 10000 (F.PROT_WC_TH_RSA.of n)) r i n
  | .PROT_FL_CTRL =>
    s.storeIf (inRange 50 95 (F.PROT_FL_CTRL_REL_PCT.of n) && inRange 1 100 (F.PROT_FL_CTRL_REL_TIME.of n) &&
      inRange 1 60 (F.PROT_FL_CTRL_REPEAT.of n)) r i n
  | .PROT_CLR => if F.PROT_CLR_CLR.on c then refusedAs abState (s.protClear (s.lead i)) else (s, 0)
  | .PROT_FL_CLR => if F.PROT_FL_CLR_CLR.on c then refusedAs abState (s.flClear i) else (s, 0)
  | r => s.store r i n

def State.wrCal (s : State) (r : Reg) (i : Nat) (n c : Word) : State × Nat :=
  match r with
  | .CAL_CTRL =>
    let x := andThen (s.storeIf (inRange 1 10 (F.CAL_CTRL_PERIOD.of n)) r i n) fun s => s.clearMismatch (r, i)
    let s := if F.CAL_CTRL_REVERT.on c then x.1.calRevert else x.1
    if F.CAL_CTRL_REENABLE.on c then
      let y := s.reenableUnit .cal
      (y.1, if y.2 then abState else x.2)
    else (s, x.2)
  | .CAL_CH_DIAG => andThen (s.store r i n) fun s => s.diagConfigured i
  | r => s.store r i n

/-- SYS, CLK, GUARD and BERTH. -/
def State.wrSys (s : State) (r : Reg) (i : Nat) (n c : Word) : State × Nat :=
  match r with
  | .SYS_MODE_CMD =>
    let s := s.wr r i n
    if F.SYS_MODE_CMD_GO.on c then
      refusedAs abState (s.modeRequest (F.SYS_MODE_CMD_TARGET.of n) (F.SYS_MODE_CMD_KEY.of n == 0x5A))
    else (s, 0)
  | .SYS_HRP_CTRL =>
    let ok := inRange 1 600 (F.SYS_HRP_CTRL_TIMEOUT.of n)
    ((s.wr r i (keepField F.SYS_HRP_CTRL_TIMEOUT (s.rd r i) n ok)).clearMismatch (r, i), if ok then 0 else abRange)
  | .SYS_BOLLARD_FEED =>
    let s := s.wr r i n
    (if F.SYS_BOLLARD_FEED_FEED.on c then s.feed (F.SYS_BOLLARD_FEED_TIMER.of n) (F.SYS_BOLLARD_FEED_VALUE.of n) else s, 0)
  | .GUARD_VIOL => ((s.wr r i n) |> fun s => if F.GUARD_VIOL_CLR.on c then s.setFld F.GUARD_VIOL_COUNT 0 0 else s, 0)
  | .GUARD_BERR_INFO => ((s.wr r i n) |> fun s => if F.GUARD_BERR_INFO_CLR.on c then s.setFld F.GUARD_BERR_INFO_COUNT 0 0 else s, 0)
  | .GUARD_REENABLE =>
    let s := s.wr r i n
    if F.GUARD_REENABLE_GO.on c then refusedAs abState (s.reenableBlock (F.GUARD_REENABLE_BLOCK.of n)) else (s, 0)
  | .BERTH_CTRL =>
    let a := inRange 20 150 (F.BERTH_CTRL_RAMP_TIME.of n)
    let b := inRange 10 125 (F.BERTH_CTRL_OEM_CAP.of n)
    let old := s.rd r i
    (((s.wr r i (keepField F.BERTH_CTRL_OEM_CAP old (keepField F.BERTH_CTRL_RAMP_TIME old n a) b)).clearMismatch (r, i)).adopt, if a && b then 0 else abRange)
  | .BERTH_SUP_CTRL =>
    let a := inRange 70 400 (F.BERTH_SUP_CTRL_VWARN.of n)
    let b := F.BERTH_SUP_CTRL_STAGGER.of n != 0
    let old := s.rd r i
    (((s.wr r i (keepField F.BERTH_SUP_CTRL_STAGGER old (keepField F.BERTH_SUP_CTRL_VWARN old n a) b)).clearMismatch (r, i)).shedChanged, if a && b then 0 else abRange)
  | .BERTH_SUP_MIN => (if F.BERTH_SUP_MIN_CLR.on c then s.setFld F.BERTH_SUP_MIN_VMIN i 0xFFFF else s, 0)
  | r => s.store r i n

end Sys2Proof.Machine
end

