-- ==== Sys2Proof/Machine/RegB.lean ====
section
/-! DEFINITION. Writes to the registers of INJ, EVE, LEDS, DIO and BOLL: ranges, refusals and effects (see `RegA`). -/

namespace Sys2Proof.Machine

def State.wrInj (s : State) (r : Reg) (i : Nat) (n c : Word) : State × Nat :=
  match r with
  | .INJ_GLB_CTRL => if F.INJ_GLB_CTRL_REENABLE.on c then refusedAs abState (s.reenableUnit .inj) else (s, 0)
  | .INJ_BST_CFG => andThen (s.storeIf (inRange 300 720 (F.INJ_BST_CFG_VTGT.of n)) r i n) fun s => (s.bstRefresh i).railVolt i (s.fld F.INJ_BST_STAT_VOUT i)
  | .INJ_BST_STAT => (if F.INJ_BST_STAT_CLR.on c then ((s.setFlag F.INJ_BST_STAT_OV i false).clearFault .BOOST_OVERVOLT i).bstRefresh i else s, 0)
  | .INJ_BANK_CFG =>
    if !inRange 0 100 (F.INJ_BANK_CFG_BOOST_WAIT.of n) || !inRange 0 1000 (F.INJ_BANK_CFG_DEFER_MAX.of n) then (s, abRange)
    else if F.INJ_BANK_CFG_EN.of n ≠ s.fld F.INJ_BANK_CFG_EN i ∧ !s.cfgOpen then (s, abState)
    else s.store r i n
  | .INJ_BANK_STAT =>
    (if F.INJ_BANK_STAT_CLR.on c then (s.setFlag F.INJ_BANK_STAT_HSB_SHORT i false).clearFault .HSB_SHORT i else s, 0)
  | .INJ_CH_CFG =>
    if !inRange 20 10000 (F.INJ_CH_CFG_MIN_OFF.of n) then (s, abRange)
    else if F.INJ_CH_CFG_EN.of n ≠ s.fld F.INJ_CH_CFG_EN i ∧ !s.cfgOpen then (s, abState)
    else s.store r i n
  | .INJ_CH_PROT => s.storeIf (inRange 0 1000 (F.INJ_CH_PROT_TRISE_MIN.of n)) r i n
  | .INJ_CH_CLWIN =>
    s.storeIf (decide (20 ≤ F.INJ_CH_CLWIN_START.of n) && decide (F.INJ_CH_CLWIN_START.of n < F.INJ_CH_CLWIN_END.of n)) r i n
  | .INJ_CH_CMD =>
    let s := s.wr r i n
    let s := if F.INJ_CH_CMD_CLR.on c then s.coilClear i else s
    if F.INJ_CH_CMD_ABORT.on c then (s.valveAbort i, 0)
    else if F.INJ_CH_CMD_GO.on c then
      let x := s.directCommand i (F.INJ_CH_CMD_LAST.of n) (F.INJ_CH_CMD_DUR.of n)
      (x.1, if x.2 = 0 then 0 else if x.2 = 1 then abState else abRange)
    else (s, 0)
  | .INJ_LAST_HDR => refusedAs abRange (s.lastWrite i 0 n.toNat)
  | .INJ_LAST_PH => refusedAs abRange (s.lastWrite (i / 8) (i % 8 + 1) n.toNat)
  | r => s.store r i n

/-- A stream takes configuration only while it is closed (R317). -/
def State.strmCfg (s : State) (t : Nat) (ok : Bool) (r : Reg) (i : Nat) (n : Word) : State × Nat :=
  if s.flag F.EVE_ST_CTRL_OPEN t then (s, abState) else s.storeIf ok r i n

/-- Records, host speed and odometer are taken only while the stream is open, in Operate or Service (R321). -/
def State.strmTakes (s : State) (t : Nat) : Bool := s.flag F.EVE_ST_CTRL_OPEN t && s.live

def State.wrEve (s : State) (r : Reg) (i : Nat) (n c : Word) : State × Nat :=
  match r with
  | .EVE_CTRL =>
    let x := andThen (s.storeIf (inRange 200 10000 (F.EVE_CTRL_HORIZON.of n)) r i n) fun s => s.clearMismatch (r, i)
    if F.EVE_CTRL_REENABLE.on c then
      let y := x.1.reenableUnit .eve
      (y.1, if y.2 then abState else x.2)
    else x
  | .EVE_CMD =>
    let s := s.wr r i n
    let s := if F.EVE_CMD_ABORT_ALL.on c then s.eveAbortAll else s
    let x := if F.EVE_CMD_ABORT.on c then s.eveAbort (F.EVE_CMD_HANDLE.of n) else (s, true)
    let s := if F.EVE_CMD_GO.on c then x.1.eveGo (F.EVE_CMD_ASAP.of n != 0) else x.1
    (s, if x.2 then 0 else abRange)
  | .EVE_RES_PTR =>
    let s := s.wr r i n
    (s.setEve { s.eve with full := false }, 0)
  | .EVE_ST_CTRL =>
    let was := s.flag F.EVE_ST_CTRL_OPEN i
    let same := F.EVE_ST_CTRL_OPEN.into n (s.fld F.EVE_ST_CTRL_OPEN i) == s.rd r i
    if was && !same then (s, abState)
    else if !inRange 100 2000 (F.EVE_ST_CTRL_RUN_AHEAD.of n) then (s, abRange)
    else
      let moved := s.fld F.EVE_ST_CTRL_SRC i ≠ F.EVE_ST_CTRL_SRC.of n ∨ s.fld F.EVE_ST_CTRL_DI i ≠ F.EVE_ST_CTRL_DI.of n
      let s := if moved then s.setStrm i { s.strmNow i with pulses := [], pulseAt := s.now } else s
      let s := s.wr r i n
      (if was && F.EVE_ST_CTRL_OPEN.of n == 0 then s.closeStream i
       else if !was && F.EVE_ST_CTRL_OPEN.of n != 0 then
         let loss := (s.strm i).loss && F.EVE_ST_CTRL_SRC.of n != 0
         let s := s.setStrm i { s.strm i with recs := [], newest := none, last := s.now, upd := s.now, loss := loss, under := false }
         if loss then s else s.clearFault .SPEED_LOSS i
       else s, 0)
  | .EVE_ST_SCALE => s.strmCfg i (inRange 1 1000000 (F.EVE_ST_SCALE_SCALE.of n)) r i n
  | .EVE_ST_CANID => s.strmCfg i true r i n
  | .EVE_ST_CFG2 =>
    s.strmCfg i (inRange 0 6 (F.EVE_ST_CFG2_BYTE.of n) && inRange 1 1000 (F.EVE_ST_CFG2_DOSE_UNIT.of n) &&
      inRange 1 100 (F.EVE_ST_CFG2_TIMEOUT.of n) && inRange 1 63 (F.EVE_ST_CFG2_VMIN.of n)) r i n
  | .EVE_ST_ODO => if s.strmTakes i then (s.setOdo i n.toNat, 0) else (s, abState)
  | .EVE_ST_SPEED =>
    if s.strmTakes i && s.fld F.EVE_ST_CTRL_SRC i == 2 then (s.speedIn i (signed 32 n.toNat), 0) else (s, abState)
  | .EVE_ST_RECHI =>
    let s := s.wr r i n
    let x := s.addRecord i ((s.rd .EVE_ST_RECLO i).toNat + 2 ^ 32 * n.toNat)
    (x.1, if x.2 then 0 else abState)
  | .EVE_NZ_MAP => s.strmCfg (i / 24) true r i n
  | .EVE_NZ_GEO => s.strmCfg (i / 24) (inRange 0 10000 (F.EVE_NZ_GEO_LEAD.of n)) r i n
  | r => s.store r i n

def State.wrLeds (s : State) (r : Reg) (i : Nat) (n c m : Word) : State × Nat :=
  match r with
  | .LEDS_GLB_CFG => if s.ledsIdle (List.range 32) then s.store r i n else (s, abState)
  | .LEDS_GLB_CTRL => if F.LEDS_GLB_CTRL_REENABLE.on c then refusedAs abState (s.reenableUnit .leds) else (s, 0)
  | .LEDS_CH_CFG =>
    if !inRange 20 200 (F.LEDS_CH_CFG_VSHORT.of n) then (s.ledRefuse i, abRange)
    else if s.ledsIdle [i] then andThen ((s.ledTick.ledAccept i).store r i n) fun s => s.ledRefresh i else (s.ledRefuse i, abState)
  | .LEDS_CH_OUT => refusedAs abState (s.ledOutWrite i (F.LEDS_CH_OUT_DUTY.of n) (F.LEDS_CH_OUT_CODE.of n) (F.LEDS_CH_OUT_DUTY.of m == 0))
  | .LEDS_CH_FADE =>
    let s := s.wr r i n
    if F.LEDS_CH_FADE_GO.on c then refusedAs abState (s.fadeStart i (F.LEDS_CH_FADE_TARGET.of n) (F.LEDS_CH_FADE_TIME.of n)) else (s.ledAccept i, 0)
  | .LEDS_CH_CMD => if F.LEDS_CH_CMD_CLR.on c then refusedAs abState (s.ledRelease i) else (s.ledAccept i, 0)
  | .LEDS_CH_EVT => (s.ledAccept i).store r i n
  | r => s.store r i n

def State.wrDio (s : State) (r : Reg) (i : Nat) (n c : Word) : State × Nat :=
  match r with
  | .DIO_GRP_CFG =>
    let moved := s.fld F.DIO_GRP_CFG_DEBOUNCE i ≠ F.DIO_GRP_CFG_DEBOUNCE.of n ∨ s.fld F.DIO_GRP_CFG_TYPE i ≠ F.DIO_GRP_CFG_TYPE.of n
    andThen (s.storeIf (inRange 0 500 (F.DIO_GRP_CFG_DEBOUNCE.of n)) r i n) fun s =>
      if moved then s.setDio { s.dio with grpAt := assoc i s.now s.dio.grpAt } else s
  | .DIO_CNT_CFG =>
    let was := s.fld F.DIO_CNT_CFG_MODE i
    andThen (s.storeIf (F.DIO_CNT_CFG_EDGE.of n != 3 && inRange 1 100 (F.DIO_CNT_CFG_GATE.of n)) r i n) fun s =>
      let s := s.setCntc i { gateAt := s.now }
      if F.DIO_CNT_CFG_MODE.of n ≠ was then s.setFlag F.DIO_CNT_FREQ_VALID i false else s
  | .DIO_CNT_CMD => (if F.DIO_CNT_CMD_CLR.on c then s.counterClear i else s, 0)
  | .DIO_PPS_CFG => andThen (s.store r i n) fun s => s.chooseSource
  | .DIO_DO_OUT => refusedAs abState (s.doWrite (F.DIO_DO_OUT_ON.of n))
  | .DIO_DO_CFG =>
    andThen (s.store r i n) fun s =>
      (s.each (List.range 16) fun s m =>
        if !s.bit F.DIO_DO_CFG_OL_EN 0 m ∧ s.bit F.DIO_DO_DIAG_OPEN 0 m then s.doOpenClear m else s).dioRefresh
  | .DIO_DO_CLR =>
    ((List.range 16).foldl (fun x m =>
      if bitOf (F.DIO_DO_CLR_CLR.of c) m then let y := x.1.doClear m; (y.1, if y.2 then abState else x.2) else x) (s, 0))
  | .DIO_AUX_CTRL => refusedAs abState (s.ssupWrite (F.DIO_AUX_CTRL_SSUP_EN.of n != 0))
  | r => s.store r i n

/-- The kind of an output index: 0 switch, 1 valve, 2 LED, 3 DO. -/
def outKind (i : Nat) : Nat := if i < 64 then 0 else if i < 88 then 1 else if i < 120 then 2 else 3

/-- Safe states that R361 accepts for a kind. -/
def safeStateOk (kind st duty : Nat) : Bool :=
  match st with
  | 0 => true
  | 1 => kind == 0 || kind == 3
  | 2 => kind == 0 || kind == 3
  | _ => kind == 0 && inRange 1 4095 duty

/-- Actions that R379 accepts for a kind. -/
def rfxActionOk (kind act val : Nat) : Bool :=
  match act with
  | 0 => true
  | 1 => kind != 1
  | 2 => (kind == 0 && inRange 1 4095 val) || (kind == 2 && inRange 1 16383 val)
  | _ => false

/-- The output is tied to a gate (R560). -/
def State.tied (s : State) (i : Nat) : Bool := s.fld F.ACC_GOUT_GATE i != 0

def State.wrBoll (s : State) (r : Reg) (i : Nat) (n c : Word) : State × Nat :=
  let cfg := fun (b : Bool) => if !s.cfgOpen then (s, abState) else s.storeIf b r i n
  match r with
  | .BOLL_CTRL => cfg (inRange 5 500 (F.BOLL_CTRL_HOLD.of n))
  | .BOLL_CMD =>
    let x := if F.BOLL_CMD_REENABLE.on c then s.reenableUnit .boll else (s, false)
    let y := if F.BOLL_CMD_RECLAIM.on c then x.1.reclaim else (x.1, false)
    (y.1, if x.2 || y.2 then abState else 0)
  | .BOLL_SIL =>
    let t := F.BOLL_SIL_TIMEOUT.of n
    let was := s.fld F.BOLL_SIL_TIMEOUT i
    andThen (cfg (t == 0 || inRange 10 1000 t)) fun s => s.silConfigured i was
  | .BOLL_RFX_CLRLO => (s.each (List.range 32) fun s k => if bitOf c.toNat k then s.rfxClear k else s, 0)
  | .BOLL_RFX_CLRHI => (s.each (List.range 32) fun s k => if bitOf c.toNat k then s.rfxClear (32 + k) else s, 0)
  | .BOLL_SAFE =>
    let st := F.BOLL_SAFE_STATE.of n
    andThen (cfg (safeStateOk (outKind i) st (F.BOLL_SAFE_DUTY.of n) && inRange 0 4 (F.BOLL_SAFE_SIL.of n) &&
      !(s.tied i && st != 0))) fun s => s.outRefresh i
  | .BOLL_RFX_COND => cfg (sourceOk (F.BOLL_RFX_COND_SRCA.of n) && sourceOk (F.BOLL_RFX_COND_SRCB.of n))
  | .BOLL_RFX_ACT =>
    let t := F.BOLL_RFX_ACT_TARGET.of n
    cfg (inRange 0 135 t && F.BOLL_RFX_ACT_WHEN.of n != 3 &&
      rfxActionOk (outKind t) (F.BOLL_RFX_ACT_ACTION.of n) (F.BOLL_RFX_ACT_VALUE.of n))
  | .BOLL_RFX_DLY => cfg true
  | r => s.store r i n

end Sys2Proof.Machine
end

