-- ==== Sys2Proof/Machine/RegC.lean ====
section
/-! DEFINITION. Writes to the registers of CAN, ETH, TIDE and GWY: ranges, refusals and effects (see `RegA`). -/

namespace Sys2Proof.Machine

/-! ## CAN -/

/-- A write is refused: CAN_EVT.REFUSED sets (R387). -/
def State.canNo (s : State) (p ab : Nat) : State × Nat := (s.canRefuse p, ab)

/-- A write that needs EN 0 (R387, R391, R405). -/
def State.canOff (s : State) (p : Nat) (ok : Bool) (r : Reg) (n : Word) : State × Nat :=
  if s.flag F.CAN_CTRL_EN p then s.canNo p abState else if ok then s.store r p n else s.canNo p abRange
/-- A write that may come at any time. -/
def State.canAny (s : State) (p : Nat) (ok : Bool) (r : Reg) (n : Word) : State × Nat :=
  if ok then s.store r p n else s.canNo p abRange

/-- CANC clocks per bit of a nominal and of a data setting. -/
def nbtClocks (w : Word) : Nat := (F.CAN_NBT_BRP.of w + 1) * (3 + F.CAN_NBT_TSEG1.of w + F.CAN_NBT_TSEG2.of w)
def dbtClocks (w : Word) : Nat := (F.CAN_DBT_BRP.of w + 1) * (3 + F.CAN_DBT_TSEG1.of w + F.CAN_DBT_TSEG2.of w)

/-- Limits of R387 for `CAN_NBT`, and for `CAN_DBT` under a nominal setting. -/
def nbtOk (w : Word) : Bool :=
  let tq := 3 + F.CAN_NBT_TSEG1.of w + F.CAN_NBT_TSEG2.of w
  decide (1 ≤ F.CAN_NBT_TSEG1.of w) && decide (F.CAN_NBT_SJW.of w ≤ F.CAN_NBT_TSEG2.of w) && inRange 8 385 tq && inRange 80 1600 (nbtClocks w)
def dbtOk (w nom : Word) : Bool :=
  let tq := 3 + F.CAN_DBT_TSEG1.of w + F.CAN_DBT_TSEG2.of w
  decide (F.CAN_DBT_SJW.of w ≤ F.CAN_DBT_TSEG2.of w) && inRange 5 49 tq && decide (10 ≤ dbtClocks w) && decide (dbtClocks w ≤ nbtClocks nom)

/-- EN and OPMODE cut out of a `CAN_CTRL` word. -/
def ctrlRest (w : Word) : Word := F.CAN_CTRL_OPMODE.into (F.CAN_CTRL_EN.into w 0) 0

/-- `CAN_CTRL` (R390, R391): EN starts and stops the controller; a change of EN or OPMODE is seen by the harbour master (R486). -/
def State.wrCanCtrl (s : State) (p : Nat) (n : Word) : State × Nat :=
  let old := s.rd .CAN_CTRL p
  let was := F.CAN_CTRL_EN.of old != 0
  if F.CAN_CTRL_OPMODE.of n = 3 then s.canNo p abRange
  else if was && ctrlRest n != ctrlRest old then s.canNo p abState
  else
    let on := F.CAN_CTRL_EN.of n != 0
    let s := if was && !on then s.canDisable p else s
    let s := s.wr .CAN_CTRL p n
    let s := if !was && on then s.canStart p else s
    (if n = old then s else s.nmConfigured, 0)

def State.wrCan (s : State) (r : Reg) (i : Nat) (n c : Word) : State × Nat :=
  match r with
  | .CAN_CTRL => s.wrCanCtrl i n
  | .CAN_NBT => s.canOff i (nbtOk n && decide (dbtClocks (s.rd .CAN_DBT i) ≤ nbtClocks n)) r n
  | .CAN_DBT => s.canOff i (dbtOk n (s.rd .CAN_NBT i)) r n
  | .CAN_ERRCFG => s.canAny i (inRange 2 32 (F.CAN_ERRCFG_COLL_THR.of n)) r n
  | .CAN_TXB_CMD => (s.txCmd i (F.CAN_TXB_CMD_REQ.of c) (F.CAN_TXB_CMD_ABORT.of c) (s.canc i).onBus.isSome, 0)
  | .CAN_FLT_STD => s.canOff i (inRange 0 4096 (F.CAN_FLT_STD_LEN.of n)) r n
  | .CAN_FLT_EXT => s.canOff i (inRange 0 4096 (F.CAN_FLT_EXT_LEN.of n)) r n
  | .CAN_RXF_CFG =>
    s.canOff i (inRange 1 256 (F.CAN_RXF_CFG_DEPTH.of n) && inRange 1 (F.CAN_RXF_CFG_DEPTH.of n) (F.CAN_RXF_CFG_WM.of n)) r n
  | .CAN_RXF_ACK => ((s.wr r i n).fifoAck i (F.CAN_RXF_ACK_COUNT.of n), 0)
  | .CAN_DET_CFG => s.canAny i (inRange 5 255 (F.CAN_DET_CFG_WIN.of n)) r n
  | .CAN_TT_CFG =>
    let was := s.fld F.CAN_TT_CFG_ROLE i
    andThen (s.canAny i (F.CAN_TT_CFG_ROLE.of n != 3 && decide (10 ≤ F.CAN_TT_CFG_CYCLE.of n)) r n) fun s =>
      if F.CAN_TT_CFG_ROLE.of n = was then s else s.ttRole i
  | .CAN_TT_REF => s.canAny i (F.CAN_TT_REF_ID.of n % 8 == 0) r n
  | .CAN_CMD =>
    let s := if F.CAN_CMD_RECOVER.on c then s.boRecover i else s
    let s := if F.CAN_CMD_DET_START.on c then s.detStart i else s
    if F.CAN_CMD_REENABLE.on c then refusedAs abState (s.reenableUnit .can) else (s, 0)
  | r => s.store r i n

/-! ## ETH -/

/-- `ETH_PCTRL` (R420): EN 0 takes the link down, any other change starts link setup over. -/
def State.wrEthCtrl (s : State) (p : Nat) (n : Word) : State × Nat :=
  if F.ETH_PCTRL_AN_ADV.of n = 0 ∨ !inRange 10 255 (F.ETH_PCTRL_AN_TIMEOUT.of n) then (s, abRange)
  else
    let old := s.rd .ETH_PCTRL p
    let s := s.wr .ETH_PCTRL p n
    let s := if F.ETH_PCTRL_AN_ROLE.of n = F.ETH_PCTRL_AN_ROLE.of old then s else s.clearFault .ETH_ROLE_CONFLICT p
    if n = old then (s, 0)
    else if F.ETH_PCTRL_EN.of n = 0 then (s.linkDrop p |>.nmConfigured, 0)
    else ((if s.ethLink p then s.linkDrop p else s.linkSetup p).nmConfigured, 0)

def State.wrEth (s : State) (r : Reg) (i : Nat) (n c : Word) : State × Nat :=
  match r with
  | .ETH_PCTRL => s.wrEthCtrl i n
  | .ETH_PVLAN => s.storeIf (inRange 1 4094 (F.ETH_PVLAN_PVID.of n) && F.ETH_PVLAN_ACCEPT.of n != 3) r i n
  | .ETH_PCMD => (if F.ETH_PCMD_RENEG.on c then s.reneg i else s, 0)
  | .ETH_SW_CTRL => s.storeIf (inRange 0 1000000 (F.ETH_SW_CTRL_AGE.of n)) r i n
  | .ETH_MAC_CMD =>
    let s := s.wr r i n
    (if F.ETH_MAC_CMD_GO.on c then s.macCmd (F.ETH_MAC_CMD_OP.of n) else s, 0)
  | .ETH_SW_CMD => if F.ETH_SW_CMD_REENABLE.on c then refusedAs abState (s.reenableUnit .eth) else (s, 0)
  | .ETH_VLAN => if i = 0 ∨ i = 4095 then (s, 0) else s.store r i n
  | r => s.store r i n

/-! ## TIDE -/

/-- The sources or their ranking may have changed (R442, R454). -/
def State.tideConfigured (s : State) : State := s.bmca

def State.wrTide (s : State) (r : Reg) (i : Nat) (n c : Word) : State × Nat :=
  let pair := fun (lo : Reg) => (s.rd lo i).toNat + 2 ^ 32 * n.toNat
  match r with
  | .TIDE_CTRL =>
    let was := s.flag F.TIDE_CTRL_SELF_VALID
    andThen (s.store r i n) fun s =>
      (if !was && F.TIDE_CTRL_SELF_VALID.of n != 0 then s.setTide { s.tide with selfAt := s.now } else s).tideConfigured
  | .TIDE_SRC =>
    andThen (s.storeIf (inRange 0 10 (F.TIDE_SRC_SRC0.of n) && inRange 0 10 (F.TIDE_SRC_SRC1.of n) &&
      inRange 0 10 (F.TIDE_SRC_SRC2.of n) && inRange 0 10 (F.TIDE_SRC_SRC3.of n)) r i n) State.tideConfigured
  | .TIDE_SERVO => s.storeIf (F.TIDE_SERVO_STEP_THR.of n != 0 && inRange 1 1953 (F.TIDE_SERVO_RATE_MAX.of n)) r i n
  | .TIDE_HOLD => s.storeIf (F.TIDE_HOLD_HOLD_LIMIT.of n != 0) r i n
  | .TIDE_RATE => refusedAs abState (s.manualRate n.toNat)
  | .TIDE_STEP_HI => refusedAs abState ((s.wr r i n).manualStep (pair .TIDE_STEP_LO))
  | .TIDE_SET_HI => refusedAs abState ((s.wr r i n).manualSet (pair .TIDE_SET_LO))
  | .TIDE_PTP_CFG => andThen (s.storeIf (inRange 0 5 (F.TIDE_PTP_CFG_SYNC_EXP.of n)) r i n) State.tideConfigured
  | .TIDE_CMP_CTRL =>
    let was := s.flag F.TIDE_CMP_CTRL_EN i
    (s.wr r i (if !was && F.TIDE_CMP_CTRL_EN.of n != 0 then F.TIDE_CMP_CTRL_MISS.into n 0 else n), 0)
  | .TIDE_CMP_PER => s.storeIf (!inRange 1 999 n.toNat) r i n
  | r => let _ := c; s.store r i n

/-! ## GWY -/

/-- The memory of ring `r` with this depth and base, and whether it overlaps an enabled ring (R463, R465). -/
def State.ringClash (s : State) (r base depth : Nat) : Bool :=
  let e := base + 96 * depth
  (List.range 32).any fun k => k != r && s.ringOn k &&
    decide (base < s.fld F.GWY_RING_BASE_BASE k + 96 * s.ringDepth k) && decide (s.fld F.GWY_RING_BASE_BASE k < e)

/-- `GWY_RING_CFG` (R465). -/
def State.wrRing (s : State) (r : Nat) (n : Word) : State × Nat :=
  let old := s.rd .GWY_RING_CFG r
  let was := F.GWY_RING_CFG_EN.of old != 0
  let on := F.GWY_RING_CFG_EN.of n != 0
  let base := s.fld F.GWY_RING_BASE_BASE r
  let depth := F.GWY_RING_CFG_DEPTH.of n
  if F.GWY_RING_CFG_POLICY.of n = 3 ∨ 12 ≤ F.GWY_RING_CFG_PORT.of n ∨ !inRange 16 4096 depth then (s, abRange)
  else if (was && F.GWY_RING_CFG_EN.into n 1 != old) || s.gwy.closing.contains r then (s, abState)
  else if on && (decide (base < 0x20400000) || decide (0x20600000 < base + 96 * depth) || base % 32 != 0 || s.ringClash r base depth) then
    (s, abRange)
  else
    let s := s.wr .GWY_RING_CFG r n
    (if was && !on then s.ringDisable r else s, 0)

/-- A ring setting other than EN, which changes only while EN is 0. -/
def State.ringCfg (s : State) (r : Nat) (ok : Bool) (reg : Reg) (n : Word) : State × Nat :=
  if s.ringOn r then (if n = s.rd reg r then (s, 0) else (s, abState)) else s.storeIf ok reg r n

/-- The same for the ACF words of egress ring 16 + `k`. -/
def State.acfCfg (s : State) (k : Nat) (ok : Bool) (reg : Reg) (n : Word) : State × Nat :=
  if s.ringOn (16 + k) then (if n = s.rd reg k then (s, 0) else (s, abState)) else s.storeIf ok reg k n

/-- Whether a route entry's words are accepted (GWY registers). -/
def rteOk (w1 w2 : Word) : Bool :=
  let src := F.GWY_RTE2_SRC.of w2
  F.GWY_RTE1_POLICY.of w1 != 3 && (decide (src ≤ 7) || inRange 32 63 src)

/-- A word of a route entry, whose old words stay for the frames under way (R467). -/
def State.wrRoute (s : State) (r : Reg) (i : Nat) (n : Word) (ok : Bool) : State × Nat :=
  (if ok && n != s.rd r i then s.routeKeep i else s).storeIf ok r i n

def State.wrGwy (s : State) (r : Reg) (i : Nat) (n c : Word) : State × Nat :=
  match r with
  | .GWY_CTRL => s.storeIf (inRange 1 100 (F.GWY_CTRL_BP_MAX.of n) && inRange 1 3600 (F.GWY_CTRL_QUAR_TIME.of n)) r i n
  | .GWY_CMD =>
    let s := if F.GWY_CMD_QUAR_CLR.on c then s.quarClear else s
    if F.GWY_CMD_REENABLE.on c then refusedAs abState (s.reenableUnit .gwy) else (s, 0)
  | .GWY_SEG_CFG => s.storeIf (inRange 0 64 (F.GWY_SEG_CFG_HOLD_DEPTH.of n) && inRange 1 255 (F.GWY_SEG_CFG_HOLD_AGE.of n)) r i n
  | .GWY_RING_CFG => s.wrRing i n
  | .GWY_RING_BASE => s.ringCfg i true r n
  | .GWY_RING_WM =>
    s.ringCfg i (inRange 1 (s.ringDepth i) (F.GWY_RING_WM_HI.of n) && decide (F.GWY_RING_WM_LO.of n < F.GWY_RING_WM_HI.of n)) r n
  | .GWY_RING_GET => refusedAs abRange (s.ringGet i (F.GWY_RING_GET_GET.of n))
  | .GWY_ACF_SIDLO => s.acfCfg i true r n
  | .GWY_ACF_SIDHI => s.acfCfg i true r n
  | .GWY_ACF_DMACLO => s.acfCfg i true r n
  | .GWY_ACF_DMACHI => s.acfCfg i (inRange 0 4094 (F.GWY_ACF_DMACHI_VID.of n)) r n
  | .GWY_ACF_TXCFG =>
    s.acfCfg i (inRange 64 1500 (F.GWY_ACF_TXCFG_MAX_BYTES.of n) && inRange 0 1000 (F.GWY_ACF_TXCFG_FLUSH.of n) &&
      inRange 0 24 (F.GWY_ACF_TXCFG_BUS_OFS.of n)) r n
  | .GWY_BKT_CFG =>
    andThen (s.storeIf (inRange 1 255 (F.GWY_BKT_CFG_BURST.of n)) r i n) fun s => s.setGwy { s.gwy with bkt := Tbl.del s.gwy.bkt (i + 1) }
  | .GWY_RTE0 => s.wrRoute r i n true
  | .GWY_RTE1 => s.wrRoute r i n (rteOk n 0)
  | .GWY_RTE2 => s.wrRoute r i n (rteOk 0 n)
  | .GWY_RTE3 => s.wrRoute r i n true
  | r => s.store r i n

end Sys2Proof.Machine
end

