-- ==== Sys2Proof/Machine/RegD.lean ====
section
/-! DEFINITION. Writes to the registers of NM, ACC, UPD, CUST and JNL (see `RegA`), and a write of any register. -/

namespace Sys2Proof.Machine

/-! ## NM -/

/-- The node and its range fit (NM_SEG_CFG, NM_SEG_KAID). -/
def kaOk (cfg kaid : Word) : Bool :=
  let n := F.NM_SEG_CFG_NODES.of cfg
  inRange 1 64 n && decide (F.NM_SEG_CFG_NODE.of cfg < n) &&
    decide (F.NM_SEG_KAID_BASE.of kaid + n - 1 < (if F.NM_SEG_CFG_XTD.of cfg = 0 then 2048 else 2 ^ 29))

def State.wrNm (s : State) (r : Reg) (i : Nat) (n c : Word) : State × Nat :=
  match r with
  | .NM_CTRL => andThen (s.store r i n) State.nmConfigured
  | .NM_MODNEED => (s.setModNeed (F.NM_MODNEED_NEED.of n != 0), 0)
  | .NM_WAKE_CFG => s.storeIf (F.NM_WAKE_CFG_WO_MODE.of n != 3 && inRange 1 255 (F.NM_WAKE_CFG_WO_PULSE.of n)) r i n
  | .NM_WAKE_TIMER => s.storeIf (inRange 1 604800 (F.NM_WAKE_TIMER_SECONDS.of n)) r i n
  | .NM_SEG_CFG => andThen (s.storeIf (kaOk n (s.rd .NM_SEG_KAID i)) r i n) State.nmConfigured
  | .NM_SEG_KAID => s.storeIf (kaOk (s.rd .NM_SEG_CFG i) n) r i n
  | .NM_SEG_TIME =>
    let ka := F.NM_SEG_TIME_T_KA.of n
    let si := F.NM_SEG_TIME_T_SILENCE.of n
    s.storeIf (inRange 1 200 ka && inRange 0 200 (F.NM_SEG_TIME_T_PREP.of n) && inRange 10 1000 si && decide (2 * ka ≤ si)) r i n
  | .NM_SEG_MAXAW => s.storeIf (inRange 1 1440 (F.NM_SEG_MAXAW_MAX_AWAKE.of n) && inRange 0 1440 (F.NM_SEG_MAXAW_OWN_MAX.of n)) r i n
  | .NM_SEG_NEED => (s.setNeed i (F.NM_SEG_NEED_SW.of n != 0), 0)
  | .NM_SEG_CMD =>
    let s := if F.NM_SEG_CMD_UNSTUCK.on c then s.unstuckAll i else s
    (if F.NM_SEG_CMD_WAKE.on c then s.wakeRequest i true else s, 0)
  | r => s.store r i n

/-! ## ACC -/

/-- Ties, gates and zones are written only in Configure within a service session, or while the stored set is applied (R561, R541). -/
def State.svcCfg (s : State) : Bool := (s.mode' == 3 && s.serviceOpen) || (s.mode' == 2 && s.mode.applying)

def State.wrAcc (s : State) (r : Reg) (i : Nat) (n c : Word) : State × Nat :=
  let cfg := fun (b : Bool) => if !s.svcCfg then (s, abState) else s.storeIf b r i n
  match r with
  | .ACC_CTRL =>
    let band := F.ACC_CTRL_BAND.of n
    if band = 3 ∨ !inRange 1 100 (F.ACC_CTRL_POLL_INT.of n) then (s, abRange)
    else if band ≠ s.fld F.ACC_CTRL_BAND ∧ s.flag F.ACC_CTRL_POLL_EN then (s, abState)
    else s.store r i n
  | .ACC_AER => s.storeIf (inRange 1 20 (F.ACC_AER_DRIVE.of n) && inRange 1 20 (F.ACC_AER_WATCH_DRIVE.of n)) r i n
  | .ACC_SEC =>
    s.storeIf (inRange 310 500 (F.ACC_SEC_RESP_MAX.of n) && inRange 2 15 (F.ACC_SEC_LOCK_FAILS.of n) &&
      inRange 10 3600 (F.ACC_SEC_LOCK_TIME.of n)) r i n
  | .ACC_CMD =>
    let s := if F.ACC_CMD_UNLOCK.on c then s.unlockAll else s
    (if F.ACC_CMD_POLL_NOW.on c then s.pollNow else s, 0)
  | .ACC_ZONE_CFG => cfg true
  | .ACC_ZONE_MIN => cfg true
  | .ACC_ZONE_EXT => cfg true
  | .ACC_ZONE_MAX => cfg true
  | .ACC_GATE_CFG => cfg true
  | .ACC_GATE_SEL => cfg (inRange 1 3600 (F.ACC_GATE_SEL_WINDOW.of n))
  | .ACC_GATE_HOLD => cfg (sourceOk (F.ACC_GATE_HOLD_HOLD_SRC.of n))
  | .ACC_GATE_MSG => cfg true
  | .ACC_MSGCFG => cfg (inRange 10 10000 (F.ACC_MSGCFG_PERIOD.of n))
  | .ACC_GOUT =>
    let g := F.ACC_GOUT_GATE.of n
    andThen (cfg ((decide (i < 64) || inRange 120 135 i) && decide (g ≤ 8) && !(g != 0 && s.fld F.BOLL_SAFE_STATE i != 0))) fun s =>
      if s.gateShut i then (s.outOff i).outRefresh i else s
  | r => s.store r i n

/-! ## UPD, CUST, JNL -/

def State.wrUpd (s : State) (r : Reg) (i : Nat) (n c : Word) : State × Nat :=
  match r with
  | .UPD_CTRL => s.storeIf (sourceOk (F.UPD_CTRL_PARK_SRC.of n) && inRange 5 255 (F.UPD_CTRL_TRIAL_TIME.of n)) r i n
  | .UPD_CMD =>
    let key := F.UPD_CMD_KEY.of n == 0xA5
    let s := s.wr r i n
    let x := if F.UPD_CMD_CLEAR.on c then (if key then s.stageClear else (s, true)) else (s, false)
    let y := if F.UPD_CMD_ACTIVATE.on c then x.1.activate key else (x.1, false)
    (y.1, if x.2 || y.2 then abState else 0)
  | r => s.store r i n

/-- The mailboxes of customs (R585); `m` is the mailbox, `code` the master that writes. -/
def State.wrMbx (s : State) (m code : Nat) (r : Reg) (i : Nat) (n c w mask : Word) : State × Nat :=
  if r = .CUST_MBX0_CMD ∨ r = .CUST_MBX1_CMD then
    if s.mbxBarred m code then (s.mbxRefuse m, abState)
    else
      let s := s.wr r i n
      (if F.CUST_MBX0_CMD_GO.on c then s.mbxGo m code (F.CUST_MBX0_CMD_OP.of n) (F.CUST_MBX0_CMD_KEY.of n) (F.CUST_MBX0_CMD_LEN.of n)
       else s, 0)
  else if r = .CUST_MBX0_STAT ∨ r = .CUST_MBX1_STAT then
    let d := w &&& mask
    let s := if F.CUST_MBX0_STAT_REFUSED.of d != 0 then s.setFlag (mbxFld m F.CUST_MBX0_STAT_REFUSED) 0 false else s
    if F.CUST_MBX0_STAT_DONE.of d = 0 then (s, 0)
    else if s.mbxBarred m code then (s.mbxRefuse m, abState)
    else (s.mbxFree m, 0)
  else if s.mbxBarred m code then (s.mbxRefuse m, abState)
  else if (s.mbx m).op.isSome then (s.mbxRefuse m, abState)
  else (s.wr r i n, 0)

def State.wrJnl (s : State) (r : Reg) (i : Nat) (n c : Word) : State × Nat :=
  match r with
  | .JNL_CTRL => s.storeIf (inRange 0 5 (F.JNL_CTRL_PERSIST_MIN.of n) && inRange 0 5 (F.JNL_CTRL_EMCY_MIN.of n)) r i n
  | .JNL_CMD =>
    let s := if F.JNL_CMD_CLR_1003.on c then s.clr1003 else s
    (if F.JNL_CMD_FLUSH.on c then s.flushCommand else s, 0)
  | .JNL_RD_SEQ => ((s.wr r i n).readWindow n.toNat, 0)
  | r => s.store r i n

/-! ## Any register -/

/-- The effect of a write by the master of `code` that sets bits to `w` under the mask `mask`; the answer is 0 or an abort code. -/
def State.put (s : State) (code : Nat) (r : Reg) (i : Nat) (w mask : Word) : State × Nat :=
  let n := s.merge r i w mask
  let c := r.fired w mask
  if regsCUST.contains r then
    if r = .CUST_LC then (s, 0)
    else s.wrMbx (if r = .CUST_MBX0_CMD ∨ r = .CUST_MBX0_STAT ∨ r = .CUST_MBX0_DATA then 0 else 1) code r i n c w mask
  else if regsSW.contains r then s.wrSw r i n c
  else if regsPROT.contains r then s.wrProt r i n c
  else if regsCAL.contains r then s.wrCal r i n c
  else if regsINJ.contains r then s.wrInj r i n c
  else if regsEVE.contains r then s.wrEve r i n c
  else if regsLEDS.contains r then s.wrLeds r i n c mask
  else if regsDIO.contains r then s.wrDio r i n c
  else if regsBOLL.contains r then s.wrBoll r i n c
  else if regsCAN.contains r then s.wrCan r i n c
  else if regsGWY.contains r then s.wrGwy r i n c
  else if regsETH.contains r then s.wrEth r i n c
  else if regsTIDE.contains r then s.wrTide r i n c
  else if regsNM.contains r then s.wrNm r i n c
  else if regsACC.contains r then s.wrAcc r i n c
  else if regsUPD.contains r then s.wrUpd r i n c
  else if regsJNL.contains r then s.wrJnl r i n c
  else s.wrSys r i n c

/-- A full 32-bit write: a mismatch of the register is cleared where the write takes effect (R66, R68). -/
def State.putWord (s : State) (code : Nat) (r : Reg) (i : Nat) (w : Word) : State × Nat :=
  let x := s.put code r i w 0xFFFFFFFF
  if x.2 = 0 then (x.1.clearMismatch (r, i), 0) else x

/-- A write of one field of a register, as firmware makes it for a dictionary entry: the other RW fields keep their values and no
other bit clears or triggers. -/
def State.putField (s : State) (f : Fld) (i v : Nat) : State × Nat :=
  s.put 0 f.reg i (BitVec.ofNat 32 (v % 2 ^ f.w * 2 ^ f.lsb)) (BitVec.ofNat 32 ((2 ^ f.w - 1) * 2 ^ f.lsb))

end Sys2Proof.Machine
end

