-- ==== Sys2Proof/Machine/Bus.lean ====
section
/-! DEFINITION. The register interface (R42 to R65, R68): what an access reaches, the rights of its master, widths and alignment, 64-bit
pairs, eyelets, the held words of filter elements and route entries, and what a violation and a bus error capture. -/

namespace Sys2Proof.Machine

/-! ## Masters (R45) -/

/-- Who makes an access: the code of its master, its rank (0 user, 1 privileged, 2 secure), and for DEBUG whether it reaches the bus at
all and whether it may write. -/
structure Who where
  code : Nat
  rank : Nat
  mute : Bool := false
  ro   : Bool := false
deriving DecidableEq, Repr

/-- The host session serves privileged accesses (R45, R70, R81). -/
def State.hostRank (s : State) : Nat := if s.bus.hrp.session && !s.isSafe .hrp then 1 else 0
/-- The client on whose behalf master 4 makes an access has an authenticated Nydulet session of its own (R45). -/
def State.nydRank (s : State) (c : Option Client) : Nat :=
  match c with
  | some (.nyd p) => if s.od.sess.any (fun x => x.client == .nyd p) then 1 else 0
  | _ => 0

/-- The rights of a master now (R45, R49). -/
def State.who (s : State) (a : Acc) : Who :=
  match a.m with
  | .cpuA => ⟨0, if a.sec then 2 else 1, false, false⟩
  | .cpuB => ⟨1, if a.sec then 2 else 1, false, false⟩
  | .customs => ⟨2, 2, false, false⟩
  | .host => ⟨3, s.hostRank, false, false⟩
  | .nydulet => ⟨4, s.nydRank a.cl, false, false⟩
  | .debug => ⟨5, 1, s.cust.dbg.level == 0, s.cust.dbg.level == 1⟩
  | .dma => ⟨6, 0, false, false⟩

def guardRank : Guard → Nat | .U => 0 | .P => 1 | .S => 2

/-- The access is permitted (R46, R47, R49). -/
def Who.may (w : Who) (cls : Nat) (write : Bool) : Bool := decide (cls ≤ w.rank) && !(write && w.ro)

/-! ## What an access reaches (R42 to R44, R62) -/

/-- What a word address names. -/
inductive Target where
  | unmapped                                -- outside every range, or unassigned peripheral space
  | rom (cls : Nat)                         -- ROM and NVM, with the class of a read
  | ram (cls : Nat)
  | canRam
  | ring                                    -- the result ring of the event engine (R318)
  | hole                                    -- an unlisted offset of a block
  | reg (r : Reg) (i : Nat)
  | eye (bit : Nat) (k : Option (Reg × Nat))  -- the eyelet of a bit; none where the parent offset is unlisted
deriving DecidableEq, Repr

def within (lo hi a : Nat) : Bool := decide (lo ≤ a) && decide (a < hi)

def targetOf (a : Nat) : Target :=
  if a < 0x00020000 then .rom 1
  else if within 0x01000000 0x01040000 a then .rom 2
  else if within 0x01040000 0x01800000 a then .rom 1
  else if within 0x02000000 0x02400000 a then .rom 1
  else if within 0x03000000 0x03080000 a then .rom 1
  else if within 0x20000000 0x20400000 a then .ram 1
  else if within 0x20400000 0x20600000 a then .ram 0
  else if within 0x50000000 0x50040000 a then .canRam
  else if within 0x40098000 0x4009A000 a then .ring
  else if within 0x40000000 0x40200000 a then
    match findReg a with
    | some k => .reg k.1 k.2
    | none => if (blockAt a).isSome then .hole else .unmapped
  else if within 0x44000000 0x48000000 a then
    let p := 0x40000000 + (a - 0x44000000) % 0x200000
    if (blockAt p).isSome then .eye ((a - 0x44000000) / 0x200000) (findReg p) else .unmapped
  else .unmapped

/-- The class that an access to a target must meet; a write to ROM or NVM is refused to every master as class 3 (R43). -/
def Target.cls (t : Target) (write : Bool) : Nat :=
  match t with
  | .rom c => if write then 3 else c
  | .ram c => c
  | .canRam => 1
  | .ring => 1
  | .reg r _ => guardRank r.card.guard
  | .eye _ (some k) => guardRank k.1.card.guard
  | _ => 0

/-- Customs' public mailbox answers DEBUG only at level FULL. -/
def Target.fullOnly : Target → Bool
  | .reg .CUST_MBX0_CMD _ => true
  | .reg .CUST_MBX0_STAT _ => true
  | .reg .CUST_MBX0_DATA _ => true
  | .eye _ (some (.CUST_MBX0_CMD, _)) => true
  | .eye _ (some (.CUST_MBX0_STAT, _)) => true
  | .eye _ (some (.CUST_MBX0_DATA, _)) => true
  | _ => false

/-- The register's clock domain is marked lost (R60). -/
def State.domLost (s : State) (d : Domain) : Bool :=
  match d with
  | .PER => !s.bit F.CLK_STAT_LOCK 0 2
  | .FAB => !s.bit F.CLK_STAT_LOCK 0 1
  | .CANC => !s.bit F.CLK_STAT_LOCK 0 3
  | .TIDE => !s.bit F.CLK_STAT_LOCK 0 4
  | .PWR => !s.bit F.CLK_STAT_LOCK 0 5
  | .AON => !s.bit F.CLK_STAT_LOCK 0 6
  | .ETHC => false

/-- A register of an Ethernet port whose clock is not locked: it reads 0 and ignores writes (R60). -/
def State.ethDark (s : State) (k : Reg × Nat) : Bool := k.1.card.dom == .ETHC && !s.bit F.CLK_STAT_ETH_LOCK 0 (k.2 % 4)

/-! ## Violations and bus errors (R47, R48, R61) -/

def State.setBus (s : State) (b : BusSt) : State := { s with bus := b }
def State.answer (s : State) (a : BusAnswer) : State × BusAnswer := (s.setBus { s.bus with answer := a }, a)

/-- A guard violation at address `a`. -/
def State.violation (s : State) (w : Who) (a : Nat) (write : Bool) (cls : Nat) : State × BusAnswer :=
  let s := (s.bump F.GUARD_VIOL_COUNT).setFlag F.GUARD_VIOL_VIOL
  let info := BitVec.ofNat 32 (w.code + (if write then 8 else 0) + cls * 16)
  let s := (s.wr .GUARD_VLAST 0 (BitVec.ofNat 32 a)).wr .GUARD_VINFO 0 info
  (s.raise .GUARD_VIOL w.code [a, info.toNat] (ms 10)).answer .viol

/-- A bus error at address `a`; `applied` where the write stands (R59). -/
def State.busError (s : State) (w : Who) (a : Nat) (write : Bool) (cause : Nat) (applied : Bool := false) : State × BusAnswer :=
  let s := s.wr .GUARD_BERR_ADDR 0 (BitVec.ofNat 32 a)
  let s := (s.setFld F.GUARD_BERR_INFO_MASTER 0 w.code).setFlag F.GUARD_BERR_INFO_WRITE 0 write
  let s := ((s.setFld F.GUARD_BERR_INFO_CAUSE 0 cause).setFlag F.GUARD_BERR_INFO_APPLIED 0 applied).bump F.GUARD_BERR_INFO_COUNT
  let s := s.raise .BUS_ERR w.code [a, (s.rd .GUARD_BERR_INFO).toNat] (ms 10)
  (if w.code = 6 then s.setBus { s.bus with dmaErr := true } else s).answer (.err cause)

/-! ## Shadows (R55, R402, R467) -/

def State.shadow (s : State) (c : Nat) : Shadow := (lookup c s.bus.shadow).getD {}
def State.setShadow (s : State) (c : Nat) (x : Shadow) : State :=
  s.setBus { s.bus with shadow := Tbl.set natLt (fun _ => {}) s.bus.shadow c x }

/-- The high register of the 64-bit atomic pair whose low register this is. -/
def atomicHigh : Reg → Option Reg
  | .EVE_CMD_TLO => some .EVE_CMD_THI
  | .EVE_ST_RECLO => some .EVE_ST_RECHI
  | .DIO_PPS_TLO => some .DIO_PPS_THI
  | .CAN_TXTS_LO => some .CAN_TXTS_HI
  | .GWY_ACF_SIDLO => some .GWY_ACF_SIDHI
  | .GWY_ACF_RXLO => some .GWY_ACF_RXHI
  | .TIDE_FREE_LO => some .TIDE_FREE_HI
  | .TIDE_SNAP_LO => some .TIDE_SNAP_HI
  | .TIDE_STEP_LO => some .TIDE_STEP_HI
  | .TIDE_SET_LO => some .TIDE_SET_HI
  | .TIDE_GM_LO => some .TIDE_GM_HI
  | .TIDE_CMP_TLO => some .TIDE_CMP_THI
  | _ => none

/-- The low register of the pair whose high register this is. -/
def atomicLow : Reg → Option Reg
  | .EVE_CMD_THI => some .EVE_CMD_TLO
  | .EVE_ST_RECHI => some .EVE_ST_RECLO
  | .DIO_PPS_THI => some .DIO_PPS_TLO
  | .CAN_TXTS_HI => some .CAN_TXTS_LO
  | .GWY_ACF_SIDHI => some .GWY_ACF_SIDLO
  | .GWY_ACF_RXHI => some .GWY_ACF_RXLO
  | .TIDE_FREE_HI => some .TIDE_FREE_LO
  | .TIDE_SNAP_HI => some .TIDE_SNAP_LO
  | .TIDE_STEP_HI => some .TIDE_STEP_LO
  | .TIDE_SET_HI => some .TIDE_SET_LO
  | .TIDE_GM_HI => some .TIDE_GM_LO
  | .TIDE_CMP_THI => some .TIDE_CMP_TLO
  | _ => none

/-- A low word that the master holds is discarded by an access to an address outside its pair (R55). -/
def State.dropHeld (s : State) (c a : Nat) : State :=
  let sh := s.shadow c
  match sh.wr with
  | some ((r, i), _) => if a / 4 * 4 = r.addr i ∨ a / 4 * 4 = r.addr i + 4 then s else s.setShadow c { sh with wr := none }
  | none => s

/-- A write of a word of an element that commits as one: `base` its address, word `k`; words are held until word `first` commits them. -/
def State.holdWord (s : State) (c base k v : Nat) : State :=
  let sh := s.shadow c
  let own := sh.flt.filter fun e => e.1.1 = base ∧ e.1.2 ≠ k
  s.setShadow c { sh with flt := ((base, k), v) :: own }

/-- The held words of an element, taken out of the shadow; those of another element are discarded. -/
def State.takeHeld (s : State) (c base : Nat) : List (Nat × Nat) × State :=
  let sh := s.shadow c
  ((sh.flt.filter fun e => e.1.1 = base).map fun e => (e.1.2, e.2), s.setShadow c { sh with flt := [] })

/-! ## Registers -/

/-- The live value of a register for a master; a Cfg register in mismatch is found (R66, R68). -/
def State.readReg (s : State) (k : Reg × Nat) : State × Nat :=
  let s := if k.1.card.cfg then s.findMismatch k else s
  (s, (s.view k.1 k.2).toNat)

/-- A 32-bit read, through the master's shadow for a half of an atomic pair (R55). -/
def State.readHalf (s : State) (c : Nat) (k : Reg × Nat) : State × Nat :=
  let x := s.readReg k
  let s := x.1
  match atomicHigh k.1 with
  | some h => (s.setShadow c { s.shadow c with rd := some ((h, k.2), (s.view h k.2).toNat) }, x.2)
  | none =>
    match (s.shadow c).rd with
    | some (k', v) => if k' = k then (s.setShadow c { s.shadow c with rd := none }, v) else x
    | none => x

/-- A route entry is written: words 1 to 3 are held, word 0 commits all four unless one breaks its limits (R467, R485). -/
def State.writeRoute (s : State) (c : Nat) (k : Reg × Nat) (w : Word) : State :=
  let base := Reg.addr .GWY_RTE0 k.2
  match k.1 with
  | .GWY_RTE1 => s.holdWord c base 1 w.toNat
  | .GWY_RTE2 => s.holdWord c base 2 w.toNat
  | .GWY_RTE3 => s.holdWord c base 3 w.toNat
  | _ =>
    let x := s.takeHeld c base
    let word (n : Nat) (r : Reg) : Word := match lookup n x.1 with | some v => BitVec.ofNat 32 v | none => x.2.rd r k.2
    let put (s : State) (n : Nat) (r : Reg) : State :=
      match lookup n x.1 with | some v => (s.putWord c r k.2 (BitVec.ofNat 32 v)).1 | none => s
    if rteOk (word 1 .GWY_RTE1) (word 2 .GWY_RTE2) then
      ((((put x.2 1 .GWY_RTE1) |> (put · 2 .GWY_RTE2)) |> (put · 3 .GWY_RTE3)).putWord c .GWY_RTE0 k.2 w).1
    else x.2

def routeReg : Reg → Bool
  | .GWY_RTE0 => true
  | .GWY_RTE1 => true
  | .GWY_RTE2 => true
  | .GWY_RTE3 => true
  | _ => false

/-- A write of the bits of `m` with the data `v` reaches a field of the register that it may change or trigger (R14, R64): one of a type
RW or WO, or a 1 in one of a type W1C or CMD. -/
def Reg.touched (r : Reg) (v m : Word) : Bool :=
  m &&& r.tyMask FTy.sets != 0 || v &&& m &&& (r.tyMask FTy.clears ||| r.tyMask FTy.fires) != 0

/-- A write that the guard, the width and the parity lock have let pass: bits of `m` take `v`; `full` for a 32-bit write. A narrow or
eyelet write of the low half of a 64-bit pair is held like a full one, merged with the stored word (DESIGN CHOICE, log 51). -/
def State.writeReg (s : State) (c : Nat) (k : Reg × Nat) (v m : Word) (full : Bool) : State :=
  let put (s : State) (k : Reg × Nat) (v m : Word) : State :=
    if full then (s.putWord c k.1 k.2 v).1 else (s.put c k.1 k.2 v m).1
  if !full && !k.1.touched v m then s
  else if routeReg k.1 then s.writeRoute c k ((s.rd k.1 k.2 &&& ~~~m) ||| (v &&& m))
  else match atomicHigh k.1 with
    | some _ => s.setShadow c { s.shadow c with wr := some (k, ((s.rd k.1 k.2 &&& ~~~m) ||| (v &&& m)).toNat) }
    | none =>
      match atomicLow k.1, (s.shadow c).wr with
      | some l, some (kl, lo) =>
        let s := s.setShadow c { s.shadow c with wr := none }
        put (if kl = (l, k.2) then (s.putWord c l k.2 (BitVec.ofNat 32 lo)).1 else s) k v m
      | _, _ => put s k v m

/-! ## Memory -/

/-- A word of ROM or NVM. spec/ gives no contents of ROM and no layout of the data NVM: its bytes there are free values (log 3). -/
def State.romWord (s : State) (a : Nat) : State × Nat :=
  if a < 0x00020000 then (s, leNat ((List.range 4).map fun k => Config.rom (a + k)))
  else if within 0x03000000 0x03080000 a then
    let x := s.draw 32
    (x.2, x.1)
  else (s, s.word a)

/-- Which part of the CAN message RAM a word address lies in: an element of the filter RAM, or an element of controller `n`. -/
inductive CanCell where
  | filter (k word : Nat)
  | rx
  | tx (n b : Nat)
  | reserved
deriving DecidableEq, Repr

def canCell (a : Nat) : CanCell :=
  let o := a - 0x50000000
  if o < 0x10000 then .filter (o / 16) (o / 4 % 4)
  else
    let n := (o - 0x10000) / 0x6000
    let e := (o - 0x10000) % 0x6000
    if n < 8 then (if e < 0x5000 then .rx else if e < 0x5000 + 3 * 0x50 then .tx n ((e - 0x5000) / 0x50) else .reserved)
    else .reserved

/-- The bits of a word of CAN message RAM that hold something: the reserved ones of R401 and R402 read 0 and keep 0 (R13). -/
def canMask (a : Nat) : Nat :=
  match canCell a with
  | .filter _ word => [0xFFF, 0x1FFFFFFF, 0x1FFFFFFF].getD word 0xFFFFFFFF
  | .reserved => 0
  | _ => if (a - 0x50010000) % 0x6000 % 0x50 / 4 = 1 then 0x1FFFFF else 0xFFFFFFFF

/-- A write to CAN message RAM (R13, R14, R398, R399, R402, R519). -/
def State.writeCanRam (s : State) (c a : Nat) (v : Nat) : State :=
  let w := v &&& canMask a
  match canCell a with
  | .filter k word =>
    let base := filterAddr k
    if word = 3 then s.setShadow c { s.shadow c with flt := (s.shadow c).flt.filter fun e => e.1.1 = base }
    else if word = 0 then
      let x := s.takeHeld c base
      (x.1.foldl (fun s e => s.setWord (base + 4 * e.1) e.2) x.2).setWord base w
    else s.holdWord c base word w
  | .rx => s.setWord a w
  | .tx n b =>
    if b = 2 && s.flag F.CAN_CTRL_TXB2_SRC n then s.setFlag F.CAN_EVT_TXB2_WR n
    else if s.txPend n b || (b = 1 && s.arbiterPort n) then s.canRefuse n
    else s.setWord a w
  | .reserved => s

def State.readCanRam (s : State) (a : Nat) : Nat := match canCell a with | .reserved => 0 | _ => s.word a

/-! ## Accesses -/

/-- Bits of the lanes that an access of `n` bytes at `a` enables (R52). -/
def laneMask (a n : Nat) : Word := BitVec.ofNat 32 ((2 ^ (8 * n) - 1) * 2 ^ (8 * (a % 4)))

/-- A register holds a CMD, W1C or W1S field (R52). -/
def Reg.acts (r : Reg) : Bool :=
  r.fields.any fun f => match f.ty with | .CMD => true | .W1C => true | .W1S => true | _ => false

/-- A read of at most 32 bits at an aligned address that the guard permits. -/
def State.readAt (s : State) (w : Who) (a : Nat) (t : Target) : State × Nat :=
  match t with
  | .rom _ => s.romWord (a / 4 * 4)
  | .ram _ => (s, s.word (a / 4 * 4))
  | .ring => (s, s.word (a / 4 * 4))
  | .canRam => (s, s.readCanRam (a / 4 * 4))
  | .reg r i => if s.ethDark (r, i) then (s, 0) else s.readHalf w.code (r, i)
  | .eye b (some k) =>
    if s.ethDark k then (s, 0)
    else
      let x := s.readReg k
      (x.1, if bitOf x.2 b then 1 else 0)
  | _ => (s, 0)

/-- A write of at most 32 bits at an aligned address that the guard permits, of the lanes `m` of the data word `v`. -/
def State.writeAt (s : State) (w : Who) (a : Nat) (t : Target) (v m : Word) (full : Bool) : State :=
  match t with
  | .ram _ => s.setWord (a / 4 * 4) ((BitVec.ofNat 32 (s.word (a / 4 * 4)) &&& ~~~m) ||| (v &&& m)).toNat
  | .canRam =>
    s.writeCanRam w.code (a / 4 * 4) ((BitVec.ofNat 32 (s.word (a / 4 * 4)) &&& ~~~m) ||| (v &&& m)).toNat
  | .reg r i => if s.ethDark (r, i) then s else s.writeReg w.code (r, i) v m full
  | .eye b (some k) =>
    if s.ethDark k then s
    else s.writeReg w.code k (if v.getLsbD 0 then BitVec.ofNat 32 (2 ^ b) else 0) (BitVec.ofNat 32 (2 ^ b)) false
  | _ => s

/-- The register that an access acts on. -/
def Target.key : Target → Option (Reg × Nat)
  | .reg r i => some (r, i)
  | .eye _ k => k
  | _ => none

/-- What stops an access of `n` bytes at `a` (R42, R44, R47, R52, R53, R60, R63, R68): a bus error cause, or 16 plus the class of a guard
violation. The order is that of the model (log 20). -/
def State.stop (s : State) (w : Who) (a n : Nat) (write : Bool) (t : Target) : Option Nat :=
  let lost := match t.key with | some k => s.domLost k.1.card.dom | none => false
  let narrow := write && decide (n < 4) && (match t with | .reg r _ => r.acts | _ => false)
  let locked := match t with
    | .reg r i => write && decide (n < 4) && s.mismatch (r, i)
    | .eye _ (some k) => write && s.mismatch k
    | _ => false
  let eye := match t with | .eye _ _ => true | _ => false
  if t = .unmapped then some 0
  else if eye && n != 4 then some 1
  else if a % n ≠ 0 then some 2
  else if !w.may (t.cls write) write || (t.cls write == 3 && write) || (t.fullOnly && w.ro) then some (16 + t.cls write)
  else if lost then some 5
  else if narrow then some 1
  else if locked then some 4
  else none

/-- An access of 8, 16 or 32 bits. -/
def State.access (s : State) (w : Who) (a n : Nat) (write : Bool) (v : Word) : State × BusAnswer :=
  let t := targetOf (a / 4 * 4)
  match s.stop w a n write t with
  | some c => if c < 16 then s.busError w a write c else s.violation w a write (c - 16)
  | none =>
    if write then (s.writeAt w a t v (laneMask a n) (n == 4)).answer (.ok 0)
    else
      let x := s.readAt w a t
      x.1.answer (.ok (BitVec.ofNat 32 x.2 &&& laneMask a n).toNat)

/-- The answer of a 64-bit access whose halves were answered `lo` and `hi` (R47, R54): a half that was refused reads 0. -/
def joinHalves (lo hi : BusAnswer) : BusAnswer :=
  match lo, hi with
  | .ok x, .ok y => .ok (x + y * 2 ^ 32)
  | .ok x, .viol => .ok x
  | .viol, .ok y => .ok (y * 2 ^ 32)
  | _, h => h

/-- A 64-bit access to an atomic pair whose low register is `k`, as one indivisible access past the shadow (R55). -/
def State.accessPair (s : State) (w : Who) (a : Nat) (k : Reg × Nat) (h : Reg) (write : Bool) (v : Nat) : State × BusAnswer :=
  match s.stop w a 4 write (.reg k.1 k.2) with
  | some c => if c < 16 then s.busError w a write c else s.violation w a write (c - 16)
  | none =>
    if write then
      (((s.writeReg w.code k (BitVec.ofNat 32 v) 0xFFFFFFFF true).writeReg w.code (h, k.2) (BitVec.ofNat 32 (v / 2 ^ 32)) 0xFFFFFFFF
        true)).answer (.ok 0)
    else
      let lo := s.readReg k
      let hi := lo.1.readReg (h, k.2)
      hi.1.answer (.ok (lo.2 + hi.2 * 2 ^ 32))

/-- A 64-bit access: one access to an atomic pair (R55), else two of 32 bits, the low word first, ended by a bus error (R54); so too in a
memory range (DESIGN CHOICE, log 98). -/
def State.access64 (s : State) (w : Who) (a : Nat) (write : Bool) (v : Nat) : State × BusAnswer :=
  let t := targetOf (a / 4 * 4)
  let pair := match t with | .reg r i => (atomicHigh r).map fun h => (r, i, h) | _ => none
  let eye := match t with | .eye _ _ => true | _ => false
  if t = .unmapped then s.busError w a write 0
  else if eye then s.busError w a write 1
  else if a % 8 ≠ 0 then s.busError w a write 2
  else
    match pair with
    | some (r, i, h) => s.accessPair w a (r, i) h write v
    | none =>
      let lo := s.access w a 4 write (BitVec.ofNat 32 v)
      match lo.2 with
      | .err _ => lo
      | _ =>
        let hi := lo.1.access w (a + 4) 4 write (BitVec.ofNat 32 (v / 2 ^ 32))
        hi.1.answer (joinHalves lo.2 hi.2)

/-- An access of any width (R49, R55): DEBUG at NONE never reaches the bus, and in Dormant and Watch no access does, since the PER domain
has no power (R142). -/
def State.busWho (s : State) (w : Who) (a : Nat) (width : Width) (write : Bool) (v : Nat) : State × BusAnswer :=
  if w.mute || !s.awake then s.answer .viol
  else
    let s := s.dropHeld w.code a
    if width = .b64 then s.access64 w a write v else s.access w a width.bytes write (BitVec.ofNat 32 v)

/-- A read by a master. -/
def State.busRead (s : State) (a : Acc) (addr : Nat) (width : Width := .b32) : State × BusAnswer := s.busWho (s.who a) addr width false 0
/-- A write by a master. -/
def State.busWrite (s : State) (a : Acc) (addr : Nat) (v : Nat) (width : Width := .b32) : State :=
  (s.busWho (s.who a) addr width true v).1
/-- A 32-bit write to a register by its name. -/
def State.busPut (s : State) (a : Acc) (r : Reg) (i v : Nat) : State := s.busWrite a (r.addr i) v

/-- An access that has stalled for 200 µs (R59): `applied` where the target has taken the write. -/
def State.stall (s : State) (a : Acc) (addr v : Nat) (write applied : Bool) : State :=
  let w := s.who a
  if w.mute then s
  else
    let s := if write && applied then (s.busWho w addr .b32 true v).1 else s
    (s.busError w addr write 3 (write && applied)).1

/-! ## The DMA channel and the HRP words -/

/-- The words of a READ frame or a window read, newest first, whether one met a bus error and whether one met a violation, the words before
the first failure, and the words before the first bus error. -/
abbrev WordsRead := List Nat × Bool × Bool × Nat × Nat

/-- `k` more words are read with the value `v` (one word, or both of a pair); a word that fails reads 0. -/
def wordsMore (acc : WordsRead) (k : Nat) (x : BusAnswer) : WordsRead :=
  let (l, e, g, d, b) := acc
  let put (v : Nat) : List Nat := if k = 2 then v / 2 ^ 32 :: v % 2 ^ 32 :: l else v :: l
  match x with
  | .ok v => (put v, e, g, if e || g then d else d + k, if e then b else b + k)
  | .viol => (put 0, e, true, d, if e then b else b + k)
  | .err _ => (put 0, true, g, d, b)

/-- The low register of a 64-bit atomic pair lies at a word address. -/
def pairAt (a : Nat) : Option (Reg × Nat × Reg) :=
  match targetOf a with
  | .reg r i => (atomicHigh r).map fun h => (r, i, h)
  | _ => none

/-- A READ frame from address `a` on (R78): every word is read, both words of an atomic pair as one indivisible access. -/
def State.readWords (s : State) (w : Who) (a : Nat) : Nat → WordsRead → State × WordsRead
  | 0, acc => (s, acc)
  | 1, acc =>
    let x := s.busWho w a .b32 false 0
    (x.1, wordsMore acc 1 x.2)
  | n + 2, acc =>
    match if a % 4 = 0 then pairAt a else none with
    | some (r, i, h) =>
      let x := (s.dropHeld w.code a).accessPair w a (r, i) h false 0
      x.1.readWords w (a + 8) n (wordsMore acc 2 x.2)
    | none =>
      let x := s.busWho w a .b32 false 0
      x.1.readWords w (a + 4) (n + 1) (wordsMore acc 1 x.2)

/-- The words of a WRITE frame (R77): ascending, stopped by the first bus error; a violation does not stop it. -/
def State.writeWords (s : State) (w : Who) (a : Nat) : List Nat → Bool × Bool × Nat → State × (Bool × Bool × Nat)
  | [], acc => (s, acc)
  | v :: r, (_, g, d) =>
    let x := s.busWho w a .b32 true v
    match x.2 with
    | .ok _ => x.1.writeWords w (a + 4) r (false, g, if g then d else d + 1)
    | .viol => x.1.writeWords w (a + 4) r (false, true, d)
    | .err _ => (x.1, (true, g, d))

/-! ## The host register port (R74 to R83) -/

def State.setHrp (s : State) (h : HrpSt) : State := s.setBus { s.bus with hrp := h }

/-- The port takes frames: enabled, from Boot to Recovery (R74). -/
def State.hrpOn (s : State) : Bool := s.awake && s.flag F.SYS_HRP_CTRL_EN

/-- The host session ends (R82). -/
def State.hrpEnd (s : State) : State := s.setHrp { s.bus.hrp with session := false }

/-- The idle timeout of the session, ns (R70, R82). -/
def State.hrpTimeout (s : State) : Nat := sec (if s.isSafe .hrp then 10 else s.fld F.SYS_HRP_CTRL_TIMEOUT)

/-- The session has timed out by now (R82). -/
def State.hrpStale (s : State) : Bool := s.bus.hrp.session && decide (s.bus.hrp.lastOk + s.hrpTimeout ≤ s.now)
/-- The lockout has run out by now (R83); the count of failures starts afresh (DESIGN CHOICE, log 99). -/
def State.hrpUnlock (s : State) : State :=
  match s.bus.hrp.lockUntil with
  | some t => if t ≤ s.now then ((s.setHrp { s.bus.hrp with lockUntil := none }).setFld F.SYS_HRP_STAT_FAILS 0 0).clearFault .HRP_AUTH_FAIL else s
  | none => s

/-- What a frame of the port asks for (R75), or the status bit of the error it makes (R79). -/
inductive HrpReq where
  | read (addr n : Nat)
  | write (addr : Nat) (data : List Nat)
  | status
  | openSess
  | auth (tag : List Byte)
  | closeSess
  | bad (bit : Nat)
deriving DecidableEq, Repr

/-- The first `n` words that little-endian bytes spell. -/
def leWords : Nat → List Byte → List Nat
  | 0, _ => []
  | n + 1, b => leNat (b.take 4) :: leWords n (b.drop 4)

/-- The frame that the host clocks in (R75): opcode, address, count, header CRC, and for WRITE and SESS_AUTH data with its CRC. A frame
that ends before its last byte, an unknown opcode or a count that the opcode does not take is a frame error, a wrong CRC a CRC error
(R79, R80); the header's CRC is judged first (DESIGN CHOICE, log 99). -/
def hrpParse (b : List Byte) : HrpReq :=
  let op := leNat (b.take 1)
  let addr := leNat ((b.drop 1).take 4)
  let n := leNat ((b.drop 5).take 1) + 1
  let data := (b.drop 8).take (4 * n)
  let long := op == 0x02 || op == 0x31
  if b.length < 8 then .bad 64
  else if crc16 (b.take 6) ≠ leNat ((b.drop 6).take 2) then .bad 2
  else if !([0x03, 0x02, 0x05, 0x30, 0x31, 0x32] : List Nat).contains op ∨ 64 < n ∨ (op = 0x05 ∧ n ≠ 1) ∨ (op = 0x30 ∧ n ≠ 4) ∨ (op = 0x31 ∧ n ≠ 8) then .bad 64
  else if long ∧ b.length < 10 + 4 * n then .bad 64
  else if long ∧ crc16 data ≠ leNat ((b.drop (8 + 4 * n)).take 2) then .bad 2
  else if op = 0x03 then .read addr n
  else if op = 0x02 then .write addr (leWords n data)
  else if op = 0x05 then .status
  else if op = 0x30 then .openSess
  else if op = 0x31 then .auth data
  else .closeSess

/-- The request bytes of a frame, as a host builds them (R75): the inverse of `hrpParse` on good frames. -/
def hrpFrameOf (op addr n : Nat) (data : List Byte) : List Byte :=
  let h := leBytes 1 op ++ leBytes 4 addr ++ leBytes 1 (n - 1)
  h ++ leBytes 2 (crc16 h) ++ if data.isEmpty then [] else data ++ leBytes 2 (crc16 data)

/-- The bytes with which the port answers its last frame (R75): sync, read data, CRC-16 over data, status and done, status, done. -/
def HrpSt.replyBytes (h : HrpSt) : List Byte :=
  let d := h.reply.flatMap (leBytes 4)
  let t := leBytes 1 h.status ++ leBytes 1 h.done
  leBytes 1 0xA5 ++ d ++ leBytes 2 (crc16 (d ++ t)) ++ t

/-- Bits 4 and 5 of the status byte. -/
def State.hrpBits (s : State) : Nat := (if s.bus.hrp.session then 16 else 0) + if s.bus.hrp.lockUntil.isSome then 32 else 0

/-- The reply of a frame: data, status and done bytes; `good` for a frame that has checked correctly. -/
def State.hrpReply (s : State) (good : Bool) (data : List Nat) (status done : Nat) : State :=
  s.setHrp { s.bus.hrp with
    status := status + s.hrpBits
    done := done
    reply := data
    lastOk := if good then s.now else s.bus.hrp.lastOk }

/-- A frame that the port serves: its session timeout and lockout have been looked at first. -/
def State.hrpFrame (s : State) (f : State → State) : State :=
  if !s.hrpOn then s else f ((s.when s.hrpStale State.hrpEnd).hrpUnlock)

/-- A frame error (bit 6) or a CRC error (bit 1): nothing happens but the count (R80). -/
def State.hrpBad (s : State) (bit : Nat) : State := (s.bump F.SYS_HRP_STAT_CRC_ERR).hrpReply false [] bit 0

/-- The status bits of a frame's words. -/
def wordStatus (e g : Bool) : Nat := (if e || g then 0 else 1) + (if e then 4 else 0) + if g then 8 else 0

def hostAcc : Acc := { m := .host }

/-- A READ frame of `n` words (R78). -/
def State.hrpRead (s : State) (a n : Nat) : State :=
  let x := s.readWords (s.who hostAcc) a n ([], false, false, 0, 0)
  x.1.hrpReply true x.2.1.reverse (wordStatus x.2.2.1 x.2.2.2.1) x.2.2.2.2.1

/-- A WRITE frame (R77). -/
def State.hrpWrite (s : State) (a : Nat) (l : List Nat) : State :=
  let x := s.writeWords (s.who hostAcc) a l (false, false, 0)
  x.1.hrpReply true [] (wordStatus x.2.1 x.2.2.1) x.2.2.2

/-- A STATUS frame (R76). -/
def State.hrpStatus (s : State) : State := s.hrpReply true [s.bus.hrp.status + 256 * s.bus.hrp.done] 1 1

/-- SESS_OPEN (R81). -/
def State.hrpOpen (s : State) : State :=
  let x := s.trng 16
  let s := x.2.setHrp { x.2.bus.hrp with nonce := some (x.1, s.now) }
  s.hrpReply true (leWords 4 x.1) 1 4

/-- The tag of a SESS_AUTH frame is right: a nonce at most 1 s old, the host key, and a lifecycle state that permits it (R81, R83); also
the refusals of R576 and R586 count as failures (DESIGN CHOICE, log 99). -/
def State.hrpTagOk (s : State) (tag : List Byte) : Bool :=
  match s.bus.hrp.nonce, s.key 7 with
  | some (n, t), some k => decide (s.now < t + sec 1) && s.lcHost && decide (tag = hmacSha256 k (n ++ serialBytes ++ [1])) && !s.cust.safe
  | _, _ => false

/-- SESS_AUTH (R81, R83). A good frame whose authentication fails, also one that the lifecycle state or customs' safe state refuses, is
answered with OK 0, no error bit and done 0, and counts as a failure (DESIGN CHOICE, log 99). -/
def State.hrpAuth (s : State) (tag : List Byte) : State :=
  let s := s.keyUsed 7
  let ok := s.bus.hrp.lockUntil.isNone && s.hrpTagOk tag
  let s := s.setHrp { s.bus.hrp with nonce := none }
  if ok then ((s.setHrp { s.bus.hrp with session := true }).setFld F.SYS_HRP_STAT_FAILS 0 0).hrpReply true [] 1 8
  else if s.bus.hrp.lockUntil.isSome then s.hrpReply true [] 0 0
  else
    let n := Nat.min 3 (s.fld F.SYS_HRP_STAT_FAILS + 1)
    let s := s.setFld F.SYS_HRP_STAT_FAILS 0 n
    let s := if n = 3 then (s.setHrp { s.bus.hrp with lockUntil := some (s.now + sec 60) }).raise .HRP_AUTH_FAIL else s
    s.hrpReply true [] 0 0

/-- SESS_CLOSE (R82); it is answered with OK and done 1 (DESIGN CHOICE, log 99). -/
def State.hrpClose (s : State) : State := s.hrpEnd.hrpReply true [] 1 1

/-- The port executes a frame (R76 to R83). -/
def State.hrpDo (s : State) : HrpReq → State
  | .read a n => s.hrpRead a n
  | .write a l => s.hrpWrite a l
  | .status => s.hrpStatus
  | .openSess => s.hrpOpen
  | .auth tag => s.hrpAuth tag
  | .closeSess => s.hrpClose
  | .bad bit => s.hrpBad bit

/-- The port takes a frame, where it serves any. -/
def State.hrpServe (s : State) (x : HrpReq) : State := s.hrpFrame fun s => s.hrpDo x

end Sys2Proof.Machine
end

