-- ==== Sys2Proof/Machine/Od.lean ====
section
/-! DEFINITION. The kit of the object dictionary (R506 to R510): entries, their types and access, how an entry reads and writes the fields
of a register, conversions, and the abort codes of R510. -/

namespace Sys2Proof.Machine

/-! ## Abort codes (R510) -/

def abToggle : Nat := 0x05030000
def abTimeout : Nat := 0x05040000
def abCommand : Nat := 0x05040001
def abBlkSize : Nat := 0x05040002
def abBlkSeq : Nat := 0x05040003
def abBlkCrc : Nat := 0x05040004
def abLevel : Nat := 0x06010000
def abWo : Nat := 0x06010001
def abRo : Nat := 0x06010002
def abNoObject : Nat := 0x06020000
def abNotMappable : Nat := 0x06040041
def abMapLength : Nat := 0x06040042
def abBus : Nat := 0x06060000
def abLength : Nat := 0x06070010
def abTooLong : Nat := 0x06070012
def abTooShort : Nat := 0x06070013
def abNoSub : Nat := 0x06090011
def abStored : Nat := 0x08000020
/-- The model's own: no answer yet, the reply follows later (R166, R537). -/
def abLater : Nat := 1

/-! ## Entries -/

/-- Data types: BOOLEAN, UNSIGNED and INTEGER of `k` bytes, VISIBLE_STRING, OCTET_STRING, DOMAIN. -/
inductive OdTy where
  | bool
  | u (k : Nat)
  | i (k : Nat)
  | str
  | oct
  | dom
deriving DecidableEq, Repr

/-- Bytes of a value of fixed length, 0 for the others. -/
def OdTy.size : OdTy → Nat | .bool => 1 | .u k => k | .i k => k | _ => 0

inductive OdAcc where | const | ro | wo | rw
deriving DecidableEq, Repr

def OdAcc.reads : OdAcc → Bool | .wo => false | _ => true
def OdAcc.writes : OdAcc → Bool | .wo => true | .rw => true | _ => false

/-- The condition of a write: none, Configure within a service session, or any served mode within a service session. -/
inductive OdCond where | any | conf | svc
deriving DecidableEq, Repr

/-- An entry: its attributes (R506), what a read gives and what a write does. A read answers the state, an abort code (0 for none) and
the value; a write the state and an abort code. `piece` is the part of a register that a write of the value sets, for entries that are
applied together (R507, R523): none where the value is refused. -/
structure OdEnt where
  ty    : OdTy
  acc   : OdAcc
  pdo   : Bool := false
  lvl   : Nat := 1
  cond  : OdCond := .any
  anyone : State → Bool := fun _ => false     -- the state lets a client of any level reach it (R574)
  keep  : Bool := true     -- stored by 1010:01 where R508 makes it persistent
  get   : State → Client → State × Nat × List Byte := fun s _ => (s, 0, [])
  put   : State → Client → List Byte → State × Nat := fun s _ _ => (s, 0)
  piece : Option (Nat → Option (Fld × Nat × Nat)) := none

/-- An entry is persistent (R508). -/
def OdEnt.persistent (e : OdEnt) : Bool := e.acc == .rw && !e.pdo && e.keep

/-! ## Registers as firmware reaches them -/

/-- Pair A reads a register: a Cfg register in mismatch is found (R66). -/
def State.fwRead (s : State) (r : Reg) (i : Nat) : State × Word :=
  let x := s.readReg (r, i)
  (x.1, BitVec.ofNat 32 x.2)

/-- Pair A writes a register in one 32-bit access; bits of W1C and CMD fields are those of `w`. -/
def State.fwPut (s : State) (r : Reg) (i w : Nat) : State × Nat := s.putWord 0 r i (BitVec.ofNat 32 w)

/-- A word that keeps what a register holds in its fields that a write sets, and neither clears nor triggers anything. -/
def State.baseWord (s : State) (r : Reg) (i : Nat) : Word := s.before r i &&& r.tyMask FTy.sets

/-- Pair A writes fields of one register in one access (R507). Of LEDS_CH_OUT it writes the lanes of those fields alone, so that a new CODE
leaves a fade running (R330). -/
def State.fwFields (s : State) (r : Reg) (i : Nat) (l : List (Fld × Nat)) : State × Nat :=
  if r = .LEDS_CH_OUT then
    s.put 0 r i (l.foldl (fun w x => x.1.into w x.2) 0) (l.foldl (fun w x => x.1.into w (2 ^ x.1.w - 1)) 0)
  else s.putWord 0 r i (l.foldl (fun w x => x.1.into w x.2) (s.baseWord r i))

def State.fwField (s : State) (f : Fld) (i v : Nat) : State × Nat := s.fwFields f.reg i [(f, v)]

/-! ## Kinds of entries -/

/-- A numeric entry with its own read and write. -/
def numEnt (ty : OdTy) (acc : OdAcc) (pdo : Bool) (lvl : Nat) (cond : OdCond) (get : State → Nat) (put : State → Nat → State × Nat) :
    OdEnt :=
  { ty := ty, acc := acc, pdo := pdo, lvl := lvl, cond := cond, get := fun s _ => (s, 0, leBytes ty.size (get s)),
    put := fun s _ b => put s (leNat b) }

/-- CONST, UNSIGNED8: the highest subindex. -/
def topEnt (n : Nat) (lvl : Nat := 1) : OdEnt := numEnt (.u 1) .const false lvl .any (fun _ => n) fun s _ => (s, abRo)

def roEnt (ty : OdTy) (pdo : Bool) (lvl : Nat) (get : State → Nat) : OdEnt := numEnt ty .ro pdo lvl .any get fun s _ => (s, abRo)

/-- RO: the low bytes of a register. -/
def roReg (k : Nat) (pdo : Bool) (lvl : Nat) (r : Reg) (i : Nat) : OdEnt :=
  { ty := .u k, acc := .ro, pdo := pdo, lvl := lvl,
    get := fun s _ => let x := s.fwRead r i; (x.1, 0, leBytes k x.2.toNat) }

/-- RO: a field of a register. -/
def roFld (ty : OdTy) (pdo : Bool) (lvl : Nat) (f : Fld) (i : Nat) : OdEnt :=
  { ty := ty, acc := .ro, pdo := pdo, lvl := lvl,
    get := fun s _ => let x := s.fwRead f.reg i; (x.1, 0, leBytes ty.size (f.of x.2)) }

/-- RW: a whole register. -/
def rwReg (pdo : Bool) (lvl : Nat) (cond : OdCond) (r : Reg) (i : Nat) : OdEnt :=
  { ty := .u 4, acc := .rw, pdo := pdo, lvl := lvl, cond := cond,
    get := fun s _ => let x := s.fwRead r i; (x.1, 0, leBytes 4 x.2.toNat), put := fun s _ b => s.fwPut r i (leNat b) }

/-- RW: a field of a register; values from `lo` to `hi` in units of the field's LSB divided by `q`, rounded down. -/
def rwFld (ty : OdTy) (pdo : Bool) (lvl : Nat) (cond : OdCond) (f : Fld) (i lo hi : Nat) (q : Nat := 1) : OdEnt :=
  { ty := ty, acc := .rw, pdo := pdo, lvl := lvl, cond := cond,
    get := fun s _ => let x := s.fwRead f.reg i; (x.1, 0, leBytes ty.size (f.of x.2 * q)),
    put := fun s _ b => let v := leNat b; if lo ≤ v ∧ v ≤ hi then s.fwField f i (v / q) else (s, abRange),
    piece := some fun v => if lo ≤ v ∧ v ≤ hi then some (f, i, v / q) else none }

/-- RW: a field with a conversion to the field and back. -/
def rwConv (ty : OdTy) (pdo : Bool) (lvl : Nat) (cond : OdCond) (f : Fld) (i lo hi : Nat) (enc back : Nat → Nat) : OdEnt :=
  { ty := ty, acc := .rw, pdo := pdo, lvl := lvl, cond := cond,
    get := fun s _ => let x := s.fwRead f.reg i; (x.1, 0, leBytes ty.size (back (f.of x.2))),
    put := fun s _ b => let v := leNat b; if lo ≤ v ∧ v ≤ hi then s.fwField f i (enc v) else (s, abRange),
    piece := some fun v => if lo ≤ v ∧ v ≤ hi then some (f, i, enc v) else none }

/-- RW, BOOLEAN: one bit `k` of a field. -/
def rwBit (pdo : Bool) (lvl : Nat) (cond : OdCond) (f : Fld) (i k : Nat) : OdEnt :=
  rwFld .bool pdo lvl cond ⟨f.reg, f.lsb + k, 1, f.ty⟩ i 0 1

/-- WO, UNSIGNED8: a command that accepts the values of `ok` alone. -/
def cmdEnt (pdo : Bool) (lvl : Nat) (ok : Nat → Bool) (put : State → Nat → State × Nat) : OdEnt :=
  numEnt (.u 1) .wo pdo lvl .any (fun _ => 0) fun s v => if ok v then put s v else (s, abRange)

/-- A command entry for value 1 that triggers a one-bit command field. -/
def oneEnt (pdo : Bool) (lvl : Nat) (f : Fld) (i : Nat) : OdEnt :=
  cmdEnt pdo lvl (· == 1) fun s _ => s.fwPut f.reg i ((s.baseWord f.reg i).toNat + 2 ^ f.lsb)

/-- RW: a value that no register holds (R508), accepted where `ok` holds. -/
def valEnt (ty : OdTy) (lvl : Nat) (cond : OdCond) (idx sub : Nat) (dflt : State → Nat) (ok : Nat → Bool) : OdEnt :=
  numEnt ty .rw false lvl cond (fun s => s.odNum idx sub (dflt s)) fun s v =>
    if ok v then ({ s with od := { s.od with vals := Tbl.ins natLt (Tbl.del s.od.vals (idx * 256 + sub)) (idx * 256 + sub) (leBytes ty.size v) } }, 0)
    else (s, abRange)

/-- The entry is not stored although it is RW and not mappable (an exception of R508). -/
def OdEnt.loose (e : OdEnt) : OdEnt := { e with keep := false }

/-! ## Images (R485, R570): the words of a list of registers in ascending offset order -/

def State.imageRead (s : State) (l : List (Reg × Nat)) : State × Nat × List Byte :=
  (s, 0, l.flatMap fun k => leBytes 4 (s.view k.1 k.2).toNat)

/-- Write the words in turn; the first refusal ends it. -/
def State.imagePut (s : State) : List (Reg × Nat) → List Byte → State × Nat
  | [], _ => (s, 0)
  | k :: r, b =>
    let x := s.fwPut k.1 k.2 (leNat (b.take 4))
    if x.2 = 0 then x.1.imagePut r (b.drop 4) else x

/-- A whole image or nothing. -/
def State.imageWrite (s : State) (l : List (Reg × Nat)) (b : List Byte) : State × Nat :=
  if b.length < 4 * l.length then (s, abTooShort)
  else if 4 * l.length < b.length then (s, abTooLong)
  else
    let x := s.imagePut l b
    if x.2 = 0 then x else (s, if x.2 = abState then abState else abRange)

def imageEnt (lvl : Nat) (l : List (Reg × Nat)) : OdEnt :=
  { ty := .dom, acc := .rw, lvl := lvl, cond := .conf, get := fun s _ => s.imageRead l, put := fun s _ b => s.imageWrite l b }

/-- The registers of a list at indices 0 to n - 1, one after the other. -/
def byIndex (n : Nat) (rs : List Reg) : List (Reg × Nat) := (List.range n).flatMap fun i => rs.map fun r => (r, i)

/-! ## Conversions -/

/-- Duty in 0.1 % to a code of SW_OUT, and back (2100:02). -/
def dutyCode (d : Nat) : Nat := (d * 4095 + 500) / 1000
def codeDuty (c : Nat) : Nat := (2 * c * 1000 + 4095) / (2 * 4095)
/-- PWM frequency in Hz to PERIOD, and back (2100:03). -/
def freqPeriod (f : Nat) : Nat := if f = 0 then 0 else (2 * 40000000 + f) / (2 * f)
/-- LED current in mA to CODE, and back (2400:02). -/
def maCode (m : Nat) : Nat := (m * 255 + 75) / 150
def codeMa (c : Nat) : Nat := (2 * c * 150 + 255) / (2 * 255)
/-- LED duty in 0.01 % to a code, and back (2400:03). -/
def ledCode (d : Nat) : Nat := (d * 16383 + 5000) / 10000
def codeLed (c : Nat) : Nat := (2 * c * 10000 + 16383) / (2 * 16383)

/-- Decimal digits as bytes of a VISIBLE_STRING. -/
def decBytes (n : Nat) : List Byte := (Nat.toDigits 10 n).map fun c => BitVec.ofNat 8 c.toNat
def strBytes (s : String) : List Byte := s.toList.map fun c => BitVec.ofNat 8 c.toNat

end Sys2Proof.Machine
end

