-- ==== Sys2Proof/Machine/OdA.lean ====
section
/-! DEFINITION. The entries of the system, berth, switch, protection, valve and event objects: 2000 to 2308, and 2D00. -/

namespace Sys2Proof.Machine

/-! ## 2000 (system, modes, supply) and 2010 (berth) -/

def od2000 (sub : Nat) : Option OdEnt :=
  match sub with
  | 0x00 => some (topEnt 0x32)
  | 0x01 => some (roFld (.u 1) true 1 F.SYS_MODE_MODE 0)
  | 0x02 => some (cmdEnt false 1 (fun _ => true) fun s v => refusedAs abState (s.modeRequest v true))
  | 0x03 => some (roReg 2 false 1 .SYS_RST_CAUSE 0)
  | 0x04 => some (rwFld .bool false 1 .any F.SYS_CFG_AUTOSTART 0 0 1)
  | 0x05 => some (rwFld (.u 1) false 2 .any F.SYS_CFG_LIMP_RETRY 0 0 255)
  | 0x06 => some (roFld (.u 1) false 1 F.SYS_MODE_REFUSE 0)
  | 0x10 => some (roFld (.u 2) true 1 F.BERTH_VFEED_AB_LO 0)
  | 0x11 => some (roFld (.u 2) true 1 F.BERTH_VFEED_AB_HI 0)
  | 0x12 => some (roFld (.u 2) true 1 F.BERTH_VFEED_CD_LO 0)
  | 0x13 => some (roFld (.u 2) true 1 F.BERTH_VFEED_CD_HI 0)
  | 0x14 => some (roFld (.u 2) true 1 F.BERTH_VKEEP_KEEP 0)
  | 0x15 => some (roReg 4 true 1 .BERTH_SUP_STAT 0)
  | 0x16 => some (rwFld (.u 2) false 1 .any F.BERTH_SUP_CTRL_VWARN 0 7000 40000 100)
  | 0x17 => some (rwFld (.u 1) false 2 .any F.BERTH_SUP_CTRL_SHED_MASK 0 0 15)
  | 0x18 => some (rwFld (.u 1) false 2 .any F.BERTH_SUP_CTRL_STAGGER 0 1 15)
  | 0x19 => some (roFld (.u 2) false 1 F.BERTH_SUP_MIN_VMIN 0)
  | 0x1A => some (cmdEnt false 2 (· == 0) fun s _ => s.fwPut .BERTH_SUP_MIN 0 (2 ^ 31))
  | 0x1B => some (cmdEnt false 2 (fun _ => true) fun s v => refusedAs abState (s.reenableBlock v))
  | 0x30 => some (roFld (.u 1) true 1 F.SYS_LOAD_LOAD_A 0)
  | 0x31 => some (roFld (.u 1) true 1 F.SYS_LOAD_LOAD_B 0)
  | 0x32 => some (roEnt (.u 1) true 1 fun s => (s.view .SYS_LOAD 0).toNat / 2 ^ 16 % 16)
  | _ => none

def od2010 (sub : Nat) : Option OdEnt :=
  match sub with
  | 0x00 => some (topEnt 0x11)
  | 0x01 => some (roEnt (.u 1) true 1 fun s => if s.flag F.BERTH_STAT_SLOT_VALID then s.fld F.BERTH_STAT_POS else 0xFF)
  | 0x02 => some (roFld (.u 1) false 1 F.BERTH_STAT_CAP_CLASS 0)
  | 0x03 => some (roFld (.u 1) true 1 F.BERTH_STAT_STATE 0)
  | 0x04 => some (roFld (.u 1) true 1 F.BERTH_STAT_MATED 0)
  | 0x05 => some (roFld (.u 1) true 1 F.BERTH_CAP_CAP_A 0)
  | 0x06 => some (roFld (.u 1) true 1 F.BERTH_CAP_CAP_B 0)
  | 0x07 => some (roFld (.u 1) true 1 F.BERTH_CAP_CAP_C 0)
  | 0x08 => some (roFld (.u 1) true 1 F.BERTH_CAP_CAP_D 0)
  | 0x09 => some (roFld (.u 1) false 1 F.BERTH_LINK_VERSION 0)
  | 0x0A => some (roFld (.u 2) false 1 F.BERTH_LINK_RAIL_ID 0)
  | 0x0B => some (roEnt (.u 2) false 1 fun s => s.berth.lastMs)
  | 0x0C => some (roEnt (.u 2) false 1 fun s => s.berth.lastRes.foldl Nat.max 0)
  | 0x0D => some (rwFld (.u 1) false 2 .any F.BERTH_CTRL_RAMP_TIME 0 20 150)
  | 0x0E => some (rwFld (.u 1) false 2 .any F.BERTH_CTRL_OEM_CAP 0 10 125)
  | 0x0F => some (rwFld .bool false 2 .any F.BERTH_CTRL_LINK_EN 0 0 1)
  | 0x10 => some (roReg 4 false 2 .BERTH_RAILCAP 0)
  | 0x11 => some (roFld (.u 1) false 2 F.BERTH_LINK_ERR 0)
  | _ => none

/-! ## 2100 to 2140 (switch channels) -/

/-- Current of a channel in 10 mA, rounded toward zero, for the even channel of a pair that of both cells (2100:04). -/
def State.outCur (s : State) (n : Nat) : Int :=
  let c := fun k => signed 16 (s.vfld F.SW_CUR_AVG1 k)
  let t := if s.paired n && n % 2 == 0 then c n + c (n + 1) else c n
  Int.tdiv t 4

def od2100 (n sub : Nat) : Option OdEnt :=
  match sub with
  | 0x00 => some (topEnt 0x1C)
  | 0x01 => some (rwFld (.u 1) true 1 .any F.SW_OUT_MODE n 0 3)
  | 0x02 => some (rwConv (.u 2) true 1 .any F.SW_OUT_DUTY n 0 1000 dutyCode codeDuty)
  | 0x03 => some (rwConv (.u 2) false 1 .any F.SW_PWM_PERIOD n 25 20000 freqPeriod freqPeriod)
  | 0x04 => some (roEnt (.i 2) true 1 fun s => satSigned 16 (s.outCur n))
  | 0x05 => some (roReg 2 true 1 .SW_STAT n)
  | 0x06 => some (rwFld (.u 1) false 1 .any F.SW_LIMIT_LIMIT n 10 80)
  | 0x10 => some (rwFld (.u 2) true 2 .any F.SW_OUT_DUTY n 0 4095)
  | 0x11 => some (rwFld (.u 4) false 2 .any F.SW_PWM_PERIOD n 2000 1600000)
  | 0x12 => some (rwFld (.u 2) false 2 .any F.SW_PHASE_PHASE n 0 40000)
  | 0x13 => some (rwFld (.u 1) false 2 .any F.SW_CTRL_SLEW n 0 3)
  | 0x14 => some (rwFld (.u 1) false 2 .any F.SW_LIMIT_INRUSH_LIMIT n 10 80)
  | 0x15 => some (rwFld (.u 2) false 2 .any F.SW_LIMIT_INRUSH_TIME n 0 500)
  | 0x16 => some (rwConv (.u 1) false 2 .any F.SW_CTRL_COMP_K n 1 2 (· - 1) (· + 1))
  | 0x17 => some (rwFld (.u 2) false 2 .any F.SW_CTRL_VREF n 60 600)
  | 0x18 => some (roFld (.i 2) true 2 F.SW_CUR_INST n)
  | 0x19 => some (roFld (.i 2) true 2 F.SW_CURPER_PAVG n)
  | 0x1A => some (roFld (.i 2) true 2 F.SW_CURPER_ONAVG n)
  | 0x1B => some (numEnt (.u 2) .rw false 2 .any (fun s => s.vfld F.SW_PEAK_PEAK n) fun s v =>
      if v = 0 then s.fwPut .SW_PEAK n (2 ^ 31) else (s, abRange))
  | 0x1C => some (roFld (.i 1) true 2 F.SW_TEMP_TJ n)
  | _ => none

def od2140 (sub : Nat) : Option OdEnt :=
  match sub with
  | 0x00 => some (topEnt 0x05)
  | 0x01 => some (rwReg false 2 .any .SW_GLB_PAIR 0)
  | 0x02 => some (numEnt (.u 8) .rw false 2 .any (fun s => (s.rd .SW_GLB_GRPLO).toNat + 2 ^ 32 * (s.rd .SW_GLB_GRPHI).toNat)
      fun s v => ((s.fwPut .SW_GLB_GRPLO 0 v).1).fwPut .SW_GLB_GRPHI 0 (v / 2 ^ 32)).loose
  | 0x03 => some (numEnt (.u 2) .wo true 2 .any (fun _ => 0) fun s v => s.fwPut .SW_GLB_GRPCMD 0 (v % 2 ^ 14 + 2 ^ 16))
  | 0x04 => some (roEnt (.u 8) true 1 fun s => (s.view .SW_GLB_SATLO).toNat + 2 ^ 32 * (s.view .SW_GLB_SATHI).toNat)
  | 0x05 => some (roEnt (.u 8) true 1 fun s => bitsOf 64 fun n => (s.swc n).driving)
  | _ => none

/-! ## 2150 to 2160 (feed limiters, channel protection, wire classes) -/

def od2150 (f sub : Nat) : Option OdEnt :=
  if 0x11 ≤ sub ∧ sub ≤ 0x20 then some (rwFld (.u 1) false 1 .conf F.PROT_CFG_WCLASS (16 * f + sub - 0x11) 0 15)
  else if 0x21 ≤ sub ∧ sub ≤ 0x30 then some (rwFld (.u 1) false 1 .conf F.PROT_CFG_PRIO (16 * f + sub - 0x21) 0 3)
  else if 0x31 ≤ sub ∧ sub ≤ 0x40 then some (rwReg false 2 .conf .PROT_CFG (16 * f + sub - 0x31))
  else if 0x41 ≤ sub ∧ sub ≤ 0x50 then some (roReg 4 true 1 .PROT_STAT (16 * f + sub - 0x41))
  else if 0x51 ≤ sub ∧ sub ≤ 0x60 then some (roFld (.i 2) true 1 F.PROT_WIRE_TC (16 * f + sub - 0x51))
  else if 0x61 ≤ sub ∧ sub ≤ 0x70 then some (oneEnt false 1 F.PROT_CLR_CLR (16 * f + sub - 0x61))
  else if 0x71 ≤ sub ∧ sub ≤ 0x80 then
    let n := 16 * f + sub - 0x71
    some (numEnt (.u 1) .rw false 2 .conf (fun s => (s.swc n).policy) fun s v =>
      if v ≤ 15 then (s.setSwc n { s.swc n with policy := v }, 0) else (s, abRange))
  else match sub with
    | 0x00 => some (topEnt 0x80)
    | 0x01 => some (roEnt (.u 1) true 1 fun s => s.cap f)
    | 0x02 => some (roFld (.i 2) true 1 F.PROT_FL_STAT_AVG f)
    | 0x03 => some (roFld (.u 2) true 1 F.PROT_FL_AUX_AUX f)
    | 0x04 => some (roEnt (.u 1) true 1 fun s => s.vfld F.PROT_FL_STAT_SHED f + 16 * s.vfld F.PROT_FL_STAT_LATCH f)
    | 0x05 => some (rwFld (.u 1) false 2 .conf F.PROT_FL_CTRL_REL_PCT f 50 95)
    | 0x06 => some (rwFld (.u 1) false 2 .conf F.PROT_FL_CTRL_REL_TIME f 1 100)
    | 0x07 => some (rwFld (.u 1) false 2 .conf F.PROT_FL_CTRL_REPEAT f 1 60)
    | 0x08 => some (oneEnt false 1 F.PROT_FL_CLR_CLR f)
    | _ => none

def od2160 (sub : Nat) : Option OdEnt :=
  let c := sub / 16
  if sub = 0 then some (topEnt 0xF7 2)
  else match sub % 16 with
    | 1 => some (rwFld (.u 2) false 2 .conf F.PROT_WC_RES_RES c 100 60000)
    | 2 => some (rwFld (.u 2) false 2 .conf F.PROT_WC_CAP_CC c 10 60000)
    | 3 => some (rwFld (.u 2) false 2 .conf F.PROT_WC_CAP_CS c 10 60000)
    | 4 => some (rwFld (.u 2) false 2 .conf F.PROT_WC_TH_RCS c 1 1000)
    | 5 => some (rwFld (.u 2) false 2 .conf F.PROT_WC_TH_RSA c 100 10000)
    | 6 => some (rwFld (.u 1) false 2 .conf F.PROT_WC_RES_TLIM c 60 150)
    | 7 => some (rwFld (.u 1) false 2 .conf F.PROT_WC_RES_RST c 10 90)
    | _ => none

/-! ## 2200 to 2250 (valves, banks, lasts, boosts) -/

def od2200 (n sub : Nat) : Option OdEnt :=
  match sub with
  | 0x00 => some (topEnt 0x14)
  | 0x01 => some (rwFld .bool false 1 .conf F.INJ_CH_CFG_EN n 0 1)
  | 0x02 => some (rwFld (.u 2) false 1 .conf F.INJ_CH_CFG_MIN_OFF n 20 10000)
  | 0x03 => some (numEnt (.u 4) .wo true 1 .any (fun _ => 0) fun s v => s.fwPut .INJ_CH_CMD n (v % 2 ^ 25 + 2 ^ 31))
  | 0x04 => some (cmdEnt false 1 (fun v => v == 1 || v == 2) fun s v => s.fwPut .INJ_CH_CMD n (if v = 1 then 2 ^ 30 else 2 ^ 29))
  | 0x05 => some (roReg 2 true 1 .INJ_CH_STAT n)
  | 0x06 => some (roFld (.u 2) true 1 F.INJ_CH_CLOSE_DELAY n)
  | 0x07 => some (roFld (.u 2) true 1 F.INJ_CH_CLOSE_MEAN n)
  | 0x08 => some (roReg 4 true 1 .INJ_CH_RES n)
  | 0x10 => some (rwFld (.u 2) false 2 .conf F.INJ_CH_PROT_TRISE_MIN n 0 1000)
  | 0x11 => some (rwFld (.u 2) false 2 .conf F.INJ_CH_CLWIN_START n 0 65535)
  | 0x12 => some (rwFld (.u 2) false 2 .conf F.INJ_CH_CLWIN_END n 0 65535)
  | 0x13 => some (roReg 4 false 2 .INJ_CH_CNT n)
  | 0x14 => some (roFld (.u 2) true 2 F.INJ_CH_STAT_CUR n)
  | _ => none

def od2220 (b sub : Nat) : Option OdEnt :=
  match sub with
  | 0x00 => some (topEnt 0x07)
  | 0x01 => some (rwFld .bool false 1 .conf F.INJ_BANK_CFG_EN b 0 1)
  | 0x02 => some (rwFld (.u 1) false 1 .conf F.INJ_BANK_CFG_POLICY b 0 1)
  | 0x03 => some (rwFld (.u 2) false 1 .conf F.INJ_BANK_CFG_DEFER_MAX b 0 10000 10)
  | 0x04 => some (rwFld (.u 1) false 2 .conf F.INJ_BANK_CFG_BNR_SKIP b 0 1)
  | 0x05 => some (rwFld (.u 2) false 2 .conf F.INJ_BANK_CFG_BOOST_WAIT b 0 1000 10)
  | 0x06 => some (roReg 4 true 1 .INJ_BANK_STAT b)
  | 0x07 => some (oneEnt false 2 F.INJ_BANK_STAT_CLR b)
  | _ => none

def od2230 (l sub : Nat) : Option OdEnt :=
  if 0x10 ≤ sub ∧ sub ≤ 0x17 then some (rwFld (.u 1) false 1 .any F.INJ_LAST_PH_TYPE (8 * l + sub - 0x10) 0 5)
  else if 0x20 ≤ sub ∧ sub ≤ 0x27 then some (rwFld (.u 2) false 1 .any F.INJ_LAST_PH_CURRENT (8 * l + sub - 0x20) 0 40950 10)
  else if 0x30 ≤ sub ∧ sub ≤ 0x37 then some (rwFld (.u 2) false 1 .any F.INJ_LAST_PH_TIME (8 * l + sub - 0x30) 0 65535)
  else if 0x41 ≤ sub ∧ sub ≤ 0x48 then some (rwReg false 2 .any .INJ_LAST_PH (8 * l + sub - 0x41))
  else match sub with
    | 0x00 => some (topEnt 0x48)
    | 0x01 => some (rwFld (.u 1) false 1 .any F.INJ_LAST_HDR_NPH l 0 8)
    | 0x02 => some (rwFld (.u 1) false 2 .any F.INJ_LAST_HDR_END_FAST l 0 1)
    | 0x03 => some (rwFld .bool false 1 .any F.INJ_LAST_HDR_CLOSE_EN l 0 1)
    | 0x04 => some (rwFld (.u 2) false 1 .any F.INJ_LAST_HDR_HYST l 10 2550 10)
    | 0x05 => some (rwFld (.u 2) false 2 .any F.INJ_LAST_HDR_END_TMAX l 10 65535)
    | 0x40 => some (rwReg false 2 .any .INJ_LAST_HDR l)
    | _ => none

def od2250 (sub : Nat) : Option OdEnt :=
  match sub with
  | 0x00 => some (topEnt 0x0B)
  | 0x01 => some (rwFld (.u 2) false 1 .conf F.INJ_BST_CFG_VTGT 0 300 720)
  | 0x02 => some (rwFld (.u 2) false 1 .conf F.INJ_BST_CFG_VTGT 1 300 720)
  | 0x03 => some (rwFld .bool false 1 .conf F.INJ_BST_CFG_EN 0 0 1)
  | 0x04 => some (rwFld .bool false 1 .conf F.INJ_BST_CFG_EN 1 0 1)
  | 0x05 => some (roFld (.u 2) true 1 F.INJ_BST_STAT_VOUT 0)
  | 0x06 => some (roFld (.u 2) true 1 F.INJ_BST_STAT_VOUT 1)
  | 0x07 => some (roFld (.u 2) true 1 F.INJ_BST_PWR_PAVG 0)
  | 0x08 => some (roFld (.u 2) true 1 F.INJ_BST_PWR_PAVG 1)
  | 0x09 => some (roReg 4 false 2 .INJ_BST_STAT 0)
  | 0x0A => some (roReg 4 false 2 .INJ_BST_STAT 1)
  | 0x0B => some (cmdEnt false 2 (fun v => decide (v < 4)) fun s v =>
      let x := if bitOf v 0 then s.fwPut .INJ_BST_STAT 0 (2 ^ 31) else (s, 0)
      let y := if bitOf v 1 then x.1.fwPut .INJ_BST_STAT 1 (2 ^ 31) else (x.1, 0)
      (y.1, if x.2 = 0 then y.2 else x.2))
  | _ => none

/-! ## 2300 to 2308 (event engine, streams) -/

/-- Words 0 and 3 of the newest result record (2300:12). -/
def State.newestRec (s : State) : List Byte :=
  let r := s.eve.newest
  if r.length = 16 then r.take 4 ++ r.drop 12 else leBytes 8 0

def od2300 (sub : Nat) : Option OdEnt :=
  match sub with
  | 0x00 => some (topEnt 0x12)
  | 0x01 => some (rwFld .bool false 1 .any F.EVE_CTRL_EN 0 0 1)
  | 0x02 => some (rwFld (.u 2) false 2 .any F.EVE_CTRL_HORIZON 0 200 10000)
  | 0x03 => some (rwFld (.u 1) false 2 .any F.EVE_CTRL_RESERVE 0 0 255)
  | 0x04 => some (roReg 4 true 1 .EVE_STAT 0)
  | 0x05 => some (roReg 4 false 2 .EVE_CNT0 0)
  | 0x06 => some (roReg 4 false 2 .EVE_CNT1 0)
  | 0x10 => some (numEnt (.u 8) .wo true 1 .any (fun _ => 0) fun s v => (s.evePdo v, 0))
  | 0x11 => some (numEnt (.u 2) .wo true 1 .any (fun _ => 0) fun s v =>
      if v = 0xFFFF then (s.eveAbortAll, 0)
      else
        let x := s.eveAbort v
        (x.1, if x.2 then 0 else abRange))
  | 0x12 => some { ty := .u 8, acc := .ro, pdo := true, get := fun s _ => (s, 0, s.newestRec) }
  | _ => none

/-- The source of a stream (2301:02): 0 to 7 a counter input, 8 CAN, 9 the host. -/
def State.strmSrc (s : State) (t : Nat) : Nat :=
  match s.fld F.EVE_ST_CTRL_SRC t with | 0 => s.fld F.EVE_ST_CTRL_DI t | 1 => 8 | _ => 9

/-- An entry of a stream's configuration, refused while the stream is open (R321). -/
def closedEnt (t : Nat) (e : OdEnt) : OdEnt :=
  { e with put := fun s a b => if s.flag F.EVE_ST_CTRL_OPEN t then (s, abState) else e.put s a b }

def od2301 (t sub : Nat) : Option OdEnt :=
  if 0x20 ≤ sub ∧ sub ≤ 0x37 then some (closedEnt t (rwReg false 1 .any .EVE_NZ_MAP (24 * t + sub - 0x20)))
  else if 0x40 ≤ sub ∧ sub ≤ 0x57 then some (closedEnt t (rwFld (.i 2) false 1 .any F.EVE_NZ_GEO_OFS (24 * t + sub - 0x40) 0 65535))
  else if 0x60 ≤ sub ∧ sub ≤ 0x77 then some (closedEnt t (rwFld (.u 2) false 1 .any F.EVE_NZ_GEO_LEAD (24 * t + sub - 0x60) 0 10000))
  else match sub with
    | 0x00 => some (topEnt 0x77)
    | 0x01 => some (rwFld .bool false 1 .any F.EVE_ST_CTRL_OPEN t 0 1).loose
    | 0x02 => some <| closedEnt t (numEnt (.u 1) .rw false 1 .any (fun s => s.strmSrc t) fun s v =>
        if v ≤ 7 then s.fwFields .EVE_ST_CTRL t [(F.EVE_ST_CTRL_SRC, 0), (F.EVE_ST_CTRL_DI, v)]
        else if v ≤ 9 then s.fwField F.EVE_ST_CTRL_SRC t (v - 7) else (s, abRange))
    | 0x03 => some (closedEnt t (rwFld (.u 4) false 1 .any F.EVE_ST_SCALE_SCALE t 1 1000000))
    | 0x04 => some (closedEnt t (rwFld (.u 1) false 1 .any F.EVE_ST_CTRL_DOSE_MODE t 0 1))
    | 0x05 => some (closedEnt t (rwFld (.u 2) false 1 .any F.EVE_ST_CFG2_DOSE_UNIT t 1 1000))
    | 0x06 => some (roReg 4 true 1 .EVE_ST_ODO t)
    | 0x07 => some { roReg 4 true 1 .EVE_ST_SPEED t with ty := .i 4 }
    | 0x08 => some (numEnt (.u 8) .wo true 1 .any (fun _ => 0) fun s v =>
        ((s.fwPut .EVE_ST_RECLO t v).1).fwPut .EVE_ST_RECHI t (v / 2 ^ 32))
    | 0x09 => some (numEnt (.i 4) .wo true 1 .any (fun _ => 0) fun s v => s.fwPut .EVE_ST_SPEED t v)
    | 0x0A => some (numEnt (.u 4) .wo false 1 .any (fun _ => 0) fun s v => s.fwPut .EVE_ST_ODO t v)
    | 0x0B => some (closedEnt t (rwFld (.u 2) false 2 .any F.EVE_ST_CTRL_RUN_AHEAD t 100 2000))
    | 0x0C => some (closedEnt t (rwReg false 2 .any .EVE_ST_CANID t))
    | 0x0D => some (closedEnt t (rwReg false 2 .any .EVE_ST_CFG2 t))
    | 0x0E => some (closedEnt t (rwFld (.u 1) false 2 .any F.EVE_ST_CTRL_CANPORT t 0 7))
    | 0x0F => some (roReg 4 true 1 .EVE_ST_STAT t)
    | 0x10 => some (roReg 4 false 2 .EVE_ST_CNT t)
    | _ => none

/-! ## 2D00 (calibration) -/

/-- TRIM of an aerial as a signed byte (2D00:12 to 17). -/
def State.lfTrimOf (s : State) (a : Nat) : Int := signed 6 (s.lfByte a % 64)

def od2D00 (sub : Nat) : Option OdEnt :=
  if 0x12 ≤ sub ∧ sub ≤ 0x17 then some (roEnt (.i 1) false 2 fun s => unsigned 8 (s.lfTrimOf (sub - 0x12)))
  else if 0x40 ≤ sub ∧ sub ≤ 0x7F then
    let n := sub - 0x40
    some (numEnt (.u 2) .rw false 1 .any (fun s => (s.rd .CAL_CH_DIAG n).toNat % 2048) fun s v =>
      if v < 2048 then s.fwPut .CAL_CH_DIAG n v else (s, abRange))
  else if 0x80 ≤ sub ∧ sub ≤ 0xBF then some (roEnt (.u 1) true 1 fun s => (s.view .CAL_CH_DSTAT (sub - 0x80)).toNat % 8)
  else if 0xC0 ≤ sub ∧ sub ≤ 0xFF then some (roReg 2 false 2 .CAL_CH_STAT (sub - 0xC0))
  else match sub with
    | 0x00 => some (topEnt 0xFF)
    | 0x01 => some (roReg 4 false 1 .CAL_STAT 0)
    | 0x02 => some (numEnt (.u 1) .rw false 2 .any (fun s => (s.rd .CAL_CTRL).toNat % 16) fun s v =>
        if v < 16 then s.fwPut .CAL_CTRL 0 ((s.baseWord .CAL_CTRL 0).toNat / 16 * 16 + v) else (s, abRange))
    | 0x03 => some (rwFld (.u 1) false 2 .any F.CAL_CTRL_PERIOD 0 1 10)
    | 0x04 => some (oneEnt false 2 F.CAL_CTRL_REVERT 0)
    | 0x05 => some (oneEnt false 2 F.CAL_CTRL_REENABLE 0)
    | 0x06 => some (roEnt (.u 1) false 1 fun s => (s.view .CAL_EVT).toNat % 64)
    | 0x10 => some (roFld (.i 2) false 2 F.CAL_BOOST_A_GAIN 0)
    | 0x11 => some (roFld (.i 2) false 2 F.CAL_BOOST_B_GAIN 0)
    | 0x18 => some (roFld (.u 1) true 1 F.CAL_DI_FAIL 0)
    | _ => none

end Sys2Proof.Machine
end

