-- ==== Sys2Proof/Machine/OdB.lean ====
section
/-! DEFINITION. The entries of the lighting, input, output, bollard, CAN, Ethernet, tide and gateway objects: 2400 to 2880. -/

namespace Sys2Proof.Machine

/-! ## 2400 to 2420 (LED sinks) -/

def od2400 (n sub : Nat) : Option OdEnt :=
  match sub with
  | 0x00 => some (topEnt 0x15)
  | 0x01 => some (rwFld .bool false 1 .conf F.LEDS_CH_CFG_EN n 0 1)
  | 0x02 => some (rwConv (.u 1) true 1 .any F.LEDS_CH_OUT_CODE n 0 150 maCode codeMa)
  | 0x03 => some (rwConv (.u 2) true 1 .any F.LEDS_CH_OUT_DUTY n 0 10000 ledCode codeLed)
  | 0x04 => some (numEnt (.u 2) .rw false 1 .any (fun s => s.fld F.LEDS_CH_FADE_TIME n * 4) fun s v =>
      if v ≤ 16380 then s.fwField F.LEDS_CH_FADE_TIME n (v / 4) else (s, abRange))
  | 0x05 => some (numEnt (.u 2) .wo true 1 .any (fun _ => 0) fun s v =>
      if v ≤ 10000 then s.fwPut .LEDS_CH_FADE n (ledCode v + s.fld F.LEDS_CH_FADE_TIME n * 2 ^ 16 + 2 ^ 31) else (s, abRange))
  | 0x06 => some (roReg 2 true 1 .LEDS_CH_STAT n)
  | 0x07 => some (oneEnt false 1 F.LEDS_CH_CMD_CLR n)
  | 0x08 => some (numEnt (.u 1) .rw false 1 .conf
      (fun s => if s.flag F.LEDS_CH_CFG_SUP n then 1 + s.fld F.LEDS_CH_CFG_SUPCH n else 0) fun s v =>
      if v = 0 then s.fwField F.LEDS_CH_CFG_SUP n 0
      else if v ≤ 64 then s.fwFields .LEDS_CH_CFG n [(F.LEDS_CH_CFG_SUP, 1), (F.LEDS_CH_CFG_SUPCH, v - 1)] else (s, abRange))
  | 0x09 => some (rwFld .bool false 1 .conf F.LEDS_CH_CFG_DIAG_EN n 0 1)
  | 0x10 => some (rwFld (.u 1) false 2 .conf F.LEDS_CH_CFG_VSHORT n 20 200)
  | 0x11 => some (rwFld (.u 1) true 2 .any F.LEDS_CH_OUT_CODE n 0 255)
  | 0x12 => some (rwFld (.u 2) true 2 .any F.LEDS_CH_OUT_DUTY n 0 16383)
  | 0x13 => some (roFld (.u 2) true 2 F.LEDS_CH_EDUTY_EDUTY n)
  | 0x14 => some (roFld (.u 2) true 2 F.LEDS_CH_STAT_VSINK n)
  | 0x15 => some (roFld (.u 1) true 2 F.LEDS_CH_STAT_IMEAS n)
  | _ => none

def od2420 (sub : Nat) : Option OdEnt :=
  match sub with
  | 0x00 => some (topEnt 0x06)
  | 0x01 => some (rwFld (.u 1) true 1 .any F.LEDS_GLB_LEVEL_GLOBAL 0 0 255)
  | 0x02 => some (rwConv (.u 1) false 2 .conf F.LEDS_GLB_CFG_DIV 0 1 16 (· - 1) (· + 1))
  | 0x03 => some (roFld (.u 1) true 1 F.LEDS_GLB_STAT_F 0)
  | 0x04 => some (roFld (.u 2) true 1 F.LEDS_GLB_STAT_PSUM 0)
  | 0x05 => some (roFld (.u 2) false 1 F.LEDS_GLB_PCAP_CAP 0)
  | 0x06 => some (oneEnt false 2 F.LEDS_GLB_CTRL_REENABLE 0)
  | _ => none

/-! ## 2500 to 253F (inputs, DO) -/

/-- Object 2500 + n holds only the entries that apply to the input (R358). -/
def od2500 (n sub : Nat) : Option OdEnt :=
  let g := n / 8
  let k := n - 40
  let cnt := 40 ≤ n
  match sub with
  | 0x00 => some (topEnt (if n < 16 then 4 else if n < 40 then 3 else if n = 46 then 0x0A else 8))
  | 0x01 => some (roEnt .bool true 1 fun s => if s.di n then 1 else 0)
  | 0x02 => some (numEnt (.u 1) .rw false 1 .conf (fun s => if s.flag F.DIO_GRP_CFG_TYPE g then 3 else 1) fun s v =>
      if v = 1 then s.fwField F.DIO_GRP_CFG_TYPE g 0 else if v = 3 then s.fwField F.DIO_GRP_CFG_TYPE g 1 else (s, abRange))
  | 0x03 => some (rwFld (.u 2) false 1 .conf F.DIO_GRP_CFG_DEBOUNCE g 0 500)
  | 0x04 => if n < 16 then some (rwBit false 1 .conf F.DIO_WAKE_CFG_MASK 0 n) else none
  | 0x05 => if cnt then some (numEnt (.u 1) .rw false 2 .conf (fun s => (s.rd .DIO_CNT_CFG k).toNat % 16) fun s v =>
      if v < 16 then s.fwPut .DIO_CNT_CFG k ((s.baseWord .DIO_CNT_CFG k).toNat / 16 * 16 + v) else (s, abRange)) else none
  | 0x06 => if cnt then some (roFld (.u 4) true 1 F.DIO_CNT_VAL_COUNT k) else none
  | 0x07 => if cnt then
      some (roEnt (.u 4) true 1 fun s => if s.vfld F.DIO_CNT_FREQ_VALID k = 1 then s.vfld F.DIO_CNT_FREQ_FREQ k else 0) else none
  | 0x08 => if cnt then some (oneEnt false 1 F.DIO_CNT_CMD_CLR k) else none
  | 0x09 => if n = 46 then some (rwFld .bool false 2 .conf F.DIO_PPS_CFG_EN 0 0 1) else none
  | 0x0A => if n = 46 then
      some (roEnt (.u 8) true 2 fun s => (s.view .DIO_PPS_TLO).toNat + 2 ^ 32 * (s.view .DIO_PPS_THI).toNat) else none
  | _ => none

def od2530 (m sub : Nat) : Option OdEnt :=
  match sub with
  | 0x00 => some (topEnt (if m = 0 then 0x12 else 0x05))
  | 0x01 => some (rwBit true 1 .any F.DIO_DO_OUT_ON 0 m)
  | 0x02 => some (roEnt (.u 1) true 1 fun s =>
      bit01 (bitOf (s.vfld F.DIO_DO_STAT_ON) m) + 2 * bit01 (bitOf (s.vfld F.DIO_DO_STAT_FAULT) m) +
        4 * bit01 (bitOf (s.vfld F.DIO_DO_DIAG_OPEN) m) + 8 * bit01 (bitOf (s.vfld F.DIO_DO_DIAG_SHED) m))
  | 0x03 => some (rwBit false 2 .any F.DIO_DO_CFG_LATCH 0 m)
  | 0x04 => some (rwBit false 1 .any F.DIO_DO_CFG_OL_EN 0 m)
  | 0x05 => some (cmdEnt false 1 (· == 1) fun s _ => s.fwPut .DIO_DO_CLR 0 (2 ^ m))
  | 0x10 => if m = 0 then some (rwFld .bool false 1 .any F.DIO_AUX_CTRL_SSUP_EN 0 0 1).loose else none
  | 0x11 => if m = 0 then some (roFld (.u 2) true 1 F.DIO_AUX_STAT_CUR 0) else none
  | 0x12 => if m = 0 then some (roEnt (.u 1) true 1 fun s => (s.view .DIO_AUX_STAT).toNat / 2 ^ 16 % 32) else none
  | _ => none

/-! ## 2600 to 2640 (bollard, reflexes) -/

def od2600 (sub : Nat) : Option OdEnt :=
  if 0x01 ≤ sub ∧ sub ≤ 0x88 then some (rwReg false 1 .conf .BOLL_SAFE (sub - 1))
  else if 0xA8 ≤ sub ∧ sub ≤ 0xAB then some (numEnt (.u 2) .rw false 1 .conf (fun s => s.fld F.BOLL_SIL_TIMEOUT (sub - 0xA8)) fun s v =>
    if v = 0 ∨ (10 ≤ v ∧ v ≤ 1000) then s.fwField F.BOLL_SIL_TIMEOUT (sub - 0xA8) v else (s, abRange))
  else if 0xAC ≤ sub ∧ sub ≤ 0xAF then
    let t := sub - 0xAC
    some (numEnt (.u 1) .rw false 1 .conf (fun s => if s.flag F.BOLL_SIL_SRC t then 1 + s.fld F.BOLL_SIL_RPDO t else 0) fun s v =>
      if v = 0 then s.fwFields .BOLL_SIL t [(F.BOLL_SIL_SRC, 0), (F.BOLL_SIL_RPDO, 0)]
      else if v ≤ 64 then s.fwFields .BOLL_SIL t [(F.BOLL_SIL_SRC, 1), (F.BOLL_SIL_RPDO, v - 1)] else (s, abRange))
  else if 0xB0 ≤ sub ∧ sub ≤ 0xB3 then
    some (cmdEnt true 1 (fun _ => true) fun s v => s.fwPut .SYS_BOLLARD_FEED 0 (v + (sub - 0xB0) * 2 ^ 8 + 2 ^ 31))
  else if 0xB4 ≤ sub ∧ sub ≤ 0xB8 then some (roReg 4 false 2 .BOLL_GOV (sub - 0xB4))
  else match sub with
    | 0x00 => some (topEnt 0xB8)
    | 0xA0 => some (rwFld (.u 2) false 1 .conf F.BOLL_CTRL_HOLD 0 50 5000 10)
    | 0xA1 => some (rwFld .bool false 2 .conf F.BOLL_CTRL_AUTO_RECLAIM 0 0 1)
    | 0xA2 => some (oneEnt true 1 F.BOLL_CMD_RECLAIM 0)
    | 0xA3 => some (oneEnt false 2 F.BOLL_CMD_REENABLE 0)
    | 0xA4 => some (roReg 4 true 1 .BOLL_STAT 0)
    | _ => none

def od2601 (k sub : Nat) : Option OdEnt :=
  match sub with
  | 0x00 => some (topEnt 0x06)
  | 0x01 => some (rwReg false 2 .conf .BOLL_RFX_COND k)
  | 0x02 => some (rwReg false 2 .conf .BOLL_RFX_ACT k)
  | 0x03 => some (rwFld (.u 2) false 2 .conf F.BOLL_RFX_DLY_ON_DLY k 0 65535)
  | 0x04 => some (rwFld (.u 2) false 2 .conf F.BOLL_RFX_DLY_OFF_DLY k 0 65535)
  | 0x05 => some (roEnt (.u 1) true 1 fun s => bit01 (s.rfxc k).cond + 2 * bit01 (s.rfxc k).act + 4 * bit01 (s.rfxc k).lat)
  | 0x06 => some (cmdEnt false 1 (· == 1) fun s _ => (s.rfxClear k, 0))
  | _ => none

/-! ## 2700 to 2707 (CAN) -/

/-- Nominal and data rates of R389: kbit/s, BRP, TSEG1, TSEG2, SJW, OFS. -/
def nomRates : List (Nat × Nat × Nat × Nat × Nat) :=
  [(50, 20, 63, 16, 16), (100, 10, 63, 16, 16), (125, 8, 63, 16, 16), (250, 4, 63, 16, 16), (500, 2, 63, 16, 16), (1000, 1, 59, 20, 20)]
def dataRates : List (Nat × Nat × Nat × Nat × Nat × Nat) :=
  [(1000, 2, 29, 10, 10, 60), (2000, 2, 14, 5, 5, 30), (4000, 2, 6, 3, 3, 14), (5000, 1, 11, 4, 4, 12), (8000, 1, 6, 3, 3, 7)]

/-- The register words of a row: every value is stored less 1. -/
def nbtWord (b t1 t2 j : Nat) : Nat := (b - 1) + (j - 1) * 2 ^ 5 + (t1 - 1) * 2 ^ 12 + (t2 - 1) * 2 ^ 20
def dbtWord (b t1 t2 j : Nat) : Nat := (b - 1) + (j - 1) * 2 ^ 5 + (t1 - 1) * 2 ^ 9 + (t2 - 1) * 2 ^ 14

/-- The rate whose row matches the registers, 0 when none does. -/
def State.nomRate (s : State) (p : Nat) : Nat :=
  match nomRates.find? fun r => nbtWord r.2.1 r.2.2.1 r.2.2.2.1 r.2.2.2.2 == (s.rd .CAN_NBT p).toNat with
  | some r => r.1
  | none => 0
def State.dataRate (s : State) (p : Nat) : Nat :=
  if !s.flag F.CAN_CTRL_FD_EN p then 0
  else match dataRates.find? fun r => dbtWord r.2.1 r.2.2.1 r.2.2.2.1 r.2.2.2.2.1 == (s.rd .CAN_DBT p).toNat &&
      r.2.2.2.2.2 == s.fld F.CAN_TDC_OFS p with
    | some r => r.1
    | none => 0

/-- Writes to the registers of a controller; one that an enabled controller refuses is made with the controller stopped, and it is
enabled again (R418). -/
def State.canEntry (s : State) (p : Nat) (f : State → State × Nat) : State × Nat :=
  let x := f s
  if x.2 = abState ∧ s.flag F.CAN_CTRL_EN p then
    let y := f (s.fwField F.CAN_CTRL_EN p 0).1
    if y.2 = 0 then ((y.1.fwField F.CAN_CTRL_EN p 1).1, 0) else (s, y.2)
  else x

/-- Write registers in turn, all or nothing. -/
def State.andPut (x : State × Nat) (f : State → State × Nat) : State × Nat := if x.2 = 0 then f x.1 else x

def State.setNomRate (s : State) (p v : Nat) : State × Nat :=
  match nomRates.find? fun r => r.1 == v with
  | some r => s.fwPut .CAN_NBT p (nbtWord r.2.1 r.2.2.1 r.2.2.2.1 r.2.2.2.2)
  | none => (s, abRange)
def State.setDataRate (s : State) (p v : Nat) : State × Nat :=
  if v = 0 then s.fwField F.CAN_CTRL_FD_EN p 0
  else match dataRates.find? fun r => r.1 == v with
    | some r =>
      let x := s.fwPut .CAN_DBT p (dbtWord r.2.1 r.2.2.1 r.2.2.2.1 r.2.2.2.2.1)
      State.andPut (State.andPut x fun s => s.fwField F.CAN_TDC_OFS p r.2.2.2.2.2) fun s => s.fwField F.CAN_CTRL_FD_EN p 1
    | none => (s, abRange)

/-- A configuration entry of a controller under R418. -/
def canEnt (p : Nat) (e : OdEnt) : OdEnt := { e with cond := .conf, put := fun s c b => s.canEntry p fun s => e.put s c b }

def od2700 (p sub : Nat) : Option OdEnt :=
  if 0x20 ≤ sub ∧ sub ≤ 0x2F then
    let i := p * 16 + sub - 0x20
    some (canEnt p (numEnt (.u 8) .rw false 2 .conf (fun s => (s.rd .CAN_DET_A i).toNat + 2 ^ 32 * (s.rd .CAN_DET_B i).toNat) fun s v =>
      State.andPut (s.fwPut .CAN_DET_A i v) fun s => s.fwPut .CAN_DET_B i (v / 2 ^ 32)))
  else match sub with
    | 0x00 => some (topEnt 0x30)
    | 0x01 => some (rwFld .bool false 1 .conf F.CAN_CTRL_EN p 0 1)
    | 0x02 => some (canEnt p (numEnt (.u 2) .rw false 1 .conf (fun s => s.nomRate p) fun s v => s.setNomRate p v))
    | 0x03 => some (canEnt p (numEnt (.u 2) .rw false 1 .conf (fun s => s.dataRate p) fun s v => s.setDataRate p v))
    | 0x04 => some (canEnt p (rwFld (.u 1) false 1 .conf F.CAN_CTRL_OPMODE p 0 2))
    | 0x05 => some (canEnt p (rwFld .bool false 1 .conf F.CAN_CTRL_DET_EN p 0 1))
    | 0x06 => some (roEnt (.u 1) false 1 fun s => if (s.canc p).found then s.vfld F.CAN_STAT_DET_IDX p else 0xFF)
    | 0x07 => some (roFld (.u 1) true 1 F.CAN_STAT_STATE p)
    | 0x08 => some (roEnt (.u 2) true 1 fun s => (s.view .CAN_ERR p).toNat % 2 ^ 16)
    | 0x09 => some (roFld (.u 1) false 1 F.CAN_ERR_BOFF_CNT p)
    | 0x0A => some (canEnt p (rwFld (.u 1) false 2 .conf F.CAN_CTRL_TXPRIO p 0 1))
    | 0x0B => some (canEnt p (rwFld .bool false 2 .conf F.CAN_CTRL_TXB2_SRC p 0 1))
    | 0x0C => some (canEnt p (rwFld (.u 1) false 2 .conf F.CAN_ERRCFG_COLL_THR p 2 32))
    | 0x0D => some (canEnt p (rwReg false 2 .conf .CAN_FLT_STD p))
    | 0x0E => some (canEnt p (rwReg false 2 .conf .CAN_FLT_EXT p))
    | 0x0F => some (canEnt p (rwFld (.u 2) false 2 .conf F.CAN_RXF_CFG_DEPTH p 1 256))
    | 0x10 => some (canEnt p (rwFld (.u 1) false 1 .conf F.CAN_CTRL_BO_MAN p 0 1))
    | 0x11 => some (canEnt p (rwFld (.u 2) false 2 .conf F.CAN_CTRL_BO_DELAY p 0 2550 10))
    | 0x12 => some (canEnt p (rwFld (.u 1) false 2 .conf F.CAN_CTRL_BO_LIMIT p 0 15))
    | 0x13 => some (roReg 4 false 1 .CAN_COLL p)
    | 0x14 => some (canEnt p (rwFld (.u 1) false 1 .conf F.CAN_TT_CFG_ROLE p 0 2))
    | 0x15 => some (canEnt p (rwReg false 2 .conf .CAN_TT_REF p))
    | 0x16 => some (canEnt p (rwFld (.u 2) false 2 .conf F.CAN_TT_CFG_CYCLE p 10 65535))
    | 0x17 => some (roReg 4 true 1 .CAN_TT_STAT p)
    | 0x18 => some (canEnt p (rwReg false 2 .conf .CAN_SW_CFG p))
    | 0x19 => some (canEnt p (rwReg false 2 .conf .CAN_SW_ID p))
    | 0x1A => some (canEnt p (rwReg false 2 .conf .CAN_SW_IDM p))
    | 0x1B => some (canEnt p (numEnt (.u 8) .rw false 2 .conf
        (fun s => (s.rd .CAN_SW_DLO p).toNat + 2 ^ 32 * (s.rd .CAN_SW_DHI p).toNat) fun s v =>
        State.andPut (s.fwPut .CAN_SW_DLO p v) fun s => s.fwPut .CAN_SW_DHI p (v / 2 ^ 32)))
    | 0x1C => some (canEnt p (rwReg false 2 .conf .CAN_NBT p))
    | 0x1D => some (canEnt p (rwReg false 2 .conf .CAN_DBT p))
    | 0x1E => some (canEnt p (rwReg false 2 .conf .CAN_TDC p))
    | 0x30 => some (canEnt p (rwReg false 2 .conf .CAN_DET_CFG p))
    | _ => none

/-! ## 2780 to 2790 (Ethernet) -/

def od2780 (p sub : Nat) : Option OdEnt :=
  match sub with
  | 0x00 => some (topEnt 0x12)
  | 0x01 => some (rwFld .bool false 1 .conf F.ETH_PCTRL_EN p 0 1)
  | 0x02 => some (rwFld .bool false 1 .conf F.ETH_PCTRL_AN_EN p 0 1)
  | 0x03 => some (numEnt (.u 2) .rw false 1 .conf (fun s => if s.flag F.ETH_PCTRL_FIX_SPEED p then 1000 else 100) fun s v =>
      if v = 100 then s.fwField F.ETH_PCTRL_FIX_SPEED p 0 else if v = 1000 then s.fwField F.ETH_PCTRL_FIX_SPEED p 1 else (s, abRange))
  | 0x04 => some (rwFld (.u 1) false 1 .conf F.ETH_PCTRL_FIX_ROLE p 0 1)
  | 0x05 => some (rwFld (.u 1) false 2 .conf F.ETH_PCTRL_AN_ADV p 0 3)
  | 0x06 => some (rwFld (.u 1) false 2 .conf F.ETH_PCTRL_AN_ROLE p 0 3)
  | 0x07 => some (rwFld .bool false 1 .conf F.ETH_PCTRL_TC10_EN p 0 1)
  | 0x08 => some (rwFld (.u 2) false 1 .conf F.ETH_PVLAN_PVID p 1 4094)
  | 0x09 => some (rwFld (.u 1) false 2 .conf F.ETH_PVLAN_ACCEPT p 0 2)
  | 0x0A => some (rwFld (.u 1) false 2 .conf F.ETH_PVLAN_DEF_PCP p 0 7)
  | 0x10 => some (roReg 4 true 1 .ETH_PSTAT p)
  | 0x11 => some (roReg 4 false 1 .ETH_PCNT0 p)
  | 0x12 => some (roReg 4 false 1 .ETH_PCNT1 p)
  | _ => none

def od2790 (sub : Nat) : Option OdEnt :=
  match sub with
  | 0x00 => some (topEnt 0x04)
  | 0x01 => some (rwFld .bool false 2 .conf F.ETH_SW_CTRL_CT_EN 0 0 1)
  | 0x02 => some (rwFld (.u 4) false 2 .conf F.ETH_SW_CTRL_AGE 0 0 1000000)
  | 0x03 => some (rwReg false 2 .conf .ETH_SW_QMAP 0)
  | 0x04 => some (roReg 4 false 1 .ETH_SW_STAT 0)
  | _ => none

/-! ## 2800 (tide) -/

/-- A condition on an entry, for those that ask for a session but not for Configure. -/
def OdEnt.needs (e : OdEnt) (c : OdCond) : OdEnt := { e with cond := c }

def od2800 (sub : Nat) : Option OdEnt :=
  match sub with
  | 0x00 => some (topEnt 0x16)
  | 0x01 => some (numEnt (.u 2) .rw false 1 .conf (fun s => (s.rd .TIDE_SRC).toNat % 2 ^ 16) fun s v => s.fwPut .TIDE_SRC 0 v)
  | 0x02 => some (roReg 1 true 1 .TIDE_STAT 0)
  | 0x03 => some (roEnt (.u 8) true 1 fun s => if s.flag F.TIDE_STAT_VALID then s.logical else 0)
  | 0x04 => some { roReg 4 true 1 .TIDE_OFS 0 with ty := .i 4 }
  | 0x05 => some { roReg 4 false 2 .TIDE_RATE 0 with ty := .i 4 }
  | 0x06 => some (roEnt (.u 8) false 1 fun s => (s.view .TIDE_GM_LO).toNat + 2 ^ 32 * (s.view .TIDE_GM_HI).toNat)
  | 0x07 => some (rwFld (.u 1) false 1 .conf F.TIDE_PTP_CFG_PORT_EN 0 0 15)
  | 0x08 => some (rwFld (.u 1) false 1 .conf F.TIDE_PTP_CFG_PRIO1 0 0 255)
  | 0x09 => some (rwFld (.u 1) false 2 .conf F.TIDE_PTP_CFG_PRIO2 0 0 255)
  | 0x0A => some (rwFld (.u 1) false 2 .conf F.TIDE_PTP_CFG_SYNC_EXP 0 0 5)
  | 0x0B => some (rwFld .bool false 1 .conf F.TIDE_CTRL_SELF_VALID 0 0 1)
  | 0x0C => some (rwFld (.u 2) false 2 .conf F.TIDE_SERVO_STEP_THR 0 1 65535)
  | 0x0D => some (rwFld (.u 2) false 2 .conf F.TIDE_SERVO_RATE_MAX 0 1 1953)
  | 0x0E => some (rwFld (.u 1) false 2 .conf F.TIDE_CTRL_KP 0 0 255)
  | 0x0F => some (rwFld (.u 1) false 2 .conf F.TIDE_CTRL_KI 0 0 255)
  | 0x10 => some (rwFld (.u 1) false 2 .conf F.TIDE_HOLD_HOLD_LIMIT 0 1 255)
  | 0x11 => some (rwFld .bool false 2 .conf F.TIDE_CTRL_MANUAL 0 0 1)
  | 0x12 => some ({ rwReg false 2 .svc .TIDE_RATE 0 with ty := .i 4 } : OdEnt).loose
  | 0x13 => some (numEnt (.i 8) .wo false 2 .svc (fun _ => 0) fun s v =>
      ((s.fwPut .TIDE_STEP_LO 0 v).1).fwPut .TIDE_STEP_HI 0 (v / 2 ^ 32))
  | 0x14 => some (numEnt (.u 8) .wo false 2 .svc (fun _ => 0) fun s v =>
      ((s.fwPut .TIDE_SET_LO 0 v).1).fwPut .TIDE_SET_HI 0 (v / 2 ^ 32))
  | 0x15 => some (roReg 4 false 2 .TIDE_PTP_STAT 0)
  | 0x16 => some (roFld (.u 2) true 1 F.TIDE_STAT_UNC 0)
  | _ => none

/-! ## 2880 (gateway) -/

/-- The words of ring `r` that 2880:21 carries: configuration at +0x00 to +0x08, for egress rings ACF at +0x20 to +0x30. -/
def ringRegs (r : Nat) : List (Reg × Nat) :=
  [(.GWY_RING_CFG, r), (.GWY_RING_BASE, r), (.GWY_RING_WM, r)] ++
    if 16 ≤ r then [(.GWY_ACF_SIDLO, r - 16), (.GWY_ACF_SIDHI, r - 16), (.GWY_ACF_DMACLO, r - 16), (.GWY_ACF_DMACHI, r - 16),
      (.GWY_ACF_TXCFG, r - 16)] else []

def allRings : List (Reg × Nat) := (List.range 32).flatMap ringRegs

/-- The words of a ring image; a ring that the image enables is enabled after its other words (R465). -/
def State.ringsPut (s : State) : List Nat → List Byte → State × Nat
  | [], _ => (s, 0)
  | r :: l, b =>
    let regs := ringRegs r
    let cfg := leNat (b.take 4)
    let rest := regs.drop 1
    let restB := (b.drop 4).take (4 * rest.length)
    let x := if cfg % 2 = 1 then State.andPut (s.imagePut rest restB) fun s => s.fwPut .GWY_RING_CFG r cfg
      else State.andPut (s.fwPut .GWY_RING_CFG r cfg) fun s => s.imagePut rest restB
    if x.2 = 0 then x.1.ringsPut l (b.drop (4 * regs.length)) else x

def State.ringsWrite (s : State) (b : List Byte) : State × Nat :=
  if b.length < 4 * allRings.length then (s, abTooShort)
  else if 4 * allRings.length < b.length then (s, abTooLong)
  else
    let x := s.ringsPut (List.range 32) b
    if x.2 = 0 then x else (s, x.2)

def routeRegs : List (Reg × Nat) := byIndex 2048 [.GWY_RTE0, .GWY_RTE1, .GWY_RTE2, .GWY_RTE3]

def od2880 (sub : Nat) : Option OdEnt :=
  if 0x10 ≤ sub ∧ sub ≤ 0x1B then some (roReg 4 true 1 .GWY_SEG_STAT (sub - 0x10))
  else match sub with
    | 0x00 => some (topEnt 0x24)
    | 0x01 => some (rwFld .bool false 1 .conf F.GWY_CTRL_EN 0 0 1)
    | 0x02 => some (roReg 4 true 1 .GWY_STAT 0)
    | 0x03 => some (roReg 4 false 2 .GWY_CNT0 0)
    | 0x04 => some (roReg 4 false 2 .GWY_CNT1 0)
    | 0x05 => some (roReg 4 false 2 .GWY_CNT2 0)
    | 0x06 => some (rwFld (.u 2) false 1 .conf F.GWY_CTRL_QUAR_TIME 0 1 3600)
    | 0x07 => some (rwFld (.u 1) false 2 .conf F.GWY_CTRL_BP_MAX 0 1 100)
    | 0x08 => some (cmdEnt false 1 (fun v => v == 1 || v == 2) fun s v => s.fwPut .GWY_CMD 0 (if v = 1 then 2 else 1))
    | 0x20 => some (imageEnt 2 routeRegs)
    | 0x21 => some { imageEnt 2 allRings with put := fun s _ b => s.ringsWrite b }
    | 0x22 => some (imageEnt 2 (byIndex 31 [.GWY_BKT_CFG]))
    | 0x23 => some (imageEnt 2 (byIndex 8 [.GWY_ACF_RXLO, .GWY_ACF_RXHI, .GWY_ACF_RXEN]))
    | 0x24 => some (imageEnt 2 (byIndex 9 [.GWY_SRC_CFG] ++ byIndex 12 [.GWY_SEG_CFG]))
    | _ => none

end Sys2Proof.Machine
end

