-- ==== Sys2Proof/Machine/Sess.lean ====
section
/-! DEFINITION. Sessions of the dictionary (R511 to R516) over SDO and Nydulet: levels, nonces, authentication, lockout, idle timeout, end. -/

namespace Sys2Proof.Machine

def State.setOd (s : State) (o : OdSt) : State := { s with od := o }

/-- The session of a client. -/
def State.sessOf (s : State) (c : Client) : Option Sess := s.od.sess.find? fun x => x.client == c

/-- The level of a client's accesses: operator outside any session (R511). -/
def State.levelOf (s : State) (c : Client) : Nat := match s.sessOf c with | some x => x.level | none => 1
/-- The client accesses within a service session, or within a factory session. -/
def State.svcOf (s : State) (c : Client) : Bool := decide (2 ≤ s.levelOf c)
def State.facOf (s : State) (c : Client) : Bool := s.levelOf c == 3

def clientSdo : Client → Bool | .sdo _ => true | .nyd _ => false

/-- Idle timeout of a client's session, ns (R516). -/
def State.sessIdle (s : State) (c : Client) : Nat := sec (s.odNum (if clientSdo c then 0x1E00 else 0x1E20) 5 300)

/-- A client's session ends; the end of a service session is journalled (R516). -/
def State.sessEnd (s : State) (c : Client) : State :=
  match s.sessOf c with
  | none => s
  | some x =>
    let s := s.setOd { s.od with sess := s.od.sess.filter fun y => y.client != c }
    if 2 ≤ x.level then s.raise .DICT_SESSION else s

/-- An access has been accepted through the client's session. -/
def State.sessTouch (s : State) (c : Client) : State :=
  s.setOd { s.od with sess := s.od.sess.map fun x => if x.client = c then { x with last := s.now } else x }

/-- Sessions whose idle timeout has run by now end (R516). -/
def State.sessSweep (s : State) : State :=
  s.each (s.od.sess.filter fun x => decide (x.last + s.sessIdle x.client ≤ s.now)) fun s x => s.sessEnd x.client

/-- The idle timeout of a client's session falls due. -/
def State.sessTimeout (s : State) (c : Client) : State :=
  match s.sessOf c with
  | none => s
  | some x => (s.advanceTo (x.last + s.sessIdle c)).sessEnd c

/-- Every session of the clients that `p` selects ends. -/
def State.sessEndAll (s : State) (p : Client → Bool) : State :=
  s.each (s.od.sess.filter fun x => p x.client) fun s x => s.sessEnd x.client

/-! ## Authentication -/

/-- A lockout that has run out by now ends (R515). -/
def State.authUnlock (s : State) : State :=
  match s.od.lockUntil with
  | some t => if t ≤ s.now then s.setOd { s.od with lockUntil := none, fails := 0 } else s
  | none => s

/-- The 60 s of a lockout run out. -/
def State.authLockEnd (s : State) : State :=
  match s.od.lockUntil with
  | some t => (s.advanceTo t).authUnlock
  | none => s

/-- A failed authentication (R515). -/
def State.authFail (s : State) : State :=
  if s.od.lockUntil.isSome then s
  else if s.od.fails + 1 < 3 then s.setOd { s.od with fails := s.od.fails + 1 }
  else (s.setOd { s.od with fails := 3, lockUntil := some (s.now + sec 60) }).raise .DICT_AUTH_FAIL

/-- A nonce is issued to a client for one attempt (R513, R533). -/
def State.issueNonce (s : State) (c : Client) (level : Nat) : List Byte × State :=
  let r := s.trng 16
  (r.1, r.2.setOd { r.2.od with nonce := assoc c (r.1, r.2.now, level) r.2.od.nonce })

/-- The client's nonce, if it is still valid, and the state in which it is used up. -/
def State.takeNonce (s : State) (c : Client) : Option (List Byte × Nat) × State :=
  (match lookup c s.od.nonce with
   | some (n, t, l) => if s.now < t + sec 1 then some (n, l) else none
   | none => none,
   s.setOd { s.od with nonce := s.od.nonce.filter fun x => x.1 != c })

/-- A session of level 2 or 3 is open. -/
def State.highOpen (s : State) : Bool := s.od.sess.any fun x => decide (2 ≤ x.level)

/-- Nydulet sessions. -/
def State.nydSessions (s : State) : Nat := (s.od.sess.filter fun x => !clientSdo x.client).length

/-- A session of `level` cannot be opened now: another of level 2 or 3 is open (R514), or four Nydulet sessions are (R533). -/
def State.sessFull (s : State) (c : Client) (level : Nat) : Bool :=
  (decide (2 ≤ level) && s.highOpen) || (!clientSdo c && (s.sessOf c).isNone && decide (4 ≤ s.nydSessions))

/-- A session opens; one that the same client holds is replaced. -/
def State.sessStart (s : State) (x : Sess) : State :=
  let s := s.sessEnd x.client
  let s := s.setOd { s.od with sess := s.od.sess ++ [x], fails := 0 }
  if 2 ≤ x.level then s.raise .DICT_SESSION else s

/-- Key of a session level (R572): 4 operator, 5 service, 6 factory; none where it is absent and while customs is safe (R586). -/
def State.levelKey (s : State) (level : Nat) : Option (List Byte) :=
  if s.cust.safe then none else s.key (3 + level)

/-- A write of 1E00:02: level and tag (R513 to R515). A level that the lifecycle state does not permit is refused and counts no failure
(R576). -/
def State.sdoAuth (s : State) (c : Client) (b : List Byte) : State × Nat :=
  let s := s.authUnlock
  let level := leNat (b.take 1)
  let x := s.takeNonce c
  let s := x.2
  if b.length < 33 then (s, abTooShort)
  else if 33 < b.length then (s, abTooLong)
  else if level ≠ 2 ∧ level ≠ 3 then (s, abRange)
  else if s.od.lockUntil.isSome then (s, abStored)
  else if !s.lcLevel level then (s, abStored)
  else if s.sessFull c level then (s, abState)
  else
    let s := s.keyUsed (3 + level)
    let ok := match x.1, s.levelKey level with
      | some (n, _), some k => decide (b.drop 1 = hmacSha256 k (n ++ serialBytes ++ leBytes 1 level))
      | _, _ => false
    if ok then (s.sessStart { client := c, level := level, last := s.now }, 0) else (s.authFail, abStored)

end Sys2Proof.Machine
end

