-- ==== Sys2Proof/Machine/OdC.lean ====
section
/-! DEFINITION. The entries of the harbour master, access, customs, update, journal and register window objects (2900 to 5000) and of the
communication objects (1000 to 1FFF). -/

namespace Sys2Proof.Machine

/-- Steps of an entry that are taken all or not at all. -/
def State.whole (s : State) (x : State × Nat) : State × Nat := if x.2 = 0 then x else (s, x.2)

/-! ## 2900 to 291B (harbour master) -/

/-- The wake timer in seconds, 0 while it is off (2900:05). -/
def State.wakeTimer (s : State) : Nat := if s.flag F.NM_WAKE_CFG_TIMER_EN then s.fld F.NM_WAKE_TIMER_SECONDS else 0

def State.setWakeTimer (s : State) (v : Nat) : State × Nat :=
  if v = 0 then s.fwField F.NM_WAKE_CFG_TIMER_EN 0 0
  else if v ≤ 604800 then s.whole (State.andPut (s.fwField F.NM_WAKE_TIMER_SECONDS 0 v) fun s => s.fwField F.NM_WAKE_CFG_TIMER_EN 0 1)
  else (s, abRange)

def od2900 (sub : Nat) : Option OdEnt :=
  match sub with
  | 0x00 => some (topEnt 0x0A)
  | 0x01 => some (rwFld .bool false 1 .conf F.NM_CTRL_EN 0 0 1)
  | 0x02 => some (rwFld .bool true 1 .any F.NM_MODNEED_NEED 0 0 1)
  | 0x03 => some (roReg 1 false 1 .NM_WAKE_REASON 0)
  | 0x04 => some (roReg 2 false 1 .NM_WAKE_SRC 0)
  | 0x05 => some (numEnt (.u 4) .rw false 1 .conf State.wakeTimer State.setWakeTimer)
  | 0x06 => some (rwFld .bool false 1 .conf F.NM_WAKE_CFG_WAKEIN_EN 0 0 1)
  | 0x07 => some (rwFld (.u 1) false 1 .conf F.NM_WAKE_CFG_WO_MODE 0 0 2)
  | 0x08 => some (rwFld (.u 2) false 2 .conf F.NM_WAKE_CFG_WO_PULSE 0 10 2550 10)
  | 0x09 => some (rwFld .bool false 2 .conf F.NM_CTRL_MA_ALWAYS 0 0 1)
  | 0x0A => some (roReg 4 true 1 .NM_STAT 0)
  | _ => none

/-- BASE and XTD of a segment (2910:06), in the order in which the range check of the two registers holds between them. -/
def State.setKaid (s : State) (g v : Nat) : State × Nat :=
  let base := fun (s : State) => s.fwPut .NM_SEG_KAID g (v % 2 ^ 29)
  let xtd := fun (s : State) => s.fwField F.NM_SEG_CFG_XTD g (v / 2 ^ 29)
  if 2 ^ 30 ≤ v then (s, abRange)
  else s.whole (if v < 2 ^ 29 then State.andPut (base s) xtd else State.andPut (xtd s) base)

/-- START, ISOLATE_STUCK, MODNEED, WAKEIN in bits 0 to 3 (2910:0C). -/
def State.setSegBits (s : State) (g v : Nat) : State × Nat :=
  if 15 < v then (s, abRange)
  else s.fwFields .NM_SEG_CFG g [(F.NM_SEG_CFG_START, v % 2), (F.NM_SEG_CFG_ISOLATE_STUCK, v / 2 % 2), (F.NM_SEG_CFG_MODNEED, v / 4 % 2),
    (F.NM_SEG_CFG_WAKEIN, v / 8)]

def od2910 (g sub : Nat) : Option OdEnt :=
  match sub with
  | 0x00 => some (topEnt 0x12)
  | 0x01 => some (rwFld .bool false 1 .conf F.NM_SEG_CFG_EN g 0 1)
  | 0x02 => some (rwFld .bool true 1 .any F.NM_SEG_NEED_SW g 0 1)
  | 0x03 => some (roFld (.u 1) true 1 F.NM_SEG_STAT_STATE g)
  | 0x04 => some (rwFld (.u 1) false 1 .conf F.NM_SEG_CFG_NODE g 0 63)
  | 0x05 => some (rwFld (.u 1) false 1 .conf F.NM_SEG_CFG_NODES g 1 64)
  | 0x06 => some (numEnt (.u 4) .rw false 1 .conf (fun s => s.fld F.NM_SEG_KAID_BASE g + 2 ^ 29 * s.fld F.NM_SEG_CFG_XTD g)
      fun s v => s.setKaid g v)
  | 0x07 => some (rwFld (.u 2) false 1 .conf F.NM_SEG_TIME_T_KA g 10 2000 10)
  | 0x08 => some (rwFld (.u 2) false 1 .conf F.NM_SEG_TIME_T_SILENCE g 100 10000 10)
  | 0x09 => some (rwFld (.u 2) false 1 .conf F.NM_SEG_TIME_T_PREP g 0 2000 10)
  | 0x0A => some (rwFld (.u 2) false 1 .conf F.NM_SEG_MAXAW_MAX_AWAKE g 1 1440)
  | 0x0B => some (rwFld (.u 2) false 1 .conf F.NM_SEG_MAXAW_OWN_MAX g 0 1440)
  | 0x0C => some (numEnt (.u 1) .rw false 2 .conf (fun s => s.fld F.NM_SEG_CFG_START g + 2 * s.fld F.NM_SEG_CFG_ISOLATE_STUCK g +
      4 * s.fld F.NM_SEG_CFG_MODNEED g + 8 * s.fld F.NM_SEG_CFG_WAKEIN g) fun s v => s.setSegBits g v)
  | 0x0D => some (rwReg false 2 .conf .NM_SEG_WUF g)
  | 0x0E => some (numEnt (.u 8) .rw false 2 .conf (fun s => (s.rd .NM_SEG_WUFD0 g).toNat + 2 ^ 32 * (s.rd .NM_SEG_WUFD1 g).toNat)
      fun s v => s.whole (State.andPut (s.fwPut .NM_SEG_WUFD0 g v) fun s => s.fwPut .NM_SEG_WUFD1 g (v / 2 ^ 32)))
  | 0x0F => some (roEnt (.u 8) false 1 fun s => (s.view .NM_SEG_STUCK0 g).toNat + 2 ^ 32 * (s.view .NM_SEG_STUCK1 g).toNat)
  | 0x10 => some (roReg 4 true 1 .NM_SEG_STAT g)
  | 0x11 => some (cmdEnt false 1 (fun v => v == 1 || v == 2) fun s v => s.fwPut .NM_SEG_CMD g v)
  | 0x12 => some (rwFld (.u 2) false 2 .conf F.NM_SEG_TIME_REPEAT g 0 1500 100)
  | _ => none

/-! ## 2A00 to 2A1F (access, token slots) -/

def zoneRegs : List (Reg × Nat) := byIndex 8 [.ACC_ZONE_CFG, .ACC_ZONE_MIN, .ACC_ZONE_EXT, .ACC_ZONE_MAX]
def gateRegs : List (Reg × Nat) := byIndex 8 [.ACC_GATE_CFG, .ACC_GATE_SEL, .ACC_GATE_HOLD, .ACC_GATE_MSG] ++ byIndex 8 [.ACC_MSGCFG]

def od2A00 (sub : Nat) : Option OdEnt :=
  match sub with
  | 0x00 => some (topEnt 0x24)
  | 0x01 => some (rwFld .bool false 1 .conf F.ACC_CTRL_POLL_EN 0 0 1)
  | 0x02 => some (rwFld (.u 1) false 1 .conf F.ACC_CTRL_BAND 0 0 2)
  | 0x03 => some (rwFld (.u 2) false 1 .conf F.ACC_CTRL_POLL_INT 0 100 10000 100)
  | 0x04 => some (rwFld (.u 1) false 1 .conf F.ACC_AER_EN 0 0 63)
  | 0x05 => some (rwFld (.u 2) false 2 .conf F.ACC_AER_DRIVE 0 100 2000 100)
  | 0x06 => some (rwFld .bool false 1 .conf F.ACC_CTRL_WATCH_EN 0 0 1)
  | 0x07 => some (rwFld (.u 1) false 2 .conf F.ACC_AER_WATCH 0 0 63)
  | 0x08 => some (rwFld (.u 2) false 2 .conf F.ACC_AER_WATCH_DRIVE 0 100 2000 100)
  | 0x09 => some (rwFld (.u 2) false 2 .conf F.ACC_SEC_RESP_MAX 0 310 500)
  | 0x0A => some (rwFld (.u 1) false 2 .conf F.ACC_SEC_LOCK_FAILS 0 2 15)
  | 0x0B => some (rwFld (.u 2) false 2 .conf F.ACC_SEC_LOCK_TIME 0 10 3600)
  | 0x0C => some (roReg 4 true 1 .ACC_STAT 0)
  | 0x0D => some { ty := .oct, acc := .ro,
                   get := fun s _ => (s, 0, leBytes 4 (s.view .ACC_RSSI0).toNat ++ leBytes 2 (s.view .ACC_RSSI1).toNat) }
  | 0x10 => some (imageEnt 2 zoneRegs)
  | 0x11 => some (imageEnt 2 gateRegs)
  | 0x12 => some (imageEnt 2 (byIndex 136 [.ACC_GOUT]))
  | 0x13 => some { ty := .dom, acc := .ro, get := fun s _ => s.imageRead (byIndex 64 [.ACC_DENY]) }
  | 0x14 => some (numEnt (.u 1) .wo false 2 .any (fun _ => 0) State.learnWrite)
  | 0x20 => some { ty := .dom, acc := .wo, lvl := 2, put := fun s c b => s.enrolWrite (s.svcOf c) b }
  | 0x21 => some { ty := .u 1, acc := .wo, lvl := 2, put := fun s c b => s.revokeWrite (s.svcOf c) (leNat b) }
  | 0x22 => some (roEnt (.u 1) false 1 fun s => s.acc.result)
  | 0x23 => some (roEnt (.u 4) false 1 fun s => s.acc.sysId % 2 ^ 24)
  | 0x24 => some { ty := .u 1, acc := .wo, lvl := 3, put := fun s c b => s.rekeyWrite (s.facOf c) (leNat b) }
  | _ => none

def od2A10 (i sub : Nat) : Option OdEnt :=
  match sub with
  | 0x00 => some (topEnt 0x07)
  | 0x01 => some (roReg 4 true 1 .ACC_SLOT_STAT i)
  | 0x02 => some (roReg 4 false 1 .ACC_SLOT_ID i)
  | 0x03 => some (roEnt .bool false 1 fun s => if (s.slotc i).master then 1 else 0)
  | 0x04 => some (roFld (.u 1) false 1 F.ACC_SLOT_STAT_VER i)
  | 0x05 => some (roFld (.u 1) true 1 F.ACC_SLOT_STAT_ZONE i)
  | 0x06 => some (roReg 4 true 1 .ACC_SLOT_AGE i)
  | 0x07 => some (roFld (.i 2) false 1 F.ACC_SLOT_STAT_DELAY i)
  | _ => none

/-! ## 2B00 (security) -/

def od2B00 (sub : Nat) : Option OdEnt :=
  match sub with
  | 0x00 => some (topEnt 0x30)
  | 0x01 => some (roEnt (.u 1) false 1 fun s => s.cust.lc)
  | 0x02 => some (roEnt (.u 1) false 1 fun s => s.cust.returns)
  | 0x03 => some (roEnt (.u 1) false 1 fun s => s.cust.enrols)
  | 0x04 => some (roEnt (.u 1) true 1 fun s => s.cust.dbg.level)
  | 0x05 => some (roEnt (.u 4) false 2 fun s => bitsOf 32 fun k => (s.key k).isSome)
  | 0x06 => some (roReg 4 false 2 .CUST_LC 0)
  | 0x10 => some { ty := .dom, acc := .wo, lvl := 3, anyone := fun s => s.cust.lc == 1 && (s.key 6).isNone
                   put := fun s c b => s.keyRecord (s.facOf c) b }
  | 0x20 => some { ty := .dom, acc := .wo, lvl := 2, put := fun s c b => s.lcRequest (s.svcOf c) (s.facOf c) b }
  | 0x21 => some { ty := .oct, acc := .ro, lvl := 2, get := fun s _ => (s.lcNonce.2, 0, s.lcNonce.1) }
  | 0x30 => some (numEnt .bool .rw false 3 .conf (fun s => if s.cust.dbg.enabled then 1 else 0) fun s v =>
      if v ≤ 1 then (s.dbgEnable (v == 1), 0) else (s, abRange))
  | _ => none

/-! ## 2C00 (update) and the program entries 1F50, 1F51 -/

def od2C00 (sub : Nat) : Option OdEnt :=
  match sub with
  | 0x00 => some (topEnt 0x0C)
  | 0x01 => some (roFld (.u 1) true 1 F.UPD_STAT_STATE 0)
  | 0x02 => some (roFld (.u 2) true 1 F.UPD_STAT_BLOCKS 0)
  | 0x03 => some (roFld (.u 2) false 1 F.UPD_INFO_NBLK 0)
  | 0x04 => some (roReg 4 false 1 .UPD_SVER 0)
  | 0x05 => some (roReg 4 false 1 .UPD_RVER 0)
  | 0x06 => some (roFld (.u 1) false 1 F.UPD_INFO_ROLLBACK 0)
  | 0x07 => some (roFld (.u 1) false 1 F.UPD_STAT_REFUSE 0)
  | 0x08 => some { ty := .dom, acc := .ro, get := fun s _ => s.imageRead (byIndex 32 [.UPD_BITMAP]) }
  | 0x09 => some (numEnt (.u 2) .rw false 2 .conf (fun s => s.fld F.UPD_CTRL_PARK_SRC + 2 ^ 15 * s.fld F.UPD_CTRL_PARK_INV) fun s v =>
      if v / 2 ^ 9 % 64 = 0 then s.fwFields .UPD_CTRL 0 [(F.UPD_CTRL_PARK_SRC, v % 2 ^ 9), (F.UPD_CTRL_PARK_INV, v / 2 ^ 15)]
      else (s, abRange))
  | 0x0A => some (rwFld (.u 1) false 2 .conf F.UPD_CTRL_TRIAL_TIME 0 5 255)
  | 0x0B => some (roFld (.u 1) false 1 F.UPD_INFO_TRIAL 0)
  | 0x0C => some (roEnt (.u 2) false 2 fun s => match s.upd.marker with | .resoling n => n | _ => 0xFFFF)
  | _ => none

def od1F50 (sub : Nat) : Option OdEnt :=
  match sub with
  | 0x00 => some (topEnt 0x01 2)
  | 0x01 => some { ty := .dom, acc := .wo, lvl := 2, put := fun s _ b => s.parcel b }
  | _ => none

def od1F51 (sub : Nat) : Option OdEnt :=
  match sub with
  | 0x00 => some (topEnt 0x01 2)
  | 0x01 => some (numEnt (.u 1) .rw false 2 .any (fun s => if s.upd.runOk then 1 else 0) fun s v =>
      if v = 1 then refusedAs abState (s.activate true) else if v = 3 then refusedAs abState s.stageClear else (s, abRange)).loose
  | _ => none

/-! ## 1001, 1003 and 2E00 (journal) -/

/-- Words 0 and 3 of the newest entry (2E00:02); 0 while the ring is empty. -/
def State.newestEntry (s : State) : Nat :=
  let a := jnlAddr s.seqNew
  if s.jnl.any then s.word a + 2 ^ 32 * s.word (a + 12) else 0

/-- The persisted entries in the order of their NVM slots (2E00:07): the k-th entry ever persisted lies in slot k mod 512. -/
def State.persistedImage (s : State) : List Byte :=
  let n := s.jnl.nvm.length
  let first := s.jnl.nvmCount - n
  (List.range 512).flatMap fun slot =>
    match s.jnl.nvm[(slot + 512 - first % 512) % 512]? with
    | some e => e.2
    | none => List.replicate 32 0xFF

def od2E00 (sub : Nat) : Option OdEnt :=
  match sub with
  | 0x00 => some (topEnt 0x09)
  | 0x01 => some (roReg 4 true 1 .JNL_SEQ_NEW 0)
  | 0x02 => some (roEnt (.u 8) true 1 State.newestEntry)
  | 0x03 => some (rwFld (.u 1) false 2 .any F.JNL_CTRL_PERSIST_MIN 0 0 5)
  | 0x04 => some (rwFld (.u 1) false 2 .any F.JNL_CTRL_EMCY_MIN 0 0 5)
  | 0x05 => some (roReg 4 false 1 .JNL_ERR 0)
  | 0x06 => some { ty := .dom, acc := .ro, lvl := 2, get := fun s _ => (s, 0, s.bytes 0x20300000 131072) }
  | 0x07 => some { ty := .dom, acc := .ro, lvl := 2, get := fun s _ => (s, 0, s.persistedImage) }
  | 0x08 => some (cmdEnt false 2 (· == 1) fun s _ => s.fwPut .JNL_CMD 0 1)
  | 0x09 => some (roReg 4 false 1 .JNL_CNT 0)
  | _ => none

def od1003 (sub : Nat) : Option OdEnt :=
  if sub = 0 then some (numEnt (.u 1) .rw true 1 .any (fun s => s.jnl.err1003.length) fun s v =>
    if v = 0 then s.fwPut .JNL_CMD 0 2 else (s, abRange))
  else if sub ≤ 0x10 then some (roEnt (.u 4) false 1 fun s => s.jnl.err1003.getD (sub - 1) 0)
  else none

/-! ## 5000 (expert register window) -/

/-- The window's accesses: master 4, privileged while the session lasts (R543). -/
def windowWho : Who := { code := 4, rank := 1 }

/-- The words of a window read: the words, newest first, how many completed before the first bus error, and whether a bus error and a
violation occurred. A word that ends in either reads 0. -/
def State.windowWords (s : State) (a n : Nat) : State × (List Nat × Nat × Bool × Bool) :=
  let x := s.readWords windowWho a n ([], false, false, 0, 0)
  (x.1, x.2.1, x.2.2.2.2.2, x.2.2.1, x.2.2.2.1)

/-- 5000:04 after an access. -/
def State.setWindow (s : State) (d : Nat) (e g : Bool) : State :=
  s.setOd { s.od with window := d + (if e then 2 ^ 9 else 0) + if g then 2 ^ 10 else 0 }

def State.windowAddr (s : State) : Nat := s.odNum 0x5000 1 0x40000000
def State.windowLen (s : State) : Nat := s.odNum 0x5000 2 1

/-- A read of 5000:03 (R543). -/
def State.windowRead (s : State) : State × List Byte :=
  let x := s.windowWords s.windowAddr s.windowLen
  (x.1.setWindow x.2.2.1 x.2.2.2.1 x.2.2.2.2, x.2.1.reverse.flatMap (leBytes 4))

/-- The words of a window write: it stops at the first bus error. -/
def State.windowPut (s : State) (a : Nat) : List Nat → Nat × Bool → State × (Nat × Bool × Bool)
  | [], (d, g) => (s, (d, false, g))
  | v :: r, (d, g) =>
    let x := s.busWho windowWho a .b32 true v
    match x.2 with
    | .ok _ => x.1.windowPut (a + 4) r (d + 1, g)
    | .viol => x.1.windowPut (a + 4) r (d + 1, true)
    | .err _ => (x.1, (d, true, g))

/-- A write of 5000:03 (R542, R543). -/
def State.windowWrite (s : State) (b : List Byte) : State × Nat :=
  if b.length < 4 then (s, abTooShort)
  else if 1024 < b.length then (s, abTooLong)
  else if b.length % 4 ≠ 0 then (s, abLength)
  else
    let x := s.windowPut s.windowAddr (leWords (b.length / 4) b) (0, false)
    (x.1.setWindow x.2.1 x.2.2.1 x.2.2.2, if x.2.2.1 then abBus else 0)

def od5000 (sub : Nat) : Option OdEnt :=
  match sub with
  | 0x00 => some (topEnt 0x04 2)
  | 0x01 => some (valEnt (.u 4) 2 .any 0x5000 1 (fun _ => 0x40000000) fun v => v % 4 == 0).loose
  | 0x02 => some (valEnt (.u 2) 2 .any 0x5000 2 (fun _ => 1) (inRange 1 256)).loose
  | 0x03 => some { ty := .dom, acc := .rw, lvl := 2, keep := false,
                   get := fun s _ => (s.windowRead.1, 0, s.windowRead.2), put := fun s _ b => s.windowWrite b }
  | 0x04 => some (roEnt (.u 2) false 2 fun s => s.od.window)
  | _ => none

/-! ## 1000 to 1FFF (communication) -/

/-- The node ID in effect on a port, 0 on a port that is no dictionary port (R517). -/
def State.nodeOn (s : State) (p : Nat) : Nat := (lookup p s.od.nodes).getD 0

/-- The node ID that the default COB-IDs take: that of the lowest dictionary port. -/
def State.nodeId (s : State) : Nat := match s.dictPorts with | p :: _ => s.nodeOn p | [] => 0

/-- Store and restore (R537, R538, R540): save and load as the bytes spell them. -/
def saveWord : Nat := 0x65766173
def loadWord : Nat := 0x64616F6C

/-- A store is requested by a client (R537, R538): it begins when the command in progress ends, or joins the one that waits. The reply
follows the commit. -/
def State.storeRequest (s : State) (c : Client) : State × Nat :=
  let w := (c, s.now, 0)
  if s.mode' ≠ 3 ∧ s.mode' ≠ 4 ∧ s.mode' ≠ 6 then (s, abState)
  else if s.extracting then (s, abState)
  else
    let join := fun (j : Job) => { j with who := j.who ++ [w] }
    let jobs := match s.od.jobs with
      | [] => [{ who := [w] }]
      | [j] => if j.begun then [j, { who := [w] }] else [join j]
      | j :: k :: r => j :: join k :: r
    (s.setOd { s.od with jobs := jobs }, abLater)

/-- Both banks are marked restored (R540). -/
def State.restoreDefaults (s : State) : State :=
  s.setOd { s.od with markDue := false
                      banks := (List.range 2).map fun i => (i, { (lookup i s.od.banks).getD {} with st := 3 }) }

/-- The write of 1011:01 is accepted: its mark is a write of data NVM, which waits while such writes are deferred (R165, R540). -/
def State.restoreRequest (s : State) : State :=
  if s.nvmDeferred then s.setOd { s.od with markDue := true } else s.restoreDefaults

def od1010 (sub : Nat) : Option OdEnt :=
  match sub with
  | 0x00 => some (topEnt 0x01)
  | 0x01 => some { ty := .u 4, acc := .rw, lvl := 2, keep := false, get := fun s _ => (s, 0, leBytes 4 1),
                   put := fun s c b => if leNat b = saveWord then s.storeRequest c else (s, abStored) }
  | _ => none

def od1011 (sub : Nat) : Option OdEnt :=
  match sub with
  | 0x00 => some (topEnt 0x01)
  | 0x01 => some { ty := .u 4, acc := .rw, lvl := 2, keep := false, get := fun s _ => (s, 0, leBytes 4 1),
                   put := fun s _ b => if leNat b = loadWord then (s.restoreRequest, 0) else (s, abStored) }
  | _ => none

/-- SDO server `n` (R520); its COB-IDs are marked invalid on a port that is no dictionary port. -/
def State.serverCob (s : State) (n base : Nat) : Nat :=
  if s.nodeOn n = 0 then 2 ^ 31 + base else base + s.nodeOn n

def od1200 (n sub : Nat) : Option OdEnt :=
  match sub with
  | 0x00 => some (topEnt 0x02)
  | 0x01 => some (roEnt (.u 4) false 1 fun s => s.serverCob n 0x600)
  | 0x02 => some (roEnt (.u 4) false 1 fun s => s.serverCob n 0x580)
  | _ => none

/-- Default COB-ID of PDO `k` (from 0) whose first base is `base` (R521). -/
def State.pdoCob (s : State) (base k : Nat) : Nat := 2 ^ 31 + if k < 4 then base + 0x100 * k + s.nodeId else 0

/-- Transmission types that PDOs take (R521). -/
def pdoType (v : Nat) : Bool := decide (v ≤ 240) || v == 254 || v == 255

def od1400 (k sub : Nat) : Option OdEnt :=
  let i := 0x1400 + k
  match sub with
  | 0x00 => some (topEnt 0x20)
  | 0x01 => some (valEnt (.u 4) 1 .conf i 1 (fun s => s.pdoCob 0x200 k) fun _ => true)
  | 0x02 => some (valEnt (.u 1) 1 .conf i 2 (fun _ => 255) pdoType)
  | 0x05 => some (valEnt (.u 2) 1 .conf i 5 (fun _ => 0) fun _ => true)
  | 0x20 => some (valEnt (.u 1) 1 .conf i 0x20 (fun _ => 0) (inRange 0 7))
  | _ => none

def od1800 (k sub : Nat) : Option OdEnt :=
  let i := 0x1800 + k
  match sub with
  | 0x00 => some (topEnt 0x20)
  | 0x01 => some (valEnt (.u 4) 1 .conf i 1 (fun s => s.pdoCob 0x180 k) fun _ => true)
  | 0x02 => some (valEnt (.u 1) 1 .conf i 2 (fun _ => 255) pdoType)
  | 0x03 => some (valEnt (.u 2) 1 .conf i 3 (fun _ => 0) fun _ => true)
  | 0x05 => some (valEnt (.u 2) 1 .conf i 5 (fun _ => 0) fun _ => true)
  | 0x06 => some (valEnt (.u 1) 1 .conf i 6 (fun _ => 0) (inRange 0 240))
  | 0x20 => some (valEnt (.u 1) 1 .conf i 0x20 (fun _ => 0) (inRange 0 7))
  | _ => none

/-- Sessions over SDO (R513): object 1E00. -/
def od1E00 (sub : Nat) : Option OdEnt :=
  match sub with
  | 0x00 => some (topEnt 0x06)
  | 0x01 => some { ty := .oct, acc := .ro, get := fun s c =>
                   if clientSdo c then ((s.issueNonce c 0).2, 0, (s.issueNonce c 0).1) else (s, abState, []) }
  | 0x02 => some { ty := .oct, acc := .wo, put := fun s c b => if clientSdo c then s.sdoAuth c b else (s, abState) }
  | 0x03 => some { ty := .u 1, acc := .ro, get := fun s c => (s, 0, leBytes 1 (match s.sessOf c with | some x => x.level | none => 0)) }
  | 0x04 => some { ty := .u 1, acc := .wo, put := fun s c b => if leNat b = 1 then (s.sessEnd c, 0) else (s, abRange) }
  | 0x05 => some (valEnt (.u 2) 1 .any 0x1E00 5 (fun _ => 300) (inRange 10 3600))
  | 0x06 => some (roEnt (.u 8) false 1 fun _ => Config.serial)
  | _ => none

/-- Node IDs (R517): 0 no dictionary port, 1 to 127, 255 derived. -/
def od1E10 (sub : Nat) : Option OdEnt :=
  if sub = 0 then some (topEnt 0x08)
  else if sub ≤ 8 then some (valEnt (.u 1) 1 .any 0x1E10 sub (fun _ => if sub = 1 then 255 else 0) fun v => decide (v ≤ 127) || v == 255)
  else none

def od1E20 (sub : Nat) : Option OdEnt :=
  match sub with
  | 0x00 => some (topEnt 0x09)
  | 0x01 => some (valEnt (.u 4) 1 .any 0x1E20 1 (fun _ => 0) fun _ => true)
  | 0x02 => some (valEnt (.u 4) 1 .any 0x1E20 2 (fun _ => 0xFFFF0000) fun _ => true)
  | 0x03 => some (valEnt (.u 2) 1 .any 0x1E20 3 (fun _ => 47410) fun _ => true)
  | 0x04 => some (valEnt (.u 2) 1 .any 0x1E20 4 (fun _ => 0xFFFF) fun v => inRange 1 0xFFE v || v == 0xFFFF)
  | 0x05 => some (valEnt (.u 2) 1 .any 0x1E20 5 (fun _ => 300) (inRange 10 3600))
  | 0x06 => some (valEnt .bool 1 .any 0x1E20 6 (fun _ => 1) (inRange 0 1))
  | 0x07 => some (roEnt (.u 1) false 1 fun s => s.od.negVer)
  | 0x08 => some (roEnt (.u 2) false 1 fun s => s.od.negBlk)
  | 0x09 => some (roEnt (.u 1) false 1 State.nydSessions)
  | _ => none

def constStr (f : State → List Byte) : OdEnt := { ty := .str, acc := .const, get := fun s _ => (s, 0, f s) }

/-- "major.minor.patch" of the running image (R1, 100A:00). -/
def State.versionStr (s : State) : List Byte :=
  let v := s.runVersion
  decBytes (v / 2 ^ 24) ++ strBytes "." ++ decBytes (v / 2 ^ 16 % 256) ++ strBytes "." ++ decBytes (v % 2 ^ 16)

/-- The communication objects but for the PDO mappings. -/
def odComm (idx sub : Nat) : Option OdEnt :=
  let solo (e : OdEnt) : Option OdEnt := if sub = 0 then some e else none
  if idx = 0x1000 then solo (numEnt (.u 4) .const false 1 .any (fun _ => 0) fun s _ => (s, abRo))
  else if idx = 0x1001 then solo (roEnt (.u 1) true 1 State.errReg)
  else if idx = 0x1003 then od1003 sub
  else if idx = 0x1005 then solo (valEnt (.u 4) 1 .any 0x1005 0 (fun _ => 0x80) fun v => !bitOf v 30)
  else if idx = 0x1008 then solo (constStr fun _ => strBytes "ZC-640")
  else if idx = 0x1009 then solo (constStr fun _ => decBytes Config.hwVersion)
  else if idx = 0x100A then solo (constStr State.versionStr)
  else if idx = 0x1010 then od1010 sub
  else if idx = 0x1011 then od1011 sub
  else if idx = 0x1014 then solo (valEnt (.u 4) 1 .any 0x1014 0 (fun s => 0x80 + s.nodeId) fun _ => true)
  else if idx = 0x1015 then solo (valEnt (.u 2) 1 .any 0x1015 0 (fun _ => 0) fun _ => true)
  else if idx = 0x1016 then
    if sub = 0 then some (topEnt 0x10)
    else if sub ≤ 0x10 then some (valEnt (.u 4) 1 .any 0x1016 sub (fun _ => 0) fun _ => true) else none
  else if idx = 0x1017 then solo (valEnt (.u 2) 1 .any 0x1017 0 (fun _ => 1000) fun _ => true)
  else if idx = 0x1018 then
    match sub with
    | 0 => some (topEnt 0x04)
    | 1 => some (roEnt (.u 4) false 1 fun _ => 0x0D42)
    | 2 => some (roEnt (.u 4) false 1 fun _ => 0x0640)
    | 3 => some (roEnt (.u 4) false 1 fun _ => Config.hwVersion)
    | 4 => some (roEnt (.u 4) false 1 fun _ => Config.serial)
    | _ => none
  else if within 0x1200 0x1208 idx then od1200 (idx - 0x1200) sub
  else if within 0x1400 0x1440 idx then od1400 (idx - 0x1400) sub
  else if within 0x1800 0x1840 idx then od1800 (idx - 0x1800) sub
  else if idx = 0x1E00 then od1E00 sub
  else if idx = 0x1E10 then od1E10 sub
  else if idx = 0x1E20 then od1E20 sub
  else if idx = 0x1F50 then od1F50 sub
  else if idx = 0x1F51 then od1F51 sub
  else none

/-- The objects of the functions (R544). -/
def odFunc (idx sub : Nat) : Option OdEnt :=
  if idx = 0x2000 then od2000 sub
  else if idx = 0x2010 then od2010 sub
  else if within 0x2100 0x2140 idx then od2100 (idx - 0x2100) sub
  else if idx = 0x2140 then od2140 sub
  else if within 0x2150 0x2154 idx then od2150 (idx - 0x2150) sub
  else if idx = 0x2160 then od2160 sub
  else if within 0x2200 0x2218 idx then od2200 (idx - 0x2200) sub
  else if within 0x2220 0x2226 idx then od2220 (idx - 0x2220) sub
  else if within 0x2230 0x2250 idx then od2230 (idx - 0x2230) sub
  else if idx = 0x2250 then od2250 sub
  else if idx = 0x2300 then od2300 sub
  else if within 0x2301 0x2309 idx then od2301 (idx - 0x2301) sub
  else if within 0x2400 0x2420 idx then od2400 (idx - 0x2400) sub
  else if idx = 0x2420 then od2420 sub
  else if within 0x2500 0x2530 idx then od2500 (idx - 0x2500) sub
  else if within 0x2530 0x2540 idx then od2530 (idx - 0x2530) sub
  else if idx = 0x2600 then od2600 sub
  else if within 0x2601 0x2641 idx then od2601 (idx - 0x2601) sub
  else if within 0x2700 0x2708 idx then od2700 (idx - 0x2700) sub
  else if within 0x2780 0x2784 idx then od2780 (idx - 0x2780) sub
  else if idx = 0x2790 then od2790 sub
  else if idx = 0x2800 then od2800 sub
  else if idx = 0x2880 then od2880 sub
  else if idx = 0x2900 then od2900 sub
  else if within 0x2910 0x291C idx then od2910 (idx - 0x2910) sub
  else if idx = 0x2A00 then od2A00 sub
  else if within 0x2A10 0x2A20 idx then od2A10 (idx - 0x2A10) sub
  else if idx = 0x2B00 then od2B00 sub
  else if idx = 0x2C00 then od2C00 sub
  else if idx = 0x2D00 then od2D00 sub
  else if idx = 0x2E00 then od2E00 sub
  else if idx = 0x5000 then od5000 sub
  else none

/-- Every entry but the words of the PDO mappings, none of which is mappable. -/
def odPlain (idx sub : Nat) : Option OdEnt := if idx < 0x2000 then odComm idx sub else odFunc idx sub

/-! ## PDO mappings (R522) -/

/-- A mapping word: index, subindex, length in bits. -/
def mapIdx (w : Nat) : Nat := w / 2 ^ 16
def mapSub (w : Nat) : Nat := w / 2 ^ 8 % 256
def mapLen (w : Nat) : Nat := w % 256

/-- Bits that an entry of a type takes in a PDO (CiA 301). -/
def OdTy.pdoBits : OdTy → Nat | .bool => 1 | t => 8 * t.size

/-- Bits of the dummy types 0002 to 0007. -/
def dummyBits (idx : Nat) : Option Nat :=
  match idx with
  | 2 => some 8 | 3 => some 16 | 4 => some 32 | 5 => some 8 | 6 => some 16 | 7 => some 32
  | _ => none

/-- Bits that a PDO of a port carries at most. -/
def State.pdoMax (s : State) (p : Nat) : Nat := if s.flag F.CAN_CTRL_FD_EN p then 512 else 64

/-- The abort code of a mapping word, 0 where it may be mapped; an unused word is 0. -/
def State.mapCheck (s : State) (tx : Bool) (p w : Nat) : Nat :=
  if w = 0 then 0
  else
    let bits : Option Nat :=
      match (if tx then none else dummyBits (mapIdx w)) with
      | some b => some b
      | none =>
        match odPlain (mapIdx w) (mapSub w) with
        | some e => if e.pdo && (if tx then e.acc.reads else e.acc.writes) then some e.ty.pdoBits else none
        | none => none
    match bits with
    | none => abNotMappable
    | some b => if b = mapLen w ∧ b ≤ s.pdoMax p then 0 else abMapLength

/-- Word `k` (from 1) of a mapping object, and the number in use. -/
def State.mapWord (s : State) (obj k : Nat) : Nat := s.odNum obj k 0
def State.mapCount (s : State) (obj : Nat) : Nat := s.odNum obj 0 0
def State.mapWords (s : State) (obj : Nat) : List Nat := (List.range (s.mapCount obj)).map fun k => s.mapWord obj (k + 1)

/-- Set a value that no register holds. -/
def State.setVal (s : State) (idx sub : Nat) (b : List Byte) : State :=
  let k := idx * 256 + sub
  s.setOd { s.od with vals := Tbl.ins natLt (Tbl.del s.od.vals k) k b }

/-- Mapping object `obj` of the PDO whose communication object is `com` (R522). The order rule does not bind while the stored set is
applied. -/
def odMap (tx : Bool) (com obj sub : Nat) : Option OdEnt :=
  let off := fun (s : State) => s.mode.applying || decide (2 ^ 31 ≤ s.odNum com 1 (2 ^ 31))
  let port := fun (s : State) => s.odNum com 0x20 0
  if sub = 0 then some (numEnt (.u 1) .rw false 1 .conf (fun s => s.mapCount obj) fun s v =>
    let total := ((List.range v).map fun k => mapLen (s.mapWord obj (k + 1))).sum
    if 16 < v then (s, abRange)
    else if !off s then (s, abState)
    else if !s.mode.applying && decide (s.pdoMax (port s) < total) then (s, abMapLength)
    else (s.setVal obj 0 (leBytes 1 v), 0))
  else if sub ≤ 0x10 then some (numEnt (.u 4) .rw false 1 .conf (fun s => s.mapWord obj sub) fun s v =>
    if !off s || (!s.mode.applying && s.mapCount obj != 0) then (s, abState)
    else
      let c := s.mapCheck tx (port s) v
      if c ≠ 0 then (s, c) else (s.setVal obj sub (leBytes 4 v), 0))
  else none

/-- The entry at an index and subindex. -/
def odFind (idx sub : Nat) : Option OdEnt :=
  if within 0x1600 0x1640 idx then odMap false (idx - 0x200) idx sub
  else if within 0x1A00 0x1A40 idx then odMap true (idx - 0x200) idx sub
  else odPlain idx sub

/-- The object exists (R510, R544): an index with entries. -/
def odHas (idx : Nat) : Bool := (odFind idx 0).isSome

end Sys2Proof.Machine
end

