-- ==== Sys2Proof/Machine/Dict.lean ====
section
/-! DEFINITION. Accesses to the object dictionary (R506 to R512), the stored set (R536 to R541), stores (R537 to R539), and the values in
effect that a Boot or reset communication takes (R517, R545). -/

namespace Sys2Proof.Machine

/-! ## Access -/

/-- Entries that the ROM loader serves (R606). -/
def recoveryEntry (idx sub : Nat) : Bool :=
  (idx == 0x1F50 && sub == 1) || (idx == 0x1F51 && sub == 1) || (idx == 0x1000 && sub == 0) || (idx == 0x1008 && sub == 0) ||
  (idx == 0x1018 && inRange 1 4 sub) || (idx == 0x2C00 && inRange 1 0x0C sub)

/-- The dictionary answers: a mode that serves it, with pair A running (R26, R142, R606). -/
def State.dictServed (s : State) : Bool :=
  s.clk.aDown.isNone && (s.mode' == 3 || s.mode' == 4 || s.mode' == 6 || s.mode' == 7)

/-- The entry that an access names, or the abort code for one that is not there (R510, R606). -/
def State.odEntry (s : State) (idx sub : Nat) : Nat × Option OdEnt :=
  if s.mode' = 7 ∧ !recoveryEntry idx sub then (abNoObject, none)
  else match odFind idx sub with
    | some e => (0, some e)
    | none => (if odHas idx then abNoSub else abNoObject, none)

/-- A client reaches the entry's access level (R512); Recovery asks for no session (R606). -/
def State.odLevel (s : State) (c : Client) (e : OdEnt) : Bool := s.mode' == 7 || e.anyone s || decide (e.lvl ≤ s.levelOf c)

/-- The condition of a write holds. -/
def State.odCond (s : State) (c : Client) (e : OdEnt) : Bool :=
  match e.cond with
  | .any => true
  | .conf => s.mode' == 3 && s.svcOf c
  | .svc => s.svcOf c

/-- A dictionary read (R506, R507, R510, R512). -/
def State.dictRead (s : State) (c : Client) (idx sub : Nat) : State × Nat × List Byte :=
  match s.odEntry idx sub with
  | (ab, none) => (s, ab, [])
  | (_, some e) =>
    if !s.odLevel c e then (s, abLevel, [])
    else if !e.acc.reads then (s, abWo, [])
    else
      let x := e.get s c
      if x.2.1 = 0 then (x.1.sessTouch c, x.2) else (x.1, x.2.1, [])

/-- The abort code of a value's length, 0 where it fits the type. -/
def OdTy.lengthCheck (t : OdTy) (n : Nat) : Nat :=
  if t.size = 0 then 0 else if n < t.size then abTooShort else if t.size < n then abTooLong else 0

/-- The value suits the type: a BOOLEAN is 0 or 1 (R506). -/
def OdTy.valueOk (t : OdTy) (b : List Byte) : Bool := match t with | .bool => decide (leNat b ≤ 1) | _ => true

/-- A dictionary write (R506, R507, R510, R512). A configuration entry that is not open for writing answers as its own rule says, 0x0800_0022,
before its access level is looked at (R227, R287, R342 and their like; DEDUCED, log 105). -/
def State.dictWrite (s : State) (c : Client) (idx sub : Nat) (b : List Byte) : State × Nat :=
  match s.odEntry idx sub with
  | (ab, none) => (s, ab)
  | (_, some e) =>
    if e.acc.writes && !s.odCond c e then (s, abState)
    else if !s.odLevel c e then (s, abLevel)
    else if !e.acc.writes then (s, abRo)
    else if e.ty.lengthCheck b.length ≠ 0 then (s, e.ty.lengthCheck b.length)
    else if !e.ty.valueOk b then (s, abRange)
    else
      let x := e.put s c b
      if x.2 = 0 ∨ x.2 = abLater then (x.1.sessTouch c, x.2) else x

/-- The checks of a write that come before its value, for a transfer in several parts. -/
def State.dictMay (s : State) (c : Client) (idx sub : Nat) (write : Bool) : Nat :=
  match s.odEntry idx sub with
  | (ab, none) => ab
  | (_, some e) =>
    if write && e.acc.writes && !s.odCond c e then abState
    else if !s.odLevel c e then abLevel
    else if write && !e.acc.writes then abRo
    else if !write && !e.acc.reads then abWo
    else 0

/-! ## The stored set -/

/-- The indices that hold entries, ascending (R544). -/
def odIndices : List Nat :=
  [0x1000, 0x1001, 0x1003, 0x1005, 0x1008, 0x1009, 0x100A, 0x1010, 0x1011, 0x1014, 0x1015, 0x1016, 0x1017, 0x1018] ++
  List.range' 0x1200 8 ++ List.range' 0x1400 64 ++ List.range' 0x1600 64 ++ List.range' 0x1800 64 ++ List.range' 0x1A00 64 ++
  [0x1E00, 0x1E10, 0x1E20, 0x1F50, 0x1F51, 0x2000, 0x2010] ++ List.range' 0x2100 65 ++ List.range' 0x2150 4 ++ [0x2160] ++
  List.range' 0x2200 24 ++ List.range' 0x2220 6 ++ List.range' 0x2230 32 ++ [0x2250] ++ List.range' 0x2300 9 ++
  List.range' 0x2400 33 ++ List.range' 0x2500 64 ++ List.range' 0x2600 65 ++ List.range' 0x2700 8 ++ List.range' 0x2780 4 ++
  [0x2790, 0x2800, 0x2880, 0x2900] ++ List.range' 0x2910 12 ++ [0x2A00] ++ List.range' 0x2A10 16 ++
  [0x2B00, 0x2C00, 0x2D00, 0x2E00, 0x5000]

/-- The persistent entries in ascending order, by index * 256 + subindex (R508, R541). -/
def persistentKeys : List Nat :=
  odIndices.flatMap fun i => ((List.range 256).filter fun k => match odFind i k with | some e => e.persistent | none => false).map
    fun k => i * 256 + k

/-- The client in whose name firmware takes and applies the stored set. -/
def ownClient : Client := .sdo 0

/-- The values of every persistent entry at one instant (R537). -/
def State.takeSet (s : State) : State × List (Nat × List Byte) :=
  persistentKeys.foldl (fun x k => match odFind (k / 256) (k % 256) with
    | some e => let r := e.get x.1 ownClient; (r.1, x.2 ++ [(k, r.2.2)])
    | none => x) (s, [])

/-- The bank that holds the stored set: the valid one with the higher sequence number (R536). -/
def State.storedBank (s : State) : Option (Nat × Bank) :=
  (s.od.banks.filter fun b => b.2.st == 1).foldl (fun best b => match best with
    | some a => if a.2.seq < b.2.seq then some b else best
    | none => some b) none

/-- A persistent entry takes its default: what the module reads there right after a power-on reset. -/
def State.giveDefault (s : State) (k : Nat) : State :=
  match odFind (k / 256) (k % 256) with
  | none => s
  | some e =>
    let d := (e.get State.reset ownClient).2.2
    if !e.persistent || (e.get s ownClient).2.2 = d then s else let x := e.put s ownClient d; if x.2 = 0 then x.1 else s

/-- Entries take their defaults. A value that its register refuses beside another entry's held value takes effect in the second pass. -/
def State.giveDefaults (s : State) (ks : List Nat) : State :=
  let s := { s with mode := { s.mode with applying := true } }
  let s := (s.each ks State.giveDefault).each ks State.giveDefault
  { s with mode := { s.mode with applying := false } }

/-- One stored value is applied; an entry whose value is refused keeps its default (R541). -/
def State.applyEntry (s : State) (k : Nat) (b : List Byte) : State :=
  let bad := fun (s : State) => (s.giveDefault k).raise .DICT_SET_ENTRY 0 [k]
  match odFind (k / 256) (k % 256) with
  | none => bad s
  | some e =>
    if !e.persistent || e.ty.lengthCheck b.length != 0 || !e.ty.valueOk b then bad s
    else
      let x := e.put s ownClient b
      if x.2 = 0 then x.1 else bad x.1

/-- The values of the stored set that `p` selects are applied in ascending order, free of mode and session conditions (R541). -/
def State.applySet (s : State) (p : Nat → Bool) : State :=
  match s.storedBank with
  | none => s
  | some (_, b) =>
    let s := { s with mode := { s.mode with applying := true } }
    let s := s.each (b.vals.filter fun x => p x.1) fun s x => s.applyEntry x.1 x.2
    { s with mode := { s.mode with applying := false } }

/-- A register behind a persistent entry has been written that a module reset keeps: entries that no stored set holds are then given their
defaults (R540, R541). -/
def State.keptConfig (s : State) : Bool :=
  s.regs.any fun e => (e.1.1.card.cfg || e.1.1 == .LEDS_CH_FADE) && (e.1.1.card.dom == .AON || e.1.1.card.dom == .PWR)

/-- Every persistent entry that the stored set lacks takes its default (R540, R541); with no set every wire class returns to R207, whatever
its channels are commanded to (R229). -/
def State.applyDefaults (s : State) : State :=
  match s.storedBank with
  | some (_, b) => s.giveDefaults (persistentKeys.filter fun k => !b.vals.any fun x => x.1 == k)
  | none =>
    (s.giveDefaults persistentKeys).each (List.range 16) fun s c =>
      s.each [Reg.PROT_WC_RES, .PROT_WC_CAP, .PROT_WC_TH] fun s r => s.wr r c (resetVal (r, c))

/-- Values that no register holds return to their defaults. -/
def State.dropVals (s : State) (p : Nat → Bool) : State := s.setOd { s.od with vals := s.od.vals.filter fun x => !p x.1 }

/-- The stored set, or the defaults, at Boot (R541). -/
def State.bootSet (s : State) : State :=
  let s := (s.dropVals fun _ => true).setDbg { s.cust.dbg with enabled := true }
  let s := s.each (List.range 64) fun s n => s.setSwc n { s.swc n with policy := 0 }
  let s := (s.when s.keptConfig State.applyDefaults).applySet fun _ => true
  let damaged := s.od.banks.any (fun b => b.2.st == 2) && !s.od.banks.any fun b => b.2.st == 3
  let s := if s.storedBank.isNone && damaged then s.raise .DICT_SET_INVALID else s
  { s with mode := { s.mode with setApplied := s.storedBank.isSome } }

/-- Node IDs, node address, IPv4 address and UDP port take effect (R517, R545), derived ones from the held position (R128). -/
def State.takeAddresses (s : State) : State :=
  let ok := s.flag F.BERTH_STAT_SLOT_VALID
  let pos := s.fld F.BERTH_STAT_POS
  let nodes := (List.range 8).map fun p =>
    let v := s.odNum 0x1E10 (p + 1) (if p = 0 then 255 else 0)
    (p, if v = 255 then (if ok then 32 + pos else 126) else v)
  let a := s.odNum 0x1E20 4 0xFFFF
  let node := if a = 0xFFFF then (if ok then 0x200 + pos else 0x2FF) else a
  let i := s.odNum 0x1E20 1 0
  let ip := if i = 0 then 169 * 2 ^ 24 + 254 * 2 ^ 16 + node else i
  s.setOd { s.od with nodes := nodes.filter (fun x => x.2 != 0), node := node, ip := ip, udp := s.odNum 0x1E20 3 47410 }

/-! ## Replies -/

/-- Frames of a port in the dictionary queue. -/
def State.queued (s : State) (p : Nat) : Nat := (s.od.queue.filter fun x => x.1 == p).length

/-- A reply or the TPDO `k` joins the dictionary queue (R519); a reply that finds it full waits behind it. -/
def State.enqueue (s : State) (p : Nat) (f : CanFrame) (k : Option Nat := none) : State :=
  s.setOd { s.od with queue := s.od.queue ++ [(p, f, k)] }

def State.noteReply' (s : State) (c : Client) (b : List Byte) : State := s.setOd { s.od with reply := assoc c b s.od.reply }

/-- An SDO reply of the server on port `p`, padded to 8 bytes. -/
def State.sdoReply (s : State) (p : Fin 8) (b : List Byte) : State :=
  let b := b ++ List.replicate (8 - b.length) 0
  (s.noteReply' (.sdo p) b).enqueue p { id := 0x580 + s.nodeOn p, dlc := 8, data := b }

/-- Index and subindex as an SDO message carries them. -/
def muxBytes (idx sub : Nat) : List Byte := leBytes 2 idx ++ leBytes 1 sub

def State.xferOf (s : State) (p : Nat) : Option Xfer := lookup p s.od.xfer
def State.setXfer (s : State) (p : Nat) (x : Option Xfer) : State :=
  let rest := s.od.xfer.filter fun y => y.1 != p
  s.setOd { s.od with xfer := match x with | some x => (p, x) :: rest | none => rest }

/-- The server aborts; its transfer is gone (R510, R520). -/
def State.sdoAbort (s : State) (p : Fin 8) (idx sub code : Nat) : State :=
  (s.setXfer p none).sdoReply p ([(0x80 : Byte)] ++ muxBytes idx sub ++ leBytes 4 code)

/-- The header of a Nydulet reply (R530) and its payload, with the tag of a session (R534). -/
def nydBytes (ver type node sid seq status : Nat) (payload ks : List Byte) : List Byte :=
  let m := leBytes 1 ver ++ leBytes 1 type ++ leBytes 2 node ++ leBytes 4 sid ++ leBytes 4 seq ++ leBytes 2 payload.length ++
    leBytes 1 status ++ leBytes 1 0 ++ payload
  if sid = 0 then m else m ++ (hmacSha256 ks m).take 16

/-- Version of a Nydulet client, and its block size (R532): those of its HELLO. -/
def State.nydVer (s : State) (peer : Nat) : Nat × Nat := (lookup peer s.od.nyd).getD (2, 1408)

/-- A Nydulet reply of type `type` to a client: within a session it carries its tag and is kept for a repeated request. -/
def State.nydReply (s : State) (peer type sid seq status : Nat) (payload : List Byte) : State :=
  let c : Client := .nyd peer
  let ks := match s.sessOf c with | some x => x.ks | none => []
  let m := nydBytes (s.nydVer peer).1 (type + 0x80) s.od.node sid seq status payload ks
  let s := s.noteReply' c m
  if sid = 0 then s
  else s.setOd { s.od with sess := s.od.sess.map fun x => if x.client = c then { x with reply := m } else x }

/-- The reply to a store, held until now (R166, R537), unless pair A restarts (R26): `tag` is the SEQ of a WRITE, or the first byte of an SDO confirmation. -/
def State.storeReply (s : State) (c : Client) (tag ab : Nat) : State :=
  if s.clk.aDown.isSome then s else match c with
  | .sdo p =>
    if ab = 0 then s.sdoReply p (leBytes 1 tag ++ if tag = 0x60 then muxBytes 0x1010 1 else [])
    else s.sdoAbort p 0x1010 1 ab
  | .nyd peer =>
    let sid := match s.sessOf c with | some x => x.sid | none => 0
    if ab = 0 then s.nydReply peer 0x21 sid tag 0 [] else s.nydReply peer 0x21 sid tag 1 (leBytes 4 ab)

/-- A client whose store reply is to follow notes how it is to be confirmed. -/
def State.tagJob (s : State) (c : Client) (tag : Nat) : State :=
  s.setOd { s.od with jobs := s.od.jobs.map fun j =>
    { j with who := j.who.map fun w => if w.1 = c ∧ w.2.2 = 0 then (w.1, w.2.1, tag) else w } }

/-! ## Stores (R537 to R539) -/

/-- The store at the head begins where no other NVM write runs, nothing is deferred and pair A runs: it takes its values now. -/
def State.storeStart (s : State) : State :=
  match s.od.jobs with
  | [] => s
  | j :: r =>
    if j.begun || s.nvmBusy || s.nvmDeferred || s.clk.aDown.isSome || s.flag F.BERTH_SUP_STAT_HOLDUP || !s.awake then s
    else
      let x := s.takeSet
      x.1.setOd { x.1.od with jobs := { j with begun := true, vals := x.2 } :: r }

/-- A deferred mark of 1011:01 is written as soon as it may be, ahead of the stores that wait (R165, R540). -/
def State.markStart (s : State) : State :=
  if s.od.markDue && !s.nvmDeferred && !s.nvmBusy && s.clk.aDown.isNone && s.awake then s.restoreDefaults else s

/-- The bank to which a store goes: the one that does not hold the stored set. -/
def State.storeTarget (s : State) : Nat := match s.storedBank with | some (i, _) => 1 - i | none => 0

/-- The running store commits its header, or its verification fails (R537, R539). -/
def State.storeComplete (s : State) (ok : Bool) : State :=
  match s.od.jobs with
  | [] => s
  | j :: r =>
    if !j.begun then s
    else
      let i := s.storeTarget
      let old := (lookup i s.od.banks).getD {}
      let top := s.od.banks.foldl (fun m b => Nat.max m b.2.seq) 0
      let new : Bank := if ok then { st := 1, seq := top + 1, vals := j.vals } else { old with st := if old.st = 1 then 2 else old.st }
      let s := s.setOd { s.od with jobs := r, banks := assoc i new s.od.banks }
      let s := s.each j.who fun s w => s.storeReply w.1 w.2.2 (if ok then 0 else abBus)
      if ok then (((s.clearFault .DICT_STORE_FAIL).clearFault .DICT_SET_INVALID).clearFault .DICT_SET_ENTRY).raise .DICT_STORE_DONE
      else s.raise .DICT_STORE_FAIL

/-- The reply to a client's store has been held for 500 ms (R166): the store still runs. Pair A answers nothing while it restarts (R26). -/
def State.storeTimeout (s : State) (c : Client) : State :=
  if s.clk.aDown.isSome then s else match (s.od.jobs.flatMap Job.who).find? fun w => w.1 == c with
  | none => s
  | some w =>
    let s := s.advanceTo (w.2.1 + ms 500)
    let s := s.setOd { s.od with jobs := s.od.jobs.map fun j => { j with who := j.who.filter fun x => x != w } }
    s.storeReply c w.2.2 abState

/-- Extraction discards a store that has not begun (R538). -/
def State.storeDiscard (s : State) : State :=
  let gone := s.od.jobs.filter fun j => !j.begun
  let s := s.setOd { s.od with jobs := s.od.jobs.filter fun j => j.begun }
  s.each (gone.flatMap Job.who) fun s w => s.storeReply w.1 w.2.2 abStored

end Sys2Proof.Machine
end

