-- ==== Sys2Proof/Machine/Sdo.lean ====
section
/-! DEFINITION. The SDO servers (R520): expedited, segmented and block transfer as CiA 301 defines them, over raw messages of 8 bytes. -/

namespace Sys2Proof.Machine

def byteAt (b : List Byte) (k : Nat) : Nat := (b.getD k 0).toNat
def msgIdx (b : List Byte) : Nat := leNat ((b.drop 1).take 2)
def msgSub (b : List Byte) : Nat := byteAt b 3

/-- CRC-16 of block transfers (CiA 301): polynomial 0x1021, initial value 0. -/
def sdoCrc (l : List Byte) : Nat := l.foldl crcByte 0

/-- The server of a port answers: a dictionary port, in a mode that serves the dictionary (R26, R142, R518, R607). -/
def State.sdoOn (s : State) (p : Fin 8) : Bool := s.dictServed && s.nodeOn p != 0

/-- A message of 8 bytes that a server takes: sessions and lockouts that have run out by now end first. -/
def State.sdoMsg (s : State) (p : Fin 8) (b : List Byte) (f : State → State) : State :=
  if !s.sdoOn p || b.length != 8 then s else f (s.sessSweep.authUnlock)

/-- The command is none that the server knows here. -/
def State.sdoUnknown (s : State) (p : Fin 8) (b : List Byte) : State :=
  match s.xferOf p with
  | some x => s.sdoAbort p x.idx x.sub abCommand
  | none => s.sdoAbort p (msgIdx b) (msgSub b) abCommand

/-- A complete value is written; `tag` is the first byte of the confirmation, which a store holds back. -/
def State.sdoWrite (s : State) (p : Fin 8) (idx sub : Nat) (v : List Byte) (tag : Nat) : State :=
  let x := s.dictWrite (.sdo p) idx sub v
  if x.2 = 0 then x.1.sdoReply p (leBytes 1 tag ++ if tag = 0x60 then muxBytes idx sub else [])
  else if x.2 = abLater then x.1.tagJob (.sdo p) tag
  else x.1.sdoAbort p idx sub x.2

/-! ## Expedited and segmented transfer -/

/-- Initiate download. -/
def State.sdoInitDown (s : State) (p : Fin 8) (b : List Byte) : State :=
  let c := byteAt b 0
  let idx := msgIdx b
  let sub := msgSub b
  let s := s.setXfer p none
  if bitOf c 1 then
    let fit := match odFind idx sub with | some e => if e.ty.size = 0 then 4 else Nat.min 4 e.ty.size | none => 4
    let n := if bitOf c 0 then 4 - c / 4 % 4 else fit
    s.sdoWrite p idx sub ((b.drop 4).take n) 0x60
  else
    let ab := s.dictMay (.sdo p) idx sub true
    if ab ≠ 0 then s.sdoAbort p idx sub ab
    else
      (s.setXfer p (some { kind := 0, idx := idx, sub := sub, size := if bitOf c 0 then some (leNat (b.drop 4)) else none,
                           last := s.now })).sdoReply p ([(0x60 : Byte)] ++ muxBytes idx sub)

/-- The length of a value against the size that its transfer announced. -/
def sizeCheck (size : Option Nat) (n : Nat) : Nat :=
  match size with
  | some k => if n < k then abTooShort else if k < n then abTooLong else 0
  | none => 0

/-- Download segment. -/
def State.sdoDownSeg (s : State) (p : Fin 8) (b : List Byte) : State :=
  let c := byteAt b 0
  match s.xferOf p with
  | some x =>
    if x.kind ≠ 0 then s.sdoUnknown p b
    else if bitOf c 4 ≠ x.toggle then s.sdoAbort p x.idx x.sub abToggle
    else
      let data := x.data ++ (b.drop 1).take (7 - c / 2 % 8)
      let tag := 0x20 + if x.toggle then 0x10 else 0
      if bitOf c 0 then
        let s := s.setXfer p none
        let k := sizeCheck x.size data.length
        if k ≠ 0 then s.sdoAbort p x.idx x.sub k else s.sdoWrite p x.idx x.sub data tag
      else (s.setXfer p (some { x with toggle := !x.toggle, data := data, last := s.now })).sdoReply p (leBytes 1 tag)
  | none => s.sdoUnknown p b

/-- Initiate upload. -/
def State.sdoInitUp (s : State) (p : Fin 8) (b : List Byte) : State :=
  let idx := msgIdx b
  let sub := msgSub b
  let x := (s.setXfer p none).dictRead (.sdo p) idx sub
  let s := x.1
  let v := x.2.2
  if x.2.1 ≠ 0 then s.sdoAbort p idx sub x.2.1
  else if 0 < v.length ∧ v.length ≤ 4 then s.sdoReply p (leBytes 1 (0x43 + 4 * (4 - v.length)) ++ muxBytes idx sub ++ v)
  else
    (s.setXfer p (some { kind := 1, idx := idx, sub := sub, data := v, all := v, last := s.now })).sdoReply p
      ([(0x41 : Byte)] ++ muxBytes idx sub ++ leBytes 4 v.length)

/-- Upload segment. -/
def State.sdoUpSeg (s : State) (p : Fin 8) (b : List Byte) : State :=
  match s.xferOf p with
  | some x =>
    if x.kind ≠ 1 then s.sdoUnknown p b
    else if bitOf (byteAt b 0) 4 ≠ x.toggle then s.sdoAbort p x.idx x.sub abToggle
    else
      let now := x.data.take 7
      let rest := x.data.drop 7
      let s := s.setXfer p (if rest.isEmpty then none else some { x with toggle := !x.toggle, data := rest, last := s.now })
      s.sdoReply p (leBytes 1 ((if x.toggle then 0x10 else 0) + 2 * (7 - now.length) + if rest.isEmpty then 1 else 0) ++ now)
  | none => s.sdoUnknown p b

/-! ## Block transfer -/

/-- A block download: initiate, the segments of its blocks, end. -/
def State.sdoBlockDown (s : State) (p : Fin 8) (b : List Byte) : State :=
  let c := byteAt b 0
  let start := fun (s : State) =>
    let idx := msgIdx b
    let sub := msgSub b
    let s := s.setXfer p none
    let ab := s.dictMay (.sdo p) idx sub true
    if ab ≠ 0 then s.sdoAbort p idx sub ab
    else
      (s.setXfer p (some { kind := 2, idx := idx, sub := sub, size := if bitOf c 1 then some (leNat (b.drop 4)) else none,
                           crc := bitOf c 2, last := s.now })).sdoReply p ([(0xA4 : Byte)] ++ muxBytes idx sub ++ leBytes 1 127)
  let first := c / 32 == 6 && !bitOf c 0
  match s.xferOf p with
  | some x =>
    if x.kind ≠ 2 then (if first then start s else s.sdoUnknown p b)
    else if x.phase = 0 then
      let n := c % 128
      if n = 0 ∨ x.blk < n then s.sdoAbort p x.idx x.sub abBlkSeq
      else
        let good := n == x.seq + 1
        let seq := if good then n else x.seq
        let data := if good then x.data ++ b.drop 1 else x.data
        let done := good && bitOf c 7
        let y := { x with data := data, last := s.now }
        if bitOf c 7 || n == x.blk then
          (s.setXfer p (some { y with seq := 0, phase := if done then 1 else 0 })).sdoReply p
            ([(0xA2 : Byte)] ++ leBytes 1 seq ++ leBytes 1 x.blk)
        else s.setXfer p (some { y with seq := seq })
    else if c / 32 = 6 ∧ bitOf c 0 then
      let data := x.data.take (x.data.length - c / 4 % 8)
      let k := sizeCheck x.size data.length
      let s := s.setXfer p none
      if x.crc && leNat ((b.drop 1).take 2) != sdoCrc data then s.sdoAbort p x.idx x.sub abBlkCrc
      else if k ≠ 0 then s.sdoAbort p x.idx x.sub k
      else s.sdoWrite p x.idx x.sub data 0xA1
    else if first then start s
    else s.sdoUnknown p b
  | none => if first then start s else s.sdoUnknown p b

/-- The segments of a block upload from its data on, at most `n` of them. -/
def blockSegs : Nat → Nat → List Byte → List (List Byte)
  | 0, _, _ => []
  | n + 1, k, l =>
    let d := l.take 7
    let rest := l.drop 7
    let m := leBytes 1 (k + if rest.isEmpty then 128 else 0) ++ d ++ List.replicate (7 - d.length) 0
    if rest.isEmpty then [m] else m :: blockSegs n (k + 1) rest

/-- Send the next block of a block upload. -/
def State.sendBlock (s : State) (p : Fin 8) (x : Xfer) : State :=
  let l := blockSegs x.blk 1 x.data
  (s.setXfer p (some { x with seq := l.length, phase := 0, last := s.now })).each l fun s m => s.sdoReply p m

/-- A block upload: initiate, start, acknowledgement of a block, end. -/
def State.sdoBlockUp (s : State) (p : Fin 8) (b : List Byte) : State :=
  let c := byteAt b 0
  if c / 32 = 5 ∧ c % 4 = 0 then
    let idx := msgIdx b
    let sub := msgSub b
    let blk := byteAt b 4
    let s := s.setXfer p none
    if blk = 0 ∨ 127 < blk then s.sdoAbort p idx sub abBlkSize
    else
      let x := s.dictRead (.sdo p) idx sub
      let s := x.1
      if x.2.1 ≠ 0 then s.sdoAbort p idx sub x.2.1
      else
        (s.setXfer p (some { kind := 3, idx := idx, sub := sub, data := x.2.2, all := x.2.2, blk := blk, crc := bitOf c 2,
                             phase := 2, last := s.now })).sdoReply p
          ([(0xC6 : Byte)] ++ muxBytes idx sub ++ leBytes 4 x.2.2.length)
  else
    match s.xferOf p with
    | some x =>
      if x.kind ≠ 3 ∨ c / 32 ≠ 5 then s.sdoUnknown p b
      else if x.phase = 2 ∧ c % 4 = 3 then s.sendBlock p x
      else if x.phase = 0 ∧ c % 4 = 2 then
        let ack := byteAt b 1
        let blk := byteAt b 2
        if x.seq < ack then s.sdoAbort p x.idx x.sub abBlkSeq
        else if blk = 0 ∨ 127 < blk then s.sdoAbort p x.idx x.sub abBlkSize
        else
          let rest := x.data.drop (7 * ack)
          if rest.isEmpty && (decide (0 < ack) || x.all.isEmpty) then
            let n := (7 - x.all.length % 7) % 7
            let n := if x.all.isEmpty then 7 else n
            (s.setXfer p (some { x with data := [], phase := 1, last := s.now })).sdoReply p
              (leBytes 1 (0xC1 + 4 * n) ++ leBytes 2 (sdoCrc x.all))
          else s.sendBlock p { x with data := rest, blk := blk }
      else if x.phase = 1 ∧ c % 4 = 1 then s.setXfer p none
      else s.sdoUnknown p b
    | none => s.sdoUnknown p b

/-! ## Aborts and silence -/

/-- The client aborts. -/
def State.sdoAborted (s : State) (p : Fin 8) : State := s.setXfer p none

/-- The client has been silent for 1,000 ms in the middle of a transfer. -/
def State.sdoTimeout (s : State) (p : Fin 8) : State :=
  match s.xferOf p with
  | some x => if s.sdoOn p then (s.advanceTo (x.last + ms 1000)).sdoAbort p x.idx x.sub abTimeout else s
  | none => s

/-- A request that pair A has not completed within 50 ms of its arrival in overload is refused (R30): the running transfer of an SDO client
is gone. `x` and `y` are the request's index and subindex over SDO, its TYPE and SEQ over Nydulet; it came `waited` ns ago. -/
def State.requestTimeout (s : State) (c : Client) (x y waited : Nat) : State :=
  if !s.flag F.SYS_LOAD_OVL_A || !s.dictServed then s
  else
    let s := s.advanceTo (s.now - waited + ms 50)
    match c with
    | .sdo p =>
      if !s.sdoOn p then s
      else match s.xferOf p with
        | some t => s.sdoAbort p t.idx t.sub abState
        | none => s.sdoAbort p x y abState
    | .nyd peer => s.nydReply peer x (match s.sessOf c with | some t => t.sid | none => 0) y 1 (leBytes 4 abState)

end Sys2Proof.Machine
end

