-- ==== Sys2Proof/Machine/Pdo.lean ====
section
/-! DEFINITION. PDOs (R521 to R524), the TXB1 arbiter (R519, R624), NMT, boot-up and heartbeat (R525 to R527). -/

namespace Sys2Proof.Machine

/-- PDOs run: Operate, with pair A running (R26, R523). -/
def State.pdoOn (s : State) : Bool := s.mode' == 4 && s.clk.aDown.isNone

/-! ## Receive PDOs; `k` counts from 0 -/

def rpdoCom (k : Nat) : Nat := 0x1400 + k
def tpdoCom (k : Nat) : Nat := 0x1800 + k
def State.cobOf (s : State) (com : Nat) : Nat := s.odNum com 1 (2 ^ 31)
def State.pdoTypeOf (s : State) (com : Nat) : Nat := s.odNum com 2 255
def State.pdoPort (s : State) (com : Nat) : Nat := s.odNum com 0x20 0 % 8

def State.rpdo (s : State) (k : Nat) : Rpdo := (lookup k s.od.rpdo).getD {}
def State.setRpdo (s : State) (k : Nat) (x : Rpdo) : State := s.setOd { s.od with rpdo := assoc k x s.od.rpdo }
def State.tpdo (s : State) (k : Nat) : Tpdo := (lookup k s.od.tpdo).getD {}
def State.setTpdo (s : State) (k : Nat) (x : Tpdo) : State := s.setOd { s.od with tpdo := assoc k x s.od.tpdo }

/-- The mapped entries of a receive PDO with the values that a frame gives them, least significant bit first (R522). -/
def mapValues : List Nat → Nat → Nat → List (OdEnt × Nat)
  | [], _, _ => []
  | w :: r, at0, v =>
    let rest := mapValues r (at0 + mapLen w) v
    match (if (dummyBits (mapIdx w)).isSome then none else odPlain (mapIdx w) (mapSub w)) with
    | some e => (e, v / 2 ^ at0 % 2 ^ mapLen w) :: rest
    | none => rest

/-- The register that an entry sets a part of. -/
def OdEnt.target (e : OdEnt) (v : Nat) : Option ((Reg × Nat) × (Fld × Nat)) :=
  match e.piece with
  | some f => match f v with | some (d, i, x) => some ((d.reg, i), (d, x)) | none => none
  | none => none

/-- Entries of a PDO are applied in mapping order; those that map fields of one register as one write, at the position of the first
(R523). `done` holds the registers already written. The answer says whether an entry was refused. -/
def State.applyMapped (s : State) (c : Client) (done : List (Reg × Nat)) : List (OdEnt × Nat) → State × Bool
  | [] => (s, false)
  | (e, v) :: r =>
    let refuse := fun (x : State × Bool) => (x.1, true)
    match e.piece with
    | none =>
      let x := if e.ty.valueOk (leBytes e.ty.size v) then e.put s c (leBytes e.ty.size v) else (s, abRange)
      let y := x.1.applyMapped c done r
      if x.2 = 0 then y else refuse y
    | some _ =>
      match e.target v with
      | none => refuse (s.applyMapped c done r)
      | some (k, f) =>
        if done.contains k then s.applyMapped c done r
        else
          let more := r.filterMap fun x => match x.1.target x.2 with | some (k', f') => if k' = k then some f' else none | none => none
          let x := s.fwFields k.1 k.2 (f :: more)
          let y := x.1.applyMapped c (k :: done) r
          if x.2 = 0 then y else refuse y

/-- Process a receive PDO (R523): its mapped entries, then the silence timers that it refreshes (R368). -/
def State.rpdoProcess (s : State) (k : Nat) (data : List Byte) : State :=
  let x := s.applyMapped (.sdo (Fin.ofNat 8 (s.pdoPort (rpdoCom k)))) [] (mapValues (s.mapWords (rpdoCom k + 0x200)) 0 (leNat data))
  let s := if x.2 then x.1.raise .DICT_PDO_REFUSED (k + 1) [] (sec 1) else x.1
  s.rpdoRefresh (k + 1)

/-- Bits that a mapping takes. -/
def State.mapTotal (s : State) (obj : Nat) : Nat := ((s.mapWords obj).map mapLen).sum

/-- The frame of a receive PDO arrives (R521, R523). -/
def State.rpdoReceived (s : State) (k : Nat) (data : List Byte) : State :=
  if !s.pdoOn || decide (2 ^ 31 ≤ s.cobOf (rpdoCom k)) then s
  else
    let x := s.rpdo k
    let s := s.setRpdo k { x with last := some s.now, late := false }
    if 8 * data.length < s.mapTotal (rpdoCom k + 0x200) then s.raise .DICT_PDO_LENGTH (k + 1)
    else if 254 ≤ s.pdoTypeOf (rpdoCom k) then s.rpdoProcess k data
    else s.setRpdo k { (s.rpdo k) with wait := some data }

/-- The deadline of a receive PDO passes without a frame (R521). -/
def State.rpdoTimeout (s : State) (k : Nat) : State :=
  let d := s.odNum (rpdoCom k) 5 0
  match (s.rpdo k).last with
  | some t =>
    if !s.pdoOn || d == 0 || (s.rpdo k).late || decide (2 ^ 31 ≤ s.cobOf (rpdoCom k)) then s
    else
      let s := s.advanceTo (t + ms d)
      (s.setRpdo k { (s.rpdo k) with late := true }).raise .DICT_RPDO_TIMEOUT (k + 1)
  | none => s

/-! ## Transmit PDOs -/

/-- The mapped values of a transmit PDO: their bits, how many, and the state that has read them. -/
def State.tpdoSample (s : State) (c : Client) : List Nat → Nat → Nat → State × Nat × Nat
  | [], v, n => (s, v, n)
  | w :: r, v, n =>
    match odPlain (mapIdx w) (mapSub w) with
    | some e => let x := e.get s c; x.1.tpdoSample c r (v + leNat x.2.2 % 2 ^ mapLen w * 2 ^ n) (n + mapLen w)
    | none => s.tpdoSample c r v (n + mapLen w)

/-- The smallest DLC whose length holds `n` bytes. -/
def dlcFor (n : Nat) : Nat := ((List.range 16).find? fun d => decide (n ≤ dlcLen true d)).getD 15

/-- The frame of a PDO or EMCY message with a COB-ID as the dictionary holds it. -/
def cobFrame (cob : Nat) (fd : Bool) (data : List Byte) : CanFrame :=
  let dlc := if fd then dlcFor data.length else data.length
  let x := bitOf cob 29
  let pad := if fd then data ++ List.replicate (dlcLen true dlc - data.length) 0 else data
  { id := if x then cob % 2 ^ 29 else cob % 2 ^ 11, xtd := x, fdf := fd, brs := fd, dlc := dlc, data := pad }

/-- A transmit PDO is sent if its queue has room (R519). -/
def State.tpdoSend (s : State) (k : Nat) (data : List Byte) : State :=
  let p := s.pdoPort (tpdoCom k)
  if 32 ≤ s.queued p then s
  else
    let f := cobFrame (s.cobOf (tpdoCom k)) (s.flag F.CAN_CTRL_FD_EN p) data
    let t := s.tpdo k
    (s.setTpdo k { t with sent := data, at0 := some s.now, before := (t.sent, t.at0) }).enqueue p f (some k)

/-- The data of a transmit PDO now. -/
def State.tpdoData (s : State) (k : Nat) : State × List Byte :=
  let x := s.tpdoSample (.sdo (Fin.ofNat 8 (s.pdoPort (tpdoCom k)))) (s.mapWords (tpdoCom k + 0x200)) 0 0
  (x.1, leBytes ((x.2.2 + 7) / 8) x.2.1)

/-- The sample point of event-driven transmit PDOs at or after `t`: whole milliseconds of true time (R524; DESIGN CHOICE, log 113). -/
def tpdoPoint (t : Nat) : Nat := (t + (ms 1 - 1)) / ms 1 * ms 1

/-- An event-driven transmit PDO (R524): sampled every 1 ms, sent when a mapped value has changed, at the first sample the inhibit time after
the previous one, or at the end of its event timer, whichever comes first. -/
def State.tpdoEvent (s : State) (k : Nat) : State :=
  let com := tpdoCom k
  if !s.pdoOn || decide (2 ^ 31 ≤ s.cobOf com) || decide (s.pdoTypeOf com < 254) then s
  else
    let x := s.tpdoData k
    let s := x.1
    let t := s.tpdo k
    let timer := s.odNum com 5 0
    let since (n : Nat) : Nat := match t.at0 with | some a => a + n | none => s.now
    let change := if x.2 = t.sent then none else some (tpdoPoint (Nat.max s.now (since (s.odNum com 3 0 * us 100))))
    let due := if timer = 0 then none else some (Nat.max s.now (since (ms timer)))
    match change, due with
    | some a, some b => (s.advanceTo (Nat.min a b)).tpdoSend k x.2
    | some a, none => (s.advanceTo a).tpdoSend k x.2
    | none, some b => (s.advanceTo b).tpdoSend k x.2
    | none, none => s

/-- A synchronous transmit PDO at a SYNC whose counter is `ctr` (R524): type 0 after a change, type n at every n-th. -/
def State.tpdoSync (s : State) (k ctr : Nat) : State :=
  let com := tpdoCom k
  let ty := s.pdoTypeOf com
  if decide (2 ^ 31 ≤ s.cobOf com) || decide (240 < ty) then s
  else if ty = 0 then
    let x := s.tpdoData k
    if x.2 = (x.1.tpdo k).sent then x.1 else x.1.tpdoSend k x.2
  else
    let t := s.tpdo k
    let at1 := s.odNum com 6 0
    let started := t.started || at1 == 0 || at1 == ctr
    if !started then s
    else
      let n := t.count + 1
      let s := s.setTpdo k { t with started := true, count := if ty ≤ n then 0 else n }
      if ty ≤ n then let x := s.tpdoData k; x.1.tpdoSend k x.2 else s

/-- A SYNC message on CAN port `p` (R523, R524): the waiting receive PDOs of the port are processed, then its transmit PDOs (DESIGN CHOICE,
log 113). -/
def State.sync (s : State) (p ctr : Nat) : State :=
  if !s.pdoOn then s
  else
    let s := s.each (List.range 64) fun s k => match (s.rpdo k).wait with
      | some d => if s.pdoPort (rpdoCom k) ≠ p ∨ 2 ^ 31 ≤ s.cobOf (rpdoCom k) then s else (s.setRpdo k { (s.rpdo k) with wait := none }).rpdoProcess k d
      | none => s
    s.each (List.range 64) fun s k => if s.pdoPort (tpdoCom k) = p then s.tpdoSync k ctr else s

/-- Every PDO stops: what waits and what has been sent is forgotten. -/
def State.pdoStop (s : State) : State := s.setOd { s.od with rpdo := [], tpdo := [] }

/-! ## The TXB1 arbiter (R519, R624) -/

/-- The bytes of an EMCY message. -/
def Emcy.bytes (e : Emcy) : List Byte :=
  leBytes 2 e.err ++ leBytes 1 e.reg ++ leBytes 2 e.code ++ leBytes 1 e.idx ++ leBytes 2 e.seq

/-- EMCY COB-ID of a port (R528). -/
def State.emcyCob (s : State) (p : Nat) : Nat := s.odNum 0x1014 0 (0x80 + s.nodeOn p)

/-- The oldest EMCY message that port `p` has not sent, while EMCY is sent and the inhibit time has run (R528, R624). -/
def State.emcyNext (s : State) (p : Nat) : Option Emcy :=
  let mode := s.mode' == 3 || s.mode' == 4 || s.mode' == 6
  let free := match lookup p s.od.emcyAt with | some t => decide (t + s.odNum 0x1015 0 0 * us 100 ≤ s.now) | none => true
  if mode && free then s.jnl.emcy.find? fun e => e.ports.contains p else none

/-- The arbiter loads TXB1 of a port (R519): an EMCY message, else the oldest frame of the dictionary queue, which
waits while pair A restarts and in Limp (R417). -/
def State.txb1Load (s : State) (p : Nat) : State :=
  if !s.arbiterPort p || s.txPend p 1 then s
  else
    match s.emcyNext p with
    | some e =>
      let cob := s.emcyCob p
      let left := s.jnl.emcy.map fun x => if x = e then { x with ports := x.ports.filter (· ≠ p) } else x
      let s := s.setJnl { s.jnl with emcy := left.filter fun x => !x.ports.isEmpty }
      if 2 ^ 31 ≤ cob then s
      else ((s.putElem (txAddr p 1) (cobFrame cob false e.bytes)).setOd { s.od with emcyAt := assoc p s.now s.od.emcyAt, tx1 := assoc p none s.od.tx1 }).txPut p 1
    | none =>
      if s.clk.aDown.isSome || s.mode' == 5 then s
      else match s.od.queue.find? fun x => x.1 == p with
      | some x => ((s.putElem (txAddr p 1) x.2.1).setOd
          { s.od with queue := s.od.queue.erase x, tx1 := assoc p x.2.2 s.od.tx1 }).txPut p 1
      | none => s

/-! ## NMT (R525 to R527) -/

/-- The heartbeat byte of a mode (R525, R607); none where no heartbeat is sent. -/
def hbByte (mode : Nat) : Option Nat :=
  match mode with | 3 => some 0x7F | 6 => some 0x7F | 4 => some 0x05 | 5 => some 0x04 | 7 => some 0x7F | _ => none

/-- A message of the NMT error control on every dictionary port, from the timer slot (R397, R518). -/
def State.nmtSend (s : State) (v : Nat) : State :=
  let s := s.each s.dictPorts fun s p => s.timerPut p 0 { id := 0x700 + s.nodeOn p, dlc := 1, data := leBytes 1 v }
  s.setOd { s.od with hbAt := s.now }

/-- Heartbeat period, ms (R527, R607). -/
def State.hbTime (s : State) : Nat := if s.mode' = 7 then 1000 else s.odNum 0x1017 0 1000

/-- The heartbeat falls due (R527): hardware sends it, through restarts of pair A too. -/
def State.heartbeat (s : State) : State :=
  match hbByte s.mode' with
  | none => s
  | some v => if s.hbTime = 0 then s else (s.advanceTo (s.od.hbAt + ms s.hbTime)).nmtSend v

/-- An NMT command addressed to `node` on port `p` reaches the module: a dictionary port, its node ID or 0. -/
def State.nmtFor (s : State) (p node : Nat) : Bool := s.nodeOn p != 0 && (node == 0 || node == s.nodeOn p)

/-- An NMT command that is a mode request (R526). It carries no reply. Limp and Recovery take none but Reset node,
and Recovery only where R609 lets the module go. -/
def State.nmtMode (s : State) (p node target : Nat) : State :=
  if !s.nmtFor p node then s
  else if s.mode' = 5 then (if target = 2 then s.askReset 3 else s)
  else if s.mode' = 7 then (if target = 2 then (s.leaveRecovery 3).1 else s)
  else if (s.mode' ≠ 3 ∧ s.mode' ≠ 4 ∧ s.mode' ≠ 6) ∨ s.clk.aDown.isSome then s
  else if s.mode.sleeping then s.modeRefuse 1
  else (s.modeRequest target true).1

/-- Reset communication (R526): PDOs stop, 1000 to 1FFF take their stored values or defaults, SDO sessions end, boot-up follows. -/
def State.nmtResetComm (s : State) (p node : Nat) : State :=
  if !s.nmtFor p node || (s.mode' != 3 && s.mode' != 4 && s.mode' != 6) || s.clk.aDown.isSome then s
  else
    let comm := fun (k : Nat) => decide (k / 256 < 0x2000)
    let s := ((s.pdoStop.sessEndAll clientSdo).dropVals comm).applySet comm
    (s.setOd { s.od with xfer := [] }).takeAddresses.nmtSend 0

/-- A heartbeat of another node (R527): on CAN port `p` with identifier 0x700 plus its node ID. -/
def State.hbHeard (s : State) (p : Nat) (f : CanFrame) : State :=
  if f.xtd || f.rtr || !(within 0x701 0x780 f.id) then s
  else
    s.each (List.range 16) fun s k =>
      let w := s.odNum 0x1016 (k + 1) 0
      if w % 2 ^ 16 ≠ 0 ∧ w / 2 ^ 16 % 256 = f.id - 0x700 ∧ w / 2 ^ 24 % 8 = p then
        (s.setOd { s.od with hbIn := assoc k s.now s.od.hbIn }).clearFault .DICT_HB_LOSS (k + 1)
      else s

/-- A consumed node has sent no heartbeat for its entry's time (R527); `k` counts from 0. -/
def State.hbLoss (s : State) (k : Nat) : State :=
  let w := s.odNum 0x1016 (k + 1) 0
  match lookup k s.od.hbIn with
  | some t =>
    if w % 2 ^ 16 = 0 || s.active .DICT_HB_LOSS (k + 1) then s
    else (s.advanceTo (t + ms (w % 2 ^ 16))).raise .DICT_HB_LOSS (k + 1)
  | none => s

end Sys2Proof.Machine
end

