-- ==== Sys2Proof/Machine/Nyd.lean ====
section
/-! DEFINITION. Nydulet (R529 to R535, R608) over raw datagrams, with ARP and ICMP echo. The datagrams are the UDP payloads of one client,
named by a number for its source address and port; their replies are kept in the state as bytes. -/

namespace Sys2Proof.Machine

/-! ## Messages -/

def hdrNum (b : List Byte) (at0 k : Nat) : Nat := leNat ((b.drop at0).take k)
def nydSid (b : List Byte) : Nat := hdrNum b 4 4
def nydSeq (b : List Byte) : Nat := hdrNum b 8 4
def nydLen (b : List Byte) : Nat := hdrNum b 12 2
def nydPayload (b : List Byte) : List Byte := (b.drop 16).take (nydLen b)

/-- Nydulet is served: the dictionary is, and 1E20:06 is TRUE or the ROM loader runs (R545, R608). -/
def State.nydOn (s : State) : Bool := s.dictServed && (s.mode' == 7 || s.odNum 0x1E20 6 1 == 1)

/-- A datagram is a message to this module (R529, R530): its size, its length field, its node address. -/
def State.nydMine (s : State) (b : List Byte) : Bool :=
  let node := hdrNum b 2 2
  decide (16 ≤ b.length) && decide (b.length ≤ 1472) &&
    b.length == 16 + nydLen b + (if nydSid b = 0 then 0 else 16) &&
    (node == s.od.node || (node == 0xFFF && byteAt b 1 == 0x01))

/-- A request of the version 2 alone (R531). -/
def nydTwo (type : Nat) : Bool := type == 0x22 || type == 0x23 || type == 0x24

/-- Request types (R531). -/
def nydKnown (type : Nat) : Bool :=
  type == 0x01 || type == 0x10 || type == 0x12 || type == 0x14 || (0x20 ≤ type && type ≤ 0x24)

/-- Requests that are accepted outside a session (R535), or by the ROM loader (R608). -/
def State.nydFree (s : State) (type : Nat) : Bool :=
  if s.mode' = 7 then type == 0x01 || (0x20 ≤ type && type ≤ 0x22) || type == 0x24
  else type == 0x01 || type == 0x10 || type == 0x12 || type == 0x20 || type == 0x22

/-- An executed request: the state, an abort code, and the reply's payload. -/
abbrev NydAnswer : Type := State × Nat × List Byte

/-- Execute a request and reply: a payload above the client's block size is refused (R532). -/
def State.nydExec (s : State) (peer : Nat) (b : List Byte) (f : State → List Byte → NydAnswer) : State :=
  let type := byteAt b 1
  let ver := s.nydVer peer
  let x : NydAnswer :=
    if !nydKnown type || (nydTwo type && ver.1 == 1) then (s, abCommand, [])
    else if ver.2 < nydLen b then (s, abTooLong, [])
    else f s (nydPayload b)
  let ab := if x.2.1 = 0 ∧ ver.2 < x.2.2.length then abTooLong else x.2.1
  if ab = abLater then x.1.tagJob (.nyd peer) (nydSeq b)
  else if ab = 0 then x.1.nydReply peer type (nydSid b) (nydSeq b) 0 x.2.2
  else x.1.nydReply peer type (nydSid b) (nydSeq b) 1 (leBytes 4 ab)

/-- A datagram of a client (R530, R534, R535): within a session its tag and SEQ are checked first. -/
def State.nydMsg (s : State) (peer : Nat) (b : List Byte) (f : State → List Byte → NydAnswer) : State :=
  if !s.nydOn || !s.nydMine b then s
  else
    let s := s.sessSweep.authUnlock
    let c : Client := .nyd peer
    if nydSid b = 0 then
      if nydKnown (byteAt b 1) && !s.nydFree (byteAt b 1) then s.nydReply peer (byteAt b 1) 0 (nydSeq b) 1 (leBytes 4 abLevel)
      else s.nydExec peer b f
    else
      match s.sessOf c with
      | none => s
      | some x =>
        let body := b.take (b.length - 16)
        if x.sid ≠ nydSid b ∨ b.drop (b.length - 16) ≠ (hmacSha256 x.ks body).take 16 then s
        else if nydSeq b < x.seq then s
        else if nydSeq b = x.seq then (if x.reply.isEmpty then s else s.noteReply' c x.reply)
        else
          let s := s.setOd { s.od with sess := s.od.sess.map fun y => if y.client = c then { y with seq := nydSeq b, reply := [] } else y }
          s.nydExec peer b f

/-- The message is not of the type that its command names. -/
def nydOther : State → List Byte → NydAnswer := fun s _ => (s, abCommand, [])

/-! ## Requests -/

/-- HELLO (R532): bit v - 1 of the bitmap stands for version v. -/
def State.nydHello (s : State) (peer : Nat) (d : List Byte) : NydAnswer :=
  let bits := byteAt d 0
  let want := hdrNum d 1 2
  let ver := if bitOf bits 1 then 2 else if bitOf bits 0 && s.mode' != 7 then 1 else 0
  let blk := Nat.min want 1408
  if d.length ≠ 3 then (s, abLength, [])
  else if ver = 0 ∨ blk < 64 then (s, abStored, [])
  else
    let was := lookup peer s.od.nyd
    let s := s.setOd { s.od with nyd := assoc peer (ver, blk) s.od.nyd, negVer := ver, negBlk := blk }
    let s := if was = some (ver, blk) then s else s.negotiated 4 0 (ver + 256 * blk)
    (s, 0, leBytes 1 ver ++ leBytes 2 blk ++ serialBytes ++ leBytes 2 s.od.node)

/-- OPEN (R533). -/
def State.nydOpen (s : State) (peer : Nat) (d : List Byte) : NydAnswer :=
  let level := byteAt d 0
  if d.length ≠ 1 then (s, abLength, [])
  else if level < 1 ∨ 3 < level then (s, abRange, [])
  else let r := s.issueNonce (.nyd peer) level; (r.2, 0, r.1)

/-- AUTH (R515, R533); a level that the lifecycle state does not permit is refused and counts no failure (R576). -/
def State.nydAuth (s : State) (peer : Nat) (d : List Byte) : NydAnswer :=
  let c : Client := .nyd peer
  let x := s.takeNonce c
  let s := x.2
  let level := match x.1 with | some (_, l) => l | none => 1
  let cn := d.take 16
  if d.length ≠ 48 then (s, abLength, [])
  else if s.od.lockUntil.isSome then (s, abStored, [])
  else if !s.lcLevel level then (s, abStored, [])
  else if s.sessFull c level then (s, abState, [])
  else
    let s := s.keyUsed (3 + level)
    match x.1, s.levelKey level with
    | some (mn, _), some k =>
      let rest := serialBytes ++ leBytes 1 level
      if d.drop 16 = hmacSha256 k (mn ++ cn ++ rest) then
        let r := s.trng 4
        let sid := leNat r.1 % (2 ^ 32 - 1) + 1
        let ks := hmacSha256 k (mn ++ cn ++ [0x4B])
        (r.2.sessStart { client := c, level := level, last := r.2.now, sid := sid, ks := ks }, 0,
          leBytes 4 sid ++ hmacSha256 k (cn ++ mn ++ rest))
      else (s.authFail, abStored, [])
    | _, _ => (s.authFail, abStored, [])

/-- READ (R531). -/
def State.nydRead (s : State) (peer : Nat) (d : List Byte) : NydAnswer :=
  if d.length ≠ 3 then (s, abLength, []) else s.dictRead (.nyd peer) (hdrNum d 0 2) (byteAt d 2)

/-- The ROM loader takes this write (R608). -/
def State.romWrite (s : State) (idx : Nat) : Bool := s.mode' != 7 || idx == 0x1F51

/-- WRITE (R531). -/
def State.nydWrite (s : State) (peer : Nat) (d : List Byte) : NydAnswer :=
  if d.length < 3 then (s, abLength, [])
  else if !s.romWrite (hdrNum d 0 2) then (s, abNoObject, [])
  else let x := s.dictWrite (.nyd peer) (hdrNum d 0 2) (byteAt d 2) (d.drop 3); (x.1, x.2, [])

/-- The entries of a BULK_READ in order. -/
def State.bulkRead (s : State) (c : Client) : Nat → List Byte → State × List Byte
  | 0, _ => (s, [])
  | n + 1, d =>
    let x := s.dictRead c (hdrNum d 0 2) (byteAt d 2)
    let y := x.1.bulkRead c n (d.drop 3)
    (y.1, leBytes 4 x.2.1 ++ leBytes 2 x.2.2.length ++ x.2.2 ++ y.2)

/-- BULK_READ (R531). -/
def State.nydBulk (s : State) (peer : Nat) (d : List Byte) : NydAnswer :=
  let n := byteAt d 0
  if n < 1 ∨ 64 < n then (s, abRange, [])
  else if d.length ≠ 1 + 3 * n then (s, abLength, [])
  else let x := s.bulkRead (.nyd peer) n (d.drop 1); (x.1, 0, x.2)

/-- DOMAIN_READ (R531): from an offset at most a number of bytes. -/
def State.nydDomRead (s : State) (peer : Nat) (d : List Byte) : NydAnswer :=
  if d.length ≠ 9 then (s, abLength, [])
  else
    let x := s.dictRead (.nyd peer) (hdrNum d 0 2) (byteAt d 2)
    if x.2.1 ≠ 0 then x
    else if x.2.2.length < hdrNum d 3 4 then (x.1, abRange, [])
    else (x.1, 0, (x.2.2.drop (hdrNum d 3 4)).take (hdrNum d 7 2))

/-- DOMAIN_WRITE (R509, R531): the parts of one value, in the order of their offsets; the last byte makes the write. -/
def State.nydDomWrite (s : State) (peer : Nat) (d : List Byte) : NydAnswer :=
  let c : Client := .nyd peer
  let idx := hdrNum d 0 2
  let sub := byteAt d 2
  let key := (c, idx * 256 + sub)
  let had := (lookup key s.od.dom).getD []
  let total := hdrNum d 7 4
  let all := had ++ d.drop 11
  let drop := fun (s : State) => s.setOd { s.od with dom := s.od.dom.filter fun x => x.1 != key }
  if d.length < 11 then (s, abLength, [])
  else if s.mode' = 7 ∧ idx ≠ 0x1F50 then (s, abNoObject, [])
  else if s.dictMay c idx sub true ≠ 0 then (drop s, s.dictMay c idx sub true, [])
  else if hdrNum d 3 4 ≠ had.length then (drop s, abBlkSeq, [])
  else if total < all.length then (drop s, abTooLong, [])
  else if all.length < total then (s.setOd { s.od with dom := assoc key all s.od.dom }, 0, [])
  else let x := (drop s).dictWrite c idx sub all; (x.1, x.2, [])

/-- The last accepted SEQ of a client's session. -/
def State.sessSeq (s : State) (peer : Nat) : Nat := match s.sessOf (.nyd peer) with | some x => x.seq | none => 0

/-- CLOSE (R516): the reply still carries the session's tag. -/
def State.nydClose (s : State) (peer : Nat) (b : List Byte) : State :=
  let t := s.nydMsg peer b (if byteAt b 1 = 0x14 then fun s _ => (s, 0, []) else nydOther)
  if byteAt b 1 = 0x14 ∧ nydSid b ≠ 0 ∧ s.sessSeq peer < t.sessSeq peer then t.sessEnd (.nyd peer) else t

/-- A request of type `type`, with its own execution. -/
def State.nydRequest (s : State) (peer type : Nat) (b : List Byte) (f : State → List Byte → NydAnswer) : State :=
  s.nydMsg peer b (if byteAt b 1 = type then f else nydOther)

/-! ## ARP and ICMP (R529) -/

/-- The internal port's MAC address: that of the module. -/
def ownMac : Nat := Config.macEth0

/-- A service of the internal port runs: from Configure to Recovery but for Limp, with pair A running. -/
def State.ipOn (s : State) : Bool := s.dictServed

/-- An ARP request from `mac` and `ip` for `target` (R529). -/
def State.arpRequest (s : State) (mac ip target : Nat) : State :=
  if !s.ipOn || target != s.od.ip then s
  else
    s.internalSend (beBytes 6 mac ++ beBytes 6 ownMac ++ beBytes 2 0x0806 ++ beBytes 2 1 ++ beBytes 2 0x0800 ++ beBytes 1 6 ++
      beBytes 1 4 ++ beBytes 2 2 ++ beBytes 6 ownMac ++ beBytes 4 s.od.ip ++ beBytes 6 mac ++ beBytes 4 ip)

/-- Ones' complement sum of the 16-bit words of bytes. -/
def onesSum : List Byte → Nat
  | [] => 0
  | [a] => a.toNat * 256
  | a :: b :: r => a.toNat * 256 + b.toNat + onesSum r

def ipChecksum (l : List Byte) : Nat :=
  let t := onesSum l
  let t := t % 65536 + t / 65536
  let t := t % 65536 + t / 65536
  65535 - t % 65536

/-- An ICMP echo request from `mac` and `ip` with what follows its checksum (identifier, sequence number, data): the reply carries it
back (R529). The identification and the time to live of its IPv4 header are free values (log 3). -/
def State.icmpEcho (s : State) (mac ip : Nat) (data : List Byte) : State :=
  if !s.ipOn then s
  else
    let icmp0 := beBytes 2 0 ++ beBytes 2 0 ++ data
    let icmp := beBytes 2 0 ++ beBytes 2 (ipChecksum icmp0) ++ data
    let id := s.draw 16
    let ttl := id.2.draw 8
    let s := ttl.2
    let head := fun (sum : Nat) => beBytes 1 0x45 ++ beBytes 1 0 ++ beBytes 2 (20 + icmp.length) ++ beBytes 2 id.1 ++ beBytes 2 0 ++
      beBytes 1 ttl.1 ++ beBytes 1 1 ++ beBytes 2 sum ++ beBytes 4 s.od.ip ++ beBytes 4 ip
    s.internalSend (beBytes 6 mac ++ beBytes 6 ownMac ++ beBytes 2 0x0800 ++ head (ipChecksum (head 0)) ++ icmp)

end Sys2Proof.Machine
end

