-- ==== Sys2Proof/Machine/Reset.lean ====
section
/-! DEFINITION. Power-on reset, wake and module reset (R73, R139, R152, R154, R168, R209, R615, R627 to R629), the work of a Boot
(R127, R233, R541, R563, R573, R599) and its end (R143, R155, R503, R525, R612, R621), Recovery (R606 to R608), and sleep (R150). -/

namespace Sys2Proof.Machine

/-! ## What a reset leaves -/

/-- A store that has begun and loses its firmware or its power has not written its header: the bank it wrote holds no set (R537). -/
def State.storeCut (s : State) : State :=
  if s.od.jobs.any fun j => j.begun then
    let t := s.storeTarget
    s.setOd { s.od with jobs := []
                        banks := s.od.banks.map fun b => if b.1 = t ∧ b.2.st = 1 then (b.1, { b.2 with st := 2 }) else b }
  else s.setOd { s.od with jobs := [] }

/-- NVM (R42). -/
def inNvm (a : Nat) : Bool := decide (0x01000000 ≤ a) && decide (a < 0x20000000)

/-- The state of a module whose domains come up from no power (R73, R154): non-volatile memory and what the world holds stay. With
`aon` AON retention has kept its power: the count of R621 and the entries of R167. With `wake` the AON registers with their parity, the
safe states of the units that own any (R69), the trims of the LF aerials (R245) and the tide's and the berth's retained state stay too. -/
def State.cold (s : State) (aon wake : Bool) : State :=
  let s := (s.storeCut).updReset
  { ({} : State) with
    now := s.now
    pending := s.pending
    free := s.free
    pins := s.pins
    plate := s.plate
    regs := if wake then s.regs.filter fun e => e.1.1.card.dom == .AON || [Reg.CAL_LF0, .CAL_LF1].contains e.1.1 else []
    mem := s.mem.filter fun e => inNvm e.1
    jnl := { nvm := s.jnl.nvm, nvmCount := s.jnl.nvmCount, seqPers := s.jnl.seqPers
             next := if s.jnl.nvmCount = 0 then 0 else (s.jnl.seqPers + 1) % 2 ^ 32
             lost := if aon && !wake then s.jnl.lost + s.jnl.wait.length else 0
             retained := if aon then s.jnl.retained else [] }
    clk := { g0 := s.now, msAt := s.now }
    bus := if wake then { par := (s.bus.par.filter fun e => e.1.1.card.dom == .AON).map fun e => (e.1, false)
                          safe := s.bus.safe.filter fun u => u == .nm || u == .dioWake } else {}
    berth := { prechg := s.berth.prechg, prechgMated := s.berth.prechgMated, lastMs := s.berth.lastMs, lastRes := s.berth.lastRes
               lastOk := s.berth.lastOk }
    sup := { keep := s.sup.keep }
    tide := { epoch := s.now, period := if wake then s.tide.period else 30517578000, retained := if wake then s.tide.retained else none }
    cal := { fact := s.cal.fact, factB := s.cal.factB, factGood := s.cal.factGood }
    od := { banks := s.od.banks }
    can := if wake then s.can.filterMap fun c => if c.2.fecWake then some (c.1, { fecWake := true }) else none else []
    nm := { wakeIn := s.nm.wakeIn, noFeedAt := s.now }
    acc := { slot := s.acc.slot.map fun e => (e.1, { e.2 with lastOk := none }), deny := s.acc.deny, sysId := s.acc.sysId }
    cust := { keys := s.cust.keys, bad := s.cust.bad, lc := s.cust.lc, returns := s.cust.returns, enrols := s.cust.enrols
              rollback := s.cust.rollback, fresh := s.cust.freshNvm, freshNvm := s.cust.freshNvm }
    upd := s.upd }

/-- Bits [6:0] of `SYS_RST_CAUSE` are written afresh (R628); RESOLE is set for every Boot of the resoler (R598). -/
def State.rstCause (s : State) (bits : Nat) : State :=
  s.wr .SYS_RST_CAUSE 0 (BitVec.ofNat 32 (s.fld F.SYS_RST_CAUSE_LIMP_COUNT * 256 + (bits ||| (if s.resoling then 64 else 0)) % 128))

/-! ## The work of a Boot -/

/-- A Boot that no operand describes finds the factory set and the keys as the last one left them (DESIGN CHOICE, log 117). -/
def State.bootSame (s : State) : BootIn :=
  { fact := s.cal.factGood, keys := s.cust.bad.filterMap fun i => if h : i < 27 then some ⟨i, h⟩ else none }

/-- A factory-fresh module (R155): CAN0 runs rate detection, ETH0 comes up with the fixed setting of its defaults. -/
def State.freshPorts (s : State) : State :=
  let s := s.setFlag F.SYS_MODE_FRESH
  let s := ((s.setFlag F.CAN_CTRL_EN 0).setFlag F.CAN_CTRL_DET_EN 0).canStart 0
  (s.setFlag F.ETH_PCTRL_EN 0).linkSetup 0

/-- ROM reads the marker and checks the running image (R599, R604, R605). Then firmware samples the slot,
checks the keys, reads the factory set and applies the stored set (R127, R233, R541, R563, R573, R586); `b` says what passes. -/
def State.startUp (s : State) (b : BootIn) (powerUp : Bool) : State :=
  let s : State := { s with mode := { s.mode with started := true }, cal := { s.cal with factGood := b.fact } }
  let s := (s.romBoot b.image).sampleSlot
  if s.mode' ≠ 2 ∨ s.resoling then s
  else
    let s := (s.clearFault .LOCKSTEP_A 0).clearFault .LOCKSTEP_B 1
    let s := s.each (List.range 8) fun s p =>
      if (s.canc p).fecWake then (s.setFlag F.CAN_EVT_SW_FEC p).setCanc p { s.canc p with fecWake := false } else s
    let s := ((s.custBoot b).freshBoot).calBoot powerUp
    let s := s.bootSet.takeAddresses
    if s.mode.setApplied then s else s.freshPorts

/-! ## Resets -/

/-- The power-on reset (R73, R119, R168, R210): the slot strap and KEEP (10 mV) as they then are. `aon`: it ends a hold-up with VSRC above
VRST, so that AON has kept its power. -/
def State.powerOn (s : State) (slot keep : Nat) (aon : Bool) (boot : BootIn) : State :=
  let s := s.cold aon false
  let s : State := { s with pins := { s.pins with slot := slot % 64 }, plate := { t1 := boot.t1, t2 := boot.t2 } }
  let s := (s.rstCause (if aon then 3 else 1)).keepVolt keep
  let s := if keep < 900 then s.raise .BERTH_NO_KEEP else s
  (s.startUp boot true).wireDefault

/-- The bit of `SYS_RST_CAUSE` of a module reset asked for by a command. -/
def ResetCause.bit : ResetCause → Nat | .cmd => 3 | .limp => 4 | .extract => 5 | .resole => 6

/-- Faults whose condition is state that a module reset takes away (R73, R612). -/
def resetEnds : List FaultId := [.OVERLOAD_A, .OVERLOAD_B, .EVE_STORE_FULL, .SPEED_LOSS, .STREAM_UNDERRUN, .CAN_BUS_OFF, .CAN_BUS_OFF_LIMIT,
  .CAN_ERR_PASSIVE, .GWY_QUARANTINE, .NM_NODE_STUCK, .NM_OWN_STUCK, .NM_SEG_ISOLATED]

/-- Every active fault that `p` selects stops being active. -/
def State.clearAll (s : State) (p : Active → Bool) : State := s.each (s.jnl.active.filter p) fun s a => s.clearFault a.f a.idx

/-- What the bollard and the outputs see of a module reset (R139, R370, R374). -/
def State.resetHold (s : State) (bit : Nat) (limp : Bool) : State :=
  if bit = 5 then
    (((s.silPause.commandsOff).setFlag F.DIO_AUX_CTRL_SSUP_EN 0 false).dioRefresh.governanceEnds).holdStop
  else if limp && !s.holdRun then s
  else s.holdStart

/-- The events of a valve channel run on without the store entries that a reset takes away (R73). -/
def InjCh.detach (c : InjCh) : InjCh :=
  let run : Option ValveRun := match c.run with
    | some r => some { r with ev := { r.ev with ent := none } }
    | none => none
  let wait : Option ValveEv := match c.wait with
    | some w => some { w with ent := none }
    | none => none
  { c with run := run, wait := wait }

/-- A module reset with its bit of `SYS_RST_CAUSE` (R73, R516, R583, R595, R627 to R629). -/
def State.moduleReset (s : State) (bit : Nat) (boot : BootIn) : State :=
  let prev := s.mode'
  let s := (s.tideKeep).setMode 2
  let s := (s.custReset.accReset.updReset.storeCut).sessEndAll fun _ => true
  let s := (s.each (s.sw.map (·.1)) fun s n => s.setSwc n { (s.swc n).endWin with auto := none }).resetHold bit (prev == 5)
  let s := s.setEve {}
  let s : State := { s with inj := { s.inj with ch := s.inj.ch.map fun (c : Nat × InjCh) => (c.1, InjCh.detach c.2) } }
  let s := { s with
    can := []
    eth := {}
    gwy := {}
    nm := { wakeIn := s.nm.wakeIn, noFeedAt := s.nm.noFeedAt }
    clk := { s.clk with aDown := none, bDown := none, highAt := [] }
    bus := { s.bus with shadow := [], dmaErr := false, hrp := {} }
    od := { banks := s.od.banks, sess := s.od.sess, fails := s.od.fails, lockUntil := s.od.lockUntil, window := s.od.window
            vals := s.od.vals, nodes := s.od.nodes, ip := s.od.ip, udp := s.od.udp, node := s.od.node }
    cal := { s.cal with lfBad := [] }
    jnl := { s.jnl with flushing := [], deferSince := none } }
  let s := s.parityReset
  let s := s.resetDomains [.PER, .FAB, .CANC, .ETHC, .TIDE]
    [.BERTH_CAP, .BERTH_RAILCAP, .BERTH_LINK, .JNL_STAT, .JNL_SEQ_NEW, .JNL_SEQ_OLD, .JNL_SEQ_PERS, .JNL_ERR, .JNL_CNT,
      .CAL_LF0, .CAL_LF1]
  let s := (s.setFld F.SYS_MODE_PREV 0 prev).rstCause (2 ^ bit ||| (if prev = 7 then 64 else 0))
  let s := { s with mode := { bootMode := true, bootCause := bit, limpAt := s.mode.limpAt, trigInt := s.mode.trigInt,
                                  trigRank := s.mode.trigRank } }
  let s := s.clearAll fun a => resetEnds.contains a.f || (prev == 7 && a.f.recov.contains .V)
  let s := (s.tideResume.refreshAll).dioRefresh.bstAll
  s.startUp boot false

/-! ## Wake -/

/-- DI `n` is armed as a wake source: its MASK bit, or every one of DI00 to DI15 in the safe state of `DIO_WAKE_CFG` (R70). -/
def State.diArmed (s : State) (n : Nat) : Bool := decide (n < 16) && (s.isSafe .dioWake || s.bit F.DIO_WAKE_CFG_MASK 0 n)

/-- A wake source is armed (R501). -/
def State.wakeArmed (s : State) (cause idx : Nat) : Bool :=
  match cause with
  | 1 | 2 => decide (idx < 8) && s.flag F.CAN_SW_CFG_EN idx && (s.canc idx).xcvr == 2
  | 3 => decide (idx < 8) && s.flag F.CAN_SW_CFG_WUP idx && (s.canc idx).xcvr == 2
  | 4 => s.flag F.NM_WAKE_CFG_WAKEIN_EN
  | 5 => s.diArmed idx
  | 6 => s.flag F.ACC_CTRL_WATCH_EN
  | 7 => s.flag F.NM_WAKE_CFG_TIMER_EN
  | 8 => true
  | 9 => true
  | 14 => true
  | _ => false

/-- The bit of `NM_WAKE_SRC` of a cause and index. -/
def wakeBit (cause idx : Nat) : Nat :=
  match cause with
  | 1 | 2 | 3 => idx % 8
  | 14 => 14
  | c => c + 4

/-- Events are raised with AON stamps (R34, R36). -/
def State.aonStamped (s : State) (f : State → State) : State :=
  let s := f { s with mode := { s.mode with aon := true } }
  { s with mode := { s.mode with aon := false } }

/-- The module wakes by its first source, while `also` names further sources detected (R139, R152, R209, R210, R460, R501, R504). `boot` says
what passes its check and what the plate sensors read. The berth link is down until the first valid RAIL_ADV (DESIGN CHOICE, log 119). -/
def State.wakeUp (s : State) (cause idx : Nat) (also : List (Nat × Nat)) (boot : BootIn) : State :=
  if s.awake || !s.wakeArmed cause idx then s
  else
    let prev := s.mode'
    let kept := (List.range 64).map fun n => (n, ((s.swc n).tc, (s.swc n).ts, s.ta n))
    let asleep := (s.now - s.nm.timerAt.getD s.now) / 1000000
    let extract := cause == 8 || also.any fun x => x.1 == 8
    let s := s.cold true true
    let s : State := { s with plate := { t1 := boot.t1, t2 := boot.t2 } }
    let s := if boot.ret then s else s.setTide { s.tide with retained := none, period := 30517578000 }
    let s := (s.setFld F.SYS_MODE_PREV 0 prev).rstCause 4
    let s := s.setFld F.BERTH_STAT_MATED 0 0
    let s := (s.setFld F.BERTH_STAT_STATE 0 0).setFlag F.BERTH_STAT_LINK_UP 0 false
    let s := (s.setFld F.NM_WAKE_REASON_CAUSE 0 cause).setFld F.NM_WAKE_REASON_INDEX 0 idx
    let src := ((cause, idx) :: also).foldl (fun a x => putBit a (wakeBit x.1 x.2) true) (s.rd .NM_WAKE_SRC).toNat
    let s := s.wr .NM_WAKE_SRC 0 (BitVec.ofNat 32 src)
    let s : State := { s with mode := { bootCause := 2, holdBoot := extract } }
    let s := if s.fld F.NM_WAKE_CFG_WO_MODE = 1 ∧ cause ≠ 4 then s.setNm { s.nm with pulse := some s.now } else s
    let s := (s.tideResume.keepVolt s.sup.keep).aonStamped fun s => s.raise .NM_WAKE idx [cause]
    let s := s.scrub.startUp boot true
    let s := if boot.ret then s.wireResume kept asleep else s.wireDefault
    if extract then
      let s := { s with pins := { s.pins with extract := true } }
      let s := s.setBerth { s.berth with extAt := some s.now, rampAt := s.now, lastMs := 0, lastRes := [0, 0, 0, 0], lastOk := true }
      let s := (s.setFlag F.BERTH_STAT_EXTRACT).setFld F.BERTH_STAT_STATE 0 3
      ((s.setFlag F.BERTH_EVT_EXTRACT).setFlag F.BERTH_EVT_RAMP_OK).aonStamped fun s =>
        (s.raise .BERTH_EXTRACT).raise .BERTH_RAMP_OK 0 [0, 0, 0]
    else s

/-! ## The end of Boot -/

/-- Recoveries of kinds B and H are judged (R612): a fault that has not been raised in this Boot ends. -/
def State.bootFaults (s : State) : State :=
  s.clearAll fun a => (a.f.recov.contains .B || a.f.recov.contains .H) && !s.mode.raised.contains (a.f, a.idx)

/-- The harbour master starts (R488, R503). -/
def State.bootNm (s : State) : State :=
  if s.mode.bootCause = 2 then
    let c := s.fld F.NM_WAKE_REASON_CAUSE
    s.nmStart (if 1 ≤ c ∧ c ≤ 3 then some (s.fld F.NM_WAKE_REASON_INDEX) else none)
  else ((s.nmConfigured).setFlag F.NM_MODNEED_NEED).needAll

/-- Boot ends (R143, R155, R525, R582, R606). It does not while the resoler runs, nor after an extraction in sleep (R139). -/
def State.bootComplete (s : State) : State :=
  if s.mode' ≠ 2 then s
  else
    let s := if s.mode.started then s else (s.startUp s.bootSame true).wireDefault
    if s.mode' ≠ 2 || s.resoling || s.mode.holdBoot then s
    else
      let s := s.bootFaults.journalBoot
      let s := { s with mode := { s.mode with bootEndAt := s.now } }
      if s.pins.recov then
        let r := s.takeTrigger 4
        if r.2 then r.1.enterRecovery 2 else r.1
      else
        let auto := s.flag F.SYS_CFG_AUTOSTART && !s.isSafe .sysCfg && !(s.mode.bootCause == 2 && s.fld F.NM_WAKE_REASON_CAUSE == 14)
        let s := if auto && s.mode.setApplied && s.anyFeed then s.enterOperate else s.enterConfigure
        (s.bootNm.nmtSend 0).dbgHeld

/-! ## Recovery -/

/-- What the entry to Recovery sets up (R142, R606 to R608): the clocks of TIDE and PWR stop and are no longer valid, and the ROM loader runs
on CAN0 and ETH0 alone, with ROM's own settings. -/
def State.recoverySetup (s : State) : State :=
  let s := { s with mode := { s.mode with rom := false } }
  let s := ((s.setBit F.CLK_STAT_LOCK 0 4 false).setBit F.CLK_STAT_LOCK 0 5 false).tideStop
  let s := s.pdoStop
  let s := s.each (List.range 8) fun s p => (s.canStop p).setFlag F.CAN_CTRL_EN p false
  let s := s.each (List.range 4) fun s p => (s.linkDrop p).setFlag F.ETH_PCTRL_EN p false
  let s := s.each (List.range 16) fun s k =>
    (s.wr .CAN_DET_A k (resetVal (.CAN_DET_A, k))).wr .CAN_DET_B k (resetVal (.CAN_DET_B, k))
  let s := s.wr .CAN_DET_CFG 0 (resetVal (.CAN_DET_CFG, 0))
  let s := s.wr .CAN_CTRL 0 (resetVal (.CAN_CTRL, 0))
  let s := (s.setFlag F.CAN_CTRL_EN 0).setFlag F.CAN_CTRL_DET_EN 0
  let s := s.wr .ETH_PCTRL 0 (resetVal (.ETH_PCTRL, 0))
  let s := (s.setFlag F.ETH_PCTRL_EN 0).setFlag F.ETH_PCTRL_AN_EN 0
  let a := if s.flag F.BERTH_STAT_SLOT_VALID then 0x200 + s.fld F.BERTH_STAT_POS else 0x2FF
  let s := s.setOd { s.od with nodes := [(0, 127)], node := a, udp := 47410, ip := 169 * 2 ^ 24 + 254 * 2 ^ 16 + a, xfer := [], queue := [] }
  (((s.canStart 0).linkSetup 0).nmConfigured).nmtSend 0

/-! ## Sleep -/

/-- The conditions of R499 have held for 100 ms: the sleep commit, which writes the tide's retention (R460). Without KEEP the module does not
sleep (R100, R124). -/
def State.sleepCommit (s : State) : State :=
  match s.nm.okSince with
  | none => s
  | some t =>
    if s.mode.sleeping || !s.sleepOk || !s.flag F.BERTH_STAT_KEEP_OK then s
    else
      let s := s.advanceTo (t + ms 100)
      let r := s.takeTrigger 6
      if !r.2 then r.1
      else
        let s := r.1.tideKeep
        { s with mode := { s.mode with sleeping := true, sleepAt := s.now } }

/-- Transceivers of ports with wake detection are armed, but on isolated segments (R414, R501). -/
def State.armPorts (s : State) : State :=
  s.each (List.range 8) fun s p =>
    let arm := s.flag F.CAN_SW_CFG_EN p || s.flag F.CAN_SW_CFG_WUP p
    if s.nmState p = 6 then s
    else if arm then (if (s.canc p).xcvr = 2 then s else s.setXcvr p 2)
    else s.setXcvr p 3

/-- The sequence of R150 is complete and power is removed: Watch where a port is armed for selective wake or LF polling is enabled, else
Dormant. Where KEEP has gone since the commit, the module stays awake (R100, R124). -/
def State.sleepDone (s : State) : State :=
  if !s.mode.sleeping then s
  else if !s.flag F.BERTH_STAT_KEEP_OK then s.sleepEnds
  else
    let s := if s.od.jobs.any fun j => j.begun then s.storeComplete true else s
    let s := if s.jnl.flushing.isEmpty then s else s.flushComplete true
    let s := s.visibleAll
    let s := if s.nvmDeferred then s
      else
        let es := s.jnl.wait.take 512
        let s := s.persist (es.map fun q => (q, s.bytes (jnlAddr q) 32))
        s.setJnl { s.jnl with wait := s.jnl.wait.drop 512, waitSince := s.jnl.waitSince.drop 512, flushReq := false }
    let s := (s.valvesOff.clearStore).pdoStop
    let s := (s.silPause.commandsOff.governanceEnds).setFlag F.DIO_AUX_CTRL_SSUP_EN 0 false
    let s := (s.sessEndAll fun _ => true).armPorts
    let watch := ((List.range 8).any fun p => s.flag F.CAN_SW_CFG_EN p && (s.canc p).xcvr == 2) || s.flag F.ACC_CTRL_WATCH_EN
    let s := s.setMode (if watch then 1 else 0)
    let s := (s.custReset.accReset.updReset).setFld F.DIO_WAKE_SRC_LEVEL 0 (bitsOf 16 fun n => s.di n)
    let s := s.setNm { s.nm with timerAt := some s.now, okSince := none }
    { s with bus := { s.bus with hrp := {}, shadow := [] } }

/-! ## The end of every command -/

/-- The clock of R499: it starts when the conditions of sleep begin to hold, and stops when they end. -/
def State.okClock (s : State) : State :=
  if s.sleepOk then (if s.nm.okSince.isNone then s.setNm { s.nm with okSince := some s.now } else s)
  else (if s.nm.okSince.isSome then s.setNm { s.nm with okSince := none } else s)

/-- What follows a command, seen from the state before it: a module reset that it asked for; the end of an extraction ramp (R135) and of a
calibration window (R236); writes of data NVM that may now begin (R165, R537, R620); the settings of Recovery; the end of Service with its
session (R143); PDOs and zone learning on a change of mode. -/
def State.follow (s0 s : State) : State :=
  let s := match s.mode.reset with
    | some bit => ({ s with mode := { s.mode with reset := none } }).moduleReset bit { s.bootSame with image := s.upd.runOk }
    | none => s
  let s := s.rampEnd.calWatch.hsFollow.markStart.storeStart
  let s := if s.jnl.flushReq && !s.flag F.SYS_LOAD_C5_DEFER then s.beginFlush 64 else s
  let s := if s.mode' = 7 ∧ (s0.mode' ≠ 7 ∨ s.mode.rom) then s.recoverySetup else s
  let s := if s.mode' = 6 ∧ !s.serviceOpen ∧ !s.cust.dbg.service then s.enterConfigure else s
  let s := if s0.mode' = 4 ∧ s.mode' ≠ 4 then s.pdoStop else s
  if s0.mode' = 6 ∧ s.mode' ≠ 6 then s.setAcc { s.acc with learn := none } else s

/-- What follows a command in the same step: after `State.follow` the debug level on a change of mode, and the clocks of R605 and R499. -/
def State.finish (s0 s : State) : State := (s0.follow s).dbgMode.trialWatch.okClock

/-- Run a command's effect `f` on a state, with what follows it. -/
def State.run (s : State) (f : State → State) : State := State.finish s (f s)

end Sys2Proof.Machine
end

