-- ==== Sys2Proof/WellFormed.lean ====
section
/-! DEFINITION. Which commands a wire of the module can carry: CAN frames of the bus obey ISO 11898-1. Every other operand has a type that
holds only what the command can carry, or is a number or a byte string of which the meaning takes what its field holds. -/

namespace Sys2Proof

/-- Data bytes of a frame by its DLC (ISO 11898-1). -/
def CanFrame.dataLen (f : CanFrame) : Nat :=
  if f.rtr then 0
  else if f.dlc ≤ 8 then f.dlc
  else if f.fdf then [12, 16, 20, 24, 32, 48, 64].getD (f.dlc - 9) 64
  else 8

/-- A frame that a CAN bus can carry: its identifier fits, its DLC has 4 bits, its data has the length that the DLC gives, an FD frame is
no remote frame, and only an FD frame switches its rate or indicates an error state. -/
def CanFrame.wf (f : CanFrame) : Bool :=
  decide (f.id < if f.xtd then 2 ^ 29 else 2 ^ 11) && decide (f.dlc < 16) && f.data.length == f.dataLen &&
    !(f.fdf && f.rtr) && (f.fdf || !(f.brs || f.esi))

/-- The well-formed commands. -/
def Instr.wf (i : Instr) : Bool :=
  match i with
  | .clkDomainLoss _ _ _ => true
  | .clkRefLoss _ _ => true
  | .weltOvf _ _ => true
  | .compareMismatch _ => true
  | .pairRestartComplete _ => true
  | .overloadEntry _ _ => true
  | .overloadExit _ _ => true
  | .overloadRequestTimeout _ _ _ _ => true
  | .journalForcedFlush => true
  | .entryVisible _ => true
  | .registerWrite _ _ _ _ => true
  | .atomicPairAccess _ _ _ => true
  | .eyeletWrite _ _ _ _ => true
  | .stallTimeout _ _ _ _ => true
  | .scrubberVisit _ => true
  | .blockReenable _ _ => true
  | .guardViolClr _ => true
  | .berrCountClr _ => true
  | .hrpRead _ => true
  | .hrpWrite _ => true
  | .hrpStatus _ => true
  | .sessOpen _ => true
  | .sessAuth _ => true
  | .sessClose _ => true
  | .hrpFrameError _ _ => true
  | .hrpSessionTimeout => true
  | .hrpLockoutEnd => true
  | .plateHot _ _ => true
  | .plateLimit _ _ => true
  | .plateSensor _ _ => true
  | .powerOnReset _ _ _ _ => true
  | .moduleReset _ _ => true
  | .bootComplete => true
  | .prechgMate => true
  | .feedProbe _ _ _ _ => true
  | .berthHardMate _ => true
  | .berthSlotChange _ => true
  | .railAdv _ => true
  | .modReport => true
  | .berthLinkLoss => true
  | .capacityRaise _ => true
  | .berthExtract _ => true
  | .rampCompare _ _ _ _ => true
  | .extractionEntryCommit => true
  | .berthExtractAbort => true
  | .modeRequestDormant _ _ => true
  | .modeRequestBoot _ _ => true
  | .modeRequestConfigure _ _ => true
  | .modeRequestOperate _ _ => true
  | .modeRequestService _ _ => true
  | .modeRequestRecovery _ _ => true
  | .limpRetry => true
  | .sleepCommit => true
  | .sleepSequenceDone => true
  | .wake _ _ _ _ => true
  | .feedPresent _ _ => true
  | .supplyDip _ _ => true
  | .feedAbsent _ _ => true
  | .feedOvervolt _ _ => true
  | .restoreBegin _ _ => true
  | .restoreStep _ => true
  | .vlogLow _ => true
  | .deferredWriteStart _ => true
  | .storeReplyTimeout _ => true
  | .supplyLoss _ => true
  | .holdupEnd _ _ => true
  | .vminClr _ => true
  | .swOutWrite _ _ _ _ => true
  | .pwmPeriodStart _ _ _ _ => true
  | .inrushEnd _ => true
  | .groupCommand _ _ _ => true
  | .groupTurnOn _ => true
  | .pairWrite _ _ => true
  | .pairImbalance _ _ _ => true
  | .peakClr _ _ => true
  | .fastTrip _ _ => true
  | .l1Trip _ _ => true
  | .l1Restart _ _ _ => true
  | .l2Ceiling _ _ => true
  | .wireModelStep _ => true
  | .feedLimiterUpdate _ _ => true
  | .limiterHoldoffEnd _ => true
  | .feedLimiterRestore _ => true
  | .sagBegin _ _ _ _ => true
  | .sagEnd _ _ => true
  | .protClear _ _ => true
  | .feedLimiterClear _ _ => true
  | .autoClear _ => true
  | .calRefFail _ _ => true
  | .calRefOk _ _ => true
  | .calWindowStart _ => true
  | .calWindowEnd _ _ _ => true
  | .calRevert _ => true
  | .calReenable _ => true
  | .boostSenseCal _ _ _ => true
  | .diThresholdCheck _ _ _ => true
  | .pullupApply _ => true
  | .openLoadOff _ _ => true
  | .shortToFeed _ _ => true
  | .openLoadOn _ => true
  | .boostPwrLimit _ _ _ _ => true
  | .boostOvervolt _ _ => true
  | .boostOvClear _ _ => true
  | .boostStartFail _ => true
  | .lastWrite _ _ _ _ => true
  | .directCommand _ _ _ _ => true
  | .injAbort _ _ => true
  | .phaseEnd _ _ _ => true
  | .commandEnd _ _ => true
  | .valveEventEnd _ _ => true
  | .minOffPass _ => true
  | .deferExpiry _ => true
  | .boostReady _ _ => true
  | .boostWaitExpiry _ => true
  | .coilShort _ => true
  | .coilShortRelease _ _ => true
  | .hsbShort _ => true
  | .hsbShortClear _ _ => true
  | .injReenable _ => true
  | .eventCommand _ _ => true
  | .eventAbort _ _ => true
  | .eventAbortAll _ => true
  | .eventCommit _ => true
  | .eventDeliver _ => true
  | .switchEventEnd _ => true
  | .eventReenable _ => true
  | .streamRecord _ _ _ => true
  | .recordExpansion _ => true
  | .speedEstimateUpdate _ => true
  | .speedLoss _ => true
  | .hostSpeed _ _ _ => true
  | .odometerSet _ _ _ => true
  | .streamClose _ _ => true
  | .ledOutWrite _ _ _ _ => true
  | .ledPeriodStart _ => true
  | .fadeStart _ _ _ _ => true
  | .fadeStep _ => true
  | .ledWindow _ _ _ _ => true
  | .ledShortRelease _ _ => true
  | .foldbackUpdate => true
  | .ledReenable _ => true
  | .diEdge _ _ => true
  | .counterEdge _ _ => true
  | .counterClear _ _ => true
  | .frequencyGate _ => true
  | .ppsEdge _ _ => true
  | .wakeStrobe _ _ => true
  | .doWrite _ _ _ => true
  | .doOverload _ => true
  | .doRetry _ => true
  | .doClear _ _ => true
  | .doOpenLoad _ => true
  | .ssupOverload => true
  | .ssupRetry => true
  | .auxOverload _ => true
  | .auxShedStep _ => true
  | .auxReturnStep _ => true
  | .auxDown => true
  | .auxUp => true
  | .bollardFeed _ _ _ => true
  | .bollSilence _ => true
  | .bollHoldExpired => true
  | .reclaim _ => true
  | .autoReclaim _ => true
  | .bollReenable _ => true
  | .reflexEvaluation => true
  | .reflexLatchClear _ _ => true
  | .canCtrlWrite _ _ _ _ => true
  | .canFrameReceived _ f _ => f.wf
  | .canFrameError _ _ _ _ _ => true
  | .txRequest _ _ _ => true
  | .txAbort _ _ _ _ => true
  | .canFrameSent _ _ => true
  | .canTxError _ _ _ _ _ => true
  | .busOffDelayEnd _ => true
  | .busOffRecovered _ => true
  | .recover _ _ => true
  | .detStart _ _ => true
  | .detWindowEnd _ => true
  | .rxFifoAck _ _ _ => true
  | .ttReferenceSend _ => true
  | .ttTakeover _ => true
  | .canTtLoss _ => true
  | .canSelectiveWake _ f _ => f.all CanFrame.wf
  | .wakeUpPattern _ _ => true
  | .canReenable _ _ => true
  | .anResult _ _ _ _ => true
  | .anRetry _ _ _ _ => true
  | .anTimeoutExpiry _ => true
  | .ethLinkUp _ => true
  | .ethLinkDown _ => true
  | .reneg _ _ => true
  | .ethFrameReceived _ _ _ _ => true
  | .ethFrameSent _ _ => true
  | .macAgeOut _ _ => true
  | .macLookup _ => true
  | .macAddStatic _ => true
  | .macDelete _ => true
  | .macFlushLearned _ => true
  | .tc10SleepRequest _ => true
  | .tc10Wake _ => true
  | .ethReenable _ => true
  | .syncReceived _ _ _ _ => true
  | .announceReceived _ _ _ _ _ => true
  | .announceSend _ => true
  | .syncSend _ => true
  | .pdelayReqSend _ => true
  | .pdelayMessageReceived _ _ => true
  | .tideSrcLoss => true
  | .tideHoldLong => true
  | .selfValid => true
  | .manualRate _ _ => true
  | .manualStep _ _ => true
  | .manualSet _ _ => true
  | .compareFire _ => true
  | .aonPeriodWindow => true
  | .txb2Load _ => true
  | .acfFlush _ => true
  | .backpressureRelease _ => true
  | .gwyBpTimeout _ => true
  | .ringGetWrite _ _ _ => true
  | .ringDisable _ _ => true
  | .quarantineExpiry _ => true
  | .quarClr _ => true
  | .gwyReenable _ => true
  | .keepAliveSend _ => true
  | .silenceExpiry _ => true
  | .prepareExpiry _ => true
  | .sleepConfirm _ => true
  | .transitionWindowEnd _ => true
  | .repeatEnd _ => true
  | .needWrite _ _ _ => true
  | .moduleNeedWrite _ _ => true
  | .wakeIn _ _ _ => true
  | .segmentWake _ _ => true
  | .segmentPassiveWake _ _ => true
  | .nmNodeStuck _ _ => true
  | .nodeUnstuck _ _ => true
  | .unstuck _ _ => true
  | .nmOwnStuck _ => true
  | .wakeTimer _ => true
  | .wakeOutPulseEnd => true
  | .sdoInitiateDownload _ _ => true
  | .sdoDownloadSegment _ _ => true
  | .sdoInitiateUpload _ _ => true
  | .sdoUploadSegment _ _ => true
  | .sdoBlockDownload _ _ => true
  | .sdoBlockUpload _ _ => true
  | .sdoAbortReceived _ => true
  | .sdoTimeout _ => true
  | .store _ => true
  | .storeComplete _ => true
  | .restoreDefaults _ => true
  | .sessionNonce _ => true
  | .sessionAuthentication _ _ => true
  | .sessionClose _ => true
  | .sessionTimeout _ => true
  | .authLockoutEnd => true
  | .rpdoReceived _ _ => true
  | .dictRpdoTimeout _ => true
  | .sync _ _ => true
  | .tpdoTransmit _ => true
  | .txb1Load _ => true
  | .nmtStart _ _ => true
  | .nmtStop _ _ => true
  | .nmtEnterPreoperational _ _ => true
  | .nmtResetNode _ _ => true
  | .nmtResetCommunication _ _ => true
  | .heartbeat => true
  | .dictHbLoss _ => true
  | .hello _ _ => true
  | .openRequest _ _ => true
  | .auth _ _ => true
  | .close _ _ => true
  | .read _ _ => true
  | .write _ _ => true
  | .bulkRead _ _ => true
  | .domainRead _ _ => true
  | .domainWrite _ _ => true
  | .arpRequest _ _ _ => true
  | .icmpEcho _ _ _ => true
  | .registerWindowRead _ => true
  | .registerWindowWrite _ _ => true
  | .challengeCycle _ => true
  | .pollNow _ _ => true
  | .unlock _ => true
  | .uhfReply _ _ _ => true
  | .addressedCycle _ _ _ => true
  | .idSlottedCycle _ _ => true
  | .accLockoutEnd _ => true
  | .gateClose _ => true
  | .releaseMessage _ => true
  | .enrolment _ _ _ => true
  | .accEnrolFail => true
  | .revoke _ _ => true
  | .rekey _ _ => true
  | .zoneLearning _ _ => true
  | .zoneLearningEnd => true
  | .watchWakeFrame _ => true
  | .watchReply _ _ _ => true
  | .keyRecord _ _ => true
  | .lifecycleNonce _ => true
  | .lifecycleRequest _ _ => true
  | .debugChallenge => true
  | .debugAttach _ _ => true
  | .debugWake _ => true
  | .debugDetach => true
  | .debugPortDisable _ => true
  | .dbgLockoutEnd => true
  | .trngRandom _ _ _ _ => true
  | .sha256 _ _ _ _ => true
  | .ecdsaVerify _ _ _ _ => true
  | .hmacSha256 _ _ _ _ => true
  | .aesCmac _ _ _ _ => true
  | .aesEncrypt _ _ _ _ => true
  | .mailboxDone _ => true
  | .mailboxRelease _ _ => true
  | .custSelftest => true
  | .parcel _ _ => true
  | .blockStagingWrite _ => true
  | .stagingClear _ _ => true
  | .activate _ _ => true
  | .resolerBlockCopy _ _ => true
  | .trialConfirm => true
  | .recovLow _ _ => true
  | .journalFlush => true
  | .flushCommand _ => true
  | .flushComplete _ => true
  | .clr1003 _ => true
  | .readWindowLoad _ _ => true
  | .faultExpiry => true
  | .registerRead _ _ _ _ => true
  | .plateLimitClear _ _ => true
  | .plateSensorClear _ _ => true
  | .keepReturn _ => true
  | .pairImbalanceClear _ _ _ => true
  | .openLoadOffClear _ => true
  | .shortToFeedClear _ => true
  | .openLoadOnClear _ => true
  | .doOpenLoadClear _ => true
  | .boostPwrLimitEnd _ _ _ _ => true
  | .calStale _ => true
  | .announceReceiptTimeout _ => true
  | .pdelayLostResponses _ => true
  | .tc10SleepResponse _ _ => true
end Sys2Proof
end

