-- ==== Sys2Proof/Machine/Rows.lean ====
section
/-! DEFINITION. How a command reaches the machine: by a register write of a master, by a dictionary write or read of a client, or as an event
of a powered domain; and the few events whose effect no chapter's file holds whole. -/

namespace Sys2Proof.Machine

/-! ## Commands of clients -/

/-- A dictionary write of a client as a command (R520, R531): over SDO a complete value with its confirmation, over Nydulet a WRITE with
the client's SID and its next SEQ. -/
def State.clientWrite (s : State) (c : Client) (idx sub : Nat) (b : List Byte) : State :=
  match c with
  | .sdo p =>
    if !s.sdoOn p then s
    else ((s.sessSweep.authUnlock).setXfer p none).sdoWrite p idx sub b (if b.length ≤ 4 then 0x60 else 0x20)
  | .nyd peer =>
    if !s.nydOn then s
    else
      let s := s.sessSweep.authUnlock
      let sid := match s.sessOf c with | some x => x.sid | none => 0
      let seq := match s.sessOf c with | some x => x.seq + 1 | none => 0
      let m := nydBytes (s.nydVer peer).1 0x21 s.od.node sid seq 0 (muxBytes idx sub ++ b) []
      if sid = 0 then
        if s.nydFree 0x21 then s.nydExec peer m fun s d => s.nydWrite peer d
        else s.nydReply peer 0x21 0 seq 1 (leBytes 4 abLevel)
      else
        let s := s.setOd { s.od with sess := s.od.sess.map fun y => if y.client = c then { y with seq := seq, reply := [] } else y }
        s.nydExec peer m fun s d => s.nydWrite peer d

/-- A dictionary read of a client as a command: over SDO an initiate upload, over Nydulet a READ. -/
def State.clientRead (s : State) (c : Client) (idx sub : Nat) : State :=
  match c with
  | .sdo p => s.sdoMsg p (leBytes 1 0x40 ++ muxBytes idx sub ++ leBytes 4 0) fun s =>
      s.sdoInitUp p (leBytes 1 0x40 ++ muxBytes idx sub ++ leBytes 4 0)
  | .nyd peer =>
    if !s.nydOn then s
    else
      let s := s.sessSweep.authUnlock
      let sid := match s.sessOf c with | some x => x.sid | none => 0
      let seq := match s.sessOf c with | some x => x.seq + 1 | none => 0
      let m := nydBytes (s.nydVer peer).1 0x20 s.od.node sid seq 0 (muxBytes idx sub) []
      let s := if sid = 0 then s
        else s.setOd { s.od with sess := s.od.sess.map fun y => if y.client = c then { y with seq := seq, reply := [] } else y }
      s.nydExec peer m fun s d => s.nydRead peer d

/-- A dictionary write of a number, in the length of the entry's type. -/
def State.clientNum (s : State) (c : Client) (idx sub v : Nat) : State :=
  s.clientWrite c idx sub (leBytes (match odFind idx sub with | some e => e.ty.size | none => 1) v)

/-- A register write that sets one field and keeps what the register's other stored fields hold. -/
def State.busField (s : State) (a : Acc) (f : Fld) (i v : Nat) : State :=
  s.busPut a f.reg i (f.into (s.baseWord f.reg i) v).toNat

/-- A command that a register and a dictionary entry both carry (R507): a write of `w` to register `r`, or of `v` to the entry. -/
def State.viaWord (s : State) (via : Via) (r : Reg) (i w idx sub v : Nat) : State :=
  match via with
  | .reg a => s.busPut a r i w
  | .dict c => s.clientNum c idx sub v

/-- The same for a single field. -/
def State.viaField (s : State) (via : Via) (f : Fld) (i w idx sub v : Nat) : State :=
  match via with
  | .reg a => s.busField a f i w
  | .dict c => s.clientNum c idx sub v

/-- The same for a 64-bit atomic pair of which `r` is the low register (R55). -/
def State.viaPair (s : State) (via : Via) (r : Reg) (i w idx sub : Nat) : State :=
  match via with
  | .reg a => s.busWrite a (r.addr i) w .b64
  | .dict c => s.clientNum c idx sub w

/-- An SDO message of the command specifier `cs` on port `p`: inside a block of a block download every message is one of its segments. -/
def State.sdoRow (s : State) (p : Fin 8) (cs : Nat) (b : List Byte) (f : State → State) : State :=
  s.sdoMsg p b fun s =>
    let block := match s.xferOf p with | some x => x.kind == 2 && x.phase == 0 | none => false
    if block then s.sdoBlockDown p b
    else if byteAt b 0 / 32 = cs then f s
    else s.sdoUnknown p b

/-! ## Events -/

/-- An event of a powered domain: it has no effect in Dormant and Watch (R142). -/
def State.runOn (s : State) (f : State → State) : State := s.run fun s => s.when s.awake f

/-- A limit of a boost acts at these values (R111, R255): its output power, averaged over 1 s, 0.1 W, is at its rating at the present TP, or
its input current, 10 mA, at 15 A. -/
def State.bstLimits (s : State) (p cur : Nat) : Bool := decide (s.derate 1200 900 ≤ p) || decide (1500 ≤ cur)

/-- A limit of a boost acts (R255); `v` is the rail voltage, 0.1 V. -/
def State.boostLimit (s : State) (x p cur v : Nat) : State :=
  if !s.flag F.INJ_BST_STAT_RUN x ∨ !s.bstLimits p cur then s
  else
    let s := ((s.setFld F.INJ_BST_PWR_PAVG x (Nat.min 4095 p)).setFlag F.INJ_BST_STAT_PLIM x).railVolt x v
    s.raise .BOOST_PWR_LIMIT x [] (sec 10)

/-- No limit acts any more. -/
def State.boostLimitEnd (s : State) (x p cur v : Nat) : State :=
  if s.bstLimits p cur then s else
  let s := ((s.setFld F.INJ_BST_PWR_PAVG x (Nat.min 4095 p)).setFlag F.INJ_BST_STAT_PLIM x false).railVolt x v
  s.clearFault .BOOST_PWR_LIMIT x

/-- A rail has been above 76.0 V for 10 µs (R256). -/
def State.boostOver (s : State) (x v : Nat) : State :=
  if v ≤ 760 ∨ s.flag F.INJ_BST_STAT_OV x then s
  else
    let s := (s.setFld F.INJ_BST_STAT_VOUT x (Nat.min 1023 v)).setFlag F.INJ_BST_STAT_OV x
    ((s.setFlag F.INJ_BST_STAT_READY x false).bstRefresh x).raise .BOOST_OVERVOLT x

/-- 50 ms have passed since a boost began to switch, without its rail becoming ready (R257). -/
def State.boostLate (s : State) (x : Nat) : State :=
  match lookup x s.inj.enAt with
  | some t =>
    let s := s.advanceTo (t + ms 50)
    if s.active .BOOST_START_FAIL x then s else s.raise .BOOST_START_FAIL x
  | none => s

/-- A strobe of the armed inputs in Dormant or Watch with the levels it shows (R349). -/
def State.wakeStrobe (s : State) (levels : Nat) (boot : BootIn) : State :=
  if s.awake then s
  else
    let differs := (List.range 16).filter fun n =>
      s.diArmed n && bitOf levels n != s.bit F.DIO_WAKE_SRC_LEVEL 0 n
    let hits := differs.filter fun n => (lookup n s.dio.strobe).isSome
    let s := s.setDio { s.dio with strobe := differs.map fun n => (n, 1) }
    match hits with
    | [] => s
    | n :: more =>
      let s := s.setFld F.DIO_WAKE_SRC_SRC 0 (bitsOf 16 fun k => s.bit F.DIO_WAKE_SRC_SRC 0 k || hits.contains k)
      s.wakeUp 5 n (more.map fun k => (5, k)) boot

/-- WAKE_IN has had a level for `held` ns (R488, R501): in sleep a high level of 1 ms wakes the module. -/
def State.wakeInPin (s : State) (level : Bool) (held : Nat) (boot : BootIn) : State :=
  if s.awake then s.wakeInLevel level held
  else
    let s := s.setNm { s.nm with wakeIn := level }
    if level ∧ ms 1 ≤ held then s.wakeUp 4 0 [] boot else s

/-- An input is seen at a voltage (R344); a change of an armed one after the decision to sleep cancels the commit (R500, R501). -/
def State.diSeen (s : State) (n : Nat) (mv : Int) : State :=
  let t := s.diEdge n mv
  if s.diArmed n && t.di n != s.di n then t.sleepAbort 5 else t

/-- A wake of port `p` that its armed transceiver has detected: of the module while it sleeps, else of the port's segment (R414, R496). -/
def State.portWake (s : State) (p : Nat) (cause : Option Nat) (boot : BootIn) : State :=
  match cause with
  | none => s
  | some k => if s.awake then s.passiveWake p k else s.wakeUp k p [] boot

/-- The wake timer runs out (R502). -/
def State.wakeTimerEnd (s : State) (boot : BootIn) : State :=
  match s.nm.timerAt with
  | some t =>
    if s.awake || !s.flag F.NM_WAKE_CFG_TIMER_EN then s
    else (s.advanceTo (t + sec (s.fld F.NM_WAKE_TIMER_SECONDS))).wakeUp 7 0 [] boot
  | none => s

/-- A wake attach of the debug port (R582); after the decision to sleep it cancels the commit (R500). -/
def State.debugWake (s : State) (boot : BootIn) : State :=
  if s.awake then s.sleepAbort 14
  else
    let t := s.wakeUp 14 0 [] boot
    if t.awake then t.setDbg { t.cust.dbg with wake := true } else t

/-- The RECOV pin (R606): low wakes the module, or cancels the commit after the decision to sleep (R500); while the module is powered the pin
is looked at when Boot ends. -/
def State.recovPin (s : State) (low : Bool) (boot : BootIn) : State :=
  let s := { s with pins := { s.pins with recov := low } }
  if low then (s.sleepAbort 9).wakeUp 9 0 [] boot else s

/-- EXTRACT has read 1 for 1 ms (R135, R139). -/
def State.extractPin (s : State) (boot : BootIn) : State :=
  if s.awake then (if s.extracting then s.extractBegin else s.extractBegin.storeDiscard)
  else s.wakeUp 8 0 [] boot

/-- What has begun completes on hold-up: a store, a flush and the commit of an extraction entry (R102, R138, R167). -/
def State.holdupCommits (s : State) : State :=
  let s := if s.od.jobs.any fun j => j.begun then s.storeComplete true else s
  (if s.jnl.flushing.isEmpty then s else s.flushComplete true).extractionCommit

/-- Hold-up ends (R168): with a source above VRST again, `aon`, the AON domain has kept its state. -/
def State.holdupEnd (s : State) (aon : Bool) (boot : BootIn) : State :=
  if s.flag F.BERTH_SUP_STAT_HOLDUP then s.holdupCommits.powerOn s.pins.slot s.sup.keep aon boot else s

/-- Firmware that runs again writes RECLAIM with AUTO_RECLAIM at 1 (R371): that of pair `p` after its restart, or both after a Boot. -/
def State.firmwareReclaim (s : State) (p : Option Pair) : State :=
  let runs := match p with
    | some p => (s.pairDown p).isNone
    | none => (s.pairDown .A).isNone && (s.pairDown .B).isNone
  if runs && s.awake then s.autoReclaim else s

/-- A store entry reaches its commit: the first cycle within HORIZON of its start (R299). -/
def State.commitAt (s : State) (i : Nat) : State :=
  match s.ent i with
  | some e => if e.st = 1 then (s.reach ((e.start + 2 ^ 64 - s.horizonNs) % 2 ^ 64)).commit i else s
  | none => s

/-- A committed entry reaches its start (R302, R303). -/
def State.deliverAt (s : State) (i : Nat) : State :=
  match s.ent i with
  | some e => if e.st = 2 then (s.reach e.start).deliver i else s
  | none => s

/-- A waiting valve event reaches the end of its deferral (R271). -/
def State.deferEnd (s : State) (n : Nat) : State :=
  match (s.injc n).wait with
  | some w => (s.advanceTo (w.req + s.deferNs (bankOf n))).bankCheck (bankOf n)
  | none => s

/-- A channel's minimum off-time passes (R273). -/
def State.minOffEnd (s : State) (n : Nat) : State := (s.advanceTo (s.minOffAt n)).bankCheck (bankOf n)

/-- ABORT of a transmit buffer while its frame is known to be on the bus, or not (R398). -/
def State.txAbortWrite (s : State) (a : Acc) (p mask : Nat) (busy : Bool) : State :=
  let s := if busy then s.canBusy p 2 else s
  s.busPut a .CAN_TXB_CMD p (mask % 8 * 16)

/-- The command register of a mailbox. -/
def mbxCmd (m : Nat) : Reg := if m = 0 then .CUST_MBX0_CMD else .CUST_MBX1_CMD

/-- GO of an operation on a mailbox (R585). -/
def State.mbxOp (s : State) (a : Acc) (m op key len : Nat) : State :=
  s.busPut a (mbxCmd m) 0 (op % 256 + key % 256 * 2 ^ 8 + len % 512 * 2 ^ 16 + 2 ^ 31)

/-- The idle timeout of the host session runs out (R82). -/
def State.hrpExpire (s : State) : State :=
  if s.bus.hrp.session then (s.advanceTo (s.bus.hrp.lastOk + s.hrpTimeout)).hrpEnd else s

/-- The host lockout runs out (R83). -/
def State.hrpLockEnd (s : State) : State :=
  match s.bus.hrp.lockUntil with | some t => (s.advanceTo t).hrpUnlock | none => s

/-- A CAN frame that is a stream's speed message (R307, R308): taken while the stream is open, in Operate or Service. -/
def State.speedHeard (s : State) (p : Nat) (f : CanFrame) : State :=
  s.each (List.range 8) fun s t =>
    let k := s.fld F.EVE_ST_CFG2_BYTE t
    if s.strmTakes t ∧ s.fld F.EVE_ST_CTRL_SRC t = 1 ∧ s.fld F.EVE_ST_CTRL_CANPORT t = p ∧ !f.rtr ∧ s.fld F.EVE_ST_CANID_ID t = f.id ∧
        s.flag F.EVE_ST_CANID_IDE t = f.xtd ∧ k + 2 ≤ f.data.length then
      let w := leNat ((f.data.drop k).take 2)
      let v : Int := if s.flag F.EVE_ST_CFG2_SIGNED t then signed 16 w else w
      s.speedIn t (v * (s.fld F.EVE_ST_SCALE_SCALE t : Nat) / 1000)
    else s

/-- A valid CAN frame and what firmware reads from it beside the services that have commands of their own: heartbeats of other nodes and
speed messages (R307, R527). -/
def State.canFrame (s : State) (p : Nat) (f : CanFrame) (ago : Nat) : State :=
  if s.canHears p && !s.canDet p then
    let s := s.canReceive p f ago
    if s.awake && s.clk.aDown.isNone then (s.hbHeard p f).speedHeard p f else s
  else s.canReceive p f ago

/-- Upsets of stored bits, then a visit of the scrubber (R66): word address and bit of each flip. -/
def State.flips (s : State) (l : List (Nat × Fin 32)) : State :=
  s.each l fun s x => match findReg x.1 with | some k => s.flipBit k x.2 | none => s

/-- A valid reply to a watch wake frame wakes the module with cause 6 and the aerial as index (R501). -/
def State.watchReply (s : State) (b : List Byte) (after : Nat) (boot : BootIn) : State :=
  if s.watchOk b after then
    (s.advanceTo ((s.acc.watchAt.getD 0) + ms 12 + us after)).wakeUp 6 s.acc.turn [] boot
  else s

end Sys2Proof.Machine
end

