-- ==== Sys2Proof/Machine/ExecAcc.lean ====
section
/-! DEFINITION. Access tokens and customs (R547 to R586): one meaning per command, each over the operations of its chapter. -/

namespace Sys2Proof.Machine

/-- `CHALLENGE_CYCLE` (R547): every POLL_INT a broadcast challenge cycle measures noise, sends the challenge and RSSI bursts. -/
def execChallengeCycle (x : LfBurst) (s : State) : Host.Outcome State Fault Refusal :=
  .next (s.runOn fun s => s.challenge x)

/-- `POLL_NOW` (R548): A write of 1 to ACC_CMD.POLL_NOW starts a broadcast cycle at once. -/
def execPollNow (a : Acc) (x : LfBurst) (s : State) : Host.Outcome State Fault Refusal :=
  .next (s.run fun s => s.burstAfter x fun s => s.busPut a .ACC_CMD 0 1)

/-- `UNLOCK` (R556): A write of 1 to ACC_CMD.UNLOCK ends every token lockout. -/
def execUnlock (a : Acc) (s : State) : Host.Outcome State Fault Refusal :=
  .next (s.run fun s => s.busPut a .ACC_CMD 0 2)

/-- `UHF_REPLY` (R553): A token reply passing its CRC is timed, judged OK, FAIL, DENIED or LATE and recorded in its slot. -/
def execUhfReply (start : Nat) (b : List Byte) (bitmap : Byte) (s : State) : Host.Outcome State Fault Refusal :=
  .next (s.runOn fun s => s.uhfReply start b bitmap)

/-- `ADDRESSED_CYCLE` (R554): after a collision in a broadcast slot an addressed cycle runs for each occupied index. -/
def execAddressedCycle (i : Fin 16) (rx : SlotRx) (x : LfBurst) (s : State) : Host.Outcome State Fault Refusal :=
  .next (s.runOn fun s => s.addressed i rx x)

/-- `ID_SLOTTED_CYCLE` (R554): after a collision in an addressed cycle ID-slotted cycles run, ACC_COLLISION after k = 7. -/
def execIdSlottedCycle (rx : SlotRx) (x : LfBurst) (s : State) : Host.Outcome State Fault Refusal :=
  .next (s.runOn fun s => s.slotted rx x)

/-- `ACC_LOCKOUT_END` (R556): A token lockout ends after LOCK_TIME. -/
def execAccLockoutEnd (id : Nat) (s : State) : Host.Outcome State Fault Refusal :=
  .next (s.runOn fun s => s.lockoutEnd id)

/-- `GATE_CLOSE` (R559): A gate's window and hold source having ended, it closes and its tied outputs are commanded OFF. -/
def execGateClose (g : Fin 8) (s : State) : Host.Outcome State Fault Refusal :=
  .next (s.runOn fun s => s.gateClose g)

/-- `RELEASE_MESSAGE` (R562): A gate with MSG_EN sends its CMAC-authenticated release message on change and every PERIOD. -/
def execReleaseMessage (g : Fin 8) (s : State) : Host.Outcome State Fault Refusal :=
  .next (s.runOn fun s => s.releaseMsg g)

/-- `ENROLMENT` (R565): A write of 2A00:20 requests an enrolment, sending an assign frame if accepted. -/
def execEnrolment (c : Client) (b : List Byte) (x : LfBurst) (s : State) : Host.Outcome State Fault Refusal :=
  .next (s.run fun s => s.burstAfter x fun s => s.clientWrite c 0x2A00 0x20 b)

/-- `ACC_ENROL_FAIL` (R566): no OK within 30 s, or no common version, leaves the slot empty and raises ACC_ENROL_FAIL. -/
def execAccEnrolFail (s : State) : Host.Outcome State Fault Refusal :=
  .next (s.runOn fun s => s.enrolExpire)

/-- `REVOKE` (R567): A write of 2A00:21 clears a slot and adds its token ID to the deny list, or raises ACC_DENY_FULL. -/
def execRevoke (c : Client) (v : Nat) (s : State) : Host.Outcome State Fault Refusal :=
  .next (s.run fun s => s.clientNum c 0x2A00 0x21 v)

/-- `REKEY` (R568): A write of 1 to 2A00:24 in RETURNED clears slots and deny list and draws a new system ID and release key. -/
def execRekey (c : Client) (v : Nat) (s : State) : Host.Outcome State Fault Refusal :=
  .next (s.run fun s => s.clientNum c 0x2A00 0x24 v)

/-- `ZONE_LEARNING` (R558): A write of 2A00:14 in Service starts or stops learning of a zone. -/
def execZoneLearning (c : Client) (v : Nat) (s : State) : Host.Outcome State Fault Refusal :=
  .next (s.run fun s => s.clientNum c 0x2A00 0x14 v)

/-- `ZONE_LEARNING_END` (R558): zone learning ends after 60 s. -/
def execZoneLearningEnd (s : State) : Host.Outcome State Fault Refusal :=
  .next (s.runOn fun s => s.learnEnd)

/-- `WATCH_WAKE_FRAME` (R569): in Watch a watch wake frame is sent every 250 ms on the next aerial of the WATCH mask. -/
def execWatchWakeFrame (ma : Nat) (s : State) : Host.Outcome State Fault Refusal :=
  .next (s.run fun s => s.watchFrame ma)

/-- `WATCH_REPLY` (R569): A valid watch reply from an enrolled, undenied token wakes the module with cause 6 and the
aerial as index. -/
def execWatchReply (b : List Byte) (after : Nat) (boot : BootIn) (s : State) : Host.Outcome State Fault Refusal :=
  .next (s.run fun s => s.watchReply b after boot)

/-- `KEY_RECORD` (R574): A write of 2B00:10 replaces a key from a wrapped record where the lifecycle state permits. -/
def execKeyRecord (c : Client) (b : List Byte) (s : State) : Host.Outcome State Fault Refusal :=
  .next (s.run fun s => s.clientWrite c 0x2B00 0x10 b)

/-- `LIFECYCLE_NONCE` (R578): A read of 2B00:21 returns a 16-byte lifecycle nonce. -/
def execLifecycleNonce (c : Client) (s : State) : Host.Outcome State Fault Refusal :=
  .next (s.run fun s => s.clientRead c 0x2B00 0x21)

/-- `LIFECYCLE_REQUEST` (R578): A write of 2B00:20 requests a lifecycle transition, carried out with its effects or refused. -/
def execLifecycleRequest (c : Client) (b : List Byte) (s : State) : Host.Outcome State Fault Refusal :=
  .next (s.run fun s => s.clientWrite c 0x2B00 0x20 b)

/-- `DEBUG_CHALLENGE` (R580): the debugger reads a 32-byte nonce, the serial number and the state code. -/
def execDebugChallenge (s : State) : Host.Outcome State Fault Refusal :=
  .next (s.run fun s => s.dbgChallenge)

/-- `DEBUG_ATTACH` (R580): the debugger's signed level request is verified and a level granted per the matrix, or denied. -/
def execDebugAttach (level : Fin 4) (sig : List Byte) (s : State) : Host.Outcome State Fault Refusal :=
  .next (s.run fun s => s.dbgAttach level sig)

/-- `DEBUG_WAKE` (R582): 64 DBG_CLK clocks with DBG_IO high in Dormant or Watch wake the module with cause 14 into Configure. -/
def execDebugWake (boot : BootIn) (s : State) : Host.Outcome State Fault Refusal :=
  .next (s.run fun s => s.debugWake boot)

/-- `DEBUG_DETACH` (R583): detach ends the debug grant, returning from a wake-attach Service to Configure. -/
def execDebugDetach (s : State) : Host.Outcome State Fault Refusal :=
  .next (s.run fun s => s.debugEnd)

/-- `DEBUG_PORT_DISABLE` (R583): A write of FALSE to 2B00:30 ends any grant and denies every request. -/
def execDebugPortDisable (c : Client) (s : State) : Host.Outcome State Fault Refusal :=
  .next (s.run fun s => s.clientNum c 0x2B00 0x30 0)

/-- `DBG_LOCKOUT_END` (R580): the 60 s debug port lockout ends. -/
def execDbgLockoutEnd (s : State) : Host.Outcome State Fault Refusal :=
  .next (s.run fun s => s.dbgLockEnd)

/-- `TRNG_RANDOM` (R585): A mailbox GO with OP 0x01 draws LEN random bytes from the TRNG. -/
def execTrngRandom (a : Acc) (m : Fin 2) (key : Fin 256) (len : Fin 512) (s : State) : Host.Outcome State Fault Refusal :=
  .next (s.run fun s => s.mbxOp a m 0x01 key len)

/-- `SHA_256` (R585): A mailbox GO with OP 0x02 hashes LEN bytes with SHA-256. -/
def execSha256 (a : Acc) (m : Fin 2) (key : Fin 256) (len : Fin 512) (s : State) : Host.Outcome State Fault Refusal :=
  .next (s.run fun s => s.mbxOp a m 0x02 key len)

/-- `ECDSA_VERIFY` (R585): A mailbox GO with OP 0x03 verifies an ECDSA P-256 signature under key 0, 1 or 2. -/
def execEcdsaVerify (a : Acc) (m : Fin 2) (key : Fin 256) (len : Fin 512) (s : State) : Host.Outcome State Fault Refusal :=
  .next (s.run fun s => s.mbxOp a m 0x03 key len)

/-- `HMAC_SHA_256` (R585): A GO on mailbox 1 with OP 0x10 computes HMAC-SHA-256 with key 4 to 7 or 9. -/
def execHmacSha256 (a : Acc) (m : Fin 2) (key : Fin 256) (len : Fin 512) (s : State) : Host.Outcome State Fault Refusal :=
  .next (s.run fun s => s.mbxOp a m 0x10 key len)

/-- `AES_CMAC` (R585): A GO on mailbox 1 with OP 0x11 computes AES-128-CMAC with key 10. -/
def execAesCmac (a : Acc) (m : Fin 2) (key : Fin 256) (len : Fin 512) (s : State) : Host.Outcome State Fault Refusal :=
  .next (s.run fun s => s.mbxOp a m 0x11 key len)

/-- `AES_ENCRYPT` (R585): A GO on mailbox 1 with OP 0x12 encrypts one block with a token slot key. -/
def execAesEncrypt (a : Acc) (m : Fin 2) (key : Fin 256) (len : Fin 512) (s : State) : Host.Outcome State Fault Refusal :=
  .next (s.run fun s => s.mbxOp a m 0x12 key len)

/-- `MAILBOX_DONE` (R585): A mailbox operation completes, setting DONE or ERR with its error code. -/
def execMailboxDone (m : Fin 2) (s : State) : Host.Outcome State Fault Refusal :=
  .next (s.runOn fun s => s.mbxDone m)

/-- `MAILBOX_RELEASE` (R585): the owner clearing DONE frees the mailbox for other masters. -/
def execMailboxRelease (a : Acc) (m : Fin 2) (s : State) : Host.Outcome State Fault Refusal :=
  .next (s.run fun s => s.busPut a (mbxStat m) 0 2)

/-- `CUST_SELFTEST` (R586): A failed self-test or TRNG check raises CUST_SELFTEST and sends customs to its safe state. -/
def execCustSelftest (s : State) : Host.Outcome State Fault Refusal :=
  .next (s.runOn fun s => s.custSelftest)

end Sys2Proof.Machine
end

