-- ==== Sys2Proof/Machine/ExecCan.lean ====
section
/-! DEFINITION. CAN controllers and their time-triggered operation (R386 to R418): one meaning per command, each over the operations of its chapter. -/

namespace Sys2Proof.Machine

/-- `CAN_CTRL_WRITE` (R391): A write to CAN_CTRL enables or disables a controller or changes OPMODE, cancelling pending requests on disable;
`act` is what the controller does on the bus (CAN_STAT.ACT). -/
def execCanCtrlWrite (via : Via) (p : Fin 8) (v : Nat) (act : Fin 3) (s : State) : Host.Outcome State Fault Refusal :=
  .next (s.run fun s => (s.canBusy p act).viaWord via .CAN_CTRL p v (0x2700 + p) 1 v)

/-- `CAN_FRAME_RECEIVED` (R404): A valid frame received on a CAN port is stamped, filtered and delivered, and committed to the gateway. -/
def execCanFrameReceived (p : Fin 8) (f : CanFrame) (ago : Nat) (s : State) : Host.Outcome State Fault Refusal :=
  if f.wf then .next (s.run fun s => s.when s.awake fun s => s.canFrame p f ago) else .fault .illFormed

/-- `CAN_FRAME_ERROR` (R470): an error on a frame under speculation releases its reservations and advances SPEC_UNWIND. -/
def execCanFrameError (p : Fin 8) (lec : Fin 8) (data dom header : Bool) (s : State) : Host.Outcome State Fault Refusal :=
  .next (s.runOn fun s => s.canError p lec data dom header)

/-- `TX_REQUEST` (R397): A write of 1 to a CAN_TXB_CMD.REQ bit makes that transmit buffer pending. -/
def execTxRequest (a : Acc) (p : Fin 8) (mask : Fin 8) (s : State) : Host.Outcome State Fault Refusal :=
  .next (s.run fun s => s.busPut a .CAN_TXB_CMD p mask)

/-- `TX_ABORT` (R398): A write of 1 to a CAN_TXB_CMD.ABORT bit aborts a waiting buffer at once or after its frame on the bus. -/
def execTxAbort (a : Acc) (p : Fin 8) (mask : Fin 8) (busy : Bool) (s : State) : Host.Outcome State Fault Refusal :=
  .next (s.run fun s => s.txAbortWrite a p mask busy)

/-- `CAN_FRAME_SENT` (R400): A frame sent successfully ends its buffer with SENT and records its SOF stamp. -/
def execCanFrameSent (p : Fin 8) (ago : Nat) (s : State) : Host.Outcome State Fault Refusal :=
  .next (s.runOn fun s => s.canSent p ago)

/-- `CAN_TX_ERROR` (R407): A transmit attempt ending in error updates TEC, the error state and the collision count. -/
def execCanTxError (p : Fin 8) (lec : Fin 8) (data collide free : Bool) (s : State) : Host.Outcome State Fault Refusal :=
  .next (s.runOn fun s => s.canTxError p lec data collide free)

/-- `BUS_OFF_DELAY_END` (R408): BO_DELAY after bus-off entry automatic recovery starts counting recessive sequences. -/
def execBusOffDelayEnd (p : Fin 8) (s : State) : Host.Outcome State Fault Refusal :=
  .next (s.runOn fun s => s.boDelayEnd p)

/-- `BUS_OFF_RECOVERED` (R408): 128 occurrences of 11 recessive bits return the controller to error active. -/
def execBusOffRecovered (p : Fin 8) (s : State) : Host.Outcome State Fault Refusal :=
  .next (s.runOn fun s => s.boRecovered p)

/-- `RECOVER` (R408): A write of 1 to CAN_CMD.RECOVER starts manual bus-off recovery. -/
def execRecover (a : Acc) (p : Fin 8) (s : State) : Host.Outcome State Fault Refusal :=
  .next (s.run fun s => s.busPut a .CAN_CMD p 1)

/-- `DET_START` (R393): A write of 1 to CAN_CMD.DET_START restarts rate detection from candidate 0. -/
def execDetStart (a : Acc) (p : Fin 8) (s : State) : Host.Outcome State Fault Refusal :=
  .next (s.run fun s => s.busPut a .CAN_CMD p 2)

/-- `DET_WINDOW_END` (R395): A candidate's window ends without acceptance and the next candidate follows, raising CAN_RATE_NOT_FOUND after the
last. -/
def execDetWindowEnd (p : Fin 8) (s : State) : Host.Outcome State Fault Refusal :=
  .next (s.runOn fun s => s.detWindow p)

/-- `RX_FIFO_ACK` (R405): A write to CAN_RXF_ACK.COUNT releases read RX FIFO elements. -/
def execRxFifoAck (a : Acc) (p : Fin 8) (n : Nat) (s : State) : Host.Outcome State Fault Refusal :=
  .next (s.run fun s => s.busPut a .CAN_RXF_ACK p n)

/-- `TT_REFERENCE_SEND` (R413): A master sends a reference message every CYCLE from the timer slot. -/
def execTtReferenceSend (p : Fin 8) (s : State) : Host.Outcome State Fault Refusal :=
  .next (s.runOn fun s => s.ttSend p)

/-- `TT_TAKEOVER` (R413): A potential master with no reference message for CYCLE + (PRIO + 1) × 200 µs becomes master and sends at once. -/
def execTtTakeover (p : Fin 8) (s : State) : Host.Outcome State Fault Refusal :=
  .next (s.runOn fun s => s.ttTakeover p)

/-- `CAN_TT_LOSS` (R413): no valid reference message for 3 × CYCLE clears SYNC and raises CAN_TT_LOSS. -/
def execCanTtLoss (p : Fin 8) (s : State) : Host.Outcome State Fault Refusal :=
  .next (s.runOn fun s => s.ttLoss p)

/-- `CAN_SELECTIVE_WAKE` (R414): an armed transceiver decodes a wake-up frame, or its frame error counter passes 31, and wakes the port. -/
def execCanSelectiveWake (p : Fin 8) (f : Option CanFrame) (boot : BootIn) (s : State) : Host.Outcome State Fault Refusal :=
  if f.all CanFrame.wf then .next (s.run fun s => (s.xcvrFrame p f).1.portWake p (s.xcvrFrame p f).2 boot) else .fault .illFormed

/-- `WAKE_UP_PATTERN` (R415): an armed transceiver with WUP set wakes on the ISO 11898-2 wake-up pattern. -/
def execWakeUpPattern (p : Fin 8) (boot : BootIn) (s : State) : Host.Outcome State Fault Refusal :=
  .next (s.run fun s => s.portWake p (s.xcvrPattern p) boot)

/-- `CAN_REENABLE` (R416): A write of 1 to CAN_CMD.REENABLE leaves the CAN block safe state unless CANC is marked lost. -/
def execCanReenable (a : Acc) (p : Fin 8) (s : State) : Host.Outcome State Fault Refusal :=
  .next (s.run fun s => s.busPut a .CAN_CMD p 4)

end Sys2Proof.Machine
end

