-- ==== Sys2Proof/Machine/ExecDict.lean ====
section
/-! DEFINITION. Dictionary, SDO, PDO, NMT and Nydulet (R506 to R545): one meaning per command, each over the operations of its chapter. -/

namespace Sys2Proof.Machine

/-- `SDO_INITIATE_DOWNLOAD` (R520): an SDO initiate download starts or carries an expedited write, discarding any running transfer. -/
def execSdoInitiateDownload (p : Fin 8) (b : List Byte) (s : State) : Host.Outcome State Fault Refusal :=
  .next (s.runOn fun s => s.sdoRow p 1 b fun s => s.sdoInitDown p b)

/-- `SDO_DOWNLOAD_SEGMENT` (R520): an SDO download segment carries the next part of a segmented write, applied whole at its last byte. -/
def execSdoDownloadSegment (p : Fin 8) (b : List Byte) (s : State) : Host.Outcome State Fault Refusal :=
  .next (s.runOn fun s => s.sdoRow p 0 b fun s => s.sdoDownSeg p b)

/-- `SDO_INITIATE_UPLOAD` (R520): an SDO initiate upload starts a read of an entry. -/
def execSdoInitiateUpload (p : Fin 8) (b : List Byte) (s : State) : Host.Outcome State Fault Refusal :=
  .next (s.runOn fun s => s.sdoRow p 2 b fun s => s.sdoInitUp p b)

/-- `SDO_UPLOAD_SEGMENT` (R520): an SDO upload segment request returns the next part of a segmented read. -/
def execSdoUploadSegment (p : Fin 8) (b : List Byte) (s : State) : Host.Outcome State Fault Refusal :=
  .next (s.runOn fun s => s.sdoRow p 3 b fun s => s.sdoUpSeg p b)

/-- `SDO_BLOCK_DOWNLOAD` (R520): an SDO block download message carries a block write with its CRC. -/
def execSdoBlockDownload (p : Fin 8) (b : List Byte) (s : State) : Host.Outcome State Fault Refusal :=
  .next (s.runOn fun s => s.sdoRow p 6 b fun s => s.sdoBlockDown p b)

/-- `SDO_BLOCK_UPLOAD` (R520): an SDO block upload message carries a block read with its CRC. -/
def execSdoBlockUpload (p : Fin 8) (b : List Byte) (s : State) : Host.Outcome State Fault Refusal :=
  .next (s.runOn fun s => s.sdoRow p 5 b fun s => s.sdoBlockUp p b)

/-- `SDO_ABORT_RECEIVED` (R520): an SDO abort from the client ends the running transfer. -/
def execSdoAbortReceived (p : Fin 8) (s : State) : Host.Outcome State Fault Refusal :=
  .next (s.runOn fun s => if s.sdoOn p then s.sdoAborted p else s)

/-- `SDO_TIMEOUT` (R520): A client silent for 1,000 ms mid-transfer is aborted with 0x0504_0000. -/
def execSdoTimeout (p : Fin 8) (s : State) : Host.Outcome State Fault Refusal :=
  .next (s.runOn fun s => s.sdoTimeout p)

/-- `STORE` (R537): A write of "save" to 1010:01 starts, joins or queues a store of every persistent entry. -/
def execStore (c : Client) (s : State) : Host.Outcome State Fault Refusal :=
  .next (s.run fun s => s.clientNum c 0x1010 1 saveWord)

/-- `STORE_COMPLETE` (R537): A store commits its header and replies, journalling DICT_STORE_DONE or DICT_STORE_FAIL. -/
def execStoreComplete (ok : Bool) (s : State) : Host.Outcome State Fault Refusal :=
  .next (s.runOn fun s => s.storeComplete ok)

/-- `RESTORE_DEFAULTS` (R540): A write of "load" to 1011:01 marks both banks restored for the next Boot. -/
def execRestoreDefaults (c : Client) (s : State) : Host.Outcome State Fault Refusal :=
  .next (s.run fun s => s.clientNum c 0x1011 1 loadWord)

/-- `SESSION_NONCE` (R513): A read of 1E00:01 returns a 16-byte session nonce valid for 1 s and one attempt. -/
def execSessionNonce (c : Client) (s : State) : Host.Outcome State Fault Refusal :=
  .next (s.run fun s => s.clientRead c 0x1E00 1)

/-- `SESSION_AUTHENTICATION` (R513): A write of 1E00:02 checks the level tag and opens a session on that SDO server, or counts a failure. -/
def execSessionAuthentication (c : Client) (b : List Byte) (s : State) : Host.Outcome State Fault Refusal :=
  .next (s.run fun s => s.clientWrite c 0x1E00 2 b)

/-- `SESSION_CLOSE` (R516): A write of 1 to 1E00:04 ends the SDO session. -/
def execSessionClose (c : Client) (s : State) : Host.Outcome State Fault Refusal :=
  .next (s.run fun s => s.clientNum c 0x1E00 4 1)

/-- `SESSION_TIMEOUT` (R516): no accepted access for the idle timeout ends a session. -/
def execSessionTimeout (c : Client) (s : State) : Host.Outcome State Fault Refusal :=
  .next (s.runOn fun s => s.sessTimeout c)

/-- `AUTH_LOCKOUT_END` (R515): the 60 s dictionary authentication lockout ends. -/
def execAuthLockoutEnd (s : State) : Host.Outcome State Fault Refusal :=
  .next (s.runOn fun s => s.authLockEnd)

/-- `RPDO_RECEIVED` (R523): an RPDO frame in Operate is processed, applying its mapped entries in order, now or at the next SYNC. -/
def execRpdoReceived (k : Fin 64) (b : List Byte) (s : State) : Host.Outcome State Fault Refusal :=
  .next (s.runOn fun s => s.rpdoReceived k b)

/-- `DICT_RPDO_TIMEOUT` (R521): an RPDO deadline passing without a frame raises DICT_RPDO_TIMEOUT. -/
def execDictRpdoTimeout (k : Fin 64) (s : State) : Host.Outcome State Fault Refusal :=
  .next (s.runOn fun s => s.rpdoTimeout k)

/-- `SYNC` (R524): A SYNC message triggers synchronous RPDO processing and TPDO transmission. -/
def execSync (p : Fin 8) (ctr : Nat) (s : State) : Host.Outcome State Fault Refusal :=
  .next (s.runOn fun s => s.sync p ctr)

/-- `TPDO_TRANSMIT` (R524): an event-driven TPDO samples every 1 ms and is sent on change or event timer, subject to inhibit time. -/
def execTpdoTransmit (k : Fin 64) (s : State) : Host.Outcome State Fault Refusal :=
  .next (s.runOn fun s => s.tpdoEvent k)

/-- `TXB1_LOAD` (R519): when TXB1 is free the arbiter loads the oldest EMCY message, else the oldest dictionary frame. -/
def execTxb1Load (p : Fin 8) (s : State) : Host.Outcome State Fault Refusal :=
  .next (s.runOn fun s => s.txb1Load p)

/-- `NMT_START` (R526): NMT Start is a mode request for Operate. -/
def execNmtStart (p : Fin 8) (node : Nat) (s : State) : Host.Outcome State Fault Refusal :=
  .next (s.runOn fun s => s.nmtMode p node 4)

/-- `NMT_STOP` (R526): NMT Stop is a mode request for Configure. -/
def execNmtStop (p : Fin 8) (node : Nat) (s : State) : Host.Outcome State Fault Refusal :=
  .next (s.runOn fun s => s.nmtMode p node 3)

/-- `NMT_ENTER_PREOPERATIONAL` (R526): NMT Enter pre-operational is a mode request for Configure. -/
def execNmtEnterPreoperational (p : Fin 8) (node : Nat) (s : State) : Host.Outcome State Fault Refusal :=
  .next (s.runOn fun s => s.nmtMode p node 3)

/-- `NMT_RESET_NODE` (R526): NMT Reset node is a mode request for a module reset, acted on in hardware in Limp. -/
def execNmtResetNode (p : Fin 8) (node : Nat) (s : State) : Host.Outcome State Fault Refusal :=
  .next (s.runOn fun s => s.nmtMode p node 2)

/-- `NMT_RESET_COMMUNICATION` (R526): NMT Reset communication stops PDOs, reloads 1000 to 1FFF, ends SDO sessions and sends boot-up messages.
-/
def execNmtResetCommunication (p : Fin 8) (node : Nat) (s : State) : Host.Outcome State Fault Refusal :=
  .next (s.runOn fun s => s.nmtResetComm p node)

/-- `HEARTBEAT` (R527): the heartbeat is sent in hardware every 1017 period from the timer slot. -/
def execHeartbeat (s : State) : Host.Outcome State Fault Refusal :=
  .next (s.runOn fun s => s.heartbeat)

/-- `DICT_HB_LOSS` (R527): A consumed node's heartbeat missing for its entry time raises DICT_HB_LOSS. -/
def execDictHbLoss (i : Fin 16) (s : State) : Host.Outcome State Fault Refusal :=
  .next (s.runOn fun s => s.hbLoss i)

/-- `HELLO` (R532): A Nydulet HELLO settles version and block size for its client. -/
def execHello (peer : Nat) (b : List Byte) (s : State) : Host.Outcome State Fault Refusal :=
  .next (s.runOn fun s => s.nydRequest peer 0x01 b fun s d => s.nydHello peer d)

/-- `OPEN` (R533): A Nydulet OPEN returns a module nonce valid for 1 s and one attempt. -/
def execOpenRequest (peer : Nat) (b : List Byte) (s : State) : Host.Outcome State Fault Refusal :=
  .next (s.runOn fun s => s.nydRequest peer 0x10 b fun s d => s.nydOpen peer d)

/-- `AUTH` (R533): A Nydulet AUTH checks the tag and opens a session with SID and module proof. -/
def execAuth (peer : Nat) (b : List Byte) (s : State) : Host.Outcome State Fault Refusal :=
  .next (s.runOn fun s => s.nydRequest peer 0x12 b fun s d => s.nydAuth peer d)

/-- `CLOSE` (R516): A Nydulet CLOSE ends its session. -/
def execClose (peer : Nat) (b : List Byte) (s : State) : Host.Outcome State Fault Refusal :=
  .next (s.runOn fun s => s.nydClose peer b)

/-- `READ` (R531): A Nydulet READ returns the value of one entry. -/
def execRead (peer : Nat) (b : List Byte) (s : State) : Host.Outcome State Fault Refusal :=
  .next (s.runOn fun s => s.nydRequest peer 0x20 b fun s d => s.nydRead peer d)

/-- `WRITE` (R531): A Nydulet WRITE writes one entry. -/
def execWrite (peer : Nat) (b : List Byte) (s : State) : Host.Outcome State Fault Refusal :=
  .next (s.runOn fun s => s.nydRequest peer 0x21 b fun s d => s.nydWrite peer d)

/-- `BULK_READ` (R531): A Nydulet BULK_READ reads up to 64 entries in order. -/
def execBulkRead (peer : Nat) (b : List Byte) (s : State) : Host.Outcome State Fault Refusal :=
  .next (s.runOn fun s => s.nydRequest peer 0x22 b fun s d => s.nydBulk peer d)

/-- `DOMAIN_READ` (R531): A Nydulet DOMAIN_READ returns part of a DOMAIN entry. -/
def execDomainRead (peer : Nat) (b : List Byte) (s : State) : Host.Outcome State Fault Refusal :=
  .next (s.runOn fun s => s.nydRequest peer 0x23 b fun s d => s.nydDomRead peer d)

/-- `DOMAIN_WRITE` (R531): A Nydulet DOMAIN_WRITE carries part of a DOMAIN value, taking effect at its last byte. -/
def execDomainWrite (peer : Nat) (b : List Byte) (s : State) : Host.Outcome State Fault Refusal :=
  .next (s.runOn fun s => s.nydRequest peer 0x24 b fun s d => s.nydDomWrite peer d)

/-- `ARP_REQUEST` (R529): the module answers an ARP request for its IPv4 address. -/
def execArpRequest (mac ip target : Nat) (s : State) : Host.Outcome State Fault Refusal :=
  .next (s.runOn fun s => s.arpRequest mac ip target)

/-- `ICMP_ECHO` (R529): the module answers an ICMP echo request. -/
def execIcmpEcho (mac ip : Nat) (data : List Byte) (s : State) : Host.Outcome State Fault Refusal :=
  .next (s.runOn fun s => s.icmpEcho mac ip data)

/-- `REGISTER_WINDOW_READ` (R543): A read of 5000:03 reads 5000:02 words from 5000:01 as master 4. -/
def execRegisterWindowRead (c : Client) (s : State) : Host.Outcome State Fault Refusal :=
  .next (s.run fun s => s.clientRead c 0x5000 3)

/-- `REGISTER_WINDOW_WRITE` (R543): A write of 5000:03 writes words from 5000:01, stopping at the first bus error. -/
def execRegisterWindowWrite (c : Client) (b : List Byte) (s : State) : Host.Outcome State Fault Refusal :=
  .next (s.run fun s => s.clientWrite c 0x5000 3 b)

end Sys2Proof.Machine
end

