-- ==== Sys2Proof/Machine/ExecGwy.lean ====
section
/-! DEFINITION. Gateway and harbour master (R463 to R504): one meaning per command, each over the operations of its chapter. -/

namespace Sys2Proof.Machine

/-- `TXB2_LOAD` (R475): when TXB2 is free the gateway loads it from the oldest descriptor of the lowest non-empty bound ring. -/
def execTxb2Load (p : Fin 8) (s : State) : Host.Outcome State Fault Refusal :=
  .next (s.runOn fun s => s.txb2Load p)

/-- `ACF_FLUSH` (R477): FLUSH µs after the first packed message, or when full, the ACF PDU is queued to the internal port. -/
def execAcfFlush (r : Fin 32) (s : State) : Host.Outcome State Fault Refusal :=
  .next (s.runOn fun s => s.acfFlush r)

/-- `BACKPRESSURE_RELEASE` (R474): A held frame is delivered when its ring leaves high. -/
def execBackpressureRelease (i : Fin 9) (s : State) : Host.Outcome State Fault Refusal :=
  .next (s.runOn fun s => s.bpRelease i)

/-- `GWY_BP_TIMEOUT` (R474): BP_MAX elapsing first delivers a held frame where there is room and raises GWY_BP_TIMEOUT. -/
def execGwyBpTimeout (i : Fin 9) (s : State) : Host.Outcome State Fault Refusal :=
  .next (s.runOn fun s => s.bpTimeout i)

/-- `RING_GET_WRITE` (R464): A write to GWY_RING_GET advances the read position of an ingress ring. -/
def execRingGetWrite (a : Acc) (r : Fin 32) (v : Nat) (s : State) : Host.Outcome State Fault Refusal :=
  .next (s.run fun s => s.busPut a .GWY_RING_GET r v)

/-- `RING_DISABLE` (R465): setting a ring's EN to 0 takes effect once no reservation stands, discarding its descriptors. -/
def execRingDisable (a : Acc) (r : Fin 32) (s : State) : Host.Outcome State Fault Refusal :=
  .next (s.run fun s => s.busField a F.GWY_RING_CFG_EN r 0)

/-- `QUARANTINE_EXPIRY` (R481): A quarantine entry ends after QUAR_TIME. -/
def execQuarantineExpiry (i : Fin 32) (s : State) : Host.Outcome State Fault Refusal :=
  .next (s.runOn fun s => s.quarExpire i)

/-- `QUAR_CLR` (R481): A write of 1 to GWY_CMD.QUAR_CLR, or 2880:08 value 1, ends every quarantine. -/
def execQuarClr (via : Via) (s : State) : Host.Outcome State Fault Refusal :=
  .next (s.run fun s => s.viaWord via .GWY_CMD 0 2 0x2880 8 1)

/-- `GWY_REENABLE` (R484): A write of 1 to GWY_CMD.REENABLE, or 2880:08 value 2, leaves the gateway safe state. -/
def execGwyReenable (via : Via) (s : State) : Host.Outcome State Fault Refusal :=
  .next (s.run fun s => s.viaWord via .GWY_CMD 0 1 0x2880 8 2)

/-- `KEEP_ALIVE_SEND` (R490): an AWAKE CAN segment sends a keep-alive from the timer slot every T_KA, the first three 10 ms apart. -/
def execKeepAliveSend (g : Fin 12) (s : State) : Host.Outcome State Fault Refusal :=
  .next (s.runOn fun s => s.keepAlive g)

/-- `SILENCE_EXPIRY` (R492): A READY segment's silence timer reaching T_SILENCE enters PREPARE. -/
def execSilenceExpiry (g : Fin 12) (s : State) : Host.Outcome State Fault Refusal :=
  .next (s.runOn fun s => s.silenceExpiry g)

/-- `PREPARE_EXPIRY` (R492): T_PREP elapsing enters COMMIT, puts the transceiver to sleep and arms or isolates it. -/
def execPrepareExpiry (g : Fin 12) (s : State) : Host.Outcome State Fault Refusal :=
  .next (s.runOn fun s => s.prepareExpiry g)

/-- `SLEEP_CONFIRM` (R497): the transceiver confirms sleep with wake detection armed and any held request is acted on as an active wake. -/
def execSleepConfirm (g : Fin 12) (s : State) : Host.Outcome State Fault Refusal :=
  .next (s.runOn fun s => s.sleepConfirm g)

/-- `TRANSITION_WINDOW_END` (R497): the 5 ms transition window ends and an unconfirmed segment with a held request is woken. -/
def execTransitionWindowEnd (g : Fin 12) (s : State) : Host.Outcome State Fault Refusal :=
  .next (s.runOn fun s => s.transitionEnd g)

/-- `REPEAT_END` (R489): the repeat window ends and an AWAKE segment without own need becomes READY. -/
def execRepeatEnd (g : Fin 12) (s : State) : Host.Outcome State Fault Refusal :=
  .next (s.runOn fun s => s.repeatEnd g)

/-- `NEED_WRITE` (R488): A write to NM_SEG_NEED.SW or 2910:02 sets or releases a segment's software need. -/
def execNeedWrite (via : Via) (g : Fin 12) (v : Nat) (s : State) : Host.Outcome State Fault Refusal :=
  .next (s.run fun s => s.viaWord via .NM_SEG_NEED g v (0x2910 + g) 2 v)

/-- `MODULE_NEED_WRITE` (R488): A write to NM_MODNEED.NEED or 2900:02 sets or releases the module need. -/
def execModuleNeedWrite (via : Via) (v : Nat) (s : State) : Host.Outcome State Fault Refusal :=
  .next (s.run fun s => s.viaWord via .NM_MODNEED 0 v 0x2900 2 v)

/-- `WAKE_IN` (R501): WAKE_IN changing level sets or releases need and, high for 1 ms in sleep, wakes the module. -/
def execWakeIn (level : Bool) (held : Nat) (boot : BootIn) (s : State) : Host.Outcome State Fault Refusal :=
  .next (s.run fun s => s.wakeInPin level held boot)

/-- `SEGMENT_WAKE` (R496): NM_SEG_CMD.WAKE or 2910:11 value 1 wakes a segment actively, sending a wake frame and keep-alives. -/
def execSegmentWake (via : Via) (g : Fin 12) (s : State) : Host.Outcome State Fault Refusal :=
  .next (s.run fun s => s.viaWord via .NM_SEG_CMD g 1 (0x2910 + g) 0x11 1)

/-- `SEGMENT_PASSIVE_WAKE` (R496): the armed transceiver of an asleep segment detects wake and the segment becomes AWAKE or READY. -/
def execSegmentPassiveWake (g : Fin 12) (cause : Fin 16) (s : State) : Host.Outcome State Fault Refusal :=
  .next (s.runOn fun s => s.passiveWake g cause)

/-- `NM_NODE_STUCK` (R493): A node's awake time passing MAX_AWAKE marks it STUCK and raises NM_NODE_STUCK. -/
def execNmNodeStuck (g : Fin 12) (k : Fin 64) (s : State) : Host.Outcome State Fault Refusal :=
  .next (s.runOn fun s => s.nodeStuck g k)

/-- `NODE_UNSTUCK` (R493): A STUCK node silent for T_SILENCE while the segment is awake leaves STUCK. -/
def execNodeUnstuck (g : Fin 12) (k : Fin 64) (s : State) : Host.Outcome State Fault Refusal :=
  .next (s.runOn fun s => s.nodeUnstuck g k)

/-- `UNSTUCK` (R493): NM_SEG_CMD.UNSTUCK or 2910:11 value 2 clears every STUCK mark. -/
def execUnstuck (via : Via) (g : Fin 12) (s : State) : Host.Outcome State Fault Refusal :=
  .next (s.run fun s => s.viaWord via .NM_SEG_CMD g 2 (0x2910 + g) 0x11 2)

/-- `NM_OWN_STUCK` (R495): own need awake time passing OWN_MAX releases every need source and raises NM_OWN_STUCK. -/
def execNmOwnStuck (g : Fin 12) (s : State) : Host.Outcome State Fault Refusal :=
  .next (s.runOn fun s => s.ownStuck g)

/-- `WAKE_TIMER` (R502): the wake timer expires after NM_WAKE_TIMER seconds asleep and wakes the module. -/
def execWakeTimer (boot : BootIn) (s : State) : Host.Outcome State Fault Refusal :=
  .next (s.run fun s => s.wakeTimerEnd boot)

/-- `WAKE_OUT_PULSE_END` (R504): A WAKE_OUT pulse ends after WO_PULSE. -/
def execWakeOutPulseEnd (s : State) : Host.Outcome State Fault Refusal :=
  .next (s.run fun s => s.wakeOutEnd)

end Sys2Proof.Machine
end

