-- ==== Sys2Proof/Machine/ExecNet.lean ====
section
/-! DEFINITION. Ethernet switch, tide and gPTP (R419 to R460): one meaning per command, each over the operations of its chapter. -/

namespace Sys2Proof.Machine

/-- `PPS_EDGE` (R348): An edge of DI46 that FALL selects latches its logical time into DIO_PPS and gives a PPS measurement to the tide. -/
def execPpsEdge (rising : Bool) (ago : Nat) (s : State) : Host.Outcome State Fault Refusal :=
  .next (s.runOn fun s => s.ppsEdge rising ago)

/-- `AN_RESULT` (R420): clause 98 negotiation settles speed and role, or fails with ETH_AN_FAIL or ETH_ROLE_CONFLICT. -/
def execAnResult (p adv role : Fin 4) (nonce : Bool) (s : State) : Host.Outcome State Fault Refusal :=
  .next (s.runOn fun s => s.anResult p adv role nonce)

/-- `AN_RETRY` (R420): after a failed negotiation it restarts every 1 s. -/
def execAnRetry (p adv role : Fin 4) (nonce : Bool) (s : State) : Host.Outcome State Fault Refusal :=
  .next (s.runOn fun s => s.anRetry p adv role nonce)

/-- `AN_TIMEOUT_EXPIRY` (R421): no Clause 98 page for AN_TIMEOUT switches between negotiation and the fixed setting. -/
def execAnTimeoutExpiry (p : Fin 4) (s : State) : Host.Outcome State Fault Refusal :=
  .next (s.runOn fun s => s.anExpiry p)

/-- `ETH_LINK_UP` (R421): A port's link comes up, with ETH_AN_FALLBACK when reached by the fixed setting. -/
def execEthLinkUp (p : Fin 4) (s : State) : Host.Outcome State Fault Refusal :=
  .next (s.runOn fun s => s.ethUp p)

/-- `ETH_LINK_DOWN` (R422): link failure discards queued frames, removes learned entries and raises ETH_LINK_DOWN. -/
def execEthLinkDown (p : Fin 4) (s : State) : Host.Outcome State Fault Refusal :=
  .next (s.runOn fun s => s.ethDown p)

/-- `RENEG` (R422): A write of 1 to ETH_PCMD.RENEG restarts link setup at once. -/
def execReneg (a : Acc) (p : Fin 4) (s : State) : Host.Outcome State Fault Refusal :=
  .next (s.run fun s => s.busPut a .ETH_PCMD p 1)

/-- `ETH_FRAME_RECEIVED` (R423): A frame received on a port is learned, VLAN-checked and forwarded or stomped. -/
def execEthFrameReceived (p : Fin 4) (frame : List Byte) (good : Bool) (ago : Nat) (s : State) : Host.Outcome State Fault Refusal :=
  .next (s.runOn fun s => s.ethReceive p frame good ago)

/-- `ETH_FRAME_SENT` (R426): A frame completes egress and the highest non-empty queue sends next. -/
def execEthFrameSent (p : Fin 4) (ago : Nat) (s : State) : Host.Outcome State Fault Refusal :=
  .next (s.runOn fun s => s.ethSent p ago)

/-- `MAC_AGE_OUT` (R423): A learned address with no frame for AGE is removed. -/
def execMacAgeOut (mac vid : Nat) (s : State) : Host.Outcome State Fault Refusal :=
  .next (s.runOn fun s => s.macAge mac vid)

/-- `MAC_LOOKUP` (R423): ETH_MAC_CMD GO with OP 0 looks up an address and VID. -/
def execMacLookup (a : Acc) (s : State) : Host.Outcome State Fault Refusal :=
  .next (s.run fun s => s.busPut a .ETH_MAC_CMD 0 (0 + 2 ^ 31))

/-- `MAC_ADD_STATIC` (R423): ETH_MAC_CMD GO with OP 1 adds a static entry. -/
def execMacAddStatic (a : Acc) (s : State) : Host.Outcome State Fault Refusal :=
  .next (s.run fun s => s.busPut a .ETH_MAC_CMD 0 (1 + 2 ^ 31))

/-- `MAC_DELETE` (R423): ETH_MAC_CMD GO with OP 2 deletes an entry. -/
def execMacDelete (a : Acc) (s : State) : Host.Outcome State Fault Refusal :=
  .next (s.run fun s => s.busPut a .ETH_MAC_CMD 0 (2 + 2 ^ 31))

/-- `MAC_FLUSH_LEARNED` (R423): ETH_MAC_CMD GO with OP 3 flushes learned entries. -/
def execMacFlushLearned (a : Acc) (s : State) : Host.Outcome State Fault Refusal :=
  .next (s.run fun s => s.busPut a .ETH_MAC_CMD 0 (3 + 2 ^ 31))

/-- `TC10_SLEEP_REQUEST` (R431): A received TC10 sleep request is rejected while the segment is held awake, or accepted and the port sleeps.
-/
def execTc10SleepRequest (p : Fin 4) (s : State) : Host.Outcome State Fault Refusal :=
  .next (s.runOn fun s => s.tc10Request p)

/-- `TC10_WAKE` (R431): A sleeping port detects wake-up on its MDI, reports it to the harbour master and relinks. -/
def execTc10Wake (p : Fin 4) (s : State) : Host.Outcome State Fault Refusal :=
  .next (s.runOn fun s => s.tc10Wake p)

/-- `ETH_REENABLE` (R433): A write of 1 to ETH_SW_CMD.REENABLE leaves the ETH safe state. -/
def execEthReenable (a : Acc) (s : State) : Host.Outcome State Fault Refusal :=
  .next (s.run fun s => s.busPut a .ETH_SW_CMD 0 1)

/-- `SYNC_RECEIVED` (R445): A gPTP Sync on the slave port gives an offset measurement and runs the servo step or a step of logical time. -/
def execSyncReceived (p : Fin 4) (origin : Nat) (corr : Int) (ago : Nat) (s : State) : Host.Outcome State Fault Refusal :=
  .next (s.runOn fun s => s.syncIn p origin corr ago)

/-- `ANNOUNCE_RECEIVED` (R454): A received Announce runs best master selection, which may change port roles and the grandmaster. -/
def execAnnounceReceived (p : Fin 4) (root steps srcId srcPort : Nat) (s : State) : Host.Outcome State Fault Refusal :=
  .next (s.runOn fun s => s.announceIn p root steps srcId srcPort)

/-- `ANNOUNCE_SEND` (R455): each participating port sends Announce every 1 s. -/
def execAnnounceSend (p : Fin 4) (s : State) : Host.Outcome State Fault Refusal :=
  .next (s.runOn fun s => s.announceSend p)

/-- `SYNC_SEND` (R456): on master ports the module sends one-step Sync every sync interval. -/
def execSyncSend (p : Fin 4) (s : State) : Host.Outcome State Fault Refusal :=
  .next (s.runOn fun s => s.syncSend p)

/-- `PDELAY_REQ_SEND` (R455): each participating port sends Pdelay_Req every 1 s. -/
def execPdelayReqSend (p : Fin 4) (s : State) : Host.Outcome State Fault Refusal :=
  .next (s.runOn fun s => s.pdelaySend p)

/-- `PDELAY_MESSAGE_RECEIVED` (R454): A received Pdelay message is answered or updates the port's mean link delay. -/
def execPdelayMessageReceived (p : Fin 4) (m : PdelayMsg) (s : State) : Host.Outcome State Fault Refusal :=
  .next (s.runOn fun s => match m with
    | .req seq srcId srcPort ago => s.pdelayReq p seq srcId srcPort ago
    | .resp seq t2 t3 ago => s.pdelayResp p seq t2 t3 ago)

/-- `TIDE_SRC_LOSS` (R450): the source in use becoming unusable changes source or enters HOLDOVER and raises TIDE_SRC_LOSS. -/
def execTideSrcLoss (s : State) : Host.Outcome State Fault Refusal :=
  .next (s.runOn fun s => s.sourceLoss)

/-- `TIDE_HOLD_LONG` (R452): HOLD_LIMIT seconds in HOLDOVER change the state to FREE and raise TIDE_HOLD_LONG. -/
def execTideHoldLong (s : State) : Host.Outcome State Fault Refusal :=
  .next (s.runOn fun s => s.holdLong)

/-- `SELF_VALID` (R440): 1 s after Boot with SELF_VALID set and no other source, logical time becomes valid at 0. -/
def execSelfValid (s : State) : Host.Outcome State Fault Refusal :=
  .next (s.runOn fun s => s.selfValid)

/-- `MANUAL_RATE` (R437): A write to TIDE_RATE under MANUAL re-anchors logical time at the new rate. -/
def execManualRate (via : Via) (rate : Nat) (s : State) : Host.Outcome State Fault Refusal :=
  .next (s.run fun s => s.viaWord via .TIDE_RATE 0 rate 0x2800 0x12 rate)

/-- `MANUAL_STEP` (R438): A committed write of TIDE_STEP under MANUAL steps logical time by the signed value. -/
def execManualStep (via : Via) (v : Nat) (s : State) : Host.Outcome State Fault Refusal :=
  .next (s.run fun s => s.viaPair via .TIDE_STEP_LO 0 v 0x2800 0x13)

/-- `MANUAL_SET` (R444): A committed write of TIDE_SET under MANUAL sets logical time to the written value. -/
def execManualSet (via : Via) (v : Nat) (s : State) : Host.Outcome State Fault Refusal :=
  .next (s.run fun s => s.viaPair via .TIDE_SET_LO 0 v 0x2800 0x14)

/-- `COMPARE_FIRE` (R457): A compare unit fires when logical time reaches its target, then disarms or advances by its period. -/
def execCompareFire (u : Fin 16) (s : State) : Host.Outcome State Fault Refusal :=
  .next (s.runOn fun s => s.compareFire u)

/-- `AON_PERIOD_WINDOW` (R459): each 64 s window measures the AON counter period against logical time and retains it. -/
def execAonPeriodWindow (s : State) : Host.Outcome State Fault Refusal :=
  .next (s.run fun s => s.aonWindow)

/-- `ANNOUNCE_RECEIPT_TIMEOUT` (R455): no Announce on a port within announceReceiptTimeout of 3 intervals reruns best master selection, which
may change port roles, the grandmaster or make the module grandmaster. -/
def execAnnounceReceiptTimeout (p : Fin 4) (s : State) : Host.Outcome State Fault Refusal :=
  .next (s.runOn fun s => s.announceOut p)

/-- `PDELAY_LOST_RESPONSES` (R454): more than allowedLostResponses (3) Pdelay requests going unanswered clears asCapable on the port and
removes it from gPTP. -/
def execPdelayLostResponses (p : Fin 4) (s : State) : Host.Outcome State Fault Refusal :=
  .next (s.runOn fun s => s.pdelayLost p)

/-- `TC10_SLEEP_RESPONSE` (R498): the link partner's acceptance or rejection of the module's TC10 sleep request leads an ETH segment in COMMIT
to ASLEEP, or back to READY with the silence timer restarted. -/
def execTc10SleepResponse (p : Fin 4) (accept : Bool) (s : State) : Host.Outcome State Fault Refusal :=
  .next (s.runOn fun s => s.tc10Response p accept)

end Sys2Proof.Machine
end

