-- ==== Sys2Proof/Machine/ExecOut.lean ====
section
/-! DEFINITION. LED sinks, inputs, outputs and the bollard (R323 to R382): one meaning per command, each over the operations of its chapter. -/

namespace Sys2Proof.Machine

/-- `LED_OUT_WRITE` (R327): A write to LEDS_CH_OUT sets duty and current code for the next period start, or is refused outside Operate and
Service. -/
def execLedOutWrite (via : Via) (n : Fin 32) (duty : Bool) (v : Nat) (s : State) : Host.Outcome State Fault Refusal :=
  .next (s.run fun s => s.viaWord via .LEDS_CH_OUT n v (0x2400 + n) (if duty then 3 else 2) v)

/-- `LED_PERIOD_START` (R326): at each sink period start a new duty and current take effect for the on-phase that begins in it. -/
def execLedPeriodStart (n : Fin 32) (s : State) : Host.Outcome State Fault Refusal :=
  .next (s.runOn fun s => s.ledPeriod n)

/-- `FADE_START` (R329): A write of 1 to LEDS_CH_FADE.GO, or to 2400:05, starts a perceptual fade from the duty in force. -/
def execFadeStart (via : Via) (n : Fin 32) (target : Fin 16384) (time : Fin 4096) (s : State) : Host.Outcome State Fault Refusal :=
  .next (s.run fun s => s.viaWord via .LEDS_CH_FADE n (target + time * 2 ^ 16 + 2 ^ 31) (0x2400 + n) 5 target)

/-- `FADE_STEP` (R329): every 4 ms a running fade sets its next duty, ending at TARGET after step N. -/
def execFadeStep (n : Fin 32) (s : State) : Host.Outcome State Fault Refusal :=
  .next (s.runOn fun s => s.fadeStep n)

/-- `LED_WINDOW` (R331): at the end of an on-phase of at least 8 µs the sink's voltage and current are reported. -/
def execLedWindow (n : Fin 32) (mv ma : Nat) (ledsup : Option Nat) (s : State) : Host.Outcome State Fault Refusal :=
  .next (s.runOn fun s => s.ledWindow n mv ma ledsup)

/-- `LED_SHORT_RELEASE` (R337): A write of 1 to LEDS_CH_CMD.CLR, or 2400:07, releases a sink's short latch while its duty is 0. -/
def execLedShortRelease (via : Via) (n : Fin 32) (s : State) : Host.Outcome State Fault Refusal :=
  .next (s.run fun s => s.viaWord via .LEDS_CH_CMD n 1 (0x2400 + n) 7 1)

/-- `FOLDBACK_UPDATE` (R338): every 4 ms the summed sink dissipation is compared with the cap and the foldback factor F adjusted. -/
def execFoldbackUpdate (s : State) : Host.Outcome State Fault Refusal :=
  .next (s.runOn fun s => s.foldback)

/-- `LED_REENABLE` (R339): A write of 1 to LEDS_GLB_CTRL.REENABLE, or 2420:06, leaves the LEDS safe state unless its cause persists. -/
def execLedReenable (via : Via) (s : State) : Host.Outcome State Fault Refusal :=
  .next (s.run fun s => s.viaWord via .LEDS_GLB_CTRL 0 1 0x2420 6 1)

/-- `DI_EDGE` (R344): an input's debounced state takes a new level, setting its edge bit with the stamp of the first sample. -/
def execDiEdge (n : Fin 48) (mv : Int) (s : State) : Host.Outcome State Fault Refusal :=
  .next (s.runOn fun s => s.diSeen n mv)

/-- `COUNTER_EDGE` (R346): A counted edge on DI40 to DI47 advances COUNT. -/
def execCounterEdge (k : Fin 8) (rising : Bool) (s : State) : Host.Outcome State Fault Refusal :=
  .next (s.runOn fun s => s.counterEdge k rising)

/-- `COUNTER_CLEAR` (R346): A write of 1 to DIO_CNT_CMD.CLR, or 2500:08, sets COUNT to 0. -/
def execCounterClear (via : Via) (k : Fin 8) (s : State) : Host.Outcome State Fault Refusal :=
  .next (s.run fun s => s.viaWord via .DIO_CNT_CMD k 1 (0x2500 + 40 + k) 8 1)

/-- `FREQUENCY_GATE` (R347): at the end of each gate the counter's frequency is computed and VALID set. -/
def execFrequencyGate (k : Fin 8) (s : State) : Host.Outcome State Fault Refusal :=
  .next (s.runOn fun s => s.freqGate k)

/-- `WAKE_STROBE` (R349): every 32 ms in Dormant or Watch each armed DI group is strobed and two differing strobes wake the module. -/
def execWakeStrobe (levels : Fin 65536) (boot : BootIn) (s : State) : Host.Outcome State Fault Refusal :=
  .next (s.run fun s => s.wakeStrobe levels boot)

/-- `DO_WRITE` (R351): A write to DIO_DO_OUT or 2530:01 sets commanded DO states, refused as a whole for a 0 to 1 change outside Operate and
Service. -/
def execDoWrite (via : Via) (m : Fin 16) (v : Nat) (s : State) : Host.Outcome State Fault Refusal :=
  .next (s.run fun s => s.viaWord via .DIO_DO_OUT 0 v (0x2530 + m) 1 v)

/-- `DO_OVERLOAD` (R352): A DO output in current limit for 2 ms turns off, sets FAULT and raises DO_OVERLOAD. -/
def execDoOverload (m : Fin 16) (s : State) : Host.Outcome State Fault Refusal :=
  .next (s.runOn fun s => s.doOverload m)

/-- `DO_RETRY` (R352): an unlatched overloaded DO output retries after 100 ms. -/
def execDoRetry (m : Fin 16) (s : State) : Host.Outcome State Fault Refusal :=
  .next (s.runOn fun s => s.doRetry m)

/-- `DO_CLEAR` (R352): A write of 1 to a DIO_DO_CLR bit, or 2530:05, releases a DO overload latch while its output bit is 0. -/
def execDoClear (via : Via) (m : Fin 16) (s : State) : Host.Outcome State Fault Refusal :=
  .next (s.run fun s => s.viaWord via .DIO_DO_CLR 0 (2 ^ m.val) (0x2530 + m) 5 1)

/-- `DO_OPEN_LOAD` (R353): an on DO output drawing below threshold for 50 ms sets OPEN and raises DO_OPEN_LOAD. -/
def execDoOpenLoad (m : Fin 16) (s : State) : Host.Outcome State Fault Refusal :=
  .next (s.runOn fun s => s.doOpen m)

/-- `SSUP_OVERLOAD` (R354): SSUP in limit for 10 ms turns off and raises SSUP_OVERLOAD. -/
def execSsupOverload (s : State) : Host.Outcome State Fault Refusal :=
  .next (s.runOn fun s => s.ssupOverload)

/-- `SSUP_RETRY` (R354): an overloaded SSUP retries every 1 s while SSUP_EN is 1. -/
def execSsupRetry (s : State) : Host.Outcome State Fault Refusal :=
  .next (s.runOn fun s => s.ssupRetry)

/-- `AUX_OVERLOAD` (R355): AUX24 total above its rating for 5 ms raises AUX_OVERLOAD and starts shedding DO outputs. -/
def execAuxOverload (cur : Nat) (s : State) : Host.Outcome State Fault Refusal :=
  .next (s.runOn fun s => s.auxOverload cur)

/-- `AUX_SHED_STEP` (R355): every 1 ms while over the rating the next on DO output from DO15 downward is shed. -/
def execAuxShedStep (cur : Nat) (s : State) : Host.Outcome State Fault Refusal :=
  .next (s.runOn fun s => s.auxShed cur)

/-- `AUX_RETURN_STEP` (R355): after 1 s below 80 % of the rating a shed output returns every 10 ms from DO00 upward. -/
def execAuxReturnStep (cur : Nat) (s : State) : Host.Outcome State Fault Refusal :=
  .next (s.runOn fun s => s.auxReturn cur)

/-- `AUX_DOWN` (R357): AUX24 falling out of regulation turns every DO output and SSUP off and raises AUX_DOWN. -/
def execAuxDown (s : State) : Host.Outcome State Fault Refusal :=
  .next (s.runOn fun s => s.auxDown)

/-- `AUX_UP` (R357): AUX24 in regulation for 5 ms returns DO outputs and SSUP that are commanded on. -/
def execAuxUp (s : State) : Host.Outcome State Fault Refusal :=
  .next (s.runOn fun s => s.auxUp)

/-- `BOLLARD_FEED` (R367): A write of 1 to SYS_BOLLARD_FEED.FEED, or to 2600:B0 to B3, refreshes a silence timer or counts a sequence error.
-/
def execBollardFeed (via : Via) (t : Fin 4) (v : Fin 256) (s : State) : Host.Outcome State Fault Refusal :=
  .next (s.run fun s => s.viaWord via .SYS_BOLLARD_FEED 0 (v + t * 2 ^ 8 + 2 ^ 31) 0x2600 (0xB0 + t) v)

/-- `BOLL_SILENCE` (R369): A running silence timer reaches 0, sending its tied outputs to their safe states and raising BOLL_SILENCE. -/
def execBollSilence (t : Fin 4) (s : State) : Host.Outcome State Fault Refusal :=
  .next (s.runOn fun s => s.silExpire t)

/-- `BOLL_HOLD_EXPIRED` (R373): A hold window running out without a reclaim sends every ungoverned output to its safe state. -/
def execBollHoldExpired (s : State) : Host.Outcome State Fault Refusal :=
  .next (s.runOn fun s => s.holdExpire)

/-- `RECLAIM` (R372): A write of 1 to BOLL_CMD.RECLAIM or 2600:A2 ends the hold window and hands governed outputs back to lower layers. -/
def execReclaim (via : Via) (s : State) : Host.Outcome State Fault Refusal :=
  .next (s.run fun s => s.viaWord via .BOLL_CMD 0 1 0x2600 0xA2 1)

/-- `AUTO_RECLAIM` (R371): firmware of a restarted pair or after a module reset writes RECLAIM once it runs, with AUTO_RECLAIM at 1. -/
def execAutoReclaim (p : Option Pair) (s : State) : Host.Outcome State Fault Refusal :=
  .next (s.run fun s => s.firmwareReclaim p)

/-- `BOLL_REENABLE` (R376): A write of 1 to BOLL_CMD.REENABLE, or 2600:A3, leaves the BOLL safe state with outputs held at OFF until a
reclaim. -/
def execBollReenable (via : Via) (s : State) : Host.Outcome State Fault Refusal :=
  .next (s.run fun s => s.viaWord via .BOLL_CMD 0 2 0x2600 0xA3 1)

/-- `REFLEX_EVALUATION` (R377): every 100 µs the 64 reflex entries are evaluated in ascending order and their actions applied. -/
def execReflexEvaluation (s : State) : Host.Outcome State Fault Refusal :=
  .next (s.runOn fun s => s.reflexes)

/-- `REFLEX_LATCH_CLEAR` (R378): A write to BOLL_RFX_CLRLO/HI or 2601:06 clears a reflex latch while its condition is false. -/
def execReflexLatchClear (via : Via) (k : Fin 64) (s : State) : Host.Outcome State Fault Refusal :=
  .next (s.run fun s => s.viaWord via (if k.val < 32 then .BOLL_RFX_CLRLO else .BOLL_RFX_CLRHI) 0 (2 ^ (k.val % 32)) (0x2601 + k) 6 1)

/-- `DO_OPEN_LOAD_CLEAR` (R353): A DO output drawing above the open-load threshold for 50 ms clears its OPEN bit and ends DO_OPEN_LOAD. -/
def execDoOpenLoadClear (m : Fin 16) (s : State) : Host.Outcome State Fault Refusal :=
  .next (s.runOn fun s => s.doOpenClear m)

end Sys2Proof.Machine
end

