-- ==== Sys2Proof/Machine/ExecPower.lean ====
section
/-! DEFINITION. Resets, berth, modes, sleep and supply (R73, R120 to R169): one meaning per command, each over the operations of its chapter. -/

namespace Sys2Proof.Machine

/-- `POWER_ON_RESET` (R73): VLOG rising through VRST resets every domain and starts Boot at power-on defaults. The AON domain keeps its power,
`aon`, only where the reset ends a hold-up with a source above VRST (R100, R168). -/
def execPowerOnReset (slot : Fin 64) (keep : Nat) (aon : Bool) (boot : BootIn) (s : State) : Host.Outcome State Fault Refusal :=
  .next (s.run fun s => s.powerOn slot keep (aon && s.flag F.BERTH_SUP_STAT_HOLDUP) boot)

/-- `MODULE_RESET` (R73): A pass through Boot other than power-on or wake resets PER, FAB, CANC, ETHC, TIDE and CORE and restarts firmware. -/
def execModuleReset (cause : ResetCause) (boot : BootIn) (s : State) : Host.Outcome State Fault Refusal :=
  .next (s.runOn fun s => s.moduleReset (Machine.ResetCause.bit cause) boot)

/-- `BOOT_COMPLETE` (R143): boot ends and the module enters Operate, Configure or Recovery, sending its boot-up message. -/
def execBootComplete (s : State) : Host.Outcome State Fault Refusal :=
  .next (s.run fun s => s.bootComplete)

/-- `PRECHG_MATE` (R120): PRECHG mating starts charging the four feed buses through the precharge path. -/
def execPrechgMate (s : State) : Host.Outcome State Fault Refusal :=
  .next (s.run fun s => s.prechgMate)

/-- `FEED_PROBE` (R121): every 10 ms each unmated feed bus is probed with 2 A for 50 µs and declared mated after two passing probes. -/
def execFeedProbe (f : Fin 4) (bus prechg sag : Nat) (s : State) : Host.Outcome State Fault Refusal :=
  .next (s.runOn fun s => s.feedProbe f bus prechg sag)

/-- `BERTH_HARD_MATE` (R123): A bus jumping over 20 % of PRECHG within 1 ms of its blade touching journals BERTH_HARD_MATE. -/
def execBerthHardMate (f : Fin 4) (s : State) : Host.Outcome State Fault Refusal :=
  .next (s.runOn fun s => s.hardMate f)

/-- `BERTH_SLOT_CHANGE` (R127): A valid slot code differing from the held sample for 100 ms raises BERTH_SLOT_CHANGE. -/
def execBerthSlotChange (raw : Fin 64) (s : State) : Host.Outcome State Fault Refusal :=
  .next (s.run fun s => s.slotChange raw)

/-- `RAIL_ADV` (R130): A valid RAIL_ADV frame brings the berth link up, records capacities and lowers adopted capacity within 10 ms where due.
-/
def execRailAdv (b : List Byte) (s : State) : Host.Outcome State Fault Refusal :=
  .next (s.runOn fun s => s.railAdv b)

/-- `MOD_REPORT` (R130): the module sends MOD_REPORT every 100 ms and within 5 ms of a change of its content. -/
def execModReport (s : State) : Host.Outcome State Fault Refusal :=
  .next (s.runOn fun s => s.modReport)

/-- `BERTH_LINK_LOSS` (R132): no valid RAIL_ADV for 500 ms loses the berth link and raises BERTH_LINK_LOSS. -/
def execBerthLinkLoss (s : State) : Host.Outcome State Fault Refusal :=
  .next (s.runOn fun s => s.linkLoss)

/-- `CAPACITY_RAISE` (R134): A higher adopted capacity takes effect after the computed value has stayed at or above it for 1 s. -/
def execCapacityRaise (f : Fin 4) (s : State) : Host.Outcome State Fault Refusal :=
  .next (s.runOn fun s => s.capRaise f)

/-- `BERTH_EXTRACT` (R135): EXTRACT reading 1 for 1 ms enters EXTRACTING and ramps every output to zero. -/
def execBerthExtract (boot : BootIn) (s : State) : Host.Outcome State Fault Refusal :=
  .next (s.run fun s => s.extractPin boot)

/-- `RAMP_COMPARE` (R137): at RAMP_TIME + 30 ms each feed's residual current is compared with 0.5 A, giving RAMPED or BERTH_RAMP_FAIL. -/
def execRampCompare (a b c d : Nat) (s : State) : Host.Outcome State Fault Refusal :=
  .next (s.runOn fun s => s.rampCompare [a, b, c, d])

/-- `EXTRACTION_ENTRY_COMMIT` (R138): the extraction entry is committed to data NVM on KEEP and hold-up. -/
def execExtractionEntryCommit (s : State) : Host.Outcome State Fault Refusal :=
  .next (s.run fun s => s.extractionCommit)

/-- `BERTH_EXTRACT_ABORT` (R139): EXTRACT back at 0 for 500 ms with a blade mated journals BERTH_EXTRACT_ABORT and makes a module reset with
all commands OFF. -/
def execBerthExtractAbort (s : State) : Host.Outcome State Fault Refusal :=
  .next (s.runOn fun s => s.extractAbort)

/-- `MODE_REQUEST_DORMANT` (R145): A mode request with TARGET 0 releases the module's own network need. -/
def execModeRequestDormant (via : Via) (key : Nat) (s : State) : Host.Outcome State Fault Refusal :=
  .next (s.run fun s => s.viaWord via .SYS_MODE_CMD 0 (0 + key % 256 * 2 ^ 8 + 2 ^ 16) 0x2000 2 0)

/-- `MODE_REQUEST_BOOT` (R145): A mode request with TARGET 2 makes a module reset. -/
def execModeRequestBoot (via : Via) (key : Nat) (s : State) : Host.Outcome State Fault Refusal :=
  .next (s.run fun s => s.viaWord via .SYS_MODE_CMD 0 (2 + key % 256 * 2 ^ 8 + 2 ^ 16) 0x2000 2 2)

/-- `MODE_REQUEST_CONFIGURE` (R146): A mode request for Configure, checked under R145, turns every output off and clears the event store. -/
def execModeRequestConfigure (via : Via) (key : Nat) (s : State) : Host.Outcome State Fault Refusal :=
  .next (s.run fun s => s.viaWord via .SYS_MODE_CMD 0 (3 + key % 256 * 2 ^ 8 + 2 ^ 16) 0x2000 2 3)

/-- `MODE_REQUEST_OPERATE` (R145): A mode request for Operate is checked and, if accepted, enters Operate. -/
def execModeRequestOperate (via : Via) (key : Nat) (s : State) : Host.Outcome State Fault Refusal :=
  .next (s.run fun s => s.viaWord via .SYS_MODE_CMD 0 (4 + key % 256 * 2 ^ 8 + 2 ^ 16) 0x2000 2 4)

/-- `MODE_REQUEST_SERVICE` (R147): A mode request for Service within a service session enters Service with outputs kept. -/
def execModeRequestService (via : Via) (key : Nat) (s : State) : Host.Outcome State Fault Refusal :=
  .next (s.run fun s => s.viaWord via .SYS_MODE_CMD 0 (6 + key % 256 * 2 ^ 8 + 2 ^ 16) 0x2000 2 6)

/-- `MODE_REQUEST_RECOVERY` (R145): A mode request for Recovery within a service session enters Recovery. -/
def execModeRequestRecovery (via : Via) (key : Nat) (s : State) : Host.Outcome State Fault Refusal :=
  .next (s.run fun s => s.viaWord via .SYS_MODE_CMD 0 (7 + key % 256 * 2 ^ 8 + 2 ^ 16) 0x2000 2 7)

/-- `LIMP_RETRY` (R149): after LIMP_RETRY seconds in Limp the module leaves it by a module reset, at most 3 times between power-on resets. -/
def execLimpRetry (s : State) : Host.Outcome State Fault Refusal :=
  .next (s.runOn fun s => s.limpRetry)

/-- `SLEEP_COMMIT` (R499): the sleep conditions having held for 100 ms, the module commits to sleep and starts the sequence of R150. -/
def execSleepCommit (s : State) : Host.Outcome State Fault Refusal :=
  .next (s.runOn fun s => s.sleepCommit)

/-- `SLEEP_SEQUENCE_DONE` (R150): store, flush and wire-model transfer done, every output turns off and power is removed from all domains but
AON, entering Dormant or Watch. -/
def execSleepSequenceDone (s : State) : Host.Outcome State Fault Refusal :=
  .next (s.runOn fun s => s.sleepDone)

/-- `WAKE` (R152): A wake source in Dormant or Watch is latched with its AON stamp and the domains power up into Boot. -/
def execWake (cause idx : Fin 16) (also : List (Fin 16 × Fin 16)) (boot : BootIn) (s : State) : Host.Outcome State Fault Refusal :=
  .next (s.run fun s => s.wakeUp cause idx (also.map fun x => (x.1.val, x.2.val)) boot)

/-- `FEED_PRESENT` (R158): A feed above the return level for 5 ms becomes present. -/
def execFeedPresent (f : Fin 4) (v : Nat) (s : State) : Host.Outcome State Fault Refusal :=
  .next (s.runOn fun s => s.feedPresent f v)

/-- `SUPPLY_DIP` (R159): A feed below VWARN for 100 µs sheds its channels of the shed classes within 10 µs and raises SUPPLY_DIP. -/
def execSupplyDip (f : Fin 4) (v : Nat) (s : State) : Host.Outcome State Fault Refusal :=
  .next (s.runOn fun s => s.supplyDip f v)

/-- `FEED_ABSENT` (R160): A feed below VRST for 100 µs becomes absent, turning off all its channels and raising FEED_ABSENT. -/
def execFeedAbsent (f : Fin 4) (v : Nat) (s : State) : Host.Outcome State Fault Refusal :=
  .next (s.runOn fun s => s.feedAbsent f v)

/-- `FEED_OVERVOLT` (R161): A feed above 62 V for 100 µs turns off and holds all its channels and raises FEED_OVERVOLT. -/
def execFeedOvervolt (f : Fin 4) (v : Nat) (s : State) : Host.Outcome State Fault Refusal :=
  .next (s.runOn fun s => s.feedOvervolt f v)

/-- `RESTORE_BEGIN` (R163): A feed above its release level for 5 ms, or held channels becoming enabled, begins a staggered restore. -/
def execRestoreBegin (f : Fin 4) (v : Nat) (s : State) : Host.Outcome State Fault Refusal :=
  .next (s.runOn fun s => s.restoreBegin f v)

/-- `RESTORE_STEP` (R163): after each STAGGER interval the next held channel turns on with its inrush phase, by class, phase and number. -/
def execRestoreStep (f : Fin 4) (s : State) : Host.Outcome State Fault Refusal :=
  .next (s.runOn fun s => s.restoreNext f)

/-- `VLOG_LOW` (R165): VSRC below VWARN raises VLOG_LOW and defers NVM writes not yet begun. -/
def execVlogLow (keep : Nat) (s : State) : Host.Outcome State Fault Refusal :=
  .next (s.runOn fun s => s.vlogLow keep)

/-- `DEFERRED_WRITE_START` (R165): VSRC above the release level for 5 ms lets deferred NVM writes begin. -/
def execDeferredWriteStart (keep : Nat) (s : State) : Host.Outcome State Fault Refusal :=
  .next (s.runOn fun s => s.vlogBack keep)

/-- `STORE_REPLY_TIMEOUT` (R166): A deferred store not complete 500 ms after its request is answered with abort 0x0800_0022 and stays pending.
-/
def execStoreReplyTimeout (c : Client) (s : State) : Host.Outcome State Fault Refusal :=
  .next (s.runOn fun s => s.storeTimeout c)

/-- `SUPPLY_LOSS` (R167): VSRC below VRST for 20 µs enters hold-up, turns every output off within 10 µs and commits the loss entry. -/
def execSupplyLoss (vsrc : Nat) (s : State) : Host.Outcome State Fault Refusal :=
  .next (s.runOn fun s => s.supplyLoss vsrc)

/-- `HOLDUP_END` (R168): hold-up ends in a power-on reset at the latest when it is exhausted. -/
def execHoldupEnd (aon : Bool) (boot : BootIn) (s : State) : Host.Outcome State Fault Refusal :=
  .next (s.run fun s => s.holdupEnd aon boot)

/-- `VMIN_CLR` (R169): A write of 1 to BERTH_SUP_MIN.CLR, or 0 to 2000:1A, sets VMIN to 0xFFFF. -/
def execVminClr (via : Via) (s : State) : Host.Outcome State Fault Refusal :=
  .next (s.run fun s => s.viaWord via .BERTH_SUP_MIN 0 (2 ^ 31) 0x2000 0x1A 0)

/-- `KEEP_RETURN` (R124): KEEP reaching 9 V sets BERTH_STAT.KEEP_OK and clears BERTH_NO_KEEP. -/
def execKeepReturn (v : Nat) (s : State) : Host.Outcome State Fault Refusal :=
  .next (s.run fun s => s.keepReturn v)

end Sys2Proof.Machine
end

