-- ==== Sys2Proof/Machine/ExecSwitch.lean ====
section
/-! DEFINITION. Switch channels, protection and calibration (R171 to R250): one meaning per command, each over the operations of its chapter. -/

namespace Sys2Proof.Machine

/-- `SW_OUT_WRITE` (R174): A write of a channel's commanded mode and duty is checked under R172 and takes effect at the output as R174 states.
-/
def execSwOutWrite (via : Via) (n : Fin 64) (duty : Bool) (v : Nat) (s : State) : Host.Outcome State Fault Refusal :=
  .next (s.run fun s => s.viaWord via .SW_OUT n v (0x2100 + n) (if duty then 2 else 1) v)

/-- `PWM_PERIOD_START` (R177): at each aligned period start the effective duty and on-time of the period are computed and applied. -/
def execPwmPeriodStart (n : Fin 64) (v : Nat) (a b : List (Nat × Int)) (s : State) : Host.Outcome State Fault Refusal :=
  .next (s.runOn fun s => (s.setVfeed (feedOf n) v).periodStart n [a, b])

/-- `INRUSH_END` (R183): A channel's inrush phase ends after INRUSH_TIME and its active limit returns to LIMIT. -/
def execInrushEnd (n : Fin 64) (s : State) : Host.Outcome State Fault Refusal :=
  .next (s.runOn fun s => s.inrushEnd n)

/-- `GROUP_COMMAND` (R184): A write of 1 to SW_GLB_GRPCMD.GO applies mode and duty to every selected channel in one PWR cycle. -/
def execGroupCommand (via : Via) (mode : Fin 4) (duty : Fin 4096) (s : State) : Host.Outcome State Fault Refusal :=
  .next (s.run fun s => s.viaWord via .SW_GLB_GRPCMD 0 (duty + mode * 2 ^ 12 + 2 ^ 16) 0x2140 3 (duty + mode * 2 ^ 12))

/-- `GROUP_TURN_ON` (R184): A delayed group turn-on in ON mode turns its channel on PHASE µs after the command. -/
def execGroupTurnOn (n : Fin 64) (s : State) : Host.Outcome State Fault Refusal :=
  .next (s.runOn fun s => s.groupTurnOn n)

/-- `PAIR_WRITE` (R186): A write to SW_GLB_PAIR pairs or unpairs adjacent channels, or is refused as a whole. -/
def execPairWrite (via : Via) (v : Nat) (s : State) : Host.Outcome State Fault Refusal :=
  .next (s.run fun s => s.viaWord via .SW_GLB_PAIR 0 v 0x2140 1 v)

/-- `PAIR_IMBALANCE` (R190): pair shares differing over 20 % for 100 ms set PAIR_IMB and raise PAIR_IMBALANCE. -/
def execPairImbalance (n : Fin 64) (a b : Int) (s : State) : Host.Outcome State Fault Refusal :=
  .next (s.runOn fun s => s.pairImbalance n a b)

/-- `PEAK_CLR` (R191): A write of 1 to SW_PEAK.CLR, or 0 to 2100:1B, sets PEAK to 0. -/
def execPeakClr (via : Via) (n : Fin 64) (s : State) : Host.Outcome State Fault Refusal :=
  .next (s.run fun s => s.viaWord via .SW_PEAK n (2 ^ 31) (0x2100 + n) 0x1B 0)

/-- `FAST_TRIP` (R195): instantaneous current reaching 1.5 × the active limit turns the gate off within 1.5 µs and latches the fast-trip hold.
-/
def execFastTrip (n : Fin 64) (cur : Nat) (s : State) : Host.Outcome State Fault Refusal :=
  .next (s.runOn fun s => s.fastTrip n cur)

/-- `L1_TRIP` (R197): TJ reaching 170 °C or TJ − TP reaching 60 K while the gate is on turns it off and sets the pending-restart or level-1
latch hold. -/
def execL1Trip (n : Fin 64) (tj : Int) (s : State) : Host.Outcome State Fault Refusal :=
  .next (s.runOn fun s => s.l1Trip n tj)

/-- `L1_RESTART` (R198): the cooling condition ends a pending restart and the channel conducts again as a start. -/
def execL1Restart (n : Fin 64) (tj tj2 : Int) (s : State) : Host.Outcome State Fault Refusal :=
  .next (s.runOn fun s => s.l1Restart n tj tj2)

/-- `L2_CEILING` (R200): A supervisor TJ reading at or above CEIL latches the level-2 hold with cause CEIL. -/
def execL2Ceiling (n : Fin 64) (tj : Int) (s : State) : Host.Outcome State Fault Refusal :=
  .next (s.runOn fun s => s.l2Reading n tj)

/-- `WIRE_MODEL_STEP` (R202): every 1 ms each channel's two-node wire model advances one step. -/
def execWireModelStep (meas : List Meas) (s : State) : Host.Outcome State Fault Refusal :=
  .next (s.runOn fun s => s.wireStepAll meas)

/-- `FEED_LIMITER_UPDATE` (R212): every 1 ms the limiter of a feed forms its sum and updates its 100 ms average. -/
def execFeedLimiterUpdate (f : Fin 4) (aux : Int) (s : State) : Host.Outcome State Fault Refusal :=
  .next (s.runOn fun s => s.limiterUpdate f aux)

/-- `LIMITER_HOLDOFF_END` (R213): the 100 ms limiter hold-off ends and further sheds are permitted. -/
def execLimiterHoldoffEnd (f : Fin 4) (s : State) : Host.Outcome State Fault Refusal :=
  .next (s.runOn fun s => s.holdoffEnd f)

/-- `FEED_LIMITER_RESTORE` (R215): the average at or below REL_PCT for REL_TIME ends the shed hold of the most recently shed class. -/
def execFeedLimiterRestore (f : Fin 4) (s : State) : Host.Outcome State Fault Refusal :=
  .next (s.runOn fun s => s.flRestore f)

/-- `SAG_BEGIN` (R217): A feed sample below 85 % of its 1 ms mean begins a sag, freezing inrush timers of that feed. -/
def execSagBegin (f : Fin 4) (mean v clear : Nat) (s : State) : Host.Outcome State Fault Refusal :=
  .next (s.runOn fun s => s.sagBegin f mean v clear)

/-- `SAG_END` (R217): A sag ends when a sample returns to the fixed level or 200 µs after it began. -/
def execSagEnd (f : Fin 4) (v : Nat) (s : State) : Host.Outcome State Fault Refusal :=
  .next (s.runOn fun s => s.sagEnd f v)

/-- `PROT_CLEAR` (R222): A write of 1 to PROT_CLR.CLR, or to 2150:61 to 70, requests a clear of holds of ranks 1 to 6, accepted or refused. -/
def execProtClear (via : Via) (n : Fin 64) (s : State) : Host.Outcome State Fault Refusal :=
  .next (s.run fun s => s.viaWord via .PROT_CLR n 1 (0x2150 + n / 16) (0x61 + n % 16) 1)

/-- `FEED_LIMITER_CLEAR` (R223): A write of 1 to PROT_FL_CLR.CLR, or 2150:08, requests a clear for every feed-limiter latched channel of the
feed. -/
def execFeedLimiterClear (via : Via) (f : Fin 4) (s : State) : Host.Outcome State Fault Refusal :=
  .next (s.run fun s => s.viaWord via .PROT_FL_CLR f 1 (0x2150 + f) 8 1)

/-- `AUTO_CLEAR` (R226): pair B clears a latched channel on your behalf under its re-enable policy once R222 permits. -/
def execAutoClear (n : Fin 64) (s : State) : Host.Outcome State Fault Refusal :=
  .next (s.runOn fun s => s.autoClear n)

/-- `CAL_REF_FAIL` (R230): REFA and REFB differing by more than 0.3 % for 1 s raise CAL_REF_FAIL and freeze live calibration. -/
def execCalRefFail (ppm held : Nat) (s : State) : Host.Outcome State Fault Refusal :=
  .next (s.runOn fun s => s.calRefFail ppm held)

/-- `CAL_REF_OK` (R230): the references agreeing within 0.2 % for 10 s clear CAL_REF_FAIL. -/
def execCalRefOk (ppm held : Nat) (s : State) : Host.Outcome State Fault Refusal :=
  .next (s.runOn fun s => s.calRefOk ppm held)

/-- `CAL_WINDOW_START` (R241): pair B starts a calibration window on a conducting channel of a feed when its conditions hold. -/
def execCalWindowStart (n : Fin 64) (s : State) : Host.Outcome State Fault Refusal :=
  .next (s.runOn fun s => s.windowStart n)

/-- `CAL_WINDOW_END` (R237): A completed window is accepted or rejected and its coefficients applied. -/
def execCalWindowEnd (n : Fin 64) (a b : CalWin) (s : State) : Host.Outcome State Fault Refusal :=
  .next (s.runOn fun s => s.windowEnd n a b)

/-- `CAL_REVERT` (R243): A write of 1 to CAL_CTRL.REVERT, or 2D00:04, returns every channel and boost to the factory set. -/
def execCalRevert (via : Via) (s : State) : Host.Outcome State Fault Refusal :=
  .next (s.run fun s => s.viaField via F.CAL_CTRL_REVERT 0 1 0x2D00 4 1)

/-- `CAL_REENABLE` (R69): A write of 1 to CAL_CTRL.REENABLE, or 2D00:05, leaves the CAL safe state. -/
def execCalReenable (via : Via) (s : State) : Host.Outcome State Fault Refusal :=
  .next (s.run fun s => s.viaField via F.CAL_CTRL_REENABLE 0 1 0x2D00 5 1)

/-- `BOOST_SENSE_CAL` (R244): every 100 ms each boost sense converter converts REFA and GND and updates its gain and offset. -/
def execBoostSenseCal (x : Fin 2) (gain off : Int) (s : State) : Host.Outcome State Fault Refusal :=
  .next (s.runOn fun s => s.boostCal x gain off)

/-- `DI_THRESHOLD_CHECK` (R246): every 1 s each DI group's thresholds are converted against REFA, raising CAL_DI_THRESH when off by over 0.4
V. -/
def execDiThresholdCheck (g : Fin 6) (onV offV : Nat) (s : State) : Host.Outcome State Fault Refusal :=
  .next (s.runOn fun s => s.diCheck g onV offV)

/-- `PULLUP_APPLY` (R247): the off-state pull-up is applied 2 ms after a channel turns off. -/
def execPullupApply (n : Fin 64) (s : State) : Host.Outcome State Fault Refusal :=
  .next (s.runOn fun s => s.pullup n)

/-- `OPEN_LOAD_OFF` (R247): VOUT above 2.5 V for 10 ms in the off state sets OL_OFF and raises OPEN_LOAD_OFF. -/
def execOpenLoadOff (n : Fin 64) (vout : Int) (s : State) : Host.Outcome State Fault Refusal :=
  .next (s.runOn fun s => s.openLoadOff n vout)

/-- `SHORT_TO_FEED` (R248): VOUT at 6.0 V or more for 10 ms in the off state sets STF and raises SHORT_TO_FEED. -/
def execShortToFeed (n : Fin 64) (vout : Int) (s : State) : Host.Outcome State Fault Refusal :=
  .next (s.runOn fun s => s.shortToFeed n vout)

/-- `OPEN_LOAD_ON` (R249): on-state current below OL_THR for 10 ms and two periods sets OL_ON and raises OPEN_LOAD_ON. -/
def execOpenLoadOn (n : Fin 64) (s : State) : Host.Outcome State Fault Refusal :=
  .next (s.runOn fun s => s.openLoadOn n)

/-- `PAIR_IMBALANCE_CLEAR` (R190): pair shares within 20 % for 100 ms clear SW_STAT.PAIR_IMB and end PAIR_IMBALANCE. -/
def execPairImbalanceClear (n : Fin 64) (a b : Int) (s : State) : Host.Outcome State Fault Refusal :=
  .next (s.runOn fun s => s.pairBalance n a b)

/-- `OPEN_LOAD_OFF_CLEAR` (R247): VOUT below 2.5 V for 10 ms clears OL_OFF and ends OPEN_LOAD_OFF. -/
def execOpenLoadOffClear (n : Fin 64) (s : State) : Host.Outcome State Fault Refusal :=
  .next (s.runOn fun s => s.openLoadOffEnd n)

/-- `SHORT_TO_FEED_CLEAR` (R248): VOUT below 6.0 V for 10 ms clears STF and ends SHORT_TO_FEED. -/
def execShortToFeedClear (n : Fin 64) (s : State) : Host.Outcome State Fault Refusal :=
  .next (s.runOn fun s => s.shortToFeedEnd n)

/-- `OPEN_LOAD_ON_CLEAR` (R249): current at OL_THR + 20 mA or more for 10 ms clears OL_ON and ends OPEN_LOAD_ON. -/
def execOpenLoadOnClear (n : Fin 64) (s : State) : Host.Outcome State Fault Refusal :=
  .next (s.runOn fun s => s.openLoadOnEnd n)

/-- `CAL_STALE` (R242): A conducting channel with no accepted calibration window for 60 s sets CAL_CH_STAT.STALE, and its accuracy reverts to
the factory figure 10 min after its last accepted window. -/
def execCalStale (n : Fin 64) (s : State) : Host.Outcome State Fault Refusal :=
  .next (s.runOn fun s => s.calStale n)

end Sys2Proof.Machine
end

