-- ==== Sys2Proof/Machine/ExecSys.lean ====
section
/-! DEFINITION. Clocks, lockstep, load, bus, host port and plate (R18 to R83, R112 to R114): one meaning per command, each over the operations of its chapter. -/

namespace Sys2Proof.Machine

/-- `CLK_DOMAIN_LOSS` (R18): A domain clock deviates beyond its threshold or stops for 10 µs and is declared lost, with the reaction that its
domain table gives. -/
def execClkDomainLoss (d : ClkDom) (dev : Int) (still : Nat) (s : State) : Host.Outcome State Fault Refusal :=
  .next (s.runOn fun s => s.clkJudge d dev still)

/-- `CLK_REF_LOSS` (R20): loss of the crystal reference raises CLK_REF_LOSS and sends the module to Limp while PWR runs on its RC oscillator.
-/
def execClkRefLoss (dev : Int) (still : Nat) (s : State) : Host.Outcome State Fault Refusal :=
  .next (s.runOn fun s => s.refJudge dev still)

/-- `WELT_OVF` (R22): A word that does not fit a welt is discarded, WELT_OVF is raised and the receiving block goes to BLOCK_SAFE. -/
def execWeltOvf (w : Fin 28) (blk : Nat) (s : State) : Host.Outcome State Fault Refusal :=
  .next (s.runOn fun s => s.weltOvf w blk)

/-- `COMPARE_MISMATCH` (R23): A lockstep compare mismatch raises LOCKSTEP_A or LOCKSTEP_B and restarts that pair alone while the bollard holds
the outputs. -/
def execCompareMismatch (p : Pair) (s : State) : Host.Outcome State Fault Refusal :=
  .next (s.runOn fun s => s.compareMismatch p)

/-- `PAIR_RESTART_COMPLETE` (R24): the restarted pair's firmware runs again, within 40 ms of the restart. -/
def execPairRestartComplete (p : Pair) (s : State) : Host.Outcome State Fault Refusal :=
  .next (s.runOn fun s => s.pairBack p)

/-- `OVERLOAD_ENTRY` (R29): A pair's load reaches 90 % and the pair enters overload, raising OVERLOAD_A or OVERLOAD_B. -/
def execOverloadEntry (p : Pair) (load : Nat) (s : State) : Host.Outcome State Fault Refusal :=
  .next (s.runOn fun s => s.overloadEntry p load)

/-- `OVERLOAD_EXIT` (R29): A pair's load has stayed below 75 % for 500 ms and the pair leaves overload. -/
def execOverloadExit (p : Pair) (load : Nat) (s : State) : Host.Outcome State Fault Refusal :=
  .next (s.runOn fun s => s.overloadExit p load)

/-- `OVERLOAD_REQUEST_TIMEOUT` (R30): an SDO or Nydulet request not completed within 50 ms under pair A overload is answered with abort
0x0800_0022. -/
def execOverloadRequestTimeout (c : Client) (x y waited : Nat) (s : State) : Host.Outcome State Fault Refusal :=
  .next (s.runOn fun s => s.requestTimeout c x y waited)

/-- `JOURNAL_FORCED_FLUSH` (R31): after 2 s of deferral under overload, one flush of up to 64 journal entries runs ahead of C4. -/
def execJournalForcedFlush (s : State) : Host.Outcome State Fault Refusal :=
  .next (s.runOn fun s => s.forcedFlush)

/-- `ENTRY_VISIBLE` (R38): A journal entry becomes visible 128 µs after its stamp, takes its SEQ and updates 1001, 1003 and the EMCY queue. -/
def execEntryVisible (held : Nat) (s : State) : Host.Outcome State Fault Refusal :=
  .next (s.run fun s => s.nextVisible held)

/-- `REGISTER_WRITE` (R71): A write to a register that has no row of its own is applied under its field types, guard class, width and
alignment rules. -/
def execRegisterWrite (a : Acc) (addr : Nat) (w : Width) (v : Nat) (s : State) : Host.Outcome State Fault Refusal :=
  .next (s.run fun s => s.busWrite a addr v w)

/-- `ATOMIC_PAIR_ACCESS` (R55): A 32-bit access to one half of a 64-bit atomic pair latches, returns or commits through that master's shadow.
-/
def execAtomicPairAccess (a : Acc) (addr : Nat) (wr : Option Nat) (s : State) : Host.Outcome State Fault Refusal :=
  .next (s.run fun s => match wr with | some v => s.busWrite a addr v | none => (s.busRead a addr).1)

/-- `EYELET_WRITE` (R64): A write to an eyelet performs an atomic read-modify-write of one bit of its parent register. -/
def execEyeletWrite (a : Acc) (addr : Nat) (w : Width) (v : Nat) (s : State) : Host.Outcome State Fault Refusal :=
  .next (s.run fun s => s.busWrite a addr v w)

/-- `STALL_TIMEOUT` (R59): an access that has stalled for 200 µs ends in a bus error, the write withdrawn or standing as APPLIED shows. -/
def execStallTimeout (a : Acc) (addr : Nat) (wr : Option Nat) (applied : Bool) (s : State) : Host.Outcome State Fault Refusal :=
  .next (s.run fun s => s.stall a addr (wr.getD 0) wr.isSome applied)

/-- `SCRUBBER_VISIT` (R66): every 1 ms the scrubber checks the parity of every Cfg register of every powered domain. -/
def execScrubberVisit (flips : List (Nat × Fin 32)) (s : State) : Host.Outcome State Fault Refusal :=
  .next (s.run fun s => (s.flips flips).scrub)

/-- `BLOCK_REENABLE` (R70): A write of a block ID with GO to GUARD_REENABLE, or to 2000:1B, ends the safe state of every unit of that block
free of mismatch. -/
def execBlockReenable (via : Via) (blk : Nat) (s : State) : Host.Outcome State Fault Refusal :=
  .next (s.run fun s => s.viaWord via .GUARD_REENABLE 0 (blk % 256 + 2 ^ 31) 0x2000 0x1B blk)

/-- `GUARD_VIOL_CLR` (R71): A write of 1 to GUARD_VIOL.CLR clears the guard violation count. -/
def execGuardViolClr (a : Acc) (s : State) : Host.Outcome State Fault Refusal :=
  .next (s.run fun s => s.busPut a .GUARD_VIOL 0 (2 ^ 31))

/-- `BERR_COUNT_CLR` (R71): A write of 1 to GUARD_BERR_INFO.CLR clears the bus error count. -/
def execBerrCountClr (a : Acc) (s : State) : Host.Outcome State Fault Refusal :=
  .next (s.run fun s => s.busPut a .GUARD_BERR_INFO 0 (2 ^ 31))

/-- `HRP_READ` (R78): A READ frame on the host register port reads N words and returns them with status and done bytes. -/
def execHrpRead (b : List Byte) (s : State) : Host.Outcome State Fault Refusal :=
  .next (s.run fun s => s.hrpServe (hrpParse b))

/-- `HRP_WRITE` (R77): A WRITE frame is buffered, checked by both CRCs and written word by word until the first bus error. -/
def execHrpWrite (b : List Byte) (s : State) : Host.Outcome State Fault Refusal :=
  .next (s.run fun s => s.hrpServe (hrpParse b))

/-- `HRP_STATUS` (R76): A STATUS frame returns the status and done bytes of the previous frame. -/
def execHrpStatus (b : List Byte) (s : State) : Host.Outcome State Fault Refusal :=
  .next (s.run fun s => s.hrpServe (hrpParse b))

/-- `SESS_OPEN` (R81): A SESS_OPEN frame returns a 16-byte nonce valid for 1 s and one attempt. -/
def execSessOpen (b : List Byte) (s : State) : Host.Outcome State Fault Refusal :=
  .next (s.run fun s => s.hrpServe (hrpParse b))

/-- `SESS_AUTH` (R81): A SESS_AUTH frame checks the HMAC tag and makes the host port privileged, or counts a failure toward a 60 s lockout. -/
def execSessAuth (b : List Byte) (s : State) : Host.Outcome State Fault Refusal :=
  .next (s.run fun s => s.hrpServe (hrpParse b))

/-- `SESS_CLOSE` (R82): A SESS_CLOSE frame ends the host session. -/
def execSessClose (b : List Byte) (s : State) : Host.Outcome State Fault Refusal :=
  .next (s.run fun s => s.hrpServe (hrpParse b))

/-- `HRP_FRAME_ERROR` (R80): A host frame with a CRC error, unknown opcode or early HRP_CS rise has no effect and counts in CRC_ERR. -/
def execHrpFrameError (b : List Byte) (cut : Bool) (s : State) : Host.Outcome State Fault Refusal :=
  .next (s.run fun s => s.hrpServe (if cut then .bad 64 else hrpParse b))

/-- `HRP_SESSION_TIMEOUT` (R82): no correct frame for SYS_HRP_CTRL.TIMEOUT ends the host session. -/
def execHrpSessionTimeout (s : State) : Host.Outcome State Fault Refusal :=
  .next (s.run fun s => s.hrpExpire)

/-- `HRP_LOCKOUT_END` (R83): the 60 s host authentication lockout ends. -/
def execHrpLockoutEnd (s : State) : Host.Outcome State Fault Refusal :=
  .next (s.run fun s => s.hrpLockEnd)

/-- `PLATE_HOT` (R112): TP rising above 85 °C raises PLATE_HOT, which clears below 82 °C. -/
def execPlateHot (t1 t2 : Sens) (s : State) : Host.Outcome State Fault Refusal :=
  .next (s.runOn fun s => s.plateHot t1 t2)

/-- `PLATE_LIMIT` (R113): TP at or above 100 °C for 1 s raises PLATE_LIMIT and sends INJ and LEDS to BLOCK_SAFE. -/
def execPlateLimit (t1 t2 : Sens) (s : State) : Host.Outcome State Fault Refusal :=
  .next (s.runOn fun s => s.plateLimit t1 t2)

/-- `PLATE_SENSOR` (R114): disagreeing or failed plate sensors for 1 s raise PLATE_SENSOR with the index of the case. -/
def execPlateSensor (t1 t2 : Sens) (s : State) : Host.Outcome State Fault Refusal :=
  .next (s.runOn fun s => s.plateSensor t1 t2)

/-- `REGISTER_READ` (R67): A read by any master of a register or memory word is checked for guard class, width, alignment, clock loss and, for
a Cfg register, parity, and can raise CFG_PARITY, GUARD_VIOL or BUS_ERR. -/
def execRegisterRead (a : Acc) (addr : Nat) (w : Width) (flip : Option (Fin 32)) (s : State) : Host.Outcome State Fault Refusal :=
  .next (s.run fun s => ((s.flips (match flip with | some k => [(addr, k)] | none => [])).busRead a addr w).1)

/-- `PLATE_LIMIT_CLEAR` (R113): TP falling below 90 °C clears PLATE_LIMIT, after which INJ and LEDS may be re-enabled. -/
def execPlateLimitClear (t1 t2 : Sens) (s : State) : Host.Outcome State Fault Refusal :=
  .next (s.runOn fun s => s.plateLimitClear t1 t2)

/-- `PLATE_SENSOR_CLEAR` (R114): both plate sensors reading valid and within 5 K of each other for 1 s clear PLATE_SENSOR. -/
def execPlateSensorClear (t1 t2 : Sens) (s : State) : Host.Outcome State Fault Refusal :=
  .next (s.runOn fun s => s.plateSensorClear t1 t2)

end Sys2Proof.Machine
end

