-- ==== Sys2Proof/Machine/ExecUpd.lean ====
section
/-! DEFINITION. Update, recovery and the journal (R590 to R623): one meaning per command, each over the operations of its chapter. -/

namespace Sys2Proof.Machine

/-- `PARCEL` (R590): A write of 1F50:01 delivers a parcel that is checked and placed in the prefix or a block assembly buffer. -/
def execParcel (c : Client) (b : List Byte) (s : State) : Host.Outcome State Fault Refusal :=
  .next (s.run fun s => s.clientWrite c 0x1F50 1 b)

/-- `BLOCK_STAGING_WRITE` (R594): A completed block is hashed, written to staging as C6 work, read back and its bitmap bit set. -/
def execBlockStagingWrite (good : Bool) (s : State) : Host.Outcome State Fault Refusal :=
  .next (s.runOn fun s => s.stageWrite good)

/-- `STAGING_CLEAR` (R596): A write of 3 to 1F51:01, or CLEAR with KEY 0xA5, discards the staged image and bitmap. -/
def execStagingClear (via : Via) (key : Nat) (s : State) : Host.Outcome State Fault Refusal :=
  .next (s.run fun s => s.viaWord via .UPD_CMD 0 (2 + key % 256 * 2 ^ 8) 0x1F51 1 3)

/-- `ACTIVATE` (R597): A write of 1 to 1F51:01, or ACTIVATE with KEY 0xA5, raises the rollback counter, marks RESOLING and makes a module
reset. -/
def execActivate (via : Via) (key : Nat) (s : State) : Host.Outcome State Fault Refusal :=
  .next (s.run fun s => s.viaWord via .UPD_CMD 0 (1 + key % 256 * 2 ^ 8) 0x1F51 1 1)

/-- `RESOLER_BLOCK_COPY` (R600): the resoler copies and verifies one body block into the running image and advances NEXT. -/
def execResolerBlockCopy (first second : Bool) (s : State) : Host.Outcome State Fault Refusal :=
  .next (s.runOn fun s => s.resolerCopy first second)

/-- `TRIAL_CONFIRM` (R605): TRIAL_TIME without a pair restart or Limp passes the self-test, marks IDLE and journals UPD_CONFIRMED. -/
def execTrialConfirm (s : State) : Host.Outcome State Fault Refusal :=
  .next (s.runOn fun s => s.trialConfirm)

/-- `RECOV_LOW` (R606): RECOV low wakes the module or, at the end of Boot, enters Recovery and journals UPD_RECOVERY. -/
def execRecovLow (low : Bool) (boot : BootIn) (s : State) : Host.Outcome State Fault Refusal :=
  .next (s.run fun s => s.recovPin low boot)

/-- `JOURNAL_FLUSH` (R620): 16 waiting PERSIST entries or the oldest waiting 1 s start a flush of up to 64 entries to data NVM. -/
def execJournalFlush (s : State) : Host.Outcome State Fault Refusal :=
  .next (s.runOn fun s => s.journalFlush)

/-- `FLUSH_COMMAND` (R620): A write of 1 to JNL_CMD.FLUSH, or 2E00:08, requests a flush. -/
def execFlushCommand (via : Via) (s : State) : Host.Outcome State Fault Refusal :=
  .next (s.run fun s => s.viaWord via .JNL_CMD 0 1 0x2E00 8 1)

/-- `FLUSH_COMPLETE` (R620): A flush commits its entries and advances JNL_SEQ_PERS. -/
def execFlushComplete (ok : Bool) (s : State) : Host.Outcome State Fault Refusal :=
  .next (s.runOn fun s => s.flushComplete ok)

/-- `CLR_1003` (R623): A write of 1 to JNL_CMD.CLR_1003, or 0 to 1003:00, empties the pre-defined error field. -/
def execClr1003 (via : Via) (s : State) : Host.Outcome State Fault Refusal :=
  .next (s.run fun s => s.viaWord via .JNL_CMD 0 2 0x1003 0 0)

/-- `READ_WINDOW_LOAD` (R619): A write to JNL_RD_SEQ loads the journal window and sets JNL_RD_STAT to OK, GONE or NOT_YET. -/
def execReadWindowLoad (a : Acc) (seq : Nat) (s : State) : Host.Outcome State Fault Refusal :=
  .next (s.run fun s => s.busPut a .JNL_RD_SEQ 0 seq)

/-- `FAULT_EXPIRY` (R612): A fault with recovery N stops being active 1 s after its raise. -/
def execFaultExpiry (s : State) : Host.Outcome State Fault Refusal :=
  .next (s.run fun s => s.faultExpiry)

end Sys2Proof.Machine
end

