-- ==== Sys2Proof/Machine/ExecValve.lean ====
section
/-! DEFINITION. Boosts, valve banks and the event engine (R254 to R321): one meaning per command, each over the operations of its chapter. -/

namespace Sys2Proof.Machine

/-- `BOOST_PWR_LIMIT` (R255): A boost input-current or power limit acting stops charging and raises BOOST_PWR_LIMIT. -/
def execBoostPwrLimit (x : Fin 2) (p cur v : Nat) (s : State) : Host.Outcome State Fault Refusal :=
  .next (s.runOn fun s => s.boostLimit x p cur v)

/-- `BOOST_OVERVOLT` (R256): A rail above 76 V for 10 µs stops its boost, latches OV and raises BOOST_OVERVOLT. -/
def execBoostOvervolt (x : Fin 2) (v : Nat) (s : State) : Host.Outcome State Fault Refusal :=
  .next (s.runOn fun s => s.boostOver x v)

/-- `BOOST_OV_CLEAR` (R256): A write of 1 to INJ_BST_STAT.CLR, or a bit of 2250:0B, clears a boost's over-voltage latch. -/
def execBoostOvClear (via : Via) (x : Fin 2) (s : State) : Host.Outcome State Fault Refusal :=
  .next (s.run fun s => s.viaWord via .INJ_BST_STAT x (2 ^ 31) 0x2250 0x0B (2 ^ x.val))

/-- `BOOST_START_FAIL` (R257): A boost not ready 50 ms after enable raises BOOST_START_FAIL. -/
def execBoostStartFail (x : Fin 2) (s : State) : Host.Outcome State Fault Refusal :=
  .next (s.runOn fun s => s.boostLate x)

/-- `LAST_WRITE` (R260): A write to a last header or phase word is checked against the phase rules and refused as a whole when it would break
them. -/
def execLastWrite (via : Via) (l : Fin 32) (k : Fin 9) (v : Nat) (s : State) : Host.Outcome State Fault Refusal :=
  .next (s.run fun s => match k.val with
    | 0 => s.viaWord via .INJ_LAST_HDR l v (0x2230 + l) 0x40 v
    | j + 1 => s.viaWord via .INJ_LAST_PH (8 * l + j) v (0x2230 + l) (0x41 + j) v)

/-- `DIRECT_COMMAND` (R284): A write with INJ_CH_CMD.GO, or to 2200:03, issues a valve event that becomes a candidate of its bank. -/
def execDirectCommand (via : Via) (n : Fin 24) (last : Fin 32) (dur : Nat) (s : State) : Host.Outcome State Fault Refusal :=
  .next (s.run fun s => s.viaWord via .INJ_CH_CMD n (dur % 2 ^ 20 + last * 2 ^ 20 + 2 ^ 31) (0x2200 + n) 3 (dur % 2 ^ 20 + last * 2 ^ 20))

/-- `INJ_ABORT` (R265): ABORT makes a running event's command end now, or removes a waiting event with result ABORTED. -/
def execInjAbort (via : Via) (n : Fin 24) (s : State) : Host.Outcome State Fault Refusal :=
  .next (s.run fun s => s.viaWord via .INJ_CH_CMD n (2 ^ 30) (0x2200 + n) 4 1)

/-- `PHASE_END` (R262): A valve phase ends on its own condition and the next phase or end decay begins within 400 ns, the bank rechecking
candidates. -/
def execPhaseEnd (n : Fin 24) (reached : Bool) (i : Shunt) (s : State) : Host.Outcome State Fault Refusal :=
  .next (s.runOn fun s => s.phaseEnd n reached i)

/-- `COMMAND_END` (R262): A valve event's command end falls, cutting its phase and starting the end decay. -/
def execCommandEnd (n : Fin 24) (i : Shunt) (s : State) : Host.Outcome State Fault Refusal :=
  .next (s.runOn fun s => s.commandEnd n i)

/-- `VALVE_EVENT_END` (R264): after low-side turn-off the current falls below 50 mA and the event ends, recording its result and closing
delay. -/
def execValveEventEnd (n : Fin 24) (x : Decay) (s : State) : Host.Outcome State Fault Refusal :=
  .next (s.runOn fun s => s.valveEnd n x)

/-- `MIN_OFF_PASS` (R273): A channel's minimum off-time passes and its bank rechecks candidates. -/
def execMinOffPass (n : Fin 24) (s : State) : Host.Outcome State Fault Refusal :=
  .next (s.runOn fun s => s.minOffEnd n)

/-- `DEFER_EXPIRY` (R271): A waiting event that can no longer be admitted by its latest permitted start is rejected with cause DEFER or
MIN_OFF. -/
def execDeferExpiry (n : Fin 24) (s : State) : Host.Outcome State Fault Refusal :=
  .next (s.runOn fun s => s.deferEnd n)

/-- `BOOST_READY` (R275): A rail becoming ready starts a BOOST_PEAK phase that waits for it. -/
def execBoostReady (x : Fin 2) (v : Nat) (s : State) : Host.Outcome State Fault Refusal :=
  .next (s.runOn fun s => s.railVolt x v)

/-- `BOOST_WAIT_EXPIRY` (R275): A rail still not ready after BOOST_WAIT makes the phase run as BAT_PEAK or skip under BNR_SKIP. -/
def execBoostWaitExpiry (n : Fin 24) (s : State) : Host.Outcome State Fault Refusal :=
  .next (s.runOn fun s => s.boostWaitEnd n)

/-- `COIL_SHORT` (R278): A peak reached too soon or a shunt sample over 42 A ends the channel's drive within 1 µs and latches it. -/
def execCoilShort (n : Fin 24) (s : State) : Host.Outcome State Fault Refusal :=
  .next (s.runOn fun s => s.coilShort n)

/-- `COIL_SHORT_RELEASE` (R278): INJ_CH_CMD.CLR or 2200:04 value 2 releases a channel's short latch once no event runs. -/
def execCoilShortRelease (via : Via) (n : Fin 24) (s : State) : Host.Outcome State Fault Refusal :=
  .next (s.run fun s => s.viaWord via .INJ_CH_CMD n (2 ^ 29) (0x2200 + n) 4 2)

/-- `HSB_SHORT` (R279): high-side current over 55 A for 1 µs turns both paths off, ends every event of the bank and latches it. -/
def execHsbShort (b : Fin 6) (s : State) : Host.Outcome State Fault Refusal :=
  .next (s.runOn fun s => s.hsbShort b)

/-- `HSB_SHORT_CLEAR` (R279): A write of 1 to INJ_BANK_STAT.CLR, or 2220:07, clears a bank's HSB_SHORT latch. -/
def execHsbShortClear (via : Via) (b : Fin 6) (s : State) : Host.Outcome State Fault Refusal :=
  .next (s.run fun s => s.viaWord via .INJ_BANK_STAT b (2 ^ 31) (0x2220 + b) 7 1)

/-- `INJ_REENABLE` (R286): A write of 1 to INJ_GLB_CTRL.REENABLE leaves the INJ safe state unless its cause persists. -/
def execInjReenable (a : Acc) (s : State) : Host.Outcome State Fault Refusal :=
  .next (s.run fun s => s.busPut a .INJ_GLB_CTRL 0 1)

/-- `EVENT_COMMAND` (R296): A write of 1 to EVE_CMD.GO issues a direct event, accepted or refused with a status in EVE_CMD_RES. -/
def execEventCommand (a : Acc) (asap : Bool) (s : State) : Host.Outcome State Fault Refusal :=
  .next (s.run fun s => s.busPut a .EVE_CMD 0 (2 ^ 31 + if asap then 2 ^ 29 else 0))

/-- `EVENT_ABORT` (R304): EVE_CMD.ABORT or 2300:11 aborts the named handle according to its state. -/
def execEventAbort (via : Via) (handle : Fin 65536) (s : State) : Host.Outcome State Fault Refusal :=
  .next (s.run fun s => s.viaWord via .EVE_CMD 0 (handle + 2 ^ 30) 0x2300 0x11 handle)

/-- `EVENT_ABORT_ALL` (R304): EVE_CMD.ABORT_ALL or 2300:11 value 0xFFFF aborts every entry of the store. -/
def execEventAbortAll (via : Via) (s : State) : Host.Outcome State Fault Refusal :=
  .next (s.run fun s => s.viaWord via .EVE_CMD 0 (2 ^ 28) 0x2300 0x11 0xFFFF)

/-- `EVENT_COMMIT` (R299): an event commits at the first TIDE cycle within HORIZON of its start. -/
def execEventCommit (i : Nat) (s : State) : Host.Outcome State Fault Refusal :=
  .next (s.runOn fun s => s.commitAt i)

/-- `EVENT_DELIVER` (R303): at its start an event is delivered to its channel as a switch drive or valve candidate, or suppressed. -/
def execEventDeliver (i : Nat) (s : State) : Host.Outcome State Fault Refusal :=
  .next (s.runOn fun s => s.deliverAt i)

/-- `SWITCH_EVENT_END` (R303): A switch event's duration runs out and the output returns to the layer that governs it without the event. -/
def execSwitchEventEnd (n : Fin 64) (s : State) : Host.Outcome State Fault Refusal :=
  .next (s.runOn fun s => s.switchEnd n)

/-- `EVENT_REENABLE` (R306): A write of 1 to EVE_CTRL.REENABLE leaves the EVE safe state. -/
def execEventReenable (a : Acc) (s : State) : Host.Outcome State Fault Refusal :=
  .next (s.run fun s => s.busField a F.EVE_CTRL_REENABLE 0 1)

/-- `STREAM_RECORD` (R315): A prescription record written to a stream is appended, superseding later records, or refused on a full buffer. -/
def execStreamRecord (via : Via) (t : Fin 8) (rec : Nat) (s : State) : Host.Outcome State Fault Refusal :=
  .next (s.run fun s => s.viaPair via .EVE_ST_RECLO t rec (0x2301 + t) 8)

/-- `RECORD_EXPANSION` (R312): A stream expands its oldest record into events once speed and run-ahead permit and the store has room. -/
def execRecordExpansion (t : Fin 8) (s : State) : Host.Outcome State Fault Refusal :=
  .next (s.runOn fun s => s.expandRecord t)

/-- `SPEED_ESTIMATE_UPDATE` (R313): every 1 ms a stream updates its odometer and speed estimate and re-times its speculative events. -/
def execSpeedEstimateUpdate (t : Fin 8) (s : State) : Host.Outcome State Fault Refusal :=
  .next (s.runOn fun s => s.speedUpdate t)

/-- `SPEED_LOSS` (R308): no speed message or write for TIMEOUT raises SPEED_LOSS, sets v to 0 and halts the stream. -/
def execSpeedLoss (t : Fin 8) (s : State) : Host.Outcome State Fault Refusal :=
  .next (s.runOn fun s => s.speedLoss t)

/-- `HOST_SPEED` (R307): A write to EVE_ST_SPEED or 2301:09 sets the host speed of a stream with SRC 2. -/
def execHostSpeed (via : Via) (t : Fin 8) (v : Nat) (s : State) : Host.Outcome State Fault Refusal :=
  .next (s.run fun s => s.viaWord via .EVE_ST_SPEED t v (0x2301 + t) 9 v)

/-- `ODOMETER_SET` (R307): A write to EVE_ST_ODO or 2301:0A sets the stream odometer at the instant it is taken. -/
def execOdometerSet (via : Via) (t : Fin 8) (mm : Nat) (s : State) : Host.Outcome State Fault Refusal :=
  .next (s.run fun s => s.viaWord via .EVE_ST_ODO t mm (0x2301 + t) 0x0A mm)

/-- `STREAM_CLOSE` (R317): writing 0 to OPEN closes a stream, retracting speculative events and discarding records. -/
def execStreamClose (via : Via) (t : Fin 8) (s : State) : Host.Outcome State Fault Refusal :=
  .next (s.run fun s => s.viaField via F.EVE_ST_CTRL_OPEN t 0 (0x2301 + t) 1 0)

/-- `BOOST_PWR_LIMIT_END` (R255): A boost's input-current or power limit stops acting, so charging resumes, PLIM clears and BOOST_PWR_LIMIT
ends. -/
def execBoostPwrLimitEnd (x : Fin 2) (p cur v : Nat) (s : State) : Host.Outcome State Fault Refusal :=
  .next (s.runOn fun s => s.boostLimitEnd x p cur v)

end Sys2Proof.Machine
end

