-- ==== Sys2Proof/Machine/Dispatch.lean ====
section
/-! DEFINITION. The dispatch: one arm per command, each one direct call of its meaning. -/

namespace Sys2Proof.Machine

def exec (i : Instr) (s : State) : Host.Outcome State Fault Refusal :=
  match i with
  | .clkDomainLoss d dev still => Sys2Proof.Machine.execClkDomainLoss d dev still s
  | .clkRefLoss dev still => Sys2Proof.Machine.execClkRefLoss dev still s
  | .weltOvf w blk => Sys2Proof.Machine.execWeltOvf w blk s
  | .compareMismatch p => Sys2Proof.Machine.execCompareMismatch p s
  | .pairRestartComplete p => Sys2Proof.Machine.execPairRestartComplete p s
  | .overloadEntry p load => Sys2Proof.Machine.execOverloadEntry p load s
  | .overloadExit p load => Sys2Proof.Machine.execOverloadExit p load s
  | .overloadRequestTimeout c x y waited => Sys2Proof.Machine.execOverloadRequestTimeout c x y waited s
  | .journalForcedFlush => Sys2Proof.Machine.execJournalForcedFlush s
  | .entryVisible held => Sys2Proof.Machine.execEntryVisible held s
  | .registerWrite a addr w v => Sys2Proof.Machine.execRegisterWrite a addr w v s
  | .atomicPairAccess a addr wr => Sys2Proof.Machine.execAtomicPairAccess a addr wr s
  | .eyeletWrite a addr w v => Sys2Proof.Machine.execEyeletWrite a addr w v s
  | .stallTimeout a addr wr applied => Sys2Proof.Machine.execStallTimeout a addr wr applied s
  | .scrubberVisit flips => Sys2Proof.Machine.execScrubberVisit flips s
  | .blockReenable via blk => Sys2Proof.Machine.execBlockReenable via blk s
  | .guardViolClr a => Sys2Proof.Machine.execGuardViolClr a s
  | .berrCountClr a => Sys2Proof.Machine.execBerrCountClr a s
  | .hrpRead b => Sys2Proof.Machine.execHrpRead b s
  | .hrpWrite b => Sys2Proof.Machine.execHrpWrite b s
  | .hrpStatus b => Sys2Proof.Machine.execHrpStatus b s
  | .sessOpen b => Sys2Proof.Machine.execSessOpen b s
  | .sessAuth b => Sys2Proof.Machine.execSessAuth b s
  | .sessClose b => Sys2Proof.Machine.execSessClose b s
  | .hrpFrameError b cut => Sys2Proof.Machine.execHrpFrameError b cut s
  | .hrpSessionTimeout => Sys2Proof.Machine.execHrpSessionTimeout s
  | .hrpLockoutEnd => Sys2Proof.Machine.execHrpLockoutEnd s
  | .plateHot t1 t2 => Sys2Proof.Machine.execPlateHot t1 t2 s
  | .plateLimit t1 t2 => Sys2Proof.Machine.execPlateLimit t1 t2 s
  | .plateSensor t1 t2 => Sys2Proof.Machine.execPlateSensor t1 t2 s
  | .powerOnReset slot keep aon boot => Sys2Proof.Machine.execPowerOnReset slot keep aon boot s
  | .moduleReset cause boot => Sys2Proof.Machine.execModuleReset cause boot s
  | .bootComplete => Sys2Proof.Machine.execBootComplete s
  | .prechgMate => Sys2Proof.Machine.execPrechgMate s
  | .feedProbe f bus prechg sag => Sys2Proof.Machine.execFeedProbe f bus prechg sag s
  | .berthHardMate f => Sys2Proof.Machine.execBerthHardMate f s
  | .berthSlotChange raw => Sys2Proof.Machine.execBerthSlotChange raw s
  | .railAdv b => Sys2Proof.Machine.execRailAdv b s
  | .modReport => Sys2Proof.Machine.execModReport s
  | .berthLinkLoss => Sys2Proof.Machine.execBerthLinkLoss s
  | .capacityRaise f => Sys2Proof.Machine.execCapacityRaise f s
  | .berthExtract boot => Sys2Proof.Machine.execBerthExtract boot s
  | .rampCompare a b c d => Sys2Proof.Machine.execRampCompare a b c d s
  | .extractionEntryCommit => Sys2Proof.Machine.execExtractionEntryCommit s
  | .berthExtractAbort => Sys2Proof.Machine.execBerthExtractAbort s
  | .modeRequestDormant via key => Sys2Proof.Machine.execModeRequestDormant via key s
  | .modeRequestBoot via key => Sys2Proof.Machine.execModeRequestBoot via key s
  | .modeRequestConfigure via key => Sys2Proof.Machine.execModeRequestConfigure via key s
  | .modeRequestOperate via key => Sys2Proof.Machine.execModeRequestOperate via key s
  | .modeRequestService via key => Sys2Proof.Machine.execModeRequestService via key s
  | .modeRequestRecovery via key => Sys2Proof.Machine.execModeRequestRecovery via key s
  | .limpRetry => Sys2Proof.Machine.execLimpRetry s
  | .sleepCommit => Sys2Proof.Machine.execSleepCommit s
  | .sleepSequenceDone => Sys2Proof.Machine.execSleepSequenceDone s
  | .wake cause idx also boot => Sys2Proof.Machine.execWake cause idx also boot s
  | .feedPresent f v => Sys2Proof.Machine.execFeedPresent f v s
  | .supplyDip f v => Sys2Proof.Machine.execSupplyDip f v s
  | .feedAbsent f v => Sys2Proof.Machine.execFeedAbsent f v s
  | .feedOvervolt f v => Sys2Proof.Machine.execFeedOvervolt f v s
  | .restoreBegin f v => Sys2Proof.Machine.execRestoreBegin f v s
  | .restoreStep f => Sys2Proof.Machine.execRestoreStep f s
  | .vlogLow keep => Sys2Proof.Machine.execVlogLow keep s
  | .deferredWriteStart keep => Sys2Proof.Machine.execDeferredWriteStart keep s
  | .storeReplyTimeout c => Sys2Proof.Machine.execStoreReplyTimeout c s
  | .supplyLoss vsrc => Sys2Proof.Machine.execSupplyLoss vsrc s
  | .holdupEnd aon boot => Sys2Proof.Machine.execHoldupEnd aon boot s
  | .vminClr via => Sys2Proof.Machine.execVminClr via s
  | .swOutWrite via n duty v => Sys2Proof.Machine.execSwOutWrite via n duty v s
  | .pwmPeriodStart n v a b => Sys2Proof.Machine.execPwmPeriodStart n v a b s
  | .inrushEnd n => Sys2Proof.Machine.execInrushEnd n s
  | .groupCommand via mode duty => Sys2Proof.Machine.execGroupCommand via mode duty s
  | .groupTurnOn n => Sys2Proof.Machine.execGroupTurnOn n s
  | .pairWrite via v => Sys2Proof.Machine.execPairWrite via v s
  | .pairImbalance n a b => Sys2Proof.Machine.execPairImbalance n a b s
  | .peakClr via n => Sys2Proof.Machine.execPeakClr via n s
  | .fastTrip n cur => Sys2Proof.Machine.execFastTrip n cur s
  | .l1Trip n tj => Sys2Proof.Machine.execL1Trip n tj s
  | .l1Restart n tj tj2 => Sys2Proof.Machine.execL1Restart n tj tj2 s
  | .l2Ceiling n tj => Sys2Proof.Machine.execL2Ceiling n tj s
  | .wireModelStep meas => Sys2Proof.Machine.execWireModelStep meas s
  | .feedLimiterUpdate f aux => Sys2Proof.Machine.execFeedLimiterUpdate f aux s
  | .limiterHoldoffEnd f => Sys2Proof.Machine.execLimiterHoldoffEnd f s
  | .feedLimiterRestore f => Sys2Proof.Machine.execFeedLimiterRestore f s
  | .sagBegin f mean v clear => Sys2Proof.Machine.execSagBegin f mean v clear s
  | .sagEnd f v => Sys2Proof.Machine.execSagEnd f v s
  | .protClear via n => Sys2Proof.Machine.execProtClear via n s
  | .feedLimiterClear via f => Sys2Proof.Machine.execFeedLimiterClear via f s
  | .autoClear n => Sys2Proof.Machine.execAutoClear n s
  | .calRefFail ppm held => Sys2Proof.Machine.execCalRefFail ppm held s
  | .calRefOk ppm held => Sys2Proof.Machine.execCalRefOk ppm held s
  | .calWindowStart n => Sys2Proof.Machine.execCalWindowStart n s
  | .calWindowEnd n a b => Sys2Proof.Machine.execCalWindowEnd n a b s
  | .calRevert via => Sys2Proof.Machine.execCalRevert via s
  | .calReenable via => Sys2Proof.Machine.execCalReenable via s
  | .boostSenseCal x gain off => Sys2Proof.Machine.execBoostSenseCal x gain off s
  | .diThresholdCheck g onV offV => Sys2Proof.Machine.execDiThresholdCheck g onV offV s
  | .pullupApply n => Sys2Proof.Machine.execPullupApply n s
  | .openLoadOff n vout => Sys2Proof.Machine.execOpenLoadOff n vout s
  | .shortToFeed n vout => Sys2Proof.Machine.execShortToFeed n vout s
  | .openLoadOn n => Sys2Proof.Machine.execOpenLoadOn n s
  | .boostPwrLimit x p cur v => Sys2Proof.Machine.execBoostPwrLimit x p cur v s
  | .boostOvervolt x v => Sys2Proof.Machine.execBoostOvervolt x v s
  | .boostOvClear via x => Sys2Proof.Machine.execBoostOvClear via x s
  | .boostStartFail x => Sys2Proof.Machine.execBoostStartFail x s
  | .lastWrite via l k v => Sys2Proof.Machine.execLastWrite via l k v s
  | .directCommand via n last dur => Sys2Proof.Machine.execDirectCommand via n last dur s
  | .injAbort via n => Sys2Proof.Machine.execInjAbort via n s
  | .phaseEnd n reached sh => Sys2Proof.Machine.execPhaseEnd n reached sh s
  | .commandEnd n sh => Sys2Proof.Machine.execCommandEnd n sh s
  | .valveEventEnd n x => Sys2Proof.Machine.execValveEventEnd n x s
  | .minOffPass n => Sys2Proof.Machine.execMinOffPass n s
  | .deferExpiry n => Sys2Proof.Machine.execDeferExpiry n s
  | .boostReady x v => Sys2Proof.Machine.execBoostReady x v s
  | .boostWaitExpiry n => Sys2Proof.Machine.execBoostWaitExpiry n s
  | .coilShort n => Sys2Proof.Machine.execCoilShort n s
  | .coilShortRelease via n => Sys2Proof.Machine.execCoilShortRelease via n s
  | .hsbShort b => Sys2Proof.Machine.execHsbShort b s
  | .hsbShortClear via b => Sys2Proof.Machine.execHsbShortClear via b s
  | .injReenable a => Sys2Proof.Machine.execInjReenable a s
  | .eventCommand a asap => Sys2Proof.Machine.execEventCommand a asap s
  | .eventAbort via handle => Sys2Proof.Machine.execEventAbort via handle s
  | .eventAbortAll via => Sys2Proof.Machine.execEventAbortAll via s
  | .eventCommit e => Sys2Proof.Machine.execEventCommit e s
  | .eventDeliver j => Sys2Proof.Machine.execEventDeliver j s
  | .switchEventEnd n => Sys2Proof.Machine.execSwitchEventEnd n s
  | .eventReenable a => Sys2Proof.Machine.execEventReenable a s
  | .streamRecord via t rec => Sys2Proof.Machine.execStreamRecord via t rec s
  | .recordExpansion t => Sys2Proof.Machine.execRecordExpansion t s
  | .speedEstimateUpdate t => Sys2Proof.Machine.execSpeedEstimateUpdate t s
  | .speedLoss t => Sys2Proof.Machine.execSpeedLoss t s
  | .hostSpeed via t v => Sys2Proof.Machine.execHostSpeed via t v s
  | .odometerSet via t mm => Sys2Proof.Machine.execOdometerSet via t mm s
  | .streamClose via t => Sys2Proof.Machine.execStreamClose via t s
  | .ledOutWrite via n duty v => Sys2Proof.Machine.execLedOutWrite via n duty v s
  | .ledPeriodStart n => Sys2Proof.Machine.execLedPeriodStart n s
  | .fadeStart via n target time => Sys2Proof.Machine.execFadeStart via n target time s
  | .fadeStep n => Sys2Proof.Machine.execFadeStep n s
  | .ledWindow n mv ma ledsup => Sys2Proof.Machine.execLedWindow n mv ma ledsup s
  | .ledShortRelease via n => Sys2Proof.Machine.execLedShortRelease via n s
  | .foldbackUpdate => Sys2Proof.Machine.execFoldbackUpdate s
  | .ledReenable via => Sys2Proof.Machine.execLedReenable via s
  | .diEdge n mv => Sys2Proof.Machine.execDiEdge n mv s
  | .counterEdge k rising => Sys2Proof.Machine.execCounterEdge k rising s
  | .counterClear via k => Sys2Proof.Machine.execCounterClear via k s
  | .frequencyGate k => Sys2Proof.Machine.execFrequencyGate k s
  | .ppsEdge rising ago => Sys2Proof.Machine.execPpsEdge rising ago s
  | .wakeStrobe levels boot => Sys2Proof.Machine.execWakeStrobe levels boot s
  | .doWrite via m v => Sys2Proof.Machine.execDoWrite via m v s
  | .doOverload m => Sys2Proof.Machine.execDoOverload m s
  | .doRetry m => Sys2Proof.Machine.execDoRetry m s
  | .doClear via m => Sys2Proof.Machine.execDoClear via m s
  | .doOpenLoad m => Sys2Proof.Machine.execDoOpenLoad m s
  | .ssupOverload => Sys2Proof.Machine.execSsupOverload s
  | .ssupRetry => Sys2Proof.Machine.execSsupRetry s
  | .auxOverload cur => Sys2Proof.Machine.execAuxOverload cur s
  | .auxShedStep cur => Sys2Proof.Machine.execAuxShedStep cur s
  | .auxReturnStep cur => Sys2Proof.Machine.execAuxReturnStep cur s
  | .auxDown => Sys2Proof.Machine.execAuxDown s
  | .auxUp => Sys2Proof.Machine.execAuxUp s
  | .bollardFeed via t v => Sys2Proof.Machine.execBollardFeed via t v s
  | .bollSilence t => Sys2Proof.Machine.execBollSilence t s
  | .bollHoldExpired => Sys2Proof.Machine.execBollHoldExpired s
  | .reclaim via => Sys2Proof.Machine.execReclaim via s
  | .autoReclaim p => Sys2Proof.Machine.execAutoReclaim p s
  | .bollReenable via => Sys2Proof.Machine.execBollReenable via s
  | .reflexEvaluation => Sys2Proof.Machine.execReflexEvaluation s
  | .reflexLatchClear via k => Sys2Proof.Machine.execReflexLatchClear via k s
  | .canCtrlWrite via p v act => Sys2Proof.Machine.execCanCtrlWrite via p v act s
  | .canFrameReceived p f ago => Sys2Proof.Machine.execCanFrameReceived p f ago s
  | .canFrameError p lec data dom header => Sys2Proof.Machine.execCanFrameError p lec data dom header s
  | .txRequest a p mask => Sys2Proof.Machine.execTxRequest a p mask s
  | .txAbort a p mask busy => Sys2Proof.Machine.execTxAbort a p mask busy s
  | .canFrameSent p ago => Sys2Proof.Machine.execCanFrameSent p ago s
  | .canTxError p lec data collide free => Sys2Proof.Machine.execCanTxError p lec data collide free s
  | .busOffDelayEnd p => Sys2Proof.Machine.execBusOffDelayEnd p s
  | .busOffRecovered p => Sys2Proof.Machine.execBusOffRecovered p s
  | .recover a p => Sys2Proof.Machine.execRecover a p s
  | .detStart a p => Sys2Proof.Machine.execDetStart a p s
  | .detWindowEnd p => Sys2Proof.Machine.execDetWindowEnd p s
  | .rxFifoAck a p n => Sys2Proof.Machine.execRxFifoAck a p n s
  | .ttReferenceSend p => Sys2Proof.Machine.execTtReferenceSend p s
  | .ttTakeover p => Sys2Proof.Machine.execTtTakeover p s
  | .canTtLoss p => Sys2Proof.Machine.execCanTtLoss p s
  | .canSelectiveWake p f boot => Sys2Proof.Machine.execCanSelectiveWake p f boot s
  | .wakeUpPattern p boot => Sys2Proof.Machine.execWakeUpPattern p boot s
  | .canReenable a p => Sys2Proof.Machine.execCanReenable a p s
  | .anResult p adv role nonce => Sys2Proof.Machine.execAnResult p adv role nonce s
  | .anRetry p adv role nonce => Sys2Proof.Machine.execAnRetry p adv role nonce s
  | .anTimeoutExpiry p => Sys2Proof.Machine.execAnTimeoutExpiry p s
  | .ethLinkUp p => Sys2Proof.Machine.execEthLinkUp p s
  | .ethLinkDown p => Sys2Proof.Machine.execEthLinkDown p s
  | .reneg a p => Sys2Proof.Machine.execReneg a p s
  | .ethFrameReceived p frame good ago => Sys2Proof.Machine.execEthFrameReceived p frame good ago s
  | .ethFrameSent p ago => Sys2Proof.Machine.execEthFrameSent p ago s
  | .macAgeOut mac vid => Sys2Proof.Machine.execMacAgeOut mac vid s
  | .macLookup a => Sys2Proof.Machine.execMacLookup a s
  | .macAddStatic a => Sys2Proof.Machine.execMacAddStatic a s
  | .macDelete a => Sys2Proof.Machine.execMacDelete a s
  | .macFlushLearned a => Sys2Proof.Machine.execMacFlushLearned a s
  | .tc10SleepRequest p => Sys2Proof.Machine.execTc10SleepRequest p s
  | .tc10Wake p => Sys2Proof.Machine.execTc10Wake p s
  | .ethReenable a => Sys2Proof.Machine.execEthReenable a s
  | .syncReceived p origin corr ago => Sys2Proof.Machine.execSyncReceived p origin corr ago s
  | .announceReceived p root steps srcId srcPort => Sys2Proof.Machine.execAnnounceReceived p root steps srcId srcPort s
  | .announceSend p => Sys2Proof.Machine.execAnnounceSend p s
  | .syncSend p => Sys2Proof.Machine.execSyncSend p s
  | .pdelayReqSend p => Sys2Proof.Machine.execPdelayReqSend p s
  | .pdelayMessageReceived p m => Sys2Proof.Machine.execPdelayMessageReceived p m s
  | .tideSrcLoss => Sys2Proof.Machine.execTideSrcLoss s
  | .tideHoldLong => Sys2Proof.Machine.execTideHoldLong s
  | .selfValid => Sys2Proof.Machine.execSelfValid s
  | .manualRate via rate => Sys2Proof.Machine.execManualRate via rate s
  | .manualStep via v => Sys2Proof.Machine.execManualStep via v s
  | .manualSet via v => Sys2Proof.Machine.execManualSet via v s
  | .compareFire u => Sys2Proof.Machine.execCompareFire u s
  | .aonPeriodWindow => Sys2Proof.Machine.execAonPeriodWindow s
  | .txb2Load p => Sys2Proof.Machine.execTxb2Load p s
  | .acfFlush r => Sys2Proof.Machine.execAcfFlush r s
  | .backpressureRelease j => Sys2Proof.Machine.execBackpressureRelease j s
  | .gwyBpTimeout j => Sys2Proof.Machine.execGwyBpTimeout j s
  | .ringGetWrite a r v => Sys2Proof.Machine.execRingGetWrite a r v s
  | .ringDisable a r => Sys2Proof.Machine.execRingDisable a r s
  | .quarantineExpiry j => Sys2Proof.Machine.execQuarantineExpiry j s
  | .quarClr via => Sys2Proof.Machine.execQuarClr via s
  | .gwyReenable via => Sys2Proof.Machine.execGwyReenable via s
  | .keepAliveSend g => Sys2Proof.Machine.execKeepAliveSend g s
  | .silenceExpiry g => Sys2Proof.Machine.execSilenceExpiry g s
  | .prepareExpiry g => Sys2Proof.Machine.execPrepareExpiry g s
  | .sleepConfirm g => Sys2Proof.Machine.execSleepConfirm g s
  | .transitionWindowEnd g => Sys2Proof.Machine.execTransitionWindowEnd g s
  | .repeatEnd g => Sys2Proof.Machine.execRepeatEnd g s
  | .needWrite via g v => Sys2Proof.Machine.execNeedWrite via g v s
  | .moduleNeedWrite via v => Sys2Proof.Machine.execModuleNeedWrite via v s
  | .wakeIn level held boot => Sys2Proof.Machine.execWakeIn level held boot s
  | .segmentWake via g => Sys2Proof.Machine.execSegmentWake via g s
  | .segmentPassiveWake g cause => Sys2Proof.Machine.execSegmentPassiveWake g cause s
  | .nmNodeStuck g k => Sys2Proof.Machine.execNmNodeStuck g k s
  | .nodeUnstuck g k => Sys2Proof.Machine.execNodeUnstuck g k s
  | .unstuck via g => Sys2Proof.Machine.execUnstuck via g s
  | .nmOwnStuck g => Sys2Proof.Machine.execNmOwnStuck g s
  | .wakeTimer boot => Sys2Proof.Machine.execWakeTimer boot s
  | .wakeOutPulseEnd => Sys2Proof.Machine.execWakeOutPulseEnd s
  | .sdoInitiateDownload p b => Sys2Proof.Machine.execSdoInitiateDownload p b s
  | .sdoDownloadSegment p b => Sys2Proof.Machine.execSdoDownloadSegment p b s
  | .sdoInitiateUpload p b => Sys2Proof.Machine.execSdoInitiateUpload p b s
  | .sdoUploadSegment p b => Sys2Proof.Machine.execSdoUploadSegment p b s
  | .sdoBlockDownload p b => Sys2Proof.Machine.execSdoBlockDownload p b s
  | .sdoBlockUpload p b => Sys2Proof.Machine.execSdoBlockUpload p b s
  | .sdoAbortReceived p => Sys2Proof.Machine.execSdoAbortReceived p s
  | .sdoTimeout p => Sys2Proof.Machine.execSdoTimeout p s
  | .store c => Sys2Proof.Machine.execStore c s
  | .storeComplete ok => Sys2Proof.Machine.execStoreComplete ok s
  | .restoreDefaults c => Sys2Proof.Machine.execRestoreDefaults c s
  | .sessionNonce c => Sys2Proof.Machine.execSessionNonce c s
  | .sessionAuthentication c b => Sys2Proof.Machine.execSessionAuthentication c b s
  | .sessionClose c => Sys2Proof.Machine.execSessionClose c s
  | .sessionTimeout c => Sys2Proof.Machine.execSessionTimeout c s
  | .authLockoutEnd => Sys2Proof.Machine.execAuthLockoutEnd s
  | .rpdoReceived k b => Sys2Proof.Machine.execRpdoReceived k b s
  | .dictRpdoTimeout k => Sys2Proof.Machine.execDictRpdoTimeout k s
  | .sync p ctr => Sys2Proof.Machine.execSync p ctr s
  | .tpdoTransmit k => Sys2Proof.Machine.execTpdoTransmit k s
  | .txb1Load p => Sys2Proof.Machine.execTxb1Load p s
  | .nmtStart p node => Sys2Proof.Machine.execNmtStart p node s
  | .nmtStop p node => Sys2Proof.Machine.execNmtStop p node s
  | .nmtEnterPreoperational p node => Sys2Proof.Machine.execNmtEnterPreoperational p node s
  | .nmtResetNode p node => Sys2Proof.Machine.execNmtResetNode p node s
  | .nmtResetCommunication p node => Sys2Proof.Machine.execNmtResetCommunication p node s
  | .heartbeat => Sys2Proof.Machine.execHeartbeat s
  | .dictHbLoss j => Sys2Proof.Machine.execDictHbLoss j s
  | .hello peer b => Sys2Proof.Machine.execHello peer b s
  | .openRequest peer b => Sys2Proof.Machine.execOpenRequest peer b s
  | .auth peer b => Sys2Proof.Machine.execAuth peer b s
  | .close peer b => Sys2Proof.Machine.execClose peer b s
  | .read peer b => Sys2Proof.Machine.execRead peer b s
  | .write peer b => Sys2Proof.Machine.execWrite peer b s
  | .bulkRead peer b => Sys2Proof.Machine.execBulkRead peer b s
  | .domainRead peer b => Sys2Proof.Machine.execDomainRead peer b s
  | .domainWrite peer b => Sys2Proof.Machine.execDomainWrite peer b s
  | .arpRequest mac ip target => Sys2Proof.Machine.execArpRequest mac ip target s
  | .icmpEcho mac ip data => Sys2Proof.Machine.execIcmpEcho mac ip data s
  | .registerWindowRead c => Sys2Proof.Machine.execRegisterWindowRead c s
  | .registerWindowWrite c b => Sys2Proof.Machine.execRegisterWindowWrite c b s
  | .challengeCycle x => Sys2Proof.Machine.execChallengeCycle x s
  | .pollNow a x => Sys2Proof.Machine.execPollNow a x s
  | .unlock a => Sys2Proof.Machine.execUnlock a s
  | .uhfReply start b bitmap => Sys2Proof.Machine.execUhfReply start b bitmap s
  | .addressedCycle j rx x => Sys2Proof.Machine.execAddressedCycle j rx x s
  | .idSlottedCycle rx x => Sys2Proof.Machine.execIdSlottedCycle rx x s
  | .accLockoutEnd id => Sys2Proof.Machine.execAccLockoutEnd id s
  | .gateClose g => Sys2Proof.Machine.execGateClose g s
  | .releaseMessage g => Sys2Proof.Machine.execReleaseMessage g s
  | .enrolment c b x => Sys2Proof.Machine.execEnrolment c b x s
  | .accEnrolFail => Sys2Proof.Machine.execAccEnrolFail s
  | .revoke c v => Sys2Proof.Machine.execRevoke c v s
  | .rekey c v => Sys2Proof.Machine.execRekey c v s
  | .zoneLearning c v => Sys2Proof.Machine.execZoneLearning c v s
  | .zoneLearningEnd => Sys2Proof.Machine.execZoneLearningEnd s
  | .watchWakeFrame ma => Sys2Proof.Machine.execWatchWakeFrame ma s
  | .watchReply b after boot => Sys2Proof.Machine.execWatchReply b after boot s
  | .keyRecord c b => Sys2Proof.Machine.execKeyRecord c b s
  | .lifecycleNonce c => Sys2Proof.Machine.execLifecycleNonce c s
  | .lifecycleRequest c b => Sys2Proof.Machine.execLifecycleRequest c b s
  | .debugChallenge => Sys2Proof.Machine.execDebugChallenge s
  | .debugAttach level sig => Sys2Proof.Machine.execDebugAttach level sig s
  | .debugWake boot => Sys2Proof.Machine.execDebugWake boot s
  | .debugDetach => Sys2Proof.Machine.execDebugDetach s
  | .debugPortDisable c => Sys2Proof.Machine.execDebugPortDisable c s
  | .dbgLockoutEnd => Sys2Proof.Machine.execDbgLockoutEnd s
  | .trngRandom a m key len => Sys2Proof.Machine.execTrngRandom a m key len s
  | .sha256 a m key len => Sys2Proof.Machine.execSha256 a m key len s
  | .ecdsaVerify a m key len => Sys2Proof.Machine.execEcdsaVerify a m key len s
  | .hmacSha256 a m key len => Sys2Proof.Machine.execHmacSha256 a m key len s
  | .aesCmac a m key len => Sys2Proof.Machine.execAesCmac a m key len s
  | .aesEncrypt a m key len => Sys2Proof.Machine.execAesEncrypt a m key len s
  | .mailboxDone m => Sys2Proof.Machine.execMailboxDone m s
  | .mailboxRelease a m => Sys2Proof.Machine.execMailboxRelease a m s
  | .custSelftest => Sys2Proof.Machine.execCustSelftest s
  | .parcel c b => Sys2Proof.Machine.execParcel c b s
  | .blockStagingWrite good => Sys2Proof.Machine.execBlockStagingWrite good s
  | .stagingClear via key => Sys2Proof.Machine.execStagingClear via key s
  | .activate via key => Sys2Proof.Machine.execActivate via key s
  | .resolerBlockCopy first second => Sys2Proof.Machine.execResolerBlockCopy first second s
  | .trialConfirm => Sys2Proof.Machine.execTrialConfirm s
  | .recovLow low boot => Sys2Proof.Machine.execRecovLow low boot s
  | .journalFlush => Sys2Proof.Machine.execJournalFlush s
  | .flushCommand via => Sys2Proof.Machine.execFlushCommand via s
  | .flushComplete ok => Sys2Proof.Machine.execFlushComplete ok s
  | .clr1003 via => Sys2Proof.Machine.execClr1003 via s
  | .readWindowLoad a seq => Sys2Proof.Machine.execReadWindowLoad a seq s
  | .faultExpiry => Sys2Proof.Machine.execFaultExpiry s
  | .registerRead a addr w flip => Sys2Proof.Machine.execRegisterRead a addr w flip s
  | .plateLimitClear t1 t2 => Sys2Proof.Machine.execPlateLimitClear t1 t2 s
  | .plateSensorClear t1 t2 => Sys2Proof.Machine.execPlateSensorClear t1 t2 s
  | .keepReturn v => Sys2Proof.Machine.execKeepReturn v s
  | .pairImbalanceClear n a b => Sys2Proof.Machine.execPairImbalanceClear n a b s
  | .openLoadOffClear n => Sys2Proof.Machine.execOpenLoadOffClear n s
  | .shortToFeedClear n => Sys2Proof.Machine.execShortToFeedClear n s
  | .openLoadOnClear n => Sys2Proof.Machine.execOpenLoadOnClear n s
  | .doOpenLoadClear m => Sys2Proof.Machine.execDoOpenLoadClear m s
  | .boostPwrLimitEnd x p cur v => Sys2Proof.Machine.execBoostPwrLimitEnd x p cur v s
  | .calStale n => Sys2Proof.Machine.execCalStale n s
  | .announceReceiptTimeout p => Sys2Proof.Machine.execAnnounceReceiptTimeout p s
  | .pdelayLostResponses p => Sys2Proof.Machine.execPdelayLostResponses p s
  | .tc10SleepResponse p accept => Sys2Proof.Machine.execTc10SleepResponse p accept s

end Sys2Proof.Machine
end

