-- ==== Sys2Proof/Machine/Step.lean ====
section
/-! DEFINITION. The step: the command at the front of the queue, and time while none waits. -/

namespace Sys2Proof.Machine

/-- True time of one step on an empty queue: a cycle of the TIDE clock, 4 ns (R17, R435; assumption log 1). -/
def State.idle (s : State) : State := { s with now := s.now + 4 }

/-- One step: the command at the front of the queue acts on the machine with the queue's rest; with none waiting, time passes. -/
def step (s : State) : Host.Outcome State Fault Refusal :=
  match s.pending with
  | [] => .next s.idle
  | c :: rest => exec c { s with pending := rest }

/-- The command that a word spells, put at the front of the queue: no row of spec/opcode_table.json has bits, so no word spells one. -/
def State.withFetchWord (s : State) (nbits w : Nat) : State :=
  match Sys2Proof.decodeTableWord nbits w with
  | some c => { s with pending := c :: s.pending }
  | none => s

end Sys2Proof.Machine
end

