-- ==== Sys2Proof/Safety.lean ====
section
/-! DEFINITION. What a command that runs leaves, and the properties of the state that every step is to keep: the words in which statements
about the machine are written. -/

namespace Sys2Proof.Machine

/-- Command `c` completes from `s`: `exec` answers a next state, which is what follows every command (`State.finish`: a module reset asked
for, the settings of a mode left or entered) applied to a state `u`, and `u`, the state after the command's own effect, meets `P`.
`State.finish` changes nothing where nothing is due (`State.quiet`). -/
def Completes (c : Instr) (s : State) (P : State → Prop) : Prop :=
  ∃ u, exec c s = .next (State.finish s u) ∧ P u

/-- `u` differs from `s` in no byte of memory and in no register but those of `l`. -/
def State.sameBut (s u : State) (l : List (Reg × Nat)) : Prop :=
  (∀ a, u.byte a = s.byte a) ∧ ∀ r i, (r, i) ∉ l → u.rd r i = s.rd r i

/-- A 32-bit access of master `a` to a register gets through: the module is awake, the master reaches the bus, the address names the
register, and no rule of R46 to R68 stops the access. -/
def State.granted (s : State) (a : Acc) (r : Reg) (i : Nat) (write : Bool := true) : Prop :=
  s.awake = true ∧ (s.who a).mute = false ∧ targetOf (r.addr i) = .reg r i ∧
    s.stop (s.who a) (r.addr i) 4 write (.reg r i) = none ∧ s.ethDark (r, i) = false

/-- What a granted 32-bit write of register `r` leaves, when `f` is the register's own effect and its answer (0 where it is accepted, else
the abort code of its refusal): a low word that the master held for another address is dropped before (R55), a mismatch of an accepted
register ends (R68), and the access is answered. -/
def State.wrote (s : State) (a : Acc) (r : Reg) (i : Nat) (f : State → State × Nat) : State :=
  let y := f (s.dropHeld (s.who a).code (r.addr i))
  ((if y.2 = 0 then y.1.clearMismatch (r, i) else y.1).answer (.ok 0)).1

/-- A datagram of type `type` without a session that is served and that may be executed outside one (R530, R535, R608). -/
def State.nydPlain (s : State) (type : Nat) (b : List Byte) : Bool :=
  s.nydOn && s.nydMine b && byteAt b 1 == type && nydSid b == 0 && s.sessSweep.authUnlock.nydFree type

/-- A datagram of type `type` that is served within the client's session: its SID, its tag, a SEQ above the last accepted one (R534). -/
def State.nydInside (s : State) (peer type : Nat) (b : List Byte) : Bool :=
  s.nydOn && s.nydMine b && byteAt b 1 == type && nydSid b != 0 &&
    match s.sessSweep.authUnlock.sessOf (.nyd peer) with
    | some x => x.sid == nydSid b && decide (x.seq < nydSeq b) &&
        b.drop (b.length - 16) == (hmacSha256 x.ks (b.take (b.length - 16))).take 16
    | none => false

/-- The session of a client has accepted SEQ `q` (R534). -/
def State.seqTaken (s : State) (peer q : Nat) : State :=
  s.setOd { s.od with sess := s.od.sess.map fun y => if y.client = .nyd peer then { y with seq := q, reply := [] } else y }

/-- Nothing follows a command that leads from `s` to `u`: no module reset is asked for, the mode is the same and lawful, the debug level
stands as it is, no end of an extraction ramp or of a calibration window, no change-over of a valve path, no trial time, no deferred write of
NVM and no setting of Recovery is due, and the clock of R499 neither starts nor stops. -/
def State.quiet (s u : State) : Prop :=
  u.mode.reset = none ∧ u.mode' = s.mode' ∧ (u.mode' = 6 → u.serviceOpen = true) ∧ u.dbgMode = u ∧ u.trialWatch = u ∧
    u.sleepOk = u.nm.okSince.isSome ∧ u.rampEnd = u ∧ u.calWatch = u ∧ u.hsFollow = u ∧ u.markStart = u ∧ u.storeStart = u ∧ (u.jnl.flushReq = true → u.flag F.SYS_LOAD_C5_DEFER = true) ∧
    u.mode.rom = false

/-- R143: the module is in Service only while a service session is open or a wake attach of the debug port serves it (R582). -/
def State.serviceLawful (s : State) : Prop :=
  s.mode' = 6 → s.serviceOpen = true ∨ s.cust.dbg.service = true

/-- R583: what the debug port holds of the mode is the present mode, and only the Service of a wake attach is marked as such (R582). -/
def State.debugLawful (s : State) : Prop := s.cust.dbg.mode = s.mode' ∧ (s.cust.dbg.service = true → s.mode' = 6)

/-- A register is laid out: its cell index is one of its card's cells. -/
def Reg.laid (r : Reg) (i : Nat) : Prop := i < r.card.place.n1 * r.card.place.n2

/-- The fields of a register fit it and lie apart (R71). -/
def Fld.fits (f : Fld) : Prop := f.lsb + f.w ≤ 32
def Fld.apart (f g : Fld) : Prop := f.lsb + f.w ≤ g.lsb ∨ g.lsb + g.w ≤ f.lsb

end Sys2Proof.Machine
end

