-- ==== Sys2Proof/Certificates/Slice0/Obligations.lean ====
section
/-! DEFINITION. The statements about the model, for the provers: one per obligation of OBLIGATIONS.json. -/

open Sys2Proof Sys2Proof.Machine

/-- While the module runs, loss of a domain's clock (an input more than 2 % off, 5 % for TIDE, or without an edge for 10 µs, R18) unlocks the domain
  and takes the reaction of the domain table of R17: a warning for PWR, which goes to its RC oscillator (R19), and for AON, the CAN block's safe
  state for CANC, Limp for CORE, FAB, PER and TIDE, the link for an Ethernet port; loss of the reference, judged at 5 %, goes to Limp with PWR on
  its RC oscillator; a welt overflow counts and sends the receiving block to its safe state (R22); a lockstep mismatch restarts the pair under the
  bollard's hold (R23, R24), with PAIR_RESTART_LIMIT index 0 for a third restart within 60 s and index 1 for mismatches of both pairs within 1 ms,
  either of which leads to Limp (R25); a restarted pair that runs again clears its fault. The INDEX of CLK_DOMAIN_LOSS and of the pair faults and
  the edges of the intervals are the model's (logs 95, 96, 97). Completes clkDomainLoss, clkRefLoss, weltOvf, compareMismatch, pairRestartComplete.
  -/
def Obligations.ClocksAndWelts : Prop :=
  (∀ (s : State) (dev : Int) (still : Nat), s.awake = true → s.bit F.CLK_STAT_LOCK 0 5 = true → 20000 < dev.natAbs ∨ 10000 ≤ still → exec
    (.clkDomainLoss .pwr dev still) s = .next (State.finish s (((s.setBit F.CLK_STAT_LOCK 0 5 false).setFlag F.CLK_STAT_PWR_ON_PLL 0 false).raiseC
    .CLK_DOMAIN_LOSS 1 5 [] 0))) ∧
  (∀ (s : State) (dev : Int) (still : Nat), s.awake = true → s.bit F.CLK_STAT_LOCK 0 6 = true → 20000 < dev.natAbs ∨ 10000 ≤ still → exec
    (.clkDomainLoss .aon dev still) s = .next (State.finish s ((s.setBit F.CLK_STAT_LOCK 0 6 false).raiseC .CLK_DOMAIN_LOSS 1 6 [] 0))) ∧
  (∀ (s : State) (dev : Int) (still : Nat), s.awake = true → s.bit F.CLK_STAT_LOCK 0 3 = true → 20000 < dev.natAbs ∨ 10000 ≤ still → exec
    (.clkDomainLoss .canc dev still) s = .next (State.finish s (((s.setBit F.CLK_STAT_LOCK 0 3 false).raiseC .CLK_DOMAIN_LOSS 3 3 [] 0).canSafe))) ∧
  (∀ (s : State) (d : ClkDom) (dev : Int) (still : Nat), d ∈ [ClkDom.core, .fab, .per] → s.awake = true → s.bit F.CLK_STAT_LOCK 0 (clkBit d) = true
    → 20000 < dev.natAbs ∨ 10000 ≤ still → exec (.clkDomainLoss d dev still) s = .next (State.finish s (((s.setBit F.CLK_STAT_LOCK 0 (clkBit d)
    false).raiseC .CLK_DOMAIN_LOSS 4 (clkBit d) [] 0).enterLimp .CLK_DOMAIN_LOSS))) ∧
  (∀ (s : State) (dev : Int) (still : Nat), s.awake = true → s.bit F.CLK_STAT_LOCK 0 4 = true → 50000 < dev.natAbs ∨ 10000 ≤ still → exec
    (.clkDomainLoss .tide dev still) s = .next (State.finish s (((s.setBit F.CLK_STAT_LOCK 0 4 false).raiseC .CLK_DOMAIN_LOSS 4 4 []
    0).tideStop.enterLimp .CLK_DOMAIN_LOSS))) ∧
  (∀ (s : State) (p : Fin 4) (dev : Int) (still : Nat), s.awake = true → s.bit F.CLK_STAT_ETH_LOCK 0 p = true → 20000 < dev.natAbs ∨ 10000 ≤ still →
    exec (.clkDomainLoss (.ethc p) dev still) s = .next (State.finish s ((s.setBit F.CLK_STAT_ETH_LOCK 0 p false).ethDown p))) ∧
  (∀ (s : State) (dev : Int) (still : Nat), s.awake = true → s.bit F.CLK_STAT_LOCK 0 7 = true → 50000 < dev.natAbs ∨ 10000 ≤ still → exec
    (.clkRefLoss dev still) s = .next (State.finish s ((((s.setBit F.CLK_STAT_LOCK 0 7 false).setFlag F.CLK_STAT_PWR_ON_PLL 0 false).raise
    .CLK_REF_LOSS).enterLimp .CLK_REF_LOSS))) ∧
  (∀ (s : State) (w : Fin 28) (blk : Nat), s.awake = true → exec (.weltOvf w blk) s = .next (State.finish s (((((s.setFld F.CLK_WELT_LAST_OVF 0
    w).bump F.CLK_WELT_OVF_COUNT).setFlag F.CLK_WELT_OVF).raise .WELT_OVF w).weltSafe w blk))) ∧
  (∀ (s : State) (recent : List Nat), s.awake = true → recent = (s.now :: s.clk.restarts).filter (fun t => decide (s.now < t + sec 60)) →
    recent.length < 3 → s.clk.bMis.all (fun t => decide (t + ms 1 ≤ s.now)) = true → exec (.compareMismatch .A) s = .next (State.finish s
    (({ (s.raise .LOCKSTEP_A 0) with clk := { s.clk with aDown := some s.now, restarts := recent, aMis := some s.now } } : State).holdStart))) ∧
  (∀ (s : State) (recent : List Nat), s.awake = true → recent = (s.now :: s.clk.restarts).filter (fun t => decide (s.now < t + sec 60)) →
    recent.length < 3 → s.clk.aMis.all (fun t => decide (t + ms 1 ≤ s.now)) = true → exec (.compareMismatch .B) s = .next (State.finish s
    (({ (s.raise .LOCKSTEP_B 1) with clk := { s.clk with bDown := some s.now, restarts := recent, bMis := some s.now } } : State).holdStart))) ∧
  (∀ (s : State) (t : Nat) (recent : List Nat), s.awake = true → recent = (s.now :: s.clk.restarts).filter (fun t => decide (s.now < t + sec 60)) →
    recent.length < 3 → s.clk.bMis = some t → s.now < t + ms 1 → exec (.compareMismatch .A) s = .next (State.finish s
    (((({ (s.raise .LOCKSTEP_A 0) with clk := { s.clk with aDown := some s.now, restarts := recent, aMis := some s.now } } : State).holdStart).raise
    .PAIR_RESTART_LIMIT 1).enterLimp .PAIR_RESTART_LIMIT))) ∧
  (∀ (s : State) (recent : List Nat), s.awake = true → recent = (s.now :: s.clk.restarts).filter (fun t => decide (s.now < t + sec 60)) → 3 ≤
    recent.length → s.clk.aMis.all (fun t => decide (t + ms 1 ≤ s.now)) = true → exec (.compareMismatch .B) s = .next (State.finish s
    (((({ (s.raise .LOCKSTEP_B 1) with clk := { s.clk with bDown := some s.now, restarts := recent, bMis := some s.now } } : State).holdStart).raise
    .PAIR_RESTART_LIMIT 0).enterLimp .PAIR_RESTART_LIMIT))) ∧
  (∀ (s : State) (t : Nat) (recent : List Nat), s.awake = true → recent = (s.now :: s.clk.restarts).filter (fun t => decide (s.now < t + sec 60)) →
    3 ≤ recent.length → s.clk.bMis = some t → s.now < t + ms 1 → exec (.compareMismatch .A) s = .next (State.finish s
    ((((({ (s.raise .LOCKSTEP_A 0) with clk := { s.clk with aDown := some s.now, restarts := recent, aMis := some s.now } } :
    State).holdStart).raise .PAIR_RESTART_LIMIT 0).raise .PAIR_RESTART_LIMIT 1).enterLimp .PAIR_RESTART_LIMIT))) ∧
  (∀ (s : State) (t : Nat), s.awake = true → s.clk.bDown = some t → exec (.pairRestartComplete .B) s = .next (State.finish s
    (({ s with clk := { s.clk with bDown := none } } : State).clearFault .LOCKSTEP_B 1))) ∧
  (∀ (s : State) (t : Nat), s.awake = true → s.clk.aDown = some t → s.mode' = 5 → exec (.pairRestartComplete .A) s = .next (State.finish s
    (({ s with clk := { s.clk with aDown := none } } : State).clearFault .LOCKSTEP_A 0))) ∧
  (∀ (s : State) (t : Nat), s.awake = true → s.clk.aDown = some t → s.mode' ≠ 5 → exec (.pairRestartComplete .A) s = .next (State.finish s
    ((({ s with clk := { s.clk with aDown := none } } : State).clearFault .LOCKSTEP_A 0).lateEnds)))

/-- A load of 90 % or more puts a pair into overload, which for pair A defers C5 and C6 (R28, R29); a load below 75 % ends it 500 ms after the last
  load of 75 % or more; an SDO request that pair A has left unserved under overload is aborted at 50 ms and a Nydulet request is answered with the
  same code (R30); the forced flush of R31 begins 2 s after the deferral began. The pair number in INDEX is the model's (log 96). Completes
  overloadEntry, overloadExit, overloadRequestTimeout, journalForcedFlush. -/
def Obligations.Load : Prop :=
  (∀ (s : State) (load : Nat), s.awake = true → 90 ≤ load → s.flag F.SYS_LOAD_OVL_B = false → exec (.overloadEntry .B load) s = .next (State.finish
    s (((s.loadSeen .B load).setFlag F.SYS_LOAD_OVL_B).raise .OVERLOAD_B 1))) ∧
  (∀ (s : State) (load : Nat), s.awake = true → 90 ≤ load → s.flag F.SYS_LOAD_OVL_A = false → Completes (.overloadEntry .A load) s fun u => u.flag
    F.SYS_LOAD_OVL_A = true ∧ u.flag F.SYS_LOAD_C5_DEFER = true ∧ u.flag F.SYS_LOAD_C6_DEFER = true ∧ u.jnl.deferSince = some s.now ∧ s.sameBut u
    [(.SYS_LOAD, 0)]) ∧
  (∀ (s : State) (load : Nat), s.awake = true → load < 75 → s.flag F.SYS_LOAD_OVL_B = true → exec (.overloadExit .B load) s = .next (State.finish s
    (((s.setFld F.SYS_LOAD_LOAD_B 0 (Nat.min load 100)).advanceTo ((lookup 1 s.clk.highAt).getD s.now + ms 500)).setFlag F.SYS_LOAD_OVL_B 0 false))) ∧
  (∀ (s : State) (load : Nat), s.awake = true → load < 75 → s.flag F.SYS_LOAD_OVL_A = true → Completes (.overloadExit .A load) s fun u => u.flag
    F.SYS_LOAD_OVL_A = false ∧ u.flag F.SYS_LOAD_C5_DEFER = false ∧ u.flag F.SYS_LOAD_C6_DEFER = false ∧ u.jnl.deferSince = none ∧ u.now = Nat.max
    s.now ((lookup 0 s.clk.highAt).getD s.now + ms 500) ∧ s.sameBut u [(.SYS_LOAD, 0)]) ∧
  (∀ (s : State) (p : Fin 8) (x y waited : Nat), s.awake = true → s.flag F.SYS_LOAD_OVL_A = true → s.dictServed = true → s.sdoOn p = true → s.xferOf
    p = none → exec (.overloadRequestTimeout (.sdo p) x y waited) s = .next (State.finish s ((s.advanceTo (s.now - waited + ms 50)).sdoAbort p x y
    0x08000022))) ∧
  (∀ (s : State) (p : Fin 8) (x y waited : Nat) (t : Xfer), s.awake = true → s.flag F.SYS_LOAD_OVL_A = true → s.dictServed = true → s.sdoOn p = true
    → s.xferOf p = some t → exec (.overloadRequestTimeout (.sdo p) x y waited) s = .next (State.finish s ((s.advanceTo (s.now - waited + ms
    50)).sdoAbort p t.idx t.sub 0x08000022))) ∧
  (∀ (s : State) (peer x y waited : Nat), s.awake = true → s.flag F.SYS_LOAD_OVL_A = true → s.dictServed = true → s.sessOf (.nyd peer) = none → exec
    (.overloadRequestTimeout (.nyd peer) x y waited) s = .next (State.finish s ((s.advanceTo (s.now - waited + ms 50)).nydReply peer x 0 y 1
    (leBytes 4 0x08000022)))) ∧
  (∀ (s : State) (peer x y waited : Nat) (t : Sess), s.awake = true → s.flag F.SYS_LOAD_OVL_A = true → s.dictServed = true → s.sessOf (.nyd peer) =
    some t → exec (.overloadRequestTimeout (.nyd peer) x y waited) s = .next (State.finish s ((s.advanceTo (s.now - waited + ms 50)).nydReply peer x
    t.sid y 1 (leBytes 4 0x08000022)))) ∧
  (∀ (s : State) (t : Nat), s.awake = true → s.jnl.deferSince = some t → exec (.journalForcedFlush) s = .next (State.finish s
    (({ s with now := Nat.max s.now (t + sec 2), jnl := { s.jnl with deferSince := some (Nat.max s.now (t + sec 2)) } } : State).beginFlush 64)))

/-- TP above 85 °C raises PLATE_HOT once, below 82 °C clears it; at 100 °C and above PLATE_LIMIT is raised once and INJ and LEDS go to their safe
  states, and below 90 °C it is cleared while they stay safe; sensors that differ by more than 5 K raise PLATE_SENSOR with index 0, a bad one with
  index 1 or 2, and valid ones that agree clear it. Every plate reading also feeds the PLATE_HOT rule. Completes plateHot, plateLimit,
  plateLimitClear, plateSensor, plateSensorClear. -/
def Obligations.Plate : Prop :=
  (∀ (s : State) (t1 t2 : Sens), s.awake = true → 85 * 1024 < ({ s with plate := ⟨t1, t2⟩ } : State).tp → s.active .PLATE_HOT = false → exec
    (.plateHot t1 t2) s = .next (State.finish s (({ s with plate := ⟨t1, t2⟩ } : State).raise .PLATE_HOT))) ∧
  (∀ (s : State) (t1 t2 : Sens), s.awake = true → ({ s with plate := ⟨t1, t2⟩ } : State).tp < 82 * 1024 → exec (.plateHot t1 t2) s = .next
    (State.finish s (({ s with plate := ⟨t1, t2⟩ } : State).clearFault .PLATE_HOT))) ∧
  (∀ (s : State) (t1 t2 : Sens), s.awake = true → 100 * 1024 ≤ ({ s with plate := ⟨t1, t2⟩ } : State).tp → s.active .PLATE_LIMIT = false → exec
    (.plateLimit t1 t2) s = .next (State.finish s ((((s.plateHot t1 t2).raise .PLATE_LIMIT).injSafe).ledsSafe))) ∧
  (∀ (s : State) (t1 t2 : Sens), s.awake = true → ({ s with plate := ⟨t1, t2⟩ } : State).tp < 90 * 1024 → exec (.plateLimitClear t1 t2) s = .next
    (State.finish s ((s.plateHot t1 t2).clearFault .PLATE_LIMIT))) ∧
  (∀ (s : State) (a b : Int), s.awake = true → 5 * 1024 < (a - b).natAbs → exec (.plateSensor (.val a) (.val b)) s = .next (State.finish s
    ((s.plateHot (.val a) (.val b)).raise .PLATE_SENSOR 0))) ∧
  (∀ (s : State) (b : Int) (t : Sens), s.awake = true → t = .opn ∨ t = .short → exec (.plateSensor t (.val b)) s = .next (State.finish s
    ((s.plateHot t (.val b)).raise .PLATE_SENSOR 1))) ∧
  (∀ (s : State) (a : Int) (t : Sens), s.awake = true → t = .opn ∨ t = .short → exec (.plateSensor (.val a) t) s = .next (State.finish s
    ((s.plateHot (.val a) t).raise .PLATE_SENSOR 2))) ∧
  (∀ (s : State) (a b : Int), s.awake = true → (a - b).natAbs ≤ 5 * 1024 → exec (.plateSensorClear (.val a) (.val b)) s = .next (State.finish s
    ((((s.plateHot (.val a) (.val b)).clearFault .PLATE_SENSOR 0).clearFault .PLATE_SENSOR 1).clearFault .PLATE_SENSOR 2)))

/-- A 32-bit write by a privileged master at an aligned address of general RAM puts the word's four bytes there, least significant byte at the
  lowest address, and leaves every other byte of memory and every register as it was. Completes registerWrite. -/
def Obligations.BusWriteOfRam : Prop :=
  ∀ (s : State) (a : Acc) (k v : Nat) (j : Fin 4), s.awake = true → (s.who a).mute = false → 1 ≤ (s.who a).rank → (s.who a).ro = false → k <
    0x100000 → Completes (.registerWrite a (0x20000000 + 4 * k) .b32 v) s fun u => u.byte (0x20000000 + 4 * k + j) = BitVec.ofNat 8 (v / 256 ^
    j.val) ∧ (∀ x, (x < 0x20000000 + 4 * k ∨ 0x20000004 + 4 * k ≤ x) → u.byte x = s.byte x) ∧ u.regs = s.regs

/-- A granted write reaches the register; a granted read answers with what the register reads as; a write of the low half of a 64-bit pair is held
  in the master's shadow and changes no register; a write to an eyelet writes the one bit of its parent; a stalled access ends in a bus error of
  cause 3; the scrubber finds the mismatches that nothing has found. Completes registerWrite, registerRead, atomicPairAccess, eyeletWrite,
  stallTimeout, scrubberVisit, blockReenable, guardViolClr, berrCountClr. -/
def Obligations.BusAccesses : Prop :=
  (∀ (s : State) (a : Acc) (r : Reg) (i v : Nat), s.granted a r (i) → routeReg r = false → atomicHigh r = none → atomicLow r = none → exec
    (.registerWrite a (r.addr i) .b32 v) s = .next (State.finish s (s.wrote a r (i) fun s => s.put (s.who a).code r i (BitVec.ofNat 32 v)
    0xFFFFFFFF))) ∧
  (∀ (s : State) (a : Acc) (r : Reg) (i : Nat), s.granted a r i false → r.card.cfg = false → atomicHigh r = none → (s.shadow (s.who a).code).rd =
    none → Completes (.registerRead a (r.addr i) .b32 none) s fun u => u.bus.answer = .ok (s.view r i).toNat ∧ s.sameBut u []) ∧
  (∀ (s : State) (a : Acc) (r h : Reg) (i v : Nat), s.granted a r (i) → atomicHigh r = some h → routeReg r = false → Completes (.atomicPairAccess a
    (r.addr i) (some v)) s fun u => (u.shadow (s.who a).code).wr = some ((r, i), (BitVec.ofNat 32 v).toNat) ∧ s.sameBut u []) ∧
  (∀ (s : State) (a : Acc) (addr b : Nat) (r : Reg) (i v : Nat), s.awake = true → (s.who a).mute = false → targetOf addr = .eye b (some (r, i)) →
    addr % 4 = 0 → s.stop (s.who a) addr 4 true (.eye b (some (r, i))) = none → s.ethDark (r, i) = false → exec (.eyeletWrite a addr .b32 v) s =
    .next (State.finish s ((((s.dropHeld (s.who a).code addr).writeReg (s.who a).code (r, i) (if v % 2 = 1 then BitVec.ofNat 32 (2 ^ b) else 0)
    (BitVec.ofNat 32 (2 ^ b)) false).answer (.ok 0)).1))) ∧
  (∀ (s : State) (a : Acc) (addr : Nat) (applied : Bool), (s.who a).mute = false → exec (.stallTimeout a addr none applied) s = .next (State.finish
    s ((s.busError (s.who a) addr false 3).1))) ∧
  (∀ (s : State) (a : Acc) (addr v : Nat), (s.who a).mute = false → exec (.stallTimeout a addr (some v) false) s = .next (State.finish s
    ((s.busError (s.who a) addr true 3).1))) ∧
  (∀ (s : State) (l : List (Nat × Fin 32)) (v : State), v = s.flips l → v.awake = true → exec (.scrubberVisit l) s = .next (State.finish s (v.each
    ((v.bus.par.filter fun e => !e.2).map (·.1)) fun s k => s.findMismatch k))) ∧
  (∀ (s : State) (l : List (Nat × Fin 32)) (v : State), v = s.flips l → v.awake = false → exec (.scrubberVisit l) s = .next (State.finish s (v))) ∧
  (∀ (s : State) (a : Acc) (blk : Nat), s.granted a .GUARD_REENABLE (0) → ∃ n : Word, exec (.blockReenable (.reg a) blk) s = .next (State.finish s
    (s.wrote a .GUARD_REENABLE (0) fun s => refusedAs 0x08000022 ((s.wr .GUARD_REENABLE 0 n).reenableBlock (blk % 256))))) ∧
  (∀ (s : State) (a : Acc), s.granted a .GUARD_VIOL (0) → Completes (.guardViolClr a) s fun u => u.fld F.GUARD_VIOL_COUNT = 0 ∧ s.sameBut u
    [(.GUARD_VIOL, 0)]) ∧
  (∀ (s : State) (a : Acc), s.granted a .GUARD_BERR_INFO (0) → Completes (.berrCountClr a) s fun u => u.fld F.GUARD_BERR_INFO_COUNT = 0 ∧ s.sameBut
    u [(.GUARD_BERR_INFO, 0)])

/-- A frame of the host register port acts after an idle session and an ended lockout have ended, while the port is enabled (R75 to R83): a READ is
  answered with the words of R78, a WRITE with the words written, a STATUS with the status and done bytes; SESS_OPEN gives a nonce of 16 TRNG bytes,
  SESS_AUTH with the right tag opens the session and clears FAILS, SESS_CLOSE and the idle timeout end it; a bad frame counts in CRC_ERR and takes
  no effect; the lockout ends 60 s after it began. Completes hrpRead, hrpWrite, hrpStatus, sessOpen, sessAuth, sessClose, hrpFrameError,
  hrpSessionTimeout, hrpLockoutEnd. -/
def Obligations.HostPort : Prop :=
  (∀ (s v : State) (b : List Byte) (addr n : Nat), s.hrpOn = true → v = (s.when s.hrpStale State.hrpEnd).hrpUnlock → hrpParse b = .read addr n →
    Completes (.hrpRead b) s fun u => u.bus.hrp.reply = (v.readWords (v.who hostAcc) addr n ([], false, false, 0, 0)).2.1.reverse ∧ u.bus.hrp.lastOk
    = (v.readWords (v.who hostAcc) addr n ([], false, false, 0, 0)).1.now) ∧
  (∀ (s v : State) (b : List Byte) (addr : Nat) (data : List Nat), s.hrpOn = true → v = (s.when s.hrpStale State.hrpEnd).hrpUnlock → hrpParse b =
    .write addr data → Completes (.hrpWrite b) s fun u => u.bus.hrp.reply = [] ∧ u.bus.hrp.done = (v.writeWords (v.who hostAcc) addr data (false,
    false, 0)).2.2.2) ∧
  (∀ (s v : State) (b : List Byte), s.hrpOn = true → v = (s.when s.hrpStale State.hrpEnd).hrpUnlock → hrpParse b = .status → Completes (.hrpStatus
    b) s fun u => u.bus.hrp.reply = [v.bus.hrp.status + 256 * v.bus.hrp.done] ∧ v.sameBut u []) ∧
  (∀ (s v : State) (b : List Byte), s.hrpOn = true → v = (s.when s.hrpStale State.hrpEnd).hrpUnlock → hrpParse b = .openSess → Completes (.sessOpen
    b) s fun u => u.bus.hrp.nonce = some (Config.trng s.free 16, s.now) ∧ u.bus.hrp.reply = leWords 4 (Config.trng s.free 16) ∧ u.bus.hrp.session =
    v.bus.hrp.session ∧ v.sameBut u []) ∧
  (∀ (s v : State) (b tag : List Byte), s.hrpOn = true → v = (s.when s.hrpStale State.hrpEnd).hrpUnlock → hrpParse b = .auth tag →
    v.bus.hrp.lockUntil = none → s.cust.bad.contains 7 = false → v.hrpTagOk tag = true → Completes (.sessAuth b) s fun u => u.bus.hrp.session = true
    ∧ u.bus.hrp.nonce = none ∧ u.fld F.SYS_HRP_STAT_FAILS = 0) ∧
  (∀ (s v : State) (b : List Byte), s.hrpOn = true → v = (s.when s.hrpStale State.hrpEnd).hrpUnlock → hrpParse b = .closeSess → Completes
    (.sessClose b) s fun u => u.bus.hrp.session = false ∧ v.sameBut u []) ∧
  (∀ (s v : State) (b : List Byte) (cut : Bool) (bit : Nat), s.hrpOn = true → v = (s.when s.hrpStale State.hrpEnd).hrpUnlock → cut = true ∨ hrpParse
    b = .bad bit → Completes (.hrpFrameError b cut) s fun u => u.fld F.SYS_HRP_STAT_CRC_ERR = Nat.min (v.fld F.SYS_HRP_STAT_CRC_ERR + 1) 65535 ∧
    u.bus.hrp.session = v.bus.hrp.session ∧ u.bus.hrp.done = 0 ∧ u.bus.hrp.lastOk = v.bus.hrp.lastOk ∧ v.sameBut u [(.SYS_HRP_STAT, 0)]) ∧
  (∀ (s : State), s.bus.hrp.session = true → exec (.hrpSessionTimeout) s = .next (State.finish s ((s.advanceTo (s.bus.hrp.lastOk +
    s.hrpTimeout)).hrpEnd))) ∧
  (∀ (s : State) (t : Nat), s.bus.hrp.lockUntil = some t → Completes (.hrpLockoutEnd) s fun u => u.bus.hrp.lockUntil = none ∧ u.fld
    F.SYS_HRP_STAT_FAILS = 0 ∧ u.active .HRP_AUTH_FAIL 0 = false ∧ s.sameBut u [(.SYS_HRP_STAT, 0)])

/-- The next stamped entry becomes visible 128 µs after its stamp (an entry held back by a fault of the journal path lets younger ones pass, R38,
  R39), and with an empty queue nothing changes; a flush takes up to 64 of the entries that wait, at the latest 1 s after the oldest began to wait;
  a completed one ends, and a failed one raises JNL_NVM_FAIL; CLR_1003 empties 1003; a write to JNL_RD_SEQ loads the window; a fault without
  recovery ends 1 s after its latest raise. Completes entryVisible, journalFlush, flushCommand, flushComplete, clr1003, readWindowLoad, faultExpiry.
  -/
def Obligations.Journal : Prop :=
  (∀ (s : State) (held : Nat), s.jnl.pend = [] → exec (.entryVisible held) s = .next (State.finish s (s))) ∧
  (∀ (s : State) (held k : Nat) (e : Entry) (r : List Entry), k = (if s.pathFault then Nat.min held (s.jnl.pend.length - 1) else 0) →
    s.jnl.pend.drop k = e :: r → exec (.entryVisible held) s = .next (State.finish s (((s.advanceTo (e.born + us 128)).setJnl
    { s.jnl with pend := s.jnl.pend.take k ++ r }).makeVisible e))) ∧
  (∀ (s v : State), s.awake = true → s.jnl.wait ≠ [] → s.flag F.SYS_LOAD_C5_DEFER = false → v = (if s.flushDue then s else s.advanceTo (s.oldestWait
    + sec 1)) → v.mayFlush = true → exec (.journalFlush) s = .next (State.finish s (v.setJnl
    { v.jnl with flushing := v.jnl.wait.take 64, flushReq := false }))) ∧
  (∀ (s : State) (a : Acc), s.granted a .JNL_CMD (0) → exec (.flushCommand (.reg a)) s = .next (State.finish s (s.wrote a .JNL_CMD (0) fun s =>
    (s.flushCommand, 0)))) ∧
  (∀ (s : State), s.awake = true → s.jnl.flushing ≠ [] → exec (.flushComplete false) s = .next (State.finish s ((s.setJnl
    { s.jnl with flushing := [] }).raise .JNL_NVM_FAIL))) ∧
  (∀ (s : State), s.awake = true → s.jnl.flushing ≠ [] → Completes (.flushComplete true) s fun u => u.jnl.flushing = [] ∧ u.active .JNL_NVM_FAIL 0 =
    false ∧ u.jnl.waitSince = s.jnl.waitSince.drop (s.jnl.flushing.filter fun q => s.jnl.wait.contains q).length ∧ s.sameBut u []) ∧
  (∀ (s : State) (a : Acc), s.granted a .JNL_CMD (0) → Completes (.clr1003 (.reg a)) s fun u => u.jnl.err1003 = [] ∧ s.sameBut u []) ∧
  (∀ (s : State) (a : Acc) (q : Nat), s.granted a .JNL_RD_SEQ (0) → ∃ n : Word, exec (.readWindowLoad a q) s = .next (State.finish s (s.wrote a
    .JNL_RD_SEQ (0) fun s => ((s.wr .JNL_RD_SEQ 0 n).readWindow n.toNat, 0)))) ∧
  (∀ (s : State) (x : Active), (s.jnl.active.filter fun a => a.f.recov == [.N]).getLast? = some x → Completes (.faultExpiry) s fun u => u.now =
    Nat.max s.now (x.since + sec 1) ∧ u.active x.f x.idx = false ∧ u.jnl.pend = s.jnl.pend ∧ s.sameBut u [])

/-- A power-on reset starts from the state of a module without power, with its cause in SYS_RST_CAUSE and AON state kept only from a hold-up; a
  module reset empties the controllers, the gateway and the event store and notes its cause; Boot ends in Recovery with RECOV low, in Operate where
  AUTOSTART, a valid set and a feed allow it, else in Configure; outside Boot its end has no effect; the end of a hold-up is a power-on reset.
  Completes powerOnReset, moduleReset, bootComplete, holdupEnd. -/
def Obligations.Resets : Prop :=
  (∀ (s : State) (slot : Fin 64) (keep : Nat) (aon : Bool) (boot : BootIn), Completes (.powerOnReset slot keep aon boot) s fun u => ∃ v : State, u =
    (v.startUp boot true).wireDefault ∧ v.flag F.SYS_RST_CAUSE_POR = true ∧ v.flag F.SYS_RST_CAUSE_HOLDUP = (aon && s.flag F.BERTH_SUP_STAT_HOLDUP)
    ∧ v.mode' = 2 ∧ v.sup.keep = keep ∧ v.pins.slot = slot ∧ v.can = [] ∧ v.eve = {}) ∧
  (∀ (s : State) (cause : ResetCause) (boot : BootIn), s.awake = true → Completes (.moduleReset cause boot) s fun u => ∃ v : State, u = v.startUp
    boot false ∧ v.mode.bootCause = Machine.ResetCause.bit cause ∧ v.mode.reset = none ∧ v.can = [] ∧ v.gwy = {} ∧ v.eve = {}) ∧
  (∀ (s : State), s.mode' ≠ 2 → exec (.bootComplete) s = .next (State.finish s (s))) ∧
  (∀ (s w v : State), w = (if s.mode.started then s else (s.startUp s.bootSame true).wireDefault) → s.mode' = 2 → w.mode' = 2 → w.resoling = false →
    w.mode.holdBoot = false → v =
    { w.bootFaults.journalBoot with mode := { w.bootFaults.journalBoot.mode with bootEndAt := w.bootFaults.journalBoot.now } } → v.pins.recov = true
    → (v.takeTrigger 4).2 = true → exec (.bootComplete) s = .next (State.finish s ((v.takeTrigger 4).1.enterRecovery 2))) ∧
  (∀ (s w v : State), w = (if s.mode.started then s else (s.startUp s.bootSame true).wireDefault) → s.mode' = 2 → w.mode' = 2 → w.resoling = false →
    w.mode.holdBoot = false → v =
    { w.bootFaults.journalBoot with mode := { w.bootFaults.journalBoot.mode with bootEndAt := w.bootFaults.journalBoot.now } } → v.pins.recov =
    false → v.flag F.SYS_CFG_AUTOSTART = false ∨ v.mode.setApplied = false ∨ v.anyFeed = false → exec (.bootComplete) s = .next (State.finish s
    ((v.enterConfigure.bootNm.nmtSend 0).dbgHeld))) ∧
  (∀ (s w v : State), w = (if s.mode.started then s else (s.startUp s.bootSame true).wireDefault) → s.mode' = 2 → w.mode' = 2 → w.resoling = false →
    w.mode.holdBoot = false → v =
    { w.bootFaults.journalBoot with mode := { w.bootFaults.journalBoot.mode with bootEndAt := w.bootFaults.journalBoot.now } } → v.pins.recov =
    false → v.flag F.SYS_CFG_AUTOSTART = true → v.isSafe .sysCfg = false → v.mode.setApplied = true → v.anyFeed = true → v.mode.bootCause ≠ 2 → exec
    (.bootComplete) s = .next (State.finish s ((v.enterOperate.bootNm.nmtSend 0).dbgHeld))) ∧
  (∀ (s : State) (aon : Bool) (boot : BootIn), s.flag F.BERTH_SUP_STAT_HOLDUP = true → exec (.holdupEnd aon boot) s = .next (State.finish s
    (s.holdupCommits.powerOn s.pins.slot s.sup.keep aon boot)))

/-- The PRECHG blade starts the mating; two passing probes in a row, with the feed once within 1.0 V of PRECHG, mate a feed (R121); a hard mate and
  a changed valid slot code are reported; a RAIL_ADV frame with a good CRC brings the link up with the highest common version and its capacities and
  a damaged one counts in ERR; loss of the link after 500 ms is reported and the version reads 0; a higher capacity takes effect after it has waited
  for 1 s; MOD_REPORT sends the frame of R130, at the latest 100 ms after the last one; KEEP at 9 V or more ends BERTH_NO_KEEP. That VERSION reads 0
  after a loss is the model's (log 36). Completes prechgMate, feedProbe, berthHardMate, berthSlotChange, railAdv, modReport, berthLinkLoss,
  capacityRaise, keepReturn. -/
def Obligations.Berth : Prop :=
  (∀ (s : State), exec (.prechgMate) s = .next (State.finish s (s.setBerth { s.berth with prechgMated := true, prechg := 0, probes := [] }))) ∧
  (∀ (s v : State) (f : Fin 4) (bus prechg sag : Nat) (last : Nat × Nat) (n : Nat) (p : Bool), s.awake = true → s.bit F.BERTH_STAT_MATED 0 f = false
    → last = (lookup f.val s.berth.probes).getD (0, 0) → n = (if sag < 25 then last.1 + 1 else 0) → p = (bitOf s.berth.prechg f || (decide (bus ≤
    prechg + 100) && decide (prechg ≤ bus + 100) && s.berth.prechgMated)) → v = (if last.1 = 0 then s else s.advanceTo (last.2 + ms 10)) → n < 2 ∨ p
    = false → exec (.feedProbe f bus prechg sag) s = .next (State.finish s (v.setBerth
    { s.berth with prechg := putBit s.berth.prechg f p, probes := assoc f.val (n, v.now) s.berth.probes }))) ∧
  (∀ (s : State) (f : Fin 4) (bus prechg sag : Nat) (last : Nat × Nat), s.awake = true → s.bit F.BERTH_STAT_MATED 0 f = false → last = (lookup f.val
    s.berth.probes).getD (0, 0) → sag < 25 → 1 ≤ last.1 → (bitOf s.berth.prechg f || (decide (bus ≤ prechg + 100) && decide (prechg ≤ bus + 100) &&
    s.berth.prechgMated)) = true → Completes (.feedProbe f bus prechg sag) s fun u => ∃ v : State, u = (v.enableChanged f).auxFeeds ∧ v.bit
    F.BERTH_STAT_MATED 0 f = true ∧ v.flag F.BERTH_EVT_MATE = true ∧ v.now = Nat.max s.now (last.2 + ms 10)) ∧
  (∀ (s : State) (f : Fin 4), s.awake = true → exec (.berthHardMate f) s = .next (State.finish s (s.raise .BERTH_HARD_MATE f))) ∧
  (∀ (s : State) (raw h : Fin 64), s.awake = true → slotValid raw = true → s.berth.held = some h.val → h ≠ raw → Completes (.berthSlotChange raw) s
    fun u => u.flag F.BERTH_EVT_SLOT_CHANGE = true ∧ u.fld F.BERTH_STAT_SLOT_RAW = raw ∧ u.fld F.BERTH_STAT_POS = s.fld F.BERTH_STAT_POS ∧ s.sameBut
    u [(.BERTH_STAT, 0), (.BERTH_EVT, 0)]) ∧
  (∀ (s : State) (b p : List Byte), s.awake = true → b.head? = some 0x7E → railPayload b = some p → bitOf (p.getD 0 0).toNat 2 = true → Completes
    (.railAdv b) s fun u => ∃ v : State, u = v.adopt ∧ v.fld F.BERTH_LINK_VERSION = 2 ∧ v.fld F.BERTH_LINK_RAIL_ID = leNat ((p.drop 1).take 2) ∧
    v.fld F.BERTH_RAILCAP_ADV = leNat (p.drop 3) ∧ v.flag F.BERTH_STAT_LINK_UP = true ∧ v.active .BERTH_LINK_LOSS 0 = false ∧ v.berth.lastAdv =
    s.now) ∧
  (∀ (s : State) (b p : List Byte), s.awake = true → b.head? = some 0x7E → railPayload b = some p → bitOf (p.getD 0 0).toNat 2 = false → bitOf
    (p.getD 0 0).toNat 1 = true → Completes (.railAdv b) s fun u => ∃ v : State, u = v.adopt ∧ v.fld F.BERTH_LINK_VERSION = 1 ∧ v.fld
    F.BERTH_LINK_RAIL_ID = leNat ((p.drop 1).take 2) ∧ v.fld F.BERTH_RAILCAP_ADV = leNat (p.drop 3) ∧ v.flag F.BERTH_STAT_LINK_UP = true ∧ v.active
    .BERTH_LINK_LOSS 0 = false ∧ v.berth.lastAdv = s.now) ∧
  (∀ (s : State) (b : List Byte), s.awake = true → b.head? = some 0x7E → railPayload b = none → exec (.railAdv b) s = .next (State.finish s (s.bump
    F.BERTH_LINK_ERR))) ∧
  (∀ (s : State), s.awake = true → Completes (.modReport) s fun u => u.berth.reports = s.berth.reports + 1 ∧ u.berth.report = s.modFrame ∧
    u.berth.reportAt = some u.now ∧ s.now ≤ u.now ∧ s.sameBut u []) ∧
  (∀ (s : State), s.awake = true → s.flag F.BERTH_STAT_LINK_UP = true → Completes (.berthLinkLoss) s fun u => u.now = Nat.max s.now (s.berth.lastAdv
    + ms 500) ∧ u.flag F.BERTH_STAT_LINK_UP = false ∧ u.fld F.BERTH_LINK_VERSION = 0 ∧ u.flag F.BERTH_EVT_LINK_LOSS = true ∧ u.active
    .BERTH_LINK_LOSS 0 = true ∧ s.sameBut u [(.BERTH_STAT, 0), (.BERTH_LINK, 0), (.BERTH_EVT, 0)]) ∧
  (∀ (s : State) (f : Fin 4) (v t : Nat) (rest : List (Nat × Nat)), s.awake = true → lookup f.val s.berth.raise = some ((v, t) :: rest) → exec
    (.capacityRaise f) s = .next (State.finish s (((s.advanceTo (t + sec 1)).setBerth
    { s.berth with raise := if rest.isEmpty then Tbl.del s.berth.raise f.val else assoc f.val rest s.berth.raise }).setCap f v))) ∧
  (∀ (s : State) (v : Nat), 900 ≤ v → exec (.keepReturn v) s = .next (State.finish s ((s.keepVolt v).clearFault .BERTH_NO_KEEP)))

/-- EXTRACT low for 1 ms puts a powered module into EXTRACTING, discarding the stores that have not begun, and wakes a sleeping one; at RAMP_TIME +
  30 ms the comparison leaves RAMPED and RAMP_OK where every residual is below 0.5 A, else RAMP_FAIL; the extraction entries are persisted as soon
  as no other NVM write runs; EXTRACT back at 0 with a blade mated asks for a module reset with cause EXTRACT. Completes berthExtract, rampCompare,
  extractionEntryCommit, berthExtractAbort. -/
def Obligations.Extraction : Prop :=
  (∀ (s : State) (boot : BootIn), s.awake = true → s.extracting = false → exec (.berthExtract boot) s = .next (State.finish s
    (s.extractBegin.storeDiscard))) ∧
  (∀ (s : State) (boot : BootIn), s.awake = false → exec (.berthExtract boot) s = .next (State.finish s (s.wakeUp 8 0 [] boot))) ∧
  (∀ (s : State) (a b c d : Nat), s.awake = true → s.fld F.BERTH_STAT_STATE = 2 → a < 5 → b < 5 → c < 5 → d < 5 → Completes (.rampCompare a b c d) s
    fun u => u.fld F.BERTH_STAT_STATE = 3 ∧ u.flag F.BERTH_EVT_RAMP_OK = true ∧ u.berth.lastOk = true ∧ u.berth.lastRes = [a, b, c, d]) ∧
  (∀ (s : State) (a b c d : Nat), s.awake = true → s.fld F.BERTH_STAT_STATE = 2 → 5 ≤ a ∨ 5 ≤ b ∨ 5 ≤ c ∨ 5 ≤ d → Completes (.rampCompare a b c d) s
    fun u => u.flag F.BERTH_EVT_RAMP_FAIL = true ∧ u.berth.lastOk = false) ∧
  (∀ (s : State), s.berth.commit ≠ [] → s.nvmBusy = false → exec (.extractionEntryCommit) s = .next (State.finish s ((s.setBerth
    { s.berth with commit := [] }).persist s.berth.commit))) ∧
  (∀ (s : State), s.awake = true → s.extracting = true → s.fld F.BERTH_STAT_MATED ≠ 0 → Completes (.berthExtractAbort) s fun u => u.mode.reset =
    some (s.mode.reset.getD 5) ∧ u.fld F.BERTH_STAT_STATE = 1 ∧ u.flag F.BERTH_STAT_EXTRACT = false ∧ u.pins.extract = false)

/-- A granted write of SYS_MODE_CMD with GO is the mode request of R145 for its TARGET, whose key is right for KEY 0x5A, and one that has no cause
  of refusal and is not beaten by a higher trigger of its interval of 1 µs (R144) has its effect: TARGET 0 ends the module's need of its network, 2
  asks for a module reset, 3, 4, 6 and 7 enter Configure, Operate, Service and Recovery; a refusal is answered through the dictionary with
  0x0800_0022; the Limp retry counts and asks for a module reset with cause LIMP; the sleep commit begins the sleep sequence, which ends in Watch or
  Dormant with KEEP present and ends without a sleep otherwise; a wake source that is armed wakes the module, and EXTRACT brings it up already
  RAMPED. Completes modeRequestDormant, modeRequestBoot, modeRequestConfigure, modeRequestOperate, modeRequestService, modeRequestRecovery,
  limpRetry, sleepCommit, sleepSequenceDone, wake. -/
def Obligations.ModeRequests : Prop :=
  (∀ (s : State) (a : Acc) (key : Nat), s.granted a .SYS_MODE_CMD (0) → ∃ n : Word, exec (.modeRequestDormant (.reg a) key) s = .next (State.finish
    s (s.wrote a .SYS_MODE_CMD (0) fun s => refusedAs 0x08000022 ((s.wr .SYS_MODE_CMD 0 n).modeRequest 0 (key % 256 == 0x5A))))) ∧
  (∀ (s : State) (a : Acc) (key : Nat), s.granted a .SYS_MODE_CMD (0) → ∃ n : Word, exec (.modeRequestBoot (.reg a) key) s = .next (State.finish s
    (s.wrote a .SYS_MODE_CMD (0) fun s => refusedAs 0x08000022 ((s.wr .SYS_MODE_CMD 0 n).modeRequest 2 (key % 256 == 0x5A))))) ∧
  (∀ (s : State) (a : Acc) (key : Nat), s.granted a .SYS_MODE_CMD (0) → ∃ n : Word, exec (.modeRequestConfigure (.reg a) key) s = .next
    (State.finish s (s.wrote a .SYS_MODE_CMD (0) fun s => refusedAs 0x08000022 ((s.wr .SYS_MODE_CMD 0 n).modeRequest 3 (key % 256 == 0x5A))))) ∧
  (∀ (s : State) (a : Acc) (key : Nat), s.granted a .SYS_MODE_CMD (0) → ∃ n : Word, exec (.modeRequestOperate (.reg a) key) s = .next (State.finish
    s (s.wrote a .SYS_MODE_CMD (0) fun s => refusedAs 0x08000022 ((s.wr .SYS_MODE_CMD 0 n).modeRequest 4 (key % 256 == 0x5A))))) ∧
  (∀ (s : State) (a : Acc) (key : Nat), s.granted a .SYS_MODE_CMD (0) → ∃ n : Word, exec (.modeRequestService (.reg a) key) s = .next (State.finish
    s (s.wrote a .SYS_MODE_CMD (0) fun s => refusedAs 0x08000022 ((s.wr .SYS_MODE_CMD 0 n).modeRequest 6 (key % 256 == 0x5A))))) ∧
  (∀ (s : State) (a : Acc) (key : Nat), s.granted a .SYS_MODE_CMD (0) → ∃ n : Word, exec (.modeRequestRecovery (.reg a) key) s = .next (State.finish
    s (s.wrote a .SYS_MODE_CMD (0) fun s => refusedAs 0x08000022 ((s.wr .SYS_MODE_CMD 0 n).modeRequest 7 (key % 256 == 0x5A))))) ∧
  (∀ (s : State) (a : Acc), s.granted a .SYS_MODE_CMD (0) → s.modeCause 0 true = 0 → (s.takeTrigger 5).2 = true → ∃ n : Word, exec
    (.modeRequestDormant (.reg a) 0x5A) s = .next (State.finish s (s.wrote a .SYS_MODE_CMD (0) fun s => (((s.wr .SYS_MODE_CMD 0 n).takeTrigger
    5).1.setModNeed false, 0)))) ∧
  (∀ (s : State) (a : Acc), s.granted a .SYS_MODE_CMD (0) → s.modeCause 2 true = 0 → (s.takeTrigger 5).2 = true → ∃ n : Word, exec (.modeRequestBoot
    (.reg a) 0x5A) s = .next (State.finish s (s.wrote a .SYS_MODE_CMD (0) fun s => (((s.wr .SYS_MODE_CMD 0 n).takeTrigger 5).1.askReset 3, 0)))) ∧
  (∀ (s : State) (a : Acc), s.granted a .SYS_MODE_CMD (0) → s.modeCause 3 true = 0 → (s.takeTrigger 5).2 = true → ∃ n : Word, exec
    (.modeRequestConfigure (.reg a) 0x5A) s = .next (State.finish s (s.wrote a .SYS_MODE_CMD (0) fun s => (((s.wr .SYS_MODE_CMD 0 n).takeTrigger
    5).1.enterConfigure, 0)))) ∧
  (∀ (s : State) (a : Acc), s.granted a .SYS_MODE_CMD (0) → s.modeCause 4 true = 0 → (s.takeTrigger 5).2 = true → ∃ n : Word, exec
    (.modeRequestOperate (.reg a) 0x5A) s = .next (State.finish s (s.wrote a .SYS_MODE_CMD (0) fun s => (((s.wr .SYS_MODE_CMD 0 n).takeTrigger
    5).1.enterOperate, 0)))) ∧
  (∀ (s : State) (a : Acc), s.granted a .SYS_MODE_CMD (0) → s.modeCause 6 true = 0 → (s.takeTrigger 5).2 = true → ∃ n : Word, exec
    (.modeRequestService (.reg a) 0x5A) s = .next (State.finish s (s.wrote a .SYS_MODE_CMD (0) fun s => (((s.wr .SYS_MODE_CMD 0 n).takeTrigger
    5).1.enterService, 0)))) ∧
  (∀ (s : State) (a : Acc), s.granted a .SYS_MODE_CMD (0) → s.modeCause 7 true = 0 → (s.takeTrigger 5).2 = true → ∃ n : Word, exec
    (.modeRequestRecovery (.reg a) 0x5A) s = .next (State.finish s (s.wrote a .SYS_MODE_CMD (0) fun s => (((s.wr .SYS_MODE_CMD 0 n).takeTrigger
    5).1.enterRecovery 3, 0)))) ∧
  (∀ (s : State), s.awake = true → s.mode' = 5 → s.isSafe .sysCfg = false → s.fld F.SYS_CFG_LIMP_RETRY ≠ 0 → s.fld F.SYS_RST_CAUSE_LIMP_COUNT < 3 →
    Completes (.limpRetry) s fun u => u.now = Nat.max s.now (s.mode.limpAt + sec (s.fld F.SYS_CFG_LIMP_RETRY)) ∧ u.fld F.SYS_RST_CAUSE_LIMP_COUNT =
    s.fld F.SYS_RST_CAUSE_LIMP_COUNT + 1 ∧ u.mode.reset = some (s.mode.reset.getD 4) ∧ s.sameBut u [(.SYS_RST_CAUSE, 0)]) ∧
  (∀ (s : State), s.awake = true → s.mode' = 5 → s.isSafe .sysCfg = true ∨ s.fld F.SYS_CFG_LIMP_RETRY = 0 ∨ 3 ≤ s.fld F.SYS_RST_CAUSE_LIMP_COUNT →
    exec (.limpRetry) s = .next (State.finish s (s))) ∧
  (∀ (s : State) (t : Nat), s.awake = true → s.nm.okSince = some t → s.mode.sleeping = false → s.sleepOk = true → s.flag F.BERTH_STAT_KEEP_OK = true
    → s.mode.trigInt ≠ some (((s.advanceTo (t + ms 100)).now - s.clk.g0) / 1000) ∨ 6 < s.mode.trigRank → Completes (.sleepCommit) s fun u =>
    u.mode.sleeping = true ∧ u.mode.sleepAt = u.now ∧ u.now = Nat.max s.now (t + ms 100)) ∧
  (∀ (s : State) (t : Nat), s.awake = true → s.nm.okSince = some t → s.mode.sleeping = false → s.sleepOk = true → s.flag F.BERTH_STAT_KEEP_OK = true
    → s.mode.trigInt = some (((s.advanceTo (t + ms 100)).now - s.clk.g0) / 1000) → s.mode.trigRank ≤ 6 → exec (.sleepCommit) s = .next (State.finish
    s (s.advanceTo (t + ms 100)))) ∧
  (∀ (s : State), s.awake = true → s.mode.sleeping = true → s.flag F.BERTH_STAT_KEEP_OK = true → Completes (.sleepSequenceDone) s fun u =>
    u.mode.sleeping = false ∧ u.mode' ≤ 1 ∧ u.bus.hrp.session = false ∧ u.nm.okSince = none ∧ u.nm.timerAt = some u.now) ∧
  (∀ (s : State), s.awake = true → s.mode.sleeping = true → s.flag F.BERTH_STAT_KEEP_OK = false → exec (.sleepSequenceDone) s = .next (State.finish
    s ({ s with mode := { s.mode with sleeping := false } }))) ∧
  (∀ (s : State) (cause idx : Fin 16) (also : List (Fin 16 × Fin 16)) (boot : BootIn), s.awake = false → s.wakeArmed cause idx = true → cause ≠ 8 →
    ∀ x ∈ also, x.1 ≠ 8 → Completes (.wake cause idx also boot) s fun u => ∃ (v : State) (k : List (Nat × (Int × Int × Int))) (n : Nat), u = (if
    boot.ret then (v.startUp boot true).wireResume k n else (v.startUp boot true).wireDefault) ∧ v.flag F.SYS_RST_CAUSE_WAKE = true ∧ v.fld
    F.NM_WAKE_REASON_CAUSE = cause ∧ v.fld F.NM_WAKE_REASON_INDEX = idx ∧ v.mode.bootCause = 2) ∧
  (∀ (s : State) (cause idx : Fin 16) (also : List (Fin 16 × Fin 16)) (boot : BootIn), s.awake = false → s.wakeArmed cause idx = true → cause = 8 ∨
    ∃ x ∈ also, x.1 = 8 → Completes (.wake cause idx also boot) s fun u => u.fld F.BERTH_STAT_STATE = 3 ∧ u.flag F.BERTH_STAT_EXTRACT = true ∧
    u.flag F.BERTH_EVT_RAMP_OK = true ∧ u.berth.lastOk = true) ∧
  (∀ (s : State) (cause idx : Fin 16) (also : List (Fin 16 × Fin 16)) (boot : BootIn), s.awake = true → exec (.wake cause idx also boot) s = .next
    (State.finish s (s)))

/-- A feed above its return level of 7.3 V becomes present; a dip, a loss or an over-voltage of a feed sets its bit and its event, raises its fault
  and holds the channels that the rules name; a feed that is back in its range begins its restore, whose steps turn the next channel on; VSRC below
  VWARN defers NVM writes until it is 0.8 V above; a store that has waited 500 ms is answered; loss of VSRC enters hold-up; VMIN is cleared to
  0xFFFF. Completes feedPresent, supplyDip, feedAbsent, feedOvervolt, restoreBegin, restoreStep, vlogLow, deferredWriteStart, storeReplyTimeout,
  supplyLoss, vminClr. -/
def Obligations.Supply : Prop :=
  (∀ (s : State) (f : Fin 4) (v : Nat), s.awake = true → 730 < v → (s.feedVolt f v).powered = true → (s.feedVolt f v).bit F.BERTH_SUP_STAT_PRESENT 0
    f = false → exec (.feedPresent f v) s = .next (State.finish s ((((((s.feedVolt f v).setBit F.BERTH_SUP_STAT_PRESENT 0 f).clearFault .FEED_ABSENT
    f).feedVolt f v).enableChanged f).auxFeeds))) ∧
  (∀ (s : State) (f : Fin 4) (v : Nat), s.awake = true → (s.feedVolt f v).bit F.BERTH_SUP_STAT_LOW 0 f = false → v < (s.feedVolt f v).vwarn →
    (s.feedVolt f v).powered = true → exec (.supplyDip f v) s = .next (State.finish s (((((s.feedVolt f v).setBit F.BERTH_SUP_STAT_LOW 0 f).setBit
    F.BERTH_SUP_EVT_DIP 0 f).stopRestore f).raise .SUPPLY_DIP f |>.supplyHolds))) ∧
  (∀ (s : State) (f : Fin 4) (v : Nat), s.awake = true → (s.feedVolt f v).bit F.BERTH_SUP_STAT_PRESENT 0 f = true → v < 650 → (s.feedVolt f
    v).powered = true → Completes (.feedAbsent f v) s fun u => ∃ v : State, u = v.auxFeeds ∧ v.bit F.BERTH_SUP_STAT_PRESENT 0 f = false ∧ v.bit
    F.BERTH_SUP_EVT_ABSENT 0 f = true ∧ v.bit F.BERTH_STAT_MATED 0 f = false) ∧
  (∀ (s : State) (f : Fin 4) (v : Nat), s.awake = true → (s.feedVolt f v).bit F.BERTH_SUP_STAT_OVER 0 f = false → 6200 < v → (s.feedVolt f
    v).powered = true → exec (.feedOvervolt f v) s = .next (State.finish s (((((s.feedVolt f v).setBit F.BERTH_SUP_STAT_OVER 0 f).setBit
    F.BERTH_SUP_EVT_OVER 0 f).stopRestore f).raise .FEED_OVERVOLT f |>.supplyHolds))) ∧
  (∀ (s w x : State) (f : Fin 4) (v : Nat), s.awake = true → (s.feedVolt f v).powered = true → (s.feedVolt f v).flag F.BERTH_SUP_STAT_HOLDUP = false
    → w = (if (s.feedVolt f v).bit F.BERTH_SUP_STAT_LOW 0 f = true ∧ (s.feedVolt f v).vwarn + 80 < v then ((s.feedVolt f v).setBit
    F.BERTH_SUP_STAT_LOW 0 f false).clearFault .SUPPLY_DIP f else s.feedVolt f v) → x = (if w.bit F.BERTH_SUP_STAT_OVER 0 f = true ∧ v < 5800 then
    (w.setBit F.BERTH_SUP_STAT_OVER 0 f false).clearFault .FEED_OVERVOLT f else w) → exec (.restoreBegin f v) s = .next (State.finish s
    (x.tryRestore f))) ∧
  (∀ (s : State) (f : Fin 4) (t : Nat), s.awake = true → lookup f.val s.sup.restoring = some t → exec (.restoreStep f) s = .next (State.finish s
    ((s.advanceTo t).restoreTurnOn f))) ∧
  (∀ (s : State) (keep : Nat), s.awake = true → (s.keepVolt keep).flag F.BERTH_SUP_STAT_VLOG_LOW = false → (s.keepVolt keep).powered = true →
    (s.keepVolt keep).fld F.BERTH_VKEEP_VSRC < (s.keepVolt keep).vwarn → exec (.vlogLow keep) s = .next (State.finish s (((((s.keepVolt
    keep).setFlag F.BERTH_SUP_STAT_VLOG_LOW).setFlag F.BERTH_SUP_STAT_STORE_DEFER).setFlag F.BERTH_SUP_EVT_VLOG_LOW).raise .VLOG_LOW))) ∧
  (∀ (s : State) (keep : Nat), s.awake = true → (s.keepVolt keep).flag F.BERTH_SUP_STAT_VLOG_LOW = true → (s.keepVolt keep).vwarn + 80 < (s.keepVolt
    keep).fld F.BERTH_VKEEP_VSRC → exec (.deferredWriteStart keep) s = .next (State.finish s ((((s.keepVolt keep).setFlag F.BERTH_SUP_STAT_VLOG_LOW
    0 false).setFlag F.BERTH_SUP_STAT_STORE_DEFER 0 false).clearFault .VLOG_LOW))) ∧
  (∀ (s : State) (c : Client) (w : Client × Nat × Nat), s.awake = true → s.clk.aDown = none → (s.od.jobs.flatMap Job.who).find? (fun w => w.1 == c)
    = some w → exec (.storeReplyTimeout c) s = .next (State.finish s (((s.advanceTo (w.2.1 + ms 500)).setOd
    { s.od with jobs := s.od.jobs.map fun j => { j with who := j.who.filter fun x => x != w } }).storeReply c w.2.2 0x08000022))) ∧
  (∀ (s : State) (vsrc : Nat), s.powered = true → s.flag F.BERTH_SUP_STAT_HOLDUP = false → vsrc < 650 → Completes (.supplyLoss vsrc) s fun u => ∃ v
    : State, u = v.dioRefresh ∧ v.flag F.BERTH_SUP_STAT_HOLDUP = true ∧ v.fld F.BERTH_VKEEP_VSRC = vsrc ∧ v.sup.restoring = []) ∧
  (∀ (s : State) (a : Acc), s.granted a .BERTH_SUP_MIN (0) → Completes (.vminClr (.reg a)) s fun u => u.fld F.BERTH_SUP_MIN_VMIN = 0xFFFF ∧
    s.sameBut u [(.BERTH_SUP_MIN, 0)])

/-- A granted write of SW_OUT, SW_GLB_GRPCMD or SW_GLB_PAIR is the channel, group or pair command of its fields, refused outside the states that
  allow it (R173, R184, R186) and carried out in them; PEAK.CLR sets the peak to 0; a delayed group turn-on falls due; a PWM period starts with the
  feed's voltage and its effective duty, COMP_SAT raised where no period of the last 100 ms saturated (R180; counted from the start of the last
  saturated period, the model's choice, log 118); the inrush phase ends; a pair that has shared badly raises PAIR_IMBALANCE and one that shares well
  clears it. Completes swOutWrite, pwmPeriodStart, inrushEnd, groupCommand, groupTurnOn, pairWrite, pairImbalance, pairImbalanceClear, peakClr. -/
def Obligations.SwitchCommands : Prop :=
  (∀ (s : State) (a : Acc) (n : Fin 64) (duty : Bool) (v : Nat), s.granted a .SW_OUT (n) → exec (.swOutWrite (.reg a) n duty v) s = .next
    (State.finish s (s.wrote a .SW_OUT (n) fun s => refusedAs 0x08000022 (s.swOutWrite n (F.SW_OUT_MODE.of (BitVec.ofNat 32 v)) (F.SW_OUT_DUTY.of
    (BitVec.ofNat 32 v)))))) ∧
  (∀ (s : State) (a : Acc) (n : Fin 64) (duty : Bool) (v : Nat), s.granted a .SW_OUT (n) → s.onRefused n (F.SW_OUT_MODE.of (BitVec.ofNat 32 v)) =
    false → exec (.swOutWrite (.reg a) n duty v) s = .next (State.finish s (s.wrote a .SW_OUT (n) fun s => ((s.swAccept n).command n
    (F.SW_OUT_MODE.of (BitVec.ofNat 32 v)) (F.SW_OUT_DUTY.of (BitVec.ofNat 32 v)) none, 0)))) ∧
  (∀ (s w : State) (n : Fin 64) (m v : Nat) (a b : List (Nat × Int)) (g : Nat), s.awake = true → m = (s.setVfeed (feedOf n) v).lead n → ((s.setVfeed
    (feedOf n) v).swc m).nextStart s.clk.g0 = some g → w = (((s.setVfeed (feedOf n) v).advanceTo (s.gTime g)).periodDone m [a, b]) → (w.want m).mode
    < 2 → exec (.pwmPeriodStart n v a b) s = .next (State.finish s (w.refresh m))) ∧
  (∀ (s w : State) (n : Fin 64) (m v : Nat) (a b : List (Nat × Int)) (g : Nat) (r : Nat × Bool), s.awake = true → m = (s.setVfeed (feedOf n) v).lead
    n → ((s.setVfeed (feedOf n) v).swc m).nextStart s.clk.g0 = some g → w = (((s.setVfeed (feedOf n) v).advanceTo (s.gTime g)).periodDone m [a, b])
    → 2 ≤ (w.want m).mode → r = w.periodDuty m (w.want m) → r.2 = false ∨ (w.swc m).satAt.any (fun t => decide (w.now < t + ms 100)) = true → exec
    (.pwmPeriodStart n v a b) s = .next (State.finish s (w.each (w.cells m) fun s c => s.startPeriod m g r.1 r.2 c))) ∧
  (∀ (s w : State) (n : Fin 64) (m v : Nat) (a b : List (Nat × Int)) (g : Nat) (r : Nat × Bool), s.awake = true → m = (s.setVfeed (feedOf n) v).lead
    n → ((s.setVfeed (feedOf n) v).swc m).nextStart s.clk.g0 = some g → w = (((s.setVfeed (feedOf n) v).advanceTo (s.gTime g)).periodDone m [a, b])
    → 2 ≤ (w.want m).mode → r = w.periodDuty m (w.want m) → r.2 = true → (w.swc m).satAt.all (fun t => decide (t + ms 100 ≤ w.now)) = true → exec
    (.pwmPeriodStart n v a b) s = .next (State.finish s (((w.each (w.cells m) fun s c => s.startPeriod m g r.1 r.2 c).setFlag F.SW_EVT_COMP_SAT
    m).raise .COMP_SAT m [] (sec 1)))) ∧
  (∀ (s : State) (n : Fin 64) (t : Nat), s.awake = true → (s.swc n).inrush = some t → (s.swc n).frzAt = none → exec (.inrushEnd n) s = .next
    (State.finish s ((s.advanceTo t).setSwc n { s.swc n with inrush := none, frozen := 0 }))) ∧
  (∀ (s : State) (a : Acc) (mode : Fin 4) (duty : Fin 4096), s.granted a .SW_GLB_GRPCMD (0) → ∃ n : Word, exec (.groupCommand (.reg a) mode duty) s
    = .next (State.finish s (s.wrote a .SW_GLB_GRPCMD (0) fun s => refusedAs 0x08000022 ((s.wr .SW_GLB_GRPCMD 0 n).groupCommand (s.fld
    F.SW_GLB_GRPLO_SEL + 2 ^ 32 * s.fld F.SW_GLB_GRPHI_SEL) mode duty)))) ∧
  (∀ (s : State) (a : Acc) (mode : Fin 4) (duty : Fin 4096) (ns : List Nat), s.granted a .SW_GLB_GRPCMD (0) → ns = s.leads.filter (fun n => bitOf
    (s.fld F.SW_GLB_GRPLO_SEL + 2 ^ 32 * s.fld F.SW_GLB_GRPHI_SEL) n) → mode = 0 ∨ (s.live = true ∧ ns.all (fun n => !s.gateShut n) = true) → ∃ n :
    Word, exec (.groupCommand (.reg a) mode duty) s = .next (State.finish s (s.wrote a .SW_GLB_GRPCMD (0) fun s => ((s.wr .SW_GLB_GRPCMD 0 n).each
    ns (fun s n => s.command n mode duty (if mode = 1 ∧ (s.fld F.SW_OUT_MODE n = 0 ∨ (s.swc n).delay.isSome = true) ∧ s.fld F.SW_PHASE_PHASE n ≠ 0
    then some (s.now + us (s.fld F.SW_PHASE_PHASE n)) else none)), 0)))) ∧
  (∀ (s : State) (n : Fin 64) (m t : Nat), s.awake = true → s.lead n = m → (s.swc m).delay = some t → exec (.groupTurnOn n) s = .next (State.finish
    s (((s.advanceTo t).each (s.cells m) fun s c => s.setSwc c { s.swc c with delay := none }).refresh m))) ∧
  (∀ (s : State) (a : Acc) (v : Nat), s.granted a .SW_GLB_PAIR (0) → exec (.pairWrite (.reg a) v) s = .next (State.finish s (s.wrote a .SW_GLB_PAIR
    (0) fun s => refusedAs 0x08000022 (s.pairWrite (v % 2 ^ 32))))) ∧
  (∀ (s : State) (a : Acc) (v : Fin (2 ^ 32)), s.granted a .SW_GLB_PAIR (0) → s.cfgOpen = true → ((List.range 64).filter fun n => bitOf (s.fld
    F.SW_GLB_PAIR_PAIR) (n / 2) != bitOf v (n / 2)).all (fun n => s.fld F.SW_OUT_MODE n == 0 && (s.swc n).st == 0) = true → exec (.pairWrite (.reg
    a) v) s = .next (State.finish s (s.wrote a .SW_GLB_PAIR (0) fun s => ((s.wr .SW_GLB_PAIR 0 (BitVec.ofNat 32 v)).refreshAll, 0)))) ∧
  (∀ (s : State) (n : Fin 64) (x y : Int), s.awake = true → s.paired n = true → 1600 ≤ (x + y).natAbs → (x + y).natAbs < 5 * (x - y).natAbs → s.flag
    F.SW_STAT_PAIR_IMB (n / 2 * 2) = false → Completes (.pairImbalance n x y) s fun u => u.flag F.SW_STAT_PAIR_IMB (n / 2 * 2) = true ∧ u.flag
    F.SW_EVT_PAIR_IMB (n / 2 * 2 + 1) = true ∧ u.active .PAIR_IMBALANCE (n / 2 * 2) = true) ∧
  (∀ (s : State) (n : Fin 64) (x y : Int), s.awake = true → 5 * (x - y).natAbs ≤ (x + y).natAbs → Completes (.pairImbalanceClear n x y) s fun u =>
    u.flag F.SW_STAT_PAIR_IMB (n / 2 * 2) = false ∧ u.active .PAIR_IMBALANCE (n / 2 * 2) = false) ∧
  (∀ (s : State) (a : Acc) (n : Fin 64), s.granted a .SW_PEAK (n) → Completes (.peakClr (.reg a) n) s fun u => u.fld F.SW_PEAK_PEAK n = 0 ∧ u.flag
    F.SW_STAT_REFUSED n = false ∧ s.sameBut u [(.SW_PEAK, n), (.SW_STAT, n)])

/-- The comparator trips a channel whose gate is on and whose current reaches the fast-trip threshold (nominal, 1.5 times the active limit: the
  model's, log 102); a level-1 crossing holds a conducting channel and counts, latches it where L1_LATCH is set, spends its restart budget and
  otherwise waits for its restart; a restart clears L1_TRIP; a reading at the ceiling holds it; the measurements of 1 ms and the wire model of every
  channel take their step; a clear is judged by R222; an automatic clear writes OFF, clears when R222 permits and then commands what it found, only
  within its policy (R226). Completes fastTrip, l1Trip, l1Restart, l2Ceiling, wireModelStep, protClear, feedLimiterClear, autoClear. -/
def Obligations.ChannelProtection : Prop :=
  (∀ (s : State) (n : Fin 64) (cur : Nat), s.awake = true → (s.swc n).gateOn (s.now - s.clk.g0) = true → 1500 * s.activeLimit n ≤ cur → exec
    (.fastTrip n cur) s = .next (State.finish s ((((s.bump F.PROT_CNT_FT n).setFlag F.PROT_EVT_FT n).raise .FAST_TRIP n).setHold n .ft))) ∧
  (∀ (s : State) (n : Fin 64) (cur : Nat), s.awake = true → (s.swc n).gateOn (s.now - s.clk.g0) = false ∨ cur < 1500 * s.activeLimit n → exec
    (.fastTrip n cur) s = .next (State.finish s (s))) ∧
  (∀ (s v : State) (n : Fin 64) (tj : Int), s.awake = true → v = s.setFld F.SW_TEMP_TJ n (satSigned 8 tj) → v.gateOn n = true → 170 ≤ tj ∨ v.above
    tj 60 = true → v.flag F.PROT_CFG_L1_LATCH (v.lead n) = true → Completes (.l1Trip n tj) s fun u => ∃ w : State, u = w.setHold n .l1Latch ∧ w.flag
    F.PROT_EVT_L1 n = true ∧ w.active .L1_TRIP n = true) ∧
  (∀ (s v : State) (n : Fin 64) (tj : Int), s.awake = true → v = s.setFld F.SW_TEMP_TJ n (satSigned 8 tj) → v.gateOn n = true → 170 ≤ tj ∨ v.above
    tj 60 = true → v.flag F.PROT_CFG_L1_LATCH (v.lead n) = false → 8 ≤ (v.restartsOf (v.lead n)).length → exec (.l1Trip n tj) s = .next
    (State.finish s ((((((v.bump F.PROT_CNT_L1 n).setFlag F.PROT_EVT_L1 n).raise .L1_TRIP n [] (sec 1)).setFlag F.PROT_EVT_BUDGET n).raise
    .RESTART_BUDGET n).setHold n .budget))) ∧
  (∀ (s v : State) (n : Fin 64) (tj : Int), s.awake = true → v = s.setFld F.SW_TEMP_TJ n (satSigned 8 tj) → v.gateOn n = true → 170 ≤ tj ∨ v.above
    tj 60 = true → v.flag F.PROT_CFG_L1_LATCH (v.lead n) = false → (v.restartsOf (v.lead n)).length < 8 → exec (.l1Trip n tj) s = .next
    (State.finish s ((((v.bump F.PROT_CNT_L1 n).setFlag F.PROT_EVT_L1 n).raise .L1_TRIP n [] (sec 1)).setHold n .l1))) ∧
  (∀ (s v : State) (n : Fin 64) (tj tj2 : Int), s.awake = true → v = s.each ((s.cells n).zip [tj, tj2]) (fun s c => s.setFld F.SW_TEMP_TJ c.1
    (satSigned 8 c.2)) → v.heldIn n 6 6 = true → v.cool n = true → exec (.l1Restart n tj tj2) s = .next (State.finish s (((v.each (s.cells n) fun s
    c => s.setSwc c { s.swc c with restarts := (s.now :: (s.restartsOf c)).take 16 }).each (s.cells n) fun s c => s.clearFault .L1_TRIP c).endHold n
    .l1))) ∧
  (∀ (s v : State) (n : Fin 64) (tj c : Int), s.awake = true → v = s.setFld F.SW_TEMP_TJ n (satSigned 8 tj) → c = (if v.isSafe (.protCh (v.lead n))
    then 110 else v.fld F.PROT_CFG_CEIL (v.lead n)) → v.fld F.SW_OUT_MODE (v.lead n) ≠ 0 → c ≤ tj → v.held n .ceil = false → exec (.l2Ceiling n tj)
    s = .next (State.finish s (((v.setFlag F.PROT_EVT_CEIL n).raise .L2_CEILING n).setHold n .ceil))) ∧
  (∀ (s v : State) (l : List Meas), s.powered = true → v =
    { s.advanceTo (s.clk.msAt + ms 1) with clk := { s.clk with msAt := (s.advanceTo (s.clk.msAt + ms 1)).now } } → exec (.wireModelStep l) s = .next
    (State.finish s ((((v.each l fun s m => s.measure m).each l fun s m => s.olOn m.ch).each (List.range 64) fun s n => s.wireStep n)))) ∧
  (∀ (s : State) (a : Acc) (n : Fin 64), s.granted a .PROT_CLR (n) → exec (.protClear (.reg a) n) s = .next (State.finish s (s.wrote a .PROT_CLR (n)
    fun s => refusedAs 0x08000022 (s.protClear (s.lead n))))) ∧
  (∀ (s : State) (a : Acc) (n : Fin 64), s.granted a .PROT_CLR (n) → s.mayClear (s.lead n) = false → exec (.protClear (.reg a) n) s = .next
    (State.finish s (s.wrote a .PROT_CLR (n) fun s => (s.setFlag F.PROT_EVT_CLR_REFUSED (s.lead n), 0x08000022)))) ∧
  (∀ (s : State) (a : Acc) (f : Fin 4), s.granted a .PROT_FL_CLR (f) → exec (.feedLimiterClear (.reg a) f) s = .next (State.finish s (s.wrote a
    .PROT_FL_CLR (f) fun s => refusedAs 0x08000022 (((s.feedLeads f).filter fun n => s.held n .flLatch).foldl (fun (x : State × Bool) n =>
    ((x.1.protClear n).1, x.2 || (x.1.protClear n).2)) (s, false))))) ∧
  (∀ (s : State) (n : Fin 64), s.awake = true → (s.swc (s.lead n)).policy = 0 → exec (.autoClear n) s = .next (State.finish s (s))) ∧
  (∀ (s v : State) (n : Fin 64) (m : Nat) (used : List Nat) (was : Nat × Nat), s.awake = true → m = s.lead n → used = (s.swc m).clears.filter (fun t
    => decide (s.now < t + sec 3600)) → used.length < (s.swc m).policy → s.heldIn m 1 5 = true → s.clk.bDown = none → s.mode' ≠ 5 → was = (s.swc
    m).auto.getD (s.fld F.SW_OUT_MODE m, s.fld F.SW_OUT_DUTY m) → v = (if (s.swc m).auto.isSome then s else s.command m 0 was.2 none) → v.mayClear m
    = false → exec (.autoClear n) s = .next (State.finish s (v.setSwc m { v.swc m with auto := some was }))) ∧
  (∀ (s v w : State) (n : Fin 64) (m : Nat) (used : List Nat) (was : Nat × Nat), s.awake = true → m = s.lead n → used = (s.swc m).clears.filter (fun
    t => decide (s.now < t + sec 3600)) → used.length < (s.swc m).policy → s.heldIn m 1 5 = true → s.clk.bDown = none → s.mode' ≠ 5 → was = (s.swc
    m).auto.getD (s.fld F.SW_OUT_MODE m, s.fld F.SW_OUT_DUTY m) → v = (if (s.swc m).auto.isSome then s else s.command m 0 was.2 none) → (v.setSwc m
    { v.swc m with auto := some was }).mayClear m = true → w = ((v.setSwc m { v.swc m with auto := some was }).protClear m).1 → exec (.autoClear n)
    s = .next (State.finish s (if (w.setSwc m { w.swc m with clears := w.now :: used, auto := none }).onRefused m was.1 then w.setSwc m
    { w.swc m with clears := w.now :: used, auto := none } else (w.setSwc m { w.swc m with clears := w.now :: used, auto := none }).command m was.1
    was.2 none)))

/-- The 1 ms update of a limiter takes the sum of the feed's currents, judges its average, sheds and updates its state; the end of its hold-off
  judges again; the most recently shed class is restored, one channel a step, after the average has stayed low for REL_TIME; a sag below 85 % of the
  feed's mean freezes the inrush phases of the feed, and its end, at 85 % again or after 200 µs, lengthens them. Completes feedLimiterUpdate,
  limiterHoldoffEnd, feedLimiterRestore, sagBegin, sagEnd. -/
def Obligations.FeedLimiterAndSag : Prop :=
  (∀ (s : State) (f : Fin 4) (aux x : Int), s.powered = true → x = (if f.val = 1 ∨ f.val = 2 then aux else 0) → Completes (.feedLimiterUpdate f aux)
    s fun u => ∃ v : State, u = (v.shedDecision f).limiterState f ∧ (v.flc f).win = (((List.range 16).map fun i => s.avg1 (f * 16 + i)).foldl (· +
    ·) x :: (s.flc f).win).take 100 ∧ (v.flc f).aux = (x :: (s.flc f).aux).take 100 ∧ v.now = Nat.max s.now ((s.flc f).at0 + ms 1)) ∧
  (∀ (s : State) (f : Fin 4) (t : Nat), s.awake = true → (s.flc f).hold = some t → exec (.limiterHoldoffEnd f) s = .next (State.finish s
    ((((s.advanceTo t).setFlc f { s.flc f with hold := none }).limiterState f).shedDecision f))) ∧
  (∀ (s v : State) (f : Fin 4) (c t : Nat) (r : List Nat), s.awake = true → (s.flc f).shed = c :: r → (s.flc f).below = some t → (s.flc f).rest =
    none → v = s.advanceTo (t + s.relTime f) → exec (.feedLimiterRestore f) s = .next (State.finish s (((v.setFlc f
    { s.flc f with rest := some { cls := c, next := v.now } }).setFld F.PROT_FL_STAT_STATE f 2).flStep f))) ∧
  (∀ (s : State) (f : Fin 4) (c t : Nat) (r : List Nat) (x : FlRestore), s.awake = true → (s.flc f).shed = c :: r → (s.flc f).below = some t →
    (s.flc f).rest = some x → exec (.feedLimiterRestore f) s = .next (State.finish s (s.flStep f))) ∧
  (∀ (s : State) (f : Fin 4) (mean v clear : Nat), s.powered = true → (s.flc f).sagAt = none → 100 * v < 85 * mean → us 50 ≤ clear → exec (.sagBegin
    f mean v clear) s = .next (State.finish s ((s.setFlc f { s.flc f with sagAt := some s.now, sagLevel := (85 * mean + 99) / 100 }).each
    ((List.range 64).filter fun n => feedOf n == f) fun s n => s.freezeInrush n))) ∧
  (∀ (s v : State) (f : Fin 4) (volt t : Nat), s.awake = true → (s.flc f).sagAt = some t → v = (if (s.flc f).sagLevel ≤ volt then s else s.advanceTo
    (t + us 200)) → exec (.sagEnd f volt) s = .next (State.finish s ((v.setFlc f { s.flc f with sagAt := none }).each ((List.range 64).filter fun n
    => feedOf n == f) fun s n => s.thawInrush n (Nat.min s.now (t + us 200)))))

/-- References that differ by more than 0.3 % for 1 s raise CAL_REF_FAIL once and references within 0.2 % for 10 s clear it; a window starts on a
  channel that R236 allows while no other runs on its feed and no lower channel is due; a window whose groups are whole gives gain and offset of
  R235 and is judged by R237, one that is not, or whose channel may no longer be calibrated, ends without a result; a revert returns every converter
  to the factory set; a boost sense result within 2 % of the factory gain is taken, another raises CAL_BOOST_DRIFT; a threshold check of a group
  sets or clears its failure; a conducting channel without an accepted window for 60 s becomes stale. Completes calRefFail, calRefOk,
  calWindowStart, calWindowEnd, calRevert, calReenable, boostSenseCal, diThresholdCheck, calStale. -/
def Obligations.Calibration : Prop :=
  (∀ (s : State) (ppm held : Nat), s.powered = true → s.active .CAL_REF_FAIL = false → 3000 < ppm → sec 1 ≤ held → exec (.calRefFail ppm held) s =
    .next (State.finish s (((s.setFlag F.CAL_STAT_REF_OK 0 false).setFlag F.CAL_EVT_REF_FAIL).raise .CAL_REF_FAIL))) ∧
  (∀ (s : State) (ppm held : Nat), s.powered = true → ppm ≤ 2000 → sec 10 ≤ held → exec (.calRefOk ppm held) s = .next (State.finish s ((s.setFlag
    F.CAL_STAT_REF_OK 0 true).clearFault .CAL_REF_FAIL))) ∧
  (∀ (s v : State) (n : Fin 64) (m : Nat), s.awake = true → m = s.lead n → s.windowMay m = true → s.groupFits m = true → (s.feedLeads (feedOf
    m)).all (fun k => (s.swc k).win.isNone) = true → v = s.advanceTo (((lookup m s.cal.visit).map fun t => t + sec (s.fld F.CAL_CTRL_PERIOD)).getD
    0) → (v.feedLeads (feedOf m)).all (fun k => !(decide (k < m) && (v.windowMay k && v.groupFits k) && v.visitDue k)) = true → exec
    (.calWindowStart n) s = .next (State.finish s ((v.each (v.cells m) fun s c => s.setSwc c { s.swc c with win := some (s.windowOf c) }).setCal
    { v.cal with visit := assoc m v.now v.cal.visit }))) ∧
  (∀ (s : State) (n : Fin 64) (x y : CalWin), s.awake = true → (s.swc (s.lead n)).win = none → exec (.calWindowEnd n x y) s = .next (State.finish s
    (s))) ∧
  (∀ (s : State) (n : Fin 64) (m : Nat) (x y : CalWin) (w : CalRun), s.awake = true → m = s.lead n → (s.swc m).win = some w → w.gs.length < (s.swc
    m).groups → exec (.calWindowEnd n x y) s = .next (State.finish s ((s.advanceTo (w.at0 + ms 100)).windowStop m))) ∧
  (∀ (s v : State) (n : Fin 64) (m : Nat) (x y : CalWin) (w : CalRun), s.awake = true → m = s.lead n → (s.swc m).win = some w → (s.swc m).groups ≤
    w.gs.length → v = s.advanceTo (w.gs.getLast?.getD w.at0 + 200000) → v.windowMay m = false → exec (.calWindowEnd n x y) s = .next (State.finish s
    (v.windowStop m))) ∧
  (∀ (s v : State) (n : Fin 64) (x y : CalWin) (w : CalRun) (gain off : Int), s.awake = true → s.lead n = n.val → s.paired n = false → (s.swc
    n).driving = true → (s.swc n).win = some w → 4 ≤ w.gs.length → v = s.advanceTo (w.gs.getLast?.getD w.at0 + 200000) → v.windowMay n = true → gain
    = roundDiv (2 * x.j - (x.p1 + x.p2) - 2000000) 20 → off = roundDiv ((x.p1 + x.p2) + 2 * x.x) 1000 → exec (.calWindowEnd n x y) s = .next
    (State.finish s (v.windowResult n (some gain) off (decide ((x.p1 - x.p2).natAbs ≤ 10000) && near (signed 16 (v.fld F.CAL_CH_FACT_GAIN n)) gain 3
    && decide (off.natAbs ≤ 600))))) ∧
  (∀ (s v : State) (n : Fin 64) (x y : CalWin) (w : CalRun) (off : Int), s.awake = true → s.lead n = n.val → s.paired n = false → (s.swc n).driving
    = false → (s.swc n).win = some w → 2 ≤ w.gs.length → v = s.advanceTo (w.gs.getLast?.getD w.at0 + 200000) → v.windowMay n = true → off = roundDiv
    (x.p1 + x.x) 500 → exec (.calWindowEnd n x y) s = .next (State.finish s (v.windowResult n none off (decide (off.natAbs ≤ 600))))) ∧
  (∀ (s v : State) (n : Fin 64) (m : Nat) (x y : CalWin) (w : CalRun) (gain : Int), s.awake = true → m = s.lead n → s.paired n = true → (s.swc
    m).driving = true → (s.swc m).win = some w → 4 ≤ w.gs.length → v = s.advanceTo (w.gs.getLast?.getD w.at0 + 200000) → v.windowMay m = true → gain
    = roundDiv ((2 * x.j - (x.p1 + x.p2)) + (2 * y.j - (y.p1 + y.p2)) - 4000000) 40 → exec (.calWindowEnd n x y) s = .next (State.finish s (v.each
    ((v.cells m).zip [x, y]) fun s z => s.windowResult z.1 (some gain) (roundDiv ((z.2.p1 + z.2.p2) + 2 * z.2.x) 1000) (decide ((x.p1 - x.p2).natAbs
    ≤ 10000) && decide ((y.p1 - y.p2).natAbs ≤ 10000) && near (signed 16 (s.fld F.CAL_CH_FACT_GAIN z.1)) gain 3 && decide ((roundDiv ((z.2.p1 +
    z.2.p2) + 2 * z.2.x) 1000).natAbs ≤ 600))))) ∧
  (∀ (s : State) (a : Acc), s.granted a .CAL_CTRL (0) → inRange 1 10 (F.CAL_CTRL_PERIOD.of (s.rd .CAL_CTRL 0)) = true → ∃ n : Word, exec (.calRevert
    (.reg a)) s = .next (State.finish s (s.wrote a .CAL_CTRL (0) fun s => ((s.wr .CAL_CTRL 0 n).calRevert, 0)))) ∧
  (∀ (s : State) (a : Acc), s.granted a .CAL_CTRL (0) → inRange 1 10 (F.CAL_CTRL_PERIOD.of (s.rd .CAL_CTRL 0)) = true → ∃ n : Word, exec
    (.calReenable (.reg a)) s = .next (State.finish s (s.wrote a .CAL_CTRL (0) fun s => (((s.wr .CAL_CTRL 0 n).reenableUnit .cal).1, if ((s.wr
    .CAL_CTRL 0 n).reenableUnit .cal).2 then 0x08000022 else 0)))) ∧
  (∀ (s : State) (x : Fin 2) (gain off fact : Int), s.calMay = true → s.awake = true → s.flag F.CAL_CTRL_BOOST_EN = true → fact = (if s.cal.factGood
    then ((lookup x.val s.cal.factB).getD (0, 0)).1 else 0) → 100 * (gain - fact).natAbs ≤ 2 * (100000 + fact).natAbs → exec (.boostSenseCal x gain
    off) s = .next (State.finish s ((s.wr (if x.val = 0 then .CAL_BOOST_A else .CAL_BOOST_B) 0 (BitVec.ofNat 32 (satSigned 16 gain + satSigned 16
    off * 65536))).clearFault .CAL_BOOST_DRIFT x))) ∧
  (∀ (s : State) (x : Fin 2) (gain off fact : Int), s.calMay = true → s.awake = true → s.flag F.CAL_CTRL_BOOST_EN = true → fact = (if s.cal.factGood
    then ((lookup x.val s.cal.factB).getD (0, 0)).1 else 0) → 2 * (100000 + fact).natAbs < 100 * (gain - fact).natAbs → s.active .CAL_BOOST_DRIFT x
    = false → exec (.boostSenseCal x gain off) s = .next (State.finish s ((s.setFlag F.CAL_EVT_BOOST_DRIFT).raise .CAL_BOOST_DRIFT x))) ∧
  (∀ (s : State) (g : Fin 6) (onV offV : Nat) (t3 : Bool), s.powered = true → s.isSafe .cal = false → s.flag F.CAL_CTRL_DI_EN = true → t3 = (s.flag
    F.DIO_GRP_CFG_TYPE g && !s.isSafe (.dioGrp g)) → ((onV : Int) - (if t3 then 8000 else 11000)).natAbs ≤ 400 → ((offV : Int) - (if t3 then 6500
    else 9000)).natAbs ≤ 400 → exec (.diThresholdCheck g onV offV) s = .next (State.finish s ((s.setBit F.CAL_DI_FAIL 0 g false).clearFault
    .CAL_DI_THRESH g))) ∧
  (∀ (s : State) (g : Fin 6) (onV offV : Nat) (t3 : Bool), s.powered = true → s.isSafe .cal = false → s.flag F.CAL_CTRL_DI_EN = true → t3 = (s.flag
    F.DIO_GRP_CFG_TYPE g && !s.isSafe (.dioGrp g)) → 400 < ((onV : Int) - (if t3 then 8000 else 11000)).natAbs ∨ 400 < ((offV : Int) - (if t3 then
    6500 else 9000)).natAbs → s.active .CAL_DI_THRESH g = false → exec (.diThresholdCheck g onV offV) s = .next (State.finish s (((s.setBit
    F.CAL_DI_FAIL 0 g).setFlag F.CAL_EVT_DI_THRESH).raise .CAL_DI_THRESH g))) ∧
  (∀ (s : State) (n : Fin 64), s.awake = true → s.conducting n = true → exec (.calStale n) s = .next (State.finish s ((s.advanceTo ((lookup n.val
    s.cal.accAt).getD (s.swc (s.lead n)).onAt + sec 60)).setFlag F.CAL_CH_STAT_STALE n)))

/-- The pull-up is applied 2 ms after a permitted channel turned off; each diagnosis raises its flag, its event and its fault once while its
  condition holds (R247 to R250), and its end clears flag and fault; the on-state diagnosis needs 10 ms of a low current, in PWM of at least two
  evaluated periods, and its end 10 ms of a higher one. Completes pullupApply, openLoadOff, shortToFeed, openLoadOn, openLoadOffClear,
  shortToFeedClear, openLoadOnClear. -/
def Obligations.LoadDiagnostics : Prop :=
  (∀ (s : State) (n : Fin 64) (m : Nat), s.awake = true → m = s.lead n → s.diagMay m F.CAL_CH_DIAG_OFF_EN = true → s.offState m = true → s.powered =
    true → exec (.pullupApply n) s = .next (State.finish s ((s.advanceTo ((s.swc m).offAt + ms 2)).setFlag F.CAL_CH_DSTAT_PULLUP m))) ∧
  (∀ (s v : State) (n : Fin 64) (m : Nat) (vout : Int), s.awake = true → m = s.lead n → v = s.setFld F.CAL_CH_DSTAT_VOUT m (satSigned 16 vout) → 250
    < vout → v.diagMay m F.CAL_CH_DIAG_OFF_EN = true → v.offState m = true → v.flag F.CAL_CH_DSTAT_PULLUP m = true → exec (.openLoadOff n vout) s =
    .next (State.finish s (v.diagSet m F.CAL_CH_DSTAT_OL_OFF F.CAL_CH_DEVT_OL_OFF .OPEN_LOAD_OFF))) ∧
  (∀ (s v : State) (n : Fin 64) (m : Nat) (vout : Int), s.awake = true → m = s.lead n → v = s.setFld F.CAL_CH_DSTAT_VOUT m (satSigned 16 vout) → 600
    ≤ vout → v.diagMay m F.CAL_CH_DIAG_STF_EN = true → v.offState m = true → exec (.shortToFeed n vout) s = .next (State.finish s (v.diagSet m
    F.CAL_CH_DSTAT_STF F.CAL_CH_DEVT_STF .SHORT_TO_FEED))) ∧
  (∀ (s v : State) (n : Fin 64) (m t k : Nat), s.awake = true → m = s.lead n → (s.swc m).low = some (t, k) → s.diagMay m F.CAL_CH_DIAG_ON_EN = true
    → s.conducting m = true → (s.swc m).st = 1 ∨ 2 ≤ k → v = s.advanceTo (t + ms 10) → exec (.openLoadOn n) s = .next (State.finish s (if v.flag
    F.CAL_CH_DSTAT_OL_ON m then v else ((v.setFlag F.CAL_CH_DSTAT_OL_ON m).setFlag F.CAL_CH_DEVT_OL_ON m).raise .OPEN_LOAD_ON m [] (sec 1)))) ∧
  (∀ (s : State) (n : Fin 64), s.awake = true → exec (.openLoadOffClear n) s = .next (State.finish s ((s.setFlag F.CAL_CH_DSTAT_OL_OFF (s.lead n)
    false).clearFault .OPEN_LOAD_OFF (s.lead n)))) ∧
  (∀ (s : State) (n : Fin 64), s.awake = true → exec (.shortToFeedClear n) s = .next (State.finish s ((s.setFlag F.CAL_CH_DSTAT_STF (s.lead n)
    false).clearFault .SHORT_TO_FEED (s.lead n)))) ∧
  (∀ (s : State) (n : Fin 64) (m t : Nat), s.awake = true → m = s.lead n → (s.swc m).high = some t → exec (.openLoadOnClear n) s = .next
    (State.finish s (((s.advanceTo (t + ms 10)).setFlag F.CAL_CH_DSTAT_OL_ON m false).clearFault .OPEN_LOAD_ON m)))

/-- A limit that acts (the average input power at PLIMIT, or the input current at its limit, R255) sets PLIM, keeps the average and raises
  BOOST_PWR_LIMIT, and its end clears both; a rail above 76.0 V latches OV, ends READY and stops the boost; a clear of the latch lets it start
  again; a boost that is not ready 50 ms after it began to switch raises BOOST_START_FAIL once; a rail at 95 % of the target becomes ready and one
  below is not; the end of a boost wait takes the fallback. Completes boostPwrLimit, boostPwrLimitEnd, boostOvervolt, boostOvClear, boostStartFail,
  boostReady, boostWaitExpiry. -/
def Obligations.Boosts : Prop :=
  (∀ (s : State) (x : Fin 2) (p cur v : Nat), s.awake = true → s.flag F.INJ_BST_STAT_RUN x = true → s.bstLimits p cur = true → exec (.boostPwrLimit
    x p cur v) s = .next (State.finish s ((((s.setFld F.INJ_BST_PWR_PAVG x (Nat.min 4095 p)).setFlag F.INJ_BST_STAT_PLIM x).railVolt x v).raise
    .BOOST_PWR_LIMIT x [] (sec 10)))) ∧
  (∀ (s : State) (x : Fin 2) (p cur v : Nat), s.awake = true → s.flag F.INJ_BST_STAT_RUN x = false ∨ s.bstLimits p cur = false → exec
    (.boostPwrLimit x p cur v) s = .next (State.finish s (s))) ∧
  (∀ (s : State) (x : Fin 2) (p cur v : Nat), s.awake = true → s.bstLimits p cur = false → exec (.boostPwrLimitEnd x p cur v) s = .next
    (State.finish s ((((s.setFld F.INJ_BST_PWR_PAVG x (Nat.min 4095 p)).setFlag F.INJ_BST_STAT_PLIM x false).railVolt x v).clearFault
    .BOOST_PWR_LIMIT x))) ∧
  (∀ (s : State) (x : Fin 2) (v : Nat), s.awake = true → 760 < v → s.flag F.INJ_BST_STAT_OV x = false → exec (.boostOvervolt x v) s = .next
    (State.finish s (((((s.setFld F.INJ_BST_STAT_VOUT x (Nat.min 1023 v)).setFlag F.INJ_BST_STAT_OV x).setFlag F.INJ_BST_STAT_READY x
    false).bstRefresh x).raise .BOOST_OVERVOLT x))) ∧
  (∀ (s : State) (x : Fin 2) (v : Nat), s.awake = true → v ≤ 760 → exec (.boostOvervolt x v) s = .next (State.finish s (s))) ∧
  (∀ (s : State) (a : Acc) (x : Fin 2), s.granted a .INJ_BST_STAT (x) → exec (.boostOvClear (.reg a) x) s = .next (State.finish s (s.wrote a
    .INJ_BST_STAT (x) fun s => (((s.setFlag F.INJ_BST_STAT_OV x false).clearFault .BOOST_OVERVOLT x).bstRefresh x, 0)))) ∧
  (∀ (s : State) (x : Fin 2) (t : Nat), s.awake = true → lookup x.val s.inj.enAt = some t → s.active .BOOST_START_FAIL x = false → exec
    (.boostStartFail x) s = .next (State.finish s ((s.advanceTo (t + ms 50)).raise .BOOST_START_FAIL x))) ∧
  (∀ (s : State) (x : Fin 2) (v : Nat), s.awake = true → s.flag F.INJ_BST_STAT_RUN x = true → s.flag F.INJ_BST_STAT_OV x = false → 95 * s.fld
    F.INJ_BST_CFG_VTGT x ≤ 100 * v → exec (.boostReady x v) s = .next (State.finish s ((s.setFld F.INJ_BST_STAT_VOUT x (Nat.min 1023 v)).boostReady
    x))) ∧
  (∀ (s : State) (x : Fin 2) (v : Nat), s.awake = true → 100 * v < 95 * s.fld F.INJ_BST_CFG_VTGT x → exec (.boostReady x v) s = .next (State.finish
    s ((s.setFld F.INJ_BST_STAT_VOUT x (Nat.min 1023 v)).setFlag F.INJ_BST_STAT_READY x false))) ∧
  (∀ (s : State) (c : Fin 24) (r : ValveRun) (t : Nat), s.awake = true → (s.injc c).run = some r → r.waitBst = some t → exec (.boostWaitExpiry c) s
    = .next (State.finish s (((s.advanceTo (t + s.bankBw (bankOf c))).bstFallback c).bankCheck (bankOf c))))

/-- A direct command in Operate or Service with a duration of 1 to 1,000,000 µs brings an event to its channel and is refused in other modes and
  with other durations; an abort reaches the channel's event; a phase that ends by time starts the next one or the end decay, a boost peak that ends
  by time is OPEN_COIL, one that is reached goes on and one that is reached before TRISE_MIN is a short; command end starts the end decay; the end
  of the decay ends the event, with its closing delay where the kink lies in the search window, and the eighth miss in a row raises
  VALVE_NOT_CLOSED; the passing of the minimum off-time and of a deferral rechecks the bank. How the high side chops between two commands and how a
  kink is found in samples are the model's (log 106, 107). Completes directCommand, injAbort, phaseEnd, commandEnd, valveEventEnd, minOffPass,
  deferExpiry. -/
def Obligations.ValveEvents : Prop :=
  (∀ (s : State) (a : Acc) (c : Fin 24) (last : Fin 32) (dur : Nat), s.granted a .INJ_CH_CMD (c) → s.live = true → 1 ≤ dur → dur ≤ 1000000 → ∃ n :
    Word, exec (.directCommand (.reg a) c last dur) s = .next (State.finish s (s.wrote a .INJ_CH_CMD (c) fun s => ((s.wr .INJ_CH_CMD c
    n).valveArrive c { ent := none, last := last, dur := dur, req := s.now }, 0)))) ∧
  (∀ (s : State) (a : Acc) (c : Fin 24) (last : Fin 32) (dur : Nat), s.granted a .INJ_CH_CMD (c) → s.live = false → 1 ≤ dur → dur ≤ 1000000 → ∃ n :
    Word, exec (.directCommand (.reg a) c last dur) s = .next (State.finish s (s.wrote a .INJ_CH_CMD (c) fun s => ((s.wr .INJ_CH_CMD c n).setFlag
    F.INJ_CH_EVT_CMD_REFUSED c, 0x08000022)))) ∧
  (∀ (s : State) (a : Acc) (c : Fin 24) (last : Fin 32) (dur : Nat), s.granted a .INJ_CH_CMD (c) → dur = 0 ∨ (1000000 < dur ∧ dur < 2 ^ 20) → ∃ n :
    Word, exec (.directCommand (.reg a) c last dur) s = .next (State.finish s (s.wrote a .INJ_CH_CMD (c) fun s => ((s.wr .INJ_CH_CMD c n).setFlag
    F.INJ_CH_EVT_CMD_REFUSED c, 0x06090030)))) ∧
  (∀ (s : State) (a : Acc) (c : Fin 24), s.granted a .INJ_CH_CMD (c) → ∃ n : Word, exec (.injAbort (.reg a) c) s = .next (State.finish s (s.wrote a
    .INJ_CH_CMD (c) fun s => ((s.wr .INJ_CH_CMD c n).valveAbort c, 0)))) ∧
  (∀ (s v : State) (c : Fin 24) (i : Shunt) (r : ValveRun) (w : Nat), s.awake = true → v = s.chop (bankOf c) s.now i → (v.injc c).run = some r →
    r.phs[r.phase]? = some w → r.decay = false → r.waitBst = none → 2 ≤ phType w ∨ r.degraded = true → phType w ≠ 2 ∨ phTime w ≠ 0 → r.phAt + us
    (phTime w) < r.cmdEnd → r.phase + 1 < r.phs.length → exec (.phaseEnd c false i) s = .next (State.finish s ((((v.advanceTo (r.phAt + us (phTime
    w))).setInjc c { v.injc c with run := some r }).beginPhase c (r.phase + 1)).bankCheck (bankOf c)))) ∧
  (∀ (s v : State) (c : Fin 24) (i : Shunt) (r : ValveRun) (w : Nat), s.awake = true → v = s.chop (bankOf c) s.now i → (v.injc c).run = some r →
    r.phs[r.phase]? = some w → r.decay = false → r.waitBst = none → 2 ≤ phType w ∨ r.degraded = true → phType w ≠ 2 ∨ phTime w ≠ 0 → r.phAt + us
    (phTime w) < r.cmdEnd → r.phs.length ≤ r.phase + 1 → exec (.phaseEnd c false i) s = .next (State.finish s ((((v.advanceTo (r.phAt + us (phTime
    w))).setInjc c { v.injc c with run := some r }).toDecay c 0 false).bankCheck (bankOf c)))) ∧
  (∀ (s v : State) (c : Fin 24) (i : Shunt) (r : ValveRun) (w : Nat), s.awake = true → v = s.chop (bankOf c) s.now i → (v.injc c).run = some r →
    r.phs[r.phase]? = some w → r.decay = false → r.waitBst = none → phType w ≤ 1 → r.degraded = false → r.phAt + us (phTime w) < r.cmdEnd → exec
    (.phaseEnd c false i) s = .next (State.finish s ((((((v.advanceTo (r.phAt + us (phTime w))).setInjc c { v.injc c with run := some r }).setFlag
    F.INJ_CH_EVT_OPEN c).raise .OPEN_COIL c [] (sec 1)).toDecay c 2 false).bankCheck (bankOf c)))) ∧
  (∀ (s v : State) (c : Fin 24) (i : Shunt) (r : ValveRun) (w : Nat), s.awake = true → v = s.chop (bankOf c) s.now i → (v.injc c).run = some r →
    r.phs[r.phase]? = some w → r.decay = false → r.waitBst = none → phType w ≤ 1 → r.tpeak = none → us (v.fld F.INJ_CH_PROT_TRISE_MIN c) ≤ v.now -
    r.phAt → r.phase + 1 < r.phs.length → exec (.phaseEnd c true i) s = .next (State.finish s (((v.setInjc c
    { v.injc c with run := some { r with tpeak := some ((v.now - r.phAt) / 1000) } }).beginPhase c (r.phase + 1)).bankCheck (bankOf c)))) ∧
  (∀ (s v : State) (c : Fin 24) (i : Shunt) (r : ValveRun) (w : Nat), s.awake = true → v = s.chop (bankOf c) s.now i → (v.injc c).run = some r →
    r.phs[r.phase]? = some w → r.decay = false → r.waitBst = none → phType w ≤ 1 → r.tpeak = none → v.now - r.phAt < us (v.fld
    F.INJ_CH_PROT_TRISE_MIN c) → exec (.phaseEnd c true i) s = .next (State.finish s ((v.setInjc c
    { v.injc c with run := some { r with tpeak := some ((v.now - r.phAt) / 1000) } }).coilShort c))) ∧
  (∀ (s v : State) (c : Fin 24) (b : Bool) (i : Shunt), s.awake = true → v = s.chop (bankOf c) s.now i → (v.injc c).run = none → exec (.phaseEnd c b
    i) s = .next (State.finish s (v))) ∧
  (∀ (s v : State) (c : Fin 24) (i : Shunt) (r : ValveRun), s.awake = true → v = s.chop (bankOf c) s.now i → (v.injc c).run = some r → r.decay =
    false → exec (.commandEnd c i) s = .next (State.finish s (((v.advanceTo r.cmdEnd).toDecay c 0 false).bankCheck (bankOf c)))) ∧
  (∀ (s : State) (c : Fin 24) (x : Decay) (r : ValveRun), s.awake = true → (s.injc c).run = some r → r.decay = true → r.fast = true → exec
    (.valveEventEnd c x) s = .next (State.finish s (((s.advanceTo (r.decayAt + x.tail)).endEvent c r.result 0xFFFF).bankCheck (bankOf c)))) ∧
  (∀ (s v : State) (c : Fin 24) (x : Decay) (r : ValveRun) (w : Nat × Nat) (off : Nat), s.awake = true → (s.injc c).run = some r → r.decay = true →
    r.fast = false → w = s.closeWin c r → off = r.lowOff w x → hdrClose r.hdr = false ∨ w.2 ≤ w.1 ∨ off ≤ us w.1 → v = s.advanceTo (r.decayAt + off
    + (if x.below ≤ off then 0 else x.tail)) → exec (.valveEventEnd c x) s = .next (State.finish s ((v.endEvent c r.result 0xFFFF).bankCheck (bankOf
    c)))) ∧
  (∀ (s v : State) (c : Fin 24) (x : Decay) (r : ValveRun) (w : Nat × Nat) (off t k : Nat), s.awake = true → (s.injc c).run = some r → r.decay =
    true → r.fast = false → w = s.closeWin c r → off = r.lowOff w x → hdrClose r.hdr = true → w.1 < w.2 → us w.1 < off → v = s.advanceTo (r.decayAt
    + off + (if x.below ≤ off then 0 else x.tail)) → kinkIn x.volts (us w.1) (Nat.min (us w.2) off) = some t → k = (t + 500) / 1000 → exec
    (.valveEventEnd c x) s = .next (State.finish s ((((v.setInjc c
    { v.injc c with closes := (k :: (v.injc c).closes).take 8, misses := 0 }).clearFault .VALVE_NOT_CLOSED c).endEvent c r.result k).bankCheck
    (bankOf c)))) ∧
  (∀ (s v : State) (c : Fin 24) (x : Decay) (r : ValveRun) (w : Nat × Nat) (off : Nat) (y : State), s.awake = true → (s.injc c).run = some r →
    r.decay = true → r.fast = false → w = s.closeWin c r → off = r.lowOff w x → hdrClose r.hdr = true → w.1 < w.2 → us w.1 < off → v = s.advanceTo
    (r.decayAt + off + (if x.below ≤ off then 0 else x.tail)) → kinkIn x.volts (us w.1) (Nat.min (us w.2) off) = none → y = v.setInjc c
    { v.injc c with misses := (v.injc c).misses + 1 } → exec (.valveEventEnd c x) s = .next (State.finish s (((if (v.injc c).misses = 7 then
    (y.setFlag F.INJ_CH_EVT_NOT_CLOSED c).raise .VALVE_NOT_CLOSED c else y).endEvent c r.result 0xFFFF).bankCheck (bankOf c)))) ∧
  (∀ (s : State) (c : Fin 24), s.awake = true → exec (.minOffPass c) s = .next (State.finish s ((s.advanceTo (s.minOffAt c)).bankCheck (bankOf c)))) ∧
  (∀ (s : State) (c : Fin 24) (w : ValveEv), s.awake = true → (s.injc c).wait = some w → exec (.deferExpiry c) s = .next (State.finish s
    ((s.advanceTo (w.req + s.deferNs (bankOf c))).bankCheck (bankOf c))))

/-- A coil short latches its channel and ends its event through the fast decay; a release takes effect only on a latched channel without a running
  event; a high-side short ends every event of its bank and latches it until it is cleared; a write to a word of a last is judged whole by R260, and
  an accepted one stores the word; REENABLE of the INJ block answers as the block's own rule says. Completes coilShort, coilShortRelease, hsbShort,
  hsbShortClear, injReenable, lastWrite. -/
def Obligations.ValveFaultsAndLasts : Prop :=
  (∀ (s : State) (c : Fin 24), s.awake = true → (s.injc c).run = none → exec (.coilShort c) s = .next (State.finish s (((((s.setInjc c
    { s.injc c with latched := true }).setFlag F.INJ_CH_EVT_SHORT c).raise .COIL_SHORT c).rejectWait c 10).bankCheck (bankOf c)))) ∧
  (∀ (s : State) (c : Fin 24) (r : ValveRun), s.awake = true → (s.injc c).run = some r → exec (.coilShort c) s = .next (State.finish s
    (((((s.setInjc c
    { s.injc c with run := some { r with decay := true, decayAt := s.now, cmdEnd := Nat.min r.cmdEnd s.now, fast := true, result := 3, waitBst := none }, latched := true }).setFlag
    F.INJ_CH_EVT_SHORT c).raise .COIL_SHORT c).rejectWait c 10).bankCheck (bankOf c)))) ∧
  (∀ (s : State) (a : Acc) (c : Fin 24), s.granted a .INJ_CH_CMD (c) → (s.injc c).latched = true → (s.injc c).run = none → ∃ n : Word, exec
    (.coilShortRelease (.reg a) c) s = .next (State.finish s (s.wrote a .INJ_CH_CMD (c) fun s => (((s.wr .INJ_CH_CMD c n).setInjc c
    { s.injc c with latched := false }).clearFault .COIL_SHORT c, 0)))) ∧
  (∀ (s : State) (a : Acc) (c : Fin 24) (r : ValveRun), s.granted a .INJ_CH_CMD (c) → (s.injc c).run = some r → ∃ n : Word, exec (.coilShortRelease
    (.reg a) c) s = .next (State.finish s (s.wrote a .INJ_CH_CMD (c) fun s => (s.wr .INJ_CH_CMD c n, 0)))) ∧
  (∀ (s : State) (b : Fin 6), s.awake = true → exec (.hsbShort b) s = .next (State.finish s (((s.setFlag F.INJ_BANK_STAT_HSB_SHORT b).raise
    .HSB_SHORT b).each (bankChs b) fun s n => (s.toDecay n 3 false).rejectWait n 10))) ∧
  (∀ (s : State) (a : Acc) (b : Fin 6), s.granted a .INJ_BANK_STAT (b) → exec (.hsbShortClear (.reg a) b) s = .next (State.finish s (s.wrote a
    .INJ_BANK_STAT (b) fun s => ((s.setFlag F.INJ_BANK_STAT_HSB_SHORT b false).clearFault .HSB_SHORT b, 0)))) ∧
  (∀ (s : State) (a : Acc), s.granted a .INJ_GLB_CTRL (0) → exec (.injReenable a) s = .next (State.finish s (s.wrote a .INJ_GLB_CTRL (0) fun s =>
    refusedAs 0x08000022 (s.reenableUnit .inj)))) ∧
  (∀ (s : State) (a : Acc) (l : Fin 32) (v : Nat), s.granted a .INJ_LAST_HDR (l) → exec (.lastWrite (.reg a) l 0 v) s = .next (State.finish s
    (s.wrote a .INJ_LAST_HDR (l) fun s => refusedAs 0x06090030 (s.lastWrite l 0 (s.merge .INJ_LAST_HDR (l) (BitVec.ofNat 32 v) 0xFFFFFFFF).toNat)))) ∧
  (∀ (s : State) (a : Acc) (l : Fin 32) (k : Fin 8) (v : Nat), s.granted a .INJ_LAST_PH (8 * l + k) → exec (.lastWrite (.reg a) l k.succ v) s =
    .next (State.finish s (s.wrote a .INJ_LAST_PH (8 * l + k) fun s => refusedAs 0x06090030 (s.lastWrite l (k + 1) (s.merge .INJ_LAST_PH (8 * l + k)
    (BitVec.ofNat 32 v) 0xFFFFFFFF).toNat)))) ∧
  (∀ (s : State) (a : Acc) (l : Fin 32) (v m : Nat), s.granted a .INJ_LAST_HDR (l) → m = (s.merge .INJ_LAST_HDR (l) (BitVec.ofNat 32 v)
    0xFFFFFFFF).toNat → hdrOk m = true → m % 16 = 0 ∨ phasesOk ((List.range (m % 16)).map fun k => (s.rd .INJ_LAST_PH (l * 8 + k)).toNat) = true →
    exec (.lastWrite (.reg a) l 0 v) s = .next (State.finish s (s.wrote a .INJ_LAST_HDR (l) fun s => (s.wr .INJ_LAST_HDR l (BitVec.ofNat 32 (m / 256
    * 256 + m % 64)), 0)))) ∧
  (∀ (s : State) (a : Acc) (l : Fin 32) (k : Fin 8) (v h m : Nat), s.granted a .INJ_LAST_PH (8 * l + k) → m = (s.merge .INJ_LAST_PH (8 * l + k)
    (BitVec.ofNat 32 v) 0xFFFFFFFF).toNat → h = (s.rd .INJ_LAST_HDR l).toNat → h % 16 ≤ k ∨ phasesOk ((List.range (h % 16)).map fun j => if j =
    k.val then m else (s.rd .INJ_LAST_PH (l * 8 + j)).toNat) = true → exec (.lastWrite (.reg a) l k.succ v) s = .next (State.finish s (s.wrote a
    .INJ_LAST_PH (8 * l + k) fun s => (s.wr .INJ_LAST_PH (8 * l + k) (BitVec.ofNat 32 (m % 2147483648)), 0))))

/-- A write of EVE_CMD issues a direct event, accepted with status 0 and stored where the block, the mode, the time and the parameters allow it
  (R296, R297), aborts the entry that the handle names or refuses a handle that names none, or aborts every entry; a speculative entry commits at
  its horizon; a committed one leaves at its start with result ABORTED where it was aborted and else reaches its valve or switch channel; a switch
  event ends when its duration has passed. Completes eventCommand, eventAbort, eventAbortAll, eventCommit, eventDeliver, switchEventEnd,
  eventReenable. -/
def Obligations.EventEngine : Prop :=
  (∀ (s : State) (a : Acc) (asap : Bool), s.granted a .EVE_CMD (0) → ∃ n : Word, exec (.eventCommand a asap) s = .next (State.finish s (s.wrote a
    .EVE_CMD (0) fun s => ((s.wr .EVE_CMD 0 n).eveGo asap, 0)))) ∧
  (∀ (s : State) (a : Acc) (asap : Bool) (t : Nat) (e : EvEnt), s.granted a .EVE_CMD (0) → t = (s.rd .EVE_CMD_TLO).toNat + (s.rd .EVE_CMD_THI).toNat
    * 2 ^ 32 → s.timeOk = true → s.flag F.EVE_CTRL_EN = true → s.live = true → s.isSafe .eve = false → 0 ≤ diff64 t ((s.logical + us 50) % 2 ^ 64) →
    diff64 t s.logical ≤ ((sec 100 : Nat) : Int) → e =
    { st := 1, gen := 0, target := s.fld F.EVE_CMD_SPEC_TARGET, value := s.fld F.EVE_CMD_SPEC_VALUE, dur := s.fld F.EVE_CMD_DUR_DUR, start := t, src := 0, late := false }
    → s.badEvent e.target e.value e.dur = false → s.eve.store.length < 4096 → Completes (.eventCommand a asap) s fun u => u.fld F.EVE_CMD_RES_STATUS
    = 0 ∧ u.eve.store.length = s.eve.store.length + 1) ∧
  (∀ (s : State) (a : Acc) (h : Fin 65536), s.granted a .EVE_CMD (0) → s.byHandle h = none → ∃ n : Word, exec (.eventAbort (.reg a) h) s = .next
    (State.finish s (s.wrote a .EVE_CMD (0) fun s => ((s.wr .EVE_CMD 0 n).setFld F.EVE_CMD_RES_STATUS 0 6, 0x06090030)))) ∧
  (∀ (s : State) (a : Acc) (h : Fin 65536) (i : Nat) (e : EvEnt), s.granted a .EVE_CMD (0) → s.byHandle h = some (i, e) → ∃ n : Word, exec
    (.eventAbort (.reg a) h) s = .next (State.finish s (s.wrote a .EVE_CMD (0) fun s => ((s.wr .EVE_CMD 0 n).abortEnt i, 0)))) ∧
  (∀ (s : State) (a : Acc), s.granted a .EVE_CMD (0) → ∃ n : Word, exec (.eventAbortAll (.reg a)) s = .next (State.finish s (s.wrote a .EVE_CMD (0)
    fun s => ((s.wr .EVE_CMD 0 n).eveAbortAll, 0)))) ∧
  (∀ (s : State) (i : Nat) (e : EvEnt), s.awake = true → s.ent i = some e → e.st = 1 → exec (.eventCommit i) s = .next (State.finish s (((s.reach
    ((e.start + 2 ^ 64 - s.horizonNs) % 2 ^ 64)).setEnt i { e with st := 2 }).bump F.EVE_CNT1_COMMIT))) ∧
  (∀ (s : State) (i : Nat), s.awake = true → s.ent i = none → exec (.eventCommit i) s = .next (State.finish s (s))) ∧
  (∀ (s v : State) (i : Nat) (e : EvEnt), s.awake = true → s.ent i = some e → e.st = 2 → v = (if e.late then (s.reach e.start).setFlag
    F.EVE_EVT_LATE else s.reach e.start) → e.aborted = true → exec (.eventDeliver i) s = .next (State.finish s (v.eveResult i 4 0xFFFF 0))) ∧
  (∀ (s v : State) (i : Nat) (e : EvEnt), s.awake = true → s.ent i = some e → e.st = 2 → v = (if e.late then (s.reach e.start).setFlag
    F.EVE_EVT_LATE else s.reach e.start) → e.aborted = false → 64 ≤ e.target → exec (.eventDeliver i) s = .next (State.finish s ((v.setEnt i
    { e with st := 3 }).valveArrive (e.target - 64) { ent := some i, last := e.value % 32, dur := e.dur, req := v.now }))) ∧
  (∀ (s v w : State) (i : Nat) (e : EvEnt) (quiet : Bool) (n : Nat), s.awake = true → s.ent i = some e → e.st = 2 → n = e.target → v = ((if e.late
    then (s.reach e.start).setFlag F.EVE_EVT_LATE else s.reach e.start).endSwitch n 14) → e.aborted = false → n < 64 → quiet = (v.anyHold n ||
    (v.gov n).isSome || (v.reflexOn n).isSome || v.gateShut n || v.extracting || v.isSafe .boll) → w = v.setEnt i
    { e with st := 3, ends := v.now + us e.dur, result := if quiet then 15 else 0 } → quiet = true ∨ e.value = 4095 → exec (.eventDeliver i) s =
    .next (State.finish s ((w.setEve
    { w.eve with sw := (n, ⟨i, if e.value = 4095 then { mode := 1 } else { mode := 2, duty := e.value, period := v.fld F.SW_PWM_PERIOD n, phase := 0, anchor := some ((v.now - v.clk.g0 + 24) / 25) }, quiet⟩) :: w.eve.sw }).refresh
    n))) ∧
  (∀ (s v w : State) (i : Nat) (e : EvEnt) (n : Nat), s.awake = true → s.ent i = some e → e.st = 2 → n = e.target → v = ((if e.late then (s.reach
    e.start).setFlag F.EVE_EVT_LATE else s.reach e.start).endSwitch n 14) → e.aborted = false → n < 64 → (v.anyHold n || (v.gov n).isSome ||
    (v.reflexOn n).isSome || v.gateShut n || v.extracting || v.isSafe .boll) = false → e.value ≠ 4095 → w = v.setEnt i
    { e with st := 3, ends := v.now + us e.dur, result := 0 } → exec (.eventDeliver i) s = .next (State.finish s (((w.setEve
    { w.eve with sw := (n, ⟨i, { mode := 2, duty := e.value, period := v.fld F.SW_PWM_PERIOD n, phase := 0, anchor := some ((v.now - v.clk.g0 + 24) / 25) }, false⟩) :: w.eve.sw }).refresh
    n).periodStart n))) ∧
  (∀ (s : State) (c : Fin 64) (e : SwEv) (x : EvEnt), s.awake = true → s.swEv c = some e → s.ent e.ent = some x → exec (.switchEventEnd c) s = .next
    (State.finish s ((s.advanceTo x.ends).endSwitch c x.result))) ∧
  (∀ (s : State) (a : Acc), s.granted a .EVE_CTRL (0) → inRange 200 10000 (s.fld F.EVE_CTRL_HORIZON) = true → ∃ n : Word, exec (.eventReenable a) s
    = .next (State.finish s (s.wrote a .EVE_CTRL (0) fun s => (((s.wr .EVE_CTRL 0 n).reenableUnit .eve).1, if ((s.wr .EVE_CTRL 0 n).reenableUnit
    .eve).2 then 0x08000022 else 0))))

/-- A record written to an open stream is appended and is its newest; one for a closed stream changes nothing of the stream; the oldest record of a
  moving stream is expanded once one of its events is within RUN_AHEAD, its events accepted but for those that are late or bad; the 1 ms update, the
  loss of the speed source, the host's speed, the odometer and the closing of a stream act as their rules say. Completes streamRecord,
  recordExpansion, speedEstimateUpdate, speedLoss, hostSpeed, odometerSet, streamClose. -/
def Obligations.Streams : Prop :=
  (∀ (s : State) (a : Acc) (t : Fin 8) (w : Nat), s.granted a .EVE_ST_RECLO (t) → s.granted a .EVE_ST_RECHI (t) → w < 2 ^ 64 → s.flag
    F.EVE_ST_CTRL_OPEN t = true → s.live = true → s.clk.bDown = none → (s.strm t).recs.length < 256 → (s.strm t).newest = none → Completes
    (.streamRecord (.reg a) t w) s fun u => (u.strm t).recs = (s.strm t).recs ++ [(w % 2 ^ 32, w / 2 ^ 32 % 2 ^ 24, w / 2 ^ 56)] ∧ (u.strm t).newest
    = some (w % 2 ^ 32)) ∧
  (∀ (s : State) (a : Acc) (t : Fin 8) (w : Nat), s.granted a .EVE_ST_RECLO (t) → s.granted a .EVE_ST_RECHI (t) → s.flag F.EVE_ST_CTRL_OPEN t =
    false → Completes (.streamRecord (.reg a) t w) s fun u => u.eve = s.eve) ∧
  (∀ (s : State) (t : Fin 8), s.awake = true → (s.strm t).recs = [] → exec (.recordExpansion t) s = .next (State.finish s (s))) ∧
  (∀ (s v w : State) (t : Fin 8) (r : Nat × Nat × Nat) (rest : List (Nat × Nat × Nat)) (evs keep good : List EvEnt), s.awake = true → (s.strm
    t).recs = r :: rest → evs = s.expand t r → evs = [] ∨ evs.any (fun e => decide (diff64 e.start s.logical ≤ (ms (s.fld F.EVE_ST_CTRL_RUN_AHEAD t)
    : Nat))) = true → s.flag F.EVE_ST_CTRL_OPEN t = true → s.clk.bDown = none → s.timeOk = true → s.flag F.EVE_CTRL_EN = true → s.live = true →
    s.isSafe .eve = false → s.extracting = false → s.moving t = true → keep = evs.filter (fun e => !decide (diff64 e.start s.logical < (s.horizonNs
    : Nat))) → good = keep.filter (fun e => !s.badEvent e.target e.value e.dur) → s.eve.store.length + good.length ≤ s.streamRoom → v = ((s.setStrm
    t { s.strm t with recs := rest }).bump F.EVE_ST_CNT_RECORDS t).each (List.range (keep.length - good.length)) (fun s _ => s.eveRefuse) → w = (if
    evs.length - keep.length = 0 then v else ((v.bump F.EVE_ST_CNT_LATE_DROP t (evs.length - keep.length)).setFlag F.EVE_EVT_LATE_DROP).raise
    .RECORD_LATE t [] (sec 1)) → exec (.recordExpansion t) s = .next (State.finish s (w.each good fun s e => ((s.accept e).map fun x => x.2).getD
    s))) ∧
  (∀ (s v w y : State) (t : Fin 8) (x : Strm) (vel : Nat), s.awake = true → v = s.advanceTo ((s.strm t).upd + ms 1) → vel = (if s.fld
    F.EVE_ST_CTRL_SRC t = 0 then pulseSpeed (s.strm t).pulses (s.fld F.EVE_ST_SCALE_SCALE t) v.now (ms 10 * s.fld F.EVE_ST_CFG2_TIMEOUT t) else if
    (s.strm t).loss then 0 else (s.strm t).v) → x = (if s.fld F.EVE_ST_CTRL_SRC t = 0 then { s.strm t with v := vel, upd := v.now } else
    { s.strm t with v := vel, odo := ((s.strm t).odo + vel * 65536 / 1000) % 2 ^ 48, upd := v.now }) → w = (v.setStrm t x).setFld
    F.EVE_ST_SPEED_SPEED t vel → y = (if w.moving t then w.each (w.eve.store.filter fun z => z.2.st == 1 && z.2.src == t.val + 2) (fun s z =>
    s.retime t z.1) else w.retractAll fun e => e.src == t + 2) → (s.strm t).newest.all (fun p => !(y.flag F.EVE_ST_CTRL_OPEN t && y.moving t &&
    decide (posDiff p (y.strmNow t).mm < 0) && !(s.strm t).under)) = true → exec (.speedEstimateUpdate t) s = .next (State.finish s y)) ∧
  (∀ (s v w y : State) (t : Fin 8) (x : Strm) (vel p : Nat), s.awake = true → v = s.advanceTo ((s.strm t).upd + ms 1) → vel = (if s.fld
    F.EVE_ST_CTRL_SRC t = 0 then pulseSpeed (s.strm t).pulses (s.fld F.EVE_ST_SCALE_SCALE t) v.now (ms 10 * s.fld F.EVE_ST_CFG2_TIMEOUT t) else if
    (s.strm t).loss then 0 else (s.strm t).v) → x = (if s.fld F.EVE_ST_CTRL_SRC t = 0 then { s.strm t with v := vel, upd := v.now } else
    { s.strm t with v := vel, odo := ((s.strm t).odo + vel * 65536 / 1000) % 2 ^ 48, upd := v.now }) → w = (v.setStrm t x).setFld
    F.EVE_ST_SPEED_SPEED t vel → y = (if w.moving t then w.each (w.eve.store.filter fun z => z.2.st == 1 && z.2.src == t.val + 2) (fun s z =>
    s.retime t z.1) else w.retractAll fun e => e.src == t + 2) → (s.strm t).newest = some p → (y.flag F.EVE_ST_CTRL_OPEN t && y.moving t && decide
    (posDiff p (y.strmNow t).mm < 0) && !(s.strm t).under) = true → exec (.speedEstimateUpdate t) s = .next (State.finish s (((y.setStrm t
    { y.strm t with under := true }).setFlag F.EVE_EVT_UNDERRUN).raise .STREAM_UNDERRUN t))) ∧
  (∀ (s : State) (t : Fin 8), s.awake = true → s.fld F.EVE_ST_CTRL_SRC t ≠ 0 → (s.strm t).loss = false → Completes (.speedLoss t) s fun u => ∃ v :
    State, u = v.retractAll (fun e => e.src == t + 2) ∧ v.now = Nat.max s.now ((s.strm t).last + ms 10 * s.fld F.EVE_ST_CFG2_TIMEOUT t) ∧ v.strm t =
    { s.strm t with loss := true, v := 0 } ∧ v.fld F.EVE_ST_SPEED_SPEED t = 0 ∧ v.flag F.EVE_EVT_SPEED_LOSS = true ∧ v.active .SPEED_LOSS t = true) ∧
  (∀ (s : State) (a : Acc) (t : Fin 8) (v : Nat), s.granted a .EVE_ST_SPEED (t) → s.strmTakes t = true → s.fld F.EVE_ST_CTRL_SRC t = 2 → v < 2 ^ 31
    → exec (.hostSpeed (.reg a) t v) s = .next (State.finish s (s.wrote a .EVE_ST_SPEED (t) fun s => (s.speedIn t v, 0)))) ∧
  (∀ (s : State) (a : Acc) (t : Fin 8) (mm : Nat), s.granted a .EVE_ST_ODO (t) → s.strmTakes t = true → mm < 2 ^ 32 → exec (.odometerSet (.reg a) t
    mm) s = .next (State.finish s (s.wrote a .EVE_ST_ODO (t) fun s => (s.setOdo t mm, 0)))) ∧
  (∀ (s : State) (a : Acc) (t : Fin 8) (mm : Nat), s.granted a .EVE_ST_ODO (t) → s.strmTakes t = false → exec (.odometerSet (.reg a) t mm) s = .next
    (State.finish s (s.wrote a .EVE_ST_ODO (t) fun s => (s, 0x08000022)))) ∧
  (∀ (s : State) (a : Acc) (t : Fin 8), s.granted a .EVE_ST_CTRL (t) → s.flag F.EVE_ST_CTRL_OPEN t = true → inRange 100 2000 (s.fld
    F.EVE_ST_CTRL_RUN_AHEAD t) = true → ∃ n : Word, exec (.streamClose (.reg a) t) s = .next (State.finish s (s.wrote a .EVE_ST_CTRL (t) fun s =>
    ((s.wr .EVE_ST_CTRL t n).closeStream t, 0))))

/-- An accepted write of LEDS_CH_OUT keeps duty and code for the next period and ends a fade (R327, R330), and a refused one only says so; a period
  start puts the commanded duty and code in force and notes the end of its on-phase; a fade starts from the duty in force, one of time 0 is a write;
  a step of 4 ms computes its duty to within one code and the last one reaches the target. Which code within one of the exact duty is a free value
  (log 3). Completes ledOutWrite, ledPeriodStart, fadeStart, fadeStep. -/
def Obligations.LedSinks : Prop :=
  (∀ (s : State) (a : Acc) (k : Fin 32) (duty : Bool) (v : Nat), s.granted a .LEDS_CH_OUT (k) → s.extracting = false → s.ledRefused (v % 2 ^ 14) (v
    / 2 ^ 16 % 2 ^ 8) = false → exec (.ledOutWrite (.reg a) k duty v) s = .next (State.finish s (s.wrote a .LEDS_CH_OUT (k) fun s => ((((s.wr
    .LEDS_CH_OUT k (BitVec.ofNat 32 (v % 2 ^ 14 + v / 2 ^ 16 % 2 ^ 8 * 65536))).setLedc k { s.ledc k with fade := none }).setFlag
    F.LEDS_CH_STAT_FADING k false).setFlag F.LEDS_CH_STAT_REFUSED k false, 0)))) ∧
  (∀ (s : State) (a : Acc) (k : Fin 32) (duty : Bool) (v : Nat), s.granted a .LEDS_CH_OUT (k) → s.extracting = true → s.ledRefused (v % 2 ^ 14) (v /
    2 ^ 16 % 2 ^ 8) = false → exec (.ledOutWrite (.reg a) k duty v) s = .next (State.finish s (s.wrote a .LEDS_CH_OUT (k) fun s => ((s.wr
    .LEDS_CH_OUT k (BitVec.ofNat 32 (v % 2 ^ 14 + v / 2 ^ 16 % 2 ^ 8 * 65536))).setFlag F.LEDS_CH_STAT_REFUSED k false, 0)))) ∧
  (∀ (s : State) (a : Acc) (k : Fin 32) (duty : Bool) (v : Nat), s.granted a .LEDS_CH_OUT (k) → s.ledRefused (v % 2 ^ 14) (v / 2 ^ 16 % 2 ^ 8) =
    true → exec (.ledOutWrite (.reg a) k duty v) s = .next (State.finish s (s.wrote a .LEDS_CH_OUT (k) fun s => (s.ledRefuse k, 0x08000022)))) ∧
  (∀ (s v w : State) (k : Fin 32) (t : Nat), s.awake = true → t = s.ledStart k → v = ((s.advanceTo (s.gTime t)).setLedc k
    { s.ledc k with code := s.fld F.LEDS_CH_OUT_CODE k, duty := if (s.ledc k).fade.isSome || s.extracting then (s.ledc k).duty else s.fld F.LEDS_CH_OUT_DUTY k, pers := ((s.ledc k).pers + 1) % 256, pAt := some t })
    → w = v.ledForce k (v.ledWant k) → exec (.ledPeriodStart k) s = .next (State.finish s (w.setLedc k
    { w.ledc k with ends := ((w.ledc k).ends.filter fun e => decide (t ≤ e)) ++ (w.ledPhase k t).toList }))) ∧
  (∀ (s : State) (a : Acc) (k : Fin 32) (target : Fin 16384) (time : Fin 4096), s.granted a .LEDS_CH_FADE (k) → s.ledRefused target (s.fld
    F.LEDS_CH_OUT_CODE k) = false → s.clk.aDown = none → s.clk.bDown = none → s.extracting = false → time.val ≠ 0 → ∃ n : Word, exec (.fadeStart
    (.reg a) k target time) s = .next (State.finish s (s.wrote a .LEDS_CH_FADE (k) fun s => ((((s.wr .LEDS_CH_FADE k n).setFlag
    F.LEDS_CH_STAT_REFUSED k false).setLedc k
    { s.ledc k with duty := s.fld F.LEDS_CH_EDUTY_EDUTY k, fade := some { d0 := s.fld F.LEDS_CH_EDUTY_EDUTY k, target := target, len := 4 * time, at0 := s.now } }).setFlag
    F.LEDS_CH_STAT_FADING k, 0)))) ∧
  (∀ (s : State) (a : Acc) (k : Fin 32) (target : Fin 16384), s.granted a .LEDS_CH_FADE (k) → s.ledRefused target (s.fld F.LEDS_CH_OUT_CODE k) =
    false → s.clk.aDown = none → s.clk.bDown = none → s.extracting = false → ∃ n : Word, exec (.fadeStart (.reg a) k target 0) s = .next
    (State.finish s (s.wrote a .LEDS_CH_FADE (k) fun s => (((((s.wr .LEDS_CH_FADE k n).setFlag F.LEDS_CH_STAT_REFUSED k false).setFld
    F.LEDS_CH_OUT_DUTY k target).setLedc k { s.ledc k with fade := none }).setFlag F.LEDS_CH_STAT_FADING k false, 0)))) ∧
  (∀ (s : State) (a : Acc) (k : Fin 32) (target : Fin 16384) (time : Fin 4096), s.granted a .LEDS_CH_FADE (k) → s.ledRefused target (s.fld
    F.LEDS_CH_OUT_CODE k) = false → s.clk.aDown = none → s.clk.bDown = none → s.extracting = true → ∃ n : Word, exec (.fadeStart (.reg a) k target
    time) s = .next (State.finish s (s.wrote a .LEDS_CH_FADE (k) fun s => ((s.wr .LEDS_CH_FADE k n).setFlag F.LEDS_CH_STAT_REFUSED k false, 0)))) ∧
  (∀ (s v : State) (k : Fin 32) (f : Fade), s.awake = true → (s.ledc k).fade = some f → f.len ≤ 4 * (f.k + 1) → s.extracting = false → v =
    ((((s.advanceTo (f.at0 + ms f.len)).setLedc k { s.ledc k with fade := none, duty := f.target }).setFlag F.LEDS_CH_STAT_FADING k false).setFld
    F.LEDS_CH_OUT_DUTY k f.target) → exec (.fadeStep k) s = .next (State.finish s (v.ledDuty k (v.ledWant k)))) ∧
  (∀ (s v : State) (k : Fin 32) (f : Fade), s.awake = true → (s.ledc k).fade = some f → f.len ≤ 4 * (f.k + 1) → s.extracting = true → v =
    (((s.advanceTo (f.at0 + ms f.len)).setLedc k { s.ledc k with fade := none, duty := f.target }).setFlag F.LEDS_CH_STAT_FADING k false) → exec
    (.fadeStep k) s = .next (State.finish s (v.ledDuty k (v.ledWant k)))) ∧
  (∀ (s : State) (k : Fin 32) (f : Fade) (e : Nat), s.awake = true → (s.ledc k).fade = some f → 4 * (f.k + 1) < f.len → e = fadeDuty f.d0 f.target
    (4 * (f.k + 1)) f.len → Completes (.fadeStep k) s fun u => ∃ d : Nat, d ≤ 16383 ∧ d ≤ e + 1 ∧ (e ≤ d + 1 ∨ d = 16383) ∧ (u.ledc k).duty = d ∧
    (u.ledc k).fade = some { f with k := f.k + 1 } ∧ u.now = Nat.max s.now (f.at0 + ms (4 * (f.k + 1))))

/-- A window at the end of an on-phase shows the sink's voltage and current; the fourth in a row below 0.25 V with the supply up for 10 ms makes a
  sink open, the fourth above VSHORT latches it short; without an on-phase no window falls; without DIAG_EN the counts stand at 0; a release needs
  duty 0; the 4 ms update keeps its factor while the dissipation is at or below the cap, raises it below 95 % and reduces it in proportion above the
  cap; REENABLE answers as the block's rule says. Completes ledWindow, ledShortRelease, foldbackUpdate, ledReenable. -/
def Obligations.LedDiagnosis : Prop :=
  (∀ (s : State) (k : Fin 32) (mv ma : Nat) (sup : Option Nat), s.awake = true → (s.ledc k).ends = [] → exec (.ledWindow k mv ma sup) s = .next
    (State.finish s (s))) ∧
  (∀ (s v w : State) (k : Fin 32) (mv ma : Nat) (sup : Option Nat) (e : Nat) (rest : List Nat) (c : LedCh), s.awake = true → (s.ledc k).ends = e ::
    rest → s.flag F.LEDS_CH_CFG_DIAG_EN k = false → v = (s.advanceTo (s.gTime e)).ledTick → c =
    { s.ledc k with ends := rest, lsupAt := sup.map fun d => v.now - d } → w = v.setLedc k c → exec (.ledWindow k mv ma sup) s = .next (State.finish
    s (((((w.setFld F.LEDS_CH_STAT_VSINK k (Nat.min 1023 (mv / 100))).setFld F.LEDS_CH_STAT_IMEAS k (Nat.min 255 ma)).setFlag F.LEDS_CH_STAT_LOWHR k
    (decide (mv < 600 ∧ ma * 100 < 95 * s.fld F.LEDS_CH_EDUTY_ISET k))).setFlag F.LEDS_CH_STAT_SUSP k (w.ledSusp k)).setLedc k
    { c with low := 0, good := 0, high := 0 }))) ∧
  (∀ (s v w : State) (k : Fin 32) (mv ma : Nat) (sup : Option Nat) (e : Nat) (rest : List Nat), s.awake = true → (s.ledc k).ends = e :: rest → v =
    (s.advanceTo (s.gTime e)).ledTick → w = v.setLedc k { s.ledc k with ends := rest, lsupAt := sup.map fun d => v.now - d } → w.ledSusp k = false →
    s.flag F.LEDS_CH_CFG_DIAG_EN k = true → mv < 250 → mv ≤ 100 * s.fld F.LEDS_CH_CFG_VSHORT k → (s.ledc k).low = 3 → s.flag F.LEDS_CH_STAT_OPEN k =
    false → Completes (.ledWindow k mv ma sup) s fun u => u.flag F.LEDS_CH_STAT_OPEN k = true ∧ u.flag F.LEDS_CH_EVT_OPEN k = true ∧ u.active
    .LED_OPEN k = true ∧ u.fld F.LEDS_CH_STAT_VSINK k = mv / 100 ∧ (u.ledc k).low = 4) ∧
  (∀ (s : State) (k : Fin 32) (mv ma : Nat) (sup : Option Nat) (e : Nat) (rest : List Nat), s.awake = true → (s.ledc k).ends = e :: rest → s.flag
    F.LEDS_CH_CFG_DIAG_EN k = true → 100 * s.fld F.LEDS_CH_CFG_VSHORT k < mv → (s.ledc k).high = 3 → s.flag F.LEDS_CH_STAT_SHORT k = false →
    Completes (.ledWindow k mv ma sup) s fun u => ∃ v : State, u = v.ledRefresh k ∧ v.flag F.LEDS_CH_STAT_SHORT k = true ∧ v.flag
    F.LEDS_CH_EVT_SHORT k = true ∧ v.active .LED_SHORT k = true ∧ (v.ledc k).high = 4) ∧
  (∀ (s : State) (a : Acc) (k : Fin 32), s.granted a .LEDS_CH_CMD (k) → s.fld F.LEDS_CH_OUT_DUTY k = 0 → exec (.ledShortRelease (.reg a) k) s =
    .next (State.finish s (s.wrote a .LEDS_CH_CMD (k) fun s => (((((s.ledTick.setLedc k
    { s.ledc k with high := 0, duty := 0, fade := none }).setFlag F.LEDS_CH_STAT_SHORT k false).setFlag F.LEDS_CH_STAT_FADING k false).setFlag
    F.LEDS_CH_STAT_REFUSED k false).clearFault .LED_SHORT k, 0)))) ∧
  (∀ (s : State) (a : Acc) (k : Fin 32), s.granted a .LEDS_CH_CMD (k) → s.fld F.LEDS_CH_OUT_DUTY k ≠ 0 → exec (.ledShortRelease (.reg a) k) s =
    .next (State.finish s (s.wrote a .LEDS_CH_CMD (k) fun s => (s.ledRefuse k, 0x08000022)))) ∧
  (∀ (s v : State) (p cap f : Nat), s.awake = true → v = s.foldDue → p = v.ledSum → cap = v.derate 600 450 * 1638300 → p ≤ cap → f = (if 100 * p <
    95 * cap ∧ s.fld F.LEDS_GLB_STAT_F < 255 then s.fld F.LEDS_GLB_STAT_F + 1 else s.fld F.LEDS_GLB_STAT_F) → f = 255 → s.flag
    F.LEDS_GLB_STAT_FOLDBACK = true → exec (.foldbackUpdate) s = .next (State.finish s (((v.setFld F.LEDS_GLB_STAT_F 0 255).setFlag
    F.LEDS_GLB_STAT_FOLDBACK 0 false).clearFault .LED_FOLDBACK))) ∧
  (∀ (s v : State) (p cap f : Nat), s.awake = true → v = s.foldDue → p = v.ledSum → cap = v.derate 600 450 * 1638300 → p ≤ cap → f = (if 100 * p <
    95 * cap ∧ s.fld F.LEDS_GLB_STAT_F < 255 then s.fld F.LEDS_GLB_STAT_F + 1 else s.fld F.LEDS_GLB_STAT_F) → ((f = 255) ↔ (s.flag
    F.LEDS_GLB_STAT_FOLDBACK = false)) → exec (.foldbackUpdate) s = .next (State.finish s (v.setFld F.LEDS_GLB_STAT_F 0 f))) ∧
  (∀ (s v : State) (p cap : Nat), s.awake = true → v = s.foldDue → p = v.ledSum → cap = v.derate 600 450 * 1638300 → s.flag F.LEDS_GLB_STAT_FOLDBACK
    = false → cap < p → exec (.foldbackUpdate) s = .next (State.finish s ((((v.setFld F.LEDS_GLB_STAT_F 0 (s.fld F.LEDS_GLB_STAT_F * cap /
    p)).setFlag F.LEDS_GLB_STAT_FOLDBACK).setFlag F.LEDS_GLB_EVT_FOLDBACK).raise .LED_FOLDBACK))) ∧
  (∀ (s : State) (a : Acc), s.granted a .LEDS_GLB_CTRL (0) → exec (.ledReenable (.reg a)) s = .next (State.finish s (s.wrote a .LEDS_GLB_CTRL (0)
    fun s => refusedAs 0x08000022 (s.reenableUnit .leds))))

/-- A debounced change of an input, judged by its group's comparator with its hysteresis, sets its state, latches its edge and stamps it with the
  first sample of the new level, no sooner than DEBOUNCE after the last change of the group's configuration; an armed input that changes aborts a
  running sleep sequence; a sample of the level the input shows changes nothing but the comparator; a counted edge adds one to the counter modulo
  2^32, and an edge the counter does not choose, a stopped or safe counter and an unpowered module count nothing; a clear sets the counter to 0, or
  to 1 where an edge of the same cycle is counted after it (R346); a frequency gate computes the frequency from the edges it spans, keeps the last
  period's where it spans too few, and gives 0 after ten empty gates; a strobe of the armed inputs only remembers the first difference and the
  second in a row wakes the module, and strobes have no effect while the module is awake. Completes diEdge, counterEdge, counterClear,
  frequencyGate, wakeStrobe. -/
def Obligations.Inputs : Prop :=
  (∀ (s : State) (k : Fin 48) (mv : Int) (x : Bool) (v w : State), s.awake = true → s.powered = true → x = s.comparator k mv → s.di k ≠ x → v =
    s.advanceTo ((lookup (k.val / 8) s.dio.grpAt).getD 0 + s.debounceNs k) → w = (if k.val < 32 then (v.setBit F.DIO_DI_LO_STATE 0 k x).setBit
    F.DIO_EDGE_LO_EDGE 0 k else (v.setBit F.DIO_DI_HI_STATE 0 (k - 32) x).setBit F.DIO_EDGE_HI_EDGE 0 (k - 32)).setDic k
    { raw := x, stamp := v.logicalAt ((v.now - v.debounceNs k - v.tide.epoch) / 4) } → exec (.diEdge k mv) s = .next (State.finish s (if s.diArmed k
    = true then w.sleepAbort 5 else w))) ∧
  (∀ (s : State) (k : Fin 48) (mv : Int), s.awake = true → s.powered = true → s.di k = s.comparator k mv → exec (.diEdge k mv) s = .next
    (State.finish s (s.setDic k { s.dic k with raw := s.di k }))) ∧
  (∀ (s : State) (k : Fin 8) (rising : Bool) (c : CntCh) (v : State), s.awake = true → s.powered = true → s.fld F.DIO_CNT_CFG_MODE k ≠ 0 → s.fld
    F.DIO_CNT_CFG_EDGE k = 2 ∨ s.fld F.DIO_CNT_CFG_EDGE k = (if rising then 0 else 1) → s.isSafe (.dioCnt k) = false → v = (if s.fld
    F.DIO_CNT_CFG_MODE k % 2 = 1 then s.setFld F.DIO_CNT_VAL_COUNT k (s.fld F.DIO_CNT_VAL_COUNT k + 1) else s) → c =
    { s.cntc k with edges := (s.cntc k).edges + 1, first := if (s.cntc k).edges = 0 then s.now else (s.cntc k).first, period := if (s.cntc k).lastE.isSome then (s.cntc k).lastE.map (fun t => s.now - t) else (s.cntc k).period, lastE := some s.now }
    → exec (.counterEdge k rising) s = .next (State.finish s ((v.setCntc k c).streamPulse k))) ∧
  (∀ (s : State) (k : Fin 8) (rising : Bool), s.awake = true → s.fld F.DIO_CNT_CFG_MODE k = 0 ∨ s.powered = false ∨ s.isSafe (.dioCnt k) = true ∨
    s.fld F.DIO_CNT_CFG_EDGE k = 3 ∨ s.fld F.DIO_CNT_CFG_EDGE k = (if rising then 1 else 0) → exec (.counterEdge k rising) s = .next (State.finish s
    (s))) ∧
  (∀ (s : State) (a : Acc) (k : Fin 8), s.granted a .DIO_CNT_CMD (k) → exec (.counterClear (.reg a) k) s = .next (State.finish s (s.wrote a
    .DIO_CNT_CMD (k) fun s => (s.counterClear k, 0)))) ∧
  (∀ (s : State) (a : Acc) (k : Fin 8), s.granted a .DIO_CNT_CMD (k) → (s.cntc k).lastE = none → exec (.counterClear (.reg a) k) s = .next
    (State.finish s (s.wrote a .DIO_CNT_CMD (k) fun s => (s.setFld F.DIO_CNT_VAL_COUNT k 0, 0)))) ∧
  (∀ (s : State) (k : Fin 8) (t : Nat), s.awake = true → s.powered = true → 2 ≤ s.fld F.DIO_CNT_CFG_MODE k → s.isSafe (.dioCnt k) = false → (s.cntc
    k).lastE = some t → 2 ≤ (s.cntc k).edges → (s.cntc k).first < t → exec (.frequencyGate k) s = .next (State.finish s ((((s.advanceTo ((s.cntc
    k).gateAt + ms 10 * s.fld F.DIO_CNT_CFG_GATE k)).setCntc k
    { s.cntc k with edges := 0, empty := 0, gateAt := (s.advanceTo ((s.cntc k).gateAt + ms 10 * s.fld F.DIO_CNT_CFG_GATE k)).now }).setFld
    F.DIO_CNT_FREQ_FREQ k (Nat.min (((s.cntc k).edges - 1) * 100000000000 / (t - (s.cntc k).first)) 16777215)).setFlag F.DIO_CNT_FREQ_VALID k))) ∧
  (∀ (s : State) (k : Fin 8) (v : State), s.awake = true → s.powered = true → 2 ≤ s.fld F.DIO_CNT_CFG_MODE k → s.isSafe (.dioCnt k) = false →
    (s.cntc k).edges = 0 → v = s.advanceTo ((s.cntc k).gateAt + ms 10 * s.fld F.DIO_CNT_CFG_GATE k) → 9 ≤ (s.cntc k).empty → exec (.frequencyGate k)
    s = .next (State.finish s (((v.setCntc k { s.cntc k with edges := 0, empty := (s.cntc k).empty + 1, gateAt := v.now }).setFld
    F.DIO_CNT_FREQ_FREQ k 0).setFlag F.DIO_CNT_FREQ_VALID k))) ∧
  (∀ (s : State) (k : Fin 8) (v : State) (e p : Nat), s.awake = true → s.powered = true → 2 ≤ s.fld F.DIO_CNT_CFG_MODE k → s.isSafe (.dioCnt k) =
    false → (s.cntc k).edges ≤ 1 → (s.cntc k).lastE.isSome = true → (s.cntc k).period = some p → 0 < p → v = s.advanceTo ((s.cntc k).gateAt + ms 10
    * s.fld F.DIO_CNT_CFG_GATE k) → e = (if (s.cntc k).edges = 0 then (s.cntc k).empty + 1 else 0) → e < 10 → exec (.frequencyGate k) s = .next
    (State.finish s (((v.setCntc k { s.cntc k with edges := 0, empty := e, gateAt := v.now }).setFld F.DIO_CNT_FREQ_FREQ k (Nat.min (100000000000 /
    p) 16777215)).setFlag F.DIO_CNT_FREQ_VALID k))) ∧
  (∀ (s : State) (k : Fin 8), s.awake = true → s.fld F.DIO_CNT_CFG_MODE k < 2 ∨ s.isSafe (.dioCnt k) = true ∨ s.powered = false → exec
    (.frequencyGate k) s = .next (State.finish s (s))) ∧
  (∀ (s : State) (l : Fin 65536) (boot : BootIn), s.awake = true → exec (.wakeStrobe l boot) s = .next (State.finish s (s))) ∧
  (∀ (s : State) (l : Fin 65536) (d : List Nat) (boot : BootIn), s.awake = false → d = (List.range 16).filter (fun k => s.diArmed k && bitOf l k !=
    s.bit F.DIO_WAKE_SRC_LEVEL 0 k) → d.filter (fun k => (lookup k s.dio.strobe).isSome) = [] → exec (.wakeStrobe l boot) s = .next (State.finish s
    (s.setDio { s.dio with strobe := d.map fun k => (k, 1) }))) ∧
  (∀ (s : State) (l : Fin 65536) (d m : List Nat) (k : Nat) (boot : BootIn), s.awake = false → d = (List.range 16).filter (fun k => s.diArmed k &&
    bitOf l k != s.bit F.DIO_WAKE_SRC_LEVEL 0 k) → d.filter (fun k => (lookup k s.dio.strobe).isSome) = k :: m → exec (.wakeStrobe l boot) s = .next
    (State.finish s (((s.setDio { s.dio with strobe := d.map fun k => (k, 1) }).setFld F.DIO_WAKE_SRC_SRC 0 (bitsOf 16 fun j => s.bit
    F.DIO_WAKE_SRC_SRC 0 j || (k :: m).contains j)).wakeUp 5 k (m.map fun k => (5, k)) boot)))

/-- A write of DIO_DO_OUT is judged as a whole by R351; an output in overload turns off and retries 100 ms later unless its latch acts; a retry that
  falls due ends the fault; a clear is judged by R352; an output that draws too little raises DO_OPEN_LOAD once, and its end clears flag and fault.
  Completes doWrite, doOverload, doRetry, doClear, doOpenLoad, doOpenLoadClear. -/
def Obligations.DigitalOutputs : Prop :=
  (∀ (s : State) (a : Acc) (m : Fin 16) (v : Nat), s.granted a .DIO_DO_OUT (0) → exec (.doWrite (.reg a) m v) s = .next (State.finish s (s.wrote a
    .DIO_DO_OUT (0) fun s => refusedAs 0x08000022 (s.doWrite (v % 2 ^ 16))))) ∧
  (∀ (s : State) (m : Fin 16), s.awake = true → s.bit F.DIO_DO_STAT_ON 0 m = true → s.doLatch m = false → exec (.doOverload m) s = .next
    (State.finish s (((((s.setBit F.DIO_DO_STAT_FAULT 0 m).setFlag F.DIO_EVT_DO_OVL).raise .DO_OVERLOAD m [] (sec 1)).setDio
    { s.dio with retry := assoc m.val (s.now + ms 100) s.dio.retry }).doRefresh m))) ∧
  (∀ (s : State) (m : Fin 16), s.awake = true → s.bit F.DIO_DO_STAT_ON 0 m = true → s.doLatch m = true → exec (.doOverload m) s = .next
    (State.finish s ((((s.setBit F.DIO_DO_STAT_FAULT 0 m).setFlag F.DIO_EVT_DO_OVL).raise .DO_OVERLOAD m [] (sec 1)).doRefresh m))) ∧
  (∀ (s : State) (m : Fin 16), s.awake = true → s.bit F.DIO_DO_STAT_ON 0 m = false → exec (.doOverload m) s = .next (State.finish s (s))) ∧
  (∀ (s : State) (m : Fin 16) (t : Nat), s.awake = true → lookup m.val s.dio.retry = some t → s.bit F.DIO_DO_DIAG_SHED 0 m = false → exec (.doRetry
    m) s = .next (State.finish s (((((s.advanceTo t).setDio { s.dio with retry := Tbl.del s.dio.retry m.val }).setBit F.DIO_DO_STAT_FAULT 0 m
    false).clearFault .DO_OVERLOAD m).doRefresh m))) ∧
  (∀ (s : State) (m : Fin 16), s.awake = true → lookup m.val s.dio.retry = none → exec (.doRetry m) s = .next (State.finish s (s))) ∧
  (∀ (s : State) (a : Acc) (m : Fin 16), s.granted a .DIO_DO_CLR (0) → exec (.doClear (.reg a) m) s = .next (State.finish s (s.wrote a .DIO_DO_CLR
    (0) fun s => refusedAs 0x08000022 (s.doClear m)))) ∧
  (∀ (s : State) (m : Fin 16), s.awake = true → s.bit F.DIO_DO_CFG_OL_EN 0 m = true → s.isSafe .dioDo = false → s.bit F.DIO_DO_STAT_ON 0 m = true →
    s.bit F.DIO_DO_DIAG_OPEN 0 m = false → exec (.doOpenLoad m) s = .next (State.finish s (((s.setBit F.DIO_DO_DIAG_OPEN 0 m).setFlag
    F.DIO_EVT_DO_OPEN).raise .DO_OPEN_LOAD m))) ∧
  (∀ (s : State) (m : Fin 16), s.awake = true → s.bit F.DIO_DO_STAT_ON 0 m = false → exec (.doOpenLoad m) s = .next (State.finish s (s))) ∧
  (∀ (s : State) (m : Fin 16), s.awake = true → exec (.doOpenLoadClear m) s = .next (State.finish s ((s.setBit F.DIO_DO_DIAG_OPEN 0 m
    false).clearFault .DO_OPEN_LOAD m)))

/-- SSUP in limit turns off and retries after 1 s; AUX24 above its rating raises AUX_OVERLOAD and sheds from DO15 downward, one output a step, until
  the total is at or below the rating; below 80 % of it the outputs return from DO00 upward; AUX24 out of regulation takes its outputs down, and in
  regulation they return. Completes ssupOverload, ssupRetry, auxOverload, auxShedStep, auxReturnStep, auxDown, auxUp. -/
def Obligations.AuxSupply : Prop :=
  (∀ (s : State), s.awake = true → s.flag F.DIO_AUX_STAT_SSUP_ON = true → exec (.ssupOverload) s = .next (State.finish s (((((s.setFlag
    F.DIO_AUX_STAT_SSUP_FAULT).setFlag F.DIO_EVT_SSUP_OVL).raise .SSUP_OVERLOAD).setDio
    { s.dio with ssupRetry := some (s.now + sec 1) }).dioRefresh))) ∧
  (∀ (s : State) (t : Nat), s.awake = true → s.dio.ssupRetry = some t → s.flag F.DIO_AUX_CTRL_SSUP_EN = true → exec (.ssupRetry) s = .next
    (State.finish s (((((s.advanceTo t).setDio { s.dio with ssupRetry := none }).setFlag F.DIO_AUX_STAT_SSUP_FAULT 0 false).clearFault
    .SSUP_OVERLOAD).dioRefresh))) ∧
  (∀ (s : State) (cur : Nat), s.awake = true → s.auxRating < cur → s.flag F.DIO_AUX_STAT_UP = true → s.dio.ovl = false → exec (.auxOverload cur) s =
    .next (State.finish s ((((s.auxCur cur).setDio { s.dio with ovl := true, shedAt := none, retAt := none }).setFlag F.DIO_EVT_AUX_OVL).raise
    .AUX_OVERLOAD))) ∧
  (∀ (s : State) (cur : Nat), s.awake = true → cur ≤ s.auxRating → exec (.auxOverload cur) s = .next (State.finish s (s.auxCur cur))) ∧
  (∀ (s : State) (cur : Nat) (v : State), s.awake = true → s.dio.ovl = true → v = (if s.dio.shedAt.isSome then s.advanceTo (s.dio.shedAt.getD 0 + ms
    1) else s).auxCur cur → cur ≤ v.auxRating → exec (.auxShedStep cur) s = .next (State.finish s (v.setDio { v.dio with ovl := false }))) ∧
  (∀ (s : State) (cur m : Nat) (v : State), s.awake = true → s.dio.ovl = true → v = (if s.dio.shedAt.isSome then s.advanceTo (s.dio.shedAt.getD 0 +
    ms 1) else s).auxCur cur → v.auxRating < cur → (List.range 16).reverse.find? (fun m => s.bit F.DIO_DO_STAT_ON 0 m) = some m → exec (.auxShedStep
    cur) s = .next (State.finish s (((v.setBit F.DIO_DO_DIAG_SHED 0 m).setDio { v.dio with shedAt := some v.now }).doRefresh m))) ∧
  (∀ (s : State) (cur : Nat) (v : State), s.awake = true → v = (if s.dio.retAt.isSome then s.advanceTo (s.dio.retAt.getD 0 + ms 10) else s).auxCur
    cur → s.flag F.DIO_AUX_STAT_UP = false ∨ (cur ≤ v.auxRating ∧ s.dio.retAt = none ∧ v.auxRating * 8 ≤ cur * 10) → exec (.auxReturnStep cur) s =
    .next (State.finish s (v))) ∧
  (∀ (s : State) (cur : Nat) (v : State), s.awake = true → v = (if s.dio.retAt.isSome then s.advanceTo (s.dio.retAt.getD 0 + ms 10) else s).auxCur
    cur → s.flag F.DIO_AUX_STAT_UP = true → v.auxRating < cur → exec (.auxReturnStep cur) s = .next (State.finish s (v.setDio
    { v.dio with retAt := none }))) ∧
  (∀ (s : State) (cur : Nat) (v : State), s.awake = true → v = (if s.dio.retAt.isSome then s.advanceTo (s.dio.retAt.getD 0 + ms 10) else s).auxCur
    cur → s.flag F.DIO_AUX_STAT_UP = true → cur ≤ v.auxRating → s.dio.retAt.isSome = true ∨ cur * 10 < v.auxRating * 8 → (List.range 16).find? (fun
    m => v.bit F.DIO_DO_DIAG_SHED 0 m && v.bit F.DIO_DO_OUT_ON 0 m && !(v.bit F.DIO_DO_STAT_FAULT 0 m && v.doLatch m)) = none → exec (.auxReturnStep
    cur) s = .next (State.finish s ((v.setDio { v.dio with retAt := none, ovl := false }).clearFault .AUX_OVERLOAD))) ∧
  (∀ (s : State) (cur m : Nat) (v w : State), s.awake = true → v = (if s.dio.retAt.isSome then s.advanceTo (s.dio.retAt.getD 0 + ms 10) else
    s).auxCur cur → s.flag F.DIO_AUX_STAT_UP = true → cur ≤ v.auxRating → s.dio.retAt.isSome = true ∨ cur * 10 < v.auxRating * 8 → (List.range
    16).find? (fun m => v.bit F.DIO_DO_DIAG_SHED 0 m && v.bit F.DIO_DO_OUT_ON 0 m && !(v.bit F.DIO_DO_STAT_FAULT 0 m && v.doLatch m)) = some m → w =
    ((v.setBit F.DIO_DO_DIAG_SHED 0 m false).setDio { v.dio with retAt := some v.now, ovl := false }).doRefresh m → exec (.auxReturnStep cur) s =
    .next (State.finish s (if w.fld F.DIO_DO_DIAG_SHED = 0 then w.clearFault .AUX_OVERLOAD else w))) ∧
  (∀ (s : State), s.awake = true → s.flag F.DIO_AUX_STAT_UP = true → exec (.auxDown) s = .next (State.finish s (((((s.setFlag F.DIO_AUX_STAT_UP 0
    false).setFld F.DIO_DO_DIAG_SHED 0 (s.fld F.DIO_DO_OUT_ON)).setDio { s.dio with ovl := false, shedAt := none, retAt := none }).setFlag
    F.DIO_EVT_AUX_DOWN |>.raise .AUX_DOWN).dioRefresh))) ∧
  (∀ (s : State), s.awake = true → s.flag F.DIO_AUX_STAT_UP = false → exec (.auxDown) s = .next (State.finish s (s))) ∧
  (∀ (s : State), s.awake = true → s.flag F.DIO_AUX_STAT_UP = false → s.feedUp 1 = true ∨ s.feedUp 2 = true → s.powered = true → exec (.auxUp) s =
    .next (State.finish s (((((s.setFlag F.DIO_AUX_STAT_UP).setFld F.DIO_DO_DIAG_SHED 0 (s.fld F.DIO_DO_OUT_ON)).setDio
    { s.dio with retAt := some s.now }).clearFault .AUX_DOWN).dioRefresh)))

/-- A feed reaches the silence timer it names; a timer that runs out expires, raises BOLL_SILENCE and takes the outputs that chose it, and a timer
  that stands expires at no time; the end of the hold window takes every output; a reclaim is refused in Limp and in the safe state of BOLL and else
  ends the hold, turns the commands off in Configure and gives back every governed output whose own silence timer has not expired and whose unit is
  not safe; firmware that runs again reclaims only with AUTO_RECLAIM; the reflex entries are evaluated every 100 µs in order; a clear reaches the
  latch of the entry it names. Completes bollardFeed, bollSilence, bollHoldExpired, reclaim, autoReclaim, bollReenable, reflexEvaluation,
  reflexLatchClear. -/
def Obligations.Bollard : Prop :=
  (∀ (s : State) (a : Acc) (t : Fin 4) (v : Fin 256), s.granted a .SYS_BOLLARD_FEED (0) → ∃ n : Word, exec (.bollardFeed (.reg a) t v) s = .next
    (State.finish s (s.wrote a .SYS_BOLLARD_FEED (0) fun s => ((s.wr .SYS_BOLLARD_FEED 0 n).feed t v, 0)))) ∧
  (∀ (s : State) (t : Fin 4), s.awake = true → (s.silc t).since = none → exec (.bollSilence t) s = .next (State.finish s (s))) ∧
  (∀ (s : State) (t : Fin 4) (b : Nat) (v : State), s.awake = true → (s.silc t).since = some b → s.silMay = true → v = ((s.advanceTo (b + (s.silc
    t).left)).setSilc t { s.silc t with left := 0, since := none, exp := true, last := none }).raise .BOLL_SILENCE t → exec (.bollSilence t) s =
    .next (State.finish s ((v.each (List.range 136) fun s i => if s.fld F.BOLL_SAFE_SIL i = t + 1 ∧ s.outLead i = i then s.take i t false else
    s).bollFaults))) ∧
  (∀ (s : State) (t : Fin 4), s.awake = true → s.silMay = false → exec (.bollSilence t) s = .next (State.finish s (s))) ∧
  (∀ (s : State) (t : Nat), s.awake = true → s.boll.hold = some t → exec (.bollHoldExpired) s = .next (State.finish s ((((((s.advanceTo
    t).holdStop).raise .BOLL_HOLD_EXPIRED).each (List.range 136) fun s i => s.take i 4 false).bollFaults).silResume))) ∧
  (∀ (s : State), s.awake = true → s.boll.hold = none → exec (.bollHoldExpired) s = .next (State.finish s (s))) ∧
  (∀ (s : State) (a : Acc), s.granted a .BOLL_CMD (0) → s.mode' ≠ 5 → s.isSafe .boll = false → exec (.reclaim (.reg a)) s = .next (State.finish s
    (s.wrote a .BOLL_CMD (0) fun s => (((((if s.mode' = 3 then s.holdStop.commandsOff else s.holdStop).each ((s.holdStop.boll.gov.map (·.1)).filter
    fun i => !s.holdStop.unitSafe i && !(s.holdStop.fld F.BOLL_SAFE_SIL (s.holdStop.outLead i) != 0 && (s.holdStop.silc (s.holdStop.fld
    F.BOLL_SAFE_SIL (s.holdStop.outLead i) - 1)).exp)) fun s i => s.release i).bollFaults.silStart).raise .BOLL_RECLAIMED), 0)))) ∧
  (∀ (s : State) (a : Acc), s.granted a .BOLL_CMD (0) → s.mode' = 5 ∨ s.isSafe .boll = true → exec (.reclaim (.reg a)) s = .next (State.finish s
    (s.wrote a .BOLL_CMD (0) fun s => (s.setFlag F.BOLL_STAT_REFUSED, 0x08000022)))) ∧
  (∀ (s : State) (p : Option Pair), s.awake = true → s.pairDown .A = none ∨ p = some .B → s.pairDown .B = none ∨ p = some .A → s.flag
    F.BOLL_CTRL_AUTO_RECLAIM = true → exec (.autoReclaim p) s = .next (State.finish s (s.reclaim.1))) ∧
  (∀ (s : State) (p : Option Pair), s.flag F.BOLL_CTRL_AUTO_RECLAIM = false ∨ s.awake = false ∨ (p ≠ some .B ∧ (s.pairDown .A).isSome = true) ∨ (p ≠
    some .A ∧ (s.pairDown .B).isSome = true) → exec (.autoReclaim p) s = .next (State.finish s (s))) ∧
  (∀ (s : State) (a : Acc), s.granted a .BOLL_CMD (0) → exec (.bollReenable (.reg a)) s = .next (State.finish s (s.wrote a .BOLL_CMD (0) fun s =>
    refusedAs 0x08000022 (s.reenableUnit .boll)))) ∧
  (∀ (s : State), s.awake = true → s.powered = false ∨ s.isSafe .boll = true → exec (.reflexEvaluation) s = .next (State.finish s (s))) ∧
  (∀ (s v w : State), s.awake = true → s.powered = true → s.isSafe .boll = false → v = s.advanceTo (s.boll.rfxAt + us 100) → w = ((v.setBoll
    { v.boll with rfxAt := v.now }).each (List.range 64) fun s k => s.evalEntry k) → exec (.reflexEvaluation) s = .next (State.finish s (w.each
    ((List.range 64).filter fun k => w.flag F.BOLL_RFX_ACT_EN k || (w.rfxc k).act) fun s k => s.outRefresh (s.fld F.BOLL_RFX_ACT_TARGET k)))) ∧
  (∀ (s : State) (a : Acc) (k : Fin 64), s.granted a .BOLL_RFX_CLRLO (0) → k.val < 32 → exec (.reflexLatchClear (.reg a) k) s = .next (State.finish
    s (s.wrote a .BOLL_RFX_CLRLO (0) fun s => (s.rfxClear k, 0)))) ∧
  (∀ (s : State) (a : Acc) (k : Fin 64), s.granted a .BOLL_RFX_CLRHI (0) → 32 ≤ k.val → exec (.reflexLatchClear (.reg a) k) s = .next (State.finish
    s (s.wrote a .BOLL_RFX_CLRHI (0) fun s => (s.rfxClear k, 0))))

/-- A write of CAN_CTRL is judged and acts by R390 and R391, with what the controller does on the bus as its operand says; REENABLE, RECOVER and
  DET_START reach the controller; automatic recovery counts BO_DELAY after bus-off, and 128 sequences return the controller to error active; a
  candidate's window that ends without acceptance goes on to the next candidate, and after the last raises CAN_RATE_NOT_FOUND. Completes
  canCtrlWrite, canReenable, recover, detStart, detWindowEnd, busOffDelayEnd, busOffRecovered. -/
def Obligations.CanControllers : Prop :=
  (∀ (s : State) (a : Acc) (p : Fin 8) (v : Nat) (act : Fin 3) (w : State), w = s.canBusy p act → w.granted a .CAN_CTRL (p) → exec (.canCtrlWrite
    (.reg a) p v act) s = .next (State.finish s (w.wrote a .CAN_CTRL (p) fun s => s.wrCanCtrl p (w.merge .CAN_CTRL (p) (BitVec.ofNat 32 v)
    0xFFFFFFFF)))) ∧
  (∀ (s : State) (a : Acc) (p : Fin 8), s.granted a .CAN_CMD (p) → exec (.canReenable a p) s = .next (State.finish s (s.wrote a .CAN_CMD (p) fun s
    => refusedAs 0x08000022 (s.reenableUnit .can)))) ∧
  (∀ (s : State) (a : Acc) (p : Fin 8), s.granted a .CAN_CMD (p) → exec (.recover a p) s = .next (State.finish s (s.wrote a .CAN_CMD (p) fun s =>
    (s.boRecover p, 0)))) ∧
  (∀ (s : State) (a : Acc) (p : Fin 8), s.granted a .CAN_CMD (p) → exec (.detStart a p) s = .next (State.finish s (s.wrote a .CAN_CMD (p) fun s =>
    (s.detStart p, 0)))) ∧
  (∀ (s : State) (p : Fin 8) (k : Nat) (v : State), s.awake = true → s.canDet p = true → s.nextCand p ((s.canc p).cand + 1) = some k → v =
    s.advanceTo ((s.canc p).winAt + ms (10 * s.fld F.CAN_DET_CFG_WIN p)) → exec (.detWindowEnd p) s = .next (State.finish s (v.setCanc p
    { s.canc p with cand := k, good := 0, bad := false, winAt := v.now }))) ∧
  (∀ (s : State) (p : Fin 8) (v : State), s.awake = true → s.canDet p = true → s.nextCand p ((s.canc p).cand + 1) = none → v = s.advanceTo ((s.canc
    p).winAt + ms (10 * s.fld F.CAN_DET_CFG_WIN p)) → exec (.detWindowEnd p) s = .next (State.finish s (((v.setCanc p
    { s.canc p with cand := (s.nextCand p 0).getD 0, good := 0, bad := false, winAt := v.now }).setFlag F.CAN_EVT_DET_FAIL p).raise
    .CAN_RATE_NOT_FOUND p [] (sec 10)))) ∧
  (∀ (s : State) (p : Fin 8), s.awake = true → s.canDet p = false → exec (.detWindowEnd p) s = .next (State.finish s (s))) ∧
  (∀ (s : State) (p : Fin 8), s.awake = true → s.fld F.CAN_STAT_STATE p = 2 → s.flag F.CAN_CTRL_BO_MAN p = false → (s.canc p).limited = false → exec
    (.busOffDelayEnd p) s = .next (State.finish s ((s.advanceTo ((s.canc p).boffAt + ms (10 * s.fld F.CAN_CTRL_BO_DELAY p))).setCanc p
    { s.canc p with counting := true }))) ∧
  (∀ (s : State) (p : Fin 8), s.awake = true → s.fld F.CAN_STAT_STATE p ≠ 2 ∨ s.flag F.CAN_CTRL_BO_MAN p = true ∨ (s.canc p).limited = true → exec
    (.busOffDelayEnd p) s = .next (State.finish s (s))) ∧
  (∀ (s : State) (p : Fin 8), s.awake = true → s.fld F.CAN_STAT_STATE p = 2 → (s.canc p).counting = true → exec (.busOffRecovered p) s = .next
    (State.finish s ((((((s.setFld F.CAN_STAT_STATE p 0).setFld F.CAN_ERR_TEC p 0).setFld F.CAN_ERR_REC p 0).setCanc p
    { s.canc p with counting := false }).clearFault .CAN_BUS_OFF p).clearFault .CAN_ERR_PASSIVE p))) ∧
  (∀ (s : State) (p : Fin 8), s.awake = true → s.fld F.CAN_STAT_STATE p ≠ 2 ∨ (s.canc p).counting = false → exec (.busOffRecovered p) s = .next
    (State.finish s (s)))

/-- A well-formed received frame is taken by a controller that hears its bus and has no effect on one that does not; an error of a received frame
  counts in REC, spoils a candidate and unwinds a frame under speculation; a frame sent takes one from TEC and ends its buffer with SENT and its
  stamp, or leaves the timer slot; a failed attempt counts 8 in TEC (none where ISO 11898-1 leaves it), leads to bus-off above 255, ends an aborted
  buffer, and at COLL_THR attempts the buffer ends as a collision; REQ and ABORT reach the transmit buffers they name; an acknowledgement releases
  FIFO elements. Completes canFrameReceived, canFrameError, canFrameSent, canTxError, txRequest, txAbort, rxFifoAck. -/
def Obligations.CanTraffic : Prop :=
  (∀ (s : State) (p : Fin 8) (f : CanFrame) (ago : Nat), s.awake = true → f.wf = true → exec (.canFrameReceived p f ago) s = .next (State.finish s
    (s.canFrame p f ago))) ∧
  (∀ (s : State) (p : Fin 8) (f : CanFrame) (ago : Nat), s.awake = true → f.wf = true → s.canHears p = false → s.nmState p ≠ 4 → exec
    (.canFrameReceived p f ago) s = .next (State.finish s (s))) ∧
  (∀ (s : State) (p lec : Fin 8) (data dom header : Bool), s.awake = true → s.canHears p = false → exec (.canFrameError p lec data dom header) s =
    .next (State.finish s (s))) ∧
  (∀ (s : State) (p lec : Fin 8) (data dom header : Bool) (v : State), s.awake = true → s.canHears p = true → v = (((s.arbLost p).lastError p lec
    data).bump F.CAN_ERR_REC p (if dom then 8 else 1)).errJudge p → exec (.canFrameError p lec data dom header) s = .next (State.finish s ((if
    v.canDet p then v.setCanc p { v.canc p with good := 0, bad := true } else if header && v.gwyRuns && v.flag F.GWY_SRC_CFG_EN p then v.bump
    F.GWY_CNT0_SPEC_UNWIND else v).canIdle p))) ∧
  (∀ (s : State) (p : Fin 8) (ago : Nat), s.awake = true → s.sending p = none → exec (.canFrameSent p ago) s = .next (State.finish s (s))) ∧
  (∀ (s : State) (p : Fin 8) (ago b t : Nat) (f : CanFrame) (v w x : State), s.awake = true → s.sending p = some (b, f) → b < 3 → t = (if s.flag
    F.TIDE_STAT_VALID then s.stampAgo ago else 0) → v = (if f.fdf && f.brs && s.flag F.CAN_TDC_EN p then (s.draw 7).2.setFld F.CAN_TDC_TDCV p
    (s.draw 7).1 else s) → w = ((((v.setFld F.CAN_ERR_TEC p (v.fld F.CAN_ERR_TEC p - 1)).errJudge p).setFlag F.CAN_EVT_TX_DONE p).setFlag
    F.CAN_STAT_SYNC p).setFld F.CAN_TXB_STAT_CCNT p 0 → x = w.setWord (txAddr p b + 4) (putBit (putBit (w.word (txAddr p b + 4)) 7 (w.flag
    F.TIDE_STAT_VALID)) 20 (w.flag F.TIDE_STAT_COARSE)) → exec (.canFrameSent p ago) s = .next (State.finish s (((((x.setBytes (txAddr p b + 8)
    (leBytes 8 t)).setFld F.CAN_TXTS_LO_T (p * 3 + b) t).setFld F.CAN_TXTS_HI_T (p * 3 + b) (t / 2 ^ 32)).txEnd p b 1).canIdle p))) ∧
  (∀ (s : State) (p : Fin 8) (ago : Nat) (f : CanFrame) (y : TimerFrame) (rest : List TimerFrame) (v w x : State), s.awake = true → s.sending p =
    some (3, f) → (s.canc p).timer = y :: rest → v = (if f.fdf && f.brs && s.flag F.CAN_TDC_EN p then (s.draw 7).2.setFld F.CAN_TDC_TDCV p (s.draw
    7).1 else s) → w = ((((v.setFld F.CAN_ERR_TEC p (v.fld F.CAN_ERR_TEC p - 1)).errJudge p).setFlag F.CAN_EVT_TX_DONE p).setFlag F.CAN_STAT_SYNC
    p).setFld F.CAN_TXB_STAT_CCNT p 0 → x = (w.timerDone p true).canIdle p → exec (.canFrameSent p ago) s = .next (State.finish s (if y.kind = 1
    then (if x.managed p then x.restartSilence p else x) else if y.kind = 2 then x.setCanc p
    { x.canc p with ownRef := some (if s.flag F.TIDE_STAT_VALID then s.stampAgo ago else 0), refAt := some x.now } else x))) ∧
  (∀ (s : State) (p lec : Fin 8) (data collide free : Bool), s.awake = true → s.sending p = none → exec (.canTxError p lec data collide free) s =
    .next (State.finish s (s))) ∧
  (∀ (s : State) (p lec : Fin 8) (data collide free : Bool) (b : Nat) (f : CanFrame) (tec n : Nat) (k : Coll) (v w : State), s.awake = true →
    s.sending p = some (b, f) → tec = s.fld F.CAN_ERR_TEC p + (if free then 0 else 8) → v = ((s.lastError p lec data).setFld F.CAN_ERR_TEC p
    (Nat.min tec 255)).errJudge p → k = (((lookup b (s.canc p).coll).filter fun e => decide (e.id = f.id ∧ e.xtd = f.xtd)).getD
    { id := f.id, xtd := f.xtd }) → n = (if collide then k.n + 1 else 0) → w = (v.setCanc p
    { v.canc p with coll := assoc b { k with n := n } (v.canc p).coll, onBus := none }).setFld F.CAN_TXB_STAT_CCNT p (Nat.min n 63) → n < s.fld
    F.CAN_ERRCFG_COLL_THR p → exec (.canTxError p lec data collide free) s = .next (State.finish s ((if 255 < tec then (if b < 3 ∧ bitOf (s.canc
    p).abort b = true then w.txEnd p b 2 else w).busOff p else if b < 3 ∧ bitOf (s.canc p).abort b = true then w.txEnd p b 2 else w).canIdle p))) ∧
  (∀ (s : State) (p lec : Fin 8) (data collide free : Bool) (b : Nat) (f : CanFrame) (tec n z : Nat) (k : Coll) (v w x y : State), s.awake = true →
    s.sending p = some (b, f) → tec = s.fld F.CAN_ERR_TEC p + (if free then 0 else 8) → v = ((s.lastError p lec data).setFld F.CAN_ERR_TEC p
    (Nat.min tec 255)).errJudge p → k = (((lookup b (s.canc p).coll).filter fun e => decide (e.id = f.id ∧ e.xtd = f.xtd)).getD
    { id := f.id, xtd := f.xtd }) → n = (if collide then k.n + 1 else 0) → w = (v.setCanc p
    { v.canc p with coll := assoc b { k with n := n } (v.canc p).coll, onBus := none }).setFld F.CAN_TXB_STAT_CCNT p (Nat.min n 63) → s.fld
    F.CAN_ERRCFG_COLL_THR p ≤ n → z = f.id + bit01 f.xtd * 2 ^ 29 → x = (((if b < 3 then w.txEnd p b 3 else w.timerDone p false).setFld
    F.CAN_COLL_ID p f.id).setFlag F.CAN_COLL_XTD p f.xtd).setFlag F.CAN_EVT_COLL p → y = ((if (lookup z (x.canc p).collAt).any (fun t => decide
    (x.now < t + sec 1)) then x else (x.setCanc p { x.canc p with collAt := assoc z x.now (x.canc p).collAt }).raise .ID_COLLISION p [z]).quarEnter
    p f.id f.xtd) → exec (.canTxError p lec data collide free) s = .next (State.finish s ((if 255 < tec then y.busOff p else y).canIdle p))) ∧
  (∀ (s : State) (a : Acc) (p mask : Fin 8), s.granted a .CAN_TXB_CMD (p) → exec (.txRequest a p mask) s = .next (State.finish s (s.wrote a
    .CAN_TXB_CMD (p) fun s => (s.txCmd p mask 0 (s.canc p).onBus.isSome, 0)))) ∧
  (∀ (s : State) (a : Acc) (p mask : Fin 8), s.granted a .CAN_TXB_CMD (p) → exec (.txAbort a p mask false) s = .next (State.finish s (s.wrote a
    .CAN_TXB_CMD (p) fun s => (s.txCmd p 0 mask (s.canc p).onBus.isSome, 0)))) ∧
  (∀ (s : State) (a : Acc) (p mask : Fin 8) (v : State), v = s.canBusy p 2 → v.granted a .CAN_TXB_CMD (p) → exec (.txAbort a p mask true) s = .next
    (State.finish s (v.wrote a .CAN_TXB_CMD p fun s => (s.txCmd p 0 mask (s.canc p).onBus.isSome, 0)))) ∧
  (∀ (s : State) (a : Acc) (p : Fin 8) (k : Nat), s.granted a .CAN_RXF_ACK (p) → ∃ n : Word, exec (.rxFifoAck a p k) s = .next (State.finish s
    (s.wrote a .CAN_RXF_ACK (p) fun s => ((s.wr .CAN_RXF_ACK p n).fifoAck p (F.CAN_RXF_ACK_COUNT.of (BitVec.ofNat 32 k)), 0))))

/-- A master with valid, not coarse time sends the next reference message through the timer slot a cycle after its last; a potential master takes
  over after its silence; three cycles without a reference message end synchronization; an armed transceiver wakes its port, or the sleeping module,
  on a wake-up frame or pattern or on the thirty-second counted error, and one that is not armed does nothing. Completes ttReferenceSend,
  ttTakeover, canTtLoss, canSelectiveWake, wakeUpPattern. -/
def Obligations.CanTimeAndWake : Prop :=
  (∀ (s : State) (p : Fin 8) (c : Nat) (v : State), s.awake = true → s.fld F.CAN_TT_CFG_ROLE p = 2 → s.fld F.CAN_TT_STAT_ROLE p = 2 → s.flag
    F.TIDE_STAT_VALID = true → s.flag F.TIDE_STAT_COARSE = false → c = (s.fld F.CAN_TT_STAT_CYC p + 1) % 64 → v = (if (s.canc p).ttAt.isSome then
    s.advanceTo ((s.canc p).ttAt.getD 0 + s.ttCycle p) else s) → exec (.ttReferenceSend p) s = .next (State.finish s (((v.setCanc p
    { v.canc p with ttAt := some v.now }).timerPut p 2 (s.ttFrame p c)).setFld F.CAN_TT_STAT_CYC p c))) ∧
  (∀ (s : State) (p : Fin 8), s.awake = true → s.flag F.TIDE_STAT_VALID = false ∨ s.flag F.TIDE_STAT_COARSE = true ∨ s.fld F.CAN_TT_CFG_ROLE p ≠ 2 ∨
    s.fld F.CAN_TT_STAT_ROLE p ≠ 2 → exec (.ttReferenceSend p) s = .next (State.finish s (s))) ∧
  (∀ (s : State) (p : Fin 8) (v : State), s.awake = true → s.fld F.CAN_TT_CFG_ROLE p = 2 → s.fld F.CAN_TT_STAT_ROLE p ≠ 2 → s.canRuns p = true → v =
    ((s.advanceTo ((s.canc p).refAt.getD 0 + s.ttCycle p + us (200 * (s.fld F.CAN_TT_CFG_PRIO p + 1)))).setFld F.CAN_TT_STAT_ROLE p 2).setFld
    F.CAN_TT_STAT_MPRIO p (s.fld F.CAN_TT_CFG_PRIO p) → exec (.ttTakeover p) s = .next (State.finish s (((v.setCanc p
    { v.canc p with ttAt := none }).chooseSource).ttSend p))) ∧
  (∀ (s : State) (p : Fin 8), s.awake = true → s.fld F.CAN_TT_CFG_ROLE p ≠ 2 ∨ s.fld F.CAN_TT_STAT_ROLE p = 2 ∨ s.canRuns p = false → exec
    (.ttTakeover p) s = .next (State.finish s (s))) ∧
  (∀ (s : State) (p : Fin 8), s.awake = true → s.fld F.CAN_TT_CFG_ROLE p ≠ 0 → s.canRuns p = true → s.active .CAN_TT_LOSS p = false → exec
    (.canTtLoss p) s = .next (State.finish s (((((s.advanceTo ((s.canc p).refAt.getD 0 + 3 * s.ttCycle p)).setFlag F.CAN_TT_STAT_SYNC p
    false).setFlag F.CAN_EVT_TT_LOSS p).raise .CAN_TT_LOSS p).chooseSource))) ∧
  (∀ (s : State) (p : Fin 8), s.awake = true → s.fld F.CAN_TT_CFG_ROLE p = 0 ∨ s.canRuns p = false ∨ s.active .CAN_TT_LOSS p = true → exec
    (.canTtLoss p) s = .next (State.finish s (s))) ∧
  (∀ (s : State) (p : Fin 8) (f : Option CanFrame) (boot : BootIn), f.all CanFrame.wf = true → (s.canc p).xcvr ≠ 2 ∨ s.flag F.CAN_SW_CFG_EN p =
    false → exec (.canSelectiveWake p f boot) s = .next (State.finish s (s))) ∧
  (∀ (s : State) (p : Fin 8) (f : CanFrame) (boot : BootIn) (v : State), f.wf = true → f.fdf = false → (s.canc p).xcvr = 2 → s.flag F.CAN_SW_CFG_EN
    p = true → v = s.setFld F.CAN_SW_STAT_FEC p (s.fld F.CAN_SW_STAT_FEC p - 1) → v.isWuf p f = true → s.awake = true → exec (.canSelectiveWake p
    (some f) boot) s = .next (State.finish s (((v.setFlag F.CAN_SW_STAT_MATCH p).setFlag F.CAN_SW_STAT_FEC_OVF p false).passiveWake p 1))) ∧
  (∀ (s : State) (p : Fin 8) (f : CanFrame) (boot : BootIn) (v : State), f.wf = true → f.fdf = false → (s.canc p).xcvr = 2 → s.flag F.CAN_SW_CFG_EN
    p = true → v = s.setFld F.CAN_SW_STAT_FEC p (s.fld F.CAN_SW_STAT_FEC p - 1) → v.isWuf p f = true → s.awake = false → exec (.canSelectiveWake p
    (some f) boot) s = .next (State.finish s (((v.setFlag F.CAN_SW_STAT_MATCH p).setFlag F.CAN_SW_STAT_FEC_OVF p false).wakeUp 1 p [] boot))) ∧
  (∀ (s : State) (p : Fin 8) (f : CanFrame) (boot : BootIn) (v : State), f.wf = true → f.fdf = false → (s.canc p).xcvr = 2 → s.flag F.CAN_SW_CFG_EN
    p = true → v = s.setFld F.CAN_SW_STAT_FEC p (s.fld F.CAN_SW_STAT_FEC p - 1) → v.isWuf p f = false → exec (.canSelectiveWake p (some f) boot) s =
    .next (State.finish s (v))) ∧
  (∀ (s : State) (p : Fin 8) (f : Option CanFrame) (boot : BootIn), f.all CanFrame.wf = true → f.all (fun f => f.fdf && !s.flag F.CAN_SW_CFG_FDTOL
    p) = true → (s.canc p).xcvr = 2 → s.flag F.CAN_SW_CFG_EN p = true → s.fld F.CAN_SW_STAT_FEC p < 31 → exec (.canSelectiveWake p f boot) s = .next
    (State.finish s (s.bump F.CAN_SW_STAT_FEC p))) ∧
  (∀ (s : State) (p : Fin 8) (f : Option CanFrame) (boot : BootIn) (v w : State), f.all CanFrame.wf = true → f.all (fun f => f.fdf && !s.flag
    F.CAN_SW_CFG_FDTOL p) = true → (s.canc p).xcvr = 2 → s.flag F.CAN_SW_CFG_EN p = true → 31 ≤ s.fld F.CAN_SW_STAT_FEC p → v = ((s.bump
    F.CAN_SW_STAT_FEC p).setFlag F.CAN_SW_STAT_FEC_OVF p).setFlag F.CAN_SW_STAT_MATCH p false → w = v.setCanc p { v.canc p with fecWake := true } →
    exec (.canSelectiveWake p f boot) s = .next (State.finish s (if s.awake then w.passiveWake p 2 else w.wakeUp 2 p [] boot))) ∧
  (∀ (s : State) (p : Fin 8) (f : CanFrame) (boot : BootIn), f.wf = true → f.fdf = true → s.flag F.CAN_SW_CFG_FDTOL p = true → exec
    (.canSelectiveWake p (some f) boot) s = .next (State.finish s (s))) ∧
  (∀ (s : State) (p : Fin 8) (boot : BootIn), (s.canc p).xcvr = 2 → s.flag F.CAN_SW_CFG_EN p = false → s.flag F.CAN_SW_CFG_WUP p = true → s.awake =
    true → exec (.wakeUpPattern p boot) s = .next (State.finish s (s.passiveWake p 3))) ∧
  (∀ (s : State) (p : Fin 8) (boot : BootIn), (s.canc p).xcvr = 2 → s.flag F.CAN_SW_CFG_EN p = false → s.flag F.CAN_SW_CFG_WUP p = true → s.awake =
    false → exec (.wakeUpPattern p boot) s = .next (State.finish s (s.wakeUp 3 p [] boot))) ∧
  (∀ (s : State) (p : Fin 8) (boot : BootIn), (s.canc p).xcvr ≠ 2 ∨ s.flag F.CAN_SW_CFG_EN p = true ∨ s.flag F.CAN_SW_CFG_WUP p = false → exec
    (.wakeUpPattern p boot) s = .next (State.finish s (s)))

/-- A negotiation ends in a conflict of roles, in no common speed (each repeated 1 s later) or in a speed, a role and source 1; AN_TIMEOUT turns
  between negotiation and the fixed setting; a link comes up with what its setup gave, by the fixed setting after a timeout with its NOTE, and goes
  with its queue, its learned addresses and its fault; RENEG and REENABLE reach the block; TC10 requests, answers and wakes act on the port and its
  segment. Completes anResult, anRetry, anTimeoutExpiry, ethLinkUp, ethLinkDown, reneg, ethReenable, tc10SleepRequest, tc10SleepResponse, tc10Wake.
  -/
def Obligations.EthLinks : Prop :=
  (∀ (s : State) (p adv role : Fin 4) (nonce : Bool), s.awake = true → s.ethLink p = true ∨ s.portRuns p = false ∨ s.flag F.ETH_PCTRL_AN_EN p =
    false → exec (.anResult p adv role nonce) s = .next (State.finish s (s))) ∧
  (∀ (s : State) (p adv role : Fin 4) (nonce : Bool), s.awake = true → s.portRuns p = true → s.flag F.ETH_PCTRL_AN_EN p = true → s.ethLink p = false
    → roleOf (s.fld F.ETH_PCTRL_AN_ROLE p) role nonce = none → Completes (.anResult p adv role nonce) s fun u => (u.ethp p).retryAt = some (s.now +
    sec 1) ∧ u.fld F.ETH_PSTAT_SRC p = 0 ∧ u.active .ETH_ROLE_CONFLICT p = true) ∧
  (∀ (s : State) (p adv role : Fin 4) (nonce m : Bool), s.awake = true → s.portRuns p = true → s.flag F.ETH_PCTRL_AN_EN p = true → s.ethLink p =
    false → roleOf (s.fld F.ETH_PCTRL_AN_ROLE p) role nonce = some m → (bitOf (s.fld F.ETH_PCTRL_AN_ADV p) 0 && bitOf adv 0 || bitOf (s.fld
    F.ETH_PCTRL_AN_ADV p) 1 && bitOf adv 1) = true → Completes (.anResult p adv role nonce) s fun u => u.flag F.ETH_PSTAT_SPEED p = (bitOf (s.fld
    F.ETH_PCTRL_AN_ADV p) 1 && bitOf adv 1) ∧ u.flag F.ETH_PSTAT_ROLE p = m ∧ u.fld F.ETH_PSTAT_SRC p = 1 ∧ (u.ethp p).retryAt = none ∧ u.active
    .ETH_ROLE_CONFLICT p = false) ∧
  (∀ (s : State) (p adv role : Fin 4) (nonce m : Bool), s.awake = true → s.portRuns p = true → s.flag F.ETH_PCTRL_AN_EN p = true → s.ethLink p =
    false → roleOf (s.fld F.ETH_PCTRL_AN_ROLE p) role nonce = some m → (bitOf (s.fld F.ETH_PCTRL_AN_ADV p) 0 && bitOf adv 0 || bitOf (s.fld
    F.ETH_PCTRL_AN_ADV p) 1 && bitOf adv 1) = false → Completes (.anResult p adv role nonce) s fun u => u.fld F.ETH_PSTAT_SRC p = 0 ∧ (u.ethp
    p).retryAt = some (s.now + sec 1) ∧ u.flag F.ETH_PEVT_AN_FAIL p = true ∧ u.active .ETH_AN_FAIL p = true) ∧
  (∀ (s : State) (p adv role : Fin 4) (nonce : Bool) (t : Nat), s.awake = true → (s.ethp p).retryAt = some t → exec (.anRetry p adv role nonce) s =
    .next (State.finish s ((s.advanceTo t).anResult p adv role nonce))) ∧
  (∀ (s : State) (p adv role : Fin 4) (nonce : Bool), s.awake = true → (s.ethp p).retryAt = none → exec (.anRetry p adv role nonce) s = .next
    (State.finish s (s))) ∧
  (∀ (s : State) (p : Fin 4) (v : State), s.awake = true → s.portRuns p = true → s.flag F.ETH_PCTRL_AN_EN p = true → s.ethLink p = false → v =
    s.advanceTo ((s.ethp p).pageAt + s.anTimeout p) → exec (.anTimeoutExpiry p) s = .next (State.finish s (v.setEthp p
    { s.ethp p with pageAt := v.now, fixedTry := !(s.ethp p).fixedTry }))) ∧
  (∀ (s : State) (p : Fin 4), s.awake = true → s.portRuns p = true → s.ethLink p = false → s.flag F.ETH_PCTRL_AN_EN p = true → (s.ethp p).fixedTry =
    false → s.fld F.ETH_PSTAT_SRC p = 1 → exec (.ethLinkUp p) s = .next (State.finish s ((((((s.setFlag F.ETH_PSTAT_LINK p).setFlag F.ETH_PEVT_UP
    p).setFld F.ETH_PSTAT_TC10 p 0).setBit F.CLK_STAT_ETH_LOCK 0 p true).clearFault .ETH_LINK_DOWN p).clearFault .ETH_AN_FAIL p))) ∧
  (∀ (s : State) (p : Fin 4), s.awake = true → s.portRuns p = true → s.ethLink p = false → s.flag F.ETH_PCTRL_AN_EN p = false → Completes
    (.ethLinkUp p) s fun u => u.flag F.ETH_PSTAT_LINK p = true ∧ u.fld F.ETH_PSTAT_SRC p = 2 ∧ u.fld F.ETH_PSTAT_SPEED p = s.fld
    F.ETH_PCTRL_FIX_SPEED p ∧ u.fld F.ETH_PSTAT_ROLE p = s.fld F.ETH_PCTRL_FIX_ROLE p ∧ u.active .ETH_LINK_DOWN p = false) ∧
  (∀ (s : State) (p : Fin 4) (v w : State), s.awake = true → s.portRuns p = true → s.ethLink p = false → s.flag F.ETH_PCTRL_AN_EN p = true → (s.ethp
    p).fixedTry = true → v = (((s.setFld F.ETH_PSTAT_SPEED p (s.fld F.ETH_PCTRL_FIX_SPEED p)).setFld F.ETH_PSTAT_ROLE p (s.fld F.ETH_PCTRL_FIX_ROLE
    p)).setFld F.ETH_PSTAT_SRC p 3).ethResult p (s.rd .ETH_PSTAT p) → w = (((((v.setFlag F.ETH_PSTAT_LINK p).setFlag F.ETH_PEVT_UP p).setFld
    F.ETH_PSTAT_TC10 p 0).setBit F.CLK_STAT_ETH_LOCK 0 p true).clearFault .ETH_LINK_DOWN p).clearFault .ETH_AN_FAIL p → exec (.ethLinkUp p) s =
    .next (State.finish s ((w.setFlag F.ETH_PEVT_FALLBACK p).raise .ETH_AN_FALLBACK p))) ∧
  (∀ (s : State) (p : Fin 4), s.awake = true → s.portRuns p = false ∨ s.ethLink p = true ∨ (s.flag F.ETH_PCTRL_AN_EN p = true ∧ (s.ethp p).fixedTry
    = false ∧ s.fld F.ETH_PSTAT_SRC p ≠ 1) → exec (.ethLinkUp p) s = .next (State.finish s (s))) ∧
  (∀ (s : State) (p : Fin 4), s.awake = true → s.flag F.ETH_PSTAT_LINK p = true → exec (.ethLinkDown p) s = .next (State.finish s (((s.linkDrop
    p).setFlag F.ETH_PEVT_DOWN p).raise .ETH_LINK_DOWN p))) ∧
  (∀ (s : State) (p : Fin 4), s.awake = true → s.flag F.ETH_PSTAT_LINK p = false → exec (.ethLinkDown p) s = .next (State.finish s (s))) ∧
  (∀ (s : State) (a : Acc) (p : Fin 4), s.granted a .ETH_PCMD (p) → exec (.reneg a p) s = .next (State.finish s (s.wrote a .ETH_PCMD (p) fun s =>
    (s.reneg p, 0)))) ∧
  (∀ (s : State) (a : Acc), s.granted a .ETH_SW_CMD (0) → exec (.ethReenable a) s = .next (State.finish s (s.wrote a .ETH_SW_CMD (0) fun s =>
    refusedAs 0x08000022 (s.reenableUnit .eth)))) ∧
  (∀ (s : State) (p : Fin 4), s.awake = true → s.nmState (p + 8) = 1 ∨ s.nmState (p + 8) = 4 ∨ s.flag F.ETH_PCTRL_TC10_EN p = false ∨ s.ethLink p =
    false → exec (.tc10SleepRequest p) s = .next (State.finish s (s))) ∧
  (∀ (s : State) (p : Fin 4) (v : State), s.awake = true → s.flag F.ETH_PCTRL_TC10_EN p = true → s.ethLink p = true → s.nmState (p + 8) = 2 ∨
    s.nmState (p + 8) = 3 → v = ((s.linkDrop p).setFld F.ETH_PSTAT_TC10 p 2).segEnter (p + 8) 4 → exec (.tc10SleepRequest p) s = .next (State.finish
    s (v.setNms (p + 8) { v.nms (p + 8) with isolating := false, rejectAt := none }))) ∧
  (∀ (s : State) (p : Fin 4), s.awake = true → s.fld F.ETH_PSTAT_TC10 p = 2 → exec (.tc10Wake p) s = .next (State.finish s ((((s.setFlag
    F.ETH_PEVT_WAKE p).setFld F.ETH_PSTAT_TC10 p 3).linkSetup p).passiveWake (p + 8) 10))) ∧
  (∀ (s : State) (p : Fin 4), s.awake = true → s.fld F.ETH_PSTAT_TC10 p ≠ 2 → exec (.tc10Wake p) s = .next (State.finish s (s))) ∧
  (∀ (s : State) (p : Fin 4), s.awake = true → s.nmState (p + 8) = 4 → s.fld F.ETH_PSTAT_TC10 p = 1 → exec (.tc10SleepResponse p true) s = .next
    (State.finish s ((((s.linkDrop p).setFld F.ETH_PSTAT_TC10 p 2).setNms (p + 8) { s.nms (p + 8) with rejectAt := none }).commitDone (p + 8)))) ∧
  (∀ (s : State) (p : Fin 4) (v : State), s.awake = true → s.nmState (p + 8) = 4 → s.fld F.ETH_PSTAT_TC10 p = 1 → v = ((((s.setFld F.ETH_PSTAT_TC10
    p 0).setNms (p + 8) { s.nms (p + 8) with rejectAt := some ((s.nms (p + 8)).rejectAt.getD s.now) }).segEnter (p + 8) 2).restartSilence (p +
    8)).setFlag F.NM_SEG_STAT_HELD (p + 8) false → exec (.tc10SleepResponse p false) s = .next (State.finish s (if s.flag F.NM_SEG_STAT_HELD (p + 8)
    then v.goAwake (p + 8) else v))) ∧
  (∀ (s : State) (p : Fin 4) (b : Bool), s.awake = true → s.nmState (p + 8) ≠ 4 ∨ s.fld F.ETH_PSTAT_TC10 p ≠ 1 → exec (.tc10SleepResponse p b) s =
    .next (State.finish s (s)))

/-- A frame on a port without a link has no effect, a runt counts as an FCS error, an oversize or bad frame counts and leaves a port that it crossed
  cut-through only stomped, a good frame that its VLAN does not admit is counted, learned and dropped, and an admitted one is forwarded to the ports
  of its destination, a local one to the internal port alone; a pause frame does nothing; a sent frame is kept with its stamp (which a PTP message
  carries) and the highest queue sends next; a learned address ages out; the four operations of ETH_MAC_CMD act on the table. Completes
  ethFrameReceived, ethFrameSent, macAgeOut, macLookup, macAddStatic, macDelete, macFlushLearned. -/
def Obligations.EthSwitch : Prop :=
  (∀ (s : State) (p : Fin 4) (b : List Byte) (good : Bool) (ago : Nat), s.awake = true → s.ethLink p = false ∨ s.portRuns p = false → exec
    (.ethFrameReceived p b good ago) s = .next (State.finish s (s))) ∧
  (∀ (s : State) (p : Fin 4) (b : List Byte) (good : Bool) (ago : Nat), s.awake = true → s.ethLink p = true → s.portRuns p = true → b.length < 60 →
    exec (.ethFrameReceived p b good ago) s = .next (State.finish s (s.bump F.ETH_PCNT1_FCS_ERR p))) ∧
  (∀ (s : State) (p : Fin 4) (b : List Byte) (ago c i : Nat) (t adm : Bool) (d : List Nat) (v : State), s.awake = true → s.ethLink p = true →
    s.portRuns p = true → 60 ≤ b.length → b.length ≤ 1518 → (ethView b).type ≠ 0x8808 → t = ((ethView b).tag.any fun x => x.2 != 0) → c = (if t then
    ((ethView b).tag.map (·.1)).getD 0 else s.fld F.ETH_PVLAN_DEF_PCP p) → i = (if t then ((ethView b).tag.map (·.2)).getD 0 else s.fld
    F.ETH_PVLAN_PVID p) → adm = (!(s.fld F.ETH_PVLAN_ACCEPT p == 1 && !t) && !(s.fld F.ETH_PVLAN_ACCEPT p == 2 && t) && s.bit F.ETH_VLAN_MEMBER i p)
    → d = (if (ethView b).dst == 0x0180C200000E || (ethView b).type == 0x88F7 then [4] else s.ethDest p (ethView b).dst i) → v = (s.bump
    F.ETH_PCNT0_RX p).macLearn (ethView b).src i p → exec (.ethFrameReceived p b true ago) s = .next (State.finish s (if adm then v.each d (fun s q
    => if q = 4 then s.internalIn p (s.stampAgo ago) (ethView b) b else s.ethQueue q (s.qmap c) ⟨(ethView b).out c i (s.bit F.ETH_VLAN_UNTAG i q),
    false, 0⟩) else v.ethDrop p 1))) ∧
  (∀ (s : State) (p : Fin 4) (b : List Byte) (ago : Nat), s.awake = true → s.ethLink p = true → s.portRuns p = true → 60 ≤ b.length → b.length ≤
    1518 → (ethView b).type = 0x8808 → exec (.ethFrameReceived p b true ago) s = .next (State.finish s (s))) ∧
  (∀ (s : State) (p : Fin 4) (b : List Byte) (good : Bool) (ago c i : Nat) (t adm : Bool) (d : List Nat) (v w : State), s.awake = true → s.ethLink p
    = true → s.portRuns p = true → 60 ≤ b.length → good = false ∨ 1518 < b.length → t = ((ethView b).tag.any fun x => x.2 != 0) → c = (if t then
    ((ethView b).tag.map (·.1)).getD 0 else s.fld F.ETH_PVLAN_DEF_PCP p) → i = (if t then ((ethView b).tag.map (·.2)).getD 0 else s.fld
    F.ETH_PVLAN_PVID p) → adm = (!(s.fld F.ETH_PVLAN_ACCEPT p == 1 && !t) && !(s.fld F.ETH_PVLAN_ACCEPT p == 2 && t) && s.bit F.ETH_VLAN_MEMBER i p)
    → d = (if (ethView b).dst == 0x0180C200000E || (ethView b).type == 0x88F7 then [4] else s.ethDest p (ethView b).dst i) → v = (if 1518 < b.length
    then s.bump F.ETH_PCNT1_OVERSIZE p else s) → w = (if (good && !(adm && d.any fun q => s.cutThrough p q)) = true then v else v.bump
    F.ETH_PCNT1_FCS_ERR p) → exec (.ethFrameReceived p b good ago) s = .next (State.finish s (if adm then w.each d (fun s q => if s.cutThrough p q
    then (s.ethQueue q (s.qmap c) ⟨(ethView b).out c i (s.bit F.ETH_VLAN_UNTAG i q), true, 0⟩).bump F.ETH_PCNT1_STOMP q else s) else w))) ∧
  (∀ (s : State) (p : Fin 4) (ago : Nat), s.awake = true → (s.ethp p).inFlight = none → exec (.ethFrameSent p ago) s = .next (State.finish s (s))) ∧
  (∀ (s : State) (p : Fin 4) (ago t : Nat) (x y : EthFr) (v : State), s.awake = true → (s.ethp p).inFlight = some x → t = s.stampAgo ago → y = (if
    x.stamp = 2 then { x with bytes := putBytes x.bytes 48 (ptpStamp t) } else if x.stamp = 3 then
    { x with bytes := putBytes (putBytes x.bytes 22 (beBytes 8 (unsigned 64 (diff64 t (stampOf ((x.bytes.drop 48).take 10)) * 65536)))) 48 (ptpStamp t) }
    else x) → v = s.setEthp p
    { s.ethp p with sent := some (y, t), inFlight := (nextFrame (s.ethp p).queue).map (·.2), queue := ((nextFrame (s.ethp p).queue).map fun z => (s.ethp p).queue.erase z).getD (s.ethp p).queue }
    → exec (.ethFrameSent p ago) s = .next (State.finish s ((if x.stamp = 1 then v.setPtp p { v.ptp p with reqAt := t } else v).bump F.ETH_PCNT0_TX
    p))) ∧
  (∀ (s : State) (m i : Nat), s.awake = true → (s.macFind m i).all (fun e => e.static) = true ∨ s.fld F.ETH_SW_CTRL_AGE = 0 → exec (.macAgeOut m i)
    s = .next (State.finish s (s))) ∧
  (∀ (s : State) (m i : Nat) (e : MacEnt), s.awake = true → s.macFind m i = some e → e.static = false → s.fld F.ETH_SW_CTRL_AGE ≠ 0 → exec
    (.macAgeOut m i) s = .next (State.finish s ((s.advanceTo (e.seen + sec (s.fld F.ETH_SW_CTRL_AGE))).macDrop m i))) ∧
  (∀ (s : State) (a : Acc), s.granted a .ETH_MAC_CMD (0) → ∃ n : Word, exec (.macLookup a) s = .next (State.finish s (s.wrote a .ETH_MAC_CMD (0) fun
    s => ((s.wr .ETH_MAC_CMD 0 n).macCmd 0, 0)))) ∧
  (∀ (s : State) (a : Acc), s.granted a .ETH_MAC_CMD (0) → ∃ n : Word, exec (.macAddStatic a) s = .next (State.finish s (s.wrote a .ETH_MAC_CMD (0)
    fun s => ((s.wr .ETH_MAC_CMD 0 n).macCmd 1, 0)))) ∧
  (∀ (s : State) (a : Acc), s.granted a .ETH_MAC_CMD (0) → ∃ n : Word, exec (.macDelete a) s = .next (State.finish s (s.wrote a .ETH_MAC_CMD (0) fun
    s => ((s.wr .ETH_MAC_CMD 0 n).macCmd 2, 0)))) ∧
  (∀ (s : State) (a : Acc), s.granted a .ETH_MAC_CMD (0) → ∃ n : Word, exec (.macFlushLearned a) s = .next (State.finish s (s.wrote a .ETH_MAC_CMD
    (0) fun s => ((s.wr .ETH_MAC_CMD 0 n).macCmd 3, 0))))

/-- An edge of PPS that FALL selects is stamped and, in valid time, measured against the nearest second; the source in use is chosen anew at the end
  of its time without a message or an edge, and with none left follows holdover with its fault, and after HOLD_LIMIT seconds of it FREE; self
  validation starts logical time at 0; MANUAL writes set rate, step and time and are refused without MANUAL; a compare unit that reaches its target
  fires once or advances; a 64 s window measures the AON period; a Sync on the slave port measures the offset that R443 states. Completes ppsEdge,
  tideSrcLoss, tideHoldLong, selfValid, manualRate, manualStep, manualSet, compareFire, aonPeriodWindow, syncReceived. -/
def Obligations.Tide : Prop :=
  (∀ (s : State) (rising : Bool) (ago t : Nat) (o : Int) (v : State), s.awake = true → s.tideRuns = true → s.flag F.DIO_PPS_CFG_EN = true → rising ≠
    s.flag F.DIO_PPS_CFG_FALL → s.isSafe .dioPps = false → t = s.stampAgo ago → v = ((s.setFld F.DIO_PPS_TLO_T 0 t).setFld F.DIO_PPS_THI_T 0 (t / 2
    ^ 32)).setTide { s.tide with ppsAt := some s.now } → o = roundDiv t 1000000000 * 1000000000 - (t : Int) → exec (.ppsEdge rising ago) s = .next
    (State.finish s (if v.flag F.TIDE_STAT_VALID && decide (o.natAbs ≤ 500000000) then v.measurement 10 o else v))) ∧
  (∀ (s : State) (rising : Bool) (ago : Nat), s.awake = true → s.flag F.DIO_PPS_CFG_EN = false ∨ rising = s.flag F.DIO_PPS_CFG_FALL ∨ s.isSafe
    .dioPps = true ∨ s.tideRuns = false → exec (.ppsEdge rising ago) s = .next (State.finish s (s))) ∧
  (∀ (s v : State), s.awake = true → v = s.advanceTo (if s.srcUsable s.activeSrc then (s.srcEnd s.activeSrc).getD s.now else s.now) → v.bestSource =
    none → v.activeSrc ≠ 0 → v.flag F.TIDE_CTRL_MANUAL = false → v.flag F.TIDE_STAT_VALID = true → exec (.tideSrcLoss) s = .next (State.finish s
    (v.holdover.raise .TIDE_SRC_LOSS))) ∧
  (∀ (s v : State), s.awake = true → v = s.advanceTo (if s.srcUsable s.activeSrc then (s.srcEnd s.activeSrc).getD s.now else s.now) → v.bestSource =
    none → v.activeSrc ≠ 0 → v.flag F.TIDE_CTRL_MANUAL = true ∨ v.flag F.TIDE_STAT_VALID = false → exec (.tideSrcLoss) s = .next (State.finish s
    (v.useSource 0 0 (if v.flag F.TIDE_CTRL_MANUAL ∧ v.flag F.TIDE_STAT_VALID then 1 else 0)))) ∧
  (∀ (s v w : State) (k c : Nat), s.awake = true → v = s.advanceTo (if s.srcUsable s.activeSrc then (s.srcEnd s.activeSrc).getD s.now else s.now) →
    v.bestSource = some (k, c) → w = (v.clearFault .TIDE_SRC_LOSS).clearFault .TIDE_HOLD_LONG → exec (.tideSrcLoss) s = .next (State.finish s (if
    w.activeSrc = c then w.setFld F.TIDE_STAT_SLOT 0 k else w.useSource k c (if w.flag F.TIDE_STAT_VALID then 2 else 0)))) ∧
  (∀ (s : State), s.awake = true → s.bestSource = none → s.activeSrc = 0 → s.flag F.TIDE_CTRL_MANUAL = false → s.srcUsable 0 = false → exec
    (.tideSrcLoss) s = .next (State.finish s (s))) ∧
  (∀ (s : State), s.awake = true → s.tideRuns = true → s.tideState = 4 → s.isSafe .tide = false → exec (.tideHoldLong) s = .next (State.finish s
    ((((s.advanceTo (s.tide.holdAt + sec (s.fld F.TIDE_HOLD_HOLD_LIMIT))).setFld F.TIDE_STAT_STATE 0 1).setFlag F.TIDE_EVT_HOLD_LONG).raise
    .TIDE_HOLD_LONG))) ∧
  (∀ (s : State), s.awake = true → s.tideRuns = false ∨ s.tideState ≠ 4 ∨ s.isSafe .tide = true → exec (.tideHoldLong) s = .next (State.finish s
    (s))) ∧
  (∀ (s v : State), s.awake = true → s.tideRuns = true → s.flag F.TIDE_STAT_VALID = false → s.flag F.TIDE_CTRL_SELF_VALID = true → 3 ≤ s.mode' →
    s.isSafe .tide = false → s.tide.selfAt ≤ s.mode.bootEndAt + sec 1 → v = s.advanceTo (s.mode.bootEndAt + sec 1) → exec (.selfValid) s = .next
    (State.finish s ((((v.setLogical 0).validate).setFld F.TIDE_STAT_STATE 0 (if s.activeSrc = 0 then 1 else 2)).winOpen))) ∧
  (∀ (s : State), s.awake = true → s.flag F.TIDE_STAT_VALID = true ∨ s.flag F.TIDE_CTRL_SELF_VALID = false ∨ s.mode' < 3 ∨ s.isSafe .tide = true ∨
    s.tideRuns = false → exec (.selfValid) s = .next (State.finish s (s))) ∧
  (∀ (s : State) (a : Acc) (v : Nat), s.granted a .TIDE_RATE (0) → exec (.manualRate (.reg a) v) s = .next (State.finish s (s.wrote a .TIDE_RATE (0)
    fun s => refusedAs 0x08000022 (s.manualRate (v % 2 ^ 32))))) ∧
  (∀ (s : State) (a : Acc) (v : Nat), s.granted a .TIDE_STEP_LO (0) → s.granted a .TIDE_STEP_HI (0) → v < 2 ^ 64 → s.manualOk = true → s.eve.store =
    [] → Completes (.manualStep (.reg a) v) s fun u => u.tide.a = unsigned 64 ((s.tide.a : Int) + signed 64 v) ∧ u.tide.f = s.tide.f ∧ u.flag
    F.TIDE_EVT_STEP = true) ∧
  (∀ (s : State) (a : Acc) (v : Nat), s.granted a .TIDE_STEP_LO (0) → s.granted a .TIDE_STEP_HI (0) → s.manualOk = false → Completes (.manualStep
    (.reg a) v) s fun u => u.tide = s.tide ∧ u.flag F.TIDE_EVT_REFUSED = true) ∧
  (∀ (s : State) (a : Acc) (v : Nat), s.granted a .TIDE_SET_LO (0) → s.granted a .TIDE_SET_HI (0) → v < 2 ^ 64 → s.manualOk = true → s.flag
    F.TIDE_STAT_VALID = false → Completes (.manualSet (.reg a) v) s fun u => u.logical = v ∧ u.flag F.TIDE_STAT_VALID = true ∧ u.flag
    F.TIDE_STAT_COARSE = false) ∧
  (∀ (s : State) (a : Acc) (v : Nat), s.granted a .TIDE_SET_LO (0) → s.granted a .TIDE_SET_HI (0) → v < 2 ^ 64 → s.manualOk = true → s.flag
    F.TIDE_STAT_VALID = true → s.eve.store = [] → Completes (.manualSet (.reg a) v) s fun u => u.logical = v ∧ u.flag F.TIDE_STAT_VALID = true ∧
    u.flag F.TIDE_STAT_COARSE = false ∧ u.flag F.TIDE_EVT_STEP = true) ∧
  (∀ (s : State) (a : Acc) (v : Nat), s.granted a .TIDE_SET_LO (0) → s.granted a .TIDE_SET_HI (0) → s.manualOk = false → Completes (.manualSet (.reg
    a) v) s fun u => u.tide = s.tide ∧ u.flag F.TIDE_EVT_REFUSED = true) ∧
  (∀ (s : State) (k : Fin 16), s.awake = true → s.flag F.TIDE_CMP_CTRL_EN k = false ∨ s.flag F.TIDE_STAT_VALID = false → exec (.compareFire k) s =
    .next (State.finish s (s))) ∧
  (∀ (s : State) (k : Fin 16) (v w : State), s.awake = true → s.flag F.TIDE_CMP_CTRL_EN k = true → s.flag F.TIDE_STAT_VALID = true → s.fld
    F.TIDE_CMP_PER_PER k = 0 → v = s.reach (s.target k) → w = (v.setBit F.TIDE_CMP_FLAG_FLAG 0 k).setFlag F.TIDE_CMP_CTRL_EN k false → exec
    (.compareFire k) s = .next (State.finish s (if s.flag F.TIDE_CMP_CTRL_JNL k then w.raise .TIDE_CMP k else w))) ∧
  (∀ (s : State) (k : Fin 16) (n t : Nat) (v w : State), s.awake = true → s.flag F.TIDE_CMP_CTRL_EN k = true → s.flag F.TIDE_STAT_VALID = true →
    s.fld F.TIDE_CMP_PER_PER k ≠ 0 → v = s.reach (s.target k) → n = (diff64 v.logical (s.target k)).toNat / s.fld F.TIDE_CMP_PER_PER k → t =
    (s.target k + (n + 1) * s.fld F.TIDE_CMP_PER_PER k) % 2 ^ 64 → w = (((v.setBit F.TIDE_CMP_FLAG_FLAG 0 k).setFld F.TIDE_CMP_TLO_T k t).setFld
    F.TIDE_CMP_THI_T k (t / 2 ^ 32)).bump F.TIDE_CMP_CTRL_MISS k n → exec (.compareFire k) s = .next (State.finish s (if s.flag F.TIDE_CMP_CTRL_JNL
    k then w.raise .TIDE_CMP k else w))) ∧
  (∀ (s : State), s.flag F.TIDE_STAT_VALID = false ∨ s.flag F.TIDE_STAT_COARSE = true → exec (.aonPeriodWindow) s = .next (State.finish s (s.setTide
    { s.tide with winAt := none }))) ∧
  (∀ (s : State), s.flag F.TIDE_STAT_VALID = true → s.flag F.TIDE_STAT_COARSE = false → s.tide.winAt = none → exec (.aonPeriodWindow) s = .next
    (State.finish s (s.setTide { s.tide with winAt := some (aonAfter s.now, s.logicalAt ((aonEdge (aonAfter s.now) - s.tide.epoch) / 4)) }))) ∧
  (∀ (s : State) (k l : Nat) (v : State), s.flag F.TIDE_STAT_VALID = true → s.flag F.TIDE_STAT_COARSE = false → s.tide.winAt = some (k, l) → v =
    s.advanceTo (aonEdge (k + 64 * 32768)) → exec (.aonPeriodWindow) s = .next (State.finish s (v.setTide
    { s.tide with period := (diff64 v.logical l).toNat * 1000000 / (64 * 32768), winAt := some (k + 64 * 32768, v.logical) }))) ∧
  (∀ (s : State) (p : Fin 4) (origin ago : Nat) (corr : Int), s.awake = true → s.ptpRole p ≠ 2 ∨ s.ptpOn p = false → exec (.syncReceived p origin
    corr ago) s = .next (State.finish s (s))) ∧
  (∀ (s : State) (p : Fin 4) (origin ago : Nat) (corr : Int), s.awake = true → s.ptpOn p = true → s.ptpRole p = 2 → exec (.syncReceived p origin
    corr ago) s = .next (State.finish s ((s.setPtp p { s.ptp p with synAt := some s.now }).measurement 1 ((origin : Int) + roundDiv (corr * 2 ^ 25 +
    (s.fld F.TIDE_PDELAY_DELAY p : Int) * (2 ^ 41 + (s.ptp p).ratio)) (2 ^ 41) - (s.stampAgo ago : Int)))))

/-- An Announce below 255 steps from another clock is kept and best master selection runs, and it is dropped when three intervals pass without one;
  Announce, Sync and Pdelay requests leave in queue 7 with the next sequence number, each an interval after the last; a Pdelay request is answered
  at once, a response to the last request ends the wait with the delay, the rate ratio and asCapable of IEEE 802.1AS, and more than three lost ones
  end asCapable. Completes announceReceived, announceReceiptTimeout, announceSend, syncSend, pdelayReqSend, pdelayMessageReceived,
  pdelayLostResponses. -/
def Obligations.Gptp : Prop :=
  (∀ (s : State) (p : Fin 4) (root steps src port : Nat), s.awake = true → s.ptpOn p = true → steps < 255 → src ≠ clockId → exec (.announceReceived
    p root steps src port) s = .next (State.finish s ((s.setPtp p { s.ptp p with best := some (ptpVec root steps src port, s.now) }).bmca))) ∧
  (∀ (s : State) (p : Fin 4) (root steps src port : Nat), s.awake = true → 255 ≤ steps ∨ s.ptpOn p = false ∨ src = clockId → exec (.announceReceived
    p root steps src port) s = .next (State.finish s (s))) ∧
  (∀ (s : State) (p : Fin 4), s.awake = true → (s.ptp p).best = none → exec (.announceReceiptTimeout p) s = .next (State.finish s (s))) ∧
  (∀ (s : State) (p : Fin 4) (v t : Nat), s.awake = true → (s.ptp p).best = some (v, t) → exec (.announceReceiptTimeout p) s = .next (State.finish s
    (((s.advanceTo (t + sec 3)).setPtp p { s.ptp p with best := none }).bmca))) ∧
  (∀ (s : State) (p : Fin 4) (r : Nat) (v w : State), s.awake = true → s.ptpOn p = true → s.ptpRole p = 1 → v = s.advanceTo (((s.ptp p).annTx.map
    fun t => t + sec 1).getD s.now) → w = v.setPtp p { v.ptp p with annTx := some v.now } → r = (if w.bestPort.isSome ∧ w.flag F.TIDE_STAT_GM =
    false then vecRoot (w.bestPort.getD (0, 0)).2 else w.ownRoot) → exec (.announceSend p) s = .next (State.finish s ((w.ptpSend p (ptpHead 11 64
    (w.ptp p).seq p 5 0 ++ (beBytes 10 0 ++ beBytes 2 0 ++ beBytes 1 0 ++ beBytes 1 (r / 2 ^ 104) ++ beBytes 4 (r / 2 ^ 72) ++ beBytes 1 (r / 2 ^
    64) ++ beBytes 8 r ++ beBytes 2 (w.fld F.TIDE_PTP_STAT_STEPS) ++ beBytes 1 0xA0)) 0).nextSeq p))) ∧
  (∀ (s : State) (p : Fin 4), s.awake = true → s.ptpRole p ≠ 1 ∨ s.ptpOn p = false → exec (.announceSend p) s = .next (State.finish s (s))) ∧
  (∀ (s : State) (p : Fin 4) (v w : State), s.awake = true → s.ptpOn p = true → s.ptpRole p = 1 → s.flag F.TIDE_STAT_VALID = true → v = s.advanceTo
    (((s.ptp p).syncTx.map fun t => t + s.syncNs).getD s.now) → w = v.setPtp p { v.ptp p with syncTx := some v.now } → exec (.syncSend p) s = .next
    (State.finish s ((w.ptpSend p (ptpHead 0 44 (w.ptp p).seq p 0 (256 - w.fld F.TIDE_PTP_CFG_SYNC_EXP) ++ ptpStamp w.logical) 2).nextSeq p))) ∧
  (∀ (s : State) (p : Fin 4), s.awake = true → s.flag F.TIDE_STAT_VALID = false ∨ s.ptpRole p ≠ 1 ∨ s.ptpOn p = false → exec (.syncSend p) s = .next
    (State.finish s (s))) ∧
  (∀ (s : State) (p : Fin 4) (v w : State), s.awake = true → s.ptpOn p = true → v = s.advanceTo (((s.ptp p).pdTx.map fun t => t + sec 1).getD s.now)
    → w = v.setPtp p
    { v.ptp p with lost := if (v.ptp p).waiting then (v.ptp p).lost + 1 else (v.ptp p).lost, waiting := true, reqSeq := (v.ptp p).seq, reqAt := v.logical, pdTx := some v.now }
    → exec (.pdelayReqSend p) s = .next (State.finish s ((w.ptpSend p (ptpHead 2 54 (v.ptp p).seq p 5 0 ++ ptpStamp 0 ++ beBytes 10 0) 1).nextSeq
    p))) ∧
  (∀ (s : State) (p : Fin 4), s.awake = true → s.ptpOn p = false → exec (.pdelayReqSend p) s = .next (State.finish s (s))) ∧
  (∀ (s : State) (p : Fin 4) (k i j ago : Nat), s.awake = true → s.ptpOn p = true → exec (.pdelayMessageReceived p (.req k i j ago)) s = .next
    (State.finish s (s.ptpSend p (ptpHead 3 54 k p 5 0 ++ ptpStamp (s.stampAgo ago) ++ beBytes 8 i ++ beBytes 2 j) 3))) ∧
  (∀ (s : State) (p : Fin 4) (k i j ago : Nat), s.awake = true → s.ptpOn p = false → exec (.pdelayMessageReceived p (.req k i j ago)) s = .next
    (State.finish s (s))) ∧
  (∀ (s : State) (p : Fin 4) (k t2 t3 ago : Nat) (r d : Int) (t4 u3 u4 : Nat) (v : State), s.awake = true → s.ptpOn p = true → (s.ptp p).waiting =
    true → (s.ptp p).reqSeq = k → t4 = s.stampAgo ago → u3 = ((s.ptp p).prev.map (·.1)).getD 0 → u4 = ((s.ptp p).prev.map (·.2)).getD 0 → r = (if
    (s.ptp p).prev.isSome ∧ 0 < diff64 t4 u4 then roundDiv (diff64 t3 u3 * 2 ^ 41) (diff64 t4 u4).toNat - 2 ^ 41 else (s.ptp p).ratio) → d =
    roundDiv (roundDiv (diff64 t4 (s.ptp p).reqAt * (2 ^ 41 + r)) (2 ^ 41) - diff64 t3 t2) 2 → v = (s.setPtp p
    { s.ptp p with lost := 0, waiting := false, prev := some (t3, t4), ratio := r }).setFld F.TIDE_PDELAY_DELAY p (clamp 0 (2 ^ 24 - 1) d).toNat →
    exec (.pdelayMessageReceived p (.resp k t2 t3 ago)) s = .next (State.finish s ((v.setBit F.TIDE_PTP_STAT_AS_CAP 0 p (decide (d ≤ 800))).bmca))) ∧
  (∀ (s : State) (p : Fin 4) (k t2 t3 ago : Nat), s.awake = true → (s.ptp p).waiting = false ∨ (s.ptp p).reqSeq ≠ k ∨ s.ptpOn p = false → exec
    (.pdelayMessageReceived p (.resp k t2 t3 ago)) s = .next (State.finish s (s))) ∧
  (∀ (s : State) (p : Fin 4), s.awake = true → 3 < (s.ptp p).lost + (if (s.ptp p).waiting then 1 else 0) → exec (.pdelayLostResponses p) s = .next
    (State.finish s (((if 3 < (s.ptp p).lost then s else s.advanceTo ((s.ptp p).pdTx.getD s.now + sec 1)).setBit F.TIDE_PTP_STAT_AS_CAP 0 p
    false).bmca))) ∧
  (∀ (s : State) (p : Fin 4), s.awake = true → (s.ptp p).lost + (if (s.ptp p).waiting then 1 else 0) ≤ 3 → exec (.pdelayLostResponses p) s = .next
    (State.finish s (s)))

/-- TXB2 takes the oldest descriptor of the ring that serves its port; an ACF PDU leaves when its flush time has passed; a held frame waits while a
  ring of its is high and is delivered when none is, or when BP_MAX has passed, with its fault; the host's GET and a ring's EN act by R464 and R465;
  a quarantine ends with its time or by QUAR_CLR. Completes txb2Load, acfFlush, backpressureRelease, gwyBpTimeout, ringGetWrite, ringDisable,
  quarantineExpiry, quarClr, gwyReenable. -/
def Obligations.Gateway : Prop :=
  (∀ (s : State) (p : Fin 8), s.awake = true → s.flag F.CAN_CTRL_TXB2_SRC p = false ∨ s.canRuns p = false ∨ s.txPend p 2 = true ∨ s.servedRing p =
    none → exec (.txb2Load p) s = .next (State.finish s (s))) ∧
  (∀ (s : State) (p : Fin 8) (r : Nat) (v : State), s.awake = true → s.flag F.CAN_CTRL_TXB2_SRC p = true → s.canRuns p = true → s.txPend p 2 = false
    → s.servedRing p = some r → v = ((s.setBytes (txAddr p 2) (s.bytes (s.ringAddr r (s.fld F.GWY_RING_GET_GET r)) 80)).ringPop r).txPut p 2 → exec
    (.txb2Load p) s = .next (State.finish s (v.setCanc p { v.canc p with ring2 := some r }))) ∧
  (∀ (s : State) (r : Fin 32), s.awake = true → lookup r.val s.gwy.pdu = none → exec (.acfFlush r) s = .next (State.finish s (s))) ∧
  (∀ (s : State) (r : Fin 32) (m : List Byte) (t : Nat), s.awake = true → lookup r.val s.gwy.pdu = some (m, t) → exec (.acfFlush r) s = .next
    (State.finish s ((s.advanceTo (t + us (s.fld F.GWY_ACF_TXCFG_FLUSH (r - 16)))).acfSend r))) ∧
  (∀ (s : State) (i : Fin 9), s.awake = true → s.heldOf i = [] → exec (.backpressureRelease i) s = .next (State.finish s (s))) ∧
  (∀ (s : State) (i : Fin 9) (h : GwHeld) (rest : List GwHeld), s.awake = true → s.heldOf i = h :: rest → s.bpHolds 2 (h.rings.getD []) = true →
    exec (.backpressureRelease i) s = .next (State.finish s (s))) ∧
  (∀ (s : State) (i : Fin 9) (h : GwHeld) (rest : List GwHeld), s.awake = true → s.heldOf i = h :: rest → s.bpHolds 2 (h.rings.getD []) = false →
    exec (.backpressureRelease i) s = .next (State.finish s ((((s.setHeld i rest).each (h.rings.getD []) fun x r => x.deliverRing (s.plan h.g h.r)
    h.g h.stamp r).drainHeld i rest).ringsClosing))) ∧
  (∀ (s : State) (i : Fin 9) (h : GwHeld) (rest : List GwHeld) (v : State), s.awake = true → s.heldOf i = h :: rest → s.bpHolds 2 (h.rings.getD [])
    = true → v = ((s.advanceTo (h.since + ms (s.fld F.GWY_CTRL_BP_MAX))).setHeld i rest).each (h.rings.getD []) (fun x r => x.deliverRing (s.plan
    h.g h.r) h.g h.stamp r) → exec (.gwyBpTimeout i) s = .next (State.finish s ((((v.setFlag F.GWY_EVT_BP_TIMEOUT).raise .GWY_BP_TIMEOUT i [] (sec
    1)).drainHeld i rest).ringsClosing))) ∧
  (∀ (s : State) (i : Fin 9) (h : GwHeld) (rest : List GwHeld), s.awake = true → s.heldOf i = h :: rest → s.bpHolds 2 (h.rings.getD []) = false →
    exec (.gwyBpTimeout i) s = .next (State.finish s ((((s.setHeld i rest).each (h.rings.getD []) fun x r => x.deliverRing (s.plan h.g h.r) h.g
    h.stamp r).drainHeld i rest).ringsClosing))) ∧
  (∀ (s : State) (i : Fin 9), s.awake = true → s.heldOf i = [] → exec (.gwyBpTimeout i) s = .next (State.finish s (s))) ∧
  (∀ (s : State) (a : Acc) (r : Fin 32) (v : Nat), s.granted a .GWY_RING_GET (r) → exec (.ringGetWrite a r v) s = .next (State.finish s (s.wrote a
    .GWY_RING_GET (r) fun s => refusedAs 0x06090030 (s.ringGet r (F.GWY_RING_GET_GET.of (s.merge .GWY_RING_GET (r) (BitVec.ofNat 32 v)
    0xFFFFFFFF)))))) ∧
  (∀ (s : State) (a : Acc) (r : Fin 32), s.granted a .GWY_RING_CFG (r) → s.gwy.closing.contains r.val = false → s.flag F.GWY_RING_CFG_EN r = true →
    s.fld F.GWY_RING_CFG_POLICY r ≠ 3 → s.ringPort r < 12 → 16 ≤ s.ringDepth r → s.ringDepth r ≤ 4096 → ∃ n : Word, exec (.ringDisable a r) s =
    .next (State.finish s (s.wrote a .GWY_RING_CFG (r) fun s => ((s.wr .GWY_RING_CFG r n).ringDisable r, 0)))) ∧
  (∀ (s : State) (i : Fin 32), s.awake = true → lookup i.val s.gwy.quar = none → exec (.quarantineExpiry i) s = .next (State.finish s (s))) ∧
  (∀ (s : State) (i : Fin 32) (q : Quar), s.awake = true → lookup i.val s.gwy.quar = some q → exec (.quarantineExpiry i) s = .next (State.finish s
    (((s.advanceTo q.till).setGwy { s.gwy with quar := Tbl.del s.gwy.quar i.val }).quarFault q.seg))) ∧
  (∀ (s : State) (a : Acc), s.granted a .GWY_CMD (0) → exec (.quarClr (.reg a)) s = .next (State.finish s (s.wrote a .GWY_CMD (0) fun s =>
    (s.quarClear, 0)))) ∧
  (∀ (s : State) (a : Acc), s.granted a .GWY_CMD (0) → exec (.gwyReenable (.reg a)) s = .next (State.finish s (s.wrote a .GWY_CMD (0) fun s =>
    refusedAs 0x08000022 (s.reenableUnit .gwy))))

/-- A managed awake CAN segment sends its keep-alive; silence leads from READY to PREPARE and on to COMMIT, and not in the harbour master's safe
  state; the confirmation completes the commit of a segment, and so does the end of the 5 ms window, which for an Ethernet segment ends only with a
  request held (log 114); the end of the repeat window makes a segment without need READY; needs, wake commands and passive wakes act by R488 and
  R496; nothing happens on a segment that is not managed. Completes keepAliveSend, silenceExpiry, prepareExpiry, sleepConfirm, transitionWindowEnd,
  repeatEnd, needWrite, moduleNeedWrite, segmentWake, segmentPassiveWake. -/
def Obligations.SegmentSleep : Prop :=
  (∀ (s : State) (g : Fin 12), s.awake = true → g.val < 8 → s.managed g = true → s.nmState g = 1 → exec (.keepAliveSend g) s = .next (State.finish s
    ((s.advanceTo (s.nms g).kaAt).kaSend g))) ∧
  (∀ (s : State) (g : Fin 12), s.awake = true → s.nmState g ≠ 1 ∨ s.managed g = false ∨ 8 ≤ g.val → exec (.keepAliveSend g) s = .next (State.finish
    s (s))) ∧
  (∀ (s : State) (g : Fin 12), s.awake = true → s.managed g = true → s.nmState g = 2 → s.isSafe .nm = false → exec (.silenceExpiry g) s = .next
    (State.finish s ((s.advanceTo ((s.nms g).silence + s.silenceNs g)).segEnter g 3))) ∧
  (∀ (s : State) (g : Fin 12), s.awake = true → s.isSafe .nm = true ∨ s.managed g = false ∨ s.nmState g ≠ 2 → exec (.silenceExpiry g) s = .next
    (State.finish s (s))) ∧
  (∀ (s : State) (g : Fin 12), s.awake = true → s.managed g = true → s.nmState g = 3 → s.isSafe .nm = false → exec (.prepareExpiry g) s = .next
    (State.finish s ((s.advanceTo ((s.nms g).at0 + ms (10 * s.fld F.NM_SEG_TIME_T_PREP g))).commitSeg g))) ∧
  (∀ (s : State) (g : Fin 12), s.awake = true → s.isSafe .nm = true ∨ s.managed g = false ∨ s.nmState g ≠ 3 → exec (.prepareExpiry g) s = .next
    (State.finish s (s))) ∧
  (∀ (s : State) (g : Fin 12), s.awake = true → g.val < 8 ∨ s.fld F.ETH_PSTAT_TC10 (g - 8) ≠ 1 → s.managed g = true → s.nmState g = 4 → exec
    (.sleepConfirm g) s = .next (State.finish s (s.commitDone g))) ∧
  (∀ (s : State) (g : Fin 12), s.awake = true → s.nmState g ≠ 4 ∨ s.managed g = false ∨ (8 ≤ g.val ∧ s.fld F.ETH_PSTAT_TC10 (g - 8) = 1) → exec
    (.sleepConfirm g) s = .next (State.finish s (s))) ∧
  (∀ (s : State) (g : Fin 12), s.awake = true → s.managed g = true → s.nmState g = 4 → g.val < 8 ∨ s.flag F.NM_SEG_STAT_HELD g = true → exec
    (.transitionWindowEnd g) s = .next (State.finish s ((s.advanceTo ((s.nms g).at0 + ms 5)).commitDone g))) ∧
  (∀ (s : State) (g : Fin 12), s.awake = true → 8 ≤ g.val → s.flag F.NM_SEG_STAT_HELD g = false → exec (.transitionWindowEnd g) s = .next
    (State.finish s (s))) ∧
  (∀ (s : State) (g : Fin 12), s.awake = true → s.managed g = false ∨ s.nmState g ≠ 4 → exec (.transitionWindowEnd g) s = .next (State.finish s
    (s))) ∧
  (∀ (s : State) (g : Fin 12) (t : Nat) (v : State), s.awake = true → (s.nms g).repeatTo = some t → v = (s.advanceTo t).setNms g
    { s.nms g with repeatTo := none } → exec (.repeatEnd g) s = .next (State.finish s (if v.nmState g = 1 ∧ v.ownNeed g = false then (if 8 ≤ g.val
    then v.restartSilence g else v).segEnter g 2 else v))) ∧
  (∀ (s : State) (g : Fin 12), s.awake = true → (s.nms g).repeatTo = none → exec (.repeatEnd g) s = .next (State.finish s (s))) ∧
  (∀ (s : State) (a : Acc) (g : Fin 12) (v : Nat), s.granted a .NM_SEG_NEED (g) → exec (.needWrite (.reg a) g v) s = .next (State.finish s (s.wrote
    a .NM_SEG_NEED (g) fun s => (s.setNeed g (decide (v % 2 = 1)), 0)))) ∧
  (∀ (s : State) (a : Acc) (v : Nat), s.granted a .NM_MODNEED (0) → exec (.moduleNeedWrite (.reg a) v) s = .next (State.finish s (s.wrote a
    .NM_MODNEED (0) fun s => (s.setModNeed (decide (v % 2 = 1)), 0)))) ∧
  (∀ (s : State) (a : Acc) (g : Fin 12), s.granted a .NM_SEG_CMD (g) → exec (.segmentWake (.reg a) g) s = .next (State.finish s (s.wrote a
    .NM_SEG_CMD (g) fun s => (s.wakeRequest g true, 0)))) ∧
  (∀ (s : State) (g : Fin 12) (cause : Fin 16) (v : State), s.awake = true → s.managed g = true → s.nmState g = 5 → v = ((((s.sleepAbort
    cause).setFld F.NM_SEG_STAT_WREASON g cause).setNms g { s.nms g with lastActive := false }).setXcvr g 1).restartSilence g → exec
    (.segmentPassiveWake g cause) s = .next (State.finish s (if v.ownNeed g then v.goAwake g else v.segEnter g 2))) ∧
  (∀ (s : State) (g : Fin 12) (cause : Fin 16), s.awake = true → s.managed g = false ∨ s.nmState g ≠ 5 → exec (.segmentPassiveWake g cause) s =
    .next (State.finish s (s)))

/-- A node whose awake time passes MAX_AWAKE is marked and reported, a TC10 partner that rejects sleep too, and it is left after T_SILENCE awake or
  by UNSTUCK; own need past OWN_MAX is released and reported; WAKE_IN acts on the needs while the module is awake and wakes it from sleep after 1
  ms; the wake timer wakes the module from sleep only; a WAKE_OUT pulse ends. Completes nmNodeStuck, nodeUnstuck, unstuck, nmOwnStuck, wakeIn,
  wakeTimer, wakeOutPulseEnd. -/
def Obligations.StuckAndWake : Prop :=
  (∀ (s : State) (g : Fin 12) (k : Fin 64), s.awake = true → s.managed g = false ∨ (g.val < 8 ∧ ((s.nmNode g k).since.bind s.awakeFrom = none ∨
    (s.nmNode g k).stuck = true)) ∨ (8 ≤ g.val ∧ (s.nms g).rejectAt.bind s.awakeFrom = none) → exec (.nmNodeStuck g k) s = .next (State.finish s
    (s))) ∧
  (∀ (s : State) (g : Fin 12) (k : Fin 64) (t : Nat), s.awake = true → s.managed g = true → g.val < 8 → (s.nmNode g k).stuck = false → (s.nmNode g
    k).since.bind s.awakeFrom = some t → exec (.nmNodeStuck g k) s = .next (State.finish s ((((s.advanceTo (t + minutes (s.fld
    F.NM_SEG_MAXAW_MAX_AWAKE g))).setNode g k { s.nmNode g k with stuck := true }).setFlag F.NM_EVT_NODE_STUCK).raise .NM_NODE_STUCK g [k]))) ∧
  (∀ (s : State) (g : Fin 12) (k : Fin 64) (t : Nat) (v : State), s.awake = true → s.managed g = true → 8 ≤ g.val → (s.nms g).rejectAt.bind
    s.awakeFrom = some t → v = (((s.advanceTo (t + minutes (s.fld F.NM_SEG_MAXAW_MAX_AWAKE g))).setNode g 0
    { s.nmNode g 0 with stuck := true }).setFlag F.NM_EVT_NODE_STUCK).raise .NM_NODE_STUCK g [k] → exec (.nmNodeStuck g k) s = .next (State.finish s
    (if v.flag F.NM_SEG_CFG_ISOLATE_STUCK g then ((v.linkDrop (g - 8)).setFld F.ETH_PSTAT_TC10 (g - 8) 2).segEnter g 6 else v))) ∧
  (∀ (s : State) (g : Fin 12) (k : Fin 64), s.awake = true → s.managed g = true → (s.nmNode g k).stuck = true → s.nmState g < 4 → exec (.nodeUnstuck
    g k) s = .next (State.finish s (((s.advanceTo (Nat.max ((s.nmNode g k).last.getD 0) (s.nms g).wokeAt + s.silenceNs g)).setNode g k
    { s.nmNode g k with stuck := false, since := none }).noneStuck g))) ∧
  (∀ (s : State) (g : Fin 12) (k : Fin 64), s.awake = true → (s.nmNode g k).stuck = false ∨ s.managed g = false ∨ 4 ≤ s.nmState g → exec
    (.nodeUnstuck g k) s = .next (State.finish s (s))) ∧
  (∀ (s : State) (a : Acc) (g : Fin 12), s.granted a .NM_SEG_CMD (g) → exec (.unstuck (.reg a) g) s = .next (State.finish s (s.wrote a .NM_SEG_CMD
    (g) fun s => (s.unstuckAll g, 0)))) ∧
  (∀ (s : State) (g : Fin 12) (t : Nat), s.awake = true → (s.nms g).ownSince.bind s.awakeFrom = some t → s.fld F.NM_SEG_MAXAW_OWN_MAX g ≠ 0 →
    s.managed g = true → s.ownNeed g = true → exec (.nmOwnStuck g) s = .next (State.finish s (((((((s.advanceTo (t + minutes (s.fld
    F.NM_SEG_MAXAW_OWN_MAX g))).setNms g { s.nms g with released := s.needSources g }).setFlag F.NM_SEG_STAT_OWN_STUCK g).setFlag
    F.NM_EVT_OWN_STUCK).raise .NM_OWN_STUCK g)).needUpdate g))) ∧
  (∀ (s : State) (g : Fin 12), s.awake = true → (s.nms g).ownSince.bind s.awakeFrom = none ∨ s.fld F.NM_SEG_MAXAW_OWN_MAX g = 0 ∨ s.managed g =
    false ∨ s.ownNeed g = false → exec (.nmOwnStuck g) s = .next (State.finish s (s))) ∧
  (∀ (s : State) (level : Bool) (held : Nat) (boot : BootIn) (v : State), s.awake = true → v = s.setNm { s.nm with wakeIn := level } → exec (.wakeIn
    level held boot) s = .next (State.finish s ((if level ∧ v.flag F.NM_WAKE_CFG_WAKEIN_EN = true ∧ ms 1 ≤ held then v.sleepAbort 4 else
    v).needAll))) ∧
  (∀ (s : State) (held : Nat) (boot : BootIn), s.awake = false → ms 1 ≤ held → exec (.wakeIn true held boot) s = .next (State.finish s ((s.setNm
    { s.nm with wakeIn := true }).wakeUp 4 0 [] boot))) ∧
  (∀ (s : State) (level : Bool) (held : Nat) (boot : BootIn), s.awake = false → level = false ∨ held < ms 1 → exec (.wakeIn level held boot) s =
    .next (State.finish s (s.setNm { s.nm with wakeIn := level }))) ∧
  (∀ (s : State) (boot : BootIn), s.awake = true ∨ s.nm.timerAt = none ∨ s.flag F.NM_WAKE_CFG_TIMER_EN = false → exec (.wakeTimer boot) s = .next
    (State.finish s (s))) ∧
  (∀ (s : State) (t : Nat) (boot : BootIn), s.awake = false → s.nm.timerAt = some t → s.flag F.NM_WAKE_CFG_TIMER_EN = true → exec (.wakeTimer boot)
    s = .next (State.finish s ((s.advanceTo (t + sec (s.fld F.NM_WAKE_TIMER_SECONDS))).wakeUp 7 0 [] boot))) ∧
  (∀ (s : State), s.nm.pulse = none → exec (.wakeOutPulseEnd) s = .next (State.finish s (s))) ∧
  (∀ (s : State) (t : Nat), s.nm.pulse = some t → exec (.wakeOutPulseEnd) s = .next (State.finish s ((s.advanceTo (t + ms (10 * s.fld
    F.NM_WAKE_CFG_WO_PULSE))).setNm { s.nm with pulse := none })))

/-- On a dictionary port of a mode that serves the dictionary: an expedited download writes its bytes; a segmented download starts where the entry
  may be written and is applied whole at its last segment; a segment with the wrong toggle bit, or with no transfer, aborts; an upload answers up to
  4 bytes at once and longer values in segments of 7; block transfers start with a block of at most 127 segments and end with their CRC; an abort of
  the client or 1,000 ms of silence ends the transfer. On any other port, and with another length than 8 bytes, a message has no effect. Completes
  sdoInitiateDownload, sdoDownloadSegment, sdoInitiateUpload, sdoUploadSegment, sdoBlockDownload, sdoBlockUpload, sdoAbortReceived, sdoTimeout. -/
def Obligations.SdoServer : Prop :=
  (∀ (s : State) (p : Fin 8) (k : Fin 4) (b : List Byte) (v : State), s.awake = true → s.sdoOn p = true → b.length = 8 → v = s.sessSweep.authUnlock
    → v.xferOf p = none → byteAt b 0 = 0x23 + 4 * k → exec (.sdoInitiateDownload p b) s = .next (State.finish s ((v.setXfer p none).sdoWrite p
    (msgIdx b) (msgSub b) ((b.drop 4).take (4 - k)) 0x60))) ∧
  (∀ (s : State) (p : Fin 8) (b : List Byte) (v : State), s.awake = true → s.sdoOn p = true → b.length = 8 → v = s.sessSweep.authUnlock → v.xferOf p
    = none → byteAt b 0 = 0x21 → (v.setXfer p none).dictMay (.sdo p) (msgIdx b) (msgSub b) true = 0 → exec (.sdoInitiateDownload p b) s = .next
    (State.finish s (((v.setXfer p none).setXfer p (some
    { kind := 0, idx := msgIdx b, sub := msgSub b, size := some (leNat (b.drop 4)), last := v.now })).sdoReply p ([0x60] ++ muxBytes (msgIdx b)
    (msgSub b))))) ∧
  (∀ (s : State) (p : Fin 8) (b : List Byte) (v : State), s.awake = true → s.sdoOn p = true → b.length = 8 → v = s.sessSweep.authUnlock → v.xferOf p
    = none → byteAt b 0 / 32 ≠ 1 → exec (.sdoInitiateDownload p b) s = .next (State.finish s (v.sdoAbort p (msgIdx b) (msgSub b) 0x05040001))) ∧
  (∀ (s : State) (p : Fin 8) (b : List Byte), s.awake = true → s.sdoOn p = false ∨ b.length ≠ 8 → exec (.sdoInitiateDownload p b) s = .next
    (State.finish s (s))) ∧
  (∀ (s : State) (p k : Fin 8) (b : List Byte) (v : State) (x : Xfer), s.awake = true → s.sdoOn p = true → b.length = 8 → v = s.sessSweep.authUnlock
    → v.xferOf p = some x → x.kind = 0 → byteAt b 0 = 2 * k + 1 + (if x.toggle then 16 else 0) → sizeCheck x.size (x.data ++ (b.drop 1).take (7 -
    k)).length = 0 → exec (.sdoDownloadSegment p b) s = .next (State.finish s ((v.setXfer p none).sdoWrite p x.idx x.sub (x.data ++ (b.drop 1).take
    (7 - k)) (if x.toggle then 0x30 else 0x20)))) ∧
  (∀ (s : State) (p k : Fin 8) (b : List Byte) (v : State) (x : Xfer), s.awake = true → s.sdoOn p = true → b.length = 8 → v = s.sessSweep.authUnlock
    → v.xferOf p = some x → x.kind = 0 → byteAt b 0 = 2 * k + (if x.toggle then 16 else 0) → exec (.sdoDownloadSegment p b) s = .next (State.finish
    s ((v.setXfer p (some { x with toggle := !x.toggle, data := x.data ++ (b.drop 1).take (7 - k), last := v.now })).sdoReply p (leBytes 1 (if
    x.toggle then 0x30 else 0x20))))) ∧
  (∀ (s : State) (p : Fin 8) (b : List Byte) (v : State) (x : Xfer), s.awake = true → s.sdoOn p = true → b.length = 8 → v = s.sessSweep.authUnlock →
    v.xferOf p = some x → x.kind = 0 → byteAt b 0 < 32 → bitOf (byteAt b 0) 4 ≠ x.toggle → exec (.sdoDownloadSegment p b) s = .next (State.finish s
    (v.sdoAbort p x.idx x.sub 0x05030000))) ∧
  (∀ (s : State) (p : Fin 8) (b : List Byte) (v : State), s.awake = true → s.sdoOn p = true → b.length = 8 → v = s.sessSweep.authUnlock → v.xferOf p
    = none → exec (.sdoDownloadSegment p b) s = .next (State.finish s (v.sdoAbort p (msgIdx b) (msgSub b) 0x05040001))) ∧
  (∀ (s : State) (p : Fin 8) (b : List Byte) (v : State) (x : State × Nat × List Byte), s.awake = true → s.sdoOn p = true → b.length = 8 → v =
    s.sessSweep.authUnlock → v.xferOf p = none → byteAt b 0 = 0x40 → x = (v.setXfer p none).dictRead (.sdo p) (msgIdx b) (msgSub b) → x.2.1 ≠ 0 →
    exec (.sdoInitiateUpload p b) s = .next (State.finish s (x.1.sdoAbort p (msgIdx b) (msgSub b) x.2.1))) ∧
  (∀ (s : State) (p : Fin 8) (b : List Byte) (v : State) (x : State × Nat × List Byte), s.awake = true → s.sdoOn p = true → b.length = 8 → v =
    s.sessSweep.authUnlock → v.xferOf p = none → byteAt b 0 = 0x40 → x = (v.setXfer p none).dictRead (.sdo p) (msgIdx b) (msgSub b) → x.2.1 = 0 → 1
    ≤ x.2.2.length → x.2.2.length ≤ 4 → exec (.sdoInitiateUpload p b) s = .next (State.finish s (x.1.sdoReply p (leBytes 1 (0x43 + 4 * (4 -
    x.2.2.length)) ++ muxBytes (msgIdx b) (msgSub b) ++ x.2.2)))) ∧
  (∀ (s : State) (p : Fin 8) (b : List Byte) (v : State) (x : State × Nat × List Byte), s.awake = true → s.sdoOn p = true → b.length = 8 → v =
    s.sessSweep.authUnlock → v.xferOf p = none → byteAt b 0 = 0x40 → x = (v.setXfer p none).dictRead (.sdo p) (msgIdx b) (msgSub b) → x.2.1 = 0 → 4
    < x.2.2.length → exec (.sdoInitiateUpload p b) s = .next (State.finish s ((x.1.setXfer p (some
    { kind := 1, idx := msgIdx b, sub := msgSub b, data := x.2.2, all := x.2.2, last := x.1.now })).sdoReply p ([0x41] ++ muxBytes (msgIdx b)
    (msgSub b) ++ leBytes 4 x.2.2.length)))) ∧
  (∀ (s : State) (p : Fin 8) (b : List Byte) (v : State) (x : Xfer), s.awake = true → s.sdoOn p = true → b.length = 8 → v = s.sessSweep.authUnlock →
    v.xferOf p = some x → x.kind = 1 → byteAt b 0 = 0x60 + (if x.toggle then 16 else 0) → x.data.length ≤ 7 → exec (.sdoUploadSegment p b) s = .next
    (State.finish s ((v.setXfer p none).sdoReply p (leBytes 1 ((if x.toggle then 16 else 0) + 2 * (7 - x.data.length) + 1) ++ x.data)))) ∧
  (∀ (s : State) (p : Fin 8) (b : List Byte) (v : State) (x : Xfer), s.awake = true → s.sdoOn p = true → b.length = 8 → v = s.sessSweep.authUnlock →
    v.xferOf p = some x → x.kind = 1 → byteAt b 0 = 0x60 + (if x.toggle then 16 else 0) → 7 < x.data.length → exec (.sdoUploadSegment p b) s = .next
    (State.finish s ((v.setXfer p (some { x with toggle := !x.toggle, data := x.data.drop 7, last := v.now })).sdoReply p (leBytes 1 (if x.toggle
    then 16 else 0) ++ x.data.take 7)))) ∧
  (∀ (s : State) (p : Fin 8) (b : List Byte) (v : State), s.awake = true → s.sdoOn p = true → b.length = 8 → v = s.sessSweep.authUnlock → v.xferOf p
    = none → byteAt b 0 / 32 = 6 → bitOf (byteAt b 0) 0 = false → (v.setXfer p none).dictMay (.sdo p) (msgIdx b) (msgSub b) true = 0 → exec
    (.sdoBlockDownload p b) s = .next (State.finish s (((v.setXfer p none).setXfer p (some
    { kind := 2, idx := msgIdx b, sub := msgSub b, size := if bitOf (byteAt b 0) 1 then some (leNat (b.drop 4)) else none, crc := bitOf (byteAt b 0) 2, last := v.now })).sdoReply
    p ([0xA4] ++ muxBytes (msgIdx b) (msgSub b) ++ leBytes 1 127)))) ∧
  (∀ (s : State) (p : Fin 8) (b : List Byte) (v : State) (x : Xfer), s.awake = true → s.sdoOn p = true → b.length = 8 → v = s.sessSweep.authUnlock →
    v.xferOf p = some x → x.kind = 2 → x.phase = 0 → x.seq + 1 ≤ x.blk → byteAt b 0 = 128 + (x.seq + 1) → x.seq < 127 → exec (.sdoBlockDownload p b)
    s = .next (State.finish s ((v.setXfer p (some { x with data := x.data ++ b.drop 1, seq := 0, phase := 1, last := v.now })).sdoReply p ([0xA2] ++
    leBytes 1 (x.seq + 1) ++ leBytes 1 x.blk)))) ∧
  (∀ (s : State) (p k : Fin 8) (b d : List Byte) (v : State) (x : Xfer), s.awake = true → s.sdoOn p = true → b.length = 8 → v =
    s.sessSweep.authUnlock → v.xferOf p = some x → x.kind = 2 → x.phase = 1 → byteAt b 0 = 0xC1 + 4 * k → d = x.data.take (x.data.length - k) →
    x.crc = true → leNat ((b.drop 1).take 2) ≠ sdoCrc d → exec (.sdoBlockDownload p b) s = .next (State.finish s ((v.setXfer p none).sdoAbort p
    x.idx x.sub 0x05040004))) ∧
  (∀ (s : State) (p k : Fin 8) (b d : List Byte) (v : State) (x : Xfer), s.awake = true → s.sdoOn p = true → b.length = 8 → v =
    s.sessSweep.authUnlock → v.xferOf p = some x → x.kind = 2 → x.phase = 1 → byteAt b 0 = 0xC1 + 4 * k → d = x.data.take (x.data.length - k) →
    x.crc = true → leNat ((b.drop 1).take 2) = sdoCrc d → sizeCheck x.size d.length = 0 → exec (.sdoBlockDownload p b) s = .next (State.finish s
    ((v.setXfer p none).sdoWrite p x.idx x.sub d 0xA1))) ∧
  (∀ (s : State) (p : Fin 8) (b : List Byte) (v : State) (x : State × Nat × List Byte), s.awake = true → s.sdoOn p = true → b.length = 8 → v =
    s.sessSweep.authUnlock → v.xferOf p = none → byteAt b 0 = 0xA4 → 1 ≤ byteAt b 4 → byteAt b 4 ≤ 127 → x = (v.setXfer p none).dictRead (.sdo p)
    (msgIdx b) (msgSub b) → x.2.1 = 0 → exec (.sdoBlockUpload p b) s = .next (State.finish s ((x.1.setXfer p (some
    { kind := 3, idx := msgIdx b, sub := msgSub b, data := x.2.2, all := x.2.2, blk := byteAt b 4, crc := true, phase := 2, last := x.1.now })).sdoReply
    p ([0xC6] ++ muxBytes (msgIdx b) (msgSub b) ++ leBytes 4 x.2.2.length)))) ∧
  (∀ (s : State) (p : Fin 8) (b : List Byte) (v : State) (x : Xfer), s.awake = true → s.sdoOn p = true → b.length = 8 → v = s.sessSweep.authUnlock →
    v.xferOf p = some x → x.kind = 3 → x.phase = 2 → byteAt b 0 = 0xA3 → exec (.sdoBlockUpload p b) s = .next (State.finish s (v.sendBlock p x))) ∧
  (∀ (s : State) (p : Fin 8), s.awake = true → s.sdoOn p = true → exec (.sdoAbortReceived p) s = .next (State.finish s (s.setXfer p none))) ∧
  (∀ (s : State) (p : Fin 8), s.awake = true → s.sdoOn p = false → exec (.sdoAbortReceived p) s = .next (State.finish s (s))) ∧
  (∀ (s : State) (p : Fin 8) (x : Xfer), s.awake = true → s.sdoOn p = true → s.xferOf p = some x → exec (.sdoTimeout p) s = .next (State.finish s
    ((s.advanceTo (x.last + ms 1000)).sdoAbort p x.idx x.sub 0x05040000))) ∧
  (∀ (s : State) (p : Fin 8), s.awake = true → s.xferOf p = none ∨ s.sdoOn p = false → exec (.sdoTimeout p) s = .next (State.finish s (s)))

/-- Over SDO "save" to 1010:01 and "load" to 1011:01 are writes of 4 bytes; a store that has begun commits its values to the other bank with the
  next sequence number and answers those who wait for it, or fails and damages what that bank held; a read of 1E00:01, and writes of 1E00:02 and
  1E00:04, act on the client's session; a wrong tag is counted and the third failure in a row locks authentication for 60 s; a level that the
  lifecycle state does not permit is refused and not counted; an idle session ends; a lockout ends with its count (log 81). Completes store,
  storeComplete, restoreDefaults, sessionNonce, sessionAuthentication, sessionClose, sessionTimeout, authLockoutEnd. -/
def Obligations.StoresAndSessions : Prop :=
  (∀ (s : State) (p : Fin 8) (v : State), s.awake = true → s.sdoOn p = true → v = s.sessSweep.authUnlock → exec (.store (.sdo p)) s = .next
    (State.finish s ((v.setXfer p none).sdoWrite p 0x1010 1 [0x73, 0x61, 0x76, 0x65] 0x60))) ∧
  (∀ (s : State) (p : Fin 8), s.awake = true → s.sdoOn p = false → exec (.store (.sdo p)) s = .next (State.finish s (s))) ∧
  (∀ (s : State) (peer : Nat), s.awake = true → s.nydOn = false → exec (.store (.nyd peer)) s = .next (State.finish s (s))) ∧
  (∀ (s : State) (j : Job) (r : List Job) (v : State), s.awake = true → s.od.jobs = j :: r → j.begun = true → v = s.setOd
    { s.od with jobs := r, banks := assoc s.storeTarget ⟨1, s.od.banks.foldl (fun m b => Nat.max m b.2.seq) 0 + 1, j.vals⟩ s.od.banks } → exec
    (.storeComplete true) s = .next (State.finish s (((((v.each j.who fun s w => s.storeReply w.1 w.2.2 0).clearFault .DICT_STORE_FAIL).clearFault
    .DICT_SET_INVALID).clearFault .DICT_SET_ENTRY).raise .DICT_STORE_DONE))) ∧
  (∀ (s : State) (j : Job) (r : List Job) (k : Bank) (v : State), s.awake = true → s.od.jobs = j :: r → j.begun = true → k = (lookup s.storeTarget
    s.od.banks).getD {} → v = s.setOd { s.od with jobs := r, banks := assoc s.storeTarget { k with st := if k.st = 1 then 2 else k.st } s.od.banks }
    → exec (.storeComplete false) s = .next (State.finish s ((v.each j.who fun s w => s.storeReply w.1 w.2.2 0x06060000).raise .DICT_STORE_FAIL))) ∧
  (∀ (s : State) (ok : Bool), s.awake = true → s.od.jobs = [] → exec (.storeComplete ok) s = .next (State.finish s (s))) ∧
  (∀ (s : State) (p : Fin 8) (v : State), s.awake = true → s.sdoOn p = true → v = s.sessSweep.authUnlock → exec (.restoreDefaults (.sdo p)) s =
    .next (State.finish s ((v.setXfer p none).sdoWrite p 0x1011 1 [0x6C, 0x6F, 0x61, 0x64] 0x60))) ∧
  (∀ (s : State) (p : Fin 8) (v : State), s.awake = true → s.sdoOn p = true → v = s.sessSweep.authUnlock → exec (.sessionNonce (.sdo p)) s = .next
    (State.finish s (v.sdoInitUp p [0x40, 0, 0x1E, 1, 0, 0, 0, 0]))) ∧
  (∀ (s : State) (p : Fin 8) (b : List Byte) (v : State), s.awake = true → s.sdoOn p = true → b.length = 33 → v = s.sessSweep.authUnlock → exec
    (.sessionAuthentication (.sdo p) b) s = .next (State.finish s ((v.setXfer p none).sdoWrite p 0x1E00 2 b 0x20))) ∧
  (∀ (s : State) (p : Fin 8) (b : List Byte) (v : State), s.awake = true → s.sdoOn p = true → s.mode' ≠ 7 → b.length = 33 → b.head? = some 2 → v =
    ((s.sessSweep.authUnlock).setXfer p none).authUnlock → v.od.nonce = [] → v.od.lockUntil = none → v.lcLevel 2 = true → v.highOpen = false →
    v.od.fails = 2 → v.cust.bad = [] → exec (.sessionAuthentication (.sdo p) b) s = .next (State.finish s (((v.setOd
    { v.od with fails := 3, lockUntil := some (v.now + sec 60) }).raise .DICT_AUTH_FAIL).sdoAbort p 0x1E00 2 0x08000020))) ∧
  (∀ (s : State) (p : Fin 8) (b : List Byte) (v : State), s.awake = true → s.sdoOn p = true → s.mode' ≠ 7 → b.length = 33 → b.head? = some 2 → v =
    ((s.sessSweep.authUnlock).setXfer p none).authUnlock → v.od.nonce = [] → v.lcLevel 2 = false → exec (.sessionAuthentication (.sdo p) b) s =
    .next (State.finish s (v.sdoAbort p 0x1E00 2 0x08000020))) ∧
  (∀ (s : State) (p : Fin 8) (v : State), s.awake = true → s.sdoOn p = true → v = s.sessSweep.authUnlock → v.sessOf (.sdo p) = none → exec
    (.sessionClose (.sdo p)) s = .next (State.finish s ((v.setXfer p none).sdoWrite p 0x1E00 4 [1] 0x60))) ∧
  (∀ (s : State) (p : Fin 8) (x : Sess) (v : State), s.awake = true → s.sdoOn p = true → s.mode' ≠ 7 → v = s.sessSweep.authUnlock.setXfer p none →
    v.sessOf (.sdo p) = some x → Completes (.sessionClose (.sdo p)) s fun u => u.sessOf (.sdo p) = none) ∧
  (∀ (s : State) (c : Client) (x : Sess), s.awake = true → s.sessOf c = some x → exec (.sessionTimeout c) s = .next (State.finish s ((s.advanceTo
    (x.last + s.sessIdle c)).sessEnd c))) ∧
  (∀ (s : State) (c : Client), s.awake = true → s.sessOf c = none → exec (.sessionTimeout c) s = .next (State.finish s (s))) ∧
  (∀ (s : State) (t : Nat) (v : State), s.awake = true → s.od.lockUntil = some t → v = s.advanceTo t → exec (.authLockoutEnd) s = .next
    (State.finish s (v.setOd { v.od with lockUntil := none, fails := 0 }))) ∧
  (∀ (s : State), s.awake = true → s.od.lockUntil = none → exec (.authLockoutEnd) s = .next (State.finish s (s)))

/-- In Operate a receive PDO of event-driven type is processed at once, one of a synchronous type waits for the SYNC of its port, one that is too
  short is journalled; its deadline raises DICT_RPDO_TIMEOUT; a transmit PDO is sampled and sent on change after its inhibit time, or at the end of
  its event timer (log 113); TXB1 takes the oldest EMCY message, else the oldest frame of its queue; NMT commands addressed to the module are mode
  requests, refused while the module goes to sleep, and Recovery takes Reset node alone where R609 lets it go; a heartbeat carries the state of the
  mode; a consumed heartbeat that is missing is a fault. Completes rpdoReceived, dictRpdoTimeout, sync, tpdoTransmit, txb1Load, nmtStart, nmtStop,
  nmtEnterPreoperational, nmtResetNode, nmtResetCommunication, heartbeat, dictHbLoss. -/
def Obligations.PdoAndNmt : Prop :=
  (∀ (s : State) (k : Fin 64) (b : List Byte) (v : State), s.awake = true → s.pdoOn = true → s.cobOf (rpdoCom k) < 2 ^ 31 → v = s.setRpdo k
    { s.rpdo k with last := some s.now, late := false } → v.mapTotal (rpdoCom k + 0x200) ≤ 8 * b.length → 254 ≤ v.pdoTypeOf (rpdoCom k) → exec
    (.rpdoReceived k b) s = .next (State.finish s (v.rpdoProcess k b))) ∧
  (∀ (s : State) (k : Fin 64) (b : List Byte) (v : State), s.awake = true → s.pdoOn = true → s.cobOf (rpdoCom k) < 2 ^ 31 → v = s.setRpdo k
    { s.rpdo k with last := some s.now, late := false } → v.mapTotal (rpdoCom k + 0x200) ≤ 8 * b.length → v.pdoTypeOf (rpdoCom k) < 254 → exec
    (.rpdoReceived k b) s = .next (State.finish s (v.setRpdo k { v.rpdo k with wait := some b }))) ∧
  (∀ (s : State) (k : Fin 64) (b : List Byte) (v : State), s.awake = true → s.pdoOn = true → s.cobOf (rpdoCom k) < 2 ^ 31 → v = s.setRpdo k
    { s.rpdo k with last := some s.now, late := false } → 8 * b.length < v.mapTotal (rpdoCom k + 0x200) → exec (.rpdoReceived k b) s = .next
    (State.finish s (v.raise .DICT_PDO_LENGTH (k + 1)))) ∧
  (∀ (s : State) (k : Fin 64) (b : List Byte), s.awake = true → s.pdoOn = false ∨ 2 ^ 31 ≤ s.cobOf (rpdoCom k) → exec (.rpdoReceived k b) s = .next
    (State.finish s (s))) ∧
  (∀ (s : State) (k : Fin 64) (t : Nat) (v : State), s.awake = true → s.pdoOn = true → s.cobOf (rpdoCom k) < 2 ^ 31 → (s.rpdo k).last = some t →
    (s.rpdo k).late = false → s.odNum (rpdoCom k) 5 0 ≠ 0 → v = s.advanceTo (t + ms (s.odNum (rpdoCom k) 5 0)) → exec (.dictRpdoTimeout k) s = .next
    (State.finish s ((v.setRpdo k { v.rpdo k with late := true }).raise .DICT_RPDO_TIMEOUT (k + 1)))) ∧
  (∀ (s : State) (k : Fin 64), s.awake = true → (s.rpdo k).last = none ∨ s.pdoOn = false ∨ (s.rpdo k).late = true ∨ s.odNum (rpdoCom k) 5 0 = 0 ∨ 2
    ^ 31 ≤ s.cobOf (rpdoCom k) → exec (.dictRpdoTimeout k) s = .next (State.finish s (s))) ∧
  (∀ (s : State) (p : Fin 8) (ctr : Nat) (v : State), s.awake = true → s.pdoOn = true → v = (s.each (List.range 64) fun s k => (s.rpdo k).wait.elim
    s fun d => if s.pdoPort (rpdoCom k) = p.val ∧ s.cobOf (rpdoCom k) < 2 ^ 31 then (s.setRpdo k { s.rpdo k with wait := none }).rpdoProcess k d
    else s) → exec (.sync p ctr) s = .next (State.finish s (v.each (List.range 64) fun s k => if s.pdoPort (tpdoCom k) = p.val then s.tpdoSync k ctr
    else s))) ∧
  (∀ (s : State) (p : Fin 8) (ctr : Nat), s.awake = true → s.pdoOn = false → exec (.sync p ctr) s = .next (State.finish s (s))) ∧
  (∀ (s : State) (k : Fin 64) (x : State × List Byte) (i d t : Nat), s.awake = true → s.pdoOn = true → s.cobOf (tpdoCom k) < 2 ^ 31 → 254 ≤
    s.pdoTypeOf (tpdoCom k) → x = s.tpdoData k → x.2 ≠ (x.1.tpdo k).sent ∨ x.1.odNum (tpdoCom k) 5 0 ≠ 0 → i = tpdoPoint (Nat.max x.1.now
    (((x.1.tpdo k).at0.map fun a => a + x.1.odNum (tpdoCom k) 3 0 * us 100).getD x.1.now)) → d = Nat.max x.1.now (((x.1.tpdo k).at0.map fun a => a +
    ms (x.1.odNum (tpdoCom k) 5 0)).getD x.1.now) → t = (if x.2 = (x.1.tpdo k).sent then d else if x.1.odNum (tpdoCom k) 5 0 = 0 then i else Nat.min
    i d) → exec (.tpdoTransmit k) s = .next (State.finish s ((x.1.advanceTo t).tpdoSend k x.2))) ∧
  (∀ (s : State) (k : Fin 64) (x : State × List Byte), s.awake = true → s.pdoOn = true → s.cobOf (tpdoCom k) < 2 ^ 31 → 254 ≤ s.pdoTypeOf (tpdoCom
    k) → x = s.tpdoData k → x.2 = (x.1.tpdo k).sent → x.1.odNum (tpdoCom k) 5 0 = 0 → exec (.tpdoTransmit k) s = .next (State.finish s (x.1))) ∧
  (∀ (s : State) (k : Fin 64), s.awake = true → s.pdoOn = false ∨ 2 ^ 31 ≤ s.cobOf (tpdoCom k) ∨ s.pdoTypeOf (tpdoCom k) < 254 → exec (.tpdoTransmit
    k) s = .next (State.finish s (s))) ∧
  (∀ (s : State) (p : Fin 8) (x : Nat × CanFrame × Option Nat), s.awake = true → s.arbiterPort p = true → s.txPend p 1 = false → s.clk.aDown = none
    → s.mode' ≠ 5 → s.emcyNext p = none → s.od.queue.find? (fun x => x.1 == p.val) = some x → exec (.txb1Load p) s = .next (State.finish s
    (((s.putElem (txAddr p 1) x.2.1).setOd { s.od with queue := s.od.queue.erase x, tx1 := assoc p.val x.2.2 s.od.tx1 }).txPut p 1))) ∧
  (∀ (s : State) (p : Fin 8) (e : Emcy) (v : State), s.awake = true → s.arbiterPort p = true → s.txPend p 1 = false → s.emcyNext p = some e → v =
    s.setJnl
    { s.jnl with emcy := (s.jnl.emcy.map fun x => if x = e then { x with ports := x.ports.filter (· ≠ p.val) } else x).filter fun x => !x.ports.isEmpty }
    → exec (.txb1Load p) s = .next (State.finish s (if 2 ^ 31 ≤ s.emcyCob p then v else ((v.putElem (txAddr p 1) (cobFrame (s.emcyCob p) false
    e.bytes)).setOd { s.od with emcyAt := assoc p.val s.now s.od.emcyAt, tx1 := assoc p.val none s.od.tx1 }).txPut p 1))) ∧
  (∀ (s : State) (p : Fin 8), s.awake = true → s.txPend p 1 = true ∨ s.arbiterPort p = false ∨ (s.emcyNext p = none ∧ (s.clk.aDown.isSome = true ∨
    s.mode' = 5 ∨ s.od.queue.find? (fun x => x.1 == p.val) = none)) → exec (.txb1Load p) s = .next (State.finish s (s))) ∧
  (∀ (s : State) (p : Fin 8) (node : Nat), s.awake = true → s.nmtFor p node = true → (s.mode' = 3 ∨ s.mode' = 4 ∨ s.mode' = 6) → s.clk.aDown = none
    → s.mode.sleeping = false → exec (.nmtStart p node) s = .next (State.finish s ((s.modeRequest 4 true).1))) ∧
  (∀ (s : State) (p : Fin 8) (node : Nat), s.awake = true → s.nmtFor p node = true → (s.mode' = 3 ∨ s.mode' = 4 ∨ s.mode' = 6) → s.clk.aDown = none
    → s.mode.sleeping = true → exec (.nmtStart p node) s = .next (State.finish s (s.modeRefuse 1))) ∧
  (∀ (s : State) (p : Fin 8) (node : Nat), s.awake = true → s.nmtFor p node = true → (s.mode' = 5 ∨ s.mode' = 7) → exec (.nmtStart p node) s = .next
    (State.finish s (s))) ∧
  (∀ (s : State) (p : Fin 8) (node : Nat), s.awake = true → s.nmtFor p node = true → (s.mode' = 3 ∨ s.mode' = 4 ∨ s.mode' = 6) → s.clk.aDown = none
    → s.mode.sleeping = false → exec (.nmtStop p node) s = .next (State.finish s ((s.modeRequest 3 true).1))) ∧
  (∀ (s : State) (p : Fin 8) (node : Nat), s.awake = true → s.nmtFor p node = false ∨ s.mode' = 5 ∨ s.mode' = 7 ∨ s.clk.aDown.isSome = true → exec
    (.nmtStop p node) s = .next (State.finish s (s))) ∧
  (∀ (s : State) (p : Fin 8) (node : Nat), s.awake = true → s.nmtFor p node = true → (s.mode' = 3 ∨ s.mode' = 4 ∨ s.mode' = 6) → s.clk.aDown = none
    → s.mode.sleeping = false → exec (.nmtEnterPreoperational p node) s = .next (State.finish s ((s.modeRequest 3 true).1))) ∧
  (∀ (s : State) (p : Fin 8) (node : Nat), s.awake = true → s.nmtFor p node = true → (s.mode' = 3 ∨ s.mode' = 4 ∨ s.mode' = 6) → s.clk.aDown = none
    → s.mode.sleeping = false → exec (.nmtResetNode p node) s = .next (State.finish s ((s.modeRequest 2 true).1))) ∧
  (∀ (s : State) (p : Fin 8) (node : Nat), s.awake = true → s.nmtFor p node = true → s.mode' = 5 → exec (.nmtResetNode p node) s = .next
    (State.finish s (s.askReset 3))) ∧
  (∀ (s : State) (p : Fin 8) (node : Nat), s.awake = true → s.nmtFor p node = true → s.mode' = 7 → s.pins.recov = false → s.upd.runOk = true →
    s.upd.marker = .idle → exec (.nmtResetNode p node) s = .next (State.finish s (s.askReset 3))) ∧
  (∀ (s : State) (p : Fin 8) (node : Nat), s.awake = true → s.nmtFor p node = true → s.mode' = 7 → (s.pins.recov = true ∨ s.upd.runOk = false ∨
    s.upd.marker ≠ .idle) → exec (.nmtResetNode p node) s = .next (State.finish s (s))) ∧
  (∀ (s : State) (p : Fin 8) (node : Nat) (v : State), s.awake = true → s.nmtFor p node = true → (s.mode' = 3 ∨ s.mode' = 4 ∨ s.mode' = 6) →
    s.clk.aDown = none → v = ((s.pdoStop.sessEndAll clientSdo).dropVals (fun k => decide (k / 256 < 0x2000))).applySet (fun k => decide (k / 256 <
    0x2000)) → exec (.nmtResetCommunication p node) s = .next (State.finish s ((v.setOd { v.od with xfer := [] }).takeAddresses.nmtSend 0))) ∧
  (∀ (s : State) (p : Fin 8) (node : Nat), s.awake = true → s.nmtFor p node = false ∨ s.mode' = 5 ∨ s.mode' = 7 ∨ s.clk.aDown.isSome = true → exec
    (.nmtResetCommunication p node) s = .next (State.finish s (s))) ∧
  (∀ (s : State) (c : Nat), s.awake = true → hbByte s.mode' = some c → s.hbTime ≠ 0 → exec (.heartbeat) s = .next (State.finish s ((s.advanceTo
    (s.od.hbAt + ms s.hbTime)).nmtSend c))) ∧
  (∀ (s : State), s.awake = true → hbByte s.mode' = none ∨ s.hbTime = 0 → exec (.heartbeat) s = .next (State.finish s (s))) ∧
  (∀ (s : State) (i : Fin 16) (t w : Nat), s.awake = true → w = s.odNum 0x1016 (i + 1) 0 → lookup i.val s.od.hbIn = some t → w % 2 ^ 16 ≠ 0 →
    s.active .DICT_HB_LOSS (i + 1) = false → exec (.dictHbLoss i) s = .next (State.finish s ((s.advanceTo (t + ms (w % 2 ^ 16))).raise .DICT_HB_LOSS
    (i + 1)))) ∧
  (∀ (s : State) (i : Fin 16), s.awake = true → lookup i.val s.od.hbIn = none ∨ s.odNum 0x1016 (i + 1) 0 % 2 ^ 16 = 0 ∨ s.active .DICT_HB_LOSS (i +
    1) = true → exec (.dictHbLoss i) s = .next (State.finish s (s)))

/-- A request that may be executed outside a session, or that comes within its client's session with the right tag and a new SEQ, is executed and
  answered; an operator or higher request outside a session is answered with 0x0601_0000; CLOSE ends the session after its reply; nothing answers
  where Nydulet is not served or the datagram is not for this module. The module answers ARP requests for its address and ICMP echo requests with
  the same data, and neither where IP is off; a read of 5000:03 reads the register window and a write of it writes the window. Completes hello,
  openRequest, auth, close, read, write, bulkRead, domainRead, domainWrite, arpRequest, icmpEcho, registerWindowRead, registerWindowWrite. -/
def Obligations.NyduletRequests : Prop :=
  (∀ (s : State) (peer : Nat) (b : List Byte), s.awake = true → s.nydPlain 0x01 b = true → exec (.hello peer b) s = .next (State.finish s
    (s.sessSweep.authUnlock.nydExec peer b fun s d => s.nydHello peer d))) ∧
  (∀ (s : State) (peer : Nat) (b : List Byte), s.awake = true → s.nydMine b = false → exec (.hello peer b) s = .next (State.finish s (s))) ∧
  (∀ (s : State) (peer : Nat) (b : List Byte), s.awake = true → s.nydPlain 0x10 b = true → exec (.openRequest peer b) s = .next (State.finish s
    (s.sessSweep.authUnlock.nydExec peer b fun s d => s.nydOpen peer d))) ∧
  (∀ (s : State) (peer : Nat) (b : List Byte), s.awake = true → s.nydPlain 0x12 b = true → exec (.auth peer b) s = .next (State.finish s
    (s.sessSweep.authUnlock.nydExec peer b fun s d => s.nydAuth peer d))) ∧
  (∀ (s : State) (peer : Nat) (b : List Byte), s.awake = true → s.nydInside peer 0x14 b = true → exec (.close peer b) s = .next (State.finish s
    (((s.sessSweep.authUnlock.seqTaken peer (nydSeq b)).nydExec peer b fun s _ => (s, 0, [])).sessEnd (.nyd peer)))) ∧
  (∀ (s : State) (peer : Nat) (b : List Byte), s.awake = true → s.nydOn = true → s.nydMine b = true → nydSid b = 0 → byteAt b 1 = 0x14 → exec
    (.close peer b) s = .next (State.finish s (s.sessSweep.authUnlock.nydReply peer 0x14 0 (nydSeq b) 1 (leBytes 4 0x06010000)))) ∧
  (∀ (s : State) (peer : Nat) (b : List Byte), s.awake = true → s.nydPlain 0x20 b = true → exec (.read peer b) s = .next (State.finish s
    (s.sessSweep.authUnlock.nydExec peer b fun s d => s.nydRead peer d))) ∧
  (∀ (s : State) (peer : Nat) (b : List Byte), s.awake = true → s.nydInside peer 0x20 b = true → exec (.read peer b) s = .next (State.finish s
    ((s.sessSweep.authUnlock.seqTaken peer (nydSeq b)).nydExec peer b fun s d => s.nydRead peer d))) ∧
  (∀ (s : State) (peer : Nat) (b : List Byte), s.awake = true → s.nydInside peer 0x21 b = true → exec (.write peer b) s = .next (State.finish s
    ((s.sessSweep.authUnlock.seqTaken peer (nydSeq b)).nydExec peer b fun s d => s.nydWrite peer d))) ∧
  (∀ (s : State) (peer : Nat) (b : List Byte), s.awake = true → s.nydPlain 0x21 b = true → exec (.write peer b) s = .next (State.finish s
    (s.sessSweep.authUnlock.nydExec peer b fun s d => s.nydWrite peer d))) ∧
  (∀ (s : State) (peer : Nat) (b : List Byte), s.awake = true → s.nydOn = true → s.nydMine b = true → nydSid b = 0 → s.mode' ≠ 7 → byteAt b 1 = 0x21
    → exec (.write peer b) s = .next (State.finish s (s.sessSweep.authUnlock.nydReply peer 0x21 0 (nydSeq b) 1 (leBytes 4 0x06010000)))) ∧
  (∀ (s : State) (peer : Nat) (b : List Byte), s.awake = true → s.nydPlain 0x22 b = true → exec (.bulkRead peer b) s = .next (State.finish s
    (s.sessSweep.authUnlock.nydExec peer b fun s d => s.nydBulk peer d))) ∧
  (∀ (s : State) (peer : Nat) (b : List Byte), s.awake = true → s.nydInside peer 0x23 b = true → exec (.domainRead peer b) s = .next (State.finish s
    ((s.sessSweep.authUnlock.seqTaken peer (nydSeq b)).nydExec peer b fun s d => s.nydDomRead peer d))) ∧
  (∀ (s : State) (peer : Nat) (b : List Byte), s.awake = true → s.nydInside peer 0x24 b = true → exec (.domainWrite peer b) s = .next (State.finish
    s ((s.sessSweep.authUnlock.seqTaken peer (nydSeq b)).nydExec peer b fun s d => s.nydDomWrite peer d))) ∧
  (∀ (s : State) (mac ip : Nat), s.awake = true → s.ipOn = true → exec (.arpRequest mac ip s.od.ip) s = .next (State.finish s (s.internalSend
    (beBytes 6 mac ++ beBytes 6 ownMac ++ beBytes 2 0x0806 ++ beBytes 2 1 ++ beBytes 2 0x0800 ++ beBytes 1 6 ++ beBytes 1 4 ++ beBytes 2 2 ++
    beBytes 6 ownMac ++ beBytes 4 s.od.ip ++ beBytes 6 mac ++ beBytes 4 ip)))) ∧
  (∀ (s : State) (mac ip target : Nat), s.awake = true → target ≠ s.od.ip ∨ s.ipOn = false → exec (.arpRequest mac ip target) s = .next
    (State.finish s (s))) ∧
  (∀ (s : State) (mac ip : Nat) (data m h : List Byte) (v : State) (d t : Nat), s.awake = true → s.ipOn = true → v = ((s.draw 16).2.draw 8).2 → d =
    (s.draw 16).1 → t = ((s.draw 16).2.draw 8).1 → m = beBytes 2 0 ++ beBytes 2 (ipChecksum (beBytes 2 0 ++ beBytes 2 0 ++ data)) ++ data → h =
    beBytes 1 0x45 ++ beBytes 1 0 ++ beBytes 2 (20 + m.length) ++ beBytes 2 d ++ beBytes 2 0 ++ beBytes 1 t ++ beBytes 1 1 → exec (.icmpEcho mac ip
    data) s = .next (State.finish s (v.internalSend (beBytes 6 mac ++ beBytes 6 ownMac ++ beBytes 2 0x0800 ++ (h ++ beBytes 2 (ipChecksum (h ++
    beBytes 2 0 ++ beBytes 4 v.od.ip ++ beBytes 4 ip)) ++ beBytes 4 v.od.ip ++ beBytes 4 ip) ++ m)))) ∧
  (∀ (s : State) (mac ip : Nat) (data : List Byte), s.awake = true → s.ipOn = false → exec (.icmpEcho mac ip data) s = .next (State.finish s (s))) ∧
  (∀ (s : State) (p : Fin 8) (v : State), s.awake = true → s.sdoOn p = true → v = s.sessSweep.authUnlock → v.xferOf p = none → exec
    (.registerWindowRead (.sdo p)) s = .next (State.finish s (v.sdoInitUp p [0x40, 0, 0x50, 3, 0, 0, 0, 0]))) ∧
  (∀ (s : State) (p : Fin 8) (b : List Byte) (v : State) (tag : Nat), s.awake = true → s.sdoOn p = true → v = s.sessSweep.authUnlock → tag = (if
    b.length ≤ 4 then 0x60 else 0x20) → b.length ≠ 0 → exec (.registerWindowWrite (.sdo p) b) s = .next (State.finish s ((v.setXfer p none).sdoWrite
    p 0x5000 3 b tag)))

/-- A broadcast cycle starts when POLL_INT has passed or by POLL_NOW, after the running cycle's end; a reply that passes its CRC is judged in order:
  timing, deny list, lockout, slot and response; a collision leads to addressed and ID-slotted cycles and to ACC_COLLISION after k = 7; lockouts end
  with LOCK_TIME or by UNLOCK. Where the block is not served, and a reply that fails its CRC, a command has no effect. Completes challengeCycle,
  pollNow, unlock, uhfReply, addressedCycle, idSlottedCycle, accLockoutEnd. -/
def Obligations.ChallengeCycles : Prop :=
  (∀ (s : State) (x : LfBurst) (v w : State), s.awake = true → s.accRuns = true → s.accMode = true → s.acc.req = true → v = s.cycleWait → w =
    (v.setAcc { v.acc with last := some v.now, req := false, done := some [] }).startCycle .broadcast → exec (.challengeCycle x) s = .next
    (State.finish s ((w.lfBurst (w.fld F.ACC_AER_EN) x).frameDrive (w.fld F.ACC_AER_EN) ((w.lfBurst (w.fld F.ACC_AER_EN) x).fld F.ACC_AER_DRIVE)
    x.ma))) ∧
  (∀ (s : State) (x : LfBurst) (u v w : State), s.awake = true → s.accRuns = true → s.accMode = true → s.acc.req = false → s.flag F.ACC_CTRL_POLL_EN
    = true → u = s.acc.last.elim s (fun t => s.advanceTo (t + s.pollInt)) → v = u.cycleWait → w = (v.setAcc
    { v.acc with last := some v.now, req := false, done := some [] }).startCycle .broadcast → exec (.challengeCycle x) s = .next (State.finish s
    (w.cycleBurst x))) ∧
  (∀ (s : State) (x : LfBurst), s.awake = true → (s.accRuns = false ∨ s.accMode = false ∨ s.acc.req = false ∧ s.flag F.ACC_CTRL_POLL_EN = false) →
    exec (.challengeCycle x) s = .next (State.finish s (s))) ∧
  (∀ (s : State) (a : Acc) (x : LfBurst) (v : State), s.granted a .ACC_CMD (0) → s.accRuns = true → s.accMode = true → s.cycling = false → v =
    s.wrote a .ACC_CMD (0) (fun s => ((s.setAcc { s.acc with last := some s.now, done := some [] }).startCycle .broadcast, 0)) → exec (.pollNow a x)
    s = .next (State.finish s (v.cycleBurst x))) ∧
  (∀ (s : State) (a : Acc) (x : LfBurst), s.granted a .ACC_CMD (0) → s.accRuns = true → s.accMode = true → s.cycling = true → exec (.pollNow a x) s
    = .next (State.finish s (s.wrote a .ACC_CMD (0) fun s => (s.setAcc { s.acc with req := true }, 0)))) ∧
  (∀ (s : State) (a : Acc) (x : LfBurst), s.granted a .ACC_CMD (0) → (s.accRuns = false ∨ s.accMode = false) → exec (.pollNow a x) s = .next
    (State.finish s (s.wrote a .ACC_CMD (0) fun s => (s, 0)))) ∧
  (∀ (s : State) (a : Acc), s.granted a .ACC_CMD (0) → exec (.unlock a) s = .next (State.finish s (s.wrote a .ACC_CMD (0) fun s => ((s.setAcc
    { s.acc with ids := s.acc.ids.filter (·.lock.isNone) }).lockoutJudge, 0)))) ∧
  (∀ (s : State) (start : Nat) (b : List Byte) (bitmap : Byte), s.awake = true → (s.accRuns = false ∨ s.acc.cyc.bind (·.parse start b) = none) →
    exec (.uhfReply start b bitmap) s = .next (State.finish s (s))) ∧
  (∀ (s : State) (start : Nat) (b : List Byte) (bitmap : Byte) (r : Reply) (c : Cycle) (v : State), s.awake = true → s.accRuns = true → s.acc.cyc =
    some c → c.kind ≠ .assign → c.parse start b = some r → v = s.advanceTo (c.chalEnd + us (start + if r.ver = 1 then 8400 else 10000)) → (r.delay <
    -10 ∨ ((v.fld F.ACC_SEC_RESP_MAX : Nat) : Int) - 300 < r.delay) → v.respOk c r = false → exec (.uhfReply start b bitmap) s = .next (State.finish
    s ((v.noteReply r 3).setFlag F.ACC_EVT_LATE))) ∧
  (∀ (s : State) (start : Nat) (b : List Byte) (bitmap : Byte) (r : Reply) (c : Cycle) (v : State), s.awake = true → s.accRuns = true → s.acc.cyc =
    some c → c.kind ≠ .assign → c.parse start b = some r → v = s.advanceTo (c.chalEnd + us (start + if r.ver = 1 then 8400 else 10000)) → (r.delay <
    -10 ∨ ((v.fld F.ACC_SEC_RESP_MAX : Nat) : Int) - 300 < r.delay) → v.respOk c r = true → exec (.uhfReply start b bitmap) s = .next (State.finish
    s (((v.noteReply r 3).setFlag F.ACC_EVT_LATE).raise .ACC_RELAY r.idx [unsigned 32 r.delay]))) ∧
  (∀ (s : State) (start : Nat) (b : List Byte) (bitmap : Byte) (r : Reply) (c : Cycle) (v : State), s.awake = true → s.accRuns = true → s.acc.cyc =
    some c → c.kind ≠ .assign → c.parse start b = some r → v = s.advanceTo (c.chalEnd + us (start + if r.ver = 1 then 8400 else 10000)) → -10 ≤
    r.delay → r.delay ≤ ((v.fld F.ACC_SEC_RESP_MAX : Nat) : Int) - 300 → v.acc.deny.contains r.id = true → exec (.uhfReply start b bitmap) s = .next
    (State.finish s (v.sayOnce .ACC_DENIED r.id))) ∧
  (∀ (s : State) (start : Nat) (b : List Byte) (bitmap : Byte) (r : Reply) (c : Cycle) (v : State), s.awake = true → s.accRuns = true → s.acc.cyc =
    some c → c.kind ≠ .assign → c.parse start b = some r → v = s.advanceTo (c.chalEnd + us (start + if r.ver = 1 then 8400 else 10000)) → -10 ≤
    r.delay → r.delay ≤ ((v.fld F.ACC_SEC_RESP_MAX : Nat) : Int) - 300 → v.acc.deny.contains r.id = false → v.lockedOut r.id = true → exec
    (.uhfReply start b bitmap) s = .next (State.finish s (v))) ∧
  (∀ (s : State) (start : Nat) (b : List Byte) (bitmap : Byte) (r : Reply) (c : Cycle) (v : State), s.awake = true → s.accRuns = true → s.acc.cyc =
    some c → c.kind ≠ .assign → c.parse start b = some r → v = s.advanceTo (c.chalEnd + us (start + if r.ver = 1 then 8400 else 10000)) → -10 ≤
    r.delay → r.delay ≤ ((v.fld F.ACC_SEC_RESP_MAX : Nat) : Int) - 300 → v.acc.deny.contains r.id = false → v.lockedOut r.id = false → (v.slotFor
    r.idx).1.occ = true → (v.slotFor r.idx).1.id = r.id → v.respOk c r = true → exec (.uhfReply start b bitmap) s = .next (State.finish s (v.replyOk
    r))) ∧
  (∀ (s : State) (start : Nat) (b : List Byte) (bitmap : Byte) (r : Reply) (c : Cycle) (v : State), s.awake = true → s.accRuns = true → s.acc.cyc =
    some c → c.kind ≠ .assign → c.parse start b = some r → v = s.advanceTo (c.chalEnd + us (start + if r.ver = 1 then 8400 else 10000)) → -10 ≤
    r.delay → r.delay ≤ ((v.fld F.ACC_SEC_RESP_MAX : Nat) : Int) - 300 → v.acc.deny.contains r.id = false → v.lockedOut r.id = false → ((v.slotFor
    r.idx).1.occ && (v.slotFor r.idx).1.id == r.id && v.respOk c r) = false → exec (.uhfReply start b bitmap) s = .next (State.finish s
    ((((v.noteReply r 2).setFlag F.ACC_EVT_FAIL).sayOnce .ACC_AUTH_FAIL r.id).failCount r.id))) ∧
  (∀ (s : State) (i : Fin 16) (rx : SlotRx) (x : LfBurst) (e : Enrol), s.awake = true → s.accRuns = true → s.acc.enrol = some e → e.slot = i →
    e.ver.isSome = true → exec (.addressedCycle i rx x) s = .next (State.finish s ((s.cycleWait.startCycle (.addressed i)).cycleBurst x))) ∧
  (∀ (s : State) (i : Fin 16) (rx : SlotRx) (x : LfBurst) (d : List Nat) (v w : State), s.awake = true → s.accRuns = true → s.acc.enrol = none →
    s.acc.done = some d → (1000000 ≤ rx.energy ∨ 2 ≤ rx.syncs) → v = s.setFlag F.ACC_EVT_COLL → v.addressDue i = true → w = v.cycleWait → exec
    (.addressedCycle i rx x) s = .next (State.finish s (((w.setAcc { w.acc with done := some (d ++ [(i : Nat)]) }).startCycle (.addressed
    i)).cycleBurst x))) ∧
  (∀ (s : State) (i : Fin 16) (rx : SlotRx) (x : LfBurst) (v : State), s.awake = true → s.accRuns = true → s.acc.enrol = none → s.acc.done.isSome =
    true → (1000000 ≤ rx.energy ∨ 2 ≤ rx.syncs) → v = s.setFlag F.ACC_EVT_COLL → v.addressDue i = false → exec (.addressedCycle i rx x) s = .next
    (State.finish s (v))) ∧
  (∀ (s : State) (i : Fin 16) (rx : SlotRx) (x : LfBurst), s.awake = true → (s.accRuns = false ∨ s.acc.enrol = none ∧ (s.acc.done = none ∨ rx.energy
    < 1000000 ∧ rx.syncs < 2)) → exec (.addressedCycle i rx x) s = .next (State.finish s (s))) ∧
  (∀ (s : State) (rx : SlotRx) (x : LfBurst) (c : Cycle) (i : Nat), s.awake = true → s.accRuns = true → s.acc.cyc = some c → c.kind = .addressed i →
    (1000000 ≤ rx.energy ∨ 2 ≤ rx.syncs) → exec (.idSlottedCycle rx x) s = .next (State.finish s ((((s.setFlag F.ACC_EVT_COLL).cycleWait).startCycle
    (.slotted i 0)).cycleBurst x))) ∧
  (∀ (s : State) (rx : SlotRx) (x : LfBurst) (c : Cycle) (i k : Nat), s.awake = true → s.accRuns = true → s.acc.cyc = some c → c.kind = .slotted i k
    → k < 7 → (1000000 ≤ rx.energy ∨ 2 ≤ rx.syncs) → exec (.idSlottedCycle rx x) s = .next (State.finish s ((((s.setFlag
    F.ACC_EVT_COLL).cycleWait).startCycle (.slotted i (k + 1))).cycleBurst x))) ∧
  (∀ (s : State) (rx : SlotRx) (x : LfBurst) (c : Cycle) (i k : Nat) (v : State), s.awake = true → s.accRuns = true → s.acc.cyc = some c → c.kind =
    .slotted i k → 7 ≤ k → (1000000 ≤ rx.energy ∨ 2 ≤ rx.syncs) → v = ((s.setFlag F.ACC_EVT_COLL).cycleWait).raise .ACC_COLLISION i → exec
    (.idSlottedCycle rx x) s = .next (State.finish s (v.setAcc { v.acc with cyc := none }))) ∧
  (∀ (s : State) (rx : SlotRx) (x : LfBurst), s.awake = true → (s.accRuns = false ∨ s.acc.cyc = none ∨ rx.energy < 1000000 ∧ rx.syncs < 2) → exec
    (.idSlottedCycle rx x) s = .next (State.finish s (s))) ∧
  (∀ (s : State) (id t : Nat) (x : Ident) (v : State), s.awake = true → s.acc.ids.find? (fun x => x.id == id && x.lock.isSome) = some x → x.lock =
    some t → v = s.advanceTo t → exec (.accLockoutEnd id) s = .next (State.finish s ((v.setAcc
    { v.acc with ids := v.acc.ids.filter (·.id ≠ id) }).lockoutJudge))) ∧
  (∀ (s : State) (id : Nat), s.awake = true → s.acc.ids = [] → exec (.accLockoutEnd id) s = .next (State.finish s (s)))

/-- A gate whose window has ended closes unless its hold source is true; a release message carries F, the gate's state and the CMAC under key 10;
  zone learning, enrolment, revocation and re-keying are writes of 2A00 and act as R558 and R564 to R568 say; the reply to an assign frame chooses
  the version, and an enrolment without an OK within 30 s fails; in Watch frames go out every 250 ms on each aerial in turn and a valid reply wakes
  the module. Completes gateClose, releaseMessage, zoneLearning, zoneLearningEnd, enrolment, accEnrolFail, revoke, rekey, watchWakeFrame,
  watchReply. -/
def Obligations.GatesAndEnrolment : Prop :=
  (∀ (s : State) (g : Fin 8) (v : State), s.awake = true → s.bit F.ACC_STAT_GATES 0 g = true → v = s.advanceTo ((s.gatec g).auth + sec (s.fld
    F.ACC_GATE_SEL_WINDOW g)) → v.gateHeld g = false → exec (.gateClose g) s = .next (State.finish s (v.gateShutNow g))) ∧
  (∀ (s : State) (g : Fin 8) (v : State), s.awake = true → s.bit F.ACC_STAT_GATES 0 g = true → v = s.advanceTo ((s.gatec g).auth + sec (s.fld
    F.ACC_GATE_SEL_WINDOW g)) → v.gateHeld g = true → exec (.gateClose g) s = .next (State.finish s (v))) ∧
  (∀ (s : State) (g : Fin 8), s.awake = true → s.bit F.ACC_STAT_GATES 0 g = false → exec (.gateClose g) s = .next (State.finish s (s))) ∧
  (∀ (s : State) (g : Fin 8), s.awake = true → s.flag F.ACC_MSGCFG_MSG_EN g = false → exec (.releaseMessage g) s = .next (State.finish s (s))) ∧
  (∀ (s : State) (g : Fin 8) (p f h b : Nat) (k : List Byte) (u v : State), s.awake = true → p = s.fld F.ACC_MSGCFG_PORT g → s.flag
    F.ACC_MSGCFG_MSG_EN g = true → s.accRuns = true → s.canRuns p = true → s.fld F.CAN_CTRL_OPMODE p = 0 → s.key 10 = some k → u = (s.gatec
    g).msgAt.elim s (fun t => s.advanceTo t) → f = (u.cust.fresh + 1) % 2 ^ 64 → h = u.fld F.ACC_GATE_MSG_ID g → b = (if u.bit F.ACC_STAT_GATES 0 g
    then 1 else 0) + 2 * g + 16 * (if u.bit F.ACC_STAT_GATES 0 g then (u.gatec g).zone else 15) → v = u.setCust
    { u.cust with fresh := f, freshNvm := if f % 65536 = 0 then f else u.cust.freshNvm } → exec (.releaseMessage g) s = .next (State.finish s
    ((v.setGatec g { v.gatec g with msgAt := some (v.now + ms (v.fld F.ACC_MSGCFG_PERIOD g)) }).timerPut p (4 + g)
    { id := h, xtd := v.flag F.ACC_GATE_MSG_XTD g, dlc := 8, data := leBytes 1 b ++ leBytes 3 f ++ (aesCmac k (leBytes 4 h ++ leBytes 1 b ++ leBytes 8 f)).take 4 }))) ∧
  (∀ (s : State) (p : Fin 8) (n : Nat) (v : State), s.awake = true → s.sdoOn p = true → s.mode' = 6 → n ≤ 8 → v = (s.sessSweep.authUnlock).setXfer p
    none → 2 ≤ v.levelOf (.sdo p) → exec (.zoneLearning (.sdo p) n) s = .next (State.finish s (((v.setAcc
    { v.acc with learn := if n = 0 then none else some (n - 1, v.now, false) }).sessTouch (.sdo p)).sdoReply p [0x60, 0x00, 0x2A, 0x14]))) ∧
  (∀ (s : State) (p : Fin 8) (n : Nat) (v : State), s.awake = true → s.sdoOn p = true → s.mode' ≠ 6 → s.mode' ≠ 7 → v =
    (s.sessSweep.authUnlock).setXfer p none → 2 ≤ v.levelOf (.sdo p) → exec (.zoneLearning (.sdo p) n) s = .next (State.finish s (v.sdoAbort p
    0x2A00 0x14 0x08000022))) ∧
  (∀ (s : State) (z t : Nat) (b : Bool) (v : State), s.awake = true → s.acc.learn = some (z, t, b) → v = s.advanceTo (t + sec 60) → exec
    (.zoneLearningEnd) s = .next (State.finish s (v.setAcc { v.acc with learn := none }))) ∧
  (∀ (s : State), s.awake = true → s.acc.learn = none → exec (.zoneLearningEnd) s = .next (State.finish s (s))) ∧
  (∀ (s : State) (p : Fin 8) (b : List Byte) (y : LfBurst) (v : State) (x : State × Nat), s.awake = true → s.sdoOn p = true → s.mode' ≠ 7 → v =
    (s.sessSweep.authUnlock).setXfer p none → 2 ≤ v.levelOf (.sdo p) → x = v.enrolWrite true b → 4 < b.length → x.2 = 0 → exec (.enrolment (.sdo p)
    b y) s = .next (State.finish s (((x.1.sessTouch (.sdo p)).sdoReply p [0x20]).cycleBurst y))) ∧
  (∀ (s : State) (p : Fin 8) (b : List Byte) (y : LfBurst) (v : State) (x : State × Nat), s.awake = true → s.sdoOn p = true → s.mode' ≠ 7 → v =
    (s.sessSweep.authUnlock).setXfer p none → 2 ≤ v.levelOf (.sdo p) → x = v.enrolWrite true b → b.length ≠ 0 → x.2 ≠ 0 → exec (.enrolment (.sdo p)
    b y) s = .next (State.finish s (x.1.sdoAbort p 0x2A00 0x20 x.2))) ∧
  (∀ (s : State) (start : Nat) (b : List Byte) (bitmap : Byte) (c : Cycle) (r : Reply) (e : Enrol) (n : Nat) (v : State), s.awake = true → s.accRuns
    = true → s.acc.cyc = some c → c.kind = .assign → c.parse start b = some r → v = s.advanceTo (c.chalEnd + us (start + if r.ver = 1 then 8400 else
    10000)) → v.acc.enrol = some e → e.id = r.id → n = (if bitOf bitmap.toNat 1 then 2 else 1) → (bitOf bitmap.toNat 0 || bitOf bitmap.toNat 1) =
    true → exec (.uhfReply start b bitmap) s = .next (State.finish s ((v.setAcc { v.acc with enrol := some { e with ver := some n } }).negotiated 3
    e.slot n))) ∧
  (∀ (s : State) (start : Nat) (b : List Byte) (bitmap : Byte) (c : Cycle) (r : Reply) (e : Enrol) (v : State), s.awake = true → s.accRuns = true →
    s.acc.cyc = some c → c.kind = .assign → c.parse start b = some r → v = s.advanceTo (c.chalEnd + us (start + if r.ver = 1 then 8400 else 10000))
    → v.acc.enrol = some e → e.id = r.id → (bitOf bitmap.toNat 0 || bitOf bitmap.toNat 1) = false → exec (.uhfReply start b bitmap) s = .next
    (State.finish s ((v.setAcc { v.acc with enrol := none, result := 4 }).raise .ACC_ENROL_FAIL e.slot))) ∧
  (∀ (s : State) (e : Enrol) (v : State), s.awake = true → s.acc.enrol = some e → v = s.advanceTo (e.start + sec 30) → v.acc.enrol = some e → exec
    (.accEnrolFail) s = .next (State.finish s ((v.setAcc { v.acc with enrol := none, result := 3 }).raise .ACC_ENROL_FAIL e.slot))) ∧
  (∀ (s : State), s.awake = true → s.acc.enrol = none → exec (.accEnrolFail) s = .next (State.finish s (s))) ∧
  (∀ (s : State) (p : Fin 8) (i : Fin 16) (v w : State), s.awake = true → s.sdoOn p = true → s.mode' ≠ 7 → v = (s.sessSweep.authUnlock).setXfer p
    none → 2 ≤ v.levelOf (.sdo p) → (v.slotc i).occ = true → v.acc.deny.length < 64 → w = v.setAcc
    { v.acc with deny := v.acc.deny ++ [(v.slotc i).id] } → exec (.revoke (.sdo p) i) s = .next (State.finish s (((((w.setSlotc i {}).eraseKeys fun
    k => k == 11 + i.val).wr .ACC_SLOT_STAT i 0).sessTouch (.sdo p)).sdoReply p [0x60, 0x00, 0x2A, 0x21]))) ∧
  (∀ (s : State) (p : Fin 8) (i : Fin 16) (v : State), s.awake = true → s.sdoOn p = true → s.mode' ≠ 7 → v = (s.sessSweep.authUnlock).setXfer p none
    → 2 ≤ v.levelOf (.sdo p) → (v.slotc i).occ = true → 64 ≤ v.acc.deny.length → exec (.revoke (.sdo p) i) s = .next (State.finish s ((v.raise
    .ACC_DENY_FULL).sdoAbort p 0x2A00 0x21 0x08000022))) ∧
  (∀ (s : State) (p : Fin 8) (i : Fin 16) (v : State), s.awake = true → s.sdoOn p = true → s.mode' ≠ 7 → v = (s.sessSweep.authUnlock).setXfer p none
    → 2 ≤ v.levelOf (.sdo p) → (v.slotc i).occ = false → exec (.revoke (.sdo p) i) s = .next (State.finish s ((v.sessTouch (.sdo p)).sdoReply p
    [0x60, 0x00, 0x2A, 0x21]))) ∧
  (∀ (s : State) (p : Fin 8) (v : State), s.awake = true → s.sdoOn p = true → s.mode' ≠ 7 → v = (s.sessSweep.authUnlock).setXfer p none → v.levelOf
    (.sdo p) = 3 → v.cust.lc = 4 → v.cust.safe = false → exec (.rekey (.sdo p) 1) s = .next (State.finish s ((v.rekey.sessTouch (.sdo p)).sdoReply p
    [0x60, 0x00, 0x2A, 0x24]))) ∧
  (∀ (s : State) (p : Fin 8) (v : State), s.awake = true → s.sdoOn p = true → s.mode' ≠ 7 → v = (s.sessSweep.authUnlock).setXfer p none → v.levelOf
    (.sdo p) = 3 → (v.cust.lc ≠ 4 ∨ v.cust.safe = true) → exec (.rekey (.sdo p) 1) s = .next (State.finish s (v.sdoAbort p 0x2A00 0x24 0x08000022))) ∧
  (∀ (s : State) (ma a : Nat) (v : State), s.mode' = 1 → s.flag F.ACC_CTRL_WATCH_EN = true → s.accRuns = true → nextAerial (s.fld F.ACC_AER_WATCH)
    s.acc.turn = some a → v = s.acc.watchAt.elim s (fun t => s.advanceTo (t + ms 250)) → exec (.watchWakeFrame ma) s = .next (State.finish s
    ((v.setAcc { v.acc with turn := a, watchAt := some v.now, lf := v.lfFrame 4 [] }).aerialDrive a (v.fld F.ACC_AER_WATCH_DRIVE) (some ma)))) ∧
  (∀ (s : State) (ma : Nat), (s.mode' ≠ 1 ∨ s.flag F.ACC_CTRL_WATCH_EN = false ∨ s.accRuns = false ∨ nextAerial (s.fld F.ACC_AER_WATCH) s.acc.turn =
    none) → exec (.watchWakeFrame ma) s = .next (State.finish s (s))) ∧
  (∀ (s : State) (b : List Byte) (after : Nat) (boot : BootIn), s.watchOk b after = true → exec (.watchReply b after boot) s = .next (State.finish s
    ((s.advanceTo (s.acc.watchAt.getD 0 + ms 12 + us after)).wakeUp 6 s.acc.turn [] boot))) ∧
  (∀ (s : State) (b : List Byte) (after : Nat) (boot : BootIn), s.watchOk b after = false → exec (.watchReply b after boot) s = .next (State.finish
    s (s)))

/-- A key record that the lifecycle state permits replaces its key, before key 6 is present also without a session; a lifecycle request consumes its
  nonce and is carried out with its effects or refused with LC_REFUSED; the debug port gives a nonce, verifies an attach, grants per the matrix of
  R581, locks after the third failure for 60 s, wakes the module, and ends its grant at detach or when it is disabled. Completes keyRecord,
  lifecycleNonce, lifecycleRequest, debugChallenge, debugAttach, debugWake, debugDetach, debugPortDisable, dbgLockoutEnd. -/
def Obligations.KeysAndLifecycle : Prop :=
  (∀ (s : State) (p : Fin 8) (b : List Byte) (v : State) (x : State × Nat), s.awake = true → s.sdoOn p = true → s.mode' ≠ 7 → v =
    (s.sessSweep.authUnlock).setXfer p none → (v.levelOf (.sdo p) = 3 ∨ v.cust.lc = 1 ∧ v.key 6 = none) → x = v.keyRecord (v.facOf (.sdo p)) b → 4 <
    b.length → exec (.keyRecord (.sdo p) b) s = .next (State.finish s (if x.2 = 0 then (x.1.sessTouch (.sdo p)).sdoReply p [0x20] else x.1.sdoAbort
    p 0x2B00 0x10 x.2))) ∧
  (∀ (s : State) (p : Fin 8) (b : List Byte) (k : Nat) (u y : List Byte) (v : State), s.awake = true → s.sdoOn p = true → s.mode' ≠ 7 → v =
    (s.sessSweep.authUnlock).setXfer p none → v.cust.lc = 1 → v.key 6 = none → v.cust.safe = false → v.cust.bad = [] → k = leNat (b.take 1) → (k = 8
    ∧ b.length = 25 ∨ k ≠ 8 ∧ 4 ≤ k ∧ k ≤ 9 ∧ b.length = 41) → v.key 3 = some u → keyUnwrap u (b.drop 1) = some y → exec (.keyRecord (.sdo p) b) s =
    .next (State.finish s ((((v.setKey k y).raise .CUST_KEY_WRITE k).sessTouch (.sdo p)).sdoReply p [0x20]))) ∧
  (∀ (s : State) (p : Fin 8) (v w : State), s.awake = true → s.sdoOn p = true → s.mode' ≠ 7 → v = s.sessSweep.authUnlock → v.xferOf p = none → (2 ≤
    v.levelOf (.sdo p)) → w = (((v.setXfer p none).lcNonce).2).sessTouch (.sdo p) → exec (.lifecycleNonce (.sdo p)) s = .next (State.finish s
    ((w.setXfer p (some
    { kind := 1, idx := 0x2B00, sub := 0x21, data := Config.trng v.free 16, all := Config.trng v.free 16, last := w.now })).sdoReply p [0x41, 0x00,
    0x2B, 0x21, 16, 0, 0, 0]))) ∧
  (∀ (s : State) (p : Fin 8) (b : List Byte) (v : State) (x : State × Nat), s.awake = true → s.sdoOn p = true → s.mode' ≠ 7 → v =
    (s.sessSweep.authUnlock).setXfer p none → 2 ≤ v.levelOf (.sdo p) → x = v.lcRequest true (v.facOf (.sdo p)) b → x.2 = 0 → 4 < b.length → exec
    (.lifecycleRequest (.sdo p) b) s = .next (State.finish s ((x.1.sessTouch (.sdo p)).sdoReply p [0x20]))) ∧
  (∀ (s : State) (p : Fin 8) (b : List Byte) (v : State) (x : State × Nat), s.awake = true → s.sdoOn p = true → s.mode' ≠ 7 → v =
    (s.sessSweep.authUnlock).setXfer p none → 2 ≤ v.levelOf (.sdo p) → x = v.lcRequest true (v.facOf (.sdo p)) b → x.2 ≠ 0 → b.length ≠ 0 → exec
    (.lifecycleRequest (.sdo p) b) s = .next (State.finish s (x.1.sdoAbort p 0x2B00 0x20 x.2))) ∧
  (∀ (s : State) (p : Fin 8) (b : List Byte) (v w : State), s.awake = true → s.sdoOn p = true → s.mode' ≠ 7 → v = (s.sessSweep.authUnlock).setXfer p
    none → 2 ≤ v.levelOf (.sdo p) → (s.mode' ≠ 3 ∨ v.fld F.BERTH_STAT_STATE ≠ 1 ∨ v.fld F.BERTH_VKEEP_VSRC ≤ v.vwarn ∨ v.cust.safe = true ∨
    v.lcListed true (v.facOf (.sdo p)) (leNat (b.take 1)) = false) → w = v.setCust { v.cust with nonce := none } → b.length ≠ 0 → exec
    (.lifecycleRequest (.sdo p) b) s = .next (State.finish s ((w.raise .LC_REFUSED 0 [v.cust.lc, leNat (b.take 1)]).sdoAbort p 0x2B00 0x20
    0x08000022))) ∧
  (∀ (s : State), s.awake = true → s.cust.safe = false → (s.cust.dbg.wake = false ∨ s.mode' ≠ 2) → Completes (.debugChallenge) s fun u =>
    u.cust.dbg.nonce = some (Config.trng s.free 32, s.now) ∧ u.free = s.free + 1 ∧ s.sameBut u []) ∧
  (∀ (s : State), (s.cust.safe = true ∨ s.awake = false ∨ s.cust.dbg.wake = true ∧ s.mode' = 2) → exec (.debugChallenge) s = .next (State.finish s
    (s))) ∧
  (∀ (s : State) (l : Fin 4) (b : List Byte) (v : State), v = s.setDbg { s.cust.dbg with nonce := none } → (s.cust.dbg.nonce.any (fun x => decide
    (s.now < x.2 + sec 10)) = false ∨ s.cust.dbg.lock.isSome = true ∨ s.cust.safe = true ∨ s.cust.dbg.enabled = false ∨ l.val = 0 ∨ l.val = 3) →
    exec (.debugAttach l b) s = .next (State.finish s ((v.setDbg { v.cust.dbg with wake := false }).raise .DBG_DENIED))) ∧
  (∀ (s : State) (l : Fin 4) (b n : List Byte) (t : Nat) (v : State), s.cust.dbg.nonce = some (n, t) → s.cust.dbg.lock = none → s.cust.safe = false
    → s.cust.dbg.enabled = true → s.now < t + sec 10 → (l.val = 1 ∨ l.val = 2) → v = (s.setDbg { s.cust.dbg with nonce := none }).keyUsed s.dbgKey →
    v.signOk v.dbgKey (n ++ serialBytes ++ leBytes 1 v.cust.lc ++ leBytes 1 l) b = false → s.cust.dbg.fails < 2 → exec (.debugAttach l b) s = .next
    (State.finish s ((v.setDbg { v.cust.dbg with fails := s.cust.dbg.fails + 1 }).dbgDeny))) ∧
  (∀ (s : State) (l : Fin 4) (b n : List Byte) (t : Nat) (v : State), s.cust.dbg.nonce = some (n, t) → s.cust.dbg.lock = none → s.cust.safe = false
    → s.cust.dbg.enabled = true → s.now < t + sec 10 → (l.val = 1 ∨ l.val = 2) → v = (s.setDbg { s.cust.dbg with nonce := none }).keyUsed s.dbgKey →
    v.signOk v.dbgKey (n ++ serialBytes ++ leBytes 1 v.cust.lc ++ leBytes 1 l) b = false → 2 ≤ s.cust.dbg.fails → exec (.debugAttach l b) s = .next
    (State.finish s (((v.setDbg { v.cust.dbg with fails := 0, lock := some (v.now + sec 60) }).raise .DBG_AUTH_FAIL).dbgDeny))) ∧
  (∀ (s : State) (l : Fin 4) (b n : List Byte) (t : Nat) (v w : State), s.cust.dbg.nonce = some (n, t) → s.cust.dbg.lock = none → s.cust.safe =
    false → s.cust.dbg.enabled = true → s.now < t + sec 10 → (l.val = 1 ∨ l.val = 2) → v = (s.setDbg { s.cust.dbg with nonce := none }).keyUsed
    s.dbgKey → w = v.setDbg { v.cust.dbg with fails := 0 } → exec (.debugAttach l b) s = .next (State.finish s (if v.signOk v.dbgKey (n ++
    serialBytes ++ leBytes 1 v.cust.lc ++ leBytes 1 l) b then (if w.mode' = 2 then w.setDbg { w.cust.dbg with held := some l.val } else w.dbgJudge
    (if s.cust.dbg.wake then 0 else w.mode') l) else if s.cust.dbg.fails < 2 then (v.setDbg
    { v.cust.dbg with fails := s.cust.dbg.fails + 1 }).dbgDeny else ((v.setDbg { v.cust.dbg with fails := 0, lock := some (v.now + sec 60) }).raise
    .DBG_AUTH_FAIL).dbgDeny))) ∧
  (∀ (s : State) (boot : BootIn) (v : State), s.awake = false → v = s.wakeUp 14 0 [] boot → exec (.debugWake boot) s = .next (State.finish s (if
    v.awake then v.setDbg { v.cust.dbg with wake := true } else v))) ∧
  (∀ (s : State) (boot : BootIn), s.awake = true → exec (.debugWake boot) s = .next (State.finish s (s.sleepAbort 14))) ∧
  (∀ (s : State), s.cust.dbg.granted = 0 → s.cust.dbg.service = false → exec (.debugDetach) s = .next (State.finish s (s.setDbg
    { s.cust.dbg with granted := 0, level := 0, held := none, service := false }))) ∧
  (∀ (s : State), s.cust.dbg.granted ≠ 0 → s.cust.dbg.service = false → exec (.debugDetach) s = .next (State.finish s ((s.setDbg
    { s.cust.dbg with granted := 0, level := 0, held := none, service := false }).raise .DBG_GRANT 0 [0]))) ∧
  (∀ (s : State) (p : Fin 8) (v : State), s.awake = true → s.sdoOn p = true → s.mode' = 3 → v = (s.sessSweep.authUnlock).setXfer p none → v.levelOf
    (.sdo p) = 3 → exec (.debugPortDisable (.sdo p)) s = .next (State.finish s (((v.setDbg { v.cust.dbg with enabled := false }).debugEnd.sessTouch
    (.sdo p)).sdoReply p [0x60, 0x00, 0x2B, 0x30]))) ∧
  (∀ (s : State) (t : Nat) (v : State), s.cust.dbg.lock = some t → v = s.advanceTo t → exec (.dbgLockoutEnd) s = .next (State.finish s ((v.setDbg
    { v.cust.dbg with lock := none }).clearFault .DBG_AUTH_FAIL))) ∧
  (∀ (s : State), s.cust.dbg.lock = none → exec (.dbgLockoutEnd) s = .next (State.finish s (s)))

/-- A GO takes the mailbox for its master and runs the operation; completion writes the output from byte 0 on and sets DONE, and ERR with its code
  where the operation is not permitted or fails; clearing DONE frees the mailbox; another master's write is refused; a failed self-test puts customs
  into its safe state and closes every gate. Completes trngRandom, sha256, ecdsaVerify, hmacSha256, aesCmac, aesEncrypt, mailboxDone,
  mailboxRelease, custSelftest. -/
def Obligations.Mailboxes : Prop :=
  (∀ (s : State) (a : Acc) (m : Fin 2) (key : Fin 256) (len : Fin 512) (r : Reg), r = mbxCmd m → s.granted a r (0) → s.mbxBarred m (s.who a).code =
    false → ∃ n : Word, exec (.trngRandom a m key len) s = .next (State.finish s (s.wrote a r (0) fun s => ((s.wr r 0 n).mbxGo m (s.who a).code 0x01
    key len, 0)))) ∧
  (∀ (s : State) (a : Acc) (m : Fin 2) (key : Fin 256) (len : Fin 512) (r : Reg), r = mbxCmd m → s.granted a r (0) → s.mbxBarred m (s.who a).code =
    true → exec (.trngRandom a m key len) s = .next (State.finish s (s.wrote a r (0) fun s => (s.mbxRefuse m, 0x08000022)))) ∧
  (∀ (s : State) (a : Acc) (m : Fin 2) (key : Fin 256) (len : Fin 512) (r : Reg), r = mbxCmd m → s.granted a r (0) → s.mbxBarred m (s.who a).code =
    false → ∃ n : Word, exec (.sha256 a m key len) s = .next (State.finish s (s.wrote a r (0) fun s => ((s.wr r 0 n).mbxGo m (s.who a).code 0x02 key
    len, 0)))) ∧
  (∀ (s : State) (a : Acc) (m : Fin 2) (key : Fin 256) (len : Fin 512) (r : Reg), r = mbxCmd m → s.granted a r (0) → s.mbxBarred m (s.who a).code =
    false → ∃ n : Word, exec (.ecdsaVerify a m key len) s = .next (State.finish s (s.wrote a r (0) fun s => ((s.wr r 0 n).mbxGo m (s.who a).code
    0x03 key len, 0)))) ∧
  (∀ (s : State) (a : Acc) (m : Fin 2) (key : Fin 256) (len : Fin 512) (r : Reg), r = mbxCmd m → s.granted a r (0) → s.mbxBarred m (s.who a).code =
    false → ∃ n : Word, exec (.hmacSha256 a m key len) s = .next (State.finish s (s.wrote a r (0) fun s => ((s.wr r 0 n).mbxGo m (s.who a).code 0x10
    key len, 0)))) ∧
  (∀ (s : State) (a : Acc) (m : Fin 2) (key : Fin 256) (len : Fin 512) (r : Reg), r = mbxCmd m → s.granted a r (0) → s.mbxBarred m (s.who a).code =
    false → ∃ n : Word, exec (.aesCmac a m key len) s = .next (State.finish s (s.wrote a r (0) fun s => ((s.wr r 0 n).mbxGo m (s.who a).code 0x11
    key len, 0)))) ∧
  (∀ (s : State) (a : Acc) (m : Fin 2) (key : Fin 256) (len : Fin 512) (r : Reg), r = mbxCmd m → s.granted a r (0) → s.mbxBarred m (s.who a).code =
    false → ∃ n : Word, exec (.aesEncrypt a m key len) s = .next (State.finish s (s.wrote a r (0) fun s => ((s.wr r 0 n).mbxGo m (s.who a).code 0x12
    key len, 0)))) ∧
  (∀ (s : State) (a : Acc) (m : Fin 2) (key : Fin 256) (len : Fin 512) (r : Reg), r = mbxCmd m → s.granted a r (0) → s.mbxBarred m (s.who a).code =
    true → exec (.sha256 a m key len) s = .next (State.finish s (s.wrote a r (0) fun s => (s.mbxRefuse m, 0x08000022)))) ∧
  (∀ (s : State) (a : Acc) (m : Fin 2) (key : Fin 256) (len : Fin 512) (r : Reg), r = mbxCmd m → s.granted a r (0) → s.mbxBarred m (s.who a).code =
    true → exec (.ecdsaVerify a m key len) s = .next (State.finish s (s.wrote a r (0) fun s => (s.mbxRefuse m, 0x08000022)))) ∧
  (∀ (s : State) (a : Acc) (m : Fin 2) (key : Fin 256) (len : Fin 512) (r : Reg), r = mbxCmd m → s.granted a r (0) → s.mbxBarred m (s.who a).code =
    true → exec (.hmacSha256 a m key len) s = .next (State.finish s (s.wrote a r (0) fun s => (s.mbxRefuse m, 0x08000022)))) ∧
  (∀ (s : State) (a : Acc) (m : Fin 2) (key : Fin 256) (len : Fin 512) (r : Reg), r = mbxCmd m → s.granted a r (0) → s.mbxBarred m (s.who a).code =
    true → exec (.aesCmac a m key len) s = .next (State.finish s (s.wrote a r (0) fun s => (s.mbxRefuse m, 0x08000022)))) ∧
  (∀ (s : State) (a : Acc) (m : Fin 2) (key : Fin 256) (len : Fin 512) (r : Reg), r = mbxCmd m → s.granted a r (0) → s.mbxBarred m (s.who a).code =
    true → exec (.aesEncrypt a m key len) s = .next (State.finish s (s.wrote a r (0) fun s => (s.mbxRefuse m, 0x08000022)))) ∧
  (∀ (s : State) (m : Fin 2), s.awake = true → (s.mbx m).op = none → exec (.mailboxDone m) s = .next (State.finish s (s))) ∧
  (∀ (s : State) (m : Fin 2) (key len : Nat) (v : State), s.awake = true → (s.mbx m).op = some (0x01, key, len) → s.cust.safe = false → 1 ≤ len →
    len ≤ 256 → v = (((s.trng len).2.setMbx m { s.mbx m with op := none }).mbxOut m (Config.trng s.free len)).setFlag (mbxFld m
    F.CUST_MBX0_STAT_BUSY) 0 false → (s.trng len).2.mbx m = s.mbx m → exec (.mailboxDone m) s = .next (State.finish s ((((v.setFlag (mbxFld m
    F.CUST_MBX0_STAT_DONE)).setFlag (mbxFld m F.CUST_MBX0_STAT_ERR) 0 false).setFld (mbxFld m F.CUST_MBX0_STAT_ERRCODE) 0 0)))) ∧
  (∀ (s : State) (m : Fin 2) (key len : Nat) (v : State), s.awake = true → (s.mbx m).op = some (0x02, key, len) → s.cust.safe = false → 1 ≤ len →
    len ≤ 256 → v = ((s.setMbx m { s.mbx m with op := none }).mbxOut m (sha256 (s.mbxIn m len))).setFlag (mbxFld m F.CUST_MBX0_STAT_BUSY) 0 false →
    exec (.mailboxDone m) s = .next (State.finish s ((((v.setFlag (mbxFld m F.CUST_MBX0_STAT_DONE)).setFlag (mbxFld m F.CUST_MBX0_STAT_ERR) 0
    false).setFld (mbxFld m F.CUST_MBX0_STAT_ERRCODE) 0 0)))) ∧
  (∀ (s : State) (m : Fin 2) (op key len : Nat) (k o : List Byte) (v : State), s.awake = true → m = 1 → (s.mbx m).op = some (op, key, len) →
    s.cust.safe = false → 1 ≤ len → len ≤ 256 → s.key key = some k → (op = 0x10 ∧ (key = 9 ∨ (4 ≤ key ∧ key ≤ 7)) ∧ o = hmacSha256 k (s.mbxIn m len)
    ∨ op = 0x11 ∧ key = 10 ∧ o = aesCmac k (s.mbxIn m len) ∨ op = 0x12 ∧ len = 16 ∧ 11 ≤ key ∧ key ≤ 26 ∧ o = aes128 k (s.mbxIn m 16)) → v =
    ((s.setMbx m { s.mbx m with op := none }).mbxOut m o).setFlag (mbxFld m F.CUST_MBX0_STAT_BUSY) 0 false → exec (.mailboxDone m) s = .next
    (State.finish s ((((v.setFlag (mbxFld m F.CUST_MBX0_STAT_DONE)).setFlag (mbxFld m F.CUST_MBX0_STAT_ERR) 0 false).setFld (mbxFld m
    F.CUST_MBX0_STAT_ERRCODE) 0 0)))) ∧
  (∀ (s : State) (m : Fin 2) (op key len : Nat) (v : State), s.awake = true → (s.mbx m).op = some (op, key, len) → s.cust.safe = false → (len = 0 ∨
    256 < len) → v = ((s.setMbx m { s.mbx m with op := none }).mbxOut m []).setFlag (mbxFld m F.CUST_MBX0_STAT_BUSY) 0 false → exec (.mailboxDone m)
    s = .next (State.finish s ((((v.setFlag (mbxFld m F.CUST_MBX0_STAT_DONE)).setFlag (mbxFld m F.CUST_MBX0_STAT_ERR) 0 true).setFld (mbxFld m
    F.CUST_MBX0_STAT_ERRCODE) 0 3)))) ∧
  (∀ (s : State) (m : Fin 2) (op key len : Nat) (x : State × List Byte × Nat) (v : State), s.awake = true → (s.mbx m).op = some (op, key, len) → x =
    s.mbxRun m op key len → v = ((x.1.setMbx m { x.1.mbx m with op := none }).mbxOut m x.2.1).setFlag (mbxFld m F.CUST_MBX0_STAT_BUSY) 0 false →
    exec (.mailboxDone m) s = .next (State.finish s ((((v.setFlag (mbxFld m F.CUST_MBX0_STAT_DONE)).setFlag (mbxFld m F.CUST_MBX0_STAT_ERR) 0 (x.2.2
    != 0)).setFld (mbxFld m F.CUST_MBX0_STAT_ERRCODE) 0 x.2.2)))) ∧
  (∀ (s : State) (m : Fin 2) (op key len : Nat), s.awake = true → (s.mbx m).op = some (op, key, len) → s.cust.safe = true → Completes (.mailboxDone
    m) s fun u => u.fld (mbxFld m F.CUST_MBX0_STAT_ERRCODE) = 5 ∧ u.flag (mbxFld m F.CUST_MBX0_STAT_DONE) = true ∧ u.flag (mbxFld m
    F.CUST_MBX0_STAT_BUSY) = false) ∧
  (∀ (s : State) (m : Fin 2) (op key len : Nat), s.awake = true → (s.mbx m).op = some (op, key, len) → (s.cust.safe = false ∧ 1 ≤ len ∧ len ≤ 256 ∧
    (op = 0 ∨ 0x12 < op ∨ 0x10 ≤ op ∧ m = 0 ∨ op = 0x03 ∧ 2 < key ∨ op = 0x11 ∧ key ≠ 10)) → Completes (.mailboxDone m) s fun u => u.fld (mbxFld m
    F.CUST_MBX0_STAT_ERRCODE) = 2 ∧ u.flag (mbxFld m F.CUST_MBX0_STAT_DONE) = true ∧ u.flag (mbxFld m F.CUST_MBX0_STAT_BUSY) = false) ∧
  (∀ (s : State) (m : Fin 2) (op key len : Nat), s.awake = true → (s.mbx m).op = some (op, key, len) → (s.cust.safe = false ∧ 1 ≤ len ∧ len ≤ 256 ∧
    (op = 0x03 ∧ key ≤ 2 ∧ len ≠ 96 ∨ op = 0x12 ∧ m = 1 ∧ len ≠ 16)) → Completes (.mailboxDone m) s fun u => u.fld (mbxFld m
    F.CUST_MBX0_STAT_ERRCODE) = 3 ∧ u.flag (mbxFld m F.CUST_MBX0_STAT_DONE) = true ∧ u.flag (mbxFld m F.CUST_MBX0_STAT_BUSY) = false) ∧
  (∀ (s : State) (a : Acc) (m : Fin 2) (r : Reg), r = mbxStat m → s.granted a r (0) → s.mbxBarred m (s.who a).code = false → exec (.mailboxRelease a
    m) s = .next (State.finish s (s.wrote a r (0) fun s => (s.mbxFree m, 0)))) ∧
  (∀ (s : State) (a : Acc) (m : Fin 2) (r : Reg), r = mbxStat m → s.granted a r (0) → s.mbxBarred m (s.who a).code = true → exec (.mailboxRelease a
    m) s = .next (State.finish s (s.wrote a r (0) fun s => (s.mbxRefuse m, 0x08000022)))) ∧
  (∀ (s : State), s.awake = true → exec (.custSelftest) s = .next (State.finish s ((((s.setCust { s.cust with safe := true }).setSafe .cust).raise
    .CUST_SELFTEST).gatesShut)))

/-- A parcel is refused with 0x0800_0022 where requests are not taken, and with 0x0609_0030 where its framing or CRC is wrong; the first parcel of a
  new image starts gathering where its header passes R589, and the others fill the prefix and the body blocks; a completed block is written to
  staging and its bit set, or UPD_BLOCK_BAD is raised; clearing discards the image; an accepted activation raises the rollback counter, marks
  RESOLING and makes a module reset, and a refused one reports its cause; the resoler copies blocks; the trial ends with its time; RECOV low wakes
  the module. Completes parcel, blockStagingWrite, stagingClear, activate, resolerBlockCopy, trialConfirm, recovLow. -/
def Obligations.UpdateAndResoling : Prop :=
  (∀ (s : State) (p : Fin 8) (b : List Byte) (v : State), s.awake = true → s.sdoOn p = true → v = (s.sessSweep.authUnlock).setXfer p none → (s.mode'
    = 7 ∨ 2 ≤ v.levelOf (.sdo p)) → (v.updOpen = false ∨ v.flag F.SYS_LOAD_C6_DEFER = true) → b.length ≠ 0 → exec (.parcel (.sdo p) b) s = .next
    (State.finish s (v.sdoAbort p 0x1F50 1 0x08000022))) ∧
  (∀ (s : State) (p : Fin 8) (b : List Byte) (v : State), s.awake = true → s.sdoOn p = true → v = (s.sessSweep.authUnlock).setXfer p none → (s.mode'
    = 7 ∨ 2 ≤ v.levelOf (.sdo p)) → v.updOpen = true → v.flag F.SYS_LOAD_C6_DEFER = false → b.length ≠ 0 → (leNat (b.take 4) % 256 ≠ 0 ∨ leNat
    ((b.drop 4).take 2) ≠ (b.drop 8).length ∨ (b.drop 8).length = 0 ∨ 1024 < (b.drop 8).length ∨ 4096 < leNat (b.take 4) % 4096 + (b.drop 8).length
    ∨ crc16 (b.drop 8) ≠ leNat ((b.drop 6).take 2)) → exec (.parcel (.sdo p) b) s = .next (State.finish s (v.sdoAbort p 0x1F50 1 0x06090030))) ∧
  (∀ (s : State) (p : Fin 8) (b : List Byte) (off : Nat) (d : List Byte) (v : State) (x : State × Nat), s.awake = true → s.sdoOn p = true → v =
    (s.sessSweep.authUnlock).setXfer p none → (s.mode' = 7 ∨ 2 ≤ v.levelOf (.sdo p)) → v.updOpen = true → v.flag F.SYS_LOAD_C6_DEFER = false → off =
    leNat (b.take 4) → d = b.drop 8 → (off % 256 = 0 ∧ leNat ((b.drop 4).take 2) = d.length ∧ 1 ≤ d.length ∧ d.length ≤ 1024 ∧ off % 4096 + d.length
    ≤ 4096 ∧ crc16 d = leNat ((b.drop 6).take 2)) → off = 0 → (d.length = 256 ∨ d.length = 512 ∨ d.length = 768 ∨ d.length = 1024) → x =
    v.firstParcel d → exec (.parcel (.sdo p) b) s = .next (State.finish s (if x.2 = 0 then (x.1.sessTouch (.sdo p)).sdoReply p [0x20] else
    x.1.sdoAbort p 0x1F50 1 x.2))) ∧
  (∀ (s : State) (p : Fin 8) (b : List Byte) (off : Nat) (d : List Byte) (v : State), s.awake = true → s.sdoOn p = true → v =
    (s.sessSweep.authUnlock).setXfer p none → (s.mode' = 7 ∨ 2 ≤ v.levelOf (.sdo p)) → v.updOpen = true → v.flag F.SYS_LOAD_C6_DEFER = false → off =
    leNat (b.take 4) → d = b.drop 8 → (off % 256 = 0 ∧ leNat ((b.drop 4).take 2) = d.length ∧ 1 ≤ d.length ∧ d.length ≤ 1024 ∧ off % 4096 + d.length
    ≤ 4096 ∧ crc16 d = leNat ((b.drop 6).take 2)) → (off = 0 ∧ d.length ≠ 256 ∧ d.length ≠ 512 ∧ d.length ≠ 768 ∧ d.length ≠ 1024 ∨ off ≠ 0 ∧
    v.upd.head = none) → exec (.parcel (.sdo p) b) s = .next (State.finish s (v.sdoAbort p 0x1F50 1 (if off = 0 then 0x06090030 else 0x08000022)))) ∧
  (∀ (s : State) (p : Fin 8) (b : List Byte) (off : Nat) (d : List Byte) (v : State) (h : List Byte), s.awake = true → s.sdoOn p = true → v =
    (s.sessSweep.authUnlock).setXfer p none → (s.mode' = 7 ∨ 2 ≤ v.levelOf (.sdo p)) → v.updOpen = true → v.flag F.SYS_LOAD_C6_DEFER = false → off =
    leNat (b.take 4) → d = b.drop 8 → (off % 256 = 0 ∧ leNat ((b.drop 4).take 2) = d.length ∧ 1 ≤ d.length ∧ d.length ≤ 1024 ∧ off % 4096 + d.length
    ≤ 4096 ∧ crc16 d = leNat ((b.drop 6).take 2)) → off ≠ 0 → v.upd.head = some h → (prefixLen h + hdrLength h < off + d.length ∨ d.length ≠ 256 ∧
    d.length ≠ 512 ∧ d.length ≠ 768 ∧ d.length ≠ 1024 ∧ off + d.length ≠ prefixLen h + hdrLength h) → exec (.parcel (.sdo p) b) s = .next
    (State.finish s (v.sdoAbort p 0x1F50 1 0x06090030))) ∧
  (∀ (s : State) (p : Fin 8) (b : List Byte) (off : Nat) (d : List Byte) (v : State) (h : List Byte) (x : State × Nat), s.awake = true → s.sdoOn p =
    true → v = (s.sessSweep.authUnlock).setXfer p none → (s.mode' = 7 ∨ 2 ≤ v.levelOf (.sdo p)) → v.updOpen = true → v.flag F.SYS_LOAD_C6_DEFER =
    false → off = leNat (b.take 4) → d = b.drop 8 → (off % 256 = 0 ∧ leNat ((b.drop 4).take 2) = d.length ∧ 1 ≤ d.length ∧ d.length ≤ 1024 ∧ off %
    4096 + d.length ≤ 4096 ∧ crc16 d = leNat ((b.drop 6).take 2)) → off ≠ 0 → v.upd.head = some h → off + d.length ≤ prefixLen h + hdrLength h →
    (d.length = 256 ∨ d.length = 512 ∨ d.length = 768 ∨ d.length = 1024 ∨ off + d.length = prefixLen h + hdrLength h) → off < prefixLen h → x =
    v.prefixParcel h off d → exec (.parcel (.sdo p) b) s = .next (State.finish s ((x.1.sessTouch (.sdo p)).sdoReply p [0x20]))) ∧
  (∀ (s : State) (p : Fin 8) (b : List Byte) (off : Nat) (d : List Byte) (v : State) (h : List Byte) (x : State × Nat), s.awake = true → s.sdoOn p =
    true → v = (s.sessSweep.authUnlock).setXfer p none → (s.mode' = 7 ∨ 2 ≤ v.levelOf (.sdo p)) → v.updOpen = true → v.flag F.SYS_LOAD_C6_DEFER =
    false → off = leNat (b.take 4) → d = b.drop 8 → (off % 256 = 0 ∧ leNat ((b.drop 4).take 2) = d.length ∧ 1 ≤ d.length ∧ d.length ≤ 1024 ∧ off %
    4096 + d.length ≤ 4096 ∧ crc16 d = leNat ((b.drop 6).take 2)) → off ≠ 0 → v.upd.head = some h → off + d.length ≤ prefixLen h + hdrLength h →
    (d.length = 256 ∨ d.length = 512 ∨ d.length = 768 ∨ d.length = 1024 ∨ off + d.length = prefixLen h + hdrLength h) → prefixLen h ≤ off → x =
    v.bodyParcel h off d → exec (.parcel (.sdo p) b) s = .next (State.finish s (if x.2 = 0 then (x.1.sessTouch (.sdo p)).sdoReply p [0x20] else
    x.1.sdoAbort p 0x1F50 1 x.2))) ∧
  (∀ (s : State) (good : Bool), s.awake = true → (s.upd.head = none ∨ s.nvmDeferred = true ∨ s.flag F.SYS_LOAD_C6_DEFER = true ∨ s.upd.whole = false
    ∧ s.upd.ready = []) → exec (.blockStagingWrite good) s = .next (State.finish s (s))) ∧
  (∀ (s : State) (h p : List Byte), s.awake = true → s.flag F.SYS_LOAD_C6_DEFER = false → s.nvmDeferred = false → s.upd.head = some h → s.upd.whole
    = true → p = joinPieces (prefixLen h / 256) s.upd.gather → exec (.blockStagingWrite true) s = .next (State.finish s (((s.erase 0x02000000
    0x02008000).setBytes 0x02000000 p).setUpd { s.upd with whole := false, gather := [], ok := true }))) ∧
  (∀ (s : State) (h : List Byte), s.awake = true → s.flag F.SYS_LOAD_C6_DEFER = false → s.nvmDeferred = false → s.upd.head = some h → s.upd.whole =
    true → exec (.blockStagingWrite false) s = .next (State.finish s ((s.unstage.setFlag F.UPD_EVT_HDR_BAD).raise .UPD_HDR_BAD 0 [6]))) ∧
  (∀ (s : State) (h : List Byte) (b : Nat) (r : List Nat) (v : State), s.awake = true → s.flag F.SYS_LOAD_C6_DEFER = false → s.nvmDeferred = false →
    s.upd.head = some h → s.upd.whole = false → s.upd.ready = b :: r → v = s.setUpd { s.upd with ready := r, asm := Tbl.del s.upd.asm b } → exec
    (.blockStagingWrite false) s = .next (State.finish s ((v.setFlag F.UPD_EVT_BLOCK_BAD).raise .UPD_BLOCK_BAD 0 [b]))) ∧
  (∀ (s : State) (h d : List Byte) (b : Nat) (r : List Nat) (v w : State), s.awake = true → s.flag F.SYS_LOAD_C6_DEFER = false → s.nvmDeferred =
    false → s.upd.head = some h → s.upd.whole = false → s.upd.ready = b :: r → v = s.setUpd { s.upd with ready := r, asm := Tbl.del s.upd.asm b } →
    d = pad4k (joinPieces ((blockLen h b + 255) / 256) ((lookup b s.upd.asm).getD [])) → w = (v.setBytes (0x02010000 + 4096 * b) d).setUpd
    { v.upd with bitmap := b :: v.upd.bitmap } → exec (.blockStagingWrite true) s = .next (State.finish s (if sha256 d = v.blockHash b then (if
    w.complete then (w.setFlag F.UPD_EVT_STAGED).raise .UPD_STAGED else w) else (v.setFlag F.UPD_EVT_BLOCK_BAD).raise .UPD_BLOCK_BAD 0 [b]))) ∧
  (∀ (s : State) (a : Acc) (key : Nat), s.granted a .UPD_CMD (0) → s.updOpen = true → key % 256 = 0xA5 → ∃ n : Word, exec (.stagingClear (.reg a)
    key) s = .next (State.finish s (s.wrote a .UPD_CMD (0) fun s => ((s.wr .UPD_CMD 0 n).unstage, 0)))) ∧
  (∀ (s : State) (a : Acc) (key : Nat), s.granted a .UPD_CMD (0) → (key % 256 ≠ 0xA5 ∨ s.updOpen = false) → ∃ n : Word, exec (.stagingClear (.reg a)
    key) s = .next (State.finish s (s.wrote a .UPD_CMD (0) fun s => (s.wr .UPD_CMD 0 n, 0x08000022)))) ∧
  (∀ (s : State) (p : Fin 8) (key : Nat) (v : State), s.awake = true → s.sdoOn p = true → v = (s.sessSweep.authUnlock).setXfer p none → (s.mode' = 7
    ∨ 2 ≤ v.levelOf (.sdo p)) → exec (.stagingClear (.dict (.sdo p)) key) s = .next (State.finish s (if v.updOpen then (v.unstage.sessTouch (.sdo
    p)).sdoReply p [0x60, 0x51, 0x1F, 1] else v.sdoAbort p 0x1F51 1 0x08000022))) ∧
  (∀ (s : State) (a : Acc) (key : Nat), s.granted a .UPD_CMD (0) → key % 256 = 0xA5 → s.mode' = 3 → s.serviceOpen = true → s.complete = true →
    s.updState = 2 → s.parked = true → s.updSupply = true → s.od.jobs = [] → s.upd.marker = .idle → ∃ n : Word, exec (.activate (.reg a) key) s =
    .next (State.finish s (s.wrote a .UPD_CMD (0) fun s => if (s.keyUsed 0).stagedOk then (((s.wr .UPD_CMD 0 n).keyUsed 0).actGo, 0) else (((s.wr
    .UPD_CMD 0 n).keyUsed 0).actRefuse 4, 0x08000022)))) ∧
  (∀ (s : State) (a : Acc) (key c : Nat), s.granted a .UPD_CMD (0) → (s.mode' ≠ 7 ∨ s.upd.head.isSome = true) → c = (s.keyUsed 0).actCause (key %
    256 == 0xA5) → c ≠ 0 → ∃ n : Word, exec (.activate (.reg a) key) s = .next (State.finish s (s.wrote a .UPD_CMD (0) fun s => (((s.wr .UPD_CMD 0
    n).keyUsed 0).actRefuse c, 0x08000022)))) ∧
  (∀ (s : State) (p : Fin 8) (key : Nat) (v x : State), s.awake = true → s.sdoOn p = true → v = (s.sessSweep.authUnlock).setXfer p none → (s.mode' =
    7 ∨ 2 ≤ v.levelOf (.sdo p)) → (s.mode' ≠ 7 ∨ v.upd.head.isSome = true) → x = v.keyUsed 0 → exec (.activate (.dict (.sdo p)) key) s = .next
    (State.finish s (if x.actCause true = 0 then (x.actGo.sessTouch (.sdo p)).sdoReply p [0x60, 0x51, 0x1F, 1] else (x.actRefuse (x.actCause
    true)).sdoAbort p 0x1F51 1 0x08000022))) ∧
  (∀ (s : State) (a : Acc) (key : Nat), s.granted a .UPD_CMD (0) → s.mode' = 7 → s.upd.head = none → ∃ n : Word, exec (.activate (.reg a) key) s =
    .next (State.finish s (s.wrote a .UPD_CMD (0) fun s => if s.pins.recov = false ∧ s.upd.runOk = true ∧ s.upd.marker = .idle then ((s.wr .UPD_CMD
    0 n).askReset 3, 0) else (s.wr .UPD_CMD 0 n, 0x08000022)))) ∧
  (∀ (s : State) (first second : Bool), s.awake = true → (s.resoling = false ∨ s.upd.head = none ∨ s.mode' ≠ 2 ∨ s.nvmDeferred = true ∨ s.extracting
    = true) → exec (.resolerBlockCopy first second) s = .next (State.finish s (s))) ∧
  (∀ (s : State) (first second : Bool) (b : Nat) (h d : List Byte) (v : State), s.awake = true → s.upd.marker = .resoling b → s.upd.head = some h →
    s.mode' = 2 → s.nvmDeferred = false → s.extracting = false → d = s.bytes (0x02010000 + 4096 * b) 4096 → v = (s.erase (0x01040000 + 4096 * b)
    (0x01040000 + 4096 * (b + 1))).setUpd { s.upd with runOk := false } → exec (.resolerBlockCopy first second) s = .next (State.finish s (if sha256
    d ≠ s.blockHash b then s.toRecovery .UPD_IMAGE_BAD else if first = false ∧ second = false then v.toRecovery .UPD_IMAGE_BAD else if b + 1 <
    hdrNblk h then (v.setBytes (0x01040000 + 4096 * b) d).setUpd { v.upd with marker := .resoling (b + 1) } else (v.setBytes (0x01040000 + 4096 * b)
    d).resoled h))) ∧
  (∀ (s : State) (c t : Nat) (v : State), s.awake = true → s.upd.marker = .trial c → s.upd.trialAt = some t → (s.mode' = 3 ∨ s.mode' = 4 ∨ s.mode' =
    6) → v = s.advanceTo (t + sec s.trialTime) → exec (.trialConfirm) s = .next (State.finish s (((v.setUpd
    { v.upd with marker := .idle, trialAt := none }).setFlag F.UPD_EVT_CONFIRMED).raise .UPD_CONFIRMED))) ∧
  (∀ (s : State), s.awake = true → (s.upd.marker = .idle ∨ s.resoling = true ∨ s.upd.trialAt = none ∨ (s.mode' ≠ 3 ∧ s.mode' ≠ 4 ∧ s.mode' ≠ 6)) →
    exec (.trialConfirm) s = .next (State.finish s (s))) ∧
  (∀ (s : State) (boot : BootIn) (v : State), v = { s with pins := { s.pins with recov := true } } → exec (.recovLow true boot) s = .next
    (State.finish s ((v.sleepAbort 9).wakeUp 9 0 [] boot))) ∧
  (∀ (s : State) (boot : BootIn), exec (.recovLow false boot) s = .next (State.finish s ({ s with pins := { s.pins with recov := false } })))

/-- A step with command c at the front of the queue answers what exec answers for c on the state with the queue's rest. -/
def Obligations.StepTakesFront : Prop :=
   ∀ (s : State) (c : Instr) (q : List Instr), step { s with pending := c :: q } = exec c { s with pending := q }

/-- With no command waiting a step lets one TIDE cycle of 4 ns pass. The spec gives a block of commands no tick: that an idle step passes time is
  the model's choice (assumption log 1). -/
def Obligations.IdleStep : Prop :=
   ∀ s : State, s.pending = [] → step s = .next { s with now := s.now + 4 }

/-- A command whose operands are well formed answers a next state from every state; the two commands that carry a CAN frame of the bus answer the
  fault illFormed where no wire can carry the frame (a limit of the model's operands, assumption log 6). -/
def Obligations.EveryCommandEnds : Prop :=
   (∀ (i : Instr) (s : State), i.wf = true → ∃ t, exec i s = .next t) ∧
   (∀ (p : Fin 8) (f : CanFrame) (ago : Nat) (s : State), f.wf = false → exec (.canFrameReceived p f ago) s = .fault .illFormed) ∧
   (∀ (p : Fin 8) (f : CanFrame) (boot : BootIn) (s : State), f.wf = false → exec (.canSelectiveWake p (some f) boot) s = .fault .illFormed)

/-- After a power-on reset the mode is Boot, every register holds the reset value of its card and RST_CAUSE shows POR, no command waits, no memory
  byte is listed and memory has its canonical form, and both invariants below hold. The byte values of memory that nothing has written are the
  model's choice (assumption log 5). -/
def Obligations.ResetValues : Prop :=
   State.reset.mode' = 2 ∧ (∀ (r : Reg) (i : Nat), State.reset.rd r i = resetVal (r, i)) ∧ State.reset.fld F.SYS_RST_CAUSE_POR = 1 ∧
     State.reset.pending = [] ∧ State.reset.mem = [] ∧ Memory.wf State.reset.mem = true ∧ State.reset.serviceLawful ∧
     State.reset.debugLawful

/-- In every state that a step reaches from a state where this holds, the module is in Service only while a service session is open or the Service
  is that of a debug wake attach: the command that ends the last such session also leads to Configure. -/
def Obligations.ServiceInvariant : Prop :=
   ∀ s s' : State, s.serviceLawful → step s = .next s' → s'.serviceLawful

/-- In every state that a step reaches from a state where this holds, the mode of which the debug level in force takes account is the present mode,
  and only a present Service is marked as that of a wake attach. -/
def Obligations.DebugGrantInvariant : Prop :=
   ∀ s s' : State, s.debugLawful → step s = .next s' → s'.debugLawful

/-- The bus address of every cell of every register names that register and that cell, and no other: no two cells share an address. -/
def Obligations.RegisterMap : Prop :=
   ∀ (r : Reg) (i : Nat), r.laid i → targetOf (r.addr i) = .reg r i

/-- Entering Configure from Operate or Service leaves the module in Configure and sets SW_OUT.MODE of every channel to OFF; a mode request for
  Configure that is accepted in Operate does so. -/
def Obligations.ConfigureTurnsOff : Prop :=
   (∀ s : State, s.live = true → s.enterConfigure.mode' = 3 ∧ ∀ n : Fin 64, s.enterConfigure.fld F.SW_OUT_MODE n = 0) ∧
   (∀ s : State, s.live = true → s.modeCause 3 true = 0 → (s.takeTrigger 5).2 = true →
     (s.modeRequest 3 true).1.mode' = 3 ∧ ∀ n : Fin 64, (s.modeRequest 3 true).1.fld F.SW_OUT_MODE n = 0)

/-- A change of rate puts the present counter value into F, the logical time at that value under the old rate into A and f, and the new rate into
  force from that cycle on; logical time is what it was. A step of d ns adds d to A and moves logical time by exactly d, modulo 2^64; of both at
  once the re-anchor comes first. -/
def Obligations.TideAnchor : Prop :=
   ∀ (s : State) (r d : Int) (t : State), -(2 ^ 31) ≤ r → r < 2 ^ 31 → t = s.setRate r →
     t.tide.f = s.counter ∧ t.tide.a = s.logical ∧ t.tide.fr < 2 ^ 40 ∧ signed 32 (t.rd .TIDE_RATE 0).toNat = r ∧ t.logical = s.logical ∧
     (∀ c, s.counter ≤ c → t.logicalAt c =
       unsigned 64 ((s.logical : Int) + 4 * ((c - s.counter : Nat) : Int) + ((t.tide.fr : Int) + 4 * ((c - s.counter : Nat) : Int) * r) / 2 ^ 40)) ∧
     (s.stepAnchor d).logical = unsigned 64 ((s.logical : Int) + d) ∧ (t.stepAnchor d).logical = unsigned 64 ((s.logical : Int) + d)

/-- An access of a master that reaches the bus, whose address is not a multiple of its width, ends in a bus error: no byte of memory and no
  register changes but the two that record the bus error. -/
def Obligations.MisalignedAccess : Prop :=
   (∀ (s : State) (a : Acc) (addr v : Nat) (w : Width), s.awake = true → (s.who a).mute = false → addr % w.bytes ≠ 0 →
     Completes (.registerWrite a addr w v) s fun u => (∃ c, u.bus.answer = .err c) ∧
       s.sameBut u [(.GUARD_BERR_ADDR, 0), (.GUARD_BERR_INFO, 0)]) ∧
   (∀ (s : State) (a : Acc) (addr : Nat) (w : Width), s.awake = true → (s.who a).mute = false → addr % w.bytes ≠ 0 →
     Completes (.registerRead a addr w none) s fun u => (∃ c, u.bus.answer = .err c) ∧
       s.sameBut u [(.GUARD_BERR_ADDR, 0), (.GUARD_BERR_INFO, 0)])

/-- A judgement of the plate temperature TP above 85 °C raises PLATE_HOT where it is not active, below 82 °C it clears it, and from 82 °C to 85 °C
  it changes nothing but the readings themselves. Temperatures count 1/1024 K. -/
def Obligations.PlateHotLimits : Prop :=
   ∀ (s : State) (t1 t2 : Sens) (v : State), s.awake = true → v = { s with plate := ⟨t1, t2⟩ } →
     exec (.plateHot t1 t2) s = .next (State.finish s (
       if 85 * 1024 < v.tp then (if v.active .PLATE_HOT then v else v.raise .PLATE_HOT)
       else if v.tp < 82 * 1024 then v.clearFault .PLATE_HOT else v))

/-- A write to SW_PWM or to SW_CTRL after which the period would lie below four times the minimum pulse of the slew setting is refused: the
  register written keeps its value and SW_STAT.REFUSED sets. -/
def Obligations.PwmPeriodRule : Prop :=
   (∀ (s : State) (a : Acc) (n : Fin 64) (v : Nat), s.granted a .SW_PWM n →
     F.SW_PWM_PERIOD.of (s.merge .SW_PWM n (BitVec.ofNat 32 v) 0xFFFFFFFF) < 4 * tminOf (s.fld F.SW_CTRL_SLEW n) →
     Completes (.registerWrite a (Reg.SW_PWM.addr n) .b32 v) s fun u =>
       u.rd .SW_PWM n = s.rd .SW_PWM n ∧ u.flag F.SW_STAT_REFUSED n = true) ∧
   (∀ (s : State) (a : Acc) (n : Fin 64) (v : Nat), s.granted a .SW_CTRL n →
     s.fld F.SW_PWM_PERIOD n < 4 * tminOf (F.SW_CTRL_SLEW.of (s.merge .SW_CTRL n (BitVec.ofNat 32 v) 0xFFFFFFFF)) →
     Completes (.registerWrite a (Reg.SW_CTRL.addr n) .b32 v) s fun u =>
       u.rd .SW_CTRL n = s.rd .SW_CTRL n ∧ u.flag F.SW_STAT_REFUSED n = true)

/-- Each command that a register and a dictionary entry both carry is, as a dictionary access, a client's write of the entry that its chapter
  names: index, subindex and value. -/
def Obligations.DictionaryRoutes : Prop :=
  (∀ (s : State) (c : Client) (blk : Nat), exec (.blockReenable (.dict c) blk) s = .next (State.finish s (s.clientNum c 0x2000 0x1B blk))) ∧
  (∀ (s : State) (c : Client) (key : Nat), exec (.modeRequestDormant (.dict c) key) s = .next (State.finish s (s.clientNum c 0x2000 2 0))) ∧
  (∀ (s : State) (c : Client) (key : Nat), exec (.modeRequestBoot (.dict c) key) s = .next (State.finish s (s.clientNum c 0x2000 2 2))) ∧
  (∀ (s : State) (c : Client) (key : Nat), exec (.modeRequestConfigure (.dict c) key) s = .next (State.finish s (s.clientNum c 0x2000 2 3))) ∧
  (∀ (s : State) (c : Client) (key : Nat), exec (.modeRequestOperate (.dict c) key) s = .next (State.finish s (s.clientNum c 0x2000 2 4))) ∧
  (∀ (s : State) (c : Client) (key : Nat), exec (.modeRequestService (.dict c) key) s = .next (State.finish s (s.clientNum c 0x2000 2 6))) ∧
  (∀ (s : State) (c : Client) (key : Nat), exec (.modeRequestRecovery (.dict c) key) s = .next (State.finish s (s.clientNum c 0x2000 2 7))) ∧
  (∀ (s : State) (c : Client), exec (.vminClr (.dict c)) s = .next (State.finish s (s.clientNum c 0x2000 0x1A 0))) ∧
  (∀ (s : State) (c : Client) (n : Fin 64) (duty : Bool) (v : Nat), exec (.swOutWrite (.dict c) n duty v) s = .next (State.finish s (s.clientNum c
    (0x2100 + n) (if duty then 2 else 1) v))) ∧
  (∀ (s : State) (c : Client) (mode : Fin 4) (duty : Fin 4096), exec (.groupCommand (.dict c) mode duty) s = .next (State.finish s (s.clientNum c
    0x2140 3 (duty + mode * 2 ^ 12)))) ∧
  (∀ (s : State) (c : Client) (v : Nat), exec (.pairWrite (.dict c) v) s = .next (State.finish s (s.clientNum c 0x2140 1 v))) ∧
  (∀ (s : State) (c : Client) (n : Fin 64), exec (.peakClr (.dict c) n) s = .next (State.finish s (s.clientNum c (0x2100 + n) 0x1B 0))) ∧
  (∀ (s : State) (c : Client) (n : Fin 64), exec (.protClear (.dict c) n) s = .next (State.finish s (s.clientNum c (0x2150 + n / 16) (0x61 + n %
    16) 1))) ∧
  (∀ (s : State) (c : Client) (f : Fin 4), exec (.feedLimiterClear (.dict c) f) s = .next (State.finish s (s.clientNum c (0x2150 + f) 8 1))) ∧
  (∀ (s : State) (c : Client), exec (.calRevert (.dict c)) s = .next (State.finish s (s.clientNum c 0x2D00 4 1))) ∧
  (∀ (s : State) (c : Client), exec (.calReenable (.dict c)) s = .next (State.finish s (s.clientNum c 0x2D00 5 1))) ∧
  (∀ (s : State) (c : Client) (x : Fin 2), exec (.boostOvClear (.dict c) x) s = .next (State.finish s (s.clientNum c 0x2250 0x0B (2 ^ x.val)))) ∧
  (∀ (s : State) (c : Client) (l : Fin 32) (v : Nat), exec (.lastWrite (.dict c) l 0 v) s = .next (State.finish s (s.clientNum c (0x2230 + l) 0x40
    v))) ∧
  (∀ (s : State) (c : Client) (l : Fin 32) (j : Fin 8) (v : Nat), exec (.lastWrite (.dict c) l (Fin.ofNat 9 (j + 1)) v) s = .next (State.finish s
    (s.clientNum c (0x2230 + l) (0x41 + j) v))) ∧
  (∀ (s : State) (c : Client) (n : Fin 24) (last : Fin 32) (dur : Nat), exec (.directCommand (.dict c) n last dur) s = .next (State.finish s
    (s.clientNum c (0x2200 + n) 3 (dur % 2 ^ 20 + last * 2 ^ 20)))) ∧
  (∀ (s : State) (c : Client) (n : Fin 24), exec (.injAbort (.dict c) n) s = .next (State.finish s (s.clientNum c (0x2200 + n) 4 1))) ∧
  (∀ (s : State) (c : Client) (n : Fin 24), exec (.coilShortRelease (.dict c) n) s = .next (State.finish s (s.clientNum c (0x2200 + n) 4 2))) ∧
  (∀ (s : State) (c : Client) (b : Fin 6), exec (.hsbShortClear (.dict c) b) s = .next (State.finish s (s.clientNum c (0x2220 + b) 7 1))) ∧
  (∀ (s : State) (c : Client) (handle : Fin 65536), exec (.eventAbort (.dict c) handle) s = .next (State.finish s (s.clientNum c 0x2300 0x11
    handle))) ∧
  (∀ (s : State) (c : Client), exec (.eventAbortAll (.dict c)) s = .next (State.finish s (s.clientNum c 0x2300 0x11 0xFFFF))) ∧
  (∀ (s : State) (c : Client) (t : Fin 8) (rec : Nat), exec (.streamRecord (.dict c) t rec) s = .next (State.finish s (s.clientNum c (0x2301 + t) 8
    rec))) ∧
  (∀ (s : State) (c : Client) (t : Fin 8) (v : Nat), exec (.hostSpeed (.dict c) t v) s = .next (State.finish s (s.clientNum c (0x2301 + t) 9 v))) ∧
  (∀ (s : State) (c : Client) (t : Fin 8) (mm : Nat), exec (.odometerSet (.dict c) t mm) s = .next (State.finish s (s.clientNum c (0x2301 + t) 0x0A
    mm))) ∧
  (∀ (s : State) (c : Client) (t : Fin 8), exec (.streamClose (.dict c) t) s = .next (State.finish s (s.clientNum c (0x2301 + t) 1 0))) ∧
  (∀ (s : State) (c : Client) (n : Fin 32) (duty : Bool) (v : Nat), exec (.ledOutWrite (.dict c) n duty v) s = .next (State.finish s (s.clientNum c
    (0x2400 + n) (if duty then 3 else 2) v))) ∧
  (∀ (s : State) (c : Client) (n : Fin 32) (target : Fin 16384) (time : Fin 4096), exec (.fadeStart (.dict c) n target time) s = .next
    (State.finish s (s.clientNum c (0x2400 + n) 5 target))) ∧
  (∀ (s : State) (c : Client) (n : Fin 32), exec (.ledShortRelease (.dict c) n) s = .next (State.finish s (s.clientNum c (0x2400 + n) 7 1))) ∧
  (∀ (s : State) (c : Client), exec (.ledReenable (.dict c)) s = .next (State.finish s (s.clientNum c 0x2420 6 1))) ∧
  (∀ (s : State) (c : Client) (k : Fin 8), exec (.counterClear (.dict c) k) s = .next (State.finish s (s.clientNum c (0x2500 + 40 + k) 8 1))) ∧
  (∀ (s : State) (c : Client) (m : Fin 16) (v : Nat), exec (.doWrite (.dict c) m v) s = .next (State.finish s (s.clientNum c (0x2530 + m) 1 v))) ∧
  (∀ (s : State) (c : Client) (m : Fin 16), exec (.doClear (.dict c) m) s = .next (State.finish s (s.clientNum c (0x2530 + m) 5 1))) ∧
  (∀ (s : State) (c : Client) (t : Fin 4) (v : Fin 256), exec (.bollardFeed (.dict c) t v) s = .next (State.finish s (s.clientNum c 0x2600 (0xB0 +
    t) v))) ∧
  (∀ (s : State) (c : Client), exec (.reclaim (.dict c)) s = .next (State.finish s (s.clientNum c 0x2600 0xA2 1))) ∧
  (∀ (s : State) (c : Client), exec (.bollReenable (.dict c)) s = .next (State.finish s (s.clientNum c 0x2600 0xA3 1))) ∧
  (∀ (s : State) (c : Client) (k : Fin 64), exec (.reflexLatchClear (.dict c) k) s = .next (State.finish s (s.clientNum c (0x2601 + k) 6 1))) ∧
  (∀ (s : State) (c : Client) (p : Fin 8) (v : Nat) (act : Fin 3), exec (.canCtrlWrite (.dict c) p v act) s = .next (State.finish s
    ((s.canBusy p act).clientNum c (0x2700 + p) 1 v))) ∧
  (∀ (s : State) (c : Client) (rate : Nat), exec (.manualRate (.dict c) rate) s = .next (State.finish s (s.clientNum c 0x2800 0x12 rate))) ∧
  (∀ (s : State) (c : Client) (v : Nat), exec (.manualStep (.dict c) v) s = .next (State.finish s (s.clientNum c 0x2800 0x13 v))) ∧
  (∀ (s : State) (c : Client) (v : Nat), exec (.manualSet (.dict c) v) s = .next (State.finish s (s.clientNum c 0x2800 0x14 v))) ∧
  (∀ (s : State) (c : Client), exec (.quarClr (.dict c)) s = .next (State.finish s (s.clientNum c 0x2880 8 1))) ∧
  (∀ (s : State) (c : Client), exec (.gwyReenable (.dict c)) s = .next (State.finish s (s.clientNum c 0x2880 8 2))) ∧
  (∀ (s : State) (c : Client) (g : Fin 12) (v : Nat), exec (.needWrite (.dict c) g v) s = .next (State.finish s (s.clientNum c (0x2910 + g) 2 v))) ∧
  (∀ (s : State) (c : Client) (v : Nat), exec (.moduleNeedWrite (.dict c) v) s = .next (State.finish s (s.clientNum c 0x2900 2 v))) ∧
  (∀ (s : State) (c : Client) (g : Fin 12), exec (.segmentWake (.dict c) g) s = .next (State.finish s (s.clientNum c (0x2910 + g) 0x11 1))) ∧
  (∀ (s : State) (c : Client) (g : Fin 12), exec (.unstuck (.dict c) g) s = .next (State.finish s (s.clientNum c (0x2910 + g) 0x11 2))) ∧
  (∀ (s : State) (c : Client) (key : Nat), exec (.stagingClear (.dict c) key) s = .next (State.finish s (s.clientNum c 0x1F51 1 3))) ∧
  (∀ (s : State) (c : Client) (key : Nat), exec (.activate (.dict c) key) s = .next (State.finish s (s.clientNum c 0x1F51 1 1))) ∧
  (∀ (s : State) (c : Client), exec (.flushCommand (.dict c)) s = .next (State.finish s (s.clientNum c 0x2E00 8 1))) ∧
  (∀ (s : State) (c : Client), exec (.clr1003 (.dict c)) s = .next (State.finish s (s.clientNum c 0x1003 0 0)))
end

