-- ==== Sys2Proof/Laws/State.lean ====
section
/-! SUPPORT. One lemma per field of the state and per record update: what an update leaves alone and what it sets. -/

set_option Elab.async false

namespace Sys2Proof.Machine

variable (s : State)

@[simp] theorem State.wr_now (r : Reg) (i : Nat) (v : Word) : (s.wr r i v).now = s.now := rfl
@[simp] theorem State.wr_mem (r : Reg) (i : Nat) (v : Word) : (s.wr r i v).mem = s.mem := rfl
@[simp] theorem State.wr_jnl (r : Reg) (i : Nat) (v : Word) : (s.wr r i v).jnl = s.jnl := rfl
@[simp] theorem State.wr_bus (r : Reg) (i : Nat) (v : Word) : (s.wr r i v).bus = s.bus := rfl
@[simp] theorem State.wr_clk (r : Reg) (i : Nat) (v : Word) : (s.wr r i v).clk = s.clk := rfl
@[simp] theorem State.wr_pins (r : Reg) (i : Nat) (v : Word) : (s.wr r i v).pins = s.pins := rfl
@[simp] theorem State.wr_plate (r : Reg) (i : Nat) (v : Word) : (s.wr r i v).plate = s.plate := rfl
@[simp] theorem State.wr_berth (r : Reg) (i : Nat) (v : Word) : (s.wr r i v).berth = s.berth := rfl
@[simp] theorem State.wr_mode (r : Reg) (i : Nat) (v : Word) : (s.wr r i v).mode = s.mode := rfl
@[simp] theorem State.wr_sup (r : Reg) (i : Nat) (v : Word) : (s.wr r i v).sup = s.sup := rfl
@[simp] theorem State.wr_sw (r : Reg) (i : Nat) (v : Word) : (s.wr r i v).sw = s.sw := rfl
@[simp] theorem State.wr_fl (r : Reg) (i : Nat) (v : Word) : (s.wr r i v).fl = s.fl := rfl
@[simp] theorem State.wr_boll (r : Reg) (i : Nat) (v : Word) : (s.wr r i v).boll = s.boll := rfl
@[simp] theorem State.wr_tide (r : Reg) (i : Nat) (v : Word) : (s.wr r i v).tide = s.tide := rfl
@[simp] theorem State.wr_eve (r : Reg) (i : Nat) (v : Word) : (s.wr r i v).eve = s.eve := rfl
@[simp] theorem State.wr_inj (r : Reg) (i : Nat) (v : Word) : (s.wr r i v).inj = s.inj := rfl
@[simp] theorem State.wr_led (r : Reg) (i : Nat) (v : Word) : (s.wr r i v).led = s.led := rfl
@[simp] theorem State.wr_leds (r : Reg) (i : Nat) (v : Word) : (s.wr r i v).leds = s.leds := rfl
@[simp] theorem State.wr_dio (r : Reg) (i : Nat) (v : Word) : (s.wr r i v).dio = s.dio := rfl
@[simp] theorem State.wr_cal (r : Reg) (i : Nat) (v : Word) : (s.wr r i v).cal = s.cal := rfl
@[simp] theorem State.wr_od (r : Reg) (i : Nat) (v : Word) : (s.wr r i v).od = s.od := rfl
@[simp] theorem State.wr_can (r : Reg) (i : Nat) (v : Word) : (s.wr r i v).can = s.can := rfl
@[simp] theorem State.wr_eth (r : Reg) (i : Nat) (v : Word) : (s.wr r i v).eth = s.eth := rfl
@[simp] theorem State.wr_gwy (r : Reg) (i : Nat) (v : Word) : (s.wr r i v).gwy = s.gwy := rfl
@[simp] theorem State.wr_nm (r : Reg) (i : Nat) (v : Word) : (s.wr r i v).nm = s.nm := rfl
@[simp] theorem State.wr_acc (r : Reg) (i : Nat) (v : Word) : (s.wr r i v).acc = s.acc := rfl
@[simp] theorem State.wr_cust (r : Reg) (i : Nat) (v : Word) : (s.wr r i v).cust = s.cust := rfl
@[simp] theorem State.wr_upd (r : Reg) (i : Nat) (v : Word) : (s.wr r i v).upd = s.upd := rfl
@[simp] theorem State.wr_free (r : Reg) (i : Nat) (v : Word) : (s.wr r i v).free = s.free := rfl
@[simp] theorem State.wr_pending (r : Reg) (i : Nat) (v : Word) : (s.wr r i v).pending = s.pending := rfl

@[simp] theorem State.setFld_now (f : Fld) (i v : Nat) : (s.setFld f i v).now = s.now := rfl
@[simp] theorem State.setFld_mem (f : Fld) (i v : Nat) : (s.setFld f i v).mem = s.mem := rfl
@[simp] theorem State.setFld_jnl (f : Fld) (i v : Nat) : (s.setFld f i v).jnl = s.jnl := rfl
@[simp] theorem State.setFld_bus (f : Fld) (i v : Nat) : (s.setFld f i v).bus = s.bus := rfl
@[simp] theorem State.setFld_clk (f : Fld) (i v : Nat) : (s.setFld f i v).clk = s.clk := rfl
@[simp] theorem State.setFld_pins (f : Fld) (i v : Nat) : (s.setFld f i v).pins = s.pins := rfl
@[simp] theorem State.setFld_plate (f : Fld) (i v : Nat) : (s.setFld f i v).plate = s.plate := rfl
@[simp] theorem State.setFld_berth (f : Fld) (i v : Nat) : (s.setFld f i v).berth = s.berth := rfl
@[simp] theorem State.setFld_mode (f : Fld) (i v : Nat) : (s.setFld f i v).mode = s.mode := rfl
@[simp] theorem State.setFld_sup (f : Fld) (i v : Nat) : (s.setFld f i v).sup = s.sup := rfl
@[simp] theorem State.setFld_sw (f : Fld) (i v : Nat) : (s.setFld f i v).sw = s.sw := rfl
@[simp] theorem State.setFld_fl (f : Fld) (i v : Nat) : (s.setFld f i v).fl = s.fl := rfl
@[simp] theorem State.setFld_boll (f : Fld) (i v : Nat) : (s.setFld f i v).boll = s.boll := rfl
@[simp] theorem State.setFld_tide (f : Fld) (i v : Nat) : (s.setFld f i v).tide = s.tide := rfl
@[simp] theorem State.setFld_eve (f : Fld) (i v : Nat) : (s.setFld f i v).eve = s.eve := rfl
@[simp] theorem State.setFld_inj (f : Fld) (i v : Nat) : (s.setFld f i v).inj = s.inj := rfl
@[simp] theorem State.setFld_led (f : Fld) (i v : Nat) : (s.setFld f i v).led = s.led := rfl
@[simp] theorem State.setFld_leds (f : Fld) (i v : Nat) : (s.setFld f i v).leds = s.leds := rfl
@[simp] theorem State.setFld_dio (f : Fld) (i v : Nat) : (s.setFld f i v).dio = s.dio := rfl
@[simp] theorem State.setFld_cal (f : Fld) (i v : Nat) : (s.setFld f i v).cal = s.cal := rfl
@[simp] theorem State.setFld_od (f : Fld) (i v : Nat) : (s.setFld f i v).od = s.od := rfl
@[simp] theorem State.setFld_can (f : Fld) (i v : Nat) : (s.setFld f i v).can = s.can := rfl
@[simp] theorem State.setFld_eth (f : Fld) (i v : Nat) : (s.setFld f i v).eth = s.eth := rfl
@[simp] theorem State.setFld_gwy (f : Fld) (i v : Nat) : (s.setFld f i v).gwy = s.gwy := rfl
@[simp] theorem State.setFld_nm (f : Fld) (i v : Nat) : (s.setFld f i v).nm = s.nm := rfl
@[simp] theorem State.setFld_acc (f : Fld) (i v : Nat) : (s.setFld f i v).acc = s.acc := rfl
@[simp] theorem State.setFld_cust (f : Fld) (i v : Nat) : (s.setFld f i v).cust = s.cust := rfl
@[simp] theorem State.setFld_upd (f : Fld) (i v : Nat) : (s.setFld f i v).upd = s.upd := rfl
@[simp] theorem State.setFld_free (f : Fld) (i v : Nat) : (s.setFld f i v).free = s.free := rfl
@[simp] theorem State.setFld_pending (f : Fld) (i v : Nat) : (s.setFld f i v).pending = s.pending := rfl

@[simp] theorem State.setFlag_now (f : Fld) (i : Nat) (b : Bool) : (s.setFlag f i b).now = s.now := rfl
@[simp] theorem State.setFlag_mem (f : Fld) (i : Nat) (b : Bool) : (s.setFlag f i b).mem = s.mem := rfl
@[simp] theorem State.setFlag_jnl (f : Fld) (i : Nat) (b : Bool) : (s.setFlag f i b).jnl = s.jnl := rfl
@[simp] theorem State.setFlag_bus (f : Fld) (i : Nat) (b : Bool) : (s.setFlag f i b).bus = s.bus := rfl
@[simp] theorem State.setFlag_clk (f : Fld) (i : Nat) (b : Bool) : (s.setFlag f i b).clk = s.clk := rfl
@[simp] theorem State.setFlag_pins (f : Fld) (i : Nat) (b : Bool) : (s.setFlag f i b).pins = s.pins := rfl
@[simp] theorem State.setFlag_plate (f : Fld) (i : Nat) (b : Bool) : (s.setFlag f i b).plate = s.plate := rfl
@[simp] theorem State.setFlag_berth (f : Fld) (i : Nat) (b : Bool) : (s.setFlag f i b).berth = s.berth := rfl
@[simp] theorem State.setFlag_mode (f : Fld) (i : Nat) (b : Bool) : (s.setFlag f i b).mode = s.mode := rfl
@[simp] theorem State.setFlag_sup (f : Fld) (i : Nat) (b : Bool) : (s.setFlag f i b).sup = s.sup := rfl
@[simp] theorem State.setFlag_sw (f : Fld) (i : Nat) (b : Bool) : (s.setFlag f i b).sw = s.sw := rfl
@[simp] theorem State.setFlag_fl (f : Fld) (i : Nat) (b : Bool) : (s.setFlag f i b).fl = s.fl := rfl
@[simp] theorem State.setFlag_boll (f : Fld) (i : Nat) (b : Bool) : (s.setFlag f i b).boll = s.boll := rfl
@[simp] theorem State.setFlag_tide (f : Fld) (i : Nat) (b : Bool) : (s.setFlag f i b).tide = s.tide := rfl
@[simp] theorem State.setFlag_eve (f : Fld) (i : Nat) (b : Bool) : (s.setFlag f i b).eve = s.eve := rfl
@[simp] theorem State.setFlag_inj (f : Fld) (i : Nat) (b : Bool) : (s.setFlag f i b).inj = s.inj := rfl
@[simp] theorem State.setFlag_led (f : Fld) (i : Nat) (b : Bool) : (s.setFlag f i b).led = s.led := rfl
@[simp] theorem State.setFlag_leds (f : Fld) (i : Nat) (b : Bool) : (s.setFlag f i b).leds = s.leds := rfl
@[simp] theorem State.setFlag_dio (f : Fld) (i : Nat) (b : Bool) : (s.setFlag f i b).dio = s.dio := rfl
@[simp] theorem State.setFlag_cal (f : Fld) (i : Nat) (b : Bool) : (s.setFlag f i b).cal = s.cal := rfl
@[simp] theorem State.setFlag_od (f : Fld) (i : Nat) (b : Bool) : (s.setFlag f i b).od = s.od := rfl
@[simp] theorem State.setFlag_can (f : Fld) (i : Nat) (b : Bool) : (s.setFlag f i b).can = s.can := rfl
@[simp] theorem State.setFlag_eth (f : Fld) (i : Nat) (b : Bool) : (s.setFlag f i b).eth = s.eth := rfl
@[simp] theorem State.setFlag_gwy (f : Fld) (i : Nat) (b : Bool) : (s.setFlag f i b).gwy = s.gwy := rfl
@[simp] theorem State.setFlag_nm (f : Fld) (i : Nat) (b : Bool) : (s.setFlag f i b).nm = s.nm := rfl
@[simp] theorem State.setFlag_acc (f : Fld) (i : Nat) (b : Bool) : (s.setFlag f i b).acc = s.acc := rfl
@[simp] theorem State.setFlag_cust (f : Fld) (i : Nat) (b : Bool) : (s.setFlag f i b).cust = s.cust := rfl
@[simp] theorem State.setFlag_upd (f : Fld) (i : Nat) (b : Bool) : (s.setFlag f i b).upd = s.upd := rfl
@[simp] theorem State.setFlag_free (f : Fld) (i : Nat) (b : Bool) : (s.setFlag f i b).free = s.free := rfl
@[simp] theorem State.setFlag_pending (f : Fld) (i : Nat) (b : Bool) : (s.setFlag f i b).pending = s.pending := rfl

@[simp] theorem State.setBit_now (f : Fld) (i k : Nat) (b : Bool) : (s.setBit f i k b).now = s.now := rfl
@[simp] theorem State.setBit_mem (f : Fld) (i k : Nat) (b : Bool) : (s.setBit f i k b).mem = s.mem := rfl
@[simp] theorem State.setBit_jnl (f : Fld) (i k : Nat) (b : Bool) : (s.setBit f i k b).jnl = s.jnl := rfl
@[simp] theorem State.setBit_bus (f : Fld) (i k : Nat) (b : Bool) : (s.setBit f i k b).bus = s.bus := rfl
@[simp] theorem State.setBit_clk (f : Fld) (i k : Nat) (b : Bool) : (s.setBit f i k b).clk = s.clk := rfl
@[simp] theorem State.setBit_pins (f : Fld) (i k : Nat) (b : Bool) : (s.setBit f i k b).pins = s.pins := rfl
@[simp] theorem State.setBit_plate (f : Fld) (i k : Nat) (b : Bool) : (s.setBit f i k b).plate = s.plate := rfl
@[simp] theorem State.setBit_berth (f : Fld) (i k : Nat) (b : Bool) : (s.setBit f i k b).berth = s.berth := rfl
@[simp] theorem State.setBit_mode (f : Fld) (i k : Nat) (b : Bool) : (s.setBit f i k b).mode = s.mode := rfl
@[simp] theorem State.setBit_sup (f : Fld) (i k : Nat) (b : Bool) : (s.setBit f i k b).sup = s.sup := rfl
@[simp] theorem State.setBit_sw (f : Fld) (i k : Nat) (b : Bool) : (s.setBit f i k b).sw = s.sw := rfl
@[simp] theorem State.setBit_fl (f : Fld) (i k : Nat) (b : Bool) : (s.setBit f i k b).fl = s.fl := rfl
@[simp] theorem State.setBit_boll (f : Fld) (i k : Nat) (b : Bool) : (s.setBit f i k b).boll = s.boll := rfl
@[simp] theorem State.setBit_tide (f : Fld) (i k : Nat) (b : Bool) : (s.setBit f i k b).tide = s.tide := rfl
@[simp] theorem State.setBit_eve (f : Fld) (i k : Nat) (b : Bool) : (s.setBit f i k b).eve = s.eve := rfl
@[simp] theorem State.setBit_inj (f : Fld) (i k : Nat) (b : Bool) : (s.setBit f i k b).inj = s.inj := rfl
@[simp] theorem State.setBit_led (f : Fld) (i k : Nat) (b : Bool) : (s.setBit f i k b).led = s.led := rfl
@[simp] theorem State.setBit_leds (f : Fld) (i k : Nat) (b : Bool) : (s.setBit f i k b).leds = s.leds := rfl
@[simp] theorem State.setBit_dio (f : Fld) (i k : Nat) (b : Bool) : (s.setBit f i k b).dio = s.dio := rfl
@[simp] theorem State.setBit_cal (f : Fld) (i k : Nat) (b : Bool) : (s.setBit f i k b).cal = s.cal := rfl
@[simp] theorem State.setBit_od (f : Fld) (i k : Nat) (b : Bool) : (s.setBit f i k b).od = s.od := rfl
@[simp] theorem State.setBit_can (f : Fld) (i k : Nat) (b : Bool) : (s.setBit f i k b).can = s.can := rfl
@[simp] theorem State.setBit_eth (f : Fld) (i k : Nat) (b : Bool) : (s.setBit f i k b).eth = s.eth := rfl
@[simp] theorem State.setBit_gwy (f : Fld) (i k : Nat) (b : Bool) : (s.setBit f i k b).gwy = s.gwy := rfl
@[simp] theorem State.setBit_nm (f : Fld) (i k : Nat) (b : Bool) : (s.setBit f i k b).nm = s.nm := rfl
@[simp] theorem State.setBit_acc (f : Fld) (i k : Nat) (b : Bool) : (s.setBit f i k b).acc = s.acc := rfl
@[simp] theorem State.setBit_cust (f : Fld) (i k : Nat) (b : Bool) : (s.setBit f i k b).cust = s.cust := rfl
@[simp] theorem State.setBit_upd (f : Fld) (i k : Nat) (b : Bool) : (s.setBit f i k b).upd = s.upd := rfl
@[simp] theorem State.setBit_free (f : Fld) (i k : Nat) (b : Bool) : (s.setBit f i k b).free = s.free := rfl
@[simp] theorem State.setBit_pending (f : Fld) (i k : Nat) (b : Bool) : (s.setBit f i k b).pending = s.pending := rfl

@[simp] theorem State.bump_now (f : Fld) (i n : Nat) : (s.bump f i n).now = s.now := rfl
@[simp] theorem State.bump_mem (f : Fld) (i n : Nat) : (s.bump f i n).mem = s.mem := rfl
@[simp] theorem State.bump_jnl (f : Fld) (i n : Nat) : (s.bump f i n).jnl = s.jnl := rfl
@[simp] theorem State.bump_bus (f : Fld) (i n : Nat) : (s.bump f i n).bus = s.bus := rfl
@[simp] theorem State.bump_clk (f : Fld) (i n : Nat) : (s.bump f i n).clk = s.clk := rfl
@[simp] theorem State.bump_pins (f : Fld) (i n : Nat) : (s.bump f i n).pins = s.pins := rfl
@[simp] theorem State.bump_plate (f : Fld) (i n : Nat) : (s.bump f i n).plate = s.plate := rfl
@[simp] theorem State.bump_berth (f : Fld) (i n : Nat) : (s.bump f i n).berth = s.berth := rfl
@[simp] theorem State.bump_mode (f : Fld) (i n : Nat) : (s.bump f i n).mode = s.mode := rfl
@[simp] theorem State.bump_sup (f : Fld) (i n : Nat) : (s.bump f i n).sup = s.sup := rfl
@[simp] theorem State.bump_sw (f : Fld) (i n : Nat) : (s.bump f i n).sw = s.sw := rfl
@[simp] theorem State.bump_fl (f : Fld) (i n : Nat) : (s.bump f i n).fl = s.fl := rfl
@[simp] theorem State.bump_boll (f : Fld) (i n : Nat) : (s.bump f i n).boll = s.boll := rfl
@[simp] theorem State.bump_tide (f : Fld) (i n : Nat) : (s.bump f i n).tide = s.tide := rfl
@[simp] theorem State.bump_eve (f : Fld) (i n : Nat) : (s.bump f i n).eve = s.eve := rfl
@[simp] theorem State.bump_inj (f : Fld) (i n : Nat) : (s.bump f i n).inj = s.inj := rfl
@[simp] theorem State.bump_led (f : Fld) (i n : Nat) : (s.bump f i n).led = s.led := rfl
@[simp] theorem State.bump_leds (f : Fld) (i n : Nat) : (s.bump f i n).leds = s.leds := rfl
@[simp] theorem State.bump_dio (f : Fld) (i n : Nat) : (s.bump f i n).dio = s.dio := rfl
@[simp] theorem State.bump_cal (f : Fld) (i n : Nat) : (s.bump f i n).cal = s.cal := rfl
@[simp] theorem State.bump_od (f : Fld) (i n : Nat) : (s.bump f i n).od = s.od := rfl
@[simp] theorem State.bump_can (f : Fld) (i n : Nat) : (s.bump f i n).can = s.can := rfl
@[simp] theorem State.bump_eth (f : Fld) (i n : Nat) : (s.bump f i n).eth = s.eth := rfl
@[simp] theorem State.bump_gwy (f : Fld) (i n : Nat) : (s.bump f i n).gwy = s.gwy := rfl
@[simp] theorem State.bump_nm (f : Fld) (i n : Nat) : (s.bump f i n).nm = s.nm := rfl
@[simp] theorem State.bump_acc (f : Fld) (i n : Nat) : (s.bump f i n).acc = s.acc := rfl
@[simp] theorem State.bump_cust (f : Fld) (i n : Nat) : (s.bump f i n).cust = s.cust := rfl
@[simp] theorem State.bump_upd (f : Fld) (i n : Nat) : (s.bump f i n).upd = s.upd := rfl
@[simp] theorem State.bump_free (f : Fld) (i n : Nat) : (s.bump f i n).free = s.free := rfl
@[simp] theorem State.bump_pending (f : Fld) (i n : Nat) : (s.bump f i n).pending = s.pending := rfl

@[simp] theorem State.setSwc_now (n : Nat) (c : SwCh) : (s.setSwc n c).now = s.now := rfl
@[simp] theorem State.setSwc_regs (n : Nat) (c : SwCh) : (s.setSwc n c).regs = s.regs := rfl
@[simp] theorem State.setSwc_mem (n : Nat) (c : SwCh) : (s.setSwc n c).mem = s.mem := rfl
@[simp] theorem State.setSwc_jnl (n : Nat) (c : SwCh) : (s.setSwc n c).jnl = s.jnl := rfl
@[simp] theorem State.setSwc_bus (n : Nat) (c : SwCh) : (s.setSwc n c).bus = s.bus := rfl
@[simp] theorem State.setSwc_clk (n : Nat) (c : SwCh) : (s.setSwc n c).clk = s.clk := rfl
@[simp] theorem State.setSwc_pins (n : Nat) (c : SwCh) : (s.setSwc n c).pins = s.pins := rfl
@[simp] theorem State.setSwc_plate (n : Nat) (c : SwCh) : (s.setSwc n c).plate = s.plate := rfl
@[simp] theorem State.setSwc_berth (n : Nat) (c : SwCh) : (s.setSwc n c).berth = s.berth := rfl
@[simp] theorem State.setSwc_mode (n : Nat) (c : SwCh) : (s.setSwc n c).mode = s.mode := rfl
@[simp] theorem State.setSwc_sup (n : Nat) (c : SwCh) : (s.setSwc n c).sup = s.sup := rfl
@[simp] theorem State.setSwc_fl (n : Nat) (c : SwCh) : (s.setSwc n c).fl = s.fl := rfl
@[simp] theorem State.setSwc_boll (n : Nat) (c : SwCh) : (s.setSwc n c).boll = s.boll := rfl
@[simp] theorem State.setSwc_tide (n : Nat) (c : SwCh) : (s.setSwc n c).tide = s.tide := rfl
@[simp] theorem State.setSwc_eve (n : Nat) (c : SwCh) : (s.setSwc n c).eve = s.eve := rfl
@[simp] theorem State.setSwc_inj (n : Nat) (c : SwCh) : (s.setSwc n c).inj = s.inj := rfl
@[simp] theorem State.setSwc_led (n : Nat) (c : SwCh) : (s.setSwc n c).led = s.led := rfl
@[simp] theorem State.setSwc_leds (n : Nat) (c : SwCh) : (s.setSwc n c).leds = s.leds := rfl
@[simp] theorem State.setSwc_dio (n : Nat) (c : SwCh) : (s.setSwc n c).dio = s.dio := rfl
@[simp] theorem State.setSwc_cal (n : Nat) (c : SwCh) : (s.setSwc n c).cal = s.cal := rfl
@[simp] theorem State.setSwc_od (n : Nat) (c : SwCh) : (s.setSwc n c).od = s.od := rfl
@[simp] theorem State.setSwc_can (n : Nat) (c : SwCh) : (s.setSwc n c).can = s.can := rfl
@[simp] theorem State.setSwc_eth (n : Nat) (c : SwCh) : (s.setSwc n c).eth = s.eth := rfl
@[simp] theorem State.setSwc_gwy (n : Nat) (c : SwCh) : (s.setSwc n c).gwy = s.gwy := rfl
@[simp] theorem State.setSwc_nm (n : Nat) (c : SwCh) : (s.setSwc n c).nm = s.nm := rfl
@[simp] theorem State.setSwc_acc (n : Nat) (c : SwCh) : (s.setSwc n c).acc = s.acc := rfl
@[simp] theorem State.setSwc_cust (n : Nat) (c : SwCh) : (s.setSwc n c).cust = s.cust := rfl
@[simp] theorem State.setSwc_upd (n : Nat) (c : SwCh) : (s.setSwc n c).upd = s.upd := rfl
@[simp] theorem State.setSwc_free (n : Nat) (c : SwCh) : (s.setSwc n c).free = s.free := rfl
@[simp] theorem State.setSwc_pending (n : Nat) (c : SwCh) : (s.setSwc n c).pending = s.pending := rfl

@[simp] theorem State.setFlc_now (f : Nat) (c : FeedLim) : (s.setFlc f c).now = s.now := rfl
@[simp] theorem State.setFlc_regs (f : Nat) (c : FeedLim) : (s.setFlc f c).regs = s.regs := rfl
@[simp] theorem State.setFlc_mem (f : Nat) (c : FeedLim) : (s.setFlc f c).mem = s.mem := rfl
@[simp] theorem State.setFlc_jnl (f : Nat) (c : FeedLim) : (s.setFlc f c).jnl = s.jnl := rfl
@[simp] theorem State.setFlc_bus (f : Nat) (c : FeedLim) : (s.setFlc f c).bus = s.bus := rfl
@[simp] theorem State.setFlc_clk (f : Nat) (c : FeedLim) : (s.setFlc f c).clk = s.clk := rfl
@[simp] theorem State.setFlc_pins (f : Nat) (c : FeedLim) : (s.setFlc f c).pins = s.pins := rfl
@[simp] theorem State.setFlc_plate (f : Nat) (c : FeedLim) : (s.setFlc f c).plate = s.plate := rfl
@[simp] theorem State.setFlc_berth (f : Nat) (c : FeedLim) : (s.setFlc f c).berth = s.berth := rfl
@[simp] theorem State.setFlc_mode (f : Nat) (c : FeedLim) : (s.setFlc f c).mode = s.mode := rfl
@[simp] theorem State.setFlc_sup (f : Nat) (c : FeedLim) : (s.setFlc f c).sup = s.sup := rfl
@[simp] theorem State.setFlc_sw (f : Nat) (c : FeedLim) : (s.setFlc f c).sw = s.sw := rfl
@[simp] theorem State.setFlc_boll (f : Nat) (c : FeedLim) : (s.setFlc f c).boll = s.boll := rfl
@[simp] theorem State.setFlc_tide (f : Nat) (c : FeedLim) : (s.setFlc f c).tide = s.tide := rfl
@[simp] theorem State.setFlc_eve (f : Nat) (c : FeedLim) : (s.setFlc f c).eve = s.eve := rfl
@[simp] theorem State.setFlc_inj (f : Nat) (c : FeedLim) : (s.setFlc f c).inj = s.inj := rfl
@[simp] theorem State.setFlc_led (f : Nat) (c : FeedLim) : (s.setFlc f c).led = s.led := rfl
@[simp] theorem State.setFlc_leds (f : Nat) (c : FeedLim) : (s.setFlc f c).leds = s.leds := rfl
@[simp] theorem State.setFlc_dio (f : Nat) (c : FeedLim) : (s.setFlc f c).dio = s.dio := rfl
@[simp] theorem State.setFlc_cal (f : Nat) (c : FeedLim) : (s.setFlc f c).cal = s.cal := rfl
@[simp] theorem State.setFlc_od (f : Nat) (c : FeedLim) : (s.setFlc f c).od = s.od := rfl
@[simp] theorem State.setFlc_can (f : Nat) (c : FeedLim) : (s.setFlc f c).can = s.can := rfl
@[simp] theorem State.setFlc_eth (f : Nat) (c : FeedLim) : (s.setFlc f c).eth = s.eth := rfl
@[simp] theorem State.setFlc_gwy (f : Nat) (c : FeedLim) : (s.setFlc f c).gwy = s.gwy := rfl
@[simp] theorem State.setFlc_nm (f : Nat) (c : FeedLim) : (s.setFlc f c).nm = s.nm := rfl
@[simp] theorem State.setFlc_acc (f : Nat) (c : FeedLim) : (s.setFlc f c).acc = s.acc := rfl
@[simp] theorem State.setFlc_cust (f : Nat) (c : FeedLim) : (s.setFlc f c).cust = s.cust := rfl
@[simp] theorem State.setFlc_upd (f : Nat) (c : FeedLim) : (s.setFlc f c).upd = s.upd := rfl
@[simp] theorem State.setFlc_free (f : Nat) (c : FeedLim) : (s.setFlc f c).free = s.free := rfl
@[simp] theorem State.setFlc_pending (f : Nat) (c : FeedLim) : (s.setFlc f c).pending = s.pending := rfl

@[simp] theorem State.setSilc_now (t : Nat) (c : SilTimer) : (s.setSilc t c).now = s.now := rfl
@[simp] theorem State.setSilc_regs (t : Nat) (c : SilTimer) : (s.setSilc t c).regs = s.regs := rfl
@[simp] theorem State.setSilc_mem (t : Nat) (c : SilTimer) : (s.setSilc t c).mem = s.mem := rfl
@[simp] theorem State.setSilc_jnl (t : Nat) (c : SilTimer) : (s.setSilc t c).jnl = s.jnl := rfl
@[simp] theorem State.setSilc_bus (t : Nat) (c : SilTimer) : (s.setSilc t c).bus = s.bus := rfl
@[simp] theorem State.setSilc_clk (t : Nat) (c : SilTimer) : (s.setSilc t c).clk = s.clk := rfl
@[simp] theorem State.setSilc_pins (t : Nat) (c : SilTimer) : (s.setSilc t c).pins = s.pins := rfl
@[simp] theorem State.setSilc_plate (t : Nat) (c : SilTimer) : (s.setSilc t c).plate = s.plate := rfl
@[simp] theorem State.setSilc_berth (t : Nat) (c : SilTimer) : (s.setSilc t c).berth = s.berth := rfl
@[simp] theorem State.setSilc_mode (t : Nat) (c : SilTimer) : (s.setSilc t c).mode = s.mode := rfl
@[simp] theorem State.setSilc_sup (t : Nat) (c : SilTimer) : (s.setSilc t c).sup = s.sup := rfl
@[simp] theorem State.setSilc_sw (t : Nat) (c : SilTimer) : (s.setSilc t c).sw = s.sw := rfl
@[simp] theorem State.setSilc_fl (t : Nat) (c : SilTimer) : (s.setSilc t c).fl = s.fl := rfl
@[simp] theorem State.setSilc_tide (t : Nat) (c : SilTimer) : (s.setSilc t c).tide = s.tide := rfl
@[simp] theorem State.setSilc_eve (t : Nat) (c : SilTimer) : (s.setSilc t c).eve = s.eve := rfl
@[simp] theorem State.setSilc_inj (t : Nat) (c : SilTimer) : (s.setSilc t c).inj = s.inj := rfl
@[simp] theorem State.setSilc_led (t : Nat) (c : SilTimer) : (s.setSilc t c).led = s.led := rfl
@[simp] theorem State.setSilc_leds (t : Nat) (c : SilTimer) : (s.setSilc t c).leds = s.leds := rfl
@[simp] theorem State.setSilc_dio (t : Nat) (c : SilTimer) : (s.setSilc t c).dio = s.dio := rfl
@[simp] theorem State.setSilc_cal (t : Nat) (c : SilTimer) : (s.setSilc t c).cal = s.cal := rfl
@[simp] theorem State.setSilc_od (t : Nat) (c : SilTimer) : (s.setSilc t c).od = s.od := rfl
@[simp] theorem State.setSilc_can (t : Nat) (c : SilTimer) : (s.setSilc t c).can = s.can := rfl
@[simp] theorem State.setSilc_eth (t : Nat) (c : SilTimer) : (s.setSilc t c).eth = s.eth := rfl
@[simp] theorem State.setSilc_gwy (t : Nat) (c : SilTimer) : (s.setSilc t c).gwy = s.gwy := rfl
@[simp] theorem State.setSilc_nm (t : Nat) (c : SilTimer) : (s.setSilc t c).nm = s.nm := rfl
@[simp] theorem State.setSilc_acc (t : Nat) (c : SilTimer) : (s.setSilc t c).acc = s.acc := rfl
@[simp] theorem State.setSilc_cust (t : Nat) (c : SilTimer) : (s.setSilc t c).cust = s.cust := rfl
@[simp] theorem State.setSilc_upd (t : Nat) (c : SilTimer) : (s.setSilc t c).upd = s.upd := rfl
@[simp] theorem State.setSilc_free (t : Nat) (c : SilTimer) : (s.setSilc t c).free = s.free := rfl
@[simp] theorem State.setSilc_pending (t : Nat) (c : SilTimer) : (s.setSilc t c).pending = s.pending := rfl

@[simp] theorem State.setRfxc_now (k : Nat) (c : Rfx) : (s.setRfxc k c).now = s.now := rfl
@[simp] theorem State.setRfxc_regs (k : Nat) (c : Rfx) : (s.setRfxc k c).regs = s.regs := rfl
@[simp] theorem State.setRfxc_mem (k : Nat) (c : Rfx) : (s.setRfxc k c).mem = s.mem := rfl
@[simp] theorem State.setRfxc_jnl (k : Nat) (c : Rfx) : (s.setRfxc k c).jnl = s.jnl := rfl
@[simp] theorem State.setRfxc_bus (k : Nat) (c : Rfx) : (s.setRfxc k c).bus = s.bus := rfl
@[simp] theorem State.setRfxc_clk (k : Nat) (c : Rfx) : (s.setRfxc k c).clk = s.clk := rfl
@[simp] theorem State.setRfxc_pins (k : Nat) (c : Rfx) : (s.setRfxc k c).pins = s.pins := rfl
@[simp] theorem State.setRfxc_plate (k : Nat) (c : Rfx) : (s.setRfxc k c).plate = s.plate := rfl
@[simp] theorem State.setRfxc_berth (k : Nat) (c : Rfx) : (s.setRfxc k c).berth = s.berth := rfl
@[simp] theorem State.setRfxc_mode (k : Nat) (c : Rfx) : (s.setRfxc k c).mode = s.mode := rfl
@[simp] theorem State.setRfxc_sup (k : Nat) (c : Rfx) : (s.setRfxc k c).sup = s.sup := rfl
@[simp] theorem State.setRfxc_sw (k : Nat) (c : Rfx) : (s.setRfxc k c).sw = s.sw := rfl
@[simp] theorem State.setRfxc_fl (k : Nat) (c : Rfx) : (s.setRfxc k c).fl = s.fl := rfl
@[simp] theorem State.setRfxc_tide (k : Nat) (c : Rfx) : (s.setRfxc k c).tide = s.tide := rfl
@[simp] theorem State.setRfxc_eve (k : Nat) (c : Rfx) : (s.setRfxc k c).eve = s.eve := rfl
@[simp] theorem State.setRfxc_inj (k : Nat) (c : Rfx) : (s.setRfxc k c).inj = s.inj := rfl
@[simp] theorem State.setRfxc_led (k : Nat) (c : Rfx) : (s.setRfxc k c).led = s.led := rfl
@[simp] theorem State.setRfxc_leds (k : Nat) (c : Rfx) : (s.setRfxc k c).leds = s.leds := rfl
@[simp] theorem State.setRfxc_dio (k : Nat) (c : Rfx) : (s.setRfxc k c).dio = s.dio := rfl
@[simp] theorem State.setRfxc_cal (k : Nat) (c : Rfx) : (s.setRfxc k c).cal = s.cal := rfl
@[simp] theorem State.setRfxc_od (k : Nat) (c : Rfx) : (s.setRfxc k c).od = s.od := rfl
@[simp] theorem State.setRfxc_can (k : Nat) (c : Rfx) : (s.setRfxc k c).can = s.can := rfl
@[simp] theorem State.setRfxc_eth (k : Nat) (c : Rfx) : (s.setRfxc k c).eth = s.eth := rfl
@[simp] theorem State.setRfxc_gwy (k : Nat) (c : Rfx) : (s.setRfxc k c).gwy = s.gwy := rfl
@[simp] theorem State.setRfxc_nm (k : Nat) (c : Rfx) : (s.setRfxc k c).nm = s.nm := rfl
@[simp] theorem State.setRfxc_acc (k : Nat) (c : Rfx) : (s.setRfxc k c).acc = s.acc := rfl
@[simp] theorem State.setRfxc_cust (k : Nat) (c : Rfx) : (s.setRfxc k c).cust = s.cust := rfl
@[simp] theorem State.setRfxc_upd (k : Nat) (c : Rfx) : (s.setRfxc k c).upd = s.upd := rfl
@[simp] theorem State.setRfxc_free (k : Nat) (c : Rfx) : (s.setRfxc k c).free = s.free := rfl
@[simp] theorem State.setRfxc_pending (k : Nat) (c : Rfx) : (s.setRfxc k c).pending = s.pending := rfl

@[simp] theorem State.setInjc_now (n : Nat) (c : InjCh) : (s.setInjc n c).now = s.now := rfl
@[simp] theorem State.setInjc_regs (n : Nat) (c : InjCh) : (s.setInjc n c).regs = s.regs := rfl
@[simp] theorem State.setInjc_mem (n : Nat) (c : InjCh) : (s.setInjc n c).mem = s.mem := rfl
@[simp] theorem State.setInjc_jnl (n : Nat) (c : InjCh) : (s.setInjc n c).jnl = s.jnl := rfl
@[simp] theorem State.setInjc_bus (n : Nat) (c : InjCh) : (s.setInjc n c).bus = s.bus := rfl
@[simp] theorem State.setInjc_clk (n : Nat) (c : InjCh) : (s.setInjc n c).clk = s.clk := rfl
@[simp] theorem State.setInjc_pins (n : Nat) (c : InjCh) : (s.setInjc n c).pins = s.pins := rfl
@[simp] theorem State.setInjc_plate (n : Nat) (c : InjCh) : (s.setInjc n c).plate = s.plate := rfl
@[simp] theorem State.setInjc_berth (n : Nat) (c : InjCh) : (s.setInjc n c).berth = s.berth := rfl
@[simp] theorem State.setInjc_mode (n : Nat) (c : InjCh) : (s.setInjc n c).mode = s.mode := rfl
@[simp] theorem State.setInjc_sup (n : Nat) (c : InjCh) : (s.setInjc n c).sup = s.sup := rfl
@[simp] theorem State.setInjc_sw (n : Nat) (c : InjCh) : (s.setInjc n c).sw = s.sw := rfl
@[simp] theorem State.setInjc_fl (n : Nat) (c : InjCh) : (s.setInjc n c).fl = s.fl := rfl
@[simp] theorem State.setInjc_boll (n : Nat) (c : InjCh) : (s.setInjc n c).boll = s.boll := rfl
@[simp] theorem State.setInjc_tide (n : Nat) (c : InjCh) : (s.setInjc n c).tide = s.tide := rfl
@[simp] theorem State.setInjc_eve (n : Nat) (c : InjCh) : (s.setInjc n c).eve = s.eve := rfl
@[simp] theorem State.setInjc_led (n : Nat) (c : InjCh) : (s.setInjc n c).led = s.led := rfl
@[simp] theorem State.setInjc_leds (n : Nat) (c : InjCh) : (s.setInjc n c).leds = s.leds := rfl
@[simp] theorem State.setInjc_dio (n : Nat) (c : InjCh) : (s.setInjc n c).dio = s.dio := rfl
@[simp] theorem State.setInjc_cal (n : Nat) (c : InjCh) : (s.setInjc n c).cal = s.cal := rfl
@[simp] theorem State.setInjc_od (n : Nat) (c : InjCh) : (s.setInjc n c).od = s.od := rfl
@[simp] theorem State.setInjc_can (n : Nat) (c : InjCh) : (s.setInjc n c).can = s.can := rfl
@[simp] theorem State.setInjc_eth (n : Nat) (c : InjCh) : (s.setInjc n c).eth = s.eth := rfl
@[simp] theorem State.setInjc_gwy (n : Nat) (c : InjCh) : (s.setInjc n c).gwy = s.gwy := rfl
@[simp] theorem State.setInjc_nm (n : Nat) (c : InjCh) : (s.setInjc n c).nm = s.nm := rfl
@[simp] theorem State.setInjc_acc (n : Nat) (c : InjCh) : (s.setInjc n c).acc = s.acc := rfl
@[simp] theorem State.setInjc_cust (n : Nat) (c : InjCh) : (s.setInjc n c).cust = s.cust := rfl
@[simp] theorem State.setInjc_upd (n : Nat) (c : InjCh) : (s.setInjc n c).upd = s.upd := rfl
@[simp] theorem State.setInjc_free (n : Nat) (c : InjCh) : (s.setInjc n c).free = s.free := rfl
@[simp] theorem State.setInjc_pending (n : Nat) (c : InjCh) : (s.setInjc n c).pending = s.pending := rfl

@[simp] theorem State.setLedc_now (n : Nat) (c : LedCh) : (s.setLedc n c).now = s.now := rfl
@[simp] theorem State.setLedc_regs (n : Nat) (c : LedCh) : (s.setLedc n c).regs = s.regs := rfl
@[simp] theorem State.setLedc_mem (n : Nat) (c : LedCh) : (s.setLedc n c).mem = s.mem := rfl
@[simp] theorem State.setLedc_jnl (n : Nat) (c : LedCh) : (s.setLedc n c).jnl = s.jnl := rfl
@[simp] theorem State.setLedc_bus (n : Nat) (c : LedCh) : (s.setLedc n c).bus = s.bus := rfl
@[simp] theorem State.setLedc_clk (n : Nat) (c : LedCh) : (s.setLedc n c).clk = s.clk := rfl
@[simp] theorem State.setLedc_pins (n : Nat) (c : LedCh) : (s.setLedc n c).pins = s.pins := rfl
@[simp] theorem State.setLedc_plate (n : Nat) (c : LedCh) : (s.setLedc n c).plate = s.plate := rfl
@[simp] theorem State.setLedc_berth (n : Nat) (c : LedCh) : (s.setLedc n c).berth = s.berth := rfl
@[simp] theorem State.setLedc_mode (n : Nat) (c : LedCh) : (s.setLedc n c).mode = s.mode := rfl
@[simp] theorem State.setLedc_sup (n : Nat) (c : LedCh) : (s.setLedc n c).sup = s.sup := rfl
@[simp] theorem State.setLedc_sw (n : Nat) (c : LedCh) : (s.setLedc n c).sw = s.sw := rfl
@[simp] theorem State.setLedc_fl (n : Nat) (c : LedCh) : (s.setLedc n c).fl = s.fl := rfl
@[simp] theorem State.setLedc_boll (n : Nat) (c : LedCh) : (s.setLedc n c).boll = s.boll := rfl
@[simp] theorem State.setLedc_tide (n : Nat) (c : LedCh) : (s.setLedc n c).tide = s.tide := rfl
@[simp] theorem State.setLedc_eve (n : Nat) (c : LedCh) : (s.setLedc n c).eve = s.eve := rfl
@[simp] theorem State.setLedc_inj (n : Nat) (c : LedCh) : (s.setLedc n c).inj = s.inj := rfl
@[simp] theorem State.setLedc_dio (n : Nat) (c : LedCh) : (s.setLedc n c).dio = s.dio := rfl
@[simp] theorem State.setLedc_cal (n : Nat) (c : LedCh) : (s.setLedc n c).cal = s.cal := rfl
@[simp] theorem State.setLedc_od (n : Nat) (c : LedCh) : (s.setLedc n c).od = s.od := rfl
@[simp] theorem State.setLedc_can (n : Nat) (c : LedCh) : (s.setLedc n c).can = s.can := rfl
@[simp] theorem State.setLedc_eth (n : Nat) (c : LedCh) : (s.setLedc n c).eth = s.eth := rfl
@[simp] theorem State.setLedc_gwy (n : Nat) (c : LedCh) : (s.setLedc n c).gwy = s.gwy := rfl
@[simp] theorem State.setLedc_nm (n : Nat) (c : LedCh) : (s.setLedc n c).nm = s.nm := rfl
@[simp] theorem State.setLedc_acc (n : Nat) (c : LedCh) : (s.setLedc n c).acc = s.acc := rfl
@[simp] theorem State.setLedc_cust (n : Nat) (c : LedCh) : (s.setLedc n c).cust = s.cust := rfl
@[simp] theorem State.setLedc_upd (n : Nat) (c : LedCh) : (s.setLedc n c).upd = s.upd := rfl
@[simp] theorem State.setLedc_free (n : Nat) (c : LedCh) : (s.setLedc n c).free = s.free := rfl
@[simp] theorem State.setLedc_pending (n : Nat) (c : LedCh) : (s.setLedc n c).pending = s.pending := rfl

@[simp] theorem State.setDic_now (n : Nat) (c : DiCh) : (s.setDic n c).now = s.now := rfl
@[simp] theorem State.setDic_regs (n : Nat) (c : DiCh) : (s.setDic n c).regs = s.regs := rfl
@[simp] theorem State.setDic_mem (n : Nat) (c : DiCh) : (s.setDic n c).mem = s.mem := rfl
@[simp] theorem State.setDic_jnl (n : Nat) (c : DiCh) : (s.setDic n c).jnl = s.jnl := rfl
@[simp] theorem State.setDic_bus (n : Nat) (c : DiCh) : (s.setDic n c).bus = s.bus := rfl
@[simp] theorem State.setDic_clk (n : Nat) (c : DiCh) : (s.setDic n c).clk = s.clk := rfl
@[simp] theorem State.setDic_pins (n : Nat) (c : DiCh) : (s.setDic n c).pins = s.pins := rfl
@[simp] theorem State.setDic_plate (n : Nat) (c : DiCh) : (s.setDic n c).plate = s.plate := rfl
@[simp] theorem State.setDic_berth (n : Nat) (c : DiCh) : (s.setDic n c).berth = s.berth := rfl
@[simp] theorem State.setDic_mode (n : Nat) (c : DiCh) : (s.setDic n c).mode = s.mode := rfl
@[simp] theorem State.setDic_sup (n : Nat) (c : DiCh) : (s.setDic n c).sup = s.sup := rfl
@[simp] theorem State.setDic_sw (n : Nat) (c : DiCh) : (s.setDic n c).sw = s.sw := rfl
@[simp] theorem State.setDic_fl (n : Nat) (c : DiCh) : (s.setDic n c).fl = s.fl := rfl
@[simp] theorem State.setDic_boll (n : Nat) (c : DiCh) : (s.setDic n c).boll = s.boll := rfl
@[simp] theorem State.setDic_tide (n : Nat) (c : DiCh) : (s.setDic n c).tide = s.tide := rfl
@[simp] theorem State.setDic_eve (n : Nat) (c : DiCh) : (s.setDic n c).eve = s.eve := rfl
@[simp] theorem State.setDic_inj (n : Nat) (c : DiCh) : (s.setDic n c).inj = s.inj := rfl
@[simp] theorem State.setDic_led (n : Nat) (c : DiCh) : (s.setDic n c).led = s.led := rfl
@[simp] theorem State.setDic_leds (n : Nat) (c : DiCh) : (s.setDic n c).leds = s.leds := rfl
@[simp] theorem State.setDic_cal (n : Nat) (c : DiCh) : (s.setDic n c).cal = s.cal := rfl
@[simp] theorem State.setDic_od (n : Nat) (c : DiCh) : (s.setDic n c).od = s.od := rfl
@[simp] theorem State.setDic_can (n : Nat) (c : DiCh) : (s.setDic n c).can = s.can := rfl
@[simp] theorem State.setDic_eth (n : Nat) (c : DiCh) : (s.setDic n c).eth = s.eth := rfl
@[simp] theorem State.setDic_gwy (n : Nat) (c : DiCh) : (s.setDic n c).gwy = s.gwy := rfl
@[simp] theorem State.setDic_nm (n : Nat) (c : DiCh) : (s.setDic n c).nm = s.nm := rfl
@[simp] theorem State.setDic_acc (n : Nat) (c : DiCh) : (s.setDic n c).acc = s.acc := rfl
@[simp] theorem State.setDic_cust (n : Nat) (c : DiCh) : (s.setDic n c).cust = s.cust := rfl
@[simp] theorem State.setDic_upd (n : Nat) (c : DiCh) : (s.setDic n c).upd = s.upd := rfl
@[simp] theorem State.setDic_free (n : Nat) (c : DiCh) : (s.setDic n c).free = s.free := rfl
@[simp] theorem State.setDic_pending (n : Nat) (c : DiCh) : (s.setDic n c).pending = s.pending := rfl

@[simp] theorem State.setCntc_now (n : Nat) (c : CntCh) : (s.setCntc n c).now = s.now := rfl
@[simp] theorem State.setCntc_regs (n : Nat) (c : CntCh) : (s.setCntc n c).regs = s.regs := rfl
@[simp] theorem State.setCntc_mem (n : Nat) (c : CntCh) : (s.setCntc n c).mem = s.mem := rfl
@[simp] theorem State.setCntc_jnl (n : Nat) (c : CntCh) : (s.setCntc n c).jnl = s.jnl := rfl
@[simp] theorem State.setCntc_bus (n : Nat) (c : CntCh) : (s.setCntc n c).bus = s.bus := rfl
@[simp] theorem State.setCntc_clk (n : Nat) (c : CntCh) : (s.setCntc n c).clk = s.clk := rfl
@[simp] theorem State.setCntc_pins (n : Nat) (c : CntCh) : (s.setCntc n c).pins = s.pins := rfl
@[simp] theorem State.setCntc_plate (n : Nat) (c : CntCh) : (s.setCntc n c).plate = s.plate := rfl
@[simp] theorem State.setCntc_berth (n : Nat) (c : CntCh) : (s.setCntc n c).berth = s.berth := rfl
@[simp] theorem State.setCntc_mode (n : Nat) (c : CntCh) : (s.setCntc n c).mode = s.mode := rfl
@[simp] theorem State.setCntc_sup (n : Nat) (c : CntCh) : (s.setCntc n c).sup = s.sup := rfl
@[simp] theorem State.setCntc_sw (n : Nat) (c : CntCh) : (s.setCntc n c).sw = s.sw := rfl
@[simp] theorem State.setCntc_fl (n : Nat) (c : CntCh) : (s.setCntc n c).fl = s.fl := rfl
@[simp] theorem State.setCntc_boll (n : Nat) (c : CntCh) : (s.setCntc n c).boll = s.boll := rfl
@[simp] theorem State.setCntc_tide (n : Nat) (c : CntCh) : (s.setCntc n c).tide = s.tide := rfl
@[simp] theorem State.setCntc_eve (n : Nat) (c : CntCh) : (s.setCntc n c).eve = s.eve := rfl
@[simp] theorem State.setCntc_inj (n : Nat) (c : CntCh) : (s.setCntc n c).inj = s.inj := rfl
@[simp] theorem State.setCntc_led (n : Nat) (c : CntCh) : (s.setCntc n c).led = s.led := rfl
@[simp] theorem State.setCntc_leds (n : Nat) (c : CntCh) : (s.setCntc n c).leds = s.leds := rfl
@[simp] theorem State.setCntc_cal (n : Nat) (c : CntCh) : (s.setCntc n c).cal = s.cal := rfl
@[simp] theorem State.setCntc_od (n : Nat) (c : CntCh) : (s.setCntc n c).od = s.od := rfl
@[simp] theorem State.setCntc_can (n : Nat) (c : CntCh) : (s.setCntc n c).can = s.can := rfl
@[simp] theorem State.setCntc_eth (n : Nat) (c : CntCh) : (s.setCntc n c).eth = s.eth := rfl
@[simp] theorem State.setCntc_gwy (n : Nat) (c : CntCh) : (s.setCntc n c).gwy = s.gwy := rfl
@[simp] theorem State.setCntc_nm (n : Nat) (c : CntCh) : (s.setCntc n c).nm = s.nm := rfl
@[simp] theorem State.setCntc_acc (n : Nat) (c : CntCh) : (s.setCntc n c).acc = s.acc := rfl
@[simp] theorem State.setCntc_cust (n : Nat) (c : CntCh) : (s.setCntc n c).cust = s.cust := rfl
@[simp] theorem State.setCntc_upd (n : Nat) (c : CntCh) : (s.setCntc n c).upd = s.upd := rfl
@[simp] theorem State.setCntc_free (n : Nat) (c : CntCh) : (s.setCntc n c).free = s.free := rfl
@[simp] theorem State.setCntc_pending (n : Nat) (c : CntCh) : (s.setCntc n c).pending = s.pending := rfl

@[simp] theorem State.setCanc_now (n : Nat) (c : CanCtl) : (s.setCanc n c).now = s.now := rfl
@[simp] theorem State.setCanc_regs (n : Nat) (c : CanCtl) : (s.setCanc n c).regs = s.regs := rfl
@[simp] theorem State.setCanc_mem (n : Nat) (c : CanCtl) : (s.setCanc n c).mem = s.mem := rfl
@[simp] theorem State.setCanc_jnl (n : Nat) (c : CanCtl) : (s.setCanc n c).jnl = s.jnl := rfl
@[simp] theorem State.setCanc_bus (n : Nat) (c : CanCtl) : (s.setCanc n c).bus = s.bus := rfl
@[simp] theorem State.setCanc_clk (n : Nat) (c : CanCtl) : (s.setCanc n c).clk = s.clk := rfl
@[simp] theorem State.setCanc_pins (n : Nat) (c : CanCtl) : (s.setCanc n c).pins = s.pins := rfl
@[simp] theorem State.setCanc_plate (n : Nat) (c : CanCtl) : (s.setCanc n c).plate = s.plate := rfl
@[simp] theorem State.setCanc_berth (n : Nat) (c : CanCtl) : (s.setCanc n c).berth = s.berth := rfl
@[simp] theorem State.setCanc_mode (n : Nat) (c : CanCtl) : (s.setCanc n c).mode = s.mode := rfl
@[simp] theorem State.setCanc_sup (n : Nat) (c : CanCtl) : (s.setCanc n c).sup = s.sup := rfl
@[simp] theorem State.setCanc_sw (n : Nat) (c : CanCtl) : (s.setCanc n c).sw = s.sw := rfl
@[simp] theorem State.setCanc_fl (n : Nat) (c : CanCtl) : (s.setCanc n c).fl = s.fl := rfl
@[simp] theorem State.setCanc_boll (n : Nat) (c : CanCtl) : (s.setCanc n c).boll = s.boll := rfl
@[simp] theorem State.setCanc_tide (n : Nat) (c : CanCtl) : (s.setCanc n c).tide = s.tide := rfl
@[simp] theorem State.setCanc_eve (n : Nat) (c : CanCtl) : (s.setCanc n c).eve = s.eve := rfl
@[simp] theorem State.setCanc_inj (n : Nat) (c : CanCtl) : (s.setCanc n c).inj = s.inj := rfl
@[simp] theorem State.setCanc_led (n : Nat) (c : CanCtl) : (s.setCanc n c).led = s.led := rfl
@[simp] theorem State.setCanc_leds (n : Nat) (c : CanCtl) : (s.setCanc n c).leds = s.leds := rfl
@[simp] theorem State.setCanc_dio (n : Nat) (c : CanCtl) : (s.setCanc n c).dio = s.dio := rfl
@[simp] theorem State.setCanc_cal (n : Nat) (c : CanCtl) : (s.setCanc n c).cal = s.cal := rfl
@[simp] theorem State.setCanc_od (n : Nat) (c : CanCtl) : (s.setCanc n c).od = s.od := rfl
@[simp] theorem State.setCanc_eth (n : Nat) (c : CanCtl) : (s.setCanc n c).eth = s.eth := rfl
@[simp] theorem State.setCanc_gwy (n : Nat) (c : CanCtl) : (s.setCanc n c).gwy = s.gwy := rfl
@[simp] theorem State.setCanc_nm (n : Nat) (c : CanCtl) : (s.setCanc n c).nm = s.nm := rfl
@[simp] theorem State.setCanc_acc (n : Nat) (c : CanCtl) : (s.setCanc n c).acc = s.acc := rfl
@[simp] theorem State.setCanc_cust (n : Nat) (c : CanCtl) : (s.setCanc n c).cust = s.cust := rfl
@[simp] theorem State.setCanc_upd (n : Nat) (c : CanCtl) : (s.setCanc n c).upd = s.upd := rfl
@[simp] theorem State.setCanc_free (n : Nat) (c : CanCtl) : (s.setCanc n c).free = s.free := rfl
@[simp] theorem State.setCanc_pending (n : Nat) (c : CanCtl) : (s.setCanc n c).pending = s.pending := rfl

@[simp] theorem State.setEthp_now (p : Nat) (c : EthPort) : (s.setEthp p c).now = s.now := rfl
@[simp] theorem State.setEthp_regs (p : Nat) (c : EthPort) : (s.setEthp p c).regs = s.regs := rfl
@[simp] theorem State.setEthp_mem (p : Nat) (c : EthPort) : (s.setEthp p c).mem = s.mem := rfl
@[simp] theorem State.setEthp_jnl (p : Nat) (c : EthPort) : (s.setEthp p c).jnl = s.jnl := rfl
@[simp] theorem State.setEthp_bus (p : Nat) (c : EthPort) : (s.setEthp p c).bus = s.bus := rfl
@[simp] theorem State.setEthp_clk (p : Nat) (c : EthPort) : (s.setEthp p c).clk = s.clk := rfl
@[simp] theorem State.setEthp_pins (p : Nat) (c : EthPort) : (s.setEthp p c).pins = s.pins := rfl
@[simp] theorem State.setEthp_plate (p : Nat) (c : EthPort) : (s.setEthp p c).plate = s.plate := rfl
@[simp] theorem State.setEthp_berth (p : Nat) (c : EthPort) : (s.setEthp p c).berth = s.berth := rfl
@[simp] theorem State.setEthp_mode (p : Nat) (c : EthPort) : (s.setEthp p c).mode = s.mode := rfl
@[simp] theorem State.setEthp_sup (p : Nat) (c : EthPort) : (s.setEthp p c).sup = s.sup := rfl
@[simp] theorem State.setEthp_sw (p : Nat) (c : EthPort) : (s.setEthp p c).sw = s.sw := rfl
@[simp] theorem State.setEthp_fl (p : Nat) (c : EthPort) : (s.setEthp p c).fl = s.fl := rfl
@[simp] theorem State.setEthp_boll (p : Nat) (c : EthPort) : (s.setEthp p c).boll = s.boll := rfl
@[simp] theorem State.setEthp_tide (p : Nat) (c : EthPort) : (s.setEthp p c).tide = s.tide := rfl
@[simp] theorem State.setEthp_eve (p : Nat) (c : EthPort) : (s.setEthp p c).eve = s.eve := rfl
@[simp] theorem State.setEthp_inj (p : Nat) (c : EthPort) : (s.setEthp p c).inj = s.inj := rfl
@[simp] theorem State.setEthp_led (p : Nat) (c : EthPort) : (s.setEthp p c).led = s.led := rfl
@[simp] theorem State.setEthp_leds (p : Nat) (c : EthPort) : (s.setEthp p c).leds = s.leds := rfl
@[simp] theorem State.setEthp_dio (p : Nat) (c : EthPort) : (s.setEthp p c).dio = s.dio := rfl
@[simp] theorem State.setEthp_cal (p : Nat) (c : EthPort) : (s.setEthp p c).cal = s.cal := rfl
@[simp] theorem State.setEthp_od (p : Nat) (c : EthPort) : (s.setEthp p c).od = s.od := rfl
@[simp] theorem State.setEthp_can (p : Nat) (c : EthPort) : (s.setEthp p c).can = s.can := rfl
@[simp] theorem State.setEthp_gwy (p : Nat) (c : EthPort) : (s.setEthp p c).gwy = s.gwy := rfl
@[simp] theorem State.setEthp_nm (p : Nat) (c : EthPort) : (s.setEthp p c).nm = s.nm := rfl
@[simp] theorem State.setEthp_acc (p : Nat) (c : EthPort) : (s.setEthp p c).acc = s.acc := rfl
@[simp] theorem State.setEthp_cust (p : Nat) (c : EthPort) : (s.setEthp p c).cust = s.cust := rfl
@[simp] theorem State.setEthp_upd (p : Nat) (c : EthPort) : (s.setEthp p c).upd = s.upd := rfl
@[simp] theorem State.setEthp_free (p : Nat) (c : EthPort) : (s.setEthp p c).free = s.free := rfl
@[simp] theorem State.setEthp_pending (p : Nat) (c : EthPort) : (s.setEthp p c).pending = s.pending := rfl

@[simp] theorem State.setPtp_now (p : Nat) (c : PtpPort) : (s.setPtp p c).now = s.now := rfl
@[simp] theorem State.setPtp_regs (p : Nat) (c : PtpPort) : (s.setPtp p c).regs = s.regs := rfl
@[simp] theorem State.setPtp_mem (p : Nat) (c : PtpPort) : (s.setPtp p c).mem = s.mem := rfl
@[simp] theorem State.setPtp_jnl (p : Nat) (c : PtpPort) : (s.setPtp p c).jnl = s.jnl := rfl
@[simp] theorem State.setPtp_bus (p : Nat) (c : PtpPort) : (s.setPtp p c).bus = s.bus := rfl
@[simp] theorem State.setPtp_clk (p : Nat) (c : PtpPort) : (s.setPtp p c).clk = s.clk := rfl
@[simp] theorem State.setPtp_pins (p : Nat) (c : PtpPort) : (s.setPtp p c).pins = s.pins := rfl
@[simp] theorem State.setPtp_plate (p : Nat) (c : PtpPort) : (s.setPtp p c).plate = s.plate := rfl
@[simp] theorem State.setPtp_berth (p : Nat) (c : PtpPort) : (s.setPtp p c).berth = s.berth := rfl
@[simp] theorem State.setPtp_mode (p : Nat) (c : PtpPort) : (s.setPtp p c).mode = s.mode := rfl
@[simp] theorem State.setPtp_sup (p : Nat) (c : PtpPort) : (s.setPtp p c).sup = s.sup := rfl
@[simp] theorem State.setPtp_sw (p : Nat) (c : PtpPort) : (s.setPtp p c).sw = s.sw := rfl
@[simp] theorem State.setPtp_fl (p : Nat) (c : PtpPort) : (s.setPtp p c).fl = s.fl := rfl
@[simp] theorem State.setPtp_boll (p : Nat) (c : PtpPort) : (s.setPtp p c).boll = s.boll := rfl
@[simp] theorem State.setPtp_eve (p : Nat) (c : PtpPort) : (s.setPtp p c).eve = s.eve := rfl
@[simp] theorem State.setPtp_inj (p : Nat) (c : PtpPort) : (s.setPtp p c).inj = s.inj := rfl
@[simp] theorem State.setPtp_led (p : Nat) (c : PtpPort) : (s.setPtp p c).led = s.led := rfl
@[simp] theorem State.setPtp_leds (p : Nat) (c : PtpPort) : (s.setPtp p c).leds = s.leds := rfl
@[simp] theorem State.setPtp_dio (p : Nat) (c : PtpPort) : (s.setPtp p c).dio = s.dio := rfl
@[simp] theorem State.setPtp_cal (p : Nat) (c : PtpPort) : (s.setPtp p c).cal = s.cal := rfl
@[simp] theorem State.setPtp_od (p : Nat) (c : PtpPort) : (s.setPtp p c).od = s.od := rfl
@[simp] theorem State.setPtp_can (p : Nat) (c : PtpPort) : (s.setPtp p c).can = s.can := rfl
@[simp] theorem State.setPtp_eth (p : Nat) (c : PtpPort) : (s.setPtp p c).eth = s.eth := rfl
@[simp] theorem State.setPtp_gwy (p : Nat) (c : PtpPort) : (s.setPtp p c).gwy = s.gwy := rfl
@[simp] theorem State.setPtp_nm (p : Nat) (c : PtpPort) : (s.setPtp p c).nm = s.nm := rfl
@[simp] theorem State.setPtp_acc (p : Nat) (c : PtpPort) : (s.setPtp p c).acc = s.acc := rfl
@[simp] theorem State.setPtp_cust (p : Nat) (c : PtpPort) : (s.setPtp p c).cust = s.cust := rfl
@[simp] theorem State.setPtp_upd (p : Nat) (c : PtpPort) : (s.setPtp p c).upd = s.upd := rfl
@[simp] theorem State.setPtp_free (p : Nat) (c : PtpPort) : (s.setPtp p c).free = s.free := rfl
@[simp] theorem State.setPtp_pending (p : Nat) (c : PtpPort) : (s.setPtp p c).pending = s.pending := rfl

@[simp] theorem State.setNms_now (g : Nat) (c : NmSeg) : (s.setNms g c).now = s.now := rfl
@[simp] theorem State.setNms_regs (g : Nat) (c : NmSeg) : (s.setNms g c).regs = s.regs := rfl
@[simp] theorem State.setNms_mem (g : Nat) (c : NmSeg) : (s.setNms g c).mem = s.mem := rfl
@[simp] theorem State.setNms_jnl (g : Nat) (c : NmSeg) : (s.setNms g c).jnl = s.jnl := rfl
@[simp] theorem State.setNms_bus (g : Nat) (c : NmSeg) : (s.setNms g c).bus = s.bus := rfl
@[simp] theorem State.setNms_clk (g : Nat) (c : NmSeg) : (s.setNms g c).clk = s.clk := rfl
@[simp] theorem State.setNms_pins (g : Nat) (c : NmSeg) : (s.setNms g c).pins = s.pins := rfl
@[simp] theorem State.setNms_plate (g : Nat) (c : NmSeg) : (s.setNms g c).plate = s.plate := rfl
@[simp] theorem State.setNms_berth (g : Nat) (c : NmSeg) : (s.setNms g c).berth = s.berth := rfl
@[simp] theorem State.setNms_mode (g : Nat) (c : NmSeg) : (s.setNms g c).mode = s.mode := rfl
@[simp] theorem State.setNms_sup (g : Nat) (c : NmSeg) : (s.setNms g c).sup = s.sup := rfl
@[simp] theorem State.setNms_sw (g : Nat) (c : NmSeg) : (s.setNms g c).sw = s.sw := rfl
@[simp] theorem State.setNms_fl (g : Nat) (c : NmSeg) : (s.setNms g c).fl = s.fl := rfl
@[simp] theorem State.setNms_boll (g : Nat) (c : NmSeg) : (s.setNms g c).boll = s.boll := rfl
@[simp] theorem State.setNms_tide (g : Nat) (c : NmSeg) : (s.setNms g c).tide = s.tide := rfl
@[simp] theorem State.setNms_eve (g : Nat) (c : NmSeg) : (s.setNms g c).eve = s.eve := rfl
@[simp] theorem State.setNms_inj (g : Nat) (c : NmSeg) : (s.setNms g c).inj = s.inj := rfl
@[simp] theorem State.setNms_led (g : Nat) (c : NmSeg) : (s.setNms g c).led = s.led := rfl
@[simp] theorem State.setNms_leds (g : Nat) (c : NmSeg) : (s.setNms g c).leds = s.leds := rfl
@[simp] theorem State.setNms_dio (g : Nat) (c : NmSeg) : (s.setNms g c).dio = s.dio := rfl
@[simp] theorem State.setNms_cal (g : Nat) (c : NmSeg) : (s.setNms g c).cal = s.cal := rfl
@[simp] theorem State.setNms_od (g : Nat) (c : NmSeg) : (s.setNms g c).od = s.od := rfl
@[simp] theorem State.setNms_can (g : Nat) (c : NmSeg) : (s.setNms g c).can = s.can := rfl
@[simp] theorem State.setNms_eth (g : Nat) (c : NmSeg) : (s.setNms g c).eth = s.eth := rfl
@[simp] theorem State.setNms_gwy (g : Nat) (c : NmSeg) : (s.setNms g c).gwy = s.gwy := rfl
@[simp] theorem State.setNms_acc (g : Nat) (c : NmSeg) : (s.setNms g c).acc = s.acc := rfl
@[simp] theorem State.setNms_cust (g : Nat) (c : NmSeg) : (s.setNms g c).cust = s.cust := rfl
@[simp] theorem State.setNms_upd (g : Nat) (c : NmSeg) : (s.setNms g c).upd = s.upd := rfl
@[simp] theorem State.setNms_free (g : Nat) (c : NmSeg) : (s.setNms g c).free = s.free := rfl
@[simp] theorem State.setNms_pending (g : Nat) (c : NmSeg) : (s.setNms g c).pending = s.pending := rfl

@[simp] theorem State.setStrm_now (n : Nat) (c : Strm) : (s.setStrm n c).now = s.now := rfl
@[simp] theorem State.setStrm_regs (n : Nat) (c : Strm) : (s.setStrm n c).regs = s.regs := rfl
@[simp] theorem State.setStrm_mem (n : Nat) (c : Strm) : (s.setStrm n c).mem = s.mem := rfl
@[simp] theorem State.setStrm_jnl (n : Nat) (c : Strm) : (s.setStrm n c).jnl = s.jnl := rfl
@[simp] theorem State.setStrm_bus (n : Nat) (c : Strm) : (s.setStrm n c).bus = s.bus := rfl
@[simp] theorem State.setStrm_clk (n : Nat) (c : Strm) : (s.setStrm n c).clk = s.clk := rfl
@[simp] theorem State.setStrm_pins (n : Nat) (c : Strm) : (s.setStrm n c).pins = s.pins := rfl
@[simp] theorem State.setStrm_plate (n : Nat) (c : Strm) : (s.setStrm n c).plate = s.plate := rfl
@[simp] theorem State.setStrm_berth (n : Nat) (c : Strm) : (s.setStrm n c).berth = s.berth := rfl
@[simp] theorem State.setStrm_mode (n : Nat) (c : Strm) : (s.setStrm n c).mode = s.mode := rfl
@[simp] theorem State.setStrm_sup (n : Nat) (c : Strm) : (s.setStrm n c).sup = s.sup := rfl
@[simp] theorem State.setStrm_sw (n : Nat) (c : Strm) : (s.setStrm n c).sw = s.sw := rfl
@[simp] theorem State.setStrm_fl (n : Nat) (c : Strm) : (s.setStrm n c).fl = s.fl := rfl
@[simp] theorem State.setStrm_boll (n : Nat) (c : Strm) : (s.setStrm n c).boll = s.boll := rfl
@[simp] theorem State.setStrm_tide (n : Nat) (c : Strm) : (s.setStrm n c).tide = s.tide := rfl
@[simp] theorem State.setStrm_inj (n : Nat) (c : Strm) : (s.setStrm n c).inj = s.inj := rfl
@[simp] theorem State.setStrm_led (n : Nat) (c : Strm) : (s.setStrm n c).led = s.led := rfl
@[simp] theorem State.setStrm_leds (n : Nat) (c : Strm) : (s.setStrm n c).leds = s.leds := rfl
@[simp] theorem State.setStrm_dio (n : Nat) (c : Strm) : (s.setStrm n c).dio = s.dio := rfl
@[simp] theorem State.setStrm_cal (n : Nat) (c : Strm) : (s.setStrm n c).cal = s.cal := rfl
@[simp] theorem State.setStrm_od (n : Nat) (c : Strm) : (s.setStrm n c).od = s.od := rfl
@[simp] theorem State.setStrm_can (n : Nat) (c : Strm) : (s.setStrm n c).can = s.can := rfl
@[simp] theorem State.setStrm_eth (n : Nat) (c : Strm) : (s.setStrm n c).eth = s.eth := rfl
@[simp] theorem State.setStrm_gwy (n : Nat) (c : Strm) : (s.setStrm n c).gwy = s.gwy := rfl
@[simp] theorem State.setStrm_nm (n : Nat) (c : Strm) : (s.setStrm n c).nm = s.nm := rfl
@[simp] theorem State.setStrm_acc (n : Nat) (c : Strm) : (s.setStrm n c).acc = s.acc := rfl
@[simp] theorem State.setStrm_cust (n : Nat) (c : Strm) : (s.setStrm n c).cust = s.cust := rfl
@[simp] theorem State.setStrm_upd (n : Nat) (c : Strm) : (s.setStrm n c).upd = s.upd := rfl
@[simp] theorem State.setStrm_free (n : Nat) (c : Strm) : (s.setStrm n c).free = s.free := rfl
@[simp] theorem State.setStrm_pending (n : Nat) (c : Strm) : (s.setStrm n c).pending = s.pending := rfl

@[simp] theorem State.setByte_now (a : Nat) (v : Byte) : (s.setByte a v).now = s.now := rfl
@[simp] theorem State.setByte_regs (a : Nat) (v : Byte) : (s.setByte a v).regs = s.regs := rfl
@[simp] theorem State.setByte_jnl (a : Nat) (v : Byte) : (s.setByte a v).jnl = s.jnl := rfl
@[simp] theorem State.setByte_bus (a : Nat) (v : Byte) : (s.setByte a v).bus = s.bus := rfl
@[simp] theorem State.setByte_clk (a : Nat) (v : Byte) : (s.setByte a v).clk = s.clk := rfl
@[simp] theorem State.setByte_pins (a : Nat) (v : Byte) : (s.setByte a v).pins = s.pins := rfl
@[simp] theorem State.setByte_plate (a : Nat) (v : Byte) : (s.setByte a v).plate = s.plate := rfl
@[simp] theorem State.setByte_berth (a : Nat) (v : Byte) : (s.setByte a v).berth = s.berth := rfl
@[simp] theorem State.setByte_mode (a : Nat) (v : Byte) : (s.setByte a v).mode = s.mode := rfl
@[simp] theorem State.setByte_sup (a : Nat) (v : Byte) : (s.setByte a v).sup = s.sup := rfl
@[simp] theorem State.setByte_sw (a : Nat) (v : Byte) : (s.setByte a v).sw = s.sw := rfl
@[simp] theorem State.setByte_fl (a : Nat) (v : Byte) : (s.setByte a v).fl = s.fl := rfl
@[simp] theorem State.setByte_boll (a : Nat) (v : Byte) : (s.setByte a v).boll = s.boll := rfl
@[simp] theorem State.setByte_tide (a : Nat) (v : Byte) : (s.setByte a v).tide = s.tide := rfl
@[simp] theorem State.setByte_eve (a : Nat) (v : Byte) : (s.setByte a v).eve = s.eve := rfl
@[simp] theorem State.setByte_inj (a : Nat) (v : Byte) : (s.setByte a v).inj = s.inj := rfl
@[simp] theorem State.setByte_led (a : Nat) (v : Byte) : (s.setByte a v).led = s.led := rfl
@[simp] theorem State.setByte_leds (a : Nat) (v : Byte) : (s.setByte a v).leds = s.leds := rfl
@[simp] theorem State.setByte_dio (a : Nat) (v : Byte) : (s.setByte a v).dio = s.dio := rfl
@[simp] theorem State.setByte_cal (a : Nat) (v : Byte) : (s.setByte a v).cal = s.cal := rfl
@[simp] theorem State.setByte_od (a : Nat) (v : Byte) : (s.setByte a v).od = s.od := rfl
@[simp] theorem State.setByte_can (a : Nat) (v : Byte) : (s.setByte a v).can = s.can := rfl
@[simp] theorem State.setByte_eth (a : Nat) (v : Byte) : (s.setByte a v).eth = s.eth := rfl
@[simp] theorem State.setByte_gwy (a : Nat) (v : Byte) : (s.setByte a v).gwy = s.gwy := rfl
@[simp] theorem State.setByte_nm (a : Nat) (v : Byte) : (s.setByte a v).nm = s.nm := rfl
@[simp] theorem State.setByte_acc (a : Nat) (v : Byte) : (s.setByte a v).acc = s.acc := rfl
@[simp] theorem State.setByte_cust (a : Nat) (v : Byte) : (s.setByte a v).cust = s.cust := rfl
@[simp] theorem State.setByte_upd (a : Nat) (v : Byte) : (s.setByte a v).upd = s.upd := rfl
@[simp] theorem State.setByte_free (a : Nat) (v : Byte) : (s.setByte a v).free = s.free := rfl
@[simp] theorem State.setByte_pending (a : Nat) (v : Byte) : (s.setByte a v).pending = s.pending := rfl

@[simp] theorem State.erase_now (lo hi : Nat) : (s.erase lo hi).now = s.now := rfl
@[simp] theorem State.erase_regs (lo hi : Nat) : (s.erase lo hi).regs = s.regs := rfl
@[simp] theorem State.erase_jnl (lo hi : Nat) : (s.erase lo hi).jnl = s.jnl := rfl
@[simp] theorem State.erase_bus (lo hi : Nat) : (s.erase lo hi).bus = s.bus := rfl
@[simp] theorem State.erase_clk (lo hi : Nat) : (s.erase lo hi).clk = s.clk := rfl
@[simp] theorem State.erase_pins (lo hi : Nat) : (s.erase lo hi).pins = s.pins := rfl
@[simp] theorem State.erase_plate (lo hi : Nat) : (s.erase lo hi).plate = s.plate := rfl
@[simp] theorem State.erase_berth (lo hi : Nat) : (s.erase lo hi).berth = s.berth := rfl
@[simp] theorem State.erase_mode (lo hi : Nat) : (s.erase lo hi).mode = s.mode := rfl
@[simp] theorem State.erase_sup (lo hi : Nat) : (s.erase lo hi).sup = s.sup := rfl
@[simp] theorem State.erase_sw (lo hi : Nat) : (s.erase lo hi).sw = s.sw := rfl
@[simp] theorem State.erase_fl (lo hi : Nat) : (s.erase lo hi).fl = s.fl := rfl
@[simp] theorem State.erase_boll (lo hi : Nat) : (s.erase lo hi).boll = s.boll := rfl
@[simp] theorem State.erase_tide (lo hi : Nat) : (s.erase lo hi).tide = s.tide := rfl
@[simp] theorem State.erase_eve (lo hi : Nat) : (s.erase lo hi).eve = s.eve := rfl
@[simp] theorem State.erase_inj (lo hi : Nat) : (s.erase lo hi).inj = s.inj := rfl
@[simp] theorem State.erase_led (lo hi : Nat) : (s.erase lo hi).led = s.led := rfl
@[simp] theorem State.erase_leds (lo hi : Nat) : (s.erase lo hi).leds = s.leds := rfl
@[simp] theorem State.erase_dio (lo hi : Nat) : (s.erase lo hi).dio = s.dio := rfl
@[simp] theorem State.erase_cal (lo hi : Nat) : (s.erase lo hi).cal = s.cal := rfl
@[simp] theorem State.erase_od (lo hi : Nat) : (s.erase lo hi).od = s.od := rfl
@[simp] theorem State.erase_can (lo hi : Nat) : (s.erase lo hi).can = s.can := rfl
@[simp] theorem State.erase_eth (lo hi : Nat) : (s.erase lo hi).eth = s.eth := rfl
@[simp] theorem State.erase_gwy (lo hi : Nat) : (s.erase lo hi).gwy = s.gwy := rfl
@[simp] theorem State.erase_nm (lo hi : Nat) : (s.erase lo hi).nm = s.nm := rfl
@[simp] theorem State.erase_acc (lo hi : Nat) : (s.erase lo hi).acc = s.acc := rfl
@[simp] theorem State.erase_cust (lo hi : Nat) : (s.erase lo hi).cust = s.cust := rfl
@[simp] theorem State.erase_upd (lo hi : Nat) : (s.erase lo hi).upd = s.upd := rfl
@[simp] theorem State.erase_free (lo hi : Nat) : (s.erase lo hi).free = s.free := rfl
@[simp] theorem State.erase_pending (lo hi : Nat) : (s.erase lo hi).pending = s.pending := rfl

@[simp] theorem State.advanceTo_regs (t : Nat) : (s.advanceTo t).regs = s.regs := rfl
@[simp] theorem State.advanceTo_mem (t : Nat) : (s.advanceTo t).mem = s.mem := rfl
@[simp] theorem State.advanceTo_jnl (t : Nat) : (s.advanceTo t).jnl = s.jnl := rfl
@[simp] theorem State.advanceTo_bus (t : Nat) : (s.advanceTo t).bus = s.bus := rfl
@[simp] theorem State.advanceTo_clk (t : Nat) : (s.advanceTo t).clk = s.clk := rfl
@[simp] theorem State.advanceTo_pins (t : Nat) : (s.advanceTo t).pins = s.pins := rfl
@[simp] theorem State.advanceTo_plate (t : Nat) : (s.advanceTo t).plate = s.plate := rfl
@[simp] theorem State.advanceTo_berth (t : Nat) : (s.advanceTo t).berth = s.berth := rfl
@[simp] theorem State.advanceTo_mode (t : Nat) : (s.advanceTo t).mode = s.mode := rfl
@[simp] theorem State.advanceTo_sup (t : Nat) : (s.advanceTo t).sup = s.sup := rfl
@[simp] theorem State.advanceTo_sw (t : Nat) : (s.advanceTo t).sw = s.sw := rfl
@[simp] theorem State.advanceTo_fl (t : Nat) : (s.advanceTo t).fl = s.fl := rfl
@[simp] theorem State.advanceTo_boll (t : Nat) : (s.advanceTo t).boll = s.boll := rfl
@[simp] theorem State.advanceTo_tide (t : Nat) : (s.advanceTo t).tide = s.tide := rfl
@[simp] theorem State.advanceTo_eve (t : Nat) : (s.advanceTo t).eve = s.eve := rfl
@[simp] theorem State.advanceTo_inj (t : Nat) : (s.advanceTo t).inj = s.inj := rfl
@[simp] theorem State.advanceTo_led (t : Nat) : (s.advanceTo t).led = s.led := rfl
@[simp] theorem State.advanceTo_leds (t : Nat) : (s.advanceTo t).leds = s.leds := rfl
@[simp] theorem State.advanceTo_dio (t : Nat) : (s.advanceTo t).dio = s.dio := rfl
@[simp] theorem State.advanceTo_cal (t : Nat) : (s.advanceTo t).cal = s.cal := rfl
@[simp] theorem State.advanceTo_od (t : Nat) : (s.advanceTo t).od = s.od := rfl
@[simp] theorem State.advanceTo_can (t : Nat) : (s.advanceTo t).can = s.can := rfl
@[simp] theorem State.advanceTo_eth (t : Nat) : (s.advanceTo t).eth = s.eth := rfl
@[simp] theorem State.advanceTo_gwy (t : Nat) : (s.advanceTo t).gwy = s.gwy := rfl
@[simp] theorem State.advanceTo_nm (t : Nat) : (s.advanceTo t).nm = s.nm := rfl
@[simp] theorem State.advanceTo_acc (t : Nat) : (s.advanceTo t).acc = s.acc := rfl
@[simp] theorem State.advanceTo_cust (t : Nat) : (s.advanceTo t).cust = s.cust := rfl
@[simp] theorem State.advanceTo_upd (t : Nat) : (s.advanceTo t).upd = s.upd := rfl
@[simp] theorem State.advanceTo_free (t : Nat) : (s.advanceTo t).free = s.free := rfl
@[simp] theorem State.advanceTo_pending (t : Nat) : (s.advanceTo t).pending = s.pending := rfl

@[simp] theorem State.setSafe_now (u : SafeUnit) (b : Bool) : (s.setSafe u b).now = s.now := rfl
@[simp] theorem State.setSafe_regs (u : SafeUnit) (b : Bool) : (s.setSafe u b).regs = s.regs := rfl
@[simp] theorem State.setSafe_mem (u : SafeUnit) (b : Bool) : (s.setSafe u b).mem = s.mem := rfl
@[simp] theorem State.setSafe_jnl (u : SafeUnit) (b : Bool) : (s.setSafe u b).jnl = s.jnl := rfl
@[simp] theorem State.setSafe_clk (u : SafeUnit) (b : Bool) : (s.setSafe u b).clk = s.clk := rfl
@[simp] theorem State.setSafe_pins (u : SafeUnit) (b : Bool) : (s.setSafe u b).pins = s.pins := rfl
@[simp] theorem State.setSafe_plate (u : SafeUnit) (b : Bool) : (s.setSafe u b).plate = s.plate := rfl
@[simp] theorem State.setSafe_berth (u : SafeUnit) (b : Bool) : (s.setSafe u b).berth = s.berth := rfl
@[simp] theorem State.setSafe_mode (u : SafeUnit) (b : Bool) : (s.setSafe u b).mode = s.mode := rfl
@[simp] theorem State.setSafe_sup (u : SafeUnit) (b : Bool) : (s.setSafe u b).sup = s.sup := rfl
@[simp] theorem State.setSafe_sw (u : SafeUnit) (b : Bool) : (s.setSafe u b).sw = s.sw := rfl
@[simp] theorem State.setSafe_fl (u : SafeUnit) (b : Bool) : (s.setSafe u b).fl = s.fl := rfl
@[simp] theorem State.setSafe_boll (u : SafeUnit) (b : Bool) : (s.setSafe u b).boll = s.boll := rfl
@[simp] theorem State.setSafe_tide (u : SafeUnit) (b : Bool) : (s.setSafe u b).tide = s.tide := rfl
@[simp] theorem State.setSafe_eve (u : SafeUnit) (b : Bool) : (s.setSafe u b).eve = s.eve := rfl
@[simp] theorem State.setSafe_inj (u : SafeUnit) (b : Bool) : (s.setSafe u b).inj = s.inj := rfl
@[simp] theorem State.setSafe_led (u : SafeUnit) (b : Bool) : (s.setSafe u b).led = s.led := rfl
@[simp] theorem State.setSafe_leds (u : SafeUnit) (b : Bool) : (s.setSafe u b).leds = s.leds := rfl
@[simp] theorem State.setSafe_dio (u : SafeUnit) (b : Bool) : (s.setSafe u b).dio = s.dio := rfl
@[simp] theorem State.setSafe_cal (u : SafeUnit) (b : Bool) : (s.setSafe u b).cal = s.cal := rfl
@[simp] theorem State.setSafe_od (u : SafeUnit) (b : Bool) : (s.setSafe u b).od = s.od := rfl
@[simp] theorem State.setSafe_can (u : SafeUnit) (b : Bool) : (s.setSafe u b).can = s.can := rfl
@[simp] theorem State.setSafe_eth (u : SafeUnit) (b : Bool) : (s.setSafe u b).eth = s.eth := rfl
@[simp] theorem State.setSafe_gwy (u : SafeUnit) (b : Bool) : (s.setSafe u b).gwy = s.gwy := rfl
@[simp] theorem State.setSafe_nm (u : SafeUnit) (b : Bool) : (s.setSafe u b).nm = s.nm := rfl
@[simp] theorem State.setSafe_acc (u : SafeUnit) (b : Bool) : (s.setSafe u b).acc = s.acc := rfl
@[simp] theorem State.setSafe_cust (u : SafeUnit) (b : Bool) : (s.setSafe u b).cust = s.cust := rfl
@[simp] theorem State.setSafe_upd (u : SafeUnit) (b : Bool) : (s.setSafe u b).upd = s.upd := rfl
@[simp] theorem State.setSafe_free (u : SafeUnit) (b : Bool) : (s.setSafe u b).free = s.free := rfl
@[simp] theorem State.setSafe_pending (u : SafeUnit) (b : Bool) : (s.setSafe u b).pending = s.pending := rfl

@[simp] theorem State.setJnl_now (x : JnlSt) : (s.setJnl x).now = s.now := rfl
@[simp] theorem State.setJnl_regs (x : JnlSt) : (s.setJnl x).regs = s.regs := rfl
@[simp] theorem State.setJnl_mem (x : JnlSt) : (s.setJnl x).mem = s.mem := rfl
@[simp] theorem State.setJnl_jnl (x : JnlSt) : (s.setJnl x).jnl = x := rfl
@[simp] theorem State.setJnl_bus (x : JnlSt) : (s.setJnl x).bus = s.bus := rfl
@[simp] theorem State.setJnl_clk (x : JnlSt) : (s.setJnl x).clk = s.clk := rfl
@[simp] theorem State.setJnl_pins (x : JnlSt) : (s.setJnl x).pins = s.pins := rfl
@[simp] theorem State.setJnl_plate (x : JnlSt) : (s.setJnl x).plate = s.plate := rfl
@[simp] theorem State.setJnl_berth (x : JnlSt) : (s.setJnl x).berth = s.berth := rfl
@[simp] theorem State.setJnl_mode (x : JnlSt) : (s.setJnl x).mode = s.mode := rfl
@[simp] theorem State.setJnl_sup (x : JnlSt) : (s.setJnl x).sup = s.sup := rfl
@[simp] theorem State.setJnl_sw (x : JnlSt) : (s.setJnl x).sw = s.sw := rfl
@[simp] theorem State.setJnl_fl (x : JnlSt) : (s.setJnl x).fl = s.fl := rfl
@[simp] theorem State.setJnl_boll (x : JnlSt) : (s.setJnl x).boll = s.boll := rfl
@[simp] theorem State.setJnl_tide (x : JnlSt) : (s.setJnl x).tide = s.tide := rfl
@[simp] theorem State.setJnl_eve (x : JnlSt) : (s.setJnl x).eve = s.eve := rfl
@[simp] theorem State.setJnl_inj (x : JnlSt) : (s.setJnl x).inj = s.inj := rfl
@[simp] theorem State.setJnl_led (x : JnlSt) : (s.setJnl x).led = s.led := rfl
@[simp] theorem State.setJnl_leds (x : JnlSt) : (s.setJnl x).leds = s.leds := rfl
@[simp] theorem State.setJnl_dio (x : JnlSt) : (s.setJnl x).dio = s.dio := rfl
@[simp] theorem State.setJnl_cal (x : JnlSt) : (s.setJnl x).cal = s.cal := rfl
@[simp] theorem State.setJnl_od (x : JnlSt) : (s.setJnl x).od = s.od := rfl
@[simp] theorem State.setJnl_can (x : JnlSt) : (s.setJnl x).can = s.can := rfl
@[simp] theorem State.setJnl_eth (x : JnlSt) : (s.setJnl x).eth = s.eth := rfl
@[simp] theorem State.setJnl_gwy (x : JnlSt) : (s.setJnl x).gwy = s.gwy := rfl
@[simp] theorem State.setJnl_nm (x : JnlSt) : (s.setJnl x).nm = s.nm := rfl
@[simp] theorem State.setJnl_acc (x : JnlSt) : (s.setJnl x).acc = s.acc := rfl
@[simp] theorem State.setJnl_cust (x : JnlSt) : (s.setJnl x).cust = s.cust := rfl
@[simp] theorem State.setJnl_upd (x : JnlSt) : (s.setJnl x).upd = s.upd := rfl
@[simp] theorem State.setJnl_free (x : JnlSt) : (s.setJnl x).free = s.free := rfl
@[simp] theorem State.setJnl_pending (x : JnlSt) : (s.setJnl x).pending = s.pending := rfl

@[simp] theorem State.setGwy_now (x : GwySt) : (s.setGwy x).now = s.now := rfl
@[simp] theorem State.setGwy_regs (x : GwySt) : (s.setGwy x).regs = s.regs := rfl
@[simp] theorem State.setGwy_mem (x : GwySt) : (s.setGwy x).mem = s.mem := rfl
@[simp] theorem State.setGwy_jnl (x : GwySt) : (s.setGwy x).jnl = s.jnl := rfl
@[simp] theorem State.setGwy_bus (x : GwySt) : (s.setGwy x).bus = s.bus := rfl
@[simp] theorem State.setGwy_clk (x : GwySt) : (s.setGwy x).clk = s.clk := rfl
@[simp] theorem State.setGwy_pins (x : GwySt) : (s.setGwy x).pins = s.pins := rfl
@[simp] theorem State.setGwy_plate (x : GwySt) : (s.setGwy x).plate = s.plate := rfl
@[simp] theorem State.setGwy_berth (x : GwySt) : (s.setGwy x).berth = s.berth := rfl
@[simp] theorem State.setGwy_mode (x : GwySt) : (s.setGwy x).mode = s.mode := rfl
@[simp] theorem State.setGwy_sup (x : GwySt) : (s.setGwy x).sup = s.sup := rfl
@[simp] theorem State.setGwy_sw (x : GwySt) : (s.setGwy x).sw = s.sw := rfl
@[simp] theorem State.setGwy_fl (x : GwySt) : (s.setGwy x).fl = s.fl := rfl
@[simp] theorem State.setGwy_boll (x : GwySt) : (s.setGwy x).boll = s.boll := rfl
@[simp] theorem State.setGwy_tide (x : GwySt) : (s.setGwy x).tide = s.tide := rfl
@[simp] theorem State.setGwy_eve (x : GwySt) : (s.setGwy x).eve = s.eve := rfl
@[simp] theorem State.setGwy_inj (x : GwySt) : (s.setGwy x).inj = s.inj := rfl
@[simp] theorem State.setGwy_led (x : GwySt) : (s.setGwy x).led = s.led := rfl
@[simp] theorem State.setGwy_leds (x : GwySt) : (s.setGwy x).leds = s.leds := rfl
@[simp] theorem State.setGwy_dio (x : GwySt) : (s.setGwy x).dio = s.dio := rfl
@[simp] theorem State.setGwy_cal (x : GwySt) : (s.setGwy x).cal = s.cal := rfl
@[simp] theorem State.setGwy_od (x : GwySt) : (s.setGwy x).od = s.od := rfl
@[simp] theorem State.setGwy_can (x : GwySt) : (s.setGwy x).can = s.can := rfl
@[simp] theorem State.setGwy_eth (x : GwySt) : (s.setGwy x).eth = s.eth := rfl
@[simp] theorem State.setGwy_gwy (x : GwySt) : (s.setGwy x).gwy = x := rfl
@[simp] theorem State.setGwy_nm (x : GwySt) : (s.setGwy x).nm = s.nm := rfl
@[simp] theorem State.setGwy_acc (x : GwySt) : (s.setGwy x).acc = s.acc := rfl
@[simp] theorem State.setGwy_cust (x : GwySt) : (s.setGwy x).cust = s.cust := rfl
@[simp] theorem State.setGwy_upd (x : GwySt) : (s.setGwy x).upd = s.upd := rfl
@[simp] theorem State.setGwy_free (x : GwySt) : (s.setGwy x).free = s.free := rfl
@[simp] theorem State.setGwy_pending (x : GwySt) : (s.setGwy x).pending = s.pending := rfl

@[simp] theorem State.setNm_now (x : NmSt) : (s.setNm x).now = s.now := rfl
@[simp] theorem State.setNm_regs (x : NmSt) : (s.setNm x).regs = s.regs := rfl
@[simp] theorem State.setNm_mem (x : NmSt) : (s.setNm x).mem = s.mem := rfl
@[simp] theorem State.setNm_jnl (x : NmSt) : (s.setNm x).jnl = s.jnl := rfl
@[simp] theorem State.setNm_bus (x : NmSt) : (s.setNm x).bus = s.bus := rfl
@[simp] theorem State.setNm_clk (x : NmSt) : (s.setNm x).clk = s.clk := rfl
@[simp] theorem State.setNm_pins (x : NmSt) : (s.setNm x).pins = s.pins := rfl
@[simp] theorem State.setNm_plate (x : NmSt) : (s.setNm x).plate = s.plate := rfl
@[simp] theorem State.setNm_berth (x : NmSt) : (s.setNm x).berth = s.berth := rfl
@[simp] theorem State.setNm_mode (x : NmSt) : (s.setNm x).mode = s.mode := rfl
@[simp] theorem State.setNm_sup (x : NmSt) : (s.setNm x).sup = s.sup := rfl
@[simp] theorem State.setNm_sw (x : NmSt) : (s.setNm x).sw = s.sw := rfl
@[simp] theorem State.setNm_fl (x : NmSt) : (s.setNm x).fl = s.fl := rfl
@[simp] theorem State.setNm_boll (x : NmSt) : (s.setNm x).boll = s.boll := rfl
@[simp] theorem State.setNm_tide (x : NmSt) : (s.setNm x).tide = s.tide := rfl
@[simp] theorem State.setNm_eve (x : NmSt) : (s.setNm x).eve = s.eve := rfl
@[simp] theorem State.setNm_inj (x : NmSt) : (s.setNm x).inj = s.inj := rfl
@[simp] theorem State.setNm_led (x : NmSt) : (s.setNm x).led = s.led := rfl
@[simp] theorem State.setNm_leds (x : NmSt) : (s.setNm x).leds = s.leds := rfl
@[simp] theorem State.setNm_dio (x : NmSt) : (s.setNm x).dio = s.dio := rfl
@[simp] theorem State.setNm_cal (x : NmSt) : (s.setNm x).cal = s.cal := rfl
@[simp] theorem State.setNm_od (x : NmSt) : (s.setNm x).od = s.od := rfl
@[simp] theorem State.setNm_can (x : NmSt) : (s.setNm x).can = s.can := rfl
@[simp] theorem State.setNm_eth (x : NmSt) : (s.setNm x).eth = s.eth := rfl
@[simp] theorem State.setNm_gwy (x : NmSt) : (s.setNm x).gwy = s.gwy := rfl
@[simp] theorem State.setNm_nm (x : NmSt) : (s.setNm x).nm = x := rfl
@[simp] theorem State.setNm_acc (x : NmSt) : (s.setNm x).acc = s.acc := rfl
@[simp] theorem State.setNm_cust (x : NmSt) : (s.setNm x).cust = s.cust := rfl
@[simp] theorem State.setNm_upd (x : NmSt) : (s.setNm x).upd = s.upd := rfl
@[simp] theorem State.setNm_free (x : NmSt) : (s.setNm x).free = s.free := rfl
@[simp] theorem State.setNm_pending (x : NmSt) : (s.setNm x).pending = s.pending := rfl

@[simp] theorem State.setTide_now (x : TideSt) : (s.setTide x).now = s.now := rfl
@[simp] theorem State.setTide_regs (x : TideSt) : (s.setTide x).regs = s.regs := rfl
@[simp] theorem State.setTide_mem (x : TideSt) : (s.setTide x).mem = s.mem := rfl
@[simp] theorem State.setTide_jnl (x : TideSt) : (s.setTide x).jnl = s.jnl := rfl
@[simp] theorem State.setTide_bus (x : TideSt) : (s.setTide x).bus = s.bus := rfl
@[simp] theorem State.setTide_clk (x : TideSt) : (s.setTide x).clk = s.clk := rfl
@[simp] theorem State.setTide_pins (x : TideSt) : (s.setTide x).pins = s.pins := rfl
@[simp] theorem State.setTide_plate (x : TideSt) : (s.setTide x).plate = s.plate := rfl
@[simp] theorem State.setTide_berth (x : TideSt) : (s.setTide x).berth = s.berth := rfl
@[simp] theorem State.setTide_mode (x : TideSt) : (s.setTide x).mode = s.mode := rfl
@[simp] theorem State.setTide_sup (x : TideSt) : (s.setTide x).sup = s.sup := rfl
@[simp] theorem State.setTide_sw (x : TideSt) : (s.setTide x).sw = s.sw := rfl
@[simp] theorem State.setTide_fl (x : TideSt) : (s.setTide x).fl = s.fl := rfl
@[simp] theorem State.setTide_boll (x : TideSt) : (s.setTide x).boll = s.boll := rfl
@[simp] theorem State.setTide_tide (x : TideSt) : (s.setTide x).tide = x := rfl
@[simp] theorem State.setTide_eve (x : TideSt) : (s.setTide x).eve = s.eve := rfl
@[simp] theorem State.setTide_inj (x : TideSt) : (s.setTide x).inj = s.inj := rfl
@[simp] theorem State.setTide_led (x : TideSt) : (s.setTide x).led = s.led := rfl
@[simp] theorem State.setTide_leds (x : TideSt) : (s.setTide x).leds = s.leds := rfl
@[simp] theorem State.setTide_dio (x : TideSt) : (s.setTide x).dio = s.dio := rfl
@[simp] theorem State.setTide_cal (x : TideSt) : (s.setTide x).cal = s.cal := rfl
@[simp] theorem State.setTide_od (x : TideSt) : (s.setTide x).od = s.od := rfl
@[simp] theorem State.setTide_can (x : TideSt) : (s.setTide x).can = s.can := rfl
@[simp] theorem State.setTide_eth (x : TideSt) : (s.setTide x).eth = s.eth := rfl
@[simp] theorem State.setTide_gwy (x : TideSt) : (s.setTide x).gwy = s.gwy := rfl
@[simp] theorem State.setTide_nm (x : TideSt) : (s.setTide x).nm = s.nm := rfl
@[simp] theorem State.setTide_acc (x : TideSt) : (s.setTide x).acc = s.acc := rfl
@[simp] theorem State.setTide_cust (x : TideSt) : (s.setTide x).cust = s.cust := rfl
@[simp] theorem State.setTide_upd (x : TideSt) : (s.setTide x).upd = s.upd := rfl
@[simp] theorem State.setTide_free (x : TideSt) : (s.setTide x).free = s.free := rfl
@[simp] theorem State.setTide_pending (x : TideSt) : (s.setTide x).pending = s.pending := rfl

@[simp] theorem State.setBus_now (x : BusSt) : (s.setBus x).now = s.now := rfl
@[simp] theorem State.setBus_regs (x : BusSt) : (s.setBus x).regs = s.regs := rfl
@[simp] theorem State.setBus_mem (x : BusSt) : (s.setBus x).mem = s.mem := rfl
@[simp] theorem State.setBus_jnl (x : BusSt) : (s.setBus x).jnl = s.jnl := rfl
@[simp] theorem State.setBus_bus (x : BusSt) : (s.setBus x).bus = x := rfl
@[simp] theorem State.setBus_clk (x : BusSt) : (s.setBus x).clk = s.clk := rfl
@[simp] theorem State.setBus_pins (x : BusSt) : (s.setBus x).pins = s.pins := rfl
@[simp] theorem State.setBus_plate (x : BusSt) : (s.setBus x).plate = s.plate := rfl
@[simp] theorem State.setBus_berth (x : BusSt) : (s.setBus x).berth = s.berth := rfl
@[simp] theorem State.setBus_mode (x : BusSt) : (s.setBus x).mode = s.mode := rfl
@[simp] theorem State.setBus_sup (x : BusSt) : (s.setBus x).sup = s.sup := rfl
@[simp] theorem State.setBus_sw (x : BusSt) : (s.setBus x).sw = s.sw := rfl
@[simp] theorem State.setBus_fl (x : BusSt) : (s.setBus x).fl = s.fl := rfl
@[simp] theorem State.setBus_boll (x : BusSt) : (s.setBus x).boll = s.boll := rfl
@[simp] theorem State.setBus_tide (x : BusSt) : (s.setBus x).tide = s.tide := rfl
@[simp] theorem State.setBus_eve (x : BusSt) : (s.setBus x).eve = s.eve := rfl
@[simp] theorem State.setBus_inj (x : BusSt) : (s.setBus x).inj = s.inj := rfl
@[simp] theorem State.setBus_led (x : BusSt) : (s.setBus x).led = s.led := rfl
@[simp] theorem State.setBus_leds (x : BusSt) : (s.setBus x).leds = s.leds := rfl
@[simp] theorem State.setBus_dio (x : BusSt) : (s.setBus x).dio = s.dio := rfl
@[simp] theorem State.setBus_cal (x : BusSt) : (s.setBus x).cal = s.cal := rfl
@[simp] theorem State.setBus_od (x : BusSt) : (s.setBus x).od = s.od := rfl
@[simp] theorem State.setBus_can (x : BusSt) : (s.setBus x).can = s.can := rfl
@[simp] theorem State.setBus_eth (x : BusSt) : (s.setBus x).eth = s.eth := rfl
@[simp] theorem State.setBus_gwy (x : BusSt) : (s.setBus x).gwy = s.gwy := rfl
@[simp] theorem State.setBus_nm (x : BusSt) : (s.setBus x).nm = s.nm := rfl
@[simp] theorem State.setBus_acc (x : BusSt) : (s.setBus x).acc = s.acc := rfl
@[simp] theorem State.setBus_cust (x : BusSt) : (s.setBus x).cust = s.cust := rfl
@[simp] theorem State.setBus_upd (x : BusSt) : (s.setBus x).upd = s.upd := rfl
@[simp] theorem State.setBus_free (x : BusSt) : (s.setBus x).free = s.free := rfl
@[simp] theorem State.setBus_pending (x : BusSt) : (s.setBus x).pending = s.pending := rfl

@[simp] theorem State.setBerth_now (x : BerthSt) : (s.setBerth x).now = s.now := rfl
@[simp] theorem State.setBerth_regs (x : BerthSt) : (s.setBerth x).regs = s.regs := rfl
@[simp] theorem State.setBerth_mem (x : BerthSt) : (s.setBerth x).mem = s.mem := rfl
@[simp] theorem State.setBerth_jnl (x : BerthSt) : (s.setBerth x).jnl = s.jnl := rfl
@[simp] theorem State.setBerth_bus (x : BerthSt) : (s.setBerth x).bus = s.bus := rfl
@[simp] theorem State.setBerth_clk (x : BerthSt) : (s.setBerth x).clk = s.clk := rfl
@[simp] theorem State.setBerth_pins (x : BerthSt) : (s.setBerth x).pins = s.pins := rfl
@[simp] theorem State.setBerth_plate (x : BerthSt) : (s.setBerth x).plate = s.plate := rfl
@[simp] theorem State.setBerth_berth (x : BerthSt) : (s.setBerth x).berth = x := rfl
@[simp] theorem State.setBerth_mode (x : BerthSt) : (s.setBerth x).mode = s.mode := rfl
@[simp] theorem State.setBerth_sup (x : BerthSt) : (s.setBerth x).sup = s.sup := rfl
@[simp] theorem State.setBerth_sw (x : BerthSt) : (s.setBerth x).sw = s.sw := rfl
@[simp] theorem State.setBerth_fl (x : BerthSt) : (s.setBerth x).fl = s.fl := rfl
@[simp] theorem State.setBerth_boll (x : BerthSt) : (s.setBerth x).boll = s.boll := rfl
@[simp] theorem State.setBerth_tide (x : BerthSt) : (s.setBerth x).tide = s.tide := rfl
@[simp] theorem State.setBerth_eve (x : BerthSt) : (s.setBerth x).eve = s.eve := rfl
@[simp] theorem State.setBerth_inj (x : BerthSt) : (s.setBerth x).inj = s.inj := rfl
@[simp] theorem State.setBerth_led (x : BerthSt) : (s.setBerth x).led = s.led := rfl
@[simp] theorem State.setBerth_leds (x : BerthSt) : (s.setBerth x).leds = s.leds := rfl
@[simp] theorem State.setBerth_dio (x : BerthSt) : (s.setBerth x).dio = s.dio := rfl
@[simp] theorem State.setBerth_cal (x : BerthSt) : (s.setBerth x).cal = s.cal := rfl
@[simp] theorem State.setBerth_od (x : BerthSt) : (s.setBerth x).od = s.od := rfl
@[simp] theorem State.setBerth_can (x : BerthSt) : (s.setBerth x).can = s.can := rfl
@[simp] theorem State.setBerth_eth (x : BerthSt) : (s.setBerth x).eth = s.eth := rfl
@[simp] theorem State.setBerth_gwy (x : BerthSt) : (s.setBerth x).gwy = s.gwy := rfl
@[simp] theorem State.setBerth_nm (x : BerthSt) : (s.setBerth x).nm = s.nm := rfl
@[simp] theorem State.setBerth_acc (x : BerthSt) : (s.setBerth x).acc = s.acc := rfl
@[simp] theorem State.setBerth_cust (x : BerthSt) : (s.setBerth x).cust = s.cust := rfl
@[simp] theorem State.setBerth_upd (x : BerthSt) : (s.setBerth x).upd = s.upd := rfl
@[simp] theorem State.setBerth_free (x : BerthSt) : (s.setBerth x).free = s.free := rfl
@[simp] theorem State.setBerth_pending (x : BerthSt) : (s.setBerth x).pending = s.pending := rfl

@[simp] theorem State.setBoll_now (x : BollSt) : (s.setBoll x).now = s.now := rfl
@[simp] theorem State.setBoll_regs (x : BollSt) : (s.setBoll x).regs = s.regs := rfl
@[simp] theorem State.setBoll_mem (x : BollSt) : (s.setBoll x).mem = s.mem := rfl
@[simp] theorem State.setBoll_jnl (x : BollSt) : (s.setBoll x).jnl = s.jnl := rfl
@[simp] theorem State.setBoll_bus (x : BollSt) : (s.setBoll x).bus = s.bus := rfl
@[simp] theorem State.setBoll_clk (x : BollSt) : (s.setBoll x).clk = s.clk := rfl
@[simp] theorem State.setBoll_pins (x : BollSt) : (s.setBoll x).pins = s.pins := rfl
@[simp] theorem State.setBoll_plate (x : BollSt) : (s.setBoll x).plate = s.plate := rfl
@[simp] theorem State.setBoll_berth (x : BollSt) : (s.setBoll x).berth = s.berth := rfl
@[simp] theorem State.setBoll_mode (x : BollSt) : (s.setBoll x).mode = s.mode := rfl
@[simp] theorem State.setBoll_sup (x : BollSt) : (s.setBoll x).sup = s.sup := rfl
@[simp] theorem State.setBoll_sw (x : BollSt) : (s.setBoll x).sw = s.sw := rfl
@[simp] theorem State.setBoll_fl (x : BollSt) : (s.setBoll x).fl = s.fl := rfl
@[simp] theorem State.setBoll_boll (x : BollSt) : (s.setBoll x).boll = x := rfl
@[simp] theorem State.setBoll_tide (x : BollSt) : (s.setBoll x).tide = s.tide := rfl
@[simp] theorem State.setBoll_eve (x : BollSt) : (s.setBoll x).eve = s.eve := rfl
@[simp] theorem State.setBoll_inj (x : BollSt) : (s.setBoll x).inj = s.inj := rfl
@[simp] theorem State.setBoll_led (x : BollSt) : (s.setBoll x).led = s.led := rfl
@[simp] theorem State.setBoll_leds (x : BollSt) : (s.setBoll x).leds = s.leds := rfl
@[simp] theorem State.setBoll_dio (x : BollSt) : (s.setBoll x).dio = s.dio := rfl
@[simp] theorem State.setBoll_cal (x : BollSt) : (s.setBoll x).cal = s.cal := rfl
@[simp] theorem State.setBoll_od (x : BollSt) : (s.setBoll x).od = s.od := rfl
@[simp] theorem State.setBoll_can (x : BollSt) : (s.setBoll x).can = s.can := rfl
@[simp] theorem State.setBoll_eth (x : BollSt) : (s.setBoll x).eth = s.eth := rfl
@[simp] theorem State.setBoll_gwy (x : BollSt) : (s.setBoll x).gwy = s.gwy := rfl
@[simp] theorem State.setBoll_nm (x : BollSt) : (s.setBoll x).nm = s.nm := rfl
@[simp] theorem State.setBoll_acc (x : BollSt) : (s.setBoll x).acc = s.acc := rfl
@[simp] theorem State.setBoll_cust (x : BollSt) : (s.setBoll x).cust = s.cust := rfl
@[simp] theorem State.setBoll_upd (x : BollSt) : (s.setBoll x).upd = s.upd := rfl
@[simp] theorem State.setBoll_free (x : BollSt) : (s.setBoll x).free = s.free := rfl
@[simp] theorem State.setBoll_pending (x : BollSt) : (s.setBoll x).pending = s.pending := rfl

@[simp] theorem State.setCal_now (x : CalSt) : (s.setCal x).now = s.now := rfl
@[simp] theorem State.setCal_regs (x : CalSt) : (s.setCal x).regs = s.regs := rfl
@[simp] theorem State.setCal_mem (x : CalSt) : (s.setCal x).mem = s.mem := rfl
@[simp] theorem State.setCal_jnl (x : CalSt) : (s.setCal x).jnl = s.jnl := rfl
@[simp] theorem State.setCal_bus (x : CalSt) : (s.setCal x).bus = s.bus := rfl
@[simp] theorem State.setCal_clk (x : CalSt) : (s.setCal x).clk = s.clk := rfl
@[simp] theorem State.setCal_pins (x : CalSt) : (s.setCal x).pins = s.pins := rfl
@[simp] theorem State.setCal_plate (x : CalSt) : (s.setCal x).plate = s.plate := rfl
@[simp] theorem State.setCal_berth (x : CalSt) : (s.setCal x).berth = s.berth := rfl
@[simp] theorem State.setCal_mode (x : CalSt) : (s.setCal x).mode = s.mode := rfl
@[simp] theorem State.setCal_sup (x : CalSt) : (s.setCal x).sup = s.sup := rfl
@[simp] theorem State.setCal_sw (x : CalSt) : (s.setCal x).sw = s.sw := rfl
@[simp] theorem State.setCal_fl (x : CalSt) : (s.setCal x).fl = s.fl := rfl
@[simp] theorem State.setCal_boll (x : CalSt) : (s.setCal x).boll = s.boll := rfl
@[simp] theorem State.setCal_tide (x : CalSt) : (s.setCal x).tide = s.tide := rfl
@[simp] theorem State.setCal_eve (x : CalSt) : (s.setCal x).eve = s.eve := rfl
@[simp] theorem State.setCal_inj (x : CalSt) : (s.setCal x).inj = s.inj := rfl
@[simp] theorem State.setCal_led (x : CalSt) : (s.setCal x).led = s.led := rfl
@[simp] theorem State.setCal_leds (x : CalSt) : (s.setCal x).leds = s.leds := rfl
@[simp] theorem State.setCal_dio (x : CalSt) : (s.setCal x).dio = s.dio := rfl
@[simp] theorem State.setCal_cal (x : CalSt) : (s.setCal x).cal = x := rfl
@[simp] theorem State.setCal_od (x : CalSt) : (s.setCal x).od = s.od := rfl
@[simp] theorem State.setCal_can (x : CalSt) : (s.setCal x).can = s.can := rfl
@[simp] theorem State.setCal_eth (x : CalSt) : (s.setCal x).eth = s.eth := rfl
@[simp] theorem State.setCal_gwy (x : CalSt) : (s.setCal x).gwy = s.gwy := rfl
@[simp] theorem State.setCal_nm (x : CalSt) : (s.setCal x).nm = s.nm := rfl
@[simp] theorem State.setCal_acc (x : CalSt) : (s.setCal x).acc = s.acc := rfl
@[simp] theorem State.setCal_cust (x : CalSt) : (s.setCal x).cust = s.cust := rfl
@[simp] theorem State.setCal_upd (x : CalSt) : (s.setCal x).upd = s.upd := rfl
@[simp] theorem State.setCal_free (x : CalSt) : (s.setCal x).free = s.free := rfl
@[simp] theorem State.setCal_pending (x : CalSt) : (s.setCal x).pending = s.pending := rfl

@[simp] theorem State.setDio_now (x : DioSt) : (s.setDio x).now = s.now := rfl
@[simp] theorem State.setDio_regs (x : DioSt) : (s.setDio x).regs = s.regs := rfl
@[simp] theorem State.setDio_mem (x : DioSt) : (s.setDio x).mem = s.mem := rfl
@[simp] theorem State.setDio_jnl (x : DioSt) : (s.setDio x).jnl = s.jnl := rfl
@[simp] theorem State.setDio_bus (x : DioSt) : (s.setDio x).bus = s.bus := rfl
@[simp] theorem State.setDio_clk (x : DioSt) : (s.setDio x).clk = s.clk := rfl
@[simp] theorem State.setDio_pins (x : DioSt) : (s.setDio x).pins = s.pins := rfl
@[simp] theorem State.setDio_plate (x : DioSt) : (s.setDio x).plate = s.plate := rfl
@[simp] theorem State.setDio_berth (x : DioSt) : (s.setDio x).berth = s.berth := rfl
@[simp] theorem State.setDio_mode (x : DioSt) : (s.setDio x).mode = s.mode := rfl
@[simp] theorem State.setDio_sup (x : DioSt) : (s.setDio x).sup = s.sup := rfl
@[simp] theorem State.setDio_sw (x : DioSt) : (s.setDio x).sw = s.sw := rfl
@[simp] theorem State.setDio_fl (x : DioSt) : (s.setDio x).fl = s.fl := rfl
@[simp] theorem State.setDio_boll (x : DioSt) : (s.setDio x).boll = s.boll := rfl
@[simp] theorem State.setDio_tide (x : DioSt) : (s.setDio x).tide = s.tide := rfl
@[simp] theorem State.setDio_eve (x : DioSt) : (s.setDio x).eve = s.eve := rfl
@[simp] theorem State.setDio_inj (x : DioSt) : (s.setDio x).inj = s.inj := rfl
@[simp] theorem State.setDio_led (x : DioSt) : (s.setDio x).led = s.led := rfl
@[simp] theorem State.setDio_leds (x : DioSt) : (s.setDio x).leds = s.leds := rfl
@[simp] theorem State.setDio_dio (x : DioSt) : (s.setDio x).dio = x := rfl
@[simp] theorem State.setDio_cal (x : DioSt) : (s.setDio x).cal = s.cal := rfl
@[simp] theorem State.setDio_od (x : DioSt) : (s.setDio x).od = s.od := rfl
@[simp] theorem State.setDio_can (x : DioSt) : (s.setDio x).can = s.can := rfl
@[simp] theorem State.setDio_eth (x : DioSt) : (s.setDio x).eth = s.eth := rfl
@[simp] theorem State.setDio_gwy (x : DioSt) : (s.setDio x).gwy = s.gwy := rfl
@[simp] theorem State.setDio_nm (x : DioSt) : (s.setDio x).nm = s.nm := rfl
@[simp] theorem State.setDio_acc (x : DioSt) : (s.setDio x).acc = s.acc := rfl
@[simp] theorem State.setDio_cust (x : DioSt) : (s.setDio x).cust = s.cust := rfl
@[simp] theorem State.setDio_upd (x : DioSt) : (s.setDio x).upd = s.upd := rfl
@[simp] theorem State.setDio_free (x : DioSt) : (s.setDio x).free = s.free := rfl
@[simp] theorem State.setDio_pending (x : DioSt) : (s.setDio x).pending = s.pending := rfl

@[simp] theorem State.setEth_now (x : EthSt) : (s.setEth x).now = s.now := rfl
@[simp] theorem State.setEth_regs (x : EthSt) : (s.setEth x).regs = s.regs := rfl
@[simp] theorem State.setEth_mem (x : EthSt) : (s.setEth x).mem = s.mem := rfl
@[simp] theorem State.setEth_jnl (x : EthSt) : (s.setEth x).jnl = s.jnl := rfl
@[simp] theorem State.setEth_bus (x : EthSt) : (s.setEth x).bus = s.bus := rfl
@[simp] theorem State.setEth_clk (x : EthSt) : (s.setEth x).clk = s.clk := rfl
@[simp] theorem State.setEth_pins (x : EthSt) : (s.setEth x).pins = s.pins := rfl
@[simp] theorem State.setEth_plate (x : EthSt) : (s.setEth x).plate = s.plate := rfl
@[simp] theorem State.setEth_berth (x : EthSt) : (s.setEth x).berth = s.berth := rfl
@[simp] theorem State.setEth_mode (x : EthSt) : (s.setEth x).mode = s.mode := rfl
@[simp] theorem State.setEth_sup (x : EthSt) : (s.setEth x).sup = s.sup := rfl
@[simp] theorem State.setEth_sw (x : EthSt) : (s.setEth x).sw = s.sw := rfl
@[simp] theorem State.setEth_fl (x : EthSt) : (s.setEth x).fl = s.fl := rfl
@[simp] theorem State.setEth_boll (x : EthSt) : (s.setEth x).boll = s.boll := rfl
@[simp] theorem State.setEth_tide (x : EthSt) : (s.setEth x).tide = s.tide := rfl
@[simp] theorem State.setEth_eve (x : EthSt) : (s.setEth x).eve = s.eve := rfl
@[simp] theorem State.setEth_inj (x : EthSt) : (s.setEth x).inj = s.inj := rfl
@[simp] theorem State.setEth_led (x : EthSt) : (s.setEth x).led = s.led := rfl
@[simp] theorem State.setEth_leds (x : EthSt) : (s.setEth x).leds = s.leds := rfl
@[simp] theorem State.setEth_dio (x : EthSt) : (s.setEth x).dio = s.dio := rfl
@[simp] theorem State.setEth_cal (x : EthSt) : (s.setEth x).cal = s.cal := rfl
@[simp] theorem State.setEth_od (x : EthSt) : (s.setEth x).od = s.od := rfl
@[simp] theorem State.setEth_can (x : EthSt) : (s.setEth x).can = s.can := rfl
@[simp] theorem State.setEth_eth (x : EthSt) : (s.setEth x).eth = x := rfl
@[simp] theorem State.setEth_gwy (x : EthSt) : (s.setEth x).gwy = s.gwy := rfl
@[simp] theorem State.setEth_nm (x : EthSt) : (s.setEth x).nm = s.nm := rfl
@[simp] theorem State.setEth_acc (x : EthSt) : (s.setEth x).acc = s.acc := rfl
@[simp] theorem State.setEth_cust (x : EthSt) : (s.setEth x).cust = s.cust := rfl
@[simp] theorem State.setEth_upd (x : EthSt) : (s.setEth x).upd = s.upd := rfl
@[simp] theorem State.setEth_free (x : EthSt) : (s.setEth x).free = s.free := rfl
@[simp] theorem State.setEth_pending (x : EthSt) : (s.setEth x).pending = s.pending := rfl

@[simp] theorem State.setEve_now (x : EveSt) : (s.setEve x).now = s.now := rfl
@[simp] theorem State.setEve_regs (x : EveSt) : (s.setEve x).regs = s.regs := rfl
@[simp] theorem State.setEve_mem (x : EveSt) : (s.setEve x).mem = s.mem := rfl
@[simp] theorem State.setEve_jnl (x : EveSt) : (s.setEve x).jnl = s.jnl := rfl
@[simp] theorem State.setEve_bus (x : EveSt) : (s.setEve x).bus = s.bus := rfl
@[simp] theorem State.setEve_clk (x : EveSt) : (s.setEve x).clk = s.clk := rfl
@[simp] theorem State.setEve_pins (x : EveSt) : (s.setEve x).pins = s.pins := rfl
@[simp] theorem State.setEve_plate (x : EveSt) : (s.setEve x).plate = s.plate := rfl
@[simp] theorem State.setEve_berth (x : EveSt) : (s.setEve x).berth = s.berth := rfl
@[simp] theorem State.setEve_mode (x : EveSt) : (s.setEve x).mode = s.mode := rfl
@[simp] theorem State.setEve_sup (x : EveSt) : (s.setEve x).sup = s.sup := rfl
@[simp] theorem State.setEve_sw (x : EveSt) : (s.setEve x).sw = s.sw := rfl
@[simp] theorem State.setEve_fl (x : EveSt) : (s.setEve x).fl = s.fl := rfl
@[simp] theorem State.setEve_boll (x : EveSt) : (s.setEve x).boll = s.boll := rfl
@[simp] theorem State.setEve_tide (x : EveSt) : (s.setEve x).tide = s.tide := rfl
@[simp] theorem State.setEve_eve (x : EveSt) : (s.setEve x).eve = x := rfl
@[simp] theorem State.setEve_inj (x : EveSt) : (s.setEve x).inj = s.inj := rfl
@[simp] theorem State.setEve_led (x : EveSt) : (s.setEve x).led = s.led := rfl
@[simp] theorem State.setEve_leds (x : EveSt) : (s.setEve x).leds = s.leds := rfl
@[simp] theorem State.setEve_dio (x : EveSt) : (s.setEve x).dio = s.dio := rfl
@[simp] theorem State.setEve_cal (x : EveSt) : (s.setEve x).cal = s.cal := rfl
@[simp] theorem State.setEve_od (x : EveSt) : (s.setEve x).od = s.od := rfl
@[simp] theorem State.setEve_can (x : EveSt) : (s.setEve x).can = s.can := rfl
@[simp] theorem State.setEve_eth (x : EveSt) : (s.setEve x).eth = s.eth := rfl
@[simp] theorem State.setEve_gwy (x : EveSt) : (s.setEve x).gwy = s.gwy := rfl
@[simp] theorem State.setEve_nm (x : EveSt) : (s.setEve x).nm = s.nm := rfl
@[simp] theorem State.setEve_acc (x : EveSt) : (s.setEve x).acc = s.acc := rfl
@[simp] theorem State.setEve_cust (x : EveSt) : (s.setEve x).cust = s.cust := rfl
@[simp] theorem State.setEve_upd (x : EveSt) : (s.setEve x).upd = s.upd := rfl
@[simp] theorem State.setEve_free (x : EveSt) : (s.setEve x).free = s.free := rfl
@[simp] theorem State.setEve_pending (x : EveSt) : (s.setEve x).pending = s.pending := rfl

@[simp] theorem State.setSup_now (x : SupSt) : (s.setSup x).now = s.now := rfl
@[simp] theorem State.setSup_regs (x : SupSt) : (s.setSup x).regs = s.regs := rfl
@[simp] theorem State.setSup_mem (x : SupSt) : (s.setSup x).mem = s.mem := rfl
@[simp] theorem State.setSup_jnl (x : SupSt) : (s.setSup x).jnl = s.jnl := rfl
@[simp] theorem State.setSup_bus (x : SupSt) : (s.setSup x).bus = s.bus := rfl
@[simp] theorem State.setSup_clk (x : SupSt) : (s.setSup x).clk = s.clk := rfl
@[simp] theorem State.setSup_pins (x : SupSt) : (s.setSup x).pins = s.pins := rfl
@[simp] theorem State.setSup_plate (x : SupSt) : (s.setSup x).plate = s.plate := rfl
@[simp] theorem State.setSup_berth (x : SupSt) : (s.setSup x).berth = s.berth := rfl
@[simp] theorem State.setSup_mode (x : SupSt) : (s.setSup x).mode = s.mode := rfl
@[simp] theorem State.setSup_sup (x : SupSt) : (s.setSup x).sup = x := rfl
@[simp] theorem State.setSup_sw (x : SupSt) : (s.setSup x).sw = s.sw := rfl
@[simp] theorem State.setSup_fl (x : SupSt) : (s.setSup x).fl = s.fl := rfl
@[simp] theorem State.setSup_boll (x : SupSt) : (s.setSup x).boll = s.boll := rfl
@[simp] theorem State.setSup_tide (x : SupSt) : (s.setSup x).tide = s.tide := rfl
@[simp] theorem State.setSup_eve (x : SupSt) : (s.setSup x).eve = s.eve := rfl
@[simp] theorem State.setSup_inj (x : SupSt) : (s.setSup x).inj = s.inj := rfl
@[simp] theorem State.setSup_led (x : SupSt) : (s.setSup x).led = s.led := rfl
@[simp] theorem State.setSup_leds (x : SupSt) : (s.setSup x).leds = s.leds := rfl
@[simp] theorem State.setSup_dio (x : SupSt) : (s.setSup x).dio = s.dio := rfl
@[simp] theorem State.setSup_cal (x : SupSt) : (s.setSup x).cal = s.cal := rfl
@[simp] theorem State.setSup_od (x : SupSt) : (s.setSup x).od = s.od := rfl
@[simp] theorem State.setSup_can (x : SupSt) : (s.setSup x).can = s.can := rfl
@[simp] theorem State.setSup_eth (x : SupSt) : (s.setSup x).eth = s.eth := rfl
@[simp] theorem State.setSup_gwy (x : SupSt) : (s.setSup x).gwy = s.gwy := rfl
@[simp] theorem State.setSup_nm (x : SupSt) : (s.setSup x).nm = s.nm := rfl
@[simp] theorem State.setSup_acc (x : SupSt) : (s.setSup x).acc = s.acc := rfl
@[simp] theorem State.setSup_cust (x : SupSt) : (s.setSup x).cust = s.cust := rfl
@[simp] theorem State.setSup_upd (x : SupSt) : (s.setSup x).upd = s.upd := rfl
@[simp] theorem State.setSup_free (x : SupSt) : (s.setSup x).free = s.free := rfl
@[simp] theorem State.setSup_pending (x : SupSt) : (s.setSup x).pending = s.pending := rfl

@[simp] theorem State.setOd_now (x : OdSt) : (s.setOd x).now = s.now := rfl
@[simp] theorem State.setOd_regs (x : OdSt) : (s.setOd x).regs = s.regs := rfl
@[simp] theorem State.setOd_mem (x : OdSt) : (s.setOd x).mem = s.mem := rfl
@[simp] theorem State.setOd_jnl (x : OdSt) : (s.setOd x).jnl = s.jnl := rfl
@[simp] theorem State.setOd_bus (x : OdSt) : (s.setOd x).bus = s.bus := rfl
@[simp] theorem State.setOd_clk (x : OdSt) : (s.setOd x).clk = s.clk := rfl
@[simp] theorem State.setOd_pins (x : OdSt) : (s.setOd x).pins = s.pins := rfl
@[simp] theorem State.setOd_plate (x : OdSt) : (s.setOd x).plate = s.plate := rfl
@[simp] theorem State.setOd_berth (x : OdSt) : (s.setOd x).berth = s.berth := rfl
@[simp] theorem State.setOd_mode (x : OdSt) : (s.setOd x).mode = s.mode := rfl
@[simp] theorem State.setOd_sup (x : OdSt) : (s.setOd x).sup = s.sup := rfl
@[simp] theorem State.setOd_sw (x : OdSt) : (s.setOd x).sw = s.sw := rfl
@[simp] theorem State.setOd_fl (x : OdSt) : (s.setOd x).fl = s.fl := rfl
@[simp] theorem State.setOd_boll (x : OdSt) : (s.setOd x).boll = s.boll := rfl
@[simp] theorem State.setOd_tide (x : OdSt) : (s.setOd x).tide = s.tide := rfl
@[simp] theorem State.setOd_eve (x : OdSt) : (s.setOd x).eve = s.eve := rfl
@[simp] theorem State.setOd_inj (x : OdSt) : (s.setOd x).inj = s.inj := rfl
@[simp] theorem State.setOd_led (x : OdSt) : (s.setOd x).led = s.led := rfl
@[simp] theorem State.setOd_leds (x : OdSt) : (s.setOd x).leds = s.leds := rfl
@[simp] theorem State.setOd_dio (x : OdSt) : (s.setOd x).dio = s.dio := rfl
@[simp] theorem State.setOd_cal (x : OdSt) : (s.setOd x).cal = s.cal := rfl
@[simp] theorem State.setOd_od (x : OdSt) : (s.setOd x).od = x := rfl
@[simp] theorem State.setOd_can (x : OdSt) : (s.setOd x).can = s.can := rfl
@[simp] theorem State.setOd_eth (x : OdSt) : (s.setOd x).eth = s.eth := rfl
@[simp] theorem State.setOd_gwy (x : OdSt) : (s.setOd x).gwy = s.gwy := rfl
@[simp] theorem State.setOd_nm (x : OdSt) : (s.setOd x).nm = s.nm := rfl
@[simp] theorem State.setOd_acc (x : OdSt) : (s.setOd x).acc = s.acc := rfl
@[simp] theorem State.setOd_cust (x : OdSt) : (s.setOd x).cust = s.cust := rfl
@[simp] theorem State.setOd_upd (x : OdSt) : (s.setOd x).upd = s.upd := rfl
@[simp] theorem State.setOd_free (x : OdSt) : (s.setOd x).free = s.free := rfl
@[simp] theorem State.setOd_pending (x : OdSt) : (s.setOd x).pending = s.pending := rfl

@[simp] theorem State.setAcc_now (x : AccSt) : (s.setAcc x).now = s.now := rfl
@[simp] theorem State.setAcc_regs (x : AccSt) : (s.setAcc x).regs = s.regs := rfl
@[simp] theorem State.setAcc_mem (x : AccSt) : (s.setAcc x).mem = s.mem := rfl
@[simp] theorem State.setAcc_jnl (x : AccSt) : (s.setAcc x).jnl = s.jnl := rfl
@[simp] theorem State.setAcc_bus (x : AccSt) : (s.setAcc x).bus = s.bus := rfl
@[simp] theorem State.setAcc_clk (x : AccSt) : (s.setAcc x).clk = s.clk := rfl
@[simp] theorem State.setAcc_pins (x : AccSt) : (s.setAcc x).pins = s.pins := rfl
@[simp] theorem State.setAcc_plate (x : AccSt) : (s.setAcc x).plate = s.plate := rfl
@[simp] theorem State.setAcc_berth (x : AccSt) : (s.setAcc x).berth = s.berth := rfl
@[simp] theorem State.setAcc_mode (x : AccSt) : (s.setAcc x).mode = s.mode := rfl
@[simp] theorem State.setAcc_sup (x : AccSt) : (s.setAcc x).sup = s.sup := rfl
@[simp] theorem State.setAcc_sw (x : AccSt) : (s.setAcc x).sw = s.sw := rfl
@[simp] theorem State.setAcc_fl (x : AccSt) : (s.setAcc x).fl = s.fl := rfl
@[simp] theorem State.setAcc_boll (x : AccSt) : (s.setAcc x).boll = s.boll := rfl
@[simp] theorem State.setAcc_tide (x : AccSt) : (s.setAcc x).tide = s.tide := rfl
@[simp] theorem State.setAcc_eve (x : AccSt) : (s.setAcc x).eve = s.eve := rfl
@[simp] theorem State.setAcc_inj (x : AccSt) : (s.setAcc x).inj = s.inj := rfl
@[simp] theorem State.setAcc_led (x : AccSt) : (s.setAcc x).led = s.led := rfl
@[simp] theorem State.setAcc_leds (x : AccSt) : (s.setAcc x).leds = s.leds := rfl
@[simp] theorem State.setAcc_dio (x : AccSt) : (s.setAcc x).dio = s.dio := rfl
@[simp] theorem State.setAcc_cal (x : AccSt) : (s.setAcc x).cal = s.cal := rfl
@[simp] theorem State.setAcc_od (x : AccSt) : (s.setAcc x).od = s.od := rfl
@[simp] theorem State.setAcc_can (x : AccSt) : (s.setAcc x).can = s.can := rfl
@[simp] theorem State.setAcc_eth (x : AccSt) : (s.setAcc x).eth = s.eth := rfl
@[simp] theorem State.setAcc_gwy (x : AccSt) : (s.setAcc x).gwy = s.gwy := rfl
@[simp] theorem State.setAcc_nm (x : AccSt) : (s.setAcc x).nm = s.nm := rfl
@[simp] theorem State.setAcc_acc (x : AccSt) : (s.setAcc x).acc = x := rfl
@[simp] theorem State.setAcc_cust (x : AccSt) : (s.setAcc x).cust = s.cust := rfl
@[simp] theorem State.setAcc_upd (x : AccSt) : (s.setAcc x).upd = s.upd := rfl
@[simp] theorem State.setAcc_free (x : AccSt) : (s.setAcc x).free = s.free := rfl
@[simp] theorem State.setAcc_pending (x : AccSt) : (s.setAcc x).pending = s.pending := rfl

@[simp] theorem State.setCust_now (x : CustSt) : (s.setCust x).now = s.now := rfl
@[simp] theorem State.setCust_regs (x : CustSt) : (s.setCust x).regs = s.regs := rfl
@[simp] theorem State.setCust_mem (x : CustSt) : (s.setCust x).mem = s.mem := rfl
@[simp] theorem State.setCust_jnl (x : CustSt) : (s.setCust x).jnl = s.jnl := rfl
@[simp] theorem State.setCust_bus (x : CustSt) : (s.setCust x).bus = s.bus := rfl
@[simp] theorem State.setCust_clk (x : CustSt) : (s.setCust x).clk = s.clk := rfl
@[simp] theorem State.setCust_pins (x : CustSt) : (s.setCust x).pins = s.pins := rfl
@[simp] theorem State.setCust_plate (x : CustSt) : (s.setCust x).plate = s.plate := rfl
@[simp] theorem State.setCust_berth (x : CustSt) : (s.setCust x).berth = s.berth := rfl
@[simp] theorem State.setCust_mode (x : CustSt) : (s.setCust x).mode = s.mode := rfl
@[simp] theorem State.setCust_sup (x : CustSt) : (s.setCust x).sup = s.sup := rfl
@[simp] theorem State.setCust_sw (x : CustSt) : (s.setCust x).sw = s.sw := rfl
@[simp] theorem State.setCust_fl (x : CustSt) : (s.setCust x).fl = s.fl := rfl
@[simp] theorem State.setCust_boll (x : CustSt) : (s.setCust x).boll = s.boll := rfl
@[simp] theorem State.setCust_tide (x : CustSt) : (s.setCust x).tide = s.tide := rfl
@[simp] theorem State.setCust_eve (x : CustSt) : (s.setCust x).eve = s.eve := rfl
@[simp] theorem State.setCust_inj (x : CustSt) : (s.setCust x).inj = s.inj := rfl
@[simp] theorem State.setCust_led (x : CustSt) : (s.setCust x).led = s.led := rfl
@[simp] theorem State.setCust_leds (x : CustSt) : (s.setCust x).leds = s.leds := rfl
@[simp] theorem State.setCust_dio (x : CustSt) : (s.setCust x).dio = s.dio := rfl
@[simp] theorem State.setCust_cal (x : CustSt) : (s.setCust x).cal = s.cal := rfl
@[simp] theorem State.setCust_od (x : CustSt) : (s.setCust x).od = s.od := rfl
@[simp] theorem State.setCust_can (x : CustSt) : (s.setCust x).can = s.can := rfl
@[simp] theorem State.setCust_eth (x : CustSt) : (s.setCust x).eth = s.eth := rfl
@[simp] theorem State.setCust_gwy (x : CustSt) : (s.setCust x).gwy = s.gwy := rfl
@[simp] theorem State.setCust_nm (x : CustSt) : (s.setCust x).nm = s.nm := rfl
@[simp] theorem State.setCust_acc (x : CustSt) : (s.setCust x).acc = s.acc := rfl
@[simp] theorem State.setCust_cust (x : CustSt) : (s.setCust x).cust = x := rfl
@[simp] theorem State.setCust_upd (x : CustSt) : (s.setCust x).upd = s.upd := rfl
@[simp] theorem State.setCust_free (x : CustSt) : (s.setCust x).free = s.free := rfl
@[simp] theorem State.setCust_pending (x : CustSt) : (s.setCust x).pending = s.pending := rfl

@[simp] theorem State.setUpd_now (x : UpdSt) : (s.setUpd x).now = s.now := rfl
@[simp] theorem State.setUpd_regs (x : UpdSt) : (s.setUpd x).regs = s.regs := rfl
@[simp] theorem State.setUpd_mem (x : UpdSt) : (s.setUpd x).mem = s.mem := rfl
@[simp] theorem State.setUpd_jnl (x : UpdSt) : (s.setUpd x).jnl = s.jnl := rfl
@[simp] theorem State.setUpd_bus (x : UpdSt) : (s.setUpd x).bus = s.bus := rfl
@[simp] theorem State.setUpd_clk (x : UpdSt) : (s.setUpd x).clk = s.clk := rfl
@[simp] theorem State.setUpd_pins (x : UpdSt) : (s.setUpd x).pins = s.pins := rfl
@[simp] theorem State.setUpd_plate (x : UpdSt) : (s.setUpd x).plate = s.plate := rfl
@[simp] theorem State.setUpd_berth (x : UpdSt) : (s.setUpd x).berth = s.berth := rfl
@[simp] theorem State.setUpd_mode (x : UpdSt) : (s.setUpd x).mode = s.mode := rfl
@[simp] theorem State.setUpd_sup (x : UpdSt) : (s.setUpd x).sup = s.sup := rfl
@[simp] theorem State.setUpd_sw (x : UpdSt) : (s.setUpd x).sw = s.sw := rfl
@[simp] theorem State.setUpd_fl (x : UpdSt) : (s.setUpd x).fl = s.fl := rfl
@[simp] theorem State.setUpd_boll (x : UpdSt) : (s.setUpd x).boll = s.boll := rfl
@[simp] theorem State.setUpd_tide (x : UpdSt) : (s.setUpd x).tide = s.tide := rfl
@[simp] theorem State.setUpd_eve (x : UpdSt) : (s.setUpd x).eve = s.eve := rfl
@[simp] theorem State.setUpd_inj (x : UpdSt) : (s.setUpd x).inj = s.inj := rfl
@[simp] theorem State.setUpd_led (x : UpdSt) : (s.setUpd x).led = s.led := rfl
@[simp] theorem State.setUpd_leds (x : UpdSt) : (s.setUpd x).leds = s.leds := rfl
@[simp] theorem State.setUpd_dio (x : UpdSt) : (s.setUpd x).dio = s.dio := rfl
@[simp] theorem State.setUpd_cal (x : UpdSt) : (s.setUpd x).cal = s.cal := rfl
@[simp] theorem State.setUpd_od (x : UpdSt) : (s.setUpd x).od = s.od := rfl
@[simp] theorem State.setUpd_can (x : UpdSt) : (s.setUpd x).can = s.can := rfl
@[simp] theorem State.setUpd_eth (x : UpdSt) : (s.setUpd x).eth = s.eth := rfl
@[simp] theorem State.setUpd_gwy (x : UpdSt) : (s.setUpd x).gwy = s.gwy := rfl
@[simp] theorem State.setUpd_nm (x : UpdSt) : (s.setUpd x).nm = s.nm := rfl
@[simp] theorem State.setUpd_acc (x : UpdSt) : (s.setUpd x).acc = s.acc := rfl
@[simp] theorem State.setUpd_cust (x : UpdSt) : (s.setUpd x).cust = s.cust := rfl
@[simp] theorem State.setUpd_upd (x : UpdSt) : (s.setUpd x).upd = x := rfl
@[simp] theorem State.setUpd_free (x : UpdSt) : (s.setUpd x).free = s.free := rfl
@[simp] theorem State.setUpd_pending (x : UpdSt) : (s.setUpd x).pending = s.pending := rfl

@[simp] theorem State.ledTick_now : (s.ledTick).now = s.now := rfl
@[simp] theorem State.ledTick_regs : (s.ledTick).regs = s.regs := rfl
@[simp] theorem State.ledTick_mem : (s.ledTick).mem = s.mem := rfl
@[simp] theorem State.ledTick_jnl : (s.ledTick).jnl = s.jnl := rfl
@[simp] theorem State.ledTick_bus : (s.ledTick).bus = s.bus := rfl
@[simp] theorem State.ledTick_clk : (s.ledTick).clk = s.clk := rfl
@[simp] theorem State.ledTick_pins : (s.ledTick).pins = s.pins := rfl
@[simp] theorem State.ledTick_plate : (s.ledTick).plate = s.plate := rfl
@[simp] theorem State.ledTick_berth : (s.ledTick).berth = s.berth := rfl
@[simp] theorem State.ledTick_mode : (s.ledTick).mode = s.mode := rfl
@[simp] theorem State.ledTick_sup : (s.ledTick).sup = s.sup := rfl
@[simp] theorem State.ledTick_sw : (s.ledTick).sw = s.sw := rfl
@[simp] theorem State.ledTick_fl : (s.ledTick).fl = s.fl := rfl
@[simp] theorem State.ledTick_boll : (s.ledTick).boll = s.boll := rfl
@[simp] theorem State.ledTick_tide : (s.ledTick).tide = s.tide := rfl
@[simp] theorem State.ledTick_eve : (s.ledTick).eve = s.eve := rfl
@[simp] theorem State.ledTick_inj : (s.ledTick).inj = s.inj := rfl
@[simp] theorem State.ledTick_led : (s.ledTick).led = s.led := rfl
@[simp] theorem State.ledTick_dio : (s.ledTick).dio = s.dio := rfl
@[simp] theorem State.ledTick_cal : (s.ledTick).cal = s.cal := rfl
@[simp] theorem State.ledTick_od : (s.ledTick).od = s.od := rfl
@[simp] theorem State.ledTick_can : (s.ledTick).can = s.can := rfl
@[simp] theorem State.ledTick_eth : (s.ledTick).eth = s.eth := rfl
@[simp] theorem State.ledTick_gwy : (s.ledTick).gwy = s.gwy := rfl
@[simp] theorem State.ledTick_nm : (s.ledTick).nm = s.nm := rfl
@[simp] theorem State.ledTick_acc : (s.ledTick).acc = s.acc := rfl
@[simp] theorem State.ledTick_cust : (s.ledTick).cust = s.cust := rfl
@[simp] theorem State.ledTick_upd : (s.ledTick).upd = s.upd := rfl
@[simp] theorem State.ledTick_free : (s.ledTick).free = s.free := rfl
@[simp] theorem State.ledTick_pending : (s.ledTick).pending = s.pending := rfl

@[simp] theorem State.setHs_now (b : Nat) (x : HighSide) : (s.setHs b x).now = s.now := rfl
@[simp] theorem State.setHs_regs (b : Nat) (x : HighSide) : (s.setHs b x).regs = s.regs := rfl
@[simp] theorem State.setHs_mem (b : Nat) (x : HighSide) : (s.setHs b x).mem = s.mem := rfl
@[simp] theorem State.setHs_jnl (b : Nat) (x : HighSide) : (s.setHs b x).jnl = s.jnl := rfl
@[simp] theorem State.setHs_bus (b : Nat) (x : HighSide) : (s.setHs b x).bus = s.bus := rfl
@[simp] theorem State.setHs_clk (b : Nat) (x : HighSide) : (s.setHs b x).clk = s.clk := rfl
@[simp] theorem State.setHs_pins (b : Nat) (x : HighSide) : (s.setHs b x).pins = s.pins := rfl
@[simp] theorem State.setHs_plate (b : Nat) (x : HighSide) : (s.setHs b x).plate = s.plate := rfl
@[simp] theorem State.setHs_berth (b : Nat) (x : HighSide) : (s.setHs b x).berth = s.berth := rfl
@[simp] theorem State.setHs_mode (b : Nat) (x : HighSide) : (s.setHs b x).mode = s.mode := rfl
@[simp] theorem State.setHs_sup (b : Nat) (x : HighSide) : (s.setHs b x).sup = s.sup := rfl
@[simp] theorem State.setHs_sw (b : Nat) (x : HighSide) : (s.setHs b x).sw = s.sw := rfl
@[simp] theorem State.setHs_fl (b : Nat) (x : HighSide) : (s.setHs b x).fl = s.fl := rfl
@[simp] theorem State.setHs_boll (b : Nat) (x : HighSide) : (s.setHs b x).boll = s.boll := rfl
@[simp] theorem State.setHs_tide (b : Nat) (x : HighSide) : (s.setHs b x).tide = s.tide := rfl
@[simp] theorem State.setHs_eve (b : Nat) (x : HighSide) : (s.setHs b x).eve = s.eve := rfl
@[simp] theorem State.setHs_led (b : Nat) (x : HighSide) : (s.setHs b x).led = s.led := rfl
@[simp] theorem State.setHs_leds (b : Nat) (x : HighSide) : (s.setHs b x).leds = s.leds := rfl
@[simp] theorem State.setHs_dio (b : Nat) (x : HighSide) : (s.setHs b x).dio = s.dio := rfl
@[simp] theorem State.setHs_cal (b : Nat) (x : HighSide) : (s.setHs b x).cal = s.cal := rfl
@[simp] theorem State.setHs_od (b : Nat) (x : HighSide) : (s.setHs b x).od = s.od := rfl
@[simp] theorem State.setHs_can (b : Nat) (x : HighSide) : (s.setHs b x).can = s.can := rfl
@[simp] theorem State.setHs_eth (b : Nat) (x : HighSide) : (s.setHs b x).eth = s.eth := rfl
@[simp] theorem State.setHs_gwy (b : Nat) (x : HighSide) : (s.setHs b x).gwy = s.gwy := rfl
@[simp] theorem State.setHs_nm (b : Nat) (x : HighSide) : (s.setHs b x).nm = s.nm := rfl
@[simp] theorem State.setHs_acc (b : Nat) (x : HighSide) : (s.setHs b x).acc = s.acc := rfl
@[simp] theorem State.setHs_cust (b : Nat) (x : HighSide) : (s.setHs b x).cust = s.cust := rfl
@[simp] theorem State.setHs_upd (b : Nat) (x : HighSide) : (s.setHs b x).upd = s.upd := rfl
@[simp] theorem State.setHs_free (b : Nat) (x : HighSide) : (s.setHs b x).free = s.free := rfl
@[simp] theorem State.setHs_pending (b : Nat) (x : HighSide) : (s.setHs b x).pending = s.pending := rfl

@[simp] theorem State.sleepEnds_now : (s.sleepEnds).now = s.now := rfl
@[simp] theorem State.sleepEnds_regs : (s.sleepEnds).regs = s.regs := rfl
@[simp] theorem State.sleepEnds_mem : (s.sleepEnds).mem = s.mem := rfl
@[simp] theorem State.sleepEnds_jnl : (s.sleepEnds).jnl = s.jnl := rfl
@[simp] theorem State.sleepEnds_bus : (s.sleepEnds).bus = s.bus := rfl
@[simp] theorem State.sleepEnds_clk : (s.sleepEnds).clk = s.clk := rfl
@[simp] theorem State.sleepEnds_pins : (s.sleepEnds).pins = s.pins := rfl
@[simp] theorem State.sleepEnds_plate : (s.sleepEnds).plate = s.plate := rfl
@[simp] theorem State.sleepEnds_berth : (s.sleepEnds).berth = s.berth := rfl
@[simp] theorem State.sleepEnds_sup : (s.sleepEnds).sup = s.sup := rfl
@[simp] theorem State.sleepEnds_sw : (s.sleepEnds).sw = s.sw := rfl
@[simp] theorem State.sleepEnds_fl : (s.sleepEnds).fl = s.fl := rfl
@[simp] theorem State.sleepEnds_boll : (s.sleepEnds).boll = s.boll := rfl
@[simp] theorem State.sleepEnds_tide : (s.sleepEnds).tide = s.tide := rfl
@[simp] theorem State.sleepEnds_eve : (s.sleepEnds).eve = s.eve := rfl
@[simp] theorem State.sleepEnds_inj : (s.sleepEnds).inj = s.inj := rfl
@[simp] theorem State.sleepEnds_led : (s.sleepEnds).led = s.led := rfl
@[simp] theorem State.sleepEnds_leds : (s.sleepEnds).leds = s.leds := rfl
@[simp] theorem State.sleepEnds_dio : (s.sleepEnds).dio = s.dio := rfl
@[simp] theorem State.sleepEnds_cal : (s.sleepEnds).cal = s.cal := rfl
@[simp] theorem State.sleepEnds_od : (s.sleepEnds).od = s.od := rfl
@[simp] theorem State.sleepEnds_can : (s.sleepEnds).can = s.can := rfl
@[simp] theorem State.sleepEnds_eth : (s.sleepEnds).eth = s.eth := rfl
@[simp] theorem State.sleepEnds_gwy : (s.sleepEnds).gwy = s.gwy := rfl
@[simp] theorem State.sleepEnds_nm : (s.sleepEnds).nm = s.nm := rfl
@[simp] theorem State.sleepEnds_acc : (s.sleepEnds).acc = s.acc := rfl
@[simp] theorem State.sleepEnds_cust : (s.sleepEnds).cust = s.cust := rfl
@[simp] theorem State.sleepEnds_upd : (s.sleepEnds).upd = s.upd := rfl
@[simp] theorem State.sleepEnds_free : (s.sleepEnds).free = s.free := rfl
@[simp] theorem State.sleepEnds_pending : (s.sleepEnds).pending = s.pending := rfl

end Sys2Proof.Machine
end

