-- ==== Sys2Proof/Laws/Tbl.lean ====
section
/-! SUPPORT. Laws of sparse tables: what a write changes, and that it keeps the canonical form. -/

set_option Elab.async false

namespace Sys2Proof.Machine

variable {κ α : Type}

theorem Tbl.get_del_same [DecidableEq κ] (d : κ → α) (t : List (κ × α)) (k : κ) : Tbl.get d (Tbl.del t k) k = d k := by
  induction t with
  | nil => rfl
  | cons e r ih =>
    obtain ⟨k', v'⟩ := e
    by_cases h : k' = k
    · simp [Tbl.del, h, ih]
    · simp [Tbl.del, Tbl.get, h, ih, Ne.symm h]

theorem Tbl.get_del_ne [DecidableEq κ] (d : κ → α) (t : List (κ × α)) {k j : κ} (h : j ≠ k) :
    Tbl.get d (Tbl.del t k) j = Tbl.get d t j := by
  induction t with
  | nil => rfl
  | cons e r ih =>
    obtain ⟨k', v'⟩ := e
    by_cases hk : k' = k
    · subst hk; simp [Tbl.del, Tbl.get, ih, h]
    · simp [Tbl.del, Tbl.get, hk, ih]

theorem Tbl.get_ins [DecidableEq κ] (lt : κ → κ → Bool) (d : κ → α) (t : List (κ × α)) (k j : κ) (v : α)
    (hk : ∀ e ∈ t, e.1 ≠ k) :
    Tbl.get d (Tbl.ins lt t k v) j = if j = k then v else Tbl.get d t j := by
  induction t with
  | nil => simp [Tbl.ins, Tbl.get]
  | cons e r ih =>
    obtain ⟨k', v'⟩ := e
    have hk' : k' ≠ k := hk (k', v') (by simp)
    have hr : ∀ e ∈ r, e.1 ≠ k := fun e he => hk e (by simp [he])
    simp only [Tbl.ins]
    split
    · simp only [Tbl.get, ih hr]
      by_cases hj : j = k'
      · simp [hj, hk']
      · simp [hj]
    · simp [Tbl.get]

theorem Tbl.mem_del [DecidableEq κ] {t : List (κ × α)} {k : κ} {e : κ × α} (h : e ∈ Tbl.del t k) : e ∈ t ∧ e.1 ≠ k := by
  induction t with
  | nil => simp [Tbl.del] at h
  | cons x r ih =>
    obtain ⟨k', v'⟩ := x
    by_cases hk : k' = k
    · simp [Tbl.del, hk] at h; exact ⟨by simp [(ih h).1], (ih h).2⟩
    · simp [Tbl.del, hk] at h
      rcases h with h | h
      · subst h; exact ⟨by simp, hk⟩
      · exact ⟨by simp [(ih h).1], (ih h).2⟩

/-- A write sets the value of its key. -/
@[simp] theorem Tbl.get_set_same [DecidableEq κ] [DecidableEq α] (lt : κ → κ → Bool) (d : κ → α) (t : List (κ × α)) (k : κ) (v : α) :
    Tbl.get d (Tbl.set lt d t k v) k = v := by
  unfold Tbl.set
  split
  · next h => rw [Tbl.get_del_same, h]
  · rw [Tbl.get_ins lt d _ k k v (fun e he => (Tbl.mem_del he).2)]; simp

/-- A write leaves every other key alone. -/
theorem Tbl.get_set_ne [DecidableEq κ] [DecidableEq α] (lt : κ → κ → Bool) (d : κ → α) (t : List (κ × α)) {k j : κ} (v : α)
    (h : j ≠ k) : Tbl.get d (Tbl.set lt d t k v) j = Tbl.get d t j := by
  unfold Tbl.set
  split
  · exact Tbl.get_del_ne d t h
  · rw [Tbl.get_ins lt d _ k j v (fun e he => (Tbl.mem_del he).2), if_neg h, Tbl.get_del_ne d t h]

theorem Tbl.above_del [DecidableEq κ] {lt : κ → κ → Bool} {k j : κ} {t : List (κ × α)} (h : Tbl.above lt k t = true) :
    Tbl.above lt k (Tbl.del t j) = true := by
  simp only [Tbl.above, List.all_eq_true] at h ⊢
  exact fun e he => h e (Tbl.mem_del he).1

theorem Tbl.wf_del [DecidableEq κ] [DecidableEq α] (lt : κ → κ → Bool) (d : κ → α) {t : List (κ × α)} (k : κ)
    (h : Tbl.wf lt d t = true) : Tbl.wf lt d (Tbl.del t k) = true := by
  induction t with
  | nil => rfl
  | cons e r ih =>
    obtain ⟨k', v'⟩ := e
    simp only [Tbl.wf, Bool.and_eq_true] at h
    obtain ⟨⟨h1, h2⟩, h3⟩ := h
    by_cases hk : k' = k
    · simpa [Tbl.del, hk] using ih h3
    · simp only [Tbl.del, if_neg hk, Tbl.wf, Bool.and_eq_true]
      exact ⟨⟨h1, Tbl.above_del h2⟩, ih h3⟩

theorem Tbl.mem_ins {lt : κ → κ → Bool} {t : List (κ × α)} {k : κ} {v : α} {e : κ × α} (h : e ∈ Tbl.ins lt t k v) :
    e = (k, v) ∨ e ∈ t := by
  induction t with
  | nil => simpa [Tbl.ins] using h
  | cons x r ih =>
    obtain ⟨k', v'⟩ := x
    simp only [Tbl.ins] at h
    split at h
    · rcases List.mem_cons.1 h with h | h
      · exact .inr (by simp [h])
      · rcases ih h with h | h
        · exact .inl h
        · exact .inr (by simp [h])
    · simpa using h

theorem Tbl.wf_ins [DecidableEq κ] [DecidableEq α] (lt : κ → κ → Bool) (d : κ → α)
    (trans : ∀ a b c, lt a b = true → lt b c = true → lt a c = true) (total : ∀ a b, a ≠ b → lt a b = false → lt b a = true)
    {t : List (κ × α)} {k : κ} {v : α} (hv : v ≠ d k) (hk : ∀ e ∈ t, e.1 ≠ k) (h : Tbl.wf lt d t = true) :
    Tbl.wf lt d (Tbl.ins lt t k v) = true := by
  induction t with
  | nil => simp [Tbl.ins, Tbl.wf, Tbl.above, hv]
  | cons e r ih =>
    obtain ⟨k', v'⟩ := e
    simp only [Tbl.wf, Bool.and_eq_true] at h
    obtain ⟨⟨h1, h2⟩, h3⟩ := h
    have hk' : k' ≠ k := hk (k', v') (by simp)
    have hr : ∀ e ∈ r, e.1 ≠ k := fun e he => hk e (by simp [he])
    simp only [Tbl.above, List.all_eq_true] at h2
    simp only [Tbl.ins]
    split
    · next hl =>
      simp only [Tbl.wf, Bool.and_eq_true, Tbl.above, List.all_eq_true]
      refine ⟨⟨h1, fun e he => ?_⟩, ih hr h3⟩
      rcases Tbl.mem_ins he with he | he
      · subst he; exact hl
      · exact h2 e he
    · next hl =>
      have hl' : lt k k' = true := total k' k hk' (by simpa using hl)
      simp only [Tbl.wf, Bool.and_eq_true, Tbl.above, List.all_eq_true]
      refine ⟨⟨by simp [hv], fun e he => ?_⟩, ⟨h1, fun e he => h2 e he⟩, h3⟩
      rcases List.mem_cons.1 he with he | he
      · subst he; exact hl'
      · exact trans _ _ _ hl' (h2 e he)

/-- A write keeps the canonical form. -/
theorem Tbl.wf_set [DecidableEq κ] [DecidableEq α] (lt : κ → κ → Bool) (d : κ → α)
    (trans : ∀ a b c, lt a b = true → lt b c = true → lt a c = true) (total : ∀ a b, a ≠ b → lt a b = false → lt b a = true)
    {t : List (κ × α)} (k : κ) (v : α) (h : Tbl.wf lt d t = true) : Tbl.wf lt d (Tbl.set lt d t k v) = true := by
  unfold Tbl.set
  split
  · exact Tbl.wf_del lt d k h
  · next hv => exact Tbl.wf_ins lt d trans total hv (fun e he => (Tbl.mem_del he).2) (Tbl.wf_del lt d k h)

/-- Leaving entries out keeps the canonical form. -/
theorem Tbl.wf_filter [DecidableEq α] (lt : κ → κ → Bool) (d : κ → α) (p : κ × α → Bool) {t : List (κ × α)}
    (h : Tbl.wf lt d t = true) : Tbl.wf lt d (t.filter p) = true := by
  induction t with
  | nil => rfl
  | cons e r ih =>
    obtain ⟨k', v'⟩ := e
    simp only [Tbl.wf, Bool.and_eq_true] at h
    obtain ⟨⟨h1, h2⟩, h3⟩ := h
    simp only [List.filter]
    split
    · simp only [Tbl.above, List.all_eq_true] at h2
      simp only [Tbl.wf, Bool.and_eq_true, Tbl.above, List.all_eq_true]
      exact ⟨⟨h1, fun e he => h2 e (List.mem_of_mem_filter he)⟩, ih h3⟩
    · exact ih h3

theorem natLt_trans (a b c : Nat) (h : natLt a b = true) (g : natLt b c = true) : natLt a c = true := by
  simp [natLt] at *; omega

theorem natLt_total (a b : Nat) (h : a ≠ b) (g : natLt a b = false) : natLt b a = true := by
  simp [natLt] at *; omega

end Sys2Proof.Machine
end

