-- ==== Sys2Proof/Laws/Ops.lean ====
section
/-! SUPPORT. What the shared operations do, said once: registers and their fields, memory, the records of the blocks, raising and
clearing a fault, and what answers every command. -/

set_option Elab.async false

namespace Sys2Proof.Machine

/-! ## Registers -/

@[simp] theorem State.rd_wr_same (s : State) (r : Reg) (i : Nat) (v : Word) : (s.wr r i v).rd r i = v := by
  simp [State.wr, State.rd]

theorem State.rd_wr_ne (s : State) {r r' : Reg} {i i' : Nat} (v : Word) (h : (r', i') ≠ (r, i)) :
    (s.wr r i v).rd r' i' = s.rd r' i' := by
  simp [State.wr, State.rd, Tbl.get_set_ne _ _ _ _ h]

/-- What a register holds depends on the register file alone. -/
theorem State.rd_congr {s t : State} (h : t.regs = s.regs) (r : Reg) (i : Nat) : t.rd r i = s.rd r i := by
  simp [State.rd, h]

theorem State.fld_congr {s t : State} (h : t.regs = s.regs) (f : Fld) (i : Nat) : t.fld f i = s.fld f i := by
  simp [State.fld, State.rd_congr h]

theorem State.flag_congr {s t : State} (h : t.regs = s.regs) (f : Fld) (i : Nat) : t.flag f i = s.flag f i := by
  simp [State.flag, State.fld_congr h]

/-- The mode depends on the register file alone. -/
theorem State.mode'_congr {s t : State} (h : t.regs = s.regs) : t.mode' = s.mode' := State.fld_congr h _ _

theorem Fld.into_toNat {f : Fld} (hf : f.fits) (w : Word) (v : Nat) :
    (f.into w v).toNat = w.toNat - f.of w * 2 ^ f.lsb + v % 2 ^ f.w * 2 ^ f.lsb := by
  have hp : 2 ^ f.lsb * 2 ^ f.w * 2 ^ (32 - f.lsb - f.w) = 2 ^ 32 := by
    rw [← pow_add, ← pow_add]; congr 1; simp [Fld.fits] at hf; omega
  have hw := w.isLt
  unfold Fld.into Fld.of
  rw [BitVec.toNat_ofNat]
  refine Nat.mod_eq_of_lt ?_
  generalize w.toNat = n at *
  generalize hL : 2 ^ f.lsb = L at *
  generalize hW : 2 ^ f.w = W at *
  generalize hR : 2 ^ (32 - f.lsb - f.w) = R at *
  have hL0 : 0 < L := by rw [← hL]; positivity
  have hW0 : 0 < W := by rw [← hW]; positivity
  have e1 : n = L * W * (n / (L * W)) + (L * (n / L % W) + n % L) := by
    have a := Nat.div_add_mod n L
    have b := Nat.div_add_mod (n / L) W
    rw [Nat.div_div_eq_div_mul] at b
    nlinarith [a, b]
  have hq : n / (L * W) < R := by
    apply Nat.div_lt_of_lt_mul
    calc n < 2 ^ 32 := hw
      _ = L * W * R := hp.symm
  have hv := Nat.mod_lt v hW0
  have hm := Nat.mod_lt n hL0
  have h1 : n - n / L % W * L = L * W * (n / (L * W)) + n % L := by
    have : n / L % W * L = L * (n / L % W) := Nat.mul_comm _ _
    omega
  rw [h1, ← hp]
  have h2 : L * W * (n / (L * W)) + L * W ≤ L * W * R := by
    have : n / (L * W) + 1 ≤ R := hq
    calc L * W * (n / (L * W)) + L * W = L * W * (n / (L * W) + 1) := by ring
      _ ≤ L * W * R := Nat.mul_le_mul_left _ this
  have h3 : v % W * L + L ≤ L * W := by
    calc v % W * L + L = L * (v % W + 1) := by ring
      _ ≤ L * W := Nat.mul_le_mul_left _ hv
  omega

theorem Fld.of_into {f : Fld} (hf : f.fits) (w : Word) (v : Nat) : f.of (f.into w v) = v % 2 ^ f.w := by
  rw [Fld.of, Fld.into_toNat hf]
  unfold Fld.of
  generalize w.toNat = n
  have hL0 : 0 < 2 ^ f.lsb := by positivity
  have hW0 : 0 < 2 ^ f.w := by positivity
  generalize 2 ^ f.lsb = L at *
  generalize 2 ^ f.w = W at *
  have a := Nat.div_add_mod n L
  have b := Nat.div_add_mod (n / L) W
  have h1 : n - n / L % W * L = L * (W * (n / L / W)) + n % L := by
    have e : L * (n / L) = L * (W * (n / L / W)) + n / L % W * L := by
      calc L * (n / L) = L * (W * (n / L / W) + n / L % W) := by rw [b]
        _ = _ := by ring
    omega
  rw [h1]
  have h2 : (L * (W * (n / L / W)) + n % L + v % W * L) / L = W * (n / L / W) + v % W := by
    rw [show L * (W * (n / L / W)) + n % L + v % W * L = n % L + L * (W * (n / L / W) + v % W) by ring,
      Nat.add_mul_div_left _ _ hL0, Nat.div_eq_of_lt (Nat.mod_lt _ hL0), Nat.zero_add]
  rw [h2, Nat.mul_add_mod, Nat.mod_mod]

/-- Setting a field gives it the value, cut to its width. -/
theorem State.fld_setFld_same (s : State) {f : Fld} (hf : f.fits) (i v : Nat) : (s.setFld f i v).fld f i = v % 2 ^ f.w := by
  simp [State.setFld, State.fld, Fld.of_into hf]

/-- Setting a field leaves every other register alone. -/
theorem State.rd_setFld_ne (s : State) {f : Fld} {i v : Nat} {r : Reg} {j : Nat} (h : (r, j) ≠ (f.reg, i)) :
    (s.setFld f i v).rd r j = s.rd r j := State.rd_wr_ne s _ h

theorem State.fld_setFld_ne (s : State) {f g : Fld} {i v j : Nat} (h : (g.reg, j) ≠ (f.reg, i)) :
    (s.setFld f i v).fld g j = s.fld g j := by
  simp only [State.fld, State.rd_setFld_ne s h]

theorem State.flag_setFlag_same (s : State) {f : Fld} (hf : f.fits) (h1 : f.w = 1) (i : Nat) (b : Bool) :
    (s.setFlag f i b).flag f i = b := by
  cases b <;> simp [State.setFlag, State.flag, State.fld_setFld_same s hf, h1]

/-! ## Memory -/

@[simp] theorem State.byte_setByte_same (s : State) (a : Nat) (v : Byte) : (s.setByte a v).byte a = v := by
  simp [State.setByte, State.byte]

theorem State.byte_setByte_ne (s : State) {a b : Nat} (v : Byte) (h : b ≠ a) : (s.setByte a v).byte b = s.byte b := by
  simp [State.setByte, State.byte, Tbl.get_set_ne _ _ _ _ h]

theorem State.byte_congr {s t : State} (h : t.mem = s.mem) (a : Nat) : t.byte a = s.byte a := by
  simp [State.byte, h]

theorem State.byte_setBytes (s : State) (a : Nat) (l : List Byte) {b : Nat} (h : b < a ∨ a + l.length ≤ b) :
    (s.setBytes a l).byte b = s.byte b := by
  induction l generalizing s a with
  | nil => rfl
  | cons x r ih =>
    simp only [List.length_cons] at h
    rw [State.setBytes, ih _ _ (by omega), State.byte_setByte_ne s x (by omega)]

/-- Every memory operation keeps the canonical form, and reset memory has it. -/
theorem Memory.wf_reset : Memory.wf State.reset.mem = true := rfl

theorem Memory.wf_setByte {s : State} (a : Nat) (v : Byte) (h : Memory.wf s.mem = true) : Memory.wf (s.setByte a v).mem = true :=
  Tbl.wf_set natLt memZero natLt_trans natLt_total a v h

theorem Memory.wf_setBytes {s : State} (a : Nat) (l : List Byte) (h : Memory.wf s.mem = true) :
    Memory.wf (s.setBytes a l).mem = true := by
  induction l generalizing s a with
  | nil => exact h
  | cons x r ih => exact ih _ (Memory.wf_setByte a x h)

theorem Memory.wf_setWord {s : State} (a v : Nat) (h : Memory.wf s.mem = true) : Memory.wf (s.setWord a v).mem = true :=
  Memory.wf_setBytes a _ h

theorem Memory.wf_erase {s : State} (lo hi : Nat) (h : Memory.wf s.mem = true) : Memory.wf (s.erase lo hi).mem = true :=
  Tbl.wf_filter natLt memZero _ h

/-! ## Records of the blocks -/

@[simp] theorem State.swc_setSwc (s : State) (n : Nat) (c : SwCh) : (s.setSwc n c).swc n = c := by
  simp [State.setSwc, State.swc]
theorem State.swc_setSwc_ne (s : State) {n m : Nat} (c : SwCh) (h : m ≠ n) : (s.setSwc n c).swc m = s.swc m := by
  simp [State.setSwc, State.swc, Tbl.get_set_ne _ _ _ _ h]

@[simp] theorem State.flc_setFlc (s : State) (n : Nat) (c : FeedLim) : (s.setFlc n c).flc n = c := by
  simp [State.setFlc, State.flc]
theorem State.flc_setFlc_ne (s : State) {n m : Nat} (c : FeedLim) (h : m ≠ n) : (s.setFlc n c).flc m = s.flc m := by
  simp [State.setFlc, State.flc, Tbl.get_set_ne _ _ _ _ h]

@[simp] theorem State.silc_setSilc (s : State) (n : Nat) (c : SilTimer) : (s.setSilc n c).silc n = c := by
  simp [State.setSilc, State.silc]
theorem State.silc_setSilc_ne (s : State) {n m : Nat} (c : SilTimer) (h : m ≠ n) : (s.setSilc n c).silc m = s.silc m := by
  simp [State.setSilc, State.silc, Tbl.get_set_ne _ _ _ _ h]

@[simp] theorem State.rfxc_setRfxc (s : State) (n : Nat) (c : Rfx) : (s.setRfxc n c).rfxc n = c := by
  simp [State.setRfxc, State.rfxc]
theorem State.rfxc_setRfxc_ne (s : State) {n m : Nat} (c : Rfx) (h : m ≠ n) : (s.setRfxc n c).rfxc m = s.rfxc m := by
  simp [State.setRfxc, State.rfxc, Tbl.get_set_ne _ _ _ _ h]

@[simp] theorem State.injc_setInjc (s : State) (n : Nat) (c : InjCh) : (s.setInjc n c).injc n = c := by
  simp [State.setInjc, State.injc]
theorem State.injc_setInjc_ne (s : State) {n m : Nat} (c : InjCh) (h : m ≠ n) : (s.setInjc n c).injc m = s.injc m := by
  simp [State.setInjc, State.injc, Tbl.get_set_ne _ _ _ _ h]

@[simp] theorem State.ledc_setLedc (s : State) (n : Nat) (c : LedCh) : (s.setLedc n c).ledc n = c := by
  simp [State.setLedc, State.ledc]
theorem State.ledc_setLedc_ne (s : State) {n m : Nat} (c : LedCh) (h : m ≠ n) : (s.setLedc n c).ledc m = s.ledc m := by
  simp [State.setLedc, State.ledc, Tbl.get_set_ne _ _ _ _ h]

@[simp] theorem State.dic_setDic (s : State) (n : Nat) (c : DiCh) : (s.setDic n c).dic n = c := by
  simp [State.setDic, State.dic]
theorem State.dic_setDic_ne (s : State) {n m : Nat} (c : DiCh) (h : m ≠ n) : (s.setDic n c).dic m = s.dic m := by
  simp [State.setDic, State.dic, Tbl.get_set_ne _ _ _ _ h]

@[simp] theorem State.cntc_setCntc (s : State) (n : Nat) (c : CntCh) : (s.setCntc n c).cntc n = c := by
  simp [State.setCntc, State.cntc]
theorem State.cntc_setCntc_ne (s : State) {n m : Nat} (c : CntCh) (h : m ≠ n) : (s.setCntc n c).cntc m = s.cntc m := by
  simp [State.setCntc, State.cntc, Tbl.get_set_ne _ _ _ _ h]

@[simp] theorem State.canc_setCanc (s : State) (n : Nat) (c : CanCtl) : (s.setCanc n c).canc n = c := by
  simp [State.setCanc, State.canc]
theorem State.canc_setCanc_ne (s : State) {n m : Nat} (c : CanCtl) (h : m ≠ n) : (s.setCanc n c).canc m = s.canc m := by
  simp [State.setCanc, State.canc, Tbl.get_set_ne _ _ _ _ h]

@[simp] theorem State.ethp_setEthp (s : State) (n : Nat) (c : EthPort) : (s.setEthp n c).ethp n = c := by
  simp [State.setEthp, State.ethp]
theorem State.ethp_setEthp_ne (s : State) {n m : Nat} (c : EthPort) (h : m ≠ n) : (s.setEthp n c).ethp m = s.ethp m := by
  simp [State.setEthp, State.ethp, Tbl.get_set_ne _ _ _ _ h]

@[simp] theorem State.ptp_setPtp (s : State) (n : Nat) (c : PtpPort) : (s.setPtp n c).ptp n = c := by
  simp [State.setPtp, State.ptp]
theorem State.ptp_setPtp_ne (s : State) {n m : Nat} (c : PtpPort) (h : m ≠ n) : (s.setPtp n c).ptp m = s.ptp m := by
  simp [State.setPtp, State.ptp, Tbl.get_set_ne _ _ _ _ h]

@[simp] theorem State.nms_setNms (s : State) (n : Nat) (c : NmSeg) : (s.setNms n c).nms n = c := by
  simp [State.setNms, State.nms]
theorem State.nms_setNms_ne (s : State) {n m : Nat} (c : NmSeg) (h : m ≠ n) : (s.setNms n c).nms m = s.nms m := by
  simp [State.setNms, State.nms, Tbl.get_set_ne _ _ _ _ h]

@[simp] theorem State.strm_setStrm (s : State) (n : Nat) (c : Strm) : (s.setStrm n c).strm n = c := by
  simp [State.setStrm, State.strm]
theorem State.strm_setStrm_ne (s : State) {n m : Nat} (c : Strm) (h : m ≠ n) : (s.setStrm n c).strm m = s.strm m := by
  simp [State.setStrm, State.strm, Tbl.get_set_ne _ _ _ _ h]

/-! ## Raising and clearing a fault -/

/-- A raise changes the journal's state and the record of what this Boot has raised, nothing else. -/
theorem State.raiseC_eq (s : State) (f : FaultId) (cls idx : Nat) (d : List Nat) (lim : Nat) :
    ∃ j l, s.raiseC f cls idx d lim = { s with jnl := j, mode := { s.mode with raised := l } } := by
  refine ⟨(s.raiseC f cls idx d lim).jnl, (s.raiseC f cls idx d lim).mode.raised, ?_⟩
  unfold State.raiseC State.journal State.setJnl
  by_cases h : s.limited f cls idx lim = true <;> by_cases g : (cls == 0) = true <;> simp [h, g]

/-- A cleared fault changes the journal's state alone. -/
theorem State.clearFault_eq (s : State) (f : FaultId) (idx : Nat) : ∃ j, s.clearFault f idx = { s with jnl := j } := by
  refine ⟨(s.clearFault f idx).jnl, ?_⟩
  unfold State.clearFault State.journal State.setJnl; split <;> rfl

@[simp] theorem State.raiseC_now (s : State) (f : FaultId) (cls idx : Nat) (d : List Nat) (lim : Nat) : (s.raiseC f cls idx d lim).now = s.now := by
  obtain ⟨j, l, h⟩ := s.raiseC_eq f cls idx d lim; rw [h]
@[simp] theorem State.raise_now (s : State) (f : FaultId) (idx : Nat) (d : List Nat) (lim : Nat) : (s.raise f idx d lim).now = s.now := by
  simp [State.raise]
@[simp] theorem State.clearFault_now (s : State) (f : FaultId) (idx : Nat) : (s.clearFault f idx).now = s.now := by
  obtain ⟨j, h⟩ := s.clearFault_eq f idx; rw [h]
@[simp] theorem State.raiseC_regs (s : State) (f : FaultId) (cls idx : Nat) (d : List Nat) (lim : Nat) : (s.raiseC f cls idx d lim).regs = s.regs := by
  obtain ⟨j, l, h⟩ := s.raiseC_eq f cls idx d lim; rw [h]
@[simp] theorem State.raise_regs (s : State) (f : FaultId) (idx : Nat) (d : List Nat) (lim : Nat) : (s.raise f idx d lim).regs = s.regs := by
  simp [State.raise]
@[simp] theorem State.clearFault_regs (s : State) (f : FaultId) (idx : Nat) : (s.clearFault f idx).regs = s.regs := by
  obtain ⟨j, h⟩ := s.clearFault_eq f idx; rw [h]
@[simp] theorem State.raiseC_mem (s : State) (f : FaultId) (cls idx : Nat) (d : List Nat) (lim : Nat) : (s.raiseC f cls idx d lim).mem = s.mem := by
  obtain ⟨j, l, h⟩ := s.raiseC_eq f cls idx d lim; rw [h]
@[simp] theorem State.raise_mem (s : State) (f : FaultId) (idx : Nat) (d : List Nat) (lim : Nat) : (s.raise f idx d lim).mem = s.mem := by
  simp [State.raise]
@[simp] theorem State.clearFault_mem (s : State) (f : FaultId) (idx : Nat) : (s.clearFault f idx).mem = s.mem := by
  obtain ⟨j, h⟩ := s.clearFault_eq f idx; rw [h]
@[simp] theorem State.raiseC_bus (s : State) (f : FaultId) (cls idx : Nat) (d : List Nat) (lim : Nat) : (s.raiseC f cls idx d lim).bus = s.bus := by
  obtain ⟨j, l, h⟩ := s.raiseC_eq f cls idx d lim; rw [h]
@[simp] theorem State.raise_bus (s : State) (f : FaultId) (idx : Nat) (d : List Nat) (lim : Nat) : (s.raise f idx d lim).bus = s.bus := by
  simp [State.raise]
@[simp] theorem State.clearFault_bus (s : State) (f : FaultId) (idx : Nat) : (s.clearFault f idx).bus = s.bus := by
  obtain ⟨j, h⟩ := s.clearFault_eq f idx; rw [h]
@[simp] theorem State.raiseC_clk (s : State) (f : FaultId) (cls idx : Nat) (d : List Nat) (lim : Nat) : (s.raiseC f cls idx d lim).clk = s.clk := by
  obtain ⟨j, l, h⟩ := s.raiseC_eq f cls idx d lim; rw [h]
@[simp] theorem State.raise_clk (s : State) (f : FaultId) (idx : Nat) (d : List Nat) (lim : Nat) : (s.raise f idx d lim).clk = s.clk := by
  simp [State.raise]
@[simp] theorem State.clearFault_clk (s : State) (f : FaultId) (idx : Nat) : (s.clearFault f idx).clk = s.clk := by
  obtain ⟨j, h⟩ := s.clearFault_eq f idx; rw [h]
@[simp] theorem State.raiseC_pins (s : State) (f : FaultId) (cls idx : Nat) (d : List Nat) (lim : Nat) : (s.raiseC f cls idx d lim).pins = s.pins := by
  obtain ⟨j, l, h⟩ := s.raiseC_eq f cls idx d lim; rw [h]
@[simp] theorem State.raise_pins (s : State) (f : FaultId) (idx : Nat) (d : List Nat) (lim : Nat) : (s.raise f idx d lim).pins = s.pins := by
  simp [State.raise]
@[simp] theorem State.clearFault_pins (s : State) (f : FaultId) (idx : Nat) : (s.clearFault f idx).pins = s.pins := by
  obtain ⟨j, h⟩ := s.clearFault_eq f idx; rw [h]
@[simp] theorem State.raiseC_plate (s : State) (f : FaultId) (cls idx : Nat) (d : List Nat) (lim : Nat) : (s.raiseC f cls idx d lim).plate = s.plate := by
  obtain ⟨j, l, h⟩ := s.raiseC_eq f cls idx d lim; rw [h]
@[simp] theorem State.raise_plate (s : State) (f : FaultId) (idx : Nat) (d : List Nat) (lim : Nat) : (s.raise f idx d lim).plate = s.plate := by
  simp [State.raise]
@[simp] theorem State.clearFault_plate (s : State) (f : FaultId) (idx : Nat) : (s.clearFault f idx).plate = s.plate := by
  obtain ⟨j, h⟩ := s.clearFault_eq f idx; rw [h]
@[simp] theorem State.raiseC_berth (s : State) (f : FaultId) (cls idx : Nat) (d : List Nat) (lim : Nat) : (s.raiseC f cls idx d lim).berth = s.berth := by
  obtain ⟨j, l, h⟩ := s.raiseC_eq f cls idx d lim; rw [h]
@[simp] theorem State.raise_berth (s : State) (f : FaultId) (idx : Nat) (d : List Nat) (lim : Nat) : (s.raise f idx d lim).berth = s.berth := by
  simp [State.raise]
@[simp] theorem State.clearFault_berth (s : State) (f : FaultId) (idx : Nat) : (s.clearFault f idx).berth = s.berth := by
  obtain ⟨j, h⟩ := s.clearFault_eq f idx; rw [h]
@[simp] theorem State.clearFault_mode (s : State) (f : FaultId) (idx : Nat) : (s.clearFault f idx).mode = s.mode := by
  obtain ⟨j, h⟩ := s.clearFault_eq f idx; rw [h]
@[simp] theorem State.raiseC_sup (s : State) (f : FaultId) (cls idx : Nat) (d : List Nat) (lim : Nat) : (s.raiseC f cls idx d lim).sup = s.sup := by
  obtain ⟨j, l, h⟩ := s.raiseC_eq f cls idx d lim; rw [h]
@[simp] theorem State.raise_sup (s : State) (f : FaultId) (idx : Nat) (d : List Nat) (lim : Nat) : (s.raise f idx d lim).sup = s.sup := by
  simp [State.raise]
@[simp] theorem State.clearFault_sup (s : State) (f : FaultId) (idx : Nat) : (s.clearFault f idx).sup = s.sup := by
  obtain ⟨j, h⟩ := s.clearFault_eq f idx; rw [h]
@[simp] theorem State.raiseC_sw (s : State) (f : FaultId) (cls idx : Nat) (d : List Nat) (lim : Nat) : (s.raiseC f cls idx d lim).sw = s.sw := by
  obtain ⟨j, l, h⟩ := s.raiseC_eq f cls idx d lim; rw [h]
@[simp] theorem State.raise_sw (s : State) (f : FaultId) (idx : Nat) (d : List Nat) (lim : Nat) : (s.raise f idx d lim).sw = s.sw := by
  simp [State.raise]
@[simp] theorem State.clearFault_sw (s : State) (f : FaultId) (idx : Nat) : (s.clearFault f idx).sw = s.sw := by
  obtain ⟨j, h⟩ := s.clearFault_eq f idx; rw [h]
@[simp] theorem State.raiseC_fl (s : State) (f : FaultId) (cls idx : Nat) (d : List Nat) (lim : Nat) : (s.raiseC f cls idx d lim).fl = s.fl := by
  obtain ⟨j, l, h⟩ := s.raiseC_eq f cls idx d lim; rw [h]
@[simp] theorem State.raise_fl (s : State) (f : FaultId) (idx : Nat) (d : List Nat) (lim : Nat) : (s.raise f idx d lim).fl = s.fl := by
  simp [State.raise]
@[simp] theorem State.clearFault_fl (s : State) (f : FaultId) (idx : Nat) : (s.clearFault f idx).fl = s.fl := by
  obtain ⟨j, h⟩ := s.clearFault_eq f idx; rw [h]
@[simp] theorem State.raiseC_boll (s : State) (f : FaultId) (cls idx : Nat) (d : List Nat) (lim : Nat) : (s.raiseC f cls idx d lim).boll = s.boll := by
  obtain ⟨j, l, h⟩ := s.raiseC_eq f cls idx d lim; rw [h]
@[simp] theorem State.raise_boll (s : State) (f : FaultId) (idx : Nat) (d : List Nat) (lim : Nat) : (s.raise f idx d lim).boll = s.boll := by
  simp [State.raise]
@[simp] theorem State.clearFault_boll (s : State) (f : FaultId) (idx : Nat) : (s.clearFault f idx).boll = s.boll := by
  obtain ⟨j, h⟩ := s.clearFault_eq f idx; rw [h]
@[simp] theorem State.raiseC_tide (s : State) (f : FaultId) (cls idx : Nat) (d : List Nat) (lim : Nat) : (s.raiseC f cls idx d lim).tide = s.tide := by
  obtain ⟨j, l, h⟩ := s.raiseC_eq f cls idx d lim; rw [h]
@[simp] theorem State.raise_tide (s : State) (f : FaultId) (idx : Nat) (d : List Nat) (lim : Nat) : (s.raise f idx d lim).tide = s.tide := by
  simp [State.raise]
@[simp] theorem State.clearFault_tide (s : State) (f : FaultId) (idx : Nat) : (s.clearFault f idx).tide = s.tide := by
  obtain ⟨j, h⟩ := s.clearFault_eq f idx; rw [h]
@[simp] theorem State.raiseC_eve (s : State) (f : FaultId) (cls idx : Nat) (d : List Nat) (lim : Nat) : (s.raiseC f cls idx d lim).eve = s.eve := by
  obtain ⟨j, l, h⟩ := s.raiseC_eq f cls idx d lim; rw [h]
@[simp] theorem State.raise_eve (s : State) (f : FaultId) (idx : Nat) (d : List Nat) (lim : Nat) : (s.raise f idx d lim).eve = s.eve := by
  simp [State.raise]
@[simp] theorem State.clearFault_eve (s : State) (f : FaultId) (idx : Nat) : (s.clearFault f idx).eve = s.eve := by
  obtain ⟨j, h⟩ := s.clearFault_eq f idx; rw [h]
@[simp] theorem State.raiseC_inj (s : State) (f : FaultId) (cls idx : Nat) (d : List Nat) (lim : Nat) : (s.raiseC f cls idx d lim).inj = s.inj := by
  obtain ⟨j, l, h⟩ := s.raiseC_eq f cls idx d lim; rw [h]
@[simp] theorem State.raise_inj (s : State) (f : FaultId) (idx : Nat) (d : List Nat) (lim : Nat) : (s.raise f idx d lim).inj = s.inj := by
  simp [State.raise]
@[simp] theorem State.clearFault_inj (s : State) (f : FaultId) (idx : Nat) : (s.clearFault f idx).inj = s.inj := by
  obtain ⟨j, h⟩ := s.clearFault_eq f idx; rw [h]
@[simp] theorem State.raiseC_led (s : State) (f : FaultId) (cls idx : Nat) (d : List Nat) (lim : Nat) : (s.raiseC f cls idx d lim).led = s.led := by
  obtain ⟨j, l, h⟩ := s.raiseC_eq f cls idx d lim; rw [h]
@[simp] theorem State.raise_led (s : State) (f : FaultId) (idx : Nat) (d : List Nat) (lim : Nat) : (s.raise f idx d lim).led = s.led := by
  simp [State.raise]
@[simp] theorem State.clearFault_led (s : State) (f : FaultId) (idx : Nat) : (s.clearFault f idx).led = s.led := by
  obtain ⟨j, h⟩ := s.clearFault_eq f idx; rw [h]
@[simp] theorem State.raiseC_dio (s : State) (f : FaultId) (cls idx : Nat) (d : List Nat) (lim : Nat) : (s.raiseC f cls idx d lim).dio = s.dio := by
  obtain ⟨j, l, h⟩ := s.raiseC_eq f cls idx d lim; rw [h]
@[simp] theorem State.raise_dio (s : State) (f : FaultId) (idx : Nat) (d : List Nat) (lim : Nat) : (s.raise f idx d lim).dio = s.dio := by
  simp [State.raise]
@[simp] theorem State.clearFault_dio (s : State) (f : FaultId) (idx : Nat) : (s.clearFault f idx).dio = s.dio := by
  obtain ⟨j, h⟩ := s.clearFault_eq f idx; rw [h]
@[simp] theorem State.raiseC_cal (s : State) (f : FaultId) (cls idx : Nat) (d : List Nat) (lim : Nat) : (s.raiseC f cls idx d lim).cal = s.cal := by
  obtain ⟨j, l, h⟩ := s.raiseC_eq f cls idx d lim; rw [h]
@[simp] theorem State.raise_cal (s : State) (f : FaultId) (idx : Nat) (d : List Nat) (lim : Nat) : (s.raise f idx d lim).cal = s.cal := by
  simp [State.raise]
@[simp] theorem State.clearFault_cal (s : State) (f : FaultId) (idx : Nat) : (s.clearFault f idx).cal = s.cal := by
  obtain ⟨j, h⟩ := s.clearFault_eq f idx; rw [h]
@[simp] theorem State.raiseC_od (s : State) (f : FaultId) (cls idx : Nat) (d : List Nat) (lim : Nat) : (s.raiseC f cls idx d lim).od = s.od := by
  obtain ⟨j, l, h⟩ := s.raiseC_eq f cls idx d lim; rw [h]
@[simp] theorem State.raise_od (s : State) (f : FaultId) (idx : Nat) (d : List Nat) (lim : Nat) : (s.raise f idx d lim).od = s.od := by
  simp [State.raise]
@[simp] theorem State.clearFault_od (s : State) (f : FaultId) (idx : Nat) : (s.clearFault f idx).od = s.od := by
  obtain ⟨j, h⟩ := s.clearFault_eq f idx; rw [h]
@[simp] theorem State.raiseC_can (s : State) (f : FaultId) (cls idx : Nat) (d : List Nat) (lim : Nat) : (s.raiseC f cls idx d lim).can = s.can := by
  obtain ⟨j, l, h⟩ := s.raiseC_eq f cls idx d lim; rw [h]
@[simp] theorem State.raise_can (s : State) (f : FaultId) (idx : Nat) (d : List Nat) (lim : Nat) : (s.raise f idx d lim).can = s.can := by
  simp [State.raise]
@[simp] theorem State.clearFault_can (s : State) (f : FaultId) (idx : Nat) : (s.clearFault f idx).can = s.can := by
  obtain ⟨j, h⟩ := s.clearFault_eq f idx; rw [h]
@[simp] theorem State.raiseC_eth (s : State) (f : FaultId) (cls idx : Nat) (d : List Nat) (lim : Nat) : (s.raiseC f cls idx d lim).eth = s.eth := by
  obtain ⟨j, l, h⟩ := s.raiseC_eq f cls idx d lim; rw [h]
@[simp] theorem State.raise_eth (s : State) (f : FaultId) (idx : Nat) (d : List Nat) (lim : Nat) : (s.raise f idx d lim).eth = s.eth := by
  simp [State.raise]
@[simp] theorem State.clearFault_eth (s : State) (f : FaultId) (idx : Nat) : (s.clearFault f idx).eth = s.eth := by
  obtain ⟨j, h⟩ := s.clearFault_eq f idx; rw [h]
@[simp] theorem State.raiseC_gwy (s : State) (f : FaultId) (cls idx : Nat) (d : List Nat) (lim : Nat) : (s.raiseC f cls idx d lim).gwy = s.gwy := by
  obtain ⟨j, l, h⟩ := s.raiseC_eq f cls idx d lim; rw [h]
@[simp] theorem State.raise_gwy (s : State) (f : FaultId) (idx : Nat) (d : List Nat) (lim : Nat) : (s.raise f idx d lim).gwy = s.gwy := by
  simp [State.raise]
@[simp] theorem State.clearFault_gwy (s : State) (f : FaultId) (idx : Nat) : (s.clearFault f idx).gwy = s.gwy := by
  obtain ⟨j, h⟩ := s.clearFault_eq f idx; rw [h]
@[simp] theorem State.raiseC_nm (s : State) (f : FaultId) (cls idx : Nat) (d : List Nat) (lim : Nat) : (s.raiseC f cls idx d lim).nm = s.nm := by
  obtain ⟨j, l, h⟩ := s.raiseC_eq f cls idx d lim; rw [h]
@[simp] theorem State.raise_nm (s : State) (f : FaultId) (idx : Nat) (d : List Nat) (lim : Nat) : (s.raise f idx d lim).nm = s.nm := by
  simp [State.raise]
@[simp] theorem State.clearFault_nm (s : State) (f : FaultId) (idx : Nat) : (s.clearFault f idx).nm = s.nm := by
  obtain ⟨j, h⟩ := s.clearFault_eq f idx; rw [h]
@[simp] theorem State.raiseC_acc (s : State) (f : FaultId) (cls idx : Nat) (d : List Nat) (lim : Nat) : (s.raiseC f cls idx d lim).acc = s.acc := by
  obtain ⟨j, l, h⟩ := s.raiseC_eq f cls idx d lim; rw [h]
@[simp] theorem State.raise_acc (s : State) (f : FaultId) (idx : Nat) (d : List Nat) (lim : Nat) : (s.raise f idx d lim).acc = s.acc := by
  simp [State.raise]
@[simp] theorem State.clearFault_acc (s : State) (f : FaultId) (idx : Nat) : (s.clearFault f idx).acc = s.acc := by
  obtain ⟨j, h⟩ := s.clearFault_eq f idx; rw [h]
@[simp] theorem State.raiseC_cust (s : State) (f : FaultId) (cls idx : Nat) (d : List Nat) (lim : Nat) : (s.raiseC f cls idx d lim).cust = s.cust := by
  obtain ⟨j, l, h⟩ := s.raiseC_eq f cls idx d lim; rw [h]
@[simp] theorem State.raise_cust (s : State) (f : FaultId) (idx : Nat) (d : List Nat) (lim : Nat) : (s.raise f idx d lim).cust = s.cust := by
  simp [State.raise]
@[simp] theorem State.clearFault_cust (s : State) (f : FaultId) (idx : Nat) : (s.clearFault f idx).cust = s.cust := by
  obtain ⟨j, h⟩ := s.clearFault_eq f idx; rw [h]
@[simp] theorem State.raiseC_upd (s : State) (f : FaultId) (cls idx : Nat) (d : List Nat) (lim : Nat) : (s.raiseC f cls idx d lim).upd = s.upd := by
  obtain ⟨j, l, h⟩ := s.raiseC_eq f cls idx d lim; rw [h]
@[simp] theorem State.raise_upd (s : State) (f : FaultId) (idx : Nat) (d : List Nat) (lim : Nat) : (s.raise f idx d lim).upd = s.upd := by
  simp [State.raise]
@[simp] theorem State.clearFault_upd (s : State) (f : FaultId) (idx : Nat) : (s.clearFault f idx).upd = s.upd := by
  obtain ⟨j, h⟩ := s.clearFault_eq f idx; rw [h]
@[simp] theorem State.raiseC_free (s : State) (f : FaultId) (cls idx : Nat) (d : List Nat) (lim : Nat) : (s.raiseC f cls idx d lim).free = s.free := by
  obtain ⟨j, l, h⟩ := s.raiseC_eq f cls idx d lim; rw [h]
@[simp] theorem State.raise_free (s : State) (f : FaultId) (idx : Nat) (d : List Nat) (lim : Nat) : (s.raise f idx d lim).free = s.free := by
  simp [State.raise]
@[simp] theorem State.clearFault_free (s : State) (f : FaultId) (idx : Nat) : (s.clearFault f idx).free = s.free := by
  obtain ⟨j, h⟩ := s.clearFault_eq f idx; rw [h]
@[simp] theorem State.raiseC_pending (s : State) (f : FaultId) (cls idx : Nat) (d : List Nat) (lim : Nat) : (s.raiseC f cls idx d lim).pending = s.pending := by
  obtain ⟨j, l, h⟩ := s.raiseC_eq f cls idx d lim; rw [h]
@[simp] theorem State.raise_pending (s : State) (f : FaultId) (idx : Nat) (d : List Nat) (lim : Nat) : (s.raise f idx d lim).pending = s.pending := by
  simp [State.raise]
@[simp] theorem State.clearFault_pending (s : State) (f : FaultId) (idx : Nat) : (s.clearFault f idx).pending = s.pending := by
  obtain ⟨j, h⟩ := s.clearFault_eq f idx; rw [h]

/-- A raised fault of class WARN or higher is active. -/
theorem State.active_raiseC (s : State) (f : FaultId) {cls : Nat} (h : cls ≠ 0) (idx : Nat) (d : List Nat) (lim : Nat) :
    (s.raiseC f cls idx d lim).active f idx = true := by
  have hc : (cls == 0) = false := by simpa using h
  simp [State.raiseC, State.active, State.setJnl, hc]

theorem State.active_raise (s : State) (f : FaultId) (h : f.cls ≠ 0) (idx : Nat) (d : List Nat) (lim : Nat) :
    (s.raise f idx d lim).active f idx = true := s.active_raiseC f h idx d lim

/-- A raise leaves the other faults as active as they were. -/
theorem State.active_raiseC_ne (s : State) (f g : FaultId) (cls idx jdx : Nat) (d : List Nat) (lim : Nat) (h : (g, jdx) ≠ (f, idx)) :
    (s.raiseC f cls idx d lim).active g jdx = s.active g jdx := by
  have key : (fun a : Active => !(a.f == f && a.idx == idx) && (a.f == g && a.idx == jdx)) = fun a => a.f == g && a.idx == jdx := by
    funext a
    by_cases ha : a.f = g ∧ a.idx = jdx
    · have : ¬ (a.f = f ∧ a.idx = idx) := by
        rintro ⟨h1, h2⟩; exact h (by rw [← ha.1, ← ha.2, h1, h2])
      have e : (a.f == f && a.idx == idx) = false := by
        rw [Bool.eq_false_iff]; simpa using this
      simp [e]
    · have e : (a.f == g && a.idx == jdx) = false := by
        rw [Bool.eq_false_iff]; simpa using ha
      simp [e]
  have hne : (f == g && idx == jdx) = false := by
    rw [Bool.and_eq_false_iff]
    by_cases h1 : f = g
    · right; simp; intro h2; exact h (by rw [h1, h2])
    · left; simpa using h1
  by_cases hc : cls = 0
  · subst hc
    simp only [State.raiseC, State.active, State.setJnl, State.journal, beq_self_eq_true, if_true]
    split <;> rfl
  · have hc' : (cls == 0) = false := by simpa using hc
    simp only [Bool.not_and] at key
    by_cases hl : s.limited f cls idx lim = true <;>
      simp [State.raiseC, State.active, State.setJnl, State.journal, hc', hl, hne, List.any_filter, key]

/-- A cleared fault is not active. -/
theorem State.active_clearFault (s : State) (f : FaultId) (idx : Nat) : (s.clearFault f idx).active f idx = false := by
  unfold State.clearFault
  split
  · simp only [State.active, State.journal, State.setJnl, List.any_filter, List.any_eq_false]
    intro x _
    cases (x.f == f && x.idx == idx) <;> simp
  · next h =>
    simp only [State.active]
    rw [List.find?_eq_none] at h
    simpa [List.any_eq_false] using h

end Sys2Proof.Machine
end

