-- ==== Sys2Proof/Laws/Bus.lean ====
section
/-! SUPPORT. What a granted register access does, and what answers a command. -/

set_option Elab.async false

namespace Sys2Proof.Machine

@[simp] theorem State.dropHeld_regs (s : State) (c a : Nat) : (s.dropHeld c a).regs = s.regs := by
  unfold State.dropHeld; dsimp only; split
  · split <;> rfl
  · rfl

theorem State.dropHeld_eq (s : State) (c a : Nat) : ∃ x, s.dropHeld c a = { s with bus := { s.bus with shadow := x } } := by
  unfold State.dropHeld; dsimp only; split
  · split
    · exact ⟨_, rfl⟩
    · exact ⟨_, rfl⟩
  · exact ⟨_, rfl⟩

theorem laneMask_word {a : Nat} (h : a % 4 = 0) : laneMask a 4 = 0xFFFFFFFF := by
  simp only [laneMask, h]; rfl

/-- A granted 32-bit write of a register that is neither in a 64-bit pair nor in a route entry writes the whole word. -/
theorem State.busPut_granted {s : State} {a : Acc} {r : Reg} {i : Nat} (h : s.granted a r i) (v : Nat) (h1 : routeReg r = false)
    (h2 : atomicHigh r = none) (h3 : atomicLow r = none) :
    s.busPut a r i v = (((s.dropHeld (s.who a).code (r.addr i)).putWord (s.who a).code r i (BitVec.ofNat 32 v)).1.answer (.ok 0)).1 := by
  obtain ⟨ha, hm, ht, hs, he⟩ := h
  have h4 : r.addr i % 4 = 0 := by
    by_contra hc
    unfold State.stop at hs
    simp [hc] at hs
  have h5 : r.addr i / 4 * 4 = r.addr i := by omega
  obtain ⟨x, hx⟩ := s.dropHeld_eq (s.who a).code (r.addr i)
  have hs' : (s.dropHeld (s.who a).code (r.addr i)).stop (s.who a) (r.addr i) 4 true (.reg r i) = none := by
    rw [hx]; exact hs
  have he' : (s.dropHeld (s.who a).code (r.addr i)).ethDark (r, i) = false := by rw [hx]; exact he
  unfold State.busPut State.busWrite State.busWho
  simp only [hm, ha, Bool.not_true, Bool.or_false, Bool.false_eq_true, if_false, Width.bytes, State.access, h5, ht, hs', if_true,
    State.writeAt, he', laneMask_word h4, beq_self_eq_true, State.writeReg, h1, h2, h3, reduceCtorEq,
    Bool.false_and]

theorem State.busPut_wrote {s : State} {a : Acc} {r : Reg} {i : Nat} (h : s.granted a r i) (v : Nat) (h1 : routeReg r = false)
    (h2 : atomicHigh r = none) (h3 : atomicLow r = none) :
    s.busPut a r i v = s.wrote a r i fun s => s.put (s.who a).code r i (BitVec.ofNat 32 v) 0xFFFFFFFF := by
  have hw : ((s.dropHeld (s.who a).code (r.addr i)).who a).code = (s.who a).code := by cases h : a.m <;> simp [State.who, h]
  rw [State.busPut_granted h v h1 h2 h3, State.wrote, State.putWord, hw]
  split <;> rfl

theorem ones_and (x : Word) : (0xFFFFFFFF : Word) &&& x = x := by
  rw [show (0xFFFFFFFF : Word) = BitVec.allOnes 32 from rfl, BitVec.allOnes_and]

theorem State.merge_full (s : State) (r : Reg) (i : Nat) (w : Word) :
    s.merge r i w 0xFFFFFFFF = ((s.before r i &&& ~~~r.tyMask FTy.sets) ||| (w &&& r.tyMask FTy.sets)) &&& ~~~(w &&& r.tyMask FTy.clears) := by
  simp only [State.merge, ones_and, BitVec.and_assoc]

/-- A field that a full write sets takes its value from the data. -/
theorem Fld.of_merge (s : State) {f : Fld} {r : Reg} (i : Nat) (w : Word)
    (h1 : ∀ j < f.w, (r.tyMask FTy.sets).getLsbD (f.lsb + j) = true)
    (h2 : ∀ j < f.w, (r.tyMask FTy.clears).getLsbD (f.lsb + j) = false) :
    f.of (s.merge r i w 0xFFFFFFFF) = f.of w := by
  have key : (s.merge r i w 0xFFFFFFFF).extractLsb' f.lsb f.w = w.extractLsb' f.lsb f.w := by
    apply BitVec.eq_of_getLsbD_eq
    intro j hj
    rw [State.merge_full]
    simp only [BitVec.getLsbD_extractLsb', BitVec.getLsbD_and, BitVec.getLsbD_or, BitVec.getLsbD_not, h1 j hj, h2 j hj]
    by_cases c : f.lsb + j < 32
    · simp [c]
    · simp [c, BitVec.getLsbD_of_ge _ _ (Nat.le_of_not_lt c)]
  have e : ∀ x : Word, f.of x = (x.extractLsb' f.lsb f.w).toNat := by
    intro x; simp [Fld.of, BitVec.extractLsb'_toNat, Nat.shiftRight_eq_div_pow]
  rw [e, e, key]

/-- A command field of one bit is triggered by the data's bit. -/
theorem Fld.on_fired {f : Fld} {r : Reg} (w : Word) (hw : f.w = 1) (h : (r.tyMask FTy.fires).getLsbD f.lsb = true) :
    f.on (r.fired w 0xFFFFFFFF) = w.getLsbD f.lsb := by
  have k : (r.fired w 0xFFFFFFFF).getLsbD f.lsb = w.getLsbD f.lsb := by
    rw [Reg.fired, BitVec.and_assoc, ones_and, BitVec.getLsbD_and, h, Bool.and_true]
  rw [← k, Fld.on, Fld.of, hw, BitVec.getLsbD, Nat.testBit_eq_decide_div_mod_eq]
  generalize (r.fired w 0xFFFFFFFF).toNat / 2 ^ f.lsb = n
  rcases Nat.mod_two_eq_zero_or_one n with h | h <;> simp [h]

@[simp] theorem State.answer_fst (s : State) (x : BusAnswer) : (s.answer x).1 = s.setBus { s.bus with answer := x } := rfl

end Sys2Proof.Machine
end

