-- ==== Sys2Proof/Laws/Crypto.lean ====
section
/-! SUPPORT. The tables of the S-box hold what FIPS 197 defines. -/

namespace Sys2Proof.Machine

/-- The table of SubBytes agrees with its definition on every byte. -/
theorem sbox_eq : ∀ a < 256, sbox a = subByte a := by decide +kernel

/-- The table of InvSubBytes agrees with its definition on every byte. -/
theorem sboxInv_eq : ∀ a < 256, sboxInv a = subByteInv a := by decide +kernel

end Sys2Proof.Machine
end

