-- ==== Sys2Proof/Laws/Step.lean ====
section
/-! SUPPORT. The form of every next state, and how a completion is shown. -/

set_option Elab.async false

namespace Sys2Proof.Machine

theorem State.run_completes {c : Instr} {s : State} {f : State → State} {P : State → Prop}
    (h : exec c s = .next (s.run f)) (hp : P (f s)) : Completes c s P := ⟨f s, h, hp⟩

/-- An event of a powered domain. -/
theorem State.runOn_completes {c : Instr} {s : State} {f : State → State} {P : State → Prop}
    (h : exec c s = .next (s.runOn f)) (ha : s.awake = true) (hp : P (f s)) : Completes c s P :=
  ⟨f s, by rw [h, State.runOn, State.run, State.when, if_pos ha], hp⟩

theorem State.run_next {c : Instr} {s e : State} {f : State → State} (h : exec c s = .next (s.run f)) (he : f s = e) :
    exec c s = .next (State.finish s e) := by rw [h, State.run, he]

theorem State.runOn_next {c : Instr} {s e : State} {f : State → State} (h : exec c s = .next (s.runOn f)) (ha : s.awake = true)
    (he : f s = e) : exec c s = .next (State.finish s e) := by rw [h, State.runOn, State.run, State.when, if_pos ha, he]

/-- Every next state of `exec` is what `State.finish` makes of a state. -/
theorem exec_finish {c : Instr} {s t : State} (h : exec c s = .next t) : ∃ u, t = State.finish s u := by
  cases c <;> simp only [exec] at h
  case canFrameReceived =>
    unfold execCanFrameReceived at h; split at h <;> first | (obtain rfl := Host.Outcome.next.inj h; exact ⟨_, rfl⟩) | cases h
  case canSelectiveWake =>
    unfold execCanSelectiveWake at h; split at h <;> first | (obtain rfl := Host.Outcome.next.inj h; exact ⟨_, rfl⟩) | cases h
  all_goals (obtain rfl := Host.Outcome.next.inj h; exact ⟨_, rfl⟩)

/-- A state in which nothing is due stays as the command left it. -/
theorem State.finish_quiet {s u : State} (h : s.quiet u) : State.finish s u = u := by
  obtain ⟨h1, h2, h3, h4, h5, h6, r1, r2, r3, r4, h7, h8, h9⟩ := h
  have a1 : ¬ (u.mode' = 7 ∧ (s.mode' ≠ 7 ∨ u.mode.rom = true)) := by
    rw [h2, h9]; exact fun h => h.2.elim (fun k => k h.1) (fun k => absurd k (by decide))
  have a2 : ¬ (u.mode' = 6 ∧ (!u.serviceOpen) = true ∧ (!u.cust.dbg.service) = true) := by
    rintro ⟨x, y, _⟩; rw [h3 x] at y; exact absurd y (by decide)
  have a3 : ¬ (s.mode' = 4 ∧ u.mode' ≠ 4) := by rw [h2]; exact fun h => h.2 h.1
  have a4 : ¬ (s.mode' = 6 ∧ u.mode' ≠ 6) := by rw [h2]; exact fun h => h.2 h.1
  have a5 : ¬ ((u.jnl.flushReq && !u.flag F.SYS_LOAD_C5_DEFER) = true) := by
    intro h; rw [Bool.and_eq_true] at h; rw [h8 h.1] at h; exact absurd h.2 (by decide)
  have a6 : u.okClock = u := by
    unfold State.okClock; rw [h6]; cases hk : u.nm.okSince <;> simp
  unfold State.finish State.follow
  simp only [h1, if_neg a1, if_neg a2, if_neg a3, if_neg a4, h4, h5, a6, r1, r2, r3, r4, h7, if_neg a5]

/-! ## What `State.finish` settles -/

theorem State.debugEnd_asleep {s : State} (h : s.cust.dbg.service = false) :
    s.debugEnd.regs = s.regs ∧ s.debugEnd.cust.dbg.mode = s.cust.dbg.mode ∧ s.debugEnd.cust.dbg.service = false ∧ s.debugEnd.od = s.od := by
  unfold State.debugEnd
  simp only [h, Bool.false_and, Bool.false_eq_true, if_false]
  split <;> simp [State.setDbg, State.setCust]

/-- The judgement of the debug level changes no register and no session. -/
theorem State.dbgMode_frame (s : State) : s.dbgMode.regs = s.regs ∧ s.dbgMode.od = s.od ∧ s.dbgMode.cust.dbg.mode = s.mode' ∧
    s.dbgMode.cust.dbg.service = (s.cust.dbg.service && s.mode' == 6) := by
  unfold State.dbgMode
  dsimp only
  split
  · exact ⟨rfl, rfl, rfl, rfl⟩
  · split
    · rename_i h
      have h6 : s.mode' ≠ 6 := by
        intro e
        have : s.awake = true := by unfold State.awake; rw [e]; rfl
        rw [this] at h; exact absurd h (by decide)
      have hs : (s.cust.dbg.service && s.mode' == 6) = false := by
        rw [show (s.mode' == 6) = false from beq_eq_false_iff_ne.mpr h6, Bool.and_false]
      obtain ⟨a, b, c, d⟩ := State.debugEnd_asleep (s := s.setDbg { s.cust.dbg with mode := s.mode', service := s.cust.dbg.service && s.mode' == 6 }) hs
      exact ⟨a, d, b, by rw [c, hs]⟩
    · split
      · exact ⟨rfl, rfl, rfl, rfl⟩
      · refine ⟨?_, ?_, ?_, ?_⟩ <;> simp [State.setDbg, State.setCust]

theorem State.trialWatch_frame (s : State) : s.trialWatch.regs = s.regs ∧ s.trialWatch.od = s.od ∧ s.trialWatch.cust = s.cust := by
  unfold State.trialWatch
  dsimp only
  repeat' split
  all_goals exact ⟨rfl, rfl, rfl⟩

theorem State.okClock_eq (s : State) : ∃ n, s.okClock = { s with nm := n } := by
  unfold State.okClock; split <;> split <;> exact ⟨_, rfl⟩

/-- The mode, the sessions, and what the debug port holds of the mode, after any command. -/
theorem State.finish_debug (s u : State) : (State.finish s u).mode' = (s.follow u).mode' ∧ (State.finish s u).od = (s.follow u).od ∧
    (State.finish s u).cust.dbg.mode = (s.follow u).mode' ∧
    (State.finish s u).cust.dbg.service = ((s.follow u).cust.dbg.service && (s.follow u).mode' == 6) := by
  unfold State.finish
  generalize s.follow u = w
  obtain ⟨n, h⟩ := w.dbgMode.trialWatch.okClock_eq
  obtain ⟨a, b, c, d⟩ := w.dbgMode_frame
  obtain ⟨a', b', c'⟩ := w.dbgMode.trialWatch_frame
  rw [h]
  exact ⟨State.mode'_congr (a'.trans a), b'.trans b, (congrArg (·.dbg.mode) c').trans c, (congrArg (·.dbg.service) c').trans d⟩

end Sys2Proof.Machine
end

