-- ==== Sys2Proof/Laws/Mode.lean ====
section
/-! SUPPORT. What turning every output off leaves of two registers: the mode, and the commanded state of the switch channels. -/

set_option Elab.async false

namespace Sys2Proof.Machine

/-- A register that the output stages do not write. -/
def Reg.aside (r : Reg) : Prop := r = .SYS_MODE ∨ r = .SW_OUT

section
variable {r : Reg} {i : Nat}

theorem State.each_keeps {α β : Type} (s : State) (l : List α) (f : State → α → State) (g : State → β)
    (h : ∀ s a, g (f s a) = g s) : g (s.each l f) = g s := by
  induction l generalizing s with
  | nil => rfl
  | cons a l ih => exact (ih (f s a)).trans (h s a)

theorem State.setFld_aside (hr : r.aside) (s : State) (f : Fld) (j v : Nat) (h1 : f.reg ≠ .SYS_MODE) (h2 : f.reg ≠ .SW_OUT) :
    (s.setFld f j v).rd r i = s.rd r i := by
  refine State.rd_setFld_ne s fun e => ?_
  have e := congrArg Prod.fst e
  rcases hr with rfl | rfl
  · exact h1 e.symm
  · exact h2 e.symm

theorem State.setFlag_aside (hr : r.aside) (s : State) (f : Fld) (j : Nat) (b : Bool) (h1 : f.reg ≠ .SYS_MODE) (h2 : f.reg ≠ .SW_OUT) :
    (s.setFlag f j b).rd r i = s.rd r i := State.setFld_aside hr s f j _ h1 h2

theorem State.dropL1_aside (hr : r.aside) (s : State) (c : Nat) : (s.dropL1 c).rd r i = s.rd r i := by
  have h : ∀ v, (s.putHold c .l1 v).rd r i = s.rd r i := fun v => State.setFlag_aside hr _ _ _ _ (by decide) (by decide)
  unfold State.dropL1
  dsimp only
  split
  · split
    · exact h _
    · rw [State.rd_congr (State.clearFault_regs _ _ _)]; exact h _
  · rfl

theorem State.ledDuty_aside (hr : r.aside) (s : State) (n d : Nat) : (s.ledDuty n d).rd r i = s.rd r i := by
  unfold State.ledDuty
  dsimp only
  rw [State.setFlag_aside hr _ _ _ _ (by decide) (by decide), State.setFlag_aside hr _ _ _ _ (by decide) (by decide),
    State.setFld_aside hr _ _ _ _ (by decide) (by decide)]
  rfl

theorem State.ledCut_aside (hr : r.aside) (s : State) (n : Nat) : (s.ledCut n).rd r i = s.rd r i := by
  unfold State.ledCut
  rw [State.ledDuty_aside hr]
  rfl

theorem State.fadeEnd_aside (hr : r.aside) (s : State) (n : Nat) : (s.fadeEnd n).rd r i = s.rd r i := by
  unfold State.fadeEnd
  split
  · rfl
  · rw [State.setFlag_aside hr _ _ _ _ (by decide) (by decide)]; rfl

theorem State.ledOff_aside (hr : r.aside) (s : State) (n : Nat) : (s.ledOff n).rd r i = s.rd r i := by
  unfold State.ledOff
  rw [State.ledCut_aside hr, State.setFlag_aside hr _ _ _ _ (by decide) (by decide)]
  rfl

theorem State.ledRefresh_aside (hr : r.aside) (s : State) (n : Nat) : (s.ledRefresh n).rd r i = s.rd r i := by
  unfold State.ledRefresh
  extract_lets _ shut off rfx _ s1
  have h1 : s1.rd r i = s.rd r i := by
    simp only [s1]
    split
    · rfl
    · split
      · rw [State.setFlag_aside hr _ _ _ _ (by decide) (by decide)]; rfl
      · split
        · exact State.fadeEnd_aside hr s n
        · rfl
  split
  · rw [State.ledCut_aside hr, h1]
  · exact h1

theorem State.allLedsOff_aside (hr : r.aside) (s : State) : s.allLedsOff.rd r i = s.rd r i :=
  State.each_keeps s _ _ (fun s => s.rd r i) fun s n => by
    rw [State.ledOff_aside hr, State.setFld_aside hr _ _ _ _ (by decide) (by decide)]

theorem State.putHold_aside (hr : r.aside) (s : State) (n : Nat) (h : Hold) (v : Bool) : (s.putHold n h v).rd r i = s.rd r i := by
  unfold State.putHold
  cases h <;> first | exact State.setFlag_aside hr _ _ _ _ (by decide) (by decide) | rfl

theorem State.setSwc_rd (s : State) (c : Nat) (x : SwCh) (r : Reg) (i : Nat) : (s.setSwc c x).rd r i = s.rd r i := rfl

theorem State.freezeInrush_aside (hr : r.aside) (s : State) (c : Nat) : (s.freezeInrush c).rd r i = s.rd r i := by
  unfold State.freezeInrush
  dsimp only
  split
  · refine (State.setSwc_rd _ _ _ _ _).trans ?_
    rw [State.setFlag_aside hr _ _ _ _ (by decide) (by decide), State.setFlag_aside hr _ _ _ _ (by decide) (by decide)]
  · split
    · refine (State.setSwc_rd _ _ _ _ _).trans ?_
      rw [State.setFlag_aside hr _ _ _ _ (by decide) (by decide)]
    · rfl

theorem State.stage_aside (hr : r.aside) (s : State) (d : Drive) (c : Nat) : (s.stage d c).rd r i = s.rd r i := by
  have e : ∀ (t : State) (p : Bool), State.rd (if p then t.setFlag F.CAL_CH_DSTAT_PULLUP c false else t) r i = t.rd r i := fun t p => by
    cases p
    · rfl
    · exact State.setFlag_aside hr _ _ _ _ (by decide) (by decide)
  have f : ∀ x, State.rd ((s.setSwc c x).freezeInrush c) r i = s.rd r i := fun x => (State.freezeInrush_aside hr _ c).trans rfl
  unfold State.stage
  extract_lets _ y x s1 s2
  have g : s2.rd r i = s.rd r i := (e s1 _).trans (f x)
  split
  · rw [State.setFlag_aside hr _ _ _ _ (by decide) (by decide), State.setFlag_aside hr _ _ _ _ (by decide) (by decide),
      State.setFlag_aside hr _ _ _ _ (by decide) (by decide), State.setFld_aside hr _ _ _ _ (by decide) (by decide), g]
  · split
    · rw [State.setFld_aside hr _ _ _ _ (by decide) (by decide), g]
    · exact g

theorem State.refresh_aside (hr : r.aside) (s : State) (n : Nat) : (s.refresh n).rd r i = s.rd r i :=
  State.each_keeps s _ _ (fun s => s.rd r i) fun s _ => State.stage_aside hr s _ _

theorem State.doRefresh_aside (hr : r.aside) (s : State) (m : Nat) : (s.doRefresh m).rd r i = s.rd r i :=
  State.setFld_aside hr _ _ _ _ (by decide) (by decide)

theorem State.dioRefresh_aside (hr : r.aside) (s : State) : s.dioRefresh.rd r i = s.rd r i := by
  unfold State.dioRefresh
  dsimp only
  rw [State.setFlag_aside hr _ _ _ _ (by decide) (by decide)]
  exact State.each_keeps s _ _ (fun s => s.rd r i) fun s m => State.doRefresh_aside hr s m

theorem State.bump_aside (hr : r.aside) (s : State) (f : Fld) (j : Nat) (h1 : f.reg ≠ .SYS_MODE) (h2 : f.reg ≠ .SW_OUT) :
    (s.bump f j).rd r i = s.rd r i := State.setFld_aside hr s f j _ h1 h2

theorem State.eveResult_aside (hr : r.aside) (s : State) (k a b c : Nat) : (s.eveResult k a b c).rd r i = s.rd r i := by
  have h5 : ∀ (t : State) (k : Nat), (t.freeEnt k).rd r i = t.rd r i := fun t k => State.rd_congr (State.clearFault_regs _ _ _) r i
  have h1 : ∀ (t : State) (b : Bool), (if b then t.setFlag F.EVE_RES_PTR_OVF else t).rd r i = t.rd r i := fun t b => by
    cases b
    · rfl
    · exact State.setFlag_aside hr t _ _ _ (by decide) (by decide)
  have hb : ∀ (t : State) (a : Nat) (l : List Byte), (t.setBytes a l).rd r i = t.rd r i := fun t a l => by
    induction l generalizing t a with
    | nil => rfl
    | cons x l ih => exact (ih _ _).trans rfl
  have hE : ∀ (t : State) (e : EveSt), (t.setEve e).rd r i = t.rd r i := fun _ _ => rfl
  have h2 : ∀ (t : State) (a v : Nat) (l : List Byte), ((t.setBytes a l).setFld F.EVE_RES_PTR_WR 0 v).rd r i = t.rd r i := fun t a v l =>
    (State.setFld_aside hr _ _ _ _ (by decide) (by decide)).trans (hb t a l)
  unfold State.eveResult
  split
  · rfl
  · dsimp only
    rw [h5, hE, h2, h1]

theorem State.valveResult_aside (hr : r.aside) (s : State) (n : Nat) (ev : ValveEv) (a b c d : Nat) :
    (s.valveResult n ev a b c d).rd r i = s.rd r i := by
  have h : ∀ t : State, State.rd (match ev.ent with | some e => t.eveResult e a d (Nat.min c 65535) | none => t) r i = t.rd r i := by
    intro t
    cases ev.ent
    · rfl
    · exact State.eveResult_aside hr _ _ _ _ _
  unfold State.valveResult
  refine (h _).trans ?_
  split
  · rw [State.rd_congr (State.raise_regs _ _ _ _ _), State.setFlag_aside hr _ _ _ _ (by decide) (by decide),
      State.bump_aside hr _ _ _ (by decide) (by decide), State.setFld_aside hr _ _ _ _ (by decide) (by decide),
      State.setFld_aside hr _ _ _ _ (by decide) (by decide), State.setFld_aside hr _ _ _ _ (by decide) (by decide),
      State.setFld_aside hr _ _ _ _ (by decide) (by decide), State.setFld_aside hr _ _ _ _ (by decide) (by decide)]
  · rw [State.setFld_aside hr _ _ _ _ (by decide) (by decide),
      State.setFld_aside hr _ _ _ _ (by decide) (by decide), State.setFld_aside hr _ _ _ _ (by decide) (by decide),
      State.setFld_aside hr _ _ _ _ (by decide) (by decide), State.setFld_aside hr _ _ _ _ (by decide) (by decide)]

theorem State.toDecay_aside (s : State) (n a : Nat) (b : Bool) : (s.toDecay n a b).rd r i = s.rd r i := by
  unfold State.toDecay
  repeat' split
  all_goals rfl

theorem State.rejectWait_aside (hr : r.aside) (s : State) (n code : Nat) : (s.rejectWait n code).rd r i = s.rd r i := by
  unfold State.rejectWait
  split
  · exact (State.valveResult_aside hr _ _ _ _ _ _ _).trans rfl
  · rfl

theorem State.valveCut_aside (hr : r.aside) (s : State) (n code : Nat) : (s.valveCut n code).rd r i = s.rd r i := by
  unfold State.valveCut
  rw [State.rejectWait_aside hr, State.toDecay_aside]

theorem State.beginPhase_aside (s : State) (n k : Nat) : (s.beginPhase n k).rd r i = s.rd r i := by
  unfold State.beginPhase
  split
  · dsimp only
    split
    · exact (State.toDecay_aside _ n 0 false).trans rfl
    · repeat' split
      all_goals rfl
  · rfl

theorem State.valveAdmit_aside (hr : r.aside) (s : State) (n : Nat) (ev : ValveEv) : (s.valveAdmit n ev).rd r i = s.rd r i := by
  unfold State.valveAdmit
  dsimp only
  refine (State.beginPhase_aside _ n 0).trans ?_
  show State.rd (if ev.req < s.now then s.bump F.INJ_CH_CNT_DEFER n else s) r i = _
  split
  · exact State.bump_aside hr _ _ _ (by decide) (by decide)
  · rfl

theorem State.checkList_aside (hr : r.aside) (b : Nat) (arr : Option Nat) (l : List (Nat × ValveEv)) :
    ∀ (s : State) (blocked : Option Nat), (s.checkList b arr l blocked).rd r i = s.rd r i := by
  induction l with
  | nil => exact fun s _ => rfl
  | cons x l ih =>
    intro s blocked
    unfold State.checkList
    dsimp only
    repeat' split
    all_goals first
      | exact ih _ _
      | exact (ih _ _).trans (State.rejectWait_aside hr _ _ _)
      | exact (ih _ _).trans (State.valveAdmit_aside hr _ _ _)

theorem State.bankCheck_aside (hr : r.aside) (s : State) (b : Nat) : (s.bankCheck b).rd r i = s.rd r i :=
  State.checkList_aside hr b none _ s none

theorem State.valveStop_aside (hr : r.aside) (s : State) (n code : Nat) : (s.valveStop n code).rd r i = s.rd r i :=
  (State.bankCheck_aside hr _ _).trans (State.valveCut_aside hr s n code)

theorem State.outRefresh_aside (hr : r.aside) (s : State) (n : Nat) : (s.outRefresh n).rd r i = s.rd r i := by
  unfold State.outRefresh
  repeat' split
  · exact State.refresh_aside hr s n
  · exact State.valveStop_aside hr s _ _
  · rfl
  · exact State.ledRefresh_aside hr s _
  · exact State.doRefresh_aside hr s _

theorem State.bollFaults_aside (s : State) : s.bollFaults.rd r i = s.rd r i := by
  unfold State.bollFaults
  dsimp only
  have h : ∀ (p : Nat → Bool), (s.each (List.range 4) fun s t => if p t then s else s.clearFault .BOLL_SILENCE t).rd r i = s.rd r i :=
    fun p => State.each_keeps s _ _ (fun s => s.rd r i) fun s t => by
      split
      · rfl
      · exact State.rd_congr (State.clearFault_regs _ _ _) r i
  split
  · exact h _
  · rw [State.rd_congr (State.clearFault_regs _ _ _)]; exact h _

theorem State.governanceEnds_aside (hr : r.aside) (s : State) : s.governanceEnds.rd r i = s.rd r i := by
  unfold State.governanceEnds
  dsimp only
  rw [State.bollFaults_aside]
  refine (State.each_keeps _ _ (fun s t => s.setSilc t { s.silc t with exp := false }) (fun s => s.rd r i) fun s t => rfl).trans ?_
  exact State.each_keeps _ _ _ (fun s => s.rd r i) fun s k => by
    unfold State.release
    rw [State.outRefresh_aside hr]
    rfl

theorem State.silPause_aside (s : State) : s.silPause.rd r i = s.rd r i :=
  State.each_keeps s _ _ (fun s => s.rd r i) fun s t => by
    dsimp only
    split <;> rfl

end

/-- A command for OFF, seen from a register aside: SW_OUT of the channel alone. -/
theorem State.command_rd {r : Reg} {i : Nat} (hr : r.aside) (s : State) (n mode duty : Nat) (d : Option Nat) :
    (s.command n mode duty d).rd r i = (s.wr .SW_OUT n (F.SW_OUT_MODE.into (F.SW_OUT_DUTY.into 0 duty) mode)).rd r i := by
  unfold State.command
  dsimp only
  split
  · rfl
  · rw [State.refresh_aside hr]
    exact State.each_keeps _ _ _ (fun s => s.rd r i) fun s c => by
      split
      · rw [State.dropL1_aside hr]; rfl
      · rfl

theorem State.allSwitchesOff_mode (s : State) : s.allSwitchesOff.rd .SYS_MODE 0 = s.rd .SYS_MODE 0 :=
  State.each_keeps s _ _ (fun s => s.rd .SYS_MODE 0) fun s n => by
    rw [State.command_rd (.inl rfl)]
    exact State.rd_wr_ne s _ (fun e => nomatch (congrArg Prod.fst e : Reg.SYS_MODE = Reg.SW_OUT))

theorem State.commandsOff_mode (s : State) : s.commandsOff.rd .SYS_MODE 0 = s.rd .SYS_MODE 0 := by
  unfold State.commandsOff
  dsimp only
  rw [State.allLedsOff_aside (.inl rfl), State.dioRefresh_aside (.inl rfl), State.setFld_aside (.inl rfl) _ _ _ _ (by decide) (by decide),
    State.allSwitchesOff_mode]

theorem State.sleepEnds_fld (s : State) (f : Fld) (i : Nat) : s.sleepEnds.fld f i = s.fld f i := rfl

theorem State.setMode_mode (s : State) {m : Nat} (h : m < 8) : (s.setMode m).mode' = m := by
  unfold State.setMode State.mode'
  rw [State.sleepEnds_fld]
  rw [State.fld_setFld_same _ (show F.SYS_MODE_MODE.lsb + F.SYS_MODE_MODE.w ≤ 32 by decide)]
  exact Nat.mod_eq_of_lt h

/-- Entering Configure leaves the module in Configure. -/
theorem State.enterConfigure_mode (s : State) : s.enterConfigure.mode' = 3 := by
  unfold State.enterConfigure
  split
  · refine Eq.trans ?_ (State.setMode_mode s.valvesOff.clearStore (m := 3) (by decide))
    unfold State.mode' State.fld
    rw [State.governanceEnds_aside (.inl rfl), State.commandsOff_mode, State.silPause_aside]
  · exact State.setMode_mode s (by decide)

end Sys2Proof.Machine
end

