-- ==== Sys2Proof/Tests/Slice0.lean ====
section
/-! SUPPORT. The model's own tests: small steps on small states, the smoke test of WellFormed, and states that meet the hypotheses of the
statements. -/

set_option Elab.async false

open Sys2Proof Sys2Proof.Machine

/-! ## Small states -/

/-- Reset with the mode `m`. -/
def tOn (m : Nat) : State := State.reset.setFld F.SYS_MODE_MODE 0 m
/-- CPU A as a secure master. -/
def tCpu : Acc := { m := .cpuA, sec := true }
def tMis : State := { tOn 4 with clk := { bMis := some 0 } }
def tDown : State := { tOn 4 with clk := { aDown := some 0 } }
def tNode : State := { tOn 4 with od := { nodes := [(0, 5)] } }
def tDefer : State := { tOn 4 with jnl := { deferSince := some 0 } }
def tHot : State := { tOn 4 with jnl := { active := [⟨.PLATE_HOT, 0, 1, 0⟩] } }
def tPar : State := { tOn 4 with bus := { par := [((.SYS_CFG, 0), false)] } }
def tHrp : State := (tOn 4).setFlag F.SYS_HRP_CTRL_EN
def tHrpOpen : State := { tHrp with bus := { hrp := { session := true } } }
def tHrpLock : State := { tHrp with bus := { hrp := { lockUntil := some 5 } } }
/-- A frame of the host register port: opcode, address, count, data (R75). -/
def tFrm (op addr n : Nat) (data : List Byte) : List Byte :=
  let h := leBytes 1 op ++ leBytes 4 addr ++ leBytes 1 (n - 1)
  h ++ leBytes 2 (crc16 h) ++ if data = [] then [] else data ++ leBytes 2 (crc16 data)
def tTag : List Byte := hmacSha256 [1] ([2] ++ serialBytes ++ [1])
def tPend : State := { tOn 4 with jnl := { pend := [{}] } }
def tWait : State := { tOn 4 with jnl := { wait := [0], flushReq := true } }
def tFlush : State := { tOn 4 with jnl := { flushing := [0] } }
def tExp : State := { tOn 4 with jnl := { active := [⟨.MODE_REFUSED, 0, 1, 0⟩] } }
def tBoot (recov : Bool) : State := { State.reset with mode := { started := true }, pins := { recov := recov } }
def tPre : State := { tOn 4 with berth := { prechgMated := true } }
def tPre1 : State := { tOn 4 with berth := { prechgMated := true, probes := [(3, (1, 0))] } }
def tSlot : State := { tOn 4 with berth := { held := some 61 } }
def tRaise : State := { tOn 4 with berth := { raise := [(1, [(100, 0)])] } }
def tExtr : State := (tOn 4).setFld F.BERTH_STAT_STATE 0 2
def tExtrM : State := tExtr.setFld F.BERTH_STAT_MATED 0 1
def tCommit : State := { tOn 4 with berth := { commit := [(0, [])] } }
def tSleepy : State := { (tOn 3).setFld F.BERTH_STAT_STATE 0 1 with nm := { okSince := some 0 } }
def tSleeping : State := { tOn 3 with mode := { sleeping := true } }
def tFed : State := (tOn 4).setBit F.BERTH_SUP_STAT_PRESENT 0 1
def tRest : State := { tOn 4 with sup := { restoring := [(1, 0)] } }
def tJob : State := { tOn 4 with od := { jobs := [{ who := [(.sdo 0, 0, 0)] }] } }
def tPwm : State := { tOn 4 with sw := [(0, { drive := { mode := 2, period := 200000 }, st := 3 })] }
/-- OUT00 waits for its first period in PWM, and in PWM with compensation. -/
def tPwm1 : State := { (tOn 4).setFld F.SW_OUT_MODE 0 2 with sw := [(0, { drive := { mode := 2, period := 200000 }, st := 3, sup := false })] }
def tPwm2 : State :=
  { (((tOn 4).setFld F.SW_OUT_MODE 0 3).setFld F.SW_OUT_DUTY 0 4000).setFld F.SW_CTRL_VREF 0 280 with
    sw := [(0, { drive := { mode := 3, duty := 4000, period := 200000 }, st := 3, sup := false })] }
def tInr : State := { tOn 4 with sw := [(9, { inrush := some 100 })] }
def tDelay : State := { tOn 4 with sw := [(9, { delay := some 100 })] }
/-- OUT00 is ON. -/
def tLit : State := { (tOn 4).setFld F.SW_OUT_MODE 0 1 with sw := [(0, { drive := { mode := 1 }, st := 1, sup := false })] }
def tPol : State := { (tOn 4).setFlag F.PROT_STAT_FT 5 with sw := [(5, { policy := 1, sup := false, tc := 0, ts := 0 })] }
def tPolHot : State := tPol.setFld F.SW_TEMP_TJ 5 100
def tFl : State := { tOn 4 with fl := [(1, { hold := some 100 })] }
def tShed : State := { tOn 4 with fl := [(1, { shed := [2], below := some 0 })] }
def tSag : State := { tOn 4 with fl := [(1, { sagAt := some 0 })] }
def tWin : State := { ((tOn 4).setFld F.BERTH_STAT_STATE 0 1).setFlag F.CAL_CTRL_SENSE_EN with now := 1000000000, sw := [(9, { sup := false })] }
def tWin2 : State := { tOn 4 with sw := [(9, { win := some { at0 := 0 } })] }
def tCalOn : State :=
  { (((tOn 4).setFld F.BERTH_STAT_STATE 0 1).setFlag F.CAL_CTRL_SENSE_EN).setFld F.SW_LIMIT_LIMIT 10 20 with
    sw := [(10, { st := 1, drive := { mode := 1 }, win := some { at0 := 0, gs := [0, 200000, 400000, 600000] }, sup := false })] }
def tCalPair : State := { tCalOn.setFld F.SW_GLB_PAIR_PAIR 0 32 with sw := tCalOn.sw ++ [(11, { sup := false })] }
def tBst : State := { ((tOn 4).setFlag F.INJ_BST_STAT_RUN 1).setFld F.INJ_BST_CFG_VTGT 1 650 with inj := { enAt := [(1, 40)] } }
def tRun : ValveRun := { ev := ⟨none, 1, 2000, 0⟩, hdr := 0x00640000, cmdEnd := 2000000 }
def tValve (r : ValveRun) : State := { tOn 4 with inj := { ch := [(23, { run := some r })] } }
def tClose : State :=
  ((tValve { tRun with decay := true, hdr := 0x08000020 }).setFld F.INJ_CH_CLWIN_START 23 20).setFld F.INJ_CH_CLWIN_END 23 40
/-- A decay whose voltage steps 30 µs after its start. -/
def tKink : Decay := { volts := List.replicate 60 0 ++ List.replicate 40 1000 }
def tEnt : EvEnt := { st := 1, gen := 2, target := 87, value := 1, dur := 50, start := 0, src := 0 }
def tEve (e : EvEnt) : State := { tOn 4 with eve := { store := [(5, e)] } }
def tEveSw (v : Nat) : State :=
  { tOn 4 with eve := { store := [(5, { tEnt with st := 2, target := 9, value := v })] }, sw := [(9, { sup := false })] }
/-- EVE_CMD holds an event for the first valve channel, 1 ms ahead. -/
def tDirect : State :=
  (((((tOn 4).setFlag F.TIDE_STAT_VALID).setFlag F.EVE_CTRL_EN).setFld F.EVE_CMD_SPEC_TARGET 0 64).setFld F.EVE_CMD_DUR_DUR 0 50).wr .EVE_CMD_TLO 0 1000000
def tOpen : State := ((tOn 4).setFlag F.EVE_ST_CTRL_OPEN 7).setFld F.EVE_ST_CTRL_SRC 7 2
def tMove : State :=
  { ((tOpen.setFlag F.TIDE_STAT_VALID).setFlag F.EVE_CTRL_EN).setFld F.EVE_ST_CFG2_VMIN 7 1 with
    eve := { strm := [(7, { recs := [(5, 1, 0)], v := 100 })] } }
def tUnder : State :=
  { (tOpen.setFld F.EVE_ST_CFG2_VMIN 7 1) with eve := { strm := [(7, { v := 100000, odo := 65536 * 9, newest := some 5 })] } }
def tLoss : State := { tOpen with eve := { strm := [(7, { loss := true })] } }
def tFade : State := { tOn 4 with led := [(31, { fade := some { d0 := 0, target := 16383, len := 4 } })] }
def tFade2 : State := { tOn 4 with led := [(31, { fade := some { d0 := 0, target := 16383, len := 8 } })] }
def tLed : State :=
  { ((((tOn 4).setFld F.LEDS_CH_EDUTY_EDUTY 31 8000).setFlag F.LEDS_CH_CFG_DIAG_EN 31).setFlag F.LEDS_CH_CFG_SUP 31 false).setFld
      F.LEDS_CH_CFG_VSHORT 31 120 with
    now := 10000000, led := [(31, { lsupAt := some 0, low := 3, high := 3, ends := [5] })] }
def tFold : State :=
  ((((tOn 4).setFlag F.LEDS_CH_CFG_EN 31).setFld F.LEDS_CH_EDUTY_EDUTY 31 16383).setFld F.LEDS_CH_EDUTY_ISET 31 150).setFld
    F.LEDS_CH_STAT_VSINK 31 1000
def tDo : State := (((tOn 4).setFlag F.DIO_AUX_STAT_UP).setBit F.DIO_DO_STAT_ON 0 15).setBit F.DIO_DO_OUT_ON 0 15 false
def tShedDo : State := (tDo.setFld F.DIO_DO_OUT_ON 0 6).setFld F.DIO_DO_DIAG_SHED 0 6
def tRetV : State :=
  (tShedDo.auxCur 239).each (List.range 16) fun s m => if s.bit F.DIO_DO_OUT_ON 0 m then s else s.setBit F.DIO_DO_DIAG_SHED 0 m false
def tUp : State := ((tOn 4).setBit F.BERTH_SUP_STAT_PRESENT 0 1).setFld F.BERTH_STAT_MATED 0 15
def tSil : State := { (tOn 4).setFld F.BOLL_SIL_TIMEOUT 3 50 with boll := { sil := [(3, { left := 1000, since := some 0, last := some 254 })] } }
/-- CAN port 7 runs, in normal mode. -/
def tCan : State := { ((tOn 4).setFlag F.CAN_CTRL_EN 7).setFld F.CAN_STAT_STATE 7 0 with can := [(7, { xcvr := 1 })] }
def tDet : State := (tCan.setFlag F.CAN_STAT_DET 7).setFld F.CAN_DET_CFG_LAST 7 15
def tDet0 : State := (tCan.setFlag F.CAN_STAT_DET 7).setFld F.CAN_DET_CFG_LAST 7 0
def tBoff : State := ((tOn 4).setFld F.CAN_STAT_STATE 7 2).setFlag F.CAN_CTRL_BO_MAN 7 false
def tTx : State := ((tCan.setBit F.CAN_TXB_STAT_PEND 7 2).setFld F.CAN_ERRCFG_COLL_THR 7 2).setFld F.CAN_STAT_STATE 7 0
def tTimer : State := tCan.setCanc 7 { xcvr := 1, timer := [⟨2, { id := 5, dlc := 0, data := [] }⟩] }
def tTt : State :=
  ((tCan.setFld F.CAN_TT_CFG_ROLE 7 2).setFld F.CAN_TT_STAT_ROLE 7 2).setFlag F.TIDE_STAT_VALID |>.setFlag F.TIDE_STAT_COARSE 0 false
def tArmed (m : Nat) : State :=
  { ((tOn m).setFlag F.CAN_SW_CFG_EN 7).setFlag F.CAN_SW_CFG_WUP 7 with can := [(7, { xcvr := 2 })] }
/-- Ethernet port 3 runs, without a link. -/
def tEth : State := ((tOn 4).setFlag F.ETH_PCTRL_EN 3).setFlag F.ETH_PCTRL_AN_EN 3
def tLink : State := tEth.setFlag F.ETH_PSTAT_LINK 3
def tTc10 : State := (tLink.setFlag F.ETH_PCTRL_TC10_EN 3).setFld F.NM_SEG_STAT_STATE 11 2
def tFrame : List Byte :=
  beBytes 6 0x111111111111 ++ beBytes 6 0x222222222222 ++ beBytes 2 0x8100 ++ beBytes 2 0x2005 ++ beBytes 2 0x0800 ++ List.replicate 42 0
def tPtp (role : Nat) : State :=
  ((tLink.setBit F.TIDE_PTP_CFG_PORT_EN 0 3).setFlag F.TIDE_STAT_VALID).setFld F.TIDE_PTP_STAT_ROLE 0 (64 * role)
def tSrc : State :=
  (((tOn 4).setFld F.TIDE_SRC_SRC0 0 9).setFlag F.CAN_TT_STAT_SYNC 7).setFld F.CAN_TT_STAT_ROLE 7 1
def tAon : State :=
  { ((tOn 4).setFlag F.TIDE_STAT_VALID).setFlag F.TIDE_STAT_COARSE 0 false with tide := { winAt := some (0, 0) } }
/-- Egress ring 31 is bound to CAN port 7 and holds one descriptor of zeros. -/
def tRing : State :=
  ((((((tCan.setFlag F.CAN_CTRL_TXB2_SRC 7).setFlag F.GWY_RING_CFG_EN 31).setFld F.GWY_RING_CFG_DEPTH 31 16).setFld F.GWY_RING_CFG_PORT 31
    7).setFld F.GWY_RING_BASE_BASE 31 0x20400000)).setFld F.GWY_RING_STAT_FILL 31 1
def tGwHeld : GwHeld := { g := { f := { id := 5, dlc := 0, data := [] }, src := 40, seg := 8 }, r := .direct 0, stamp := 0, rings := some [0] }
/-- Ring 0 holds `k` descriptors and is high with 2; a frame of the ACF source waits for it. -/
def tHeld (k : Nat) : State :=
  { (((((tOn 4).setFlag F.GWY_RING_CFG_EN 0).setFld F.GWY_RING_CFG_DEPTH 0 16).setFld F.GWY_RING_CFG_POLICY 0 0).setFld F.GWY_RING_BASE_BASE 0
      0x20400000).setFld F.GWY_RING_STAT_FILL 0 k |>.setFlag F.GWY_RING_STAT_HIGH 0 (k == 2) with gwy := { held := [(8, [tGwHeld])] } }
/-- Segment 7 is managed and in state `st`. -/
def tSeg (st : Nat) : State := ((tCan.setFlag F.NM_SEG_CFG_EN 7).setFlag F.NM_CTRL_EN).setFld F.NM_SEG_STAT_STATE 7 st
def tNodeUp (stuck : Bool) : State :=
  { (tSeg 1).setFlag F.NM_CTRL_MA_ALWAYS with nm := { seg := [(7, { nodes := [(63, ⟨some 0, some 0, stuck⟩)] })] } }
def tTcStuck : State :=
  { ((tTc10.setFlag F.NM_SEG_CFG_EN 11).setFlag F.NM_CTRL_EN).setFlag F.NM_CTRL_MA_ALWAYS with nm := { seg := [(11, { rejectAt := some 5 })] } }
def tOwn : State :=
  { (((tSeg 1).setFlag F.NM_CTRL_MA_ALWAYS).setFlag F.NM_SEG_NEED_SW 7).setFld F.NM_SEG_MAXAW_OWN_MAX 7 10 with
    nm := { seg := [(7, { ownSince := some 0 })] } }
def tXfer (k : Nat) : Xfer :=
  if k = 4 then { kind := 1, idx := 0x1008, sub := 0, data := List.replicate 9 0x41 }
  else if k = 5 then { kind := 2, idx := 0x1017, sub := 0, data := [0xE8, 3, 0, 0, 0, 0, 0], crc := true, phase := 1 }
  else if k = 6 then { kind := 3, idx := 0x1008, sub := 0, data := [0x41], all := [0x41], phase := 2 }
  else { kind := k, idx := 0x1017, sub := 0, data := if k = 1 then [0x41] else [] }
/-- Port 0 has node ID 5 and the running transfer `tXfer k`. -/
def tXf (k : Nat) : State := { tOn 4 with od := { nodes := [(0, 5)], xfer := [(0, tXfer k)] } }
def tSess (l : Nat) : Sess := { client := .sdo 0, level := l, last := 0 }
def tSdoIn (l : Nat) : State := { tOn 3 with od := { nodes := [(0, 5)], sess := [tSess l] } }
def tBegun : State := { tOn 3 with od := { nodes := [(0, 5)], jobs := [{ begun := true }] } }
/-- PDO 64 in each direction is valid, of type `ty`, with a deadline of 7 ms, and maps one entry of 8 bits. -/
def tPdo (ty : Nat) : State :=
  { tOn 4 with
    od := { nodes := [(0, 5)]
            vals := [(0x143F01, leBytes 4 0x201), (0x143F02, leBytes 1 ty), (0x143F05, leBytes 2 7), (0x163F00, [1]),
              (0x163F01, leBytes 4 0x20000108), (0x183F01, leBytes 4 0x181), (0x183F02, leBytes 1 ty), (0x1A3F00, [1]),
              (0x1A3F01, leBytes 4 0x10010008)] } }
def tQueue : State :=
  { ((tOn 4).setFlag F.CAN_CTRL_EN 0).setFld F.CAN_STAT_STATE 0 0 with
    can := [(0, { xcvr := 1 })], od := { nodes := [(0, 5)], queue := [(0, { id := 0x581, dlc := 8, data := List.replicate 8 0 }, none)] } }
def tHb : State := { tOn 4 with od := { nodes := [(0, 5)], hbIn := [(15, 0)], vals := [(0x101610, leBytes 4 0x000703E8)] } }
/-- A Nydulet datagram: type, node, SID, SEQ, payload. -/
def tDgram (type node sid seq : Nat) (d : List Byte) : List Byte :=
  leBytes 1 2 ++ leBytes 1 type ++ leBytes 2 node ++ leBytes 4 sid ++ leBytes 4 seq ++ leBytes 2 d.length ++ leBytes 2 0 ++ d
def tTagged (type seq : Nat) (d : List Byte) : List Byte :=
  tDgram type 0x2FF 77 seq d ++ (hmacSha256 [7] (tDgram type 0x2FF 77 seq d)).take 16
def tNydIn : State := { tOn 3 with od := { sess := [{ client := .nyd 9, level := 2, last := 0, sid := 77, ks := [7] }] } }
def tAcc (x : AccSt) : State := { tOn 4 with acc := x }
def tCycle (k : CycKind) : Cycle := { kind := k, start := 0, aerials := 1, chal := [1, 2] }
def tCyc (k : CycKind) : State := tAcc { cyc := some (tCycle k) }
def tReply (d : Int) (id : Nat) : Reply := { delay := d, idx := 15, ver := 2, id := id, rssi := List.replicate 6 0, resp := List.replicate 8 0 }
/-- Slot 15 holds token 5 with the key of one byte, 7. -/
def tPaired : State :=
  { tCyc .broadcast with
    acc := { cyc := some (tCycle .broadcast), slot := [(15, { occ := true, ver := 2, id := 5 })] }, cust := { keys := [(26, [7])] } }
def tGood (d : Int) : Reply :=
  { tReply d 5 with resp := (aes128 [7] ([1, 2] ++ leBytes 4 5 ++ leBytes 3 0 ++ leBytes 1 47)).take 8 }
/-- The bytes of a version 2 reply of index 15 with token ID 5 and a response. -/
def tRep (resp : List Byte) : List Byte :=
  let b := leBytes 1 47 ++ leBytes 4 5 ++ List.replicate 6 0 ++ resp
  b ++ leBytes 2 (crc16 b)
def tRep0 : List Byte := tRep (List.replicate 8 0)
def tRep1 : List Byte := tRep (tGood 0).resp
def tGate (mode : Nat) : State := ((tOn 4).setBit F.ACC_STAT_GATES 0 7).setFld F.ACC_GATE_CFG_MODE 7 mode
def tRel : State :=
  { ((tCan.setFlag F.ACC_MSGCFG_MSG_EN 7).setFld F.ACC_MSGCFG_PORT 7 7) with cust := { keys := [(10, [1])] } }
def tSdoM (m l : Nat) : State := { tOn m with od := { nodes := [(0, 5)], sess := [tSess l] } }
def tPairIn (l : Nat) : State := { tPaired with od := { nodes := [(0, 5)], sess := [tSess l] } }
def tWatch : State :=
  { (((tOn 1).setFlag F.ACC_CTRL_WATCH_EN).setFld F.ACC_AER_WATCH 0 32) with acc := { slot := [(15, { occ := true, ver := 2, id := 5 })], watchAt := some 0 } }
/-- The reply of token 5 in slot 15 to a watch wake frame. -/
def tWatchRep : List Byte :=
  let b := leBytes 1 15 ++ leBytes 4 5
  b ++ leBytes 2 (crc16 b)
/-- An enrolment of token 5 waits for the reply to its assign frame. -/
def tAsg : State := tAcc { cyc := some (tCycle .assign), enrol := some ⟨15, false, 5, [], 0, none⟩ }
/-- Key 8 is the wrapping key of RFC 3394, 4.1, and a master token has just answered. -/
def tEnr : State :=
  { tSdoM 3 2 with
    cust := { lc := 1, keys := [(8, (List.range 16).map (BitVec.ofNat 8))] }
    acc := { slot := [(0, { occ := true, master := true, ver := 2, id := 5, lastOk := some 0 })] } }
/-- An enrolment of token 9 in slot 15, with the wrapped key of RFC 3394, 4.1. -/
def tEnrRec : List Byte :=
  [15, 0, 9, 0, 0, 0, 0x1F, 0xA6, 0x8B, 0x0A, 0x81, 0x12, 0xB4, 0x47, 0xAE, 0xF3, 0x4B, 0xD8, 0xFB, 0x5A, 0x7B, 0x82, 0x9D, 0x3E, 0x86, 0x23, 0x71, 0xD2, 0xCF, 0xE5] ++
    List.replicate 9 0
/-- PROVISIONED with no key but key 3, that of RFC 3394, 4.1. -/
def tKeyIn : State :=
  { tSdoM 3 1 with cust := { lc := 1, keys := [(3, (List.range 16).map (BitVec.ofNat 8))] } }
/-- A record of key 8 with the wrapped key of RFC 3394, 4.1. -/
def tKeyRec : List Byte := [8] ++ (tEnrRec.drop 6).take 24
/-- A lifecycle request from PROVISIONED to FIELD may be carried out. -/
def tLc : State :=
  { (((tOn 3).setFld F.BERTH_STAT_STATE 0 1).setFld F.BERTH_VKEEP_VSRC 0 2400) with
    od := { nodes := [(0, 5)], sess := [tSess 3] }
    cust := { lc := 1, nonce := some ([7], 0), keys := [(4, []), (5, []), (6, []), (7, []), (8, []), (9, [])] } }
def tDbg (fails : Nat) : State := { tOn 4 with cust := { dbg := { nonce := some ([7], 0), fails := fails, mode := 4 } } }
def tMbx (op key len : Nat) : State := { tOn 4 with cust := { mbx := [(1, ⟨some 3, some (op, key, len)⟩)] } }
def tMbxK : State := { tMbx 0x10 7 5 with cust := { keys := [(7, [1])], mbx := [(1, ⟨some 3, some (0x10, 7, 5)⟩)] } }
def tUpd (x : UpdSt) : State := { tOn 4 with upd := x }
def tHead : List Byte := List.replicate 32 0 ++ leBytes 4 4128768 ++ leBytes 2 1008 ++ List.replicate 154 0
def tParcel : List Byte := leBytes 4 0 ++ leBytes 2 256 ++ leBytes 2 (crc16 (List.replicate 256 0)) ++ List.replicate 256 0
/-- A parcel of 256 zeros. -/
def tPart (off : Nat) : List Byte := leBytes 4 off ++ tParcel.drop 4
def tResol : State := { State.reset with upd := { marker := .resoling 1007, head := some tHead } }
def tGath (ok : Bool) : State := { tSdoM 4 2 with upd := { head := some tHead, ok := ok } }
/-- Every condition of R597 but the signature of the staged header holds. -/
def tAct : State :=
  { ((((tOn 3).setFld F.BERTH_STAT_STATE 0 1).setFld F.BERTH_VKEEP_VSRC 0 2400).setBit F.BERTH_SUP_STAT_PRESENT 0 1).setFld F.BERTH_STAT_MATED 0
      15 with
    od := { nodes := [(0, 5)], sess := [tSess 2] }
    upd := { head := some (List.replicate 36 0 ++ leBytes 2 1 ++ List.replicate 154 0), ok := true, bitmap := [0] } }


/-! ## What no wire carries (`WellFormed`) -/

theorem test_wf_good : (Instr.canFrameReceived 0 { id := 0x7FF, dlc := 8, data := List.replicate 8 0 } 0).wf = true := by decide
theorem test_wf_good_fd : (Instr.canFrameReceived 0 { id := 2 ^ 29 - 1, xtd := true, fdf := true, brs := true, dlc := 9, data := List.replicate 12 0 } 0).wf = true := by decide
theorem test_wf_id : (Instr.canFrameReceived 0 { id := 0x800, dlc := 0, data := [] } 0).wf = false := by decide
theorem test_wf_xid : (Instr.canFrameReceived 0 { id := 2 ^ 29, xtd := true, dlc := 0, data := [] } 0).wf = false := by decide
theorem test_wf_dlc : (Instr.canFrameReceived 0 { id := 0, dlc := 16, data := List.replicate 8 0 } 0).wf = false := by decide
theorem test_wf_len : (Instr.canFrameReceived 0 { id := 0, dlc := 9, data := List.replicate 9 0 } 0).wf = false := by decide
theorem test_wf_remote_fd : (Instr.canFrameReceived 0 { id := 0, fdf := true, rtr := true, dlc := 0, data := [] } 0).wf = false := by decide
theorem test_wf_brs : (Instr.canSelectiveWake 7 (some { id := 0, brs := true, dlc := 0, data := [] }) {}).wf = false := by decide
theorem test_wf_esi : (Instr.canSelectiveWake 7 (some { id := 0, esi := true, dlc := 0, data := [] }) {}).wf = false := by decide
theorem test_ill_formed : exec (.canFrameReceived 0 { id := 0x800, dlc := 0, data := [] } 0) (tOn 4) = .fault .illFormed := rfl

/-! ## No row has bits -/

theorem test_no_words : decodeTableWord 32 0xFFFFFFFF = none := rfl
theorem test_with_fetch_word : (tOn 4).withFetchWord 32 5 = tOn 4 := rfl

/-! ## Published vectors of the functions that customs computes -/

/-- FIPS 180-4, the digest of "abc". -/
theorem test_sha256 : sha256 [0x61, 0x62, 0x63] = beBytes 32 0xBA7816BF8F01CFEA414140DE5DAE2223B00361A396177A9CB410FF61F20015AD := by
  decide +kernel
/-- FIPS 197, appendix C.1. -/
theorem test_aes128 : aes128 (beBytes 16 0x000102030405060708090A0B0C0D0E0F) (beBytes 16 0x00112233445566778899AABBCCDDEEFF) =
    beBytes 16 0x69C4E0D86A7B0430D8CDB78070B4C55A := by decide +kernel
/-- RFC 4493, example 2. -/
theorem test_aes_cmac : aesCmac (beBytes 16 0x2B7E151628AED2A6ABF7158809CF4F3C) (beBytes 16 0x6BC1BEE22E409F96E93D7E117393172A) =
    beBytes 16 0x070A16B46B4D4144F79BDD9DD04A287C := by decide +kernel
/-- RFC 3394, section 4.1. -/
theorem test_key_unwrap : keyUnwrap (beBytes 16 0x000102030405060708090A0B0C0D0E0F)
    (beBytes 24 0x1FA68B0A8112B447AEF34BD8FB5A7B829D3E862371D2CFE5) = some (beBytes 16 0x00112233445566778899AABBCCDDEEFF) := by decide +kernel
/-- RFC 3394, section 4.3: a wrapping key of 256 bits. -/
theorem test_key_unwrap_256 : keyUnwrap ((List.range 32).map (BitVec.ofNat 8))
    (beBytes 24 0x64E8C3F9CE0F5BA263E9777905818A2A93C8191E7D6E8AE7) = some (beBytes 16 0x00112233445566778899AABBCCDDEEFF) := by
  decide +kernel
/-- RFC 6979, A.2.5: P-256 with SHA-256, message "sample". -/
theorem test_ecdsa : ecdsaP256
    (beBytes 64 0x60FED4BA255A9D31C961EB74C6356D68C049B8923B61FA6CE669622E60F29FB67903FE1008B8BC99A41AE9E95628BC64F2F1B20C2D7E9F5177A3C294D4462299)
    (beBytes 32 0xAF2BDBE1AA9B6EC1E2ADE1D694F41FC71A831D0268E9891562113D8A62ADD1BF)
    (beBytes 64 0xEFD48B2AACB6A8FD1140DD9CD45E81D69D2C877B56AAF991C34D0EA84EAF3716F7CB1C942D657C41D436C7A1B6E29F65F3E900DBB9AFF4064DC4AB2F843ACDA8) = true := by decide +kernel

/-! ## Single commands, with the numbers of the spec's own examples and tables -/

/-- What a command leaves of a state. -/
def tAfter (c : Instr) (s : State) : State := match exec c s with | .next t => t | _ => s

/-- 02, the example of R65: bit 16 of CLK_WELT at 0x4601_0010. -/
theorem test_eyelet : (tAfter (.eyeletWrite tCpu 0x46010010 .b32 1)
    (((tOn 4).setFlag F.CLK_WELT_OVF).setFld F.CLK_WELT_OVF_COUNT 0 9)).rd .CLK_WELT = 0x900 := by decide +kernel
/-- 02, the example of R65: an eyelet of an RO field has no effect. -/
theorem test_eyelet_ro : (tAfter (.eyeletWrite tCpu 0x46000080 .b32 0) ((tOn 4).setFlag F.SYS_LOAD_OVL_A)).flag F.SYS_LOAD_OVL_A = true := by
  decide +kernel
/-- R52, R9: bytes of a word in general RAM, the least significant first. -/
theorem test_ram_bytes : (tAfter (.registerWrite tCpu 0x20400000 .b32 0x11223344) (tOn 4)).byte 0x20400003 = 0x11 := by decide +kernel
/-- R53: a misaligned access. -/
theorem test_misaligned : (tAfter (.registerWrite tCpu 0x20400002 .b32 1) (tOn 4)).mem = [] := by decide +kernel
/-- 04, the worked example: SLOT_RAW 0x04 is position 3 of capacity class 3. -/
theorem test_slot : slotValid 4 = true ∧ slotPos 4 = 3 ∧ slotClass 4 = 3 := by decide
/-- 06, the worked example: duty 3276 at a feed of 26.50 V and VREF 28.0 V with k = 2. -/
theorem test_comp : compDuty 3276 2650 2800 2 = (3657, false) := by decide
/-- 06, the worked example: the on-time of that period. -/
theorem test_on_time : onTime 400000 3657 1000 = (357216, false) := by decide +kernel
/-- 19, the worked example: 80.0 % is duty code 3276. -/
theorem test_duty_code : dutyCode 800 = 3276 := by decide
/-- 08, the worked example: the window of OUT10. -/
theorem test_cal_window : (tAfter (.calWindowEnd 10 ⟨8133000, 9144000, -8043000, 8133000⟩ ⟨0, 0, 0, 0⟩)
    { ((((tOn 4).setFld F.BERTH_STAT_STATE 0 1).setFlag F.CAL_CTRL_SENSE_EN).wr .CAL_CH_FACT 10 0x00780190).setFld F.SW_LIMIT_LIMIT 10 20 with
      sw := [(10, { st := 1, drive := { mode := 1 }, win := some { at0 := 0, gs := [0, 200000, 400000, 600000] }, sup := false })] }).rd .CAL_CH_LIVE 10 = 0x00B4044C := by decide +kernel
/-- 11, the worked example: step 125 of 250 to 6,553. -/
theorem test_fade : fadeDuty 0 6553 125 250 = 1426 := by decide +kernel
/-- 11, the worked example: steps 33 and 34. -/
theorem test_fade_low : fadeDuty 0 6553 33 250 = 76 ∧ fadeDuty 0 6553 34 250 = 81 := by decide +kernel
/-- 16, the example of a re-anchor: the anchor before t = 1,250,000,000. -/
def tAnchor : State :=
  { (tOn 4).setFld F.TIDE_RATE_RATE 0 1099512 with now := 4 * 1250000000, tide := { f := 1000000000, a := 5000000000000 } }
theorem test_anchor : (tAnchor.setRate (-549756)).tide.a = 5001000001000 ∧ (tAnchor.setRate (-549756)).tide.fr = 372224000 := by
  decide +kernel
/-- 16, the same example: logical time one tick before the target of the compare unit, and at it. -/
theorem test_compare : (tAnchor.setRate (-549756)).logicalAt 1499999999 = 5002000000496 ∧
    (tAnchor.setRate (-549756)).logicalAt 1500000000 = 5002000000500 := by decide +kernel
/-- 10, the worked example: durations by length. -/
theorem test_length_dur : lengthDur 150 6000 = 25000 ∧ lengthDur 150 5940 = 25253 ∧ lengthDur 200 5940 = 33670 := by decide
/-- R112: PLATE_HOT at 85 °C and one step of 1/1,024 K above. -/
theorem test_plate_hot : (tAfter (.plateHot (.val 87040) (.val 0)) (tOn 4)).active .PLATE_HOT = false ∧
    (tAfter (.plateHot (.val 87041) (.val 0)) (tOn 4)).active .PLATE_HOT = true := by decide +kernel
/-- R182: a PWM period of 3,999 ticks at slew setting 2 is refused. -/
theorem test_pwm_refused : (tAfter (.registerWrite tCpu (Reg.SW_PWM.addr 5) .b32 3999) ((tOn 4).setFld F.SW_CTRL_SLEW 5 2)).flag
    F.SW_STAT_REFUSED 5 = true := by decide +kernel
/-- 14, the example of a duplicated identifier: a bit error adds 8 to TEC. -/
theorem test_tec : (tAfter (.canTxError 7 1 true true false) tTx).fld F.CAN_ERR_TEC 7 = 8 := by decide +kernel
/-- R75: the CRC-16 of the digits 1 to 9, the check value of polynomial 0x1021 with initial value 0xFFFF. -/
theorem test_crc16 : crc16 [0x31, 0x32, 0x33, 0x34, 0x35, 0x36, 0x37, 0x38, 0x39] = 0x29B1 := by decide +kernel
/-- R25: a mismatch restarts pair B. -/
theorem test_lockstep : (tAfter (.compareMismatch .B) (tOn 4)).clk.bDown = some 0 := by decide +kernel
/-- R173: Configure turns OUT00 off. -/
theorem test_configure_off : (tAfter (.modeRequestConfigure (.reg tCpu) 0x5A) tLit).fld F.SW_OUT_MODE = 0 := by decide +kernel
/-- The first command of the queue runs first. -/
theorem test_fifo : step { tOn 4 with pending := [.plateHot (.val 90000) .opn, .bootComplete] } =
    exec (.plateHot (.val 90000) .opn) { tOn 4 with pending := [.bootComplete] } := rfl

/-! ## The statements about the whole machine: states that meet their hypotheses -/

theorem witness_idle_step : ∃ s : State, s.pending = [] := ⟨tOn 4, rfl⟩
theorem witness_every_command_ends : (∃ i : Instr, i.wf = true) ∧ (∃ f : CanFrame, f.wf = false) :=
  ⟨⟨.sync 7 0, rfl⟩, ⟨{ id := 0x800, dlc := 0, data := [] }, by decide⟩⟩
theorem witness_service_invariant : ∃ s s' : State, s.serviceLawful ∧ s.mode' = 6 ∧ step s = .next s' :=
  ⟨{ tSdoM 6 2 with pending := [.sessionClose (.sdo 0)] }, _, fun _ => .inl (by decide), by decide, rfl⟩
theorem witness_debug_grant_invariant : ∃ s s' : State, s.debugLawful ∧ step s = .next s' :=
  ⟨{ tDbg 0 with pending := [.modeRequestConfigure (.reg tCpu) 0x5A] }, _, ⟨by decide, by decide⟩, rfl⟩
theorem witness_register_map : ∃ (r : Reg) (i : Nat), r.laid i ∧ 0 < i := ⟨.SW_PWM, 63, by unfold Reg.laid; decide⟩
theorem witness_configure_turns_off : (∃ s : State, s.live = true) ∧
    (∃ s : State, s.live = true ∧ s.modeCause 3 true = 0 ∧ (s.takeTrigger 5).2 = true) :=
  ⟨⟨tLit, by decide⟩, ⟨tLit, by decide⟩⟩
theorem witness_tide_anchor : ∃ (s : State) (r : Int) (t : State), -(2 ^ 31) ≤ r ∧ r < 2 ^ 31 ∧ t = s.setRate r :=
  ⟨tAnchor, -(2 ^ 31), _, by decide, by decide, rfl⟩
theorem witness_misaligned_access : (∃ (s : State) (a : Acc) (addr : Nat) (w : Width), s.awake = true ∧ (s.who a).mute = false ∧
    addr % w.bytes ≠ 0) := ⟨tOn 4, tCpu, 0x20000006, .b64, by decide⟩
theorem witness_plate_hot_limits : ∃ (s v : State) (t1 t2 : Sens), s.awake = true ∧ v = { s with plate := ⟨t1, t2⟩ } :=
  ⟨tOn 4, _, .val 87041, .val 0, by decide, rfl⟩
theorem witness_pwm_period_rule :
    (∃ (s : State) (a : Acc) (n : Fin 64) (v : Nat), s.granted a .SW_PWM n ∧
      F.SW_PWM_PERIOD.of (s.merge .SW_PWM n (BitVec.ofNat 32 v) 0xFFFFFFFF) < 4 * tminOf (s.fld F.SW_CTRL_SLEW n)) ∧
    (∃ (s : State) (a : Acc) (n : Fin 64) (v : Nat), s.granted a .SW_CTRL n ∧
      s.fld F.SW_PWM_PERIOD n < 4 * tminOf (F.SW_CTRL_SLEW.of (s.merge .SW_CTRL n (BitVec.ofNat 32 v) 0xFFFFFFFF))) :=
  ⟨⟨tOn 4, tCpu, 63, 1, by unfold State.granted; decide⟩,
    ⟨(tOn 4).setFld F.SW_PWM_PERIOD 63 799, tCpu, 63, 0, by unfold State.granted; decide⟩⟩

/-! ## A session's frame -/

theorem crcBit_lt {c : Nat} (h : c < 65536) : crcBit c < 65536 := by
  unfold crcBit
  split
  · exact Nat.xor_lt_two_pow (n := 16) (Nat.mod_lt _ (by decide)) (by decide)
  · omega
theorem crcByte_lt {c : Nat} (b : Byte) (h : c < 65536) : crcByte c b < 65536 := by
  have hx : c ^^^ (b.toNat * 256) < 65536 := Nat.xor_lt_two_pow (n := 16) h (by have := b.isLt; omega)
  have go (l : List Nat) : ∀ c, c < 65536 → l.foldl (fun x _ => crcBit x) c < 65536 := by
    induction l with
    | nil => exact fun c h => h
    | cons _ _ ih => exact fun c h => ih _ (crcBit_lt h)
  exact go _ _ hx
theorem crc16_lt (l : List Byte) : crc16 l < 65536 := by
  have go (l : List Byte) : ∀ c, c < 65536 → l.foldl crcByte c < 65536 := by
    induction l with
    | nil => exact fun c h => h
    | cons b l ih => intro c h; rw [List.foldl_cons]; exact ih _ (crcByte_lt b h)
  exact go l _ (by decide)
theorem shaRound_length {v : List Nat} (k : Nat) (h : v.length = 8) : (shaRound v k).length = 8 := by
  unfold shaRound
  split <;> simp_all
theorem shaRounds_length (ks w v : List Nat) (h : v.length = 8) : (shaRounds ks w v).length = 8 := by
  induction ks generalizing w v with
  | nil => exact h
  | cons k ks ih => exact ih _ _ (shaRound_length _ h)
theorem shaBlocks_length (l : List (List Nat)) (v : List Nat) (h : v.length = 8) : (l.foldl shaBlock v).length = 8 := by
  induction l generalizing v with
  | nil => exact h
  | cons b l ih => exact ih _ (by simp [shaBlock, shaRounds_length _ _ _ h, h])
theorem leBytes_length (k n : Nat) : (leBytes k n).length = k := by
  induction k generalizing n with
  | zero => rfl
  | succ k ih => simp [leBytes, ih]
theorem hmacSha256_length (k m : List Byte) : (hmacSha256 k m).length = 32 := by
  unfold hmacSha256 sha256 shaNat
  simp [beVals, beBytes, leBytes_length, shaBlocks_length _ _ (show shaInit.length = 8 from rfl)]
theorem tFrm_auth {t : List Byte} (h : t.length = 32) : hrpParse (tFrm 0x31 0 8 t) = .auth t := by
  have hh : crc16 ([0x31, 0, 0, 0, 0, 7] : List Byte) = 5339 := by decide +kernel
  have hn : ¬ t = [] := by intro e; simp [e] at h
  have hc : leNat (leBytes 2 (crc16 t)) = crc16 t := by
    have := crc16_lt t
    simp [leBytes, leNat]
    omega
  have e : tFrm 0x31 0 8 t = ([0x31, 0, 0, 0, 0, 7, 219, 20] : List Byte) ++ (t ++ leBytes 2 (crc16 t)) := by
    unfold tFrm
    rw [if_neg hn]
    show ([0x31, 0, 0, 0, 0, 7] : List Byte) ++ leBytes 2 (crc16 [0x31, 0, 0, 0, 0, 7]) ++ _ = _
    rw [hh]
    rfl
  have ht : ∀ c : List Byte, (t ++ c).take 32 = t := fun c => by rw [← h]; exact List.take_left
  have hd : ∀ c : List Byte, (t ++ c).drop 32 = c := fun c => by rw [← h]; exact List.drop_left
  rw [e]
  unfold hrpParse
  simp [leNat, ht, hd, h, hc, leBytes_length, List.take_of_length_le]
  exact hh

def tHrpA : State := { tHrp with cust := { lc := 1, keys := [(7, [1])] }, bus := { hrp := { nonce := some ([2], 0) } } }
theorem tHrpA_ok : tHrpA.hrpTagOk tTag = true := by simp [tHrpA, tTag, State.hrpTagOk, State.key, State.lcHost, lookup, sec]; decide

/-- The CRC-16 of 256 zeros, in pieces. -/
theorem crc_zeros : crc16 (List.replicate 256 0) = 16872 := by
  have h (c : Nat) (k n : Nat) : (List.replicate (k + n) (0 : Byte)).foldl crcByte c =
      (List.replicate n (0 : Byte)).foldl crcByte ((List.replicate k (0 : Byte)).foldl crcByte c) := by
    rw [← List.replicate_append_replicate, List.foldl_append]
  have h1 : (List.replicate 32 (0 : Byte)).foldl crcByte 0xFFFF = 61772 := by decide +kernel
  have h2 : (List.replicate 32 (0 : Byte)).foldl crcByte 61772 = 55002 := by decide +kernel
  have h3 : (List.replicate 32 (0 : Byte)).foldl crcByte 55002 = 35372 := by decide +kernel
  have h4 : (List.replicate 32 (0 : Byte)).foldl crcByte 35372 = 61450 := by decide +kernel
  have h5 : (List.replicate 32 (0 : Byte)).foldl crcByte 61450 = 1352 := by decide +kernel
  have h6 : (List.replicate 32 (0 : Byte)).foldl crcByte 1352 = 33778 := by decide +kernel
  have h7 : (List.replicate 32 (0 : Byte)).foldl crcByte 33778 = 46877 := by decide +kernel
  have h8 : (List.replicate 32 (0 : Byte)).foldl crcByte 46877 = 16872 := by decide +kernel
  unfold crc16
  rw [show 256 = 32 + 224 from rfl, h, h1, show 224 = 32 + 192 from rfl, h, h2, show 192 = 32 + 160 from rfl, h, h3,
    show 160 = 32 + 128 from rfl, h, h4, show 128 = 32 + 96 from rfl, h, h5, show 96 = 32 + 64 from rfl, h, h6,
    show 64 = 32 + 32 from rfl, h, h7, h8]

theorem tPart_drop (k : Nat) : (tPart k).drop 8 = List.replicate 256 0 := rfl
theorem tPart_len (k : Nat) : ((tPart k).drop 8).length = 256 := by rw [tPart_drop, List.length_replicate]
/-- A parcel of 256 zeros is well framed. -/
theorem tPart_good {k : Nat} (h : leNat (leBytes 4 k) % 256 = 0) (h2 : leNat (leBytes 4 k) % 4096 ≤ 3840) :
    leNat ((tPart k).take 4) % 256 = 0 ∧ leNat (((tPart k).drop 4).take 2) = ((tPart k).drop 8).length ∧
      1 ≤ ((tPart k).drop 8).length ∧ ((tPart k).drop 8).length ≤ 1024 ∧
      leNat ((tPart k).take 4) % 4096 + ((tPart k).drop 8).length ≤ 4096 ∧
      crc16 ((tPart k).drop 8) = leNat (((tPart k).drop 6).take 2) := by
  rw [show (tPart k).take 4 = leBytes 4 k from rfl, show ((tPart k).drop 4).take 2 = leBytes 2 256 from rfl,
    show ((tPart k).drop 6).take 2 = leBytes 2 (crc16 (List.replicate 256 0)) from rfl, tPart_len, tPart_drop, crc_zeros]
  exact ⟨h, by decide, by decide, by decide, by omega, by decide⟩

/-! ## States that meet the hypotheses of the statements -/

/-- Hypotheses of `Obligations.ClocksAndWelts`, clause by clause. -/
theorem witness_clocks_and_welts :
    (∃ (s : State) (dev : Int) (still : Nat), s.awake = true ∧ s.bit F.CLK_STAT_LOCK 0 5 = true ∧ (20000 < dev.natAbs ∨ 10000 ≤ still)) ∧
    (∃ (s : State) (dev : Int) (still : Nat), s.awake = true ∧ s.bit F.CLK_STAT_LOCK 0 6 = true ∧ (20000 < dev.natAbs ∨ 10000 ≤ still)) ∧
    (∃ (s : State) (dev : Int) (still : Nat), s.awake = true ∧ s.bit F.CLK_STAT_LOCK 0 3 = true ∧ (20000 < dev.natAbs ∨ 10000 ≤ still)) ∧
    (∃ (s : State) (d : ClkDom) (dev : Int) (still : Nat), d ∈ [ClkDom.core, .fab, .per] ∧ s.awake = true ∧ s.bit F.CLK_STAT_LOCK 0 (clkBit d) =
      true ∧ (20000 < dev.natAbs ∨ 10000 ≤ still)) ∧
    (∃ (s : State) (dev : Int) (still : Nat), s.awake = true ∧ s.bit F.CLK_STAT_LOCK 0 4 = true ∧ (50000 < dev.natAbs ∨ 10000 ≤ still)) ∧
    (∃ (s : State) (p : Fin 4) (dev : Int) (still : Nat), s.awake = true ∧ s.bit F.CLK_STAT_ETH_LOCK 0 p = true ∧ (20000 < dev.natAbs ∨ 10000 ≤
      still)) ∧
    (∃ (s : State) (dev : Int) (still : Nat), s.awake = true ∧ s.bit F.CLK_STAT_LOCK 0 7 = true ∧ (50000 < dev.natAbs ∨ 10000 ≤ still)) ∧
    (∃ (s : State) (w : Fin 28) (blk : Nat), s.awake = true) ∧
    (∃ (s : State) (recent : List Nat), s.awake = true ∧ recent = (s.now :: s.clk.restarts).filter (fun t => decide (s.now < t + sec 60)) ∧
      recent.length < 3 ∧ s.clk.bMis.all (fun t => decide (t + ms 1 ≤ s.now)) = true) ∧
    (∃ (s : State) (recent : List Nat), s.awake = true ∧ recent = (s.now :: s.clk.restarts).filter (fun t => decide (s.now < t + sec 60)) ∧
      recent.length < 3 ∧ s.clk.aMis.all (fun t => decide (t + ms 1 ≤ s.now)) = true) ∧
    (∃ (s : State) (t : Nat) (recent : List Nat), s.awake = true ∧ recent = (s.now :: s.clk.restarts).filter (fun t => decide (s.now < t + sec 60))
      ∧ recent.length < 3 ∧ s.clk.bMis = some t ∧ s.now < t + ms 1) ∧
    (∃ (s : State) (recent : List Nat), s.awake = true ∧ recent = (s.now :: s.clk.restarts).filter (fun t => decide (s.now < t + sec 60)) ∧ 3 ≤
      recent.length ∧ s.clk.aMis.all (fun t => decide (t + ms 1 ≤ s.now)) = true) ∧
    (∃ (s : State) (t : Nat) (recent : List Nat), s.awake = true ∧ recent = (s.now :: s.clk.restarts).filter (fun t => decide (s.now < t + sec 60))
      ∧ 3 ≤ recent.length ∧ s.clk.bMis = some t ∧ s.now < t + ms 1) ∧
    (∃ (s : State) (t : Nat), s.awake = true ∧ s.clk.bDown = some t) ∧
    (∃ (s : State) (t : Nat), s.awake = true ∧ s.clk.aDown = some t ∧ s.mode' = 5) ∧
    (∃ (s : State) (t : Nat), s.awake = true ∧ s.clk.aDown = some t ∧ s.mode' ≠ 5) := by
  refine ⟨?_, ?_, ?_, ?_, ?_, ?_, ?_, ?_, ?_, ?_, ?_, ?_, ?_, ?_, ?_, ?_⟩
  · exact ⟨tOn 4, -20001, 9999, by decide⟩
  · exact ⟨tOn 4, 20001, 0, by decide⟩
  · exact ⟨tOn 4, 0, 10000, by decide⟩
  · exact ⟨tOn 4, .per, 0, 10000, by decide⟩
  · exact ⟨tOn 4, 50001, 0, by decide⟩
  · exact ⟨(tOn 4).setBit F.CLK_STAT_ETH_LOCK 0 3, 3, 0, 10000, by decide⟩
  · exact ⟨tOn 4, 50001, 0, by decide⟩
  · exact ⟨tOn 4, 27, 0, by decide⟩
  · exact ⟨tOn 4, _, by decide, rfl, by decide, by decide⟩
  · exact ⟨tOn 4, _, by decide, rfl, by decide, by decide⟩
  · exact ⟨tMis, 0, _, by decide, rfl, by decide, by decide⟩
  · exact ⟨{ tOn 4 with now := sec 60, clk := { restarts := [5, 4] } }, _, by decide, rfl, by decide, by decide⟩
  · exact ⟨{ tOn 4 with now := 999999, clk := { restarts := [5, 4], bMis := some 0 } }, 0, _, by decide, rfl, by decide, by decide, by decide⟩
  · exact ⟨{ tOn 4 with clk := { bDown := some 0 } }, 0, by decide⟩
  · exact ⟨tDown.setFld F.SYS_MODE_MODE 0 5, 0, by decide⟩
  · exact ⟨tDown, 0, by decide⟩

/-- Hypotheses of `Obligations.Load`, clause by clause. -/
theorem witness_load :
    (∃ (s : State) (load : Nat), s.awake = true ∧ 90 ≤ load ∧ s.flag F.SYS_LOAD_OVL_B = false) ∧
    (∃ (s : State) (load : Nat), s.awake = true ∧ 90 ≤ load ∧ s.flag F.SYS_LOAD_OVL_A = false) ∧
    (∃ (s : State) (load : Nat), s.awake = true ∧ load < 75 ∧ s.flag F.SYS_LOAD_OVL_B = true) ∧
    (∃ (s : State) (load : Nat), s.awake = true ∧ load < 75 ∧ s.flag F.SYS_LOAD_OVL_A = true) ∧
    (∃ (s : State) (p : Fin 8) (x y waited : Nat), s.awake = true ∧ s.flag F.SYS_LOAD_OVL_A = true ∧ s.dictServed = true ∧ s.sdoOn p = true ∧
      s.xferOf p = none) ∧
    (∃ (s : State) (p : Fin 8) (x y waited : Nat) (t : Xfer), s.awake = true ∧ s.flag F.SYS_LOAD_OVL_A = true ∧ s.dictServed = true ∧ s.sdoOn p =
      true ∧ s.xferOf p = some t) ∧
    (∃ (s : State) (peer x y waited : Nat), s.awake = true ∧ s.flag F.SYS_LOAD_OVL_A = true ∧ s.dictServed = true ∧ s.sessOf (.nyd peer) = none) ∧
    (∃ (s : State) (peer x y waited : Nat) (t : Sess), s.awake = true ∧ s.flag F.SYS_LOAD_OVL_A = true ∧ s.dictServed = true ∧ s.sessOf (.nyd peer)
      = some t) ∧
    (∃ (s : State) (t : Nat), s.awake = true ∧ s.jnl.deferSince = some t) := by
  refine ⟨?_, ?_, ?_, ?_, ?_, ?_, ?_, ?_, ?_⟩
  · exact ⟨tOn 4, 90, by decide⟩
  · exact ⟨tOn 4, 90, by decide⟩
  · exact ⟨(tOn 4).setFlag F.SYS_LOAD_OVL_B, 74, by decide⟩
  · exact ⟨(tOn 4).setFlag F.SYS_LOAD_OVL_A, 74, by decide⟩
  · exact ⟨(tNode).setFlag F.SYS_LOAD_OVL_A, 0, 0x2000, 1, 7, by decide⟩
  · exact ⟨{ (tNode).setFlag F.SYS_LOAD_OVL_A with od := { nodes := [(0, 5)], xfer := [(0, { kind := 1, idx := 0x2000, sub := 2 })] } }, 0, 0, 0, 4,
    _, by decide, by decide, by decide, by decide, rfl⟩
  · exact ⟨(tNode).setFlag F.SYS_LOAD_OVL_A, 1, 2, 3, 4, by decide⟩
  · exact ⟨({ tNydIn with od := { tNydIn.od with nodes := [(0, 5)] } } : State).setFlag F.SYS_LOAD_OVL_A, 9, 2, 3, 4, _, by decide, by decide, by
    decide, rfl⟩
  · exact ⟨tDefer, 0, by decide⟩

/-- Hypotheses of `Obligations.Plate`, clause by clause. -/
theorem witness_plate :
    (∃ (s : State) (t1 t2 : Sens), s.awake = true ∧ 85 * 1024 < ({ s with plate := ⟨t1, t2⟩ } : State).tp ∧ s.active .PLATE_HOT = false) ∧
    (∃ (s : State) (t1 t2 : Sens), s.awake = true ∧ ({ s with plate := ⟨t1, t2⟩ } : State).tp < 82 * 1024) ∧
    (∃ (s : State) (t1 t2 : Sens), s.awake = true ∧ 100 * 1024 ≤ ({ s with plate := ⟨t1, t2⟩ } : State).tp ∧ s.active .PLATE_LIMIT = false) ∧
    (∃ (s : State) (t1 t2 : Sens), s.awake = true ∧ ({ s with plate := ⟨t1, t2⟩ } : State).tp < 90 * 1024) ∧
    (∃ (s : State) (a b : Int), s.awake = true ∧ 5 * 1024 < (a - b).natAbs) ∧
    (∃ (s : State) (b : Int) (t : Sens), s.awake = true ∧ (t = .opn ∨ t = .short)) ∧
    (∃ (s : State) (a : Int) (t : Sens), s.awake = true ∧ (t = .opn ∨ t = .short)) ∧
    (∃ (s : State) (a b : Int), s.awake = true ∧ (a - b).natAbs ≤ 5 * 1024) := by
  refine ⟨?_, ?_, ?_, ?_, ?_, ?_, ?_, ?_⟩
  · exact ⟨tOn 4, .val 87041, .val 0, by decide⟩
  · exact ⟨tOn 4, .val 0, .opn, by decide⟩
  · exact ⟨tHot, .val 102400, .val 0, by decide⟩
  · exact ⟨tHot, .val 92159, .val 0, by decide⟩
  · exact ⟨tHot, 95121, 0, by decide⟩
  · exact ⟨tOn 4, 0, .opn, by decide⟩
  · exact ⟨tOn 4, 0, .short, by decide⟩
  · exact ⟨tOn 4, 95120, 90000, by decide⟩

/-- Hypotheses of `Obligations.BusWriteOfRam`, clause by clause. -/
theorem witness_bus_write_of_ram :
    (∃ (s : State) (a : Acc) (k : Nat), s.awake = true ∧ (s.who a).mute = false ∧ 1 ≤ (s.who a).rank ∧ (s.who a).ro = false ∧ k < 0x100000) := by
  exact ⟨tOn 4, tCpu, 0xFFFFF, by decide⟩

/-- Hypotheses of `Obligations.BusAccesses`, clause by clause. -/
theorem witness_bus_accesses :
    (∃ (s : State) (a : Acc) (r : Reg) (i : Nat), s.granted a r (i) ∧ routeReg r = false ∧ atomicHigh r = none ∧ atomicLow r = none) ∧
    (∃ (s : State) (a : Acc) (r : Reg) (i : Nat), s.granted a r i false ∧ r.card.cfg = false ∧ atomicHigh r = none ∧ (s.shadow (s.who a).code).rd =
      none) ∧
    (∃ (s : State) (a : Acc) (r h : Reg) (i : Nat), s.granted a r (i) ∧ atomicHigh r = some h ∧ routeReg r = false) ∧
    (∃ (s : State) (a : Acc) (addr b : Nat) (r : Reg) (i : Nat), s.awake = true ∧ (s.who a).mute = false ∧ targetOf addr = .eye b (some (r, i)) ∧
      addr % 4 = 0 ∧ s.stop (s.who a) addr 4 true (.eye b (some (r, i))) = none ∧ s.ethDark (r, i) = false) ∧
    (∃ (s : State) (a : Acc), (s.who a).mute = false) ∧
    (∃ (s : State) (a : Acc), (s.who a).mute = false) ∧
    (∃ (s : State) (l : List (Nat × Fin 32)) (v : State), v = s.flips l ∧ v.awake = true) ∧
    (∃ (s : State) (l : List (Nat × Fin 32)) (v : State), v = s.flips l ∧ v.awake = false) ∧
    (∃ (s : State) (a : Acc), s.granted a .GUARD_REENABLE (0)) ∧
    (∃ (s : State) (a : Acc), s.granted a .GUARD_VIOL (0)) ∧
    (∃ (s : State) (a : Acc), s.granted a .GUARD_BERR_INFO (0)) := by
  refine ⟨?_, ?_, ?_, ?_, ?_, ?_, ?_, ?_, ?_, ?_, ?_⟩
  · exact ⟨tOn 4, tCpu, .SYS_CFG, 0, by unfold State.granted; decide⟩
  · exact ⟨tOn 4, tCpu, .SYS_MODE, 0, by unfold State.granted; decide⟩
  · exact ⟨tOn 4, tCpu, .EVE_CMD_TLO, .EVE_CMD_THI, 0, by unfold State.granted; decide⟩
  · exact ⟨tOn 4, tCpu, 0x44000008, 0, .SYS_CFG, 0, by decide⟩
  · exact ⟨tOn 4, tCpu, by decide⟩
  · exact ⟨tOn 4, tCpu, by decide⟩
  · exact ⟨tPar, [], _, rfl, by decide⟩
  · exact ⟨tOn 0, [], _, rfl, by decide⟩
  · exact ⟨tOn 4, tCpu, by unfold State.granted; decide⟩
  · exact ⟨tOn 4, tCpu, by unfold State.granted; decide⟩
  · exact ⟨tOn 4, tCpu, by unfold State.granted; decide⟩

/-- Hypotheses of `Obligations.HostPort`, clause by clause. -/
theorem witness_host_port :
    (∃ (s v : State) (b : List Byte) (addr n : Nat), s.hrpOn = true ∧ v = (s.when s.hrpStale State.hrpEnd).hrpUnlock ∧ hrpParse b = .read addr n) ∧
    (∃ (s v : State) (b : List Byte) (addr : Nat) (data : List Nat), s.hrpOn = true ∧ v = (s.when s.hrpStale State.hrpEnd).hrpUnlock ∧ hrpParse b =
      .write addr data) ∧
    (∃ (s v : State) (b : List Byte), s.hrpOn = true ∧ v = (s.when s.hrpStale State.hrpEnd).hrpUnlock ∧ hrpParse b = .status) ∧
    (∃ (s v : State) (b : List Byte), s.hrpOn = true ∧ v = (s.when s.hrpStale State.hrpEnd).hrpUnlock ∧ hrpParse b = .openSess) ∧
    (∃ (s v : State) (b tag : List Byte), s.hrpOn = true ∧ v = (s.when s.hrpStale State.hrpEnd).hrpUnlock ∧ hrpParse b = .auth tag ∧
      v.bus.hrp.lockUntil = none ∧ s.cust.bad.contains 7 = false ∧ v.hrpTagOk tag = true) ∧
    (∃ (s v : State) (b : List Byte), s.hrpOn = true ∧ v = (s.when s.hrpStale State.hrpEnd).hrpUnlock ∧ hrpParse b = .closeSess) ∧
    (∃ (s v : State) (b : List Byte) (cut : Bool) (bit : Nat), s.hrpOn = true ∧ v = (s.when s.hrpStale State.hrpEnd).hrpUnlock ∧ (cut = true ∨
      hrpParse b = .bad bit)) ∧
    (∃ (s : State), s.bus.hrp.session = true) ∧
    (∃ (s : State) (t : Nat), s.bus.hrp.lockUntil = some t) := by
  refine ⟨?_, ?_, ?_, ?_, ?_, ?_, ?_, ?_, ?_⟩
  · exact ⟨tHrp, _, tFrm 0x03 0x44000000 2 [], 0x44000000, 2, by decide, rfl, by decide +kernel⟩
  · exact ⟨tHrp, _, tFrm 0x02 0x44000004 1 [1, 2, 3, 4], 0x44000004, [0x04030201], by decide, rfl, by decide +kernel⟩
  · exact ⟨tHrp, _, tFrm 0x05 0 1 [], by decide, rfl, by decide +kernel⟩
  · exact ⟨tHrp, _, tFrm 0x30 0 4 [], by decide, rfl, by decide +kernel⟩
  · exact ⟨tHrpA, _, tFrm 0x31 0 8 tTag, tTag, by decide, rfl, tFrm_auth (hmacSha256_length _ _), by decide, by decide, tHrpA_ok⟩
  · exact ⟨tHrp, _, tFrm 0x32 0 1 [], by decide, rfl, by decide +kernel⟩
  · exact ⟨tHrp, _, tFrm 0x04 0 1 [], false, 64, by decide, rfl, .inr (by decide +kernel)⟩
  · exact ⟨tHrpOpen, by decide⟩
  · exact ⟨tHrpLock, 5, by decide⟩

/-- Hypotheses of `Obligations.Journal`, clause by clause. -/
theorem witness_journal :
    (∃ (s : State), s.jnl.pend = []) ∧
    (∃ (s : State) (held k : Nat) (e : Entry) (r : List Entry), k = (if s.pathFault then Nat.min held (s.jnl.pend.length - 1) else 0) ∧
      s.jnl.pend.drop k = e :: r) ∧
    (∃ (s v : State), s.awake = true ∧ s.jnl.wait ≠ [] ∧ s.flag F.SYS_LOAD_C5_DEFER = false ∧ v = (if s.flushDue then s else s.advanceTo
      (s.oldestWait + sec 1)) ∧ v.mayFlush = true) ∧
    (∃ (s : State) (a : Acc), s.granted a .JNL_CMD (0)) ∧
    (∃ (s : State), s.awake = true ∧ s.jnl.flushing ≠ []) ∧
    (∃ (s : State), s.awake = true ∧ s.jnl.flushing ≠ []) ∧
    (∃ (s : State) (a : Acc), s.granted a .JNL_CMD (0)) ∧
    (∃ (s : State) (a : Acc), s.granted a .JNL_RD_SEQ (0)) ∧
    (∃ (s : State) (x : Active), ((s.jnl.active.filter fun a => a.f.recov == [.N]).getLast? = some x)) := by
  refine ⟨?_, ?_, ?_, ?_, ?_, ?_, ?_, ?_, ?_⟩
  · exact ⟨tOn 4, by decide⟩
  · exact ⟨tPend, 5, 0, {}, [], by decide⟩
  · exact ⟨tWait, _, by decide, by decide, by decide, rfl, by decide⟩
  · exact ⟨tOn 4, tCpu, by unfold State.granted; decide⟩
  · exact ⟨tFlush, by decide⟩
  · exact ⟨tFlush, by decide⟩
  · exact ⟨tOn 4, tCpu, by unfold State.granted; decide⟩
  · exact ⟨tOn 4, tCpu, by unfold State.granted; decide⟩
  · exact ⟨tExp, ⟨.MODE_REFUSED, 0, 1, 0⟩, by decide⟩

/-- Hypotheses of `Obligations.Resets`, clause by clause. -/
theorem witness_resets :
    (∃ (s : State), s.awake = true) ∧
    (∃ (s : State), s.mode' ≠ 2) ∧
    (∃ (s w v : State), w = (if s.mode.started then s else (s.startUp s.bootSame true).wireDefault) ∧ s.mode' = 2 ∧ w.mode' = 2 ∧ w.resoling = false
      ∧ w.mode.holdBoot = false ∧ v =
      { w.bootFaults.journalBoot with mode := { w.bootFaults.journalBoot.mode with bootEndAt := w.bootFaults.journalBoot.now } } ∧ v.pins.recov =
      true ∧ (v.takeTrigger 4).2 = true) ∧
    (∃ (s w v : State), w = (if s.mode.started then s else (s.startUp s.bootSame true).wireDefault) ∧ s.mode' = 2 ∧ w.mode' = 2 ∧ w.resoling = false
      ∧ w.mode.holdBoot = false ∧ v =
      { w.bootFaults.journalBoot with mode := { w.bootFaults.journalBoot.mode with bootEndAt := w.bootFaults.journalBoot.now } } ∧ v.pins.recov =
      false ∧ (v.flag F.SYS_CFG_AUTOSTART = false ∨ v.mode.setApplied = false ∨ v.anyFeed = false)) ∧
    (∃ (s w v : State), w = (if s.mode.started then s else (s.startUp s.bootSame true).wireDefault) ∧ s.mode' = 2 ∧ w.mode' = 2 ∧ w.resoling = false
      ∧ w.mode.holdBoot = false ∧ v =
      { w.bootFaults.journalBoot with mode := { w.bootFaults.journalBoot.mode with bootEndAt := w.bootFaults.journalBoot.now } } ∧ v.pins.recov =
      false ∧ v.flag F.SYS_CFG_AUTOSTART = true ∧ v.isSafe .sysCfg = false ∧ v.mode.setApplied = true ∧ v.anyFeed = true ∧ v.mode.bootCause ≠ 2) ∧
    (∃ (s : State), s.flag F.BERTH_SUP_STAT_HOLDUP = true) := by
  refine ⟨?_, ?_, ?_, ?_, ?_, ?_⟩
  · exact ⟨tOn 4, by decide⟩
  · exact ⟨tOn 4, by decide⟩
  · exact ⟨tBoot true, _, _, rfl, by decide, by decide, by decide, by decide, rfl, by decide, by decide⟩
  · exact ⟨tBoot false, _, _, rfl, by decide, by decide, by decide, by decide, rfl, by decide, .inr (.inl (by decide))⟩
  · exact
    ⟨{ ((State.reset.setBit F.BERTH_SUP_STAT_PRESENT 0 1).setFld F.BERTH_STAT_MATED 0 15).setFlag F.SYS_CFG_AUTOSTART with mode := { started := true, setApplied := true } },
    _, _, rfl, by decide, by decide, by decide, by decide, rfl, by decide, by decide, by decide, by decide, by decide, by decide⟩
  · exact ⟨(tOn 4).setFlag F.BERTH_SUP_STAT_HOLDUP, by decide⟩

/-- Hypotheses of `Obligations.Berth`, clause by clause. -/
theorem witness_berth :
    (∃ (s v : State) (f : Fin 4) (bus prechg sag : Nat) (last : Nat × Nat) (n : Nat) (p : Bool), s.awake = true ∧ s.bit F.BERTH_STAT_MATED 0 f =
      false ∧ last = (lookup f.val s.berth.probes).getD (0, 0) ∧ n = (if sag < 25 then last.1 + 1 else 0) ∧ p = (bitOf s.berth.prechg f || (decide
      (bus ≤ prechg + 100) && decide (prechg ≤ bus + 100) && s.berth.prechgMated)) ∧ v = (if last.1 = 0 then s else s.advanceTo (last.2 + ms 10)) ∧
      (n < 2 ∨ p = false)) ∧
    (∃ (s : State) (f : Fin 4) (bus prechg sag : Nat) (last : Nat × Nat), s.awake = true ∧ s.bit F.BERTH_STAT_MATED 0 f = false ∧ last = (lookup
      f.val s.berth.probes).getD (0, 0) ∧ sag < 25 ∧ 1 ≤ last.1 ∧ (bitOf s.berth.prechg f || (decide (bus ≤ prechg + 100) && decide (prechg ≤ bus +
      100) && s.berth.prechgMated)) = true) ∧
    (∃ (s : State), s.awake = true) ∧
    (∃ (s : State) (raw h : Fin 64), s.awake = true ∧ slotValid raw = true ∧ s.berth.held = some h.val ∧ h ≠ raw) ∧
    (∃ (s : State) (b p : List Byte), s.awake = true ∧ b.head? = some 0x7E ∧ railPayload b = some p ∧ bitOf (p.getD 0 0).toNat 2 = true) ∧
    (∃ (s : State) (b p : List Byte), s.awake = true ∧ b.head? = some 0x7E ∧ railPayload b = some p ∧ bitOf (p.getD 0 0).toNat 2 = false ∧ bitOf
      (p.getD 0 0).toNat 1 = true) ∧
    (∃ (s : State) (b : List Byte), s.awake = true ∧ b.head? = some 0x7E ∧ railPayload b = none) ∧
    (∃ (s : State), s.awake = true) ∧
    (∃ (s : State), s.awake = true ∧ s.flag F.BERTH_STAT_LINK_UP = true) ∧
    (∃ (s : State) (f : Fin 4) (v t : Nat) (rest : List (Nat × Nat)), s.awake = true ∧ lookup f.val s.berth.raise = some ((v, t) :: rest)) ∧
    (∃ (v : Nat), 900 ≤ v) := by
  refine ⟨?_, ?_, ?_, ?_, ?_, ?_, ?_, ?_, ?_, ?_, ?_⟩
  · exact ⟨tPre, _, 3, 5400, 5500, 24, _, _, _, by decide, by decide, rfl, rfl, rfl, rfl, .inl (by decide)⟩
  · exact ⟨tPre1, 3, 5400, 5500, 24, _, by decide, by decide, rfl, by decide, by decide, by decide⟩
  · exact ⟨tOn 4, by decide⟩
  · exact ⟨tSlot, 62, 61, by decide⟩
  · exact ⟨tOn 4, berthFrame 1 [6, 1, 2, 63, 63, 63, 63], [6, 1, 2, 63, 63, 63, 63], by decide, by decide +kernel, by decide +kernel, by decide⟩
  · exact ⟨tOn 4, berthFrame 1 [2, 1, 2, 63, 63, 63, 63], [2, 1, 2, 63, 63, 63, 63], by decide, by decide +kernel, by decide +kernel, by decide, by
    decide⟩
  · exact ⟨tOn 4, [0x7E], by decide, by decide, by decide⟩
  · exact ⟨tOn 4, by decide⟩
  · exact ⟨(tOn 4).setFlag F.BERTH_STAT_LINK_UP, by decide⟩
  · exact ⟨tRaise, 1, 100, 0, [], by decide⟩
  · exact ⟨900, by decide⟩

/-- Hypotheses of `Obligations.Extraction`, clause by clause. -/
theorem witness_extraction :
    (∃ (s : State), s.awake = true ∧ s.extracting = false) ∧
    (∃ (s : State), s.awake = false) ∧
    (∃ (s : State) (a b c d : Nat), s.awake = true ∧ s.fld F.BERTH_STAT_STATE = 2 ∧ a < 5 ∧ b < 5 ∧ c < 5 ∧ d < 5) ∧
    (∃ (s : State) (a b c d : Nat), s.awake = true ∧ s.fld F.BERTH_STAT_STATE = 2 ∧ (5 ≤ a ∨ 5 ≤ b ∨ 5 ≤ c ∨ 5 ≤ d)) ∧
    (∃ (s : State), s.berth.commit ≠ [] ∧ s.nvmBusy = false) ∧
    (∃ (s : State), s.awake = true ∧ s.extracting = true ∧ s.fld F.BERTH_STAT_MATED ≠ 0) := by
  refine ⟨?_, ?_, ?_, ?_, ?_, ?_⟩
  · exact ⟨tOn 4, by decide⟩
  · exact ⟨tOn 0, by decide⟩
  · exact ⟨tExtr, 4, 0, 0, 4, by decide⟩
  · exact ⟨tExtr, 0, 0, 0, 5, by decide⟩
  · exact ⟨tCommit, by decide⟩
  · exact ⟨tExtrM, by decide⟩

/-- Hypotheses of `Obligations.ModeRequests`, clause by clause. -/
theorem witness_mode_requests :
    (∃ (s : State) (a : Acc), s.granted a .SYS_MODE_CMD (0)) ∧
    (∃ (s : State) (a : Acc), s.granted a .SYS_MODE_CMD (0)) ∧
    (∃ (s : State) (a : Acc), s.granted a .SYS_MODE_CMD (0)) ∧
    (∃ (s : State) (a : Acc), s.granted a .SYS_MODE_CMD (0)) ∧
    (∃ (s : State) (a : Acc), s.granted a .SYS_MODE_CMD (0)) ∧
    (∃ (s : State) (a : Acc), s.granted a .SYS_MODE_CMD (0)) ∧
    (∃ (s : State) (a : Acc), s.granted a .SYS_MODE_CMD (0) ∧ s.modeCause 0 true = 0 ∧ (s.takeTrigger 5).2 = true) ∧
    (∃ (s : State) (a : Acc), s.granted a .SYS_MODE_CMD (0) ∧ s.modeCause 2 true = 0 ∧ (s.takeTrigger 5).2 = true) ∧
    (∃ (s : State) (a : Acc), s.granted a .SYS_MODE_CMD (0) ∧ s.modeCause 3 true = 0 ∧ (s.takeTrigger 5).2 = true) ∧
    (∃ (s : State) (a : Acc), s.granted a .SYS_MODE_CMD (0) ∧ s.modeCause 4 true = 0 ∧ (s.takeTrigger 5).2 = true) ∧
    (∃ (s : State) (a : Acc), s.granted a .SYS_MODE_CMD (0) ∧ s.modeCause 6 true = 0 ∧ (s.takeTrigger 5).2 = true) ∧
    (∃ (s : State) (a : Acc), s.granted a .SYS_MODE_CMD (0) ∧ s.modeCause 7 true = 0 ∧ (s.takeTrigger 5).2 = true) ∧
    (∃ (s : State), s.awake = true ∧ s.mode' = 5 ∧ s.isSafe .sysCfg = false ∧ s.fld F.SYS_CFG_LIMP_RETRY ≠ 0 ∧ s.fld F.SYS_RST_CAUSE_LIMP_COUNT < 3) ∧
    (∃ (s : State), s.awake = true ∧ s.mode' = 5 ∧ (s.isSafe .sysCfg = true ∨ s.fld F.SYS_CFG_LIMP_RETRY = 0 ∨ 3 ≤ s.fld
      F.SYS_RST_CAUSE_LIMP_COUNT)) ∧
    (∃ (s : State) (t : Nat), s.awake = true ∧ s.nm.okSince = some t ∧ s.mode.sleeping = false ∧ s.sleepOk = true ∧ s.flag F.BERTH_STAT_KEEP_OK =
      true ∧ (s.mode.trigInt ≠ some (((s.advanceTo (t + ms 100)).now - s.clk.g0) / 1000) ∨ 6 < s.mode.trigRank)) ∧
    (∃ (s : State) (t : Nat), s.awake = true ∧ s.nm.okSince = some t ∧ s.mode.sleeping = false ∧ s.sleepOk = true ∧ s.flag F.BERTH_STAT_KEEP_OK =
      true ∧ s.mode.trigInt = some (((s.advanceTo (t + ms 100)).now - s.clk.g0) / 1000) ∧ s.mode.trigRank ≤ 6) ∧
    (∃ (s : State), s.awake = true ∧ s.mode.sleeping = true ∧ s.flag F.BERTH_STAT_KEEP_OK = true) ∧
    (∃ (s : State), s.awake = true ∧ s.mode.sleeping = true ∧ s.flag F.BERTH_STAT_KEEP_OK = false) ∧
    (∃ (s : State) (cause idx : Fin 16) (also : List (Fin 16 × Fin 16)), s.awake = false ∧ s.wakeArmed cause idx = true ∧ cause ≠ 8 ∧ (∀ x ∈ also,
      x.1 ≠ 8)) ∧
    (∃ (s : State) (cause idx : Fin 16) (also : List (Fin 16 × Fin 16)), s.awake = false ∧ s.wakeArmed cause idx = true ∧ (cause = 8 ∨ ∃ x ∈ also,
      x.1 = 8)) ∧
    (∃ (s : State), s.awake = true) := by
  refine ⟨?_, ?_, ?_, ?_, ?_, ?_, ?_, ?_, ?_, ?_, ?_, ?_, ?_, ?_, ?_, ?_, ?_, ?_, ?_, ?_, ?_⟩
  · exact ⟨tOn 4, tCpu, by unfold State.granted; decide⟩
  · exact ⟨tOn 4, tCpu, by unfold State.granted; decide⟩
  · exact ⟨tOn 4, tCpu, by unfold State.granted; decide⟩
  · exact ⟨tOn 4, tCpu, by unfold State.granted; decide⟩
  · exact ⟨tOn 4, tCpu, by unfold State.granted; decide⟩
  · exact ⟨tOn 4, tCpu, by unfold State.granted; decide⟩
  · exact ⟨tOn 4, tCpu, by unfold State.granted; decide, by decide, by decide⟩
  · exact ⟨tOn 4, tCpu, by unfold State.granted; decide, by decide, by decide⟩
  · exact ⟨tOn 4, tCpu, by unfold State.granted; decide, by decide, by decide⟩
  · exact ⟨((tOn 3).setBit F.BERTH_SUP_STAT_PRESENT 0 1).setFld F.BERTH_STAT_MATED 0 15, tCpu, by unfold State.granted; decide, by decide, by
    decide⟩
  · exact ⟨tSdoM 4 2, tCpu, by unfold State.granted; decide, by decide, by decide⟩
  · exact ⟨tSdoM 4 2, tCpu, by unfold State.granted; decide, by decide, by decide⟩
  · exact ⟨(tOn 5).setFld F.SYS_CFG_LIMP_RETRY 0 1, by decide⟩
  · exact ⟨tOn 5, by decide⟩
  · exact ⟨tSleepy.setFlag F.BERTH_STAT_KEEP_OK, 0, by decide, by decide, by decide, by decide, by decide, .inl (by decide)⟩
  · exact ⟨{ tSleepy.setFlag F.BERTH_STAT_KEEP_OK with mode := { trigInt := some 100000, trigRank := 1 } }, 0, by decide⟩
  · exact ⟨tSleeping.setFlag F.BERTH_STAT_KEEP_OK, by decide⟩
  · exact ⟨tSleeping, by decide⟩
  · exact ⟨tOn 0, 9, 0, [], by decide, by decide, by decide, by simp⟩
  · exact ⟨tOn 0, 8, 0, [], by decide, by decide, .inl rfl⟩
  · exact ⟨tOn 4, by decide⟩

/-- Hypotheses of `Obligations.Supply`, clause by clause. -/
theorem witness_supply :
    (∃ (s : State) (f : Fin 4) (v : Nat), s.awake = true ∧ 730 < v ∧ (s.feedVolt f v).powered = true ∧ (s.feedVolt f v).bit F.BERTH_SUP_STAT_PRESENT
      0 f = false) ∧
    (∃ (s : State) (f : Fin 4) (v : Nat), s.awake = true ∧ (s.feedVolt f v).bit F.BERTH_SUP_STAT_LOW 0 f = false ∧ v < (s.feedVolt f v).vwarn ∧
      (s.feedVolt f v).powered = true) ∧
    (∃ (s : State) (f : Fin 4) (v : Nat), s.awake = true ∧ (s.feedVolt f v).bit F.BERTH_SUP_STAT_PRESENT 0 f = true ∧ v < 650 ∧ (s.feedVolt f
      v).powered = true) ∧
    (∃ (s : State) (f : Fin 4) (v : Nat), s.awake = true ∧ (s.feedVolt f v).bit F.BERTH_SUP_STAT_OVER 0 f = false ∧ 6200 < v ∧ (s.feedVolt f
      v).powered = true) ∧
    (∃ (s w x : State) (f : Fin 4) (v : Nat), s.awake = true ∧ (s.feedVolt f v).powered = true ∧ (s.feedVolt f v).flag F.BERTH_SUP_STAT_HOLDUP =
      false ∧ w = (if (s.feedVolt f v).bit F.BERTH_SUP_STAT_LOW 0 f = true ∧ (s.feedVolt f v).vwarn + 80 < v then ((s.feedVolt f v).setBit
      F.BERTH_SUP_STAT_LOW 0 f false).clearFault .SUPPLY_DIP f else s.feedVolt f v) ∧ x = (if w.bit F.BERTH_SUP_STAT_OVER 0 f = true ∧ v < 5800 then
      (w.setBit F.BERTH_SUP_STAT_OVER 0 f false).clearFault .FEED_OVERVOLT f else w)) ∧
    (∃ (s : State) (f : Fin 4) (t : Nat), s.awake = true ∧ lookup f.val s.sup.restoring = some t) ∧
    (∃ (s : State) (keep : Nat), s.awake = true ∧ (s.keepVolt keep).flag F.BERTH_SUP_STAT_VLOG_LOW = false ∧ (s.keepVolt keep).powered = true ∧
      (s.keepVolt keep).fld F.BERTH_VKEEP_VSRC < (s.keepVolt keep).vwarn) ∧
    (∃ (s : State) (keep : Nat), s.awake = true ∧ (s.keepVolt keep).flag F.BERTH_SUP_STAT_VLOG_LOW = true ∧ (s.keepVolt keep).vwarn + 80 <
      (s.keepVolt keep).fld F.BERTH_VKEEP_VSRC) ∧
    (∃ (s : State) (c : Client) (w : Client × Nat × Nat), s.awake = true ∧ s.clk.aDown = none ∧ (s.od.jobs.flatMap Job.who).find? (fun w => w.1 ==
      c) = some w) ∧
    (∃ (s : State) (vsrc : Nat), s.powered = true ∧ s.flag F.BERTH_SUP_STAT_HOLDUP = false ∧ vsrc < 650) ∧
    (∃ (s : State) (a : Acc), s.granted a .BERTH_SUP_MIN (0)) := by
  refine ⟨?_, ?_, ?_, ?_, ?_, ?_, ?_, ?_, ?_, ?_, ?_⟩
  · exact ⟨tOn 4, 2, 731, by decide⟩
  · exact ⟨tFed, 1, 600, by decide⟩
  · exact ⟨tFed, 1, 649, by decide⟩
  · exact ⟨tFed, 1, 6201, by decide⟩
  · exact ⟨tFed, _, _, 1, 5400, by decide, by decide, by decide, rfl, rfl⟩
  · exact ⟨tRest, 1, 0, by decide⟩
  · exact ⟨tOn 4, 100, by decide⟩
  · exact ⟨(tOn 4).setFlag F.BERTH_SUP_STAT_VLOG_LOW, 2000, by decide⟩
  · exact ⟨tJob, .sdo 0, (.sdo 0, 0, 0), by decide⟩
  · exact ⟨tOn 4, 649, by decide⟩
  · exact ⟨tOn 4, tCpu, by unfold State.granted; decide⟩

/-- Hypotheses of `Obligations.SwitchCommands`, clause by clause. -/
theorem witness_switch_commands :
    (∃ (s : State) (a : Acc) (n : Fin 64), s.granted a .SW_OUT (n)) ∧
    (∃ (s : State) (a : Acc) (n : Fin 64) (v : Nat), s.granted a .SW_OUT (n) ∧ s.onRefused n (F.SW_OUT_MODE.of (BitVec.ofNat 32 v)) = false) ∧
    (∃ (s w : State) (n : Fin 64) (m v : Nat) (a b : List (Nat × Int)) (g : Nat), s.awake = true ∧ m = (s.setVfeed (feedOf n) v).lead n ∧
      ((s.setVfeed (feedOf n) v).swc m).nextStart s.clk.g0 = some g ∧ w = (((s.setVfeed (feedOf n) v).advanceTo (s.gTime g)).periodDone m [a, b]) ∧
      (w.want m).mode < 2) ∧
    (∃ (s w : State) (n : Fin 64) (m v : Nat) (a b : List (Nat × Int)) (g : Nat) (r : Nat × Bool), s.awake = true ∧ m = (s.setVfeed (feedOf n)
      v).lead n ∧ ((s.setVfeed (feedOf n) v).swc m).nextStart s.clk.g0 = some g ∧ w = (((s.setVfeed (feedOf n) v).advanceTo (s.gTime g)).periodDone
      m [a, b]) ∧ 2 ≤ (w.want m).mode ∧ r = w.periodDuty m (w.want m) ∧ (r.2 = false ∨ (w.swc m).satAt.any (fun t => decide (w.now < t + ms 100)) =
      true)) ∧
    (∃ (s w : State) (n : Fin 64) (m v : Nat) (a b : List (Nat × Int)) (g : Nat) (r : Nat × Bool), s.awake = true ∧ m = (s.setVfeed (feedOf n)
      v).lead n ∧ ((s.setVfeed (feedOf n) v).swc m).nextStart s.clk.g0 = some g ∧ w = (((s.setVfeed (feedOf n) v).advanceTo (s.gTime g)).periodDone
      m [a, b]) ∧ 2 ≤ (w.want m).mode ∧ r = w.periodDuty m (w.want m) ∧ r.2 = true ∧ (w.swc m).satAt.all (fun t => decide (t + ms 100 ≤ w.now)) =
      true) ∧
    (∃ (s : State) (n : Fin 64) (t : Nat), s.awake = true ∧ (s.swc n).inrush = some t ∧ (s.swc n).frzAt = none) ∧
    (∃ (s : State) (a : Acc), s.granted a .SW_GLB_GRPCMD (0)) ∧
    (∃ (s : State) (a : Acc) (mode : Fin 4) (ns : List Nat), s.granted a .SW_GLB_GRPCMD (0) ∧ ns = s.leads.filter (fun n => bitOf (s.fld
      F.SW_GLB_GRPLO_SEL + 2 ^ 32 * s.fld F.SW_GLB_GRPHI_SEL) n) ∧ (mode = 0 ∨ (s.live = true ∧ ns.all (fun n => !s.gateShut n) = true))) ∧
    (∃ (s : State) (n : Fin 64) (m t : Nat), s.awake = true ∧ s.lead n = m ∧ (s.swc m).delay = some t) ∧
    (∃ (s : State) (a : Acc), s.granted a .SW_GLB_PAIR (0)) ∧
    (∃ (s : State) (a : Acc) (v : Fin (2 ^ 32)), s.granted a .SW_GLB_PAIR (0) ∧ s.cfgOpen = true ∧ (((List.range 64).filter fun n => bitOf (s.fld
      F.SW_GLB_PAIR_PAIR) (n / 2) != bitOf v (n / 2)).all (fun n => s.fld F.SW_OUT_MODE n == 0 && (s.swc n).st == 0) = true)) ∧
    (∃ (s : State) (n : Fin 64) (x y : Int), s.awake = true ∧ s.paired n = true ∧ 1600 ≤ (x + y).natAbs ∧ (x + y).natAbs < 5 * (x - y).natAbs ∧
      s.flag F.SW_STAT_PAIR_IMB (n / 2 * 2) = false) ∧
    (∃ (s : State) (x y : Int), s.awake = true ∧ 5 * (x - y).natAbs ≤ (x + y).natAbs) ∧
    (∃ (s : State) (a : Acc) (n : Fin 64), s.granted a .SW_PEAK (n)) := by
  refine ⟨?_, ?_, ?_, ?_, ?_, ?_, ?_, ?_, ?_, ?_, ?_, ?_, ?_, ?_⟩
  · exact ⟨tOn 4, tCpu, 63, by unfold State.granted; decide⟩
  · exact ⟨tOn 4, tCpu, 63, 1, by unfold State.granted; decide, by decide⟩
  · exact ⟨tPwm, _, 0, _, 5400, [], [], 0, by decide, rfl, by decide, rfl, by decide⟩
  · exact ⟨tPwm1, _, 0, _, 5400, [], [], 0, _, by decide, rfl, by decide, rfl, by decide, rfl, .inl (by decide)⟩
  · exact ⟨tPwm2, _, 0, _, 700, [], [], 0, _, by decide, rfl, by decide, rfl, by decide, rfl, by decide, by decide⟩
  · exact ⟨tInr, 9, 100, by decide⟩
  · exact ⟨tOn 4, tCpu, by unfold State.granted; decide⟩
  · exact ⟨(tOn 4).setFld F.SW_GLB_GRPLO_SEL 0 5, tCpu, 1, _, by unfold State.granted; decide, rfl, .inr (by decide)⟩
  · exact ⟨tDelay, 9, 9, 100, by decide⟩
  · exact ⟨tOn 3, tCpu, by unfold State.granted; decide⟩
  · exact ⟨tOn 3, tCpu, 5, by unfold State.granted; decide, by decide, by decide +kernel⟩
  · exact ⟨(tOn 4).setFld F.SW_GLB_PAIR_PAIR 0 1, 0, 1600, 0, by decide⟩
  · exact ⟨tOn 4, 6, 4, by decide⟩
  · exact ⟨tOn 4, tCpu, 63, by unfold State.granted; decide⟩

/-- Hypotheses of `Obligations.ChannelProtection`, clause by clause. -/
theorem witness_channel_protection :
    (∃ (s : State) (n : Fin 64) (cur : Nat), s.awake = true ∧ (s.swc n).gateOn (s.now - s.clk.g0) = true ∧ 1500 * s.activeLimit n ≤ cur) ∧
    (∃ (s : State) (n : Fin 64) (cur : Nat), s.awake = true ∧ ((s.swc n).gateOn (s.now - s.clk.g0) = false ∨ cur < 1500 * s.activeLimit n)) ∧
    (∃ (s v : State) (n : Fin 64) (tj : Int), s.awake = true ∧ v = s.setFld F.SW_TEMP_TJ n (satSigned 8 tj) ∧ v.gateOn n = true ∧ (170 ≤ tj ∨
      v.above tj 60 = true) ∧ v.flag F.PROT_CFG_L1_LATCH (v.lead n) = true) ∧
    (∃ (s v : State) (n : Fin 64) (tj : Int), s.awake = true ∧ v = s.setFld F.SW_TEMP_TJ n (satSigned 8 tj) ∧ v.gateOn n = true ∧ (170 ≤ tj ∨
      v.above tj 60 = true) ∧ v.flag F.PROT_CFG_L1_LATCH (v.lead n) = false ∧ 8 ≤ (v.restartsOf (v.lead n)).length) ∧
    (∃ (s v : State) (n : Fin 64) (tj : Int), s.awake = true ∧ v = s.setFld F.SW_TEMP_TJ n (satSigned 8 tj) ∧ v.gateOn n = true ∧ (170 ≤ tj ∨
      v.above tj 60 = true) ∧ v.flag F.PROT_CFG_L1_LATCH (v.lead n) = false ∧ (v.restartsOf (v.lead n)).length < 8) ∧
    (∃ (s v : State) (n : Fin 64) (tj tj2 : Int), s.awake = true ∧ v = s.each ((s.cells n).zip [tj, tj2]) (fun s c => s.setFld F.SW_TEMP_TJ c.1
      (satSigned 8 c.2)) ∧ v.heldIn n 6 6 = true ∧ v.cool n = true) ∧
    (∃ (s v : State) (n : Fin 64) (tj c : Int), s.awake = true ∧ v = s.setFld F.SW_TEMP_TJ n (satSigned 8 tj) ∧ c = (if v.isSafe (.protCh (v.lead
      n)) then 110 else v.fld F.PROT_CFG_CEIL (v.lead n)) ∧ v.fld F.SW_OUT_MODE (v.lead n) ≠ 0 ∧ c ≤ tj ∧ v.held n .ceil = false) ∧
    (∃ (s v : State), s.powered = true ∧ v =
      { s.advanceTo (s.clk.msAt + ms 1) with clk := { s.clk with msAt := (s.advanceTo (s.clk.msAt + ms 1)).now } }) ∧
    (∃ (s : State) (a : Acc) (n : Fin 64), s.granted a .PROT_CLR (n)) ∧
    (∃ (s : State) (a : Acc) (n : Fin 64), s.granted a .PROT_CLR (n) ∧ s.mayClear (s.lead n) = false) ∧
    (∃ (s : State) (a : Acc) (f : Fin 4), s.granted a .PROT_FL_CLR (f)) ∧
    (∃ (s : State) (n : Fin 64), s.awake = true ∧ (s.swc (s.lead n)).policy = 0) ∧
    (∃ (s v : State) (n : Fin 64) (m : Nat) (used : List Nat) (was : Nat × Nat), s.awake = true ∧ m = s.lead n ∧ used = (s.swc m).clears.filter (fun
      t => decide (s.now < t + sec 3600)) ∧ used.length < (s.swc m).policy ∧ s.heldIn m 1 5 = true ∧ s.clk.bDown = none ∧ s.mode' ≠ 5 ∧ was = (s.swc
      m).auto.getD (s.fld F.SW_OUT_MODE m, s.fld F.SW_OUT_DUTY m) ∧ v = (if (s.swc m).auto.isSome then s else s.command m 0 was.2 none) ∧ v.mayClear
      m = false) ∧
    (∃ (s v w : State) (n : Fin 64) (m : Nat) (used : List Nat) (was : Nat × Nat), s.awake = true ∧ m = s.lead n ∧ used = (s.swc m).clears.filter
      (fun t => decide (s.now < t + sec 3600)) ∧ used.length < (s.swc m).policy ∧ s.heldIn m 1 5 = true ∧ s.clk.bDown = none ∧ s.mode' ≠ 5 ∧ was =
      (s.swc m).auto.getD (s.fld F.SW_OUT_MODE m, s.fld F.SW_OUT_DUTY m) ∧ v = (if (s.swc m).auto.isSome then s else s.command m 0 was.2 none) ∧
      (v.setSwc m { v.swc m with auto := some was }).mayClear m = true ∧ w = ((v.setSwc m { v.swc m with auto := some was }).protClear m).1) := by
  refine ⟨?_, ?_, ?_, ?_, ?_, ?_, ?_, ?_, ?_, ?_, ?_, ?_, ?_, ?_⟩
  · exact ⟨tLit, 0, 45000, by decide⟩
  · exact ⟨tOn 4, 0, 5, by decide⟩
  · exact ⟨tLit.setFlag F.PROT_CFG_L1_LATCH 0, _, 0, 170, by decide, rfl, by decide, .inl (by decide), by decide⟩
  · exact ⟨{ tLit with sw := [(0, { drive := { mode := 1 }, st := 1, sup := false, restarts := List.replicate 8 0 })] }, _, 0, 170, by decide, rfl,
    by decide, .inl (by decide), by decide, by decide⟩
  · exact ⟨tLit, _, 0, 170, by decide, rfl, by decide, .inl (by decide), by decide, by decide⟩
  · exact ⟨(tOn 4).setFlag F.PROT_STAT_L1 5, _, 5, 40, 40, by decide, rfl, by decide, by decide⟩
  · exact ⟨(tOn 4).setFld F.SW_OUT_MODE 5 1 |>.setSafe (.protCh 5), _, 5, 110, _, by decide, rfl, rfl, by decide, by decide, by decide⟩
  · exact ⟨tOn 4, _, by decide, rfl⟩
  · exact ⟨tOn 4, tCpu, 63, by unfold State.granted; decide⟩
  · exact ⟨(tOn 4).setFld F.SW_OUT_MODE 63 1, tCpu, 63, by unfold State.granted; decide, by decide⟩
  · exact ⟨tOn 4, tCpu, 3, by unfold State.granted; decide⟩
  · exact ⟨tOn 4, 0, by decide⟩
  · exact ⟨tPolHot, _, 5, _, _, _, by decide, rfl, rfl, by decide, by decide, by decide, by decide, rfl, rfl, by decide⟩
  · exact ⟨tPol, _, _, 5, _, _, _, by decide, rfl, rfl, by decide, by decide, by decide, by decide, rfl, rfl, by decide, rfl⟩

/-- Hypotheses of `Obligations.FeedLimiterAndSag`, clause by clause. -/
theorem witness_feed_limiter_and_sag :
    (∃ (s : State) (f : Fin 4) (aux x : Int), s.powered = true ∧ x = (if f.val = 1 ∨ f.val = 2 then aux else 0)) ∧
    (∃ (s : State) (f : Fin 4) (t : Nat), s.awake = true ∧ (s.flc f).hold = some t) ∧
    (∃ (s v : State) (f : Fin 4) (c t : Nat) (r : List Nat), s.awake = true ∧ (s.flc f).shed = c :: r ∧ (s.flc f).below = some t ∧ (s.flc f).rest =
      none ∧ v = s.advanceTo (t + s.relTime f)) ∧
    (∃ (s : State) (f : Fin 4) (c t : Nat) (r : List Nat) (x : FlRestore), s.awake = true ∧ (s.flc f).shed = c :: r ∧ (s.flc f).below = some t ∧
      (s.flc f).rest = some x) ∧
    (∃ (s : State) (f : Fin 4) (mean v clear : Nat), s.powered = true ∧ (s.flc f).sagAt = none ∧ 100 * v < 85 * mean ∧ us 50 ≤ clear) ∧
    (∃ (s v : State) (f : Fin 4) (volt t : Nat), s.awake = true ∧ (s.flc f).sagAt = some t ∧ v = (if (s.flc f).sagLevel ≤ volt then s else
      s.advanceTo (t + us 200))) := by
  refine ⟨?_, ?_, ?_, ?_, ?_, ?_⟩
  · exact ⟨tOn 4, 1, 5, _, by decide, rfl⟩
  · exact ⟨tFl, 1, 100, by decide⟩
  · exact ⟨tShed, _, 1, 2, 0, [], by decide, by decide, by decide, by decide, rfl⟩
  · exact ⟨{ tOn 4 with fl := [(1, { shed := [2], below := some 0, rest := some { cls := 2, next := 5 } })] }, 1, 2, 0, [], _, by decide, by decide,
    by decide, rfl⟩
  · exact ⟨tOn 4, 1, 5400, 4500, 50000, by decide⟩
  · exact ⟨tSag, _, 1, 5400, 0, by decide, by decide, rfl⟩

/-- Hypotheses of `Obligations.Calibration`, clause by clause. -/
theorem witness_calibration :
    (∃ (s : State) (ppm held : Nat), s.powered = true ∧ s.active .CAL_REF_FAIL = false ∧ 3000 < ppm ∧ sec 1 ≤ held) ∧
    (∃ (s : State) (ppm held : Nat), s.powered = true ∧ ppm ≤ 2000 ∧ sec 10 ≤ held) ∧
    (∃ (s v : State) (n : Fin 64) (m : Nat), s.awake = true ∧ m = s.lead n ∧ s.windowMay m = true ∧ s.groupFits m = true ∧ (s.feedLeads (feedOf
      m)).all (fun k => (s.swc k).win.isNone) = true ∧ (v = s.advanceTo (((lookup m s.cal.visit).map fun t => t + sec (s.fld
      F.CAL_CTRL_PERIOD)).getD 0)) ∧ (v.feedLeads (feedOf m)).all (fun k => !(decide (k < m) && (v.windowMay k && v.groupFits k) && v.visitDue k)) =
      true) ∧
    (∃ (s : State) (n : Fin 64), s.awake = true ∧ (s.swc (s.lead n)).win = none) ∧
    (∃ (s : State) (n : Fin 64) (m : Nat) (w : CalRun), s.awake = true ∧ m = s.lead n ∧ (s.swc m).win = some w ∧ w.gs.length < (s.swc m).groups) ∧
    (∃ (s v : State) (n : Fin 64) (m : Nat) (w : CalRun), s.awake = true ∧ m = s.lead n ∧ (s.swc m).win = some w ∧ (s.swc m).groups ≤ w.gs.length ∧
      v = s.advanceTo (w.gs.getLast?.getD w.at0 + 200000) ∧ v.windowMay m = false) ∧
    (∃ (s v : State) (n : Fin 64) (x : CalWin) (w : CalRun) (gain off : Int), s.awake = true ∧ s.lead n = n.val ∧ s.paired n = false ∧ (s.swc
      n).driving = true ∧ (s.swc n).win = some w ∧ 4 ≤ w.gs.length ∧ v = s.advanceTo (w.gs.getLast?.getD w.at0 + 200000) ∧ v.windowMay n = true ∧
      gain = roundDiv (2 * x.j - (x.p1 + x.p2) - 2000000) 20 ∧ off = roundDiv ((x.p1 + x.p2) + 2 * x.x) 1000) ∧
    (∃ (s v : State) (n : Fin 64) (x : CalWin) (w : CalRun) (off : Int), s.awake = true ∧ s.lead n = n.val ∧ s.paired n = false ∧ (s.swc n).driving
      = false ∧ (s.swc n).win = some w ∧ 2 ≤ w.gs.length ∧ v = s.advanceTo (w.gs.getLast?.getD w.at0 + 200000) ∧ v.windowMay n = true ∧ off =
      roundDiv (x.p1 + x.x) 500) ∧
    (∃ (s v : State) (n : Fin 64) (m : Nat) (x y : CalWin) (w : CalRun) (gain : Int), s.awake = true ∧ m = s.lead n ∧ s.paired n = true ∧ (s.swc
      m).driving = true ∧ (s.swc m).win = some w ∧ 4 ≤ w.gs.length ∧ v = s.advanceTo (w.gs.getLast?.getD w.at0 + 200000) ∧ v.windowMay m = true ∧
      gain = roundDiv ((2 * x.j - (x.p1 + x.p2)) + (2 * y.j - (y.p1 + y.p2)) - 4000000) 40) ∧
    (∃ (s : State) (a : Acc), s.granted a .CAL_CTRL (0) ∧ inRange 1 10 (F.CAL_CTRL_PERIOD.of (s.rd .CAL_CTRL 0)) = true) ∧
    (∃ (s : State) (a : Acc), s.granted a .CAL_CTRL (0) ∧ inRange 1 10 (F.CAL_CTRL_PERIOD.of (s.rd .CAL_CTRL 0)) = true) ∧
    (∃ (s : State) (x : Fin 2) (gain off fact : Int), s.calMay = true ∧ s.awake = true ∧ s.flag F.CAL_CTRL_BOOST_EN = true ∧ fact = (if
      s.cal.factGood then ((lookup x.val s.cal.factB).getD (0, 0)).1 else 0) ∧ 100 * (gain - fact).natAbs ≤ 2 * (100000 + fact).natAbs) ∧
    (∃ (s : State) (x : Fin 2) (gain off fact : Int), s.calMay = true ∧ s.awake = true ∧ s.flag F.CAL_CTRL_BOOST_EN = true ∧ fact = (if
      s.cal.factGood then ((lookup x.val s.cal.factB).getD (0, 0)).1 else 0) ∧ 2 * (100000 + fact).natAbs < 100 * (gain - fact).natAbs ∧ s.active
      .CAL_BOOST_DRIFT x = false) ∧
    (∃ (s : State) (g : Fin 6) (onV offV : Nat) (t3 : Bool), s.powered = true ∧ s.isSafe .cal = false ∧ s.flag F.CAL_CTRL_DI_EN = true ∧ t3 =
      (s.flag F.DIO_GRP_CFG_TYPE g && !s.isSafe (.dioGrp g)) ∧ ((onV : Int) - (if t3 then 8000 else 11000)).natAbs ≤ 400 ∧ ((offV : Int) - (if t3
      then 6500 else 9000)).natAbs ≤ 400) ∧
    (∃ (s : State) (g : Fin 6) (onV offV : Nat) (t3 : Bool), s.powered = true ∧ s.isSafe .cal = false ∧ s.flag F.CAL_CTRL_DI_EN = true ∧ t3 =
      (s.flag F.DIO_GRP_CFG_TYPE g && !s.isSafe (.dioGrp g)) ∧ (400 < ((onV : Int) - (if t3 then 8000 else 11000)).natAbs ∨ 400 < ((offV : Int) -
      (if t3 then 6500 else 9000)).natAbs) ∧ s.active .CAL_DI_THRESH g = false) ∧
    (∃ (s : State) (n : Fin 64), s.awake = true ∧ s.conducting n = true) := by
  refine ⟨?_, ?_, ?_, ?_, ?_, ?_, ?_, ?_, ?_, ?_, ?_, ?_, ?_, ?_, ?_, ?_⟩
  · exact ⟨tOn 4, 3001, 1000000000, by decide⟩
  · exact ⟨tOn 4, 2000, 10000000000, by decide⟩
  · exact ⟨tWin, _, 9, _, by decide, rfl, by decide, by decide, by decide, rfl, by decide +kernel⟩
  · exact ⟨tOn 4, 9, by decide⟩
  · exact ⟨tWin2, 9, _, { at0 := 0 }, by decide, rfl, by decide, by decide⟩
  · exact ⟨{ tOn 4 with sw := [(9, { win := some { at0 := 0, gs := [0, 200000] } })] }, _, 9, _, { at0 := 0, gs := [0, 200000] }, by decide, rfl, by
    decide, by decide, rfl, by decide⟩
  · exact ⟨tCalOn, _, 10, ⟨8133000, 9144000, -8043000, 8133000⟩, { at0 := 0, gs := [0, 200000, 400000, 600000] }, _, _, by decide, by decide, by
    decide, by decide, by decide, by decide, rfl, by decide, rfl, rfl⟩
  · exact ⟨{ tWin with sw := [(9, { sup := false, win := some { at0 := 1000000000, gs := [1000000000, 1000200000] } })] }, _, 9, ⟨0, 0, 5, 0⟩,
    { at0 := 1000000000, gs := [1000000000, 1000200000] }, _, by decide, by decide, by decide, by decide, by decide, by decide, rfl, by decide, rfl⟩
  · exact ⟨tCalPair, _, 11, _, ⟨8133000, 9144000, -8043000, 8133000⟩, ⟨8133000, 9144000, -8043000, 8133000⟩,
    { at0 := 0, gs := [0, 200000, 400000, 600000] }, _, by decide, rfl, by decide, by decide, by decide, by decide, rfl, by decide, rfl⟩
  · exact ⟨tOn 4, tCpu, by unfold State.granted; decide⟩
  · exact ⟨tOn 4, tCpu, by unfold State.granted; decide⟩
  · exact ⟨{ tOn 4 with cal := { factGood := false } }, 0, 2000, 5, _, by decide, by decide, by decide, rfl, by decide⟩
  · exact ⟨{ tOn 4 with cal := { factGood := false } }, 1, 2001, 5, _, by decide, by decide, by decide, rfl, by decide, by decide⟩
  · exact ⟨(tOn 4).setFlag F.DIO_GRP_CFG_TYPE 5 false, 5, 11400, 8600, _, by decide, by decide, by decide, rfl, by decide, by decide⟩
  · exact ⟨(tOn 4).setFlag F.DIO_GRP_CFG_TYPE 5 false, 5, 11401, 9000, _, by decide, by decide, by decide, rfl, .inl (by decide), by decide⟩
  · exact ⟨tLit, 0, by decide⟩

/-- Hypotheses of `Obligations.LoadDiagnostics`, clause by clause. -/
theorem witness_load_diagnostics :
    (∃ (s : State) (n : Fin 64) (m : Nat), s.awake = true ∧ m = s.lead n ∧ s.diagMay m F.CAL_CH_DIAG_OFF_EN = true ∧ s.offState m = true ∧ s.powered
      = true) ∧
    (∃ (s v : State) (n : Fin 64) (m : Nat) (vout : Int), s.awake = true ∧ m = s.lead n ∧ v = s.setFld F.CAL_CH_DSTAT_VOUT m (satSigned 16 vout) ∧
      250 < vout ∧ v.diagMay m F.CAL_CH_DIAG_OFF_EN = true ∧ v.offState m = true ∧ v.flag F.CAL_CH_DSTAT_PULLUP m = true) ∧
    (∃ (s v : State) (n : Fin 64) (m : Nat) (vout : Int), s.awake = true ∧ m = s.lead n ∧ v = s.setFld F.CAL_CH_DSTAT_VOUT m (satSigned 16 vout) ∧
      600 ≤ vout ∧ v.diagMay m F.CAL_CH_DIAG_STF_EN = true ∧ v.offState m = true) ∧
    (∃ (s v : State) (n : Fin 64) (m t k : Nat), s.awake = true ∧ m = s.lead n ∧ (s.swc m).low = some (t, k) ∧ s.diagMay m F.CAL_CH_DIAG_ON_EN =
      true ∧ s.conducting m = true ∧ ((s.swc m).st = 1 ∨ 2 ≤ k) ∧ v = s.advanceTo (t + ms 10)) ∧
    (∃ (s : State), s.awake = true) ∧
    (∃ (s : State), s.awake = true) ∧
    (∃ (s : State) (n : Fin 64) (m t : Nat), s.awake = true ∧ m = s.lead n ∧ (s.swc m).high = some t) := by
  refine ⟨?_, ?_, ?_, ?_, ?_, ?_, ?_⟩
  · exact ⟨(tOn 4).setFlag F.CAL_CH_DIAG_OFF_EN 9, 9, _, by decide, rfl, by decide, by decide, by decide⟩
  · exact ⟨((tOn 4).setFlag F.CAL_CH_DIAG_OFF_EN 9).setFlag F.CAL_CH_DSTAT_PULLUP 9, _, 9, _, 251, by decide, rfl, rfl, by decide, by decide, by
    decide, by decide⟩
  · exact ⟨(tOn 4).setFlag F.CAL_CH_DIAG_STF_EN 9, _, 9, _, 600, by decide, rfl, rfl, by decide, by decide, by decide⟩
  · exact ⟨{ tLit.setFlag F.CAL_CH_DIAG_ON_EN 0 with sw := [(0, { drive := { mode := 1 }, st := 1, sup := false, low := some (0, 0) })] }, _, 0, _,
    0, 0, by decide, rfl, by decide, by decide, by decide, .inl (by decide), rfl⟩
  · exact ⟨tOn 4, by decide⟩
  · exact ⟨tOn 4, by decide⟩
  · exact ⟨{ tOn 4 with sw := [(9, { high := some 0 })] }, 9, _, 0, by decide, rfl, by decide⟩

/-- Hypotheses of `Obligations.Boosts`, clause by clause. -/
theorem witness_boosts :
    (∃ (s : State) (x : Fin 2) (p cur : Nat), s.awake = true ∧ s.flag F.INJ_BST_STAT_RUN x = true ∧ s.bstLimits p cur = true) ∧
    (∃ (s : State) (x : Fin 2) (p cur : Nat), s.awake = true ∧ (s.flag F.INJ_BST_STAT_RUN x = false ∨ s.bstLimits p cur = false)) ∧
    (∃ (s : State) (p cur : Nat), s.awake = true ∧ s.bstLimits p cur = false) ∧
    (∃ (s : State) (x : Fin 2) (v : Nat), s.awake = true ∧ 760 < v ∧ s.flag F.INJ_BST_STAT_OV x = false) ∧
    (∃ (s : State) (v : Nat), s.awake = true ∧ v ≤ 760) ∧
    (∃ (s : State) (a : Acc) (x : Fin 2), s.granted a .INJ_BST_STAT (x)) ∧
    (∃ (s : State) (x : Fin 2) (t : Nat), s.awake = true ∧ lookup x.val s.inj.enAt = some t ∧ s.active .BOOST_START_FAIL x = false) ∧
    (∃ (s : State) (x : Fin 2) (v : Nat), s.awake = true ∧ s.flag F.INJ_BST_STAT_RUN x = true ∧ s.flag F.INJ_BST_STAT_OV x = false ∧ 95 * s.fld
      F.INJ_BST_CFG_VTGT x ≤ 100 * v) ∧
    (∃ (s : State) (x : Fin 2) (v : Nat), s.awake = true ∧ 100 * v < 95 * s.fld F.INJ_BST_CFG_VTGT x) ∧
    (∃ (s : State) (c : Fin 24) (r : ValveRun) (t : Nat), s.awake = true ∧ (s.injc c).run = some r ∧ r.waitBst = some t) := by
  refine ⟨?_, ?_, ?_, ?_, ?_, ?_, ?_, ?_, ?_, ?_⟩
  · exact ⟨tBst, 1, 4000, 5, by decide⟩
  · exact ⟨tOn 4, 0, 0, 0, by decide⟩
  · exact ⟨tBst, 0, 0, by decide⟩
  · exact ⟨tBst, 1, 761, by decide⟩
  · exact ⟨tOn 4, 760, by decide⟩
  · exact ⟨tBst, tCpu, 1, by unfold State.granted; decide⟩
  · exact ⟨tBst, 1, 40, by decide⟩
  · exact ⟨tBst, 1, 618, by decide⟩
  · exact ⟨tBst, 1, 617, by decide⟩
  · exact ⟨tValve { tRun with waitBst := some 0 }, 23, { tRun with waitBst := some 0 }, 0, by decide⟩

/-- Hypotheses of `Obligations.ValveEvents`, clause by clause. -/
theorem witness_valve_events :
    (∃ (s : State) (a : Acc) (c : Fin 24) (dur : Nat), s.granted a .INJ_CH_CMD (c) ∧ s.live = true ∧ 1 ≤ dur ∧ dur ≤ 1000000) ∧
    (∃ (s : State) (a : Acc) (c : Fin 24) (dur : Nat), s.granted a .INJ_CH_CMD (c) ∧ s.live = false ∧ 1 ≤ dur ∧ dur ≤ 1000000) ∧
    (∃ (s : State) (a : Acc) (c : Fin 24) (dur : Nat), s.granted a .INJ_CH_CMD (c) ∧ (dur = 0 ∨ (1000000 < dur ∧ dur < 2 ^ 20))) ∧
    (∃ (s : State) (a : Acc) (c : Fin 24), s.granted a .INJ_CH_CMD (c)) ∧
    (∃ (s v : State) (c : Fin 24) (i : Shunt) (r : ValveRun) (w : Nat), s.awake = true ∧ v = s.chop (bankOf c) s.now i ∧ (v.injc c).run = some r ∧
      r.phs[r.phase]? = some w ∧ r.decay = false ∧ r.waitBst = none ∧ (2 ≤ phType w ∨ r.degraded = true) ∧ (phType w ≠ 2 ∨ phTime w ≠ 0) ∧ r.phAt +
      us (phTime w) < r.cmdEnd ∧ r.phase + 1 < r.phs.length) ∧
    (∃ (s v : State) (c : Fin 24) (i : Shunt) (r : ValveRun) (w : Nat), s.awake = true ∧ v = s.chop (bankOf c) s.now i ∧ (v.injc c).run = some r ∧
      r.phs[r.phase]? = some w ∧ r.decay = false ∧ r.waitBst = none ∧ (2 ≤ phType w ∨ r.degraded = true) ∧ (phType w ≠ 2 ∨ phTime w ≠ 0) ∧ r.phAt +
      us (phTime w) < r.cmdEnd ∧ r.phs.length ≤ r.phase + 1) ∧
    (∃ (s v : State) (c : Fin 24) (i : Shunt) (r : ValveRun) (w : Nat), s.awake = true ∧ v = s.chop (bankOf c) s.now i ∧ (v.injc c).run = some r ∧
      r.phs[r.phase]? = some w ∧ r.decay = false ∧ r.waitBst = none ∧ phType w ≤ 1 ∧ r.degraded = false ∧ r.phAt + us (phTime w) < r.cmdEnd) ∧
    (∃ (s v : State) (c : Fin 24) (i : Shunt) (r : ValveRun) (w : Nat), s.awake = true ∧ v = s.chop (bankOf c) s.now i ∧ (v.injc c).run = some r ∧
      r.phs[r.phase]? = some w ∧ r.decay = false ∧ r.waitBst = none ∧ phType w ≤ 1 ∧ r.tpeak = none ∧ us (v.fld F.INJ_CH_PROT_TRISE_MIN c) ≤ v.now -
      r.phAt ∧ r.phase + 1 < r.phs.length) ∧
    (∃ (s v : State) (c : Fin 24) (i : Shunt) (r : ValveRun) (w : Nat), s.awake = true ∧ v = s.chop (bankOf c) s.now i ∧ (v.injc c).run = some r ∧
      r.phs[r.phase]? = some w ∧ r.decay = false ∧ r.waitBst = none ∧ phType w ≤ 1 ∧ r.tpeak = none ∧ v.now - r.phAt < us (v.fld
      F.INJ_CH_PROT_TRISE_MIN c)) ∧
    (∃ (s v : State) (c : Fin 24) (i : Shunt), s.awake = true ∧ v = s.chop (bankOf c) s.now i ∧ (v.injc c).run = none) ∧
    (∃ (s v : State) (c : Fin 24) (i : Shunt) (r : ValveRun), s.awake = true ∧ v = s.chop (bankOf c) s.now i ∧ (v.injc c).run = some r ∧ r.decay =
      false) ∧
    (∃ (s : State) (c : Fin 24) (x : Decay) (r : ValveRun), s.awake = true ∧ (s.injc c).run = some r ∧ r.decay = true ∧ r.fast = true) ∧
    (∃ (s v : State) (c : Fin 24) (x : Decay) (r : ValveRun) (w : Nat × Nat) (off : Nat), s.awake = true ∧ (s.injc c).run = some r ∧ r.decay = true
      ∧ r.fast = false ∧ w = s.closeWin c r ∧ off = r.lowOff w x ∧ (hdrClose r.hdr = false ∨ w.2 ≤ w.1 ∨ off ≤ us w.1) ∧ v = s.advanceTo (r.decayAt
      + off + (if x.below ≤ off then 0 else x.tail))) ∧
    (∃ (s v : State) (c : Fin 24) (x : Decay) (r : ValveRun) (w : Nat × Nat) (off t k : Nat), s.awake = true ∧ (s.injc c).run = some r ∧ r.decay =
      true ∧ r.fast = false ∧ w = s.closeWin c r ∧ off = r.lowOff w x ∧ hdrClose r.hdr = true ∧ w.1 < w.2 ∧ us w.1 < off ∧ v = s.advanceTo
      (r.decayAt + off + (if x.below ≤ off then 0 else x.tail)) ∧ kinkIn x.volts (us w.1) (Nat.min (us w.2) off) = some t ∧ k = (t + 500) / 1000) ∧
    (∃ (s v : State) (c : Fin 24) (x : Decay) (r : ValveRun) (w : Nat × Nat) (off : Nat) (y : State), s.awake = true ∧ (s.injc c).run = some r ∧
      r.decay = true ∧ r.fast = false ∧ w = s.closeWin c r ∧ off = r.lowOff w x ∧ hdrClose r.hdr = true ∧ w.1 < w.2 ∧ us w.1 < off ∧ v = s.advanceTo
      (r.decayAt + off + (if x.below ≤ off then 0 else x.tail)) ∧ kinkIn x.volts (us w.1) (Nat.min (us w.2) off) = none ∧ y = v.setInjc c
      { v.injc c with misses := (v.injc c).misses + 1 }) ∧
    (∃ (s : State), s.awake = true) ∧
    (∃ (s : State) (c : Fin 24) (w : ValveEv), s.awake = true ∧ (s.injc c).wait = some w) := by
  refine ⟨?_, ?_, ?_, ?_, ?_, ?_, ?_, ?_, ?_, ?_, ?_, ?_, ?_, ?_, ?_, ?_, ?_⟩
  · exact ⟨tOn 4, tCpu, 23, 1000000, by unfold State.granted; decide⟩
  · exact ⟨tOn 3, tCpu, 23, 1, by unfold State.granted; decide⟩
  · exact ⟨tOn 4, tCpu, 23, 0, by unfold State.granted; decide, .inl rfl⟩
  · exact ⟨tValve tRun, tCpu, 23, by unfold State.granted; decide⟩
  · exact ⟨tValve { tRun with phs := [0x30000064, 0] }, _, 23, [], { tRun with phs := [0x30000064, 0] }, 0x30000064, by decide, rfl, by decide, by
    decide, by decide, by decide, .inl (by decide), .inl (by decide), by decide, by decide⟩
  · exact ⟨tValve { tRun with phs := [0x30000064] }, _, 23, [], { tRun with phs := [0x30000064] }, 0x30000064, by decide, rfl, by decide, by decide,
    by decide, by decide, .inl (by decide), .inl (by decide), by decide, by decide⟩
  · exact ⟨tValve { tRun with phs := [0x00000064] }, _, 23, [], { tRun with phs := [0x00000064] }, 0x00000064, by decide, rfl, by decide, by decide,
    by decide, by decide, by decide, by decide, by decide⟩
  · exact ⟨{ tValve { tRun with phs := [0x00000064, 0] } with now := 100000000 }, _, 23, [], { tRun with phs := [0x00000064, 0] }, 0x00000064, by
    decide, rfl, by decide, by decide, by decide, by decide, by decide, by decide, by decide, by decide⟩
  · exact ⟨(tValve { tRun with phs := [0x00000064, 0] }).setFld F.INJ_CH_PROT_TRISE_MIN 23 9, _, 23, [], { tRun with phs := [0x00000064, 0] },
    0x00000064, by decide, rfl, by decide, by decide, by decide, by decide, by decide, by decide, by decide⟩
  · exact ⟨tOn 4, _, 0, [], by decide, rfl, by decide⟩
  · exact ⟨tValve tRun, _, 23, [], tRun, by decide, rfl, by decide, by decide⟩
  · exact ⟨tValve { tRun with decay := true, fast := true }, 23, {}, { tRun with decay := true, fast := true }, by decide⟩
  · exact ⟨tValve { tRun with decay := true }, _, 23, {}, { tRun with decay := true }, _, _, by decide, by decide, by decide, by decide, rfl, rfl,
    .inl (by decide), rfl⟩
  · exact ⟨tClose, _, 23, tKink, { tRun with decay := true, hdr := 0x08000020 }, _, _, 30000, _, by decide, by decide, by decide, by decide, rfl,
    rfl, by decide, by decide, by decide +kernel, rfl, by decide +kernel, rfl⟩
  · exact ⟨tClose, _, 23, { below := 0 }, { tRun with decay := true, hdr := 0x08000020 }, _, _, _, by decide, by decide, by decide, by decide, rfl,
    rfl, by decide, by decide, by decide +kernel, rfl, by decide +kernel, rfl⟩
  · exact ⟨tOn 4, by decide⟩
  · exact ⟨{ tOn 4 with inj := { ch := [(23, { wait := some ⟨none, 1, 50, 0⟩ })] } }, 23, ⟨none, 1, 50, 0⟩, by decide⟩

/-- Hypotheses of `Obligations.ValveFaultsAndLasts`, clause by clause. -/
theorem witness_valve_faults_and_lasts :
    (∃ (s : State) (c : Fin 24), s.awake = true ∧ (s.injc c).run = none) ∧
    (∃ (s : State) (c : Fin 24) (r : ValveRun), s.awake = true ∧ (s.injc c).run = some r) ∧
    (∃ (s : State) (a : Acc) (c : Fin 24), s.granted a .INJ_CH_CMD (c) ∧ (s.injc c).latched = true ∧ (s.injc c).run = none) ∧
    (∃ (s : State) (a : Acc) (c : Fin 24) (r : ValveRun), s.granted a .INJ_CH_CMD (c) ∧ (s.injc c).run = some r) ∧
    (∃ (s : State), s.awake = true) ∧
    (∃ (s : State) (a : Acc) (b : Fin 6), s.granted a .INJ_BANK_STAT (b)) ∧
    (∃ (s : State) (a : Acc), s.granted a .INJ_GLB_CTRL (0)) ∧
    (∃ (s : State) (a : Acc) (l : Fin 32), s.granted a .INJ_LAST_HDR (l)) ∧
    (∃ (s : State) (a : Acc) (l : Fin 32) (k : Fin 8), s.granted a .INJ_LAST_PH (8 * l + k)) ∧
    (∃ (s : State) (a : Acc) (l : Fin 32) (v m : Nat), s.granted a .INJ_LAST_HDR (l) ∧ m = (s.merge .INJ_LAST_HDR (l) (BitVec.ofNat 32 v)
      0xFFFFFFFF).toNat ∧ hdrOk m = true ∧ (m % 16 = 0 ∨ phasesOk ((List.range (m % 16)).map fun k => (s.rd .INJ_LAST_PH (l * 8 + k)).toNat) =
      true)) ∧
    (∃ (s : State) (a : Acc) (l : Fin 32) (k : Fin 8) (v h m : Nat), s.granted a .INJ_LAST_PH (8 * l + k) ∧ m = (s.merge .INJ_LAST_PH (8 * l + k)
      (BitVec.ofNat 32 v) 0xFFFFFFFF).toNat ∧ h = (s.rd .INJ_LAST_HDR l).toNat ∧ (h % 16 ≤ k ∨ phasesOk ((List.range (h % 16)).map fun j => if j =
      k.val then m else (s.rd .INJ_LAST_PH (l * 8 + j)).toNat) = true)) := by
  refine ⟨?_, ?_, ?_, ?_, ?_, ?_, ?_, ?_, ?_, ?_, ?_⟩
  · exact ⟨tOn 4, 23, by decide⟩
  · exact ⟨tValve tRun, 23, tRun, by decide⟩
  · exact ⟨{ tOn 4 with inj := { ch := [(23, { latched := true })] } }, tCpu, 23, by unfold State.granted; decide⟩
  · exact ⟨tValve tRun, tCpu, 23, tRun, by unfold State.granted; decide⟩
  · exact ⟨tOn 4, by decide⟩
  · exact ⟨tOn 4, tCpu, 5, by unfold State.granted; decide⟩
  · exact ⟨tOn 4, tCpu, by unfold State.granted; decide⟩
  · exact ⟨tOn 4, tCpu, 31, by unfold State.granted; decide⟩
  · exact ⟨tOn 4, tCpu, 31, 7, by unfold State.granted; decide⟩
  · exact ⟨tOn 4, tCpu, 31, 0x00640100, _, by unfold State.granted; decide, rfl, by decide, .inl (by decide)⟩
  · exact ⟨tOn 4, tCpu, 31, 7, 5, _, _, by unfold State.granted; decide, rfl, rfl, .inl (by decide)⟩

/-- Hypotheses of `Obligations.EventEngine`, clause by clause. -/
theorem witness_event_engine :
    (∃ (s : State) (a : Acc), s.granted a .EVE_CMD (0)) ∧
    (∃ (s : State) (a : Acc) (asap : Bool) (t : Nat) (e : EvEnt), s.granted a .EVE_CMD (0) ∧ t = (s.rd .EVE_CMD_TLO).toNat + (s.rd
      .EVE_CMD_THI).toNat * 2 ^ 32 ∧ s.timeOk = true ∧ s.flag F.EVE_CTRL_EN = true ∧ s.live = true ∧ s.isSafe .eve = false ∧ 0 ≤ diff64 t
      ((s.logical + us 50) % 2 ^ 64) ∧ diff64 t s.logical ≤ ((sec 100 : Nat) : Int) ∧ e =
      { st := 1, gen := 0, target := s.fld F.EVE_CMD_SPEC_TARGET, value := s.fld F.EVE_CMD_SPEC_VALUE, dur := s.fld F.EVE_CMD_DUR_DUR, start := t, src := 0, late := false }
      ∧ s.badEvent e.target e.value e.dur = false ∧ s.eve.store.length < 4096) ∧
    (∃ (s : State) (a : Acc) (h : Fin 65536), s.granted a .EVE_CMD (0) ∧ s.byHandle h = none) ∧
    (∃ (s : State) (a : Acc) (h : Fin 65536) (i : Nat) (e : EvEnt), s.granted a .EVE_CMD (0) ∧ s.byHandle h = some (i, e)) ∧
    (∃ (s : State) (a : Acc), s.granted a .EVE_CMD (0)) ∧
    (∃ (s : State) (i : Nat) (e : EvEnt), s.awake = true ∧ s.ent i = some e ∧ e.st = 1) ∧
    (∃ (s : State) (i : Nat), s.awake = true ∧ s.ent i = none) ∧
    (∃ (s v : State) (i : Nat) (e : EvEnt), s.awake = true ∧ s.ent i = some e ∧ e.st = 2 ∧ v = (if e.late then (s.reach e.start).setFlag
      F.EVE_EVT_LATE else s.reach e.start) ∧ e.aborted = true) ∧
    (∃ (s v : State) (i : Nat) (e : EvEnt), s.awake = true ∧ s.ent i = some e ∧ e.st = 2 ∧ v = (if e.late then (s.reach e.start).setFlag
      F.EVE_EVT_LATE else s.reach e.start) ∧ e.aborted = false ∧ 64 ≤ e.target) ∧
    (∃ (s v w : State) (i : Nat) (e : EvEnt) (quiet : Bool) (n : Nat), s.awake = true ∧ s.ent i = some e ∧ e.st = 2 ∧ n = e.target ∧ v = ((if e.late
      then (s.reach e.start).setFlag F.EVE_EVT_LATE else s.reach e.start).endSwitch n 14) ∧ e.aborted = false ∧ n < 64 ∧ quiet = (v.anyHold n ||
      (v.gov n).isSome || (v.reflexOn n).isSome || v.gateShut n || v.extracting || v.isSafe .boll) ∧ w = v.setEnt i
      { e with st := 3, ends := v.now + us e.dur, result := if quiet then 15 else 0 } ∧ (quiet = true ∨ e.value = 4095)) ∧
    (∃ (s v w : State) (i : Nat) (e : EvEnt) (n : Nat), s.awake = true ∧ s.ent i = some e ∧ e.st = 2 ∧ n = e.target ∧ v = ((if e.late then (s.reach
      e.start).setFlag F.EVE_EVT_LATE else s.reach e.start).endSwitch n 14) ∧ e.aborted = false ∧ n < 64 ∧ (v.anyHold n || (v.gov n).isSome ||
      (v.reflexOn n).isSome || v.gateShut n || v.extracting || v.isSafe .boll) = false ∧ e.value ≠ 4095 ∧ w = v.setEnt i
      { e with st := 3, ends := v.now + us e.dur, result := 0 }) ∧
    (∃ (s : State) (c : Fin 64) (e : SwEv) (x : EvEnt), s.awake = true ∧ s.swEv c = some e ∧ s.ent e.ent = some x) ∧
    (∃ (s : State) (a : Acc), s.granted a .EVE_CTRL (0) ∧ inRange 200 10000 (s.fld F.EVE_CTRL_HORIZON) = true) := by
  refine ⟨?_, ?_, ?_, ?_, ?_, ?_, ?_, ?_, ?_, ?_, ?_, ?_, ?_⟩
  · exact ⟨tOn 4, tCpu, by unfold State.granted; decide⟩
  · exact ⟨tDirect, tCpu, false, 1000000, _, by unfold State.granted; decide, by decide, by decide, by decide, by decide, by decide, by decide, by
    decide, rfl, by decide, by decide⟩
  · exact ⟨tOn 4, tCpu, 65535, by unfold State.granted; decide⟩
  · exact ⟨tEve tEnt, tCpu, 0x2005, 5, tEnt, by unfold State.granted; decide⟩
  · exact ⟨tEve tEnt, tCpu, by unfold State.granted; decide⟩
  · exact ⟨tEve tEnt, 5, tEnt, by decide⟩
  · exact ⟨tOn 4, 5, by decide⟩
  · exact ⟨tEve { tEnt with st := 2, aborted := true }, _, 5, { tEnt with st := 2, aborted := true }, by decide, by decide, by decide, rfl, by
    decide⟩
  · exact ⟨tEve { tEnt with st := 2 }, _, 5, { tEnt with st := 2 }, by decide, by decide, by decide, rfl, by decide, by decide⟩
  · exact ⟨tEveSw 4095, _, _, 5, { tEnt with st := 2, target := 9, value := 4095 }, _, _, by decide, by decide, by decide, rfl, rfl, by decide, by
    decide, rfl, rfl, .inr (by decide)⟩
  · exact ⟨tEveSw 2000, _, _, 5, { tEnt with st := 2, target := 9, value := 2000 }, _, by decide, by decide, by decide, rfl, rfl, by decide, by
    decide, by decide, by decide, rfl⟩
  · exact ⟨{ tOn 4 with eve := { store := [(5, { tEnt with st := 3, target := 9, ends := 100 })], sw := [(9, ⟨5, { mode := 1 }, false⟩)] } }, 9, ⟨5,
    { mode := 1 }, false⟩, { tEnt with st := 3, target := 9, ends := 100 }, by decide⟩
  · exact ⟨tOn 4, tCpu, by unfold State.granted; decide⟩

/-- Hypotheses of `Obligations.Streams`, clause by clause. -/
theorem witness_streams :
    (∃ (s : State) (a : Acc) (t : Fin 8) (w : Nat), s.granted a .EVE_ST_RECLO (t) ∧ s.granted a .EVE_ST_RECHI (t) ∧ w < 2 ^ 64 ∧ s.flag
      F.EVE_ST_CTRL_OPEN t = true ∧ s.live = true ∧ s.clk.bDown = none ∧ (s.strm t).recs.length < 256 ∧ (s.strm t).newest = none) ∧
    (∃ (s : State) (a : Acc) (t : Fin 8), s.granted a .EVE_ST_RECLO (t) ∧ s.granted a .EVE_ST_RECHI (t) ∧ s.flag F.EVE_ST_CTRL_OPEN t = false) ∧
    (∃ (s : State) (t : Fin 8), s.awake = true ∧ (s.strm t).recs = []) ∧
    (∃ (s v w : State) (t : Fin 8) (r : Nat × Nat × Nat) (rest : List (Nat × Nat × Nat)) (evs keep good : List EvEnt), s.awake = true ∧ (s.strm
      t).recs = r :: rest ∧ evs = s.expand t r ∧ (evs = [] ∨ evs.any (fun e => decide (diff64 e.start s.logical ≤ (ms (s.fld F.EVE_ST_CTRL_RUN_AHEAD
      t) : Nat))) = true) ∧ s.flag F.EVE_ST_CTRL_OPEN t = true ∧ s.clk.bDown = none ∧ s.timeOk = true ∧ s.flag F.EVE_CTRL_EN = true ∧ s.live = true
      ∧ s.isSafe .eve = false ∧ s.extracting = false ∧ s.moving t = true ∧ keep = evs.filter (fun e => !decide (diff64 e.start s.logical <
      (s.horizonNs : Nat))) ∧ good = keep.filter (fun e => !s.badEvent e.target e.value e.dur) ∧ s.eve.store.length + good.length ≤ s.streamRoom ∧ v
      = ((s.setStrm t { s.strm t with recs := rest }).bump F.EVE_ST_CNT_RECORDS t).each (List.range (keep.length - good.length)) (fun s _ =>
      s.eveRefuse) ∧ w = (if evs.length - keep.length = 0 then v else ((v.bump F.EVE_ST_CNT_LATE_DROP t (evs.length - keep.length)).setFlag
      F.EVE_EVT_LATE_DROP).raise .RECORD_LATE t [] (sec 1))) ∧
    (∃ (s v w y : State) (t : Fin 8) (x : Strm) (vel : Nat), s.awake = true ∧ v = s.advanceTo ((s.strm t).upd + ms 1) ∧ vel = (if s.fld
      F.EVE_ST_CTRL_SRC t = 0 then pulseSpeed (s.strm t).pulses (s.fld F.EVE_ST_SCALE_SCALE t) v.now (ms 10 * s.fld F.EVE_ST_CFG2_TIMEOUT t) else if
      (s.strm t).loss then 0 else (s.strm t).v) ∧ x = (if s.fld F.EVE_ST_CTRL_SRC t = 0 then { s.strm t with v := vel, upd := v.now } else
      { s.strm t with v := vel, odo := ((s.strm t).odo + vel * 65536 / 1000) % 2 ^ 48, upd := v.now }) ∧ w = (v.setStrm t x).setFld
      F.EVE_ST_SPEED_SPEED t vel ∧ (y = (if w.moving t then w.each (w.eve.store.filter fun z => z.2.st == 1 && z.2.src == t.val + 2) (fun s z =>
      s.retime t z.1) else w.retractAll fun e => e.src == t + 2)) ∧ (s.strm t).newest.all (fun p => !(y.flag F.EVE_ST_CTRL_OPEN t && y.moving t &&
      decide (posDiff p (y.strmNow t).mm < 0) && !(s.strm t).under)) = true) ∧
    (∃ (s v w y : State) (t : Fin 8) (x : Strm) (vel p : Nat), s.awake = true ∧ v = s.advanceTo ((s.strm t).upd + ms 1) ∧ vel = (if s.fld
      F.EVE_ST_CTRL_SRC t = 0 then pulseSpeed (s.strm t).pulses (s.fld F.EVE_ST_SCALE_SCALE t) v.now (ms 10 * s.fld F.EVE_ST_CFG2_TIMEOUT t) else if
      (s.strm t).loss then 0 else (s.strm t).v) ∧ x = (if s.fld F.EVE_ST_CTRL_SRC t = 0 then { s.strm t with v := vel, upd := v.now } else
      { s.strm t with v := vel, odo := ((s.strm t).odo + vel * 65536 / 1000) % 2 ^ 48, upd := v.now }) ∧ w = (v.setStrm t x).setFld
      F.EVE_ST_SPEED_SPEED t vel ∧ (y = (if w.moving t then w.each (w.eve.store.filter fun z => z.2.st == 1 && z.2.src == t.val + 2) (fun s z =>
      s.retime t z.1) else w.retractAll fun e => e.src == t + 2)) ∧ (s.strm t).newest = some p ∧ (y.flag F.EVE_ST_CTRL_OPEN t && y.moving t &&
      decide (posDiff p (y.strmNow t).mm < 0) && !(s.strm t).under) = true) ∧
    (∃ (s : State) (t : Fin 8), s.awake = true ∧ s.fld F.EVE_ST_CTRL_SRC t ≠ 0 ∧ (s.strm t).loss = false) ∧
    (∃ (s : State) (a : Acc) (t : Fin 8) (v : Nat), s.granted a .EVE_ST_SPEED (t) ∧ s.strmTakes t = true ∧ s.fld F.EVE_ST_CTRL_SRC t = 2 ∧ v < 2 ^
      31) ∧
    (∃ (s : State) (a : Acc) (t : Fin 8) (mm : Nat), s.granted a .EVE_ST_ODO (t) ∧ s.strmTakes t = true ∧ mm < 2 ^ 32) ∧
    (∃ (s : State) (a : Acc) (t : Fin 8), s.granted a .EVE_ST_ODO (t) ∧ s.strmTakes t = false) ∧
    (∃ (s : State) (a : Acc) (t : Fin 8), s.granted a .EVE_ST_CTRL (t) ∧ s.flag F.EVE_ST_CTRL_OPEN t = true ∧ inRange 100 2000 (s.fld
      F.EVE_ST_CTRL_RUN_AHEAD t) = true) := by
  refine ⟨?_, ?_, ?_, ?_, ?_, ?_, ?_, ?_, ?_, ?_, ?_⟩
  · exact ⟨tOpen, tCpu, 7, 0xFFEEDDCC00000010, by unfold State.granted; decide⟩
  · exact ⟨tOn 4, tCpu, 7, by unfold State.granted; decide⟩
  · exact ⟨tOn 4, 7, by decide⟩
  · exact ⟨tMove, _, _, 7, (5, 1, 0), [], _, _, _, by decide, by decide, rfl, .inl (by decide), by decide, by decide, by decide, by decide, by
    decide, by decide, by decide, by decide, rfl, rfl, by decide, rfl, rfl⟩
  · exact ⟨tLoss, _, _, _, 7, _, _, by decide, rfl, rfl, rfl, rfl, rfl, by decide⟩
  · exact ⟨tUnder, _, _, _, 7, _, _, 5, by decide, rfl, rfl, rfl, rfl, rfl, by decide, by decide⟩
  · exact ⟨tOpen, 7, by decide⟩
  · exact ⟨tOpen, tCpu, 7, 2147483647, by unfold State.granted; decide⟩
  · exact ⟨tOpen, tCpu, 7, 4294967295, by unfold State.granted; decide⟩
  · exact ⟨tOn 4, tCpu, 7, by unfold State.granted; decide⟩
  · exact ⟨tOpen, tCpu, 7, by unfold State.granted; decide⟩

/-- Hypotheses of `Obligations.LedSinks`, clause by clause. -/
theorem witness_led_sinks :
    (∃ (s : State) (a : Acc) (k : Fin 32) (v : Nat), s.granted a .LEDS_CH_OUT (k) ∧ s.extracting = false ∧ s.ledRefused (v % 2 ^ 14) (v / 2 ^ 16 % 2
      ^ 8) = false) ∧
    (∃ (s : State) (a : Acc) (k : Fin 32) (v : Nat), s.granted a .LEDS_CH_OUT (k) ∧ s.extracting = true ∧ s.ledRefused (v % 2 ^ 14) (v / 2 ^ 16 % 2
      ^ 8) = false) ∧
    (∃ (s : State) (a : Acc) (k : Fin 32) (v : Nat), s.granted a .LEDS_CH_OUT (k) ∧ s.ledRefused (v % 2 ^ 14) (v / 2 ^ 16 % 2 ^ 8) = true) ∧
    (∃ (s v w : State) (k : Fin 32) (t : Nat), s.awake = true ∧ t = s.ledStart k ∧ v = ((s.advanceTo (s.gTime t)).setLedc k
      { s.ledc k with code := s.fld F.LEDS_CH_OUT_CODE k, duty := if (s.ledc k).fade.isSome || s.extracting then (s.ledc k).duty else s.fld F.LEDS_CH_OUT_DUTY k, pers := ((s.ledc k).pers + 1) % 256, pAt := some t })
      ∧ w = v.ledForce k (v.ledWant k)) ∧
    (∃ (s : State) (a : Acc) (k : Fin 32) (target : Fin 16384) (time : Fin 4096), s.granted a .LEDS_CH_FADE (k) ∧ s.ledRefused target (s.fld
      F.LEDS_CH_OUT_CODE k) = false ∧ s.clk.aDown = none ∧ s.clk.bDown = none ∧ s.extracting = false ∧ time.val ≠ 0) ∧
    (∃ (s : State) (a : Acc) (k : Fin 32) (target : Fin 16384), s.granted a .LEDS_CH_FADE (k) ∧ s.ledRefused target (s.fld F.LEDS_CH_OUT_CODE k) =
      false ∧ s.clk.aDown = none ∧ s.clk.bDown = none ∧ s.extracting = false) ∧
    (∃ (s : State) (a : Acc) (k : Fin 32) (target : Fin 16384), s.granted a .LEDS_CH_FADE (k) ∧ s.ledRefused target (s.fld F.LEDS_CH_OUT_CODE k) =
      false ∧ s.clk.aDown = none ∧ s.clk.bDown = none ∧ s.extracting = true) ∧
    (∃ (s v : State) (k : Fin 32) (f : Fade), s.awake = true ∧ (s.ledc k).fade = some f ∧ f.len ≤ 4 * (f.k + 1) ∧ s.extracting = false ∧ v =
      ((((s.advanceTo (f.at0 + ms f.len)).setLedc k { s.ledc k with fade := none, duty := f.target }).setFlag F.LEDS_CH_STAT_FADING k false).setFld
      F.LEDS_CH_OUT_DUTY k f.target)) ∧
    (∃ (s v : State) (k : Fin 32) (f : Fade), s.awake = true ∧ (s.ledc k).fade = some f ∧ f.len ≤ 4 * (f.k + 1) ∧ s.extracting = true ∧ v =
      (((s.advanceTo (f.at0 + ms f.len)).setLedc k { s.ledc k with fade := none, duty := f.target }).setFlag F.LEDS_CH_STAT_FADING k false)) ∧
    (∃ (s : State) (k : Fin 32) (f : Fade) (e : Nat), s.awake = true ∧ (s.ledc k).fade = some f ∧ 4 * (f.k + 1) < f.len ∧ e = fadeDuty f.d0 f.target
      (4 * (f.k + 1)) f.len) := by
  refine ⟨?_, ?_, ?_, ?_, ?_, ?_, ?_, ?_, ?_, ?_⟩
  · exact ⟨tOn 4, tCpu, 31, 0x00FF3FFF, by unfold State.granted; decide⟩
  · exact ⟨(tOn 4).setFld F.BERTH_STAT_STATE 0 2, tCpu, 31, 0x00FF3FFF, by unfold State.granted; decide⟩
  · exact ⟨tOn 3, tCpu, 31, 0x00010001, by unfold State.granted; decide⟩
  · exact ⟨tOn 4, _, _, 31, _, by decide, rfl, rfl, rfl⟩
  · exact ⟨tOn 4, tCpu, 31, 16383, 4095, by unfold State.granted; decide⟩
  · exact ⟨tOn 4, tCpu, 31, 16383, by unfold State.granted; decide⟩
  · exact ⟨(tOn 4).setFld F.BERTH_STAT_STATE 0 2, tCpu, 31, 16383, by unfold State.granted; decide⟩
  · exact ⟨tFade, _, 31, { d0 := 0, target := 16383, len := 4 }, by decide, by decide, by decide, by decide, rfl⟩
  · exact ⟨tFade.setFld F.BERTH_STAT_STATE 0 2, _, 31, { d0 := 0, target := 16383, len := 4 }, by decide, by decide, by decide, by decide, rfl⟩
  · exact ⟨tFade2, 31, { d0 := 0, target := 16383, len := 8 }, _, by decide, by decide, by decide, rfl⟩

/-- Hypotheses of `Obligations.LedDiagnosis`, clause by clause. -/
theorem witness_led_diagnosis :
    (∃ (s : State) (k : Fin 32), s.awake = true ∧ (s.ledc k).ends = []) ∧
    (∃ (s v w : State) (k : Fin 32) (mv ma : Nat) (sup : Option Nat) (e : Nat) (rest : List Nat) (c : LedCh), s.awake = true ∧ (s.ledc k).ends = e
      :: rest ∧ s.flag F.LEDS_CH_CFG_DIAG_EN k = false ∧ v = (s.advanceTo (s.gTime e)).ledTick ∧ (c =
      { s.ledc k with ends := rest, lsupAt := sup.map fun d => v.now - d }) ∧ w = v.setLedc k c) ∧
    (∃ (s v w : State) (k : Fin 32) (mv ma : Nat) (sup : Option Nat) (e : Nat) (rest : List Nat), s.awake = true ∧ (s.ledc k).ends = e :: rest ∧ v =
      (s.advanceTo (s.gTime e)).ledTick ∧ (w = v.setLedc k { s.ledc k with ends := rest, lsupAt := sup.map fun d => v.now - d }) ∧ w.ledSusp k =
      false ∧ s.flag F.LEDS_CH_CFG_DIAG_EN k = true ∧ mv < 250 ∧ mv ≤ 100 * s.fld F.LEDS_CH_CFG_VSHORT k ∧ (s.ledc k).low = 3 ∧ s.flag
      F.LEDS_CH_STAT_OPEN k = false) ∧
    (∃ (s : State) (k : Fin 32) (mv e : Nat) (rest : List Nat), s.awake = true ∧ (s.ledc k).ends = e :: rest ∧ s.flag F.LEDS_CH_CFG_DIAG_EN k = true
      ∧ 100 * s.fld F.LEDS_CH_CFG_VSHORT k < mv ∧ (s.ledc k).high = 3 ∧ s.flag F.LEDS_CH_STAT_SHORT k = false) ∧
    (∃ (s : State) (a : Acc) (k : Fin 32), s.granted a .LEDS_CH_CMD (k) ∧ s.fld F.LEDS_CH_OUT_DUTY k = 0) ∧
    (∃ (s : State) (a : Acc) (k : Fin 32), s.granted a .LEDS_CH_CMD (k) ∧ s.fld F.LEDS_CH_OUT_DUTY k ≠ 0) ∧
    (∃ (s v : State) (p cap f : Nat), s.awake = true ∧ v = s.foldDue ∧ p = v.ledSum ∧ cap = v.derate 600 450 * 1638300 ∧ p ≤ cap ∧ f = (if 100 * p <
      95 * cap ∧ s.fld F.LEDS_GLB_STAT_F < 255 then s.fld F.LEDS_GLB_STAT_F + 1 else s.fld F.LEDS_GLB_STAT_F) ∧ f = 255 ∧ s.flag
      F.LEDS_GLB_STAT_FOLDBACK = true) ∧
    (∃ (s v : State) (p cap f : Nat), s.awake = true ∧ v = s.foldDue ∧ p = v.ledSum ∧ cap = v.derate 600 450 * 1638300 ∧ p ≤ cap ∧ f = (if 100 * p <
      95 * cap ∧ s.fld F.LEDS_GLB_STAT_F < 255 then s.fld F.LEDS_GLB_STAT_F + 1 else s.fld F.LEDS_GLB_STAT_F) ∧ ((f = 255) ↔ (s.flag
      F.LEDS_GLB_STAT_FOLDBACK = false))) ∧
    (∃ (s v : State) (p cap : Nat), s.awake = true ∧ v = s.foldDue ∧ p = v.ledSum ∧ cap = v.derate 600 450 * 1638300 ∧ s.flag
      F.LEDS_GLB_STAT_FOLDBACK = false ∧ cap < p) ∧
    (∃ (s : State) (a : Acc), s.granted a .LEDS_GLB_CTRL (0)) := by
  refine ⟨?_, ?_, ?_, ?_, ?_, ?_, ?_, ?_, ?_, ?_⟩
  · exact ⟨tOn 4, 31, by decide⟩
  · exact ⟨tLed.setFlag F.LEDS_CH_CFG_DIAG_EN 31 false, _, _, 31, 249, 5, some 0, 5, [], _, by decide, by decide, by decide, rfl, rfl, rfl⟩
  · exact ⟨tLed, _, _, 31, 249, 0, some 10000000, 5, [], by decide, by decide, rfl, rfl, by decide, by decide, by decide, by decide, by decide, by
    decide⟩
  · exact ⟨tLed, 31, 12001, 5, [], by decide⟩
  · exact ⟨tOn 4, tCpu, 31, by unfold State.granted; decide⟩
  · exact ⟨(tOn 4).setFld F.LEDS_CH_OUT_DUTY 31 1, tCpu, 31, by unfold State.granted; decide⟩
  · exact ⟨((tOn 4).setFld F.LEDS_GLB_STAT_F 0 254).setFlag F.LEDS_GLB_STAT_FOLDBACK, _, _, _, _, by decide, rfl, rfl, rfl, by decide, rfl, by
    decide, by decide⟩
  · exact ⟨tOn 4, _, _, _, _, by decide, rfl, rfl, rfl, by decide, rfl, by decide⟩
  · exact ⟨tFold, _, _, _, by decide, rfl, rfl, rfl, by decide, by decide⟩
  · exact ⟨tOn 4, tCpu, by unfold State.granted; decide⟩

/-- Hypotheses of `Obligations.Inputs`, clause by clause. -/
theorem witness_inputs :
    (∃ (s : State) (k : Fin 48) (mv : Int) (x : Bool) (v w : State), s.awake = true ∧ s.powered = true ∧ x = s.comparator k mv ∧ s.di k ≠ x ∧ v =
      s.advanceTo ((lookup (k.val / 8) s.dio.grpAt).getD 0 + s.debounceNs k) ∧ w = (if k.val < 32 then (v.setBit F.DIO_DI_LO_STATE 0 k x).setBit
      F.DIO_EDGE_LO_EDGE 0 k else (v.setBit F.DIO_DI_HI_STATE 0 (k - 32) x).setBit F.DIO_EDGE_HI_EDGE 0 (k - 32)).setDic k
      { raw := x, stamp := v.logicalAt ((v.now - v.debounceNs k - v.tide.epoch) / 4) }) ∧
    (∃ (s : State) (k : Fin 48) (mv : Int), s.awake = true ∧ s.powered = true ∧ s.di k = s.comparator k mv) ∧
    (∃ (s : State) (k : Fin 8) (rising : Bool) (c : CntCh) (v : State), s.awake = true ∧ s.powered = true ∧ s.fld F.DIO_CNT_CFG_MODE k ≠ 0 ∧ (s.fld
      F.DIO_CNT_CFG_EDGE k = 2 ∨ s.fld F.DIO_CNT_CFG_EDGE k = (if rising then 0 else 1)) ∧ s.isSafe (.dioCnt k) = false ∧ v = (if s.fld
      F.DIO_CNT_CFG_MODE k % 2 = 1 then s.setFld F.DIO_CNT_VAL_COUNT k (s.fld F.DIO_CNT_VAL_COUNT k + 1) else s) ∧ c =
      { s.cntc k with edges := (s.cntc k).edges + 1, first := if (s.cntc k).edges = 0 then s.now else (s.cntc k).first, period := if (s.cntc k).lastE.isSome then (s.cntc k).lastE.map (fun t => s.now - t) else (s.cntc k).period, lastE := some s.now }) ∧
    (∃ (s : State) (k : Fin 8) (rising : Bool), s.awake = true ∧ (s.fld F.DIO_CNT_CFG_MODE k = 0 ∨ s.powered = false ∨ s.isSafe (.dioCnt k) = true ∨
      s.fld F.DIO_CNT_CFG_EDGE k = 3 ∨ s.fld F.DIO_CNT_CFG_EDGE k = (if rising then 1 else 0))) ∧
    (∃ (s : State) (a : Acc) (k : Fin 8), s.granted a .DIO_CNT_CMD (k)) ∧
    (∃ (s : State) (a : Acc) (k : Fin 8), s.granted a .DIO_CNT_CMD (k) ∧ (s.cntc k).lastE = none) ∧
    (∃ (s : State) (k : Fin 8) (t : Nat), s.awake = true ∧ s.powered = true ∧ 2 ≤ s.fld F.DIO_CNT_CFG_MODE k ∧ s.isSafe (.dioCnt k) = false ∧
      (s.cntc k).lastE = some t ∧ 2 ≤ (s.cntc k).edges ∧ (s.cntc k).first < t) ∧
    (∃ (s : State) (k : Fin 8) (v : State), s.awake = true ∧ s.powered = true ∧ 2 ≤ s.fld F.DIO_CNT_CFG_MODE k ∧ s.isSafe (.dioCnt k) = false ∧
      (s.cntc k).edges = 0 ∧ v = s.advanceTo ((s.cntc k).gateAt + ms 10 * s.fld F.DIO_CNT_CFG_GATE k) ∧ 9 ≤ (s.cntc k).empty) ∧
    (∃ (s : State) (k : Fin 8) (v : State) (e p : Nat), s.awake = true ∧ s.powered = true ∧ 2 ≤ s.fld F.DIO_CNT_CFG_MODE k ∧ s.isSafe (.dioCnt k) =
      false ∧ (s.cntc k).edges ≤ 1 ∧ (s.cntc k).lastE.isSome = true ∧ (s.cntc k).period = some p ∧ 0 < p ∧ v = s.advanceTo ((s.cntc k).gateAt + ms
      10 * s.fld F.DIO_CNT_CFG_GATE k) ∧ e = (if (s.cntc k).edges = 0 then (s.cntc k).empty + 1 else 0) ∧ e < 10) ∧
    (∃ (s : State) (k : Fin 8), s.awake = true ∧ (s.fld F.DIO_CNT_CFG_MODE k < 2 ∨ s.isSafe (.dioCnt k) = true ∨ s.powered = false)) ∧
    (∃ (s : State), s.awake = true) ∧
    (∃ (s : State) (l : Fin 65536) (d : List Nat), s.awake = false ∧ d = (List.range 16).filter (fun k => s.diArmed k && bitOf l k != s.bit
      F.DIO_WAKE_SRC_LEVEL 0 k) ∧ d.filter (fun k => (lookup k s.dio.strobe).isSome) = []) ∧
    (∃ (s : State) (l : Fin 65536) (d m : List Nat) (k : Nat), s.awake = false ∧ d = (List.range 16).filter (fun k => s.diArmed k && bitOf l k !=
      s.bit F.DIO_WAKE_SRC_LEVEL 0 k) ∧ d.filter (fun k => (lookup k s.dio.strobe).isSome) = k :: m) := by
  refine ⟨?_, ?_, ?_, ?_, ?_, ?_, ?_, ?_, ?_, ?_, ?_, ?_, ?_⟩
  · exact ⟨tOn 4, 47, 11000, _, _, _, by decide, by decide, rfl, by decide, rfl, rfl⟩
  · exact ⟨tOn 4, 47, 9000, by decide⟩
  · exact ⟨(((tOn 4).setFld F.DIO_CNT_CFG_MODE 7 1).setFld F.DIO_CNT_CFG_EDGE 7 2).setFld F.DIO_CNT_VAL_COUNT 7 0xFFFFFFFF, 7, true, _, _, by
    decide, by decide, by decide, .inl (by decide), by decide, rfl, rfl⟩
  · exact ⟨tOn 4, 7, true, by decide, .inl (by decide)⟩
  · exact ⟨tOn 4, tCpu, 7, by unfold State.granted; decide⟩
  · exact ⟨tOn 4, tCpu, 7, by unfold State.granted; decide, by decide⟩
  · exact ⟨{ (tOn 4).setFld F.DIO_CNT_CFG_MODE 7 2 with dio := { cnt := [(7, { edges := 2, first := 0, lastE := some 1000000 })] } }, 7, 1000000, by
    decide⟩
  · exact ⟨{ (tOn 4).setFld F.DIO_CNT_CFG_MODE 7 2 with dio := { cnt := [(7, { empty := 9, lastE := some 1000000 })] } }, 7, _, by decide, by
    decide, by decide, by decide, by decide, rfl, by decide⟩
  · exact ⟨{ (tOn 4).setFld F.DIO_CNT_CFG_MODE 7 2 with dio := { cnt := [(7, { edges := 1, lastE := some 1000000, period := some 100 })] } }, 7, _,
    _, 100, by decide, by decide, by decide, by decide, by decide, by decide, by decide, by decide, rfl, rfl, by decide⟩
  · exact ⟨tOn 4, 7, by decide, .inl (by decide)⟩
  · exact ⟨tOn 4, by decide⟩
  · exact ⟨(tOn 0).setFld F.DIO_WAKE_CFG_MASK 0 0x8000, 0x8000, [15], by decide⟩
  · exact ⟨{ (tOn 0).setFld F.DIO_WAKE_CFG_MASK 0 0x8000 with dio := { strobe := [(15, 1)] } }, 0x8000, [15], [], 15, by decide⟩

/-- Hypotheses of `Obligations.DigitalOutputs`, clause by clause. -/
theorem witness_digital_outputs :
    (∃ (s : State) (a : Acc), s.granted a .DIO_DO_OUT (0)) ∧
    (∃ (s : State) (m : Fin 16), s.awake = true ∧ s.bit F.DIO_DO_STAT_ON 0 m = true ∧ s.doLatch m = false) ∧
    (∃ (s : State) (m : Fin 16), s.awake = true ∧ s.bit F.DIO_DO_STAT_ON 0 m = true ∧ s.doLatch m = true) ∧
    (∃ (s : State) (m : Fin 16), s.awake = true ∧ s.bit F.DIO_DO_STAT_ON 0 m = false) ∧
    (∃ (s : State) (m : Fin 16) (t : Nat), s.awake = true ∧ lookup m.val s.dio.retry = some t ∧ s.bit F.DIO_DO_DIAG_SHED 0 m = false) ∧
    (∃ (s : State) (m : Fin 16), s.awake = true ∧ lookup m.val s.dio.retry = none) ∧
    (∃ (s : State) (a : Acc), s.granted a .DIO_DO_CLR (0)) ∧
    (∃ (s : State) (m : Fin 16), s.awake = true ∧ s.bit F.DIO_DO_CFG_OL_EN 0 m = true ∧ s.isSafe .dioDo = false ∧ s.bit F.DIO_DO_STAT_ON 0 m = true
      ∧ s.bit F.DIO_DO_DIAG_OPEN 0 m = false) ∧
    (∃ (s : State) (m : Fin 16), s.awake = true ∧ s.bit F.DIO_DO_STAT_ON 0 m = false) ∧
    (∃ (s : State), s.awake = true) := by
  refine ⟨?_, ?_, ?_, ?_, ?_, ?_, ?_, ?_, ?_, ?_⟩
  · exact ⟨tOn 4, tCpu, by unfold State.granted; decide⟩
  · exact ⟨tDo, 15, by decide⟩
  · exact ⟨tDo.setSafe .dioDo, 15, by decide⟩
  · exact ⟨tOn 4, 15, by decide⟩
  · exact ⟨{ tDo with dio := { retry := [(15, 100)] } }, 15, 100, by decide⟩
  · exact ⟨tOn 4, 15, by decide⟩
  · exact ⟨tDo, tCpu, by unfold State.granted; decide⟩
  · exact ⟨tDo.setBit F.DIO_DO_CFG_OL_EN 0 15, 15, by decide⟩
  · exact ⟨tOn 4, 15, by decide⟩
  · exact ⟨tOn 4, by decide⟩

/-- Hypotheses of `Obligations.AuxSupply`, clause by clause. -/
theorem witness_aux_supply :
    (∃ (s : State), s.awake = true ∧ s.flag F.DIO_AUX_STAT_SSUP_ON = true) ∧
    (∃ (s : State) (t : Nat), s.awake = true ∧ s.dio.ssupRetry = some t ∧ s.flag F.DIO_AUX_CTRL_SSUP_EN = true) ∧
    (∃ (s : State) (cur : Nat), s.awake = true ∧ s.auxRating < cur ∧ s.flag F.DIO_AUX_STAT_UP = true ∧ s.dio.ovl = false) ∧
    (∃ (s : State) (cur : Nat), s.awake = true ∧ cur ≤ s.auxRating) ∧
    (∃ (s : State) (cur : Nat) (v : State), s.awake = true ∧ s.dio.ovl = true ∧ v = (if s.dio.shedAt.isSome then s.advanceTo (s.dio.shedAt.getD 0 +
      ms 1) else s).auxCur cur ∧ cur ≤ v.auxRating) ∧
    (∃ (s : State) (cur m : Nat) (v : State), s.awake = true ∧ s.dio.ovl = true ∧ v = (if s.dio.shedAt.isSome then s.advanceTo (s.dio.shedAt.getD 0
      + ms 1) else s).auxCur cur ∧ v.auxRating < cur ∧ (List.range 16).reverse.find? (fun m => s.bit F.DIO_DO_STAT_ON 0 m) = some m) ∧
    (∃ (s : State) (cur : Nat) (v : State), s.awake = true ∧ v = (if s.dio.retAt.isSome then s.advanceTo (s.dio.retAt.getD 0 + ms 10) else s).auxCur
      cur ∧ (s.flag F.DIO_AUX_STAT_UP = false ∨ (cur ≤ v.auxRating ∧ s.dio.retAt = none ∧ v.auxRating * 8 ≤ cur * 10))) ∧
    (∃ (s : State) (cur : Nat) (v : State), s.awake = true ∧ v = (if s.dio.retAt.isSome then s.advanceTo (s.dio.retAt.getD 0 + ms 10) else s).auxCur
      cur ∧ s.flag F.DIO_AUX_STAT_UP = true ∧ v.auxRating < cur) ∧
    (∃ (s : State) (cur : Nat) (v : State), s.awake = true ∧ v = (if s.dio.retAt.isSome then s.advanceTo (s.dio.retAt.getD 0 + ms 10) else s).auxCur
      cur ∧ s.flag F.DIO_AUX_STAT_UP = true ∧ cur ≤ v.auxRating ∧ (s.dio.retAt.isSome = true ∨ cur * 10 < v.auxRating * 8) ∧ (List.range 16).find?
      (fun m => v.bit F.DIO_DO_DIAG_SHED 0 m && v.bit F.DIO_DO_OUT_ON 0 m && !(v.bit F.DIO_DO_STAT_FAULT 0 m && v.doLatch m)) = none) ∧
    (∃ (s : State) (cur m : Nat) (v w : State), s.awake = true ∧ v = (if s.dio.retAt.isSome then s.advanceTo (s.dio.retAt.getD 0 + ms 10) else
      s).auxCur cur ∧ s.flag F.DIO_AUX_STAT_UP = true ∧ cur ≤ v.auxRating ∧ (s.dio.retAt.isSome = true ∨ cur * 10 < v.auxRating * 8) ∧ (List.range
      16).find? (fun m => v.bit F.DIO_DO_DIAG_SHED 0 m && v.bit F.DIO_DO_OUT_ON 0 m && !(v.bit F.DIO_DO_STAT_FAULT 0 m && v.doLatch m)) = some m ∧ w
      = ((v.setBit F.DIO_DO_DIAG_SHED 0 m false).setDio { v.dio with retAt := some v.now, ovl := false }).doRefresh m) ∧
    (∃ (s : State), s.awake = true ∧ s.flag F.DIO_AUX_STAT_UP = true) ∧
    (∃ (s : State), s.awake = true ∧ s.flag F.DIO_AUX_STAT_UP = false) ∧
    (∃ (s : State), s.awake = true ∧ s.flag F.DIO_AUX_STAT_UP = false ∧ (s.feedUp 1 = true ∨ s.feedUp 2 = true) ∧ s.powered = true) := by
  refine ⟨?_, ?_, ?_, ?_, ?_, ?_, ?_, ?_, ?_, ?_, ?_, ?_, ?_⟩
  · exact ⟨(tOn 4).setFlag F.DIO_AUX_STAT_SSUP_ON, by decide⟩
  · exact ⟨{ (tOn 4).setFlag F.DIO_AUX_CTRL_SSUP_EN with dio := { ssupRetry := some 100 } }, 100, by decide⟩
  · exact ⟨tDo, 301, by decide⟩
  · exact ⟨tDo, 300, by decide⟩
  · exact ⟨{ tDo with dio := { ovl := true } }, 300, _, by decide, by decide, rfl, by decide⟩
  · exact ⟨{ tDo with dio := { ovl := true, shedAt := some 5 } }, 301, 15, _, by decide, by decide, rfl, by decide, by decide⟩
  · exact ⟨tDo, 240, _, by decide, rfl, .inr (by decide)⟩
  · exact ⟨tDo, 301, _, by decide, rfl, by decide, by decide⟩
  · exact ⟨tDo, 239, _, by decide, rfl, by decide, by decide, .inr (by decide), by decide +kernel⟩
  · exact ⟨tShedDo, 239, 1, _, _, by decide, rfl, by decide, by decide, .inr (by decide), by decide +kernel, rfl⟩
  · exact ⟨tDo, by decide⟩
  · exact ⟨tUp, by decide⟩
  · exact ⟨tUp, by decide⟩

/-- Hypotheses of `Obligations.Bollard`, clause by clause. -/
theorem witness_bollard :
    (∃ (s : State) (a : Acc), s.granted a .SYS_BOLLARD_FEED (0)) ∧
    (∃ (s : State) (t : Fin 4), s.awake = true ∧ (s.silc t).since = none) ∧
    (∃ (s : State) (t : Fin 4) (b : Nat) (v : State), s.awake = true ∧ (s.silc t).since = some b ∧ s.silMay = true ∧ v = ((s.advanceTo (b + (s.silc
      t).left)).setSilc t { s.silc t with left := 0, since := none, exp := true, last := none }).raise .BOLL_SILENCE t) ∧
    (∃ (s : State) (t : Fin 4), s.awake = true ∧ s.silMay = false) ∧
    (∃ (s : State) (t : Nat), s.awake = true ∧ s.boll.hold = some t) ∧
    (∃ (s : State), s.awake = true ∧ s.boll.hold = none) ∧
    (∃ (s : State) (a : Acc), s.granted a .BOLL_CMD (0) ∧ s.mode' ≠ 5 ∧ s.isSafe .boll = false) ∧
    (∃ (s : State) (a : Acc), s.granted a .BOLL_CMD (0) ∧ (s.mode' = 5 ∨ s.isSafe .boll = true)) ∧
    (∃ (s : State) (p : Option Pair), s.awake = true ∧ (s.pairDown .A = none ∨ p = some .B) ∧ (s.pairDown .B = none ∨ p = some .A) ∧ s.flag
      F.BOLL_CTRL_AUTO_RECLAIM = true) ∧
    (∃ (s : State) (p : Option Pair), (s.flag F.BOLL_CTRL_AUTO_RECLAIM = false ∨ s.awake = false ∨ (p ≠ some .B ∧ (s.pairDown .A).isSome = true) ∨
      (p ≠ some .A ∧ (s.pairDown .B).isSome = true))) ∧
    (∃ (s : State) (a : Acc), s.granted a .BOLL_CMD (0)) ∧
    (∃ (s : State), s.awake = true ∧ (s.powered = false ∨ s.isSafe .boll = true)) ∧
    (∃ (s v w : State), s.awake = true ∧ s.powered = true ∧ s.isSafe .boll = false ∧ v = s.advanceTo (s.boll.rfxAt + us 100) ∧ (w = ((v.setBoll
      { v.boll with rfxAt := v.now }).each (List.range 64) fun s k => s.evalEntry k))) ∧
    (∃ (s : State) (a : Acc) (k : Fin 64), s.granted a .BOLL_RFX_CLRLO (0) ∧ k.val < 32) ∧
    (∃ (s : State) (a : Acc) (k : Fin 64), s.granted a .BOLL_RFX_CLRHI (0) ∧ 32 ≤ k.val) := by
  refine ⟨?_, ?_, ?_, ?_, ?_, ?_, ?_, ?_, ?_, ?_, ?_, ?_, ?_, ?_, ?_⟩
  · exact ⟨tSil, tCpu, by unfold State.granted; decide⟩
  · exact ⟨tOn 4, 3, by decide⟩
  · exact ⟨tSil, 3, 0, _, by decide, by decide, by decide, rfl⟩
  · exact ⟨tOn 2, 3, by decide⟩
  · exact ⟨{ tOn 4 with boll := { hold := some 100 } }, 100, by decide⟩
  · exact ⟨tOn 4, by decide⟩
  · exact ⟨tOn 4, tCpu, by unfold State.granted; decide, by decide, by decide⟩
  · exact ⟨tOn 5, tCpu, by unfold State.granted; decide, .inl (by decide)⟩
  · exact ⟨(tOn 4).setFlag F.BOLL_CTRL_AUTO_RECLAIM, none, by decide, .inl (by decide), .inl (by decide), by decide⟩
  · exact ⟨(tOn 4).setFlag F.BOLL_CTRL_AUTO_RECLAIM 0 false, none, .inl (by decide)⟩
  · exact ⟨tOn 4, tCpu, by unfold State.granted; decide⟩
  · exact ⟨(tOn 4).setSafe .boll, by decide, .inr (by decide)⟩
  · exact ⟨tOn 4, _, _, by decide, by decide, by decide, rfl, rfl⟩
  · exact ⟨tOn 4, tCpu, 31, by unfold State.granted; decide⟩
  · exact ⟨tOn 4, tCpu, 63, by unfold State.granted; decide⟩

/-- Hypotheses of `Obligations.CanControllers`, clause by clause. -/
theorem witness_can_controllers :
    (∃ (s : State) (a : Acc) (p : Fin 8) (act : Fin 3) (w : State), w = s.canBusy p act ∧ w.granted a .CAN_CTRL (p)) ∧
    (∃ (s : State) (a : Acc) (p : Fin 8), s.granted a .CAN_CMD (p)) ∧
    (∃ (s : State) (a : Acc) (p : Fin 8), s.granted a .CAN_CMD (p)) ∧
    (∃ (s : State) (a : Acc) (p : Fin 8), s.granted a .CAN_CMD (p)) ∧
    (∃ (s : State) (p : Fin 8) (k : Nat) (v : State), s.awake = true ∧ s.canDet p = true ∧ s.nextCand p ((s.canc p).cand + 1) = some k ∧ v =
      s.advanceTo ((s.canc p).winAt + ms (10 * s.fld F.CAN_DET_CFG_WIN p))) ∧
    (∃ (s : State) (p : Fin 8) (v : State), s.awake = true ∧ s.canDet p = true ∧ s.nextCand p ((s.canc p).cand + 1) = none ∧ v = s.advanceTo
      ((s.canc p).winAt + ms (10 * s.fld F.CAN_DET_CFG_WIN p))) ∧
    (∃ (s : State) (p : Fin 8), s.awake = true ∧ s.canDet p = false) ∧
    (∃ (s : State) (p : Fin 8), s.awake = true ∧ s.fld F.CAN_STAT_STATE p = 2 ∧ s.flag F.CAN_CTRL_BO_MAN p = false ∧ (s.canc p).limited = false) ∧
    (∃ (s : State) (p : Fin 8), s.awake = true ∧ (s.fld F.CAN_STAT_STATE p ≠ 2 ∨ s.flag F.CAN_CTRL_BO_MAN p = true ∨ (s.canc p).limited = true)) ∧
    (∃ (s : State) (p : Fin 8), s.awake = true ∧ s.fld F.CAN_STAT_STATE p = 2 ∧ (s.canc p).counting = true) ∧
    (∃ (s : State) (p : Fin 8), s.awake = true ∧ (s.fld F.CAN_STAT_STATE p ≠ 2 ∨ (s.canc p).counting = false)) := by
  refine ⟨?_, ?_, ?_, ?_, ?_, ?_, ?_, ?_, ?_, ?_, ?_⟩
  · exact ⟨tTx, tCpu, 7, 2, _, rfl, by unfold State.granted; decide⟩
  · exact ⟨tOn 4, tCpu, 7, by unfold State.granted; decide⟩
  · exact ⟨tCan, tCpu, 7, by unfold State.granted; decide⟩
  · exact ⟨tCan, tCpu, 7, by unfold State.granted; decide⟩
  · exact ⟨tDet, 7, 1, _, by decide, by decide, by decide, rfl⟩
  · exact ⟨tDet0, 7, _, by decide, by decide, by decide, rfl⟩
  · exact ⟨tOn 4, 7, by decide⟩
  · exact ⟨tBoff, 7, by decide⟩
  · exact ⟨tOn 4, 7, by decide, .inl (by decide)⟩
  · exact ⟨{ tBoff with can := [(7, { counting := true })] }, 7, by decide⟩
  · exact ⟨tOn 4, 7, by decide, .inl (by decide)⟩

/-- Hypotheses of `Obligations.CanTraffic`, clause by clause. -/
theorem witness_can_traffic :
    (∃ (s : State) (f : CanFrame), s.awake = true ∧ f.wf = true) ∧
    (∃ (s : State) (p : Fin 8) (f : CanFrame), s.awake = true ∧ f.wf = true ∧ s.canHears p = false ∧ s.nmState p ≠ 4) ∧
    (∃ (s : State) (p : Fin 8), s.awake = true ∧ s.canHears p = false) ∧
    (∃ (s : State) (p lec : Fin 8) (data dom : Bool) (v : State), s.awake = true ∧ s.canHears p = true ∧ v = (((s.arbLost p).lastError p lec
      data).bump F.CAN_ERR_REC p (if dom then 8 else 1)).errJudge p) ∧
    (∃ (s : State) (p : Fin 8), s.awake = true ∧ s.sending p = none) ∧
    (∃ (s : State) (p : Fin 8) (ago b t : Nat) (f : CanFrame) (v w x : State), s.awake = true ∧ s.sending p = some (b, f) ∧ b < 3 ∧ t = (if s.flag
      F.TIDE_STAT_VALID then s.stampAgo ago else 0) ∧ v = (if f.fdf && f.brs && s.flag F.CAN_TDC_EN p then (s.draw 7).2.setFld F.CAN_TDC_TDCV p
      (s.draw 7).1 else s) ∧ w = ((((v.setFld F.CAN_ERR_TEC p (v.fld F.CAN_ERR_TEC p - 1)).errJudge p).setFlag F.CAN_EVT_TX_DONE p).setFlag
      F.CAN_STAT_SYNC p).setFld F.CAN_TXB_STAT_CCNT p 0 ∧ x = w.setWord (txAddr p b + 4) (putBit (putBit (w.word (txAddr p b + 4)) 7 (w.flag
      F.TIDE_STAT_VALID)) 20 (w.flag F.TIDE_STAT_COARSE))) ∧
    (∃ (s : State) (p : Fin 8) (f : CanFrame) (y : TimerFrame) (rest : List TimerFrame) (v w x : State), s.awake = true ∧ s.sending p = some (3, f)
      ∧ (s.canc p).timer = y :: rest ∧ v = (if f.fdf && f.brs && s.flag F.CAN_TDC_EN p then (s.draw 7).2.setFld F.CAN_TDC_TDCV p (s.draw 7).1 else
      s) ∧ w = ((((v.setFld F.CAN_ERR_TEC p (v.fld F.CAN_ERR_TEC p - 1)).errJudge p).setFlag F.CAN_EVT_TX_DONE p).setFlag F.CAN_STAT_SYNC p).setFld
      F.CAN_TXB_STAT_CCNT p 0 ∧ x = (w.timerDone p true).canIdle p) ∧
    (∃ (s : State) (p : Fin 8), s.awake = true ∧ s.sending p = none) ∧
    (∃ (s : State) (p lec : Fin 8) (data collide free : Bool) (b : Nat) (f : CanFrame) (tec n : Nat) (k : Coll) (v w : State), s.awake = true ∧
      s.sending p = some (b, f) ∧ tec = s.fld F.CAN_ERR_TEC p + (if free then 0 else 8) ∧ v = ((s.lastError p lec data).setFld F.CAN_ERR_TEC p
      (Nat.min tec 255)).errJudge p ∧ (k = (((lookup b (s.canc p).coll).filter fun e => decide (e.id = f.id ∧ e.xtd = f.xtd)).getD
      { id := f.id, xtd := f.xtd })) ∧ n = (if collide then k.n + 1 else 0) ∧ w = (v.setCanc p
      { v.canc p with coll := assoc b { k with n := n } (v.canc p).coll, onBus := none }).setFld F.CAN_TXB_STAT_CCNT p (Nat.min n 63) ∧ n < s.fld
      F.CAN_ERRCFG_COLL_THR p) ∧
    (∃ (s : State) (p lec : Fin 8) (data collide free : Bool) (b : Nat) (f : CanFrame) (tec n z : Nat) (k : Coll) (v w x y : State), s.awake = true
      ∧ s.sending p = some (b, f) ∧ tec = s.fld F.CAN_ERR_TEC p + (if free then 0 else 8) ∧ v = ((s.lastError p lec data).setFld F.CAN_ERR_TEC p
      (Nat.min tec 255)).errJudge p ∧ (k = (((lookup b (s.canc p).coll).filter fun e => decide (e.id = f.id ∧ e.xtd = f.xtd)).getD
      { id := f.id, xtd := f.xtd })) ∧ n = (if collide then k.n + 1 else 0) ∧ w = (v.setCanc p
      { v.canc p with coll := assoc b { k with n := n } (v.canc p).coll, onBus := none }).setFld F.CAN_TXB_STAT_CCNT p (Nat.min n 63) ∧ s.fld
      F.CAN_ERRCFG_COLL_THR p ≤ n ∧ z = f.id + bit01 f.xtd * 2 ^ 29 ∧ x = (((if b < 3 then w.txEnd p b 3 else w.timerDone p false).setFld
      F.CAN_COLL_ID p f.id).setFlag F.CAN_COLL_XTD p f.xtd).setFlag F.CAN_EVT_COLL p ∧ y = ((if (lookup z (x.canc p).collAt).any (fun t => decide
      (x.now < t + sec 1)) then x else (x.setCanc p { x.canc p with collAt := assoc z x.now (x.canc p).collAt }).raise .ID_COLLISION p
      [z]).quarEnter p f.id f.xtd)) ∧
    (∃ (s : State) (a : Acc) (p : Fin 8), s.granted a .CAN_TXB_CMD (p)) ∧
    (∃ (s : State) (a : Acc) (p : Fin 8), s.granted a .CAN_TXB_CMD (p)) ∧
    (∃ (s : State) (a : Acc) (p : Fin 8) (v : State), v = s.canBusy p 2 ∧ v.granted a .CAN_TXB_CMD (p)) ∧
    (∃ (s : State) (a : Acc) (p : Fin 8), s.granted a .CAN_RXF_ACK (p)) := by
  refine ⟨?_, ?_, ?_, ?_, ?_, ?_, ?_, ?_, ?_, ?_, ?_, ?_, ?_, ?_⟩
  · exact ⟨tCan, { id := 5, dlc := 0, data := [] }, by decide⟩
  · exact ⟨tOn 4, 7, { id := 5, dlc := 0, data := [] }, by decide⟩
  · exact ⟨tOn 4, 7, by decide⟩
  · exact ⟨tCan, 7, 3, true, true, _, by decide, by decide, rfl⟩
  · exact ⟨tOn 4, 7, by decide⟩
  · exact ⟨tTx, 7, 5, 2, _, { id := 0, dlc := 0, data := [] }, _, _, _, by decide, by decide, by decide, rfl, rfl, rfl, rfl⟩
  · exact ⟨tTimer, 7, { id := 5, dlc := 0, data := [] }, ⟨2, { id := 5, dlc := 0, data := [] }⟩, [], _, _, _, by decide, by decide, by decide, rfl,
    rfl, rfl⟩
  · exact ⟨tOn 4, 7, by decide⟩
  · exact ⟨tTx.setFld F.CAN_ERR_TEC 7 248, 7, 2, true, true, false, 2, { id := 0, dlc := 0, data := [] }, _, _, _, _, _, by decide, by decide, rfl,
    rfl, rfl, rfl, rfl, by decide⟩
  · exact ⟨tTx.setFld F.CAN_ERRCFG_COLL_THR 7 1, 7, 2, true, true, false, 2, { id := 0, dlc := 0, data := [] }, _, _, _, _, _, _, _, _, by decide,
    by decide, rfl, rfl, rfl, rfl, rfl, by decide, rfl, rfl, rfl⟩
  · exact ⟨tCan, tCpu, 7, by unfold State.granted; decide⟩
  · exact ⟨tTx, tCpu, 7, by unfold State.granted; decide⟩
  · exact ⟨tTx, tCpu, 7, _, rfl, by unfold State.granted; decide⟩
  · exact ⟨tCan.setFld F.CAN_RXF_STAT_FILL 7 3, tCpu, 7, by unfold State.granted; decide⟩

/-- Hypotheses of `Obligations.CanTimeAndWake`, clause by clause. -/
theorem witness_can_time_and_wake :
    (∃ (s : State) (p : Fin 8) (c : Nat) (v : State), s.awake = true ∧ s.fld F.CAN_TT_CFG_ROLE p = 2 ∧ s.fld F.CAN_TT_STAT_ROLE p = 2 ∧ s.flag
      F.TIDE_STAT_VALID = true ∧ s.flag F.TIDE_STAT_COARSE = false ∧ c = (s.fld F.CAN_TT_STAT_CYC p + 1) % 64 ∧ v = (if (s.canc p).ttAt.isSome then
      s.advanceTo ((s.canc p).ttAt.getD 0 + s.ttCycle p) else s)) ∧
    (∃ (s : State) (p : Fin 8), s.awake = true ∧ (s.flag F.TIDE_STAT_VALID = false ∨ s.flag F.TIDE_STAT_COARSE = true ∨ s.fld F.CAN_TT_CFG_ROLE p ≠
      2 ∨ s.fld F.CAN_TT_STAT_ROLE p ≠ 2)) ∧
    (∃ (s : State) (p : Fin 8) (v : State), s.awake = true ∧ s.fld F.CAN_TT_CFG_ROLE p = 2 ∧ s.fld F.CAN_TT_STAT_ROLE p ≠ 2 ∧ s.canRuns p = true ∧ v
      = ((s.advanceTo ((s.canc p).refAt.getD 0 + s.ttCycle p + us (200 * (s.fld F.CAN_TT_CFG_PRIO p + 1)))).setFld F.CAN_TT_STAT_ROLE p 2).setFld
      F.CAN_TT_STAT_MPRIO p (s.fld F.CAN_TT_CFG_PRIO p)) ∧
    (∃ (s : State) (p : Fin 8), s.awake = true ∧ (s.fld F.CAN_TT_CFG_ROLE p ≠ 2 ∨ s.fld F.CAN_TT_STAT_ROLE p = 2 ∨ s.canRuns p = false)) ∧
    (∃ (s : State) (p : Fin 8), s.awake = true ∧ s.fld F.CAN_TT_CFG_ROLE p ≠ 0 ∧ s.canRuns p = true ∧ s.active .CAN_TT_LOSS p = false) ∧
    (∃ (s : State) (p : Fin 8), s.awake = true ∧ (s.fld F.CAN_TT_CFG_ROLE p = 0 ∨ s.canRuns p = false ∨ s.active .CAN_TT_LOSS p = true)) ∧
    (∃ (s : State) (p : Fin 8) (f : Option CanFrame), f.all CanFrame.wf = true ∧ ((s.canc p).xcvr ≠ 2 ∨ s.flag F.CAN_SW_CFG_EN p = false)) ∧
    (∃ (s : State) (p : Fin 8) (f : CanFrame) (v : State), f.wf = true ∧ f.fdf = false ∧ (s.canc p).xcvr = 2 ∧ s.flag F.CAN_SW_CFG_EN p = true ∧ v =
      s.setFld F.CAN_SW_STAT_FEC p (s.fld F.CAN_SW_STAT_FEC p - 1) ∧ v.isWuf p f = true ∧ s.awake = true) ∧
    (∃ (s : State) (p : Fin 8) (f : CanFrame) (v : State), f.wf = true ∧ f.fdf = false ∧ (s.canc p).xcvr = 2 ∧ s.flag F.CAN_SW_CFG_EN p = true ∧ v =
      s.setFld F.CAN_SW_STAT_FEC p (s.fld F.CAN_SW_STAT_FEC p - 1) ∧ v.isWuf p f = true ∧ s.awake = false) ∧
    (∃ (s : State) (p : Fin 8) (f : CanFrame) (v : State), f.wf = true ∧ f.fdf = false ∧ (s.canc p).xcvr = 2 ∧ s.flag F.CAN_SW_CFG_EN p = true ∧ v =
      s.setFld F.CAN_SW_STAT_FEC p (s.fld F.CAN_SW_STAT_FEC p - 1) ∧ v.isWuf p f = false) ∧
    (∃ (s : State) (p : Fin 8) (f : Option CanFrame), f.all CanFrame.wf = true ∧ f.all (fun f => f.fdf && !s.flag F.CAN_SW_CFG_FDTOL p) = true ∧
      (s.canc p).xcvr = 2 ∧ s.flag F.CAN_SW_CFG_EN p = true ∧ s.fld F.CAN_SW_STAT_FEC p < 31) ∧
    (∃ (s : State) (p : Fin 8) (f : Option CanFrame) (v w : State), f.all CanFrame.wf = true ∧ f.all (fun f => f.fdf && !s.flag F.CAN_SW_CFG_FDTOL
      p) = true ∧ (s.canc p).xcvr = 2 ∧ s.flag F.CAN_SW_CFG_EN p = true ∧ 31 ≤ s.fld F.CAN_SW_STAT_FEC p ∧ v = ((s.bump F.CAN_SW_STAT_FEC p).setFlag
      F.CAN_SW_STAT_FEC_OVF p).setFlag F.CAN_SW_STAT_MATCH p false ∧ w = v.setCanc p { v.canc p with fecWake := true }) ∧
    (∃ (s : State) (p : Fin 8) (f : CanFrame), f.wf = true ∧ f.fdf = true ∧ s.flag F.CAN_SW_CFG_FDTOL p = true) ∧
    (∃ (s : State) (p : Fin 8), (s.canc p).xcvr = 2 ∧ s.flag F.CAN_SW_CFG_EN p = false ∧ s.flag F.CAN_SW_CFG_WUP p = true ∧ s.awake = true) ∧
    (∃ (s : State) (p : Fin 8), (s.canc p).xcvr = 2 ∧ s.flag F.CAN_SW_CFG_EN p = false ∧ s.flag F.CAN_SW_CFG_WUP p = true ∧ s.awake = false) ∧
    (∃ (s : State) (p : Fin 8), ((s.canc p).xcvr ≠ 2 ∨ s.flag F.CAN_SW_CFG_EN p = true ∨ s.flag F.CAN_SW_CFG_WUP p = false)) := by
  refine ⟨?_, ?_, ?_, ?_, ?_, ?_, ?_, ?_, ?_, ?_, ?_, ?_, ?_, ?_, ?_, ?_⟩
  · exact ⟨tTt.setFld F.CAN_TT_STAT_CYC 7 63, 7, 0, _, by decide, by decide, by decide, by decide, by decide, by decide, rfl⟩
  · exact ⟨tOn 4, 7, by decide, .inl (by decide)⟩
  · exact ⟨tTt.setFld F.CAN_TT_STAT_ROLE 7 1, 7, _, by decide, by decide, by decide, by decide, rfl⟩
  · exact ⟨tOn 4, 7, by decide, .inl (by decide)⟩
  · exact ⟨tTt, 7, by decide⟩
  · exact ⟨tOn 4, 7, by decide, .inl (by decide)⟩
  · exact ⟨tOn 4, 7, none, by decide, .inl (by decide)⟩
  · exact ⟨tArmed 4, 7, { id := 0, dlc := 0, data := [] }, _, by decide, by decide, by decide, by decide, rfl, by decide, by decide⟩
  · exact ⟨tArmed 0, 7, { id := 0, dlc := 0, data := [] }, _, by decide, by decide, by decide, by decide, rfl, by decide, by decide⟩
  · exact ⟨tArmed 4, 7, { id := 0, xtd := true, dlc := 0, data := [] }, _, by decide, by decide, by decide, by decide, rfl, by decide⟩
  · exact ⟨(tArmed 4).setFld F.CAN_SW_STAT_FEC 7 30, 7, none, by decide⟩
  · exact ⟨(tArmed 4).setFld F.CAN_SW_STAT_FEC 7 31, 7, none, _, _, by decide, by decide, by decide, by decide, by decide, rfl, rfl⟩
  · exact ⟨(tArmed 4).setFlag F.CAN_SW_CFG_FDTOL 7, 7, { id := 1, fdf := true, dlc := 0, data := [] }, by decide⟩
  · exact ⟨(tArmed 4).setFlag F.CAN_SW_CFG_EN 7 false, 7, by decide⟩
  · exact ⟨(tArmed 0).setFlag F.CAN_SW_CFG_EN 7 false, 7, by decide⟩
  · exact ⟨tOn 4, 7, .inl (by decide)⟩

/-- Hypotheses of `Obligations.EthLinks`, clause by clause. -/
theorem witness_eth_links :
    (∃ (s : State) (p : Fin 4), s.awake = true ∧ (s.ethLink p = true ∨ s.portRuns p = false ∨ s.flag F.ETH_PCTRL_AN_EN p = false)) ∧
    (∃ (s : State) (p role : Fin 4) (nonce : Bool), s.awake = true ∧ s.portRuns p = true ∧ s.flag F.ETH_PCTRL_AN_EN p = true ∧ s.ethLink p = false ∧
      roleOf (s.fld F.ETH_PCTRL_AN_ROLE p) role nonce = none) ∧
    (∃ (s : State) (p adv role : Fin 4) (nonce m : Bool), s.awake = true ∧ s.portRuns p = true ∧ s.flag F.ETH_PCTRL_AN_EN p = true ∧ s.ethLink p =
      false ∧ roleOf (s.fld F.ETH_PCTRL_AN_ROLE p) role nonce = some m ∧ (bitOf (s.fld F.ETH_PCTRL_AN_ADV p) 0 && bitOf adv 0 || bitOf (s.fld
      F.ETH_PCTRL_AN_ADV p) 1 && bitOf adv 1) = true) ∧
    (∃ (s : State) (p adv role : Fin 4) (nonce m : Bool), s.awake = true ∧ s.portRuns p = true ∧ s.flag F.ETH_PCTRL_AN_EN p = true ∧ s.ethLink p =
      false ∧ roleOf (s.fld F.ETH_PCTRL_AN_ROLE p) role nonce = some m ∧ (bitOf (s.fld F.ETH_PCTRL_AN_ADV p) 0 && bitOf adv 0 || bitOf (s.fld
      F.ETH_PCTRL_AN_ADV p) 1 && bitOf adv 1) = false) ∧
    (∃ (s : State) (p : Fin 4) (t : Nat), s.awake = true ∧ (s.ethp p).retryAt = some t) ∧
    (∃ (s : State) (p : Fin 4), s.awake = true ∧ (s.ethp p).retryAt = none) ∧
    (∃ (s : State) (p : Fin 4) (v : State), s.awake = true ∧ s.portRuns p = true ∧ s.flag F.ETH_PCTRL_AN_EN p = true ∧ s.ethLink p = false ∧ v =
      s.advanceTo ((s.ethp p).pageAt + s.anTimeout p)) ∧
    (∃ (s : State) (p : Fin 4), s.awake = true ∧ s.portRuns p = true ∧ s.ethLink p = false ∧ s.flag F.ETH_PCTRL_AN_EN p = true ∧ (s.ethp p).fixedTry
      = false ∧ s.fld F.ETH_PSTAT_SRC p = 1) ∧
    (∃ (s : State) (p : Fin 4), s.awake = true ∧ s.portRuns p = true ∧ s.ethLink p = false ∧ s.flag F.ETH_PCTRL_AN_EN p = false) ∧
    (∃ (s : State) (p : Fin 4) (v w : State), s.awake = true ∧ s.portRuns p = true ∧ s.ethLink p = false ∧ s.flag F.ETH_PCTRL_AN_EN p = true ∧
      (s.ethp p).fixedTry = true ∧ v = (((s.setFld F.ETH_PSTAT_SPEED p (s.fld F.ETH_PCTRL_FIX_SPEED p)).setFld F.ETH_PSTAT_ROLE p (s.fld
      F.ETH_PCTRL_FIX_ROLE p)).setFld F.ETH_PSTAT_SRC p 3).ethResult p (s.rd .ETH_PSTAT p) ∧ w = (((((v.setFlag F.ETH_PSTAT_LINK p).setFlag
      F.ETH_PEVT_UP p).setFld F.ETH_PSTAT_TC10 p 0).setBit F.CLK_STAT_ETH_LOCK 0 p true).clearFault .ETH_LINK_DOWN p).clearFault .ETH_AN_FAIL p) ∧
    (∃ (s : State) (p : Fin 4), s.awake = true ∧ (s.portRuns p = false ∨ s.ethLink p = true ∨ (s.flag F.ETH_PCTRL_AN_EN p = true ∧ (s.ethp
      p).fixedTry = false ∧ s.fld F.ETH_PSTAT_SRC p ≠ 1))) ∧
    (∃ (s : State) (p : Fin 4), s.awake = true ∧ s.flag F.ETH_PSTAT_LINK p = true) ∧
    (∃ (s : State) (p : Fin 4), s.awake = true ∧ s.flag F.ETH_PSTAT_LINK p = false) ∧
    (∃ (s : State) (a : Acc) (p : Fin 4), s.granted a .ETH_PCMD (p)) ∧
    (∃ (s : State) (a : Acc), s.granted a .ETH_SW_CMD (0)) ∧
    (∃ (s : State) (p : Fin 4), s.awake = true ∧ (s.nmState (p + 8) = 1 ∨ s.nmState (p + 8) = 4 ∨ s.flag F.ETH_PCTRL_TC10_EN p = false ∨ s.ethLink p
      = false)) ∧
    (∃ (s : State) (p : Fin 4) (v : State), s.awake = true ∧ s.flag F.ETH_PCTRL_TC10_EN p = true ∧ s.ethLink p = true ∧ (s.nmState (p + 8) = 2 ∨
      s.nmState (p + 8) = 3) ∧ v = ((s.linkDrop p).setFld F.ETH_PSTAT_TC10 p 2).segEnter (p + 8) 4) ∧
    (∃ (s : State) (p : Fin 4), s.awake = true ∧ s.fld F.ETH_PSTAT_TC10 p = 2) ∧
    (∃ (s : State) (p : Fin 4), s.awake = true ∧ s.fld F.ETH_PSTAT_TC10 p ≠ 2) ∧
    (∃ (s : State) (p : Fin 4), s.awake = true ∧ s.nmState (p + 8) = 4 ∧ s.fld F.ETH_PSTAT_TC10 p = 1) ∧
    (∃ (s : State) (p : Fin 4) (v : State), s.awake = true ∧ s.nmState (p + 8) = 4 ∧ s.fld F.ETH_PSTAT_TC10 p = 1 ∧ v = ((((s.setFld
      F.ETH_PSTAT_TC10 p 0).setNms (p + 8) { s.nms (p + 8) with rejectAt := some ((s.nms (p + 8)).rejectAt.getD s.now) }).segEnter (p + 8)
      2).restartSilence (p + 8)).setFlag F.NM_SEG_STAT_HELD (p + 8) false) ∧
    (∃ (s : State) (p : Fin 4), s.awake = true ∧ (s.nmState (p + 8) ≠ 4 ∨ s.fld F.ETH_PSTAT_TC10 p ≠ 1)) := by
  refine ⟨?_, ?_, ?_, ?_, ?_, ?_, ?_, ?_, ?_, ?_, ?_, ?_, ?_, ?_, ?_, ?_, ?_, ?_, ?_, ?_, ?_, ?_⟩
  · exact ⟨tEth.setFlag F.ETH_PSTAT_LINK 3, 3, by decide, .inl (by decide)⟩
  · exact ⟨tEth.setFld F.ETH_PCTRL_AN_ROLE 3 2, 3, 2, true, by decide⟩
  · exact ⟨tEth, 3, 3, 3, true, true, by decide⟩
  · exact ⟨tEth, 3, 0, 3, true, true, by decide⟩
  · exact ⟨{ tEth with eth := { port := [(3, { retryAt := some 100 })] } }, 3, 100, by decide⟩
  · exact ⟨tEth, 3, by decide⟩
  · exact ⟨tEth, 3, _, by decide, by decide, by decide, by decide, rfl⟩
  · exact ⟨tEth.setFld F.ETH_PSTAT_SRC 3 1, 3, by decide⟩
  · exact ⟨tEth.setFlag F.ETH_PCTRL_AN_EN 3 false, 3, by decide⟩
  · exact ⟨{ tEth with eth := { port := [(3, { fixedTry := true })] } }, 3, _, _, by decide, by decide, by decide, by decide, by decide, rfl, rfl⟩
  · exact ⟨tEth, 3, by decide, .inr (.inr (by decide))⟩
  · exact ⟨tEth.setFlag F.ETH_PSTAT_LINK 3, 3, by decide⟩
  · exact ⟨tEth, 3, by decide⟩
  · exact ⟨tEth, tCpu, 3, by unfold State.granted; decide⟩
  · exact ⟨tEth, tCpu, by unfold State.granted; decide⟩
  · exact ⟨tEth.setFld F.NM_SEG_STAT_STATE 11 1, 3, by decide, .inl (by decide)⟩
  · exact ⟨tTc10, 3, _, by decide, by decide, by decide, .inl (by decide), rfl⟩
  · exact ⟨tTc10.setFld F.ETH_PSTAT_TC10 3 2, 3, by decide⟩
  · exact ⟨tTc10, 3, by decide⟩
  · exact ⟨(tTc10.setFld F.ETH_PSTAT_TC10 3 1).setFld F.NM_SEG_STAT_STATE 11 4, 3, by decide⟩
  · exact ⟨((tTc10.setFld F.ETH_PSTAT_TC10 3 1).setFld F.NM_SEG_STAT_STATE 11 4).setFlag F.NM_SEG_STAT_HELD 11, 3, _, by decide, by decide, by
    decide, rfl⟩
  · exact ⟨tEth, 3, by decide, .inl (by decide)⟩

/-- Hypotheses of `Obligations.EthSwitch`, clause by clause. -/
theorem witness_eth_switch :
    (∃ (s : State) (p : Fin 4), s.awake = true ∧ (s.ethLink p = false ∨ s.portRuns p = false)) ∧
    (∃ (s : State) (p : Fin 4) (b : List Byte), s.awake = true ∧ s.ethLink p = true ∧ s.portRuns p = true ∧ b.length < 60) ∧
    (∃ (s : State) (p : Fin 4) (b : List Byte) (c i : Nat) (t adm : Bool) (d : List Nat) (v : State), s.awake = true ∧ s.ethLink p = true ∧
      s.portRuns p = true ∧ 60 ≤ b.length ∧ b.length ≤ 1518 ∧ (ethView b).type ≠ 0x8808 ∧ (t = ((ethView b).tag.any fun x => x.2 != 0)) ∧ c = (if t
      then ((ethView b).tag.map (·.1)).getD 0 else s.fld F.ETH_PVLAN_DEF_PCP p) ∧ i = (if t then ((ethView b).tag.map (·.2)).getD 0 else s.fld
      F.ETH_PVLAN_PVID p) ∧ adm = (!(s.fld F.ETH_PVLAN_ACCEPT p == 1 && !t) && !(s.fld F.ETH_PVLAN_ACCEPT p == 2 && t) && s.bit F.ETH_VLAN_MEMBER i
      p) ∧ d = (if (ethView b).dst == 0x0180C200000E || (ethView b).type == 0x88F7 then [4] else s.ethDest p (ethView b).dst i) ∧ v = (s.bump
      F.ETH_PCNT0_RX p).macLearn (ethView b).src i p) ∧
    (∃ (s : State) (p : Fin 4) (b : List Byte), s.awake = true ∧ s.ethLink p = true ∧ s.portRuns p = true ∧ 60 ≤ b.length ∧ b.length ≤ 1518 ∧
      (ethView b).type = 0x8808) ∧
    (∃ (s : State) (p : Fin 4) (b : List Byte) (good : Bool) (c i : Nat) (t adm : Bool) (d : List Nat) (v w : State), s.awake = true ∧ s.ethLink p =
      true ∧ s.portRuns p = true ∧ 60 ≤ b.length ∧ (good = false ∨ 1518 < b.length) ∧ (t = ((ethView b).tag.any fun x => x.2 != 0)) ∧ c = (if t then
      ((ethView b).tag.map (·.1)).getD 0 else s.fld F.ETH_PVLAN_DEF_PCP p) ∧ i = (if t then ((ethView b).tag.map (·.2)).getD 0 else s.fld
      F.ETH_PVLAN_PVID p) ∧ adm = (!(s.fld F.ETH_PVLAN_ACCEPT p == 1 && !t) && !(s.fld F.ETH_PVLAN_ACCEPT p == 2 && t) && s.bit F.ETH_VLAN_MEMBER i
      p) ∧ d = (if (ethView b).dst == 0x0180C200000E || (ethView b).type == 0x88F7 then [4] else s.ethDest p (ethView b).dst i) ∧ v = (if 1518 <
      b.length then s.bump F.ETH_PCNT1_OVERSIZE p else s) ∧ (w = (if (good && !(adm && d.any fun q => s.cutThrough p q)) = true then v else v.bump
      F.ETH_PCNT1_FCS_ERR p))) ∧
    (∃ (s : State) (p : Fin 4), s.awake = true ∧ (s.ethp p).inFlight = none) ∧
    (∃ (s : State) (p : Fin 4) (ago t : Nat) (x y : EthFr) (v : State), s.awake = true ∧ (s.ethp p).inFlight = some x ∧ t = s.stampAgo ago ∧ y = (if
      x.stamp = 2 then { x with bytes := putBytes x.bytes 48 (ptpStamp t) } else if x.stamp = 3 then
      { x with bytes := putBytes (putBytes x.bytes 22 (beBytes 8 (unsigned 64 (diff64 t (stampOf ((x.bytes.drop 48).take 10)) * 65536)))) 48 (ptpStamp t) }
      else x) ∧ (v = s.setEthp p
      { s.ethp p with sent := some (y, t), inFlight := (nextFrame (s.ethp p).queue).map (·.2), queue := ((nextFrame (s.ethp p).queue).map fun z => (s.ethp p).queue.erase z).getD (s.ethp p).queue })) ∧
    (∃ (s : State) (m i : Nat), s.awake = true ∧ ((s.macFind m i).all (fun e => e.static) = true ∨ s.fld F.ETH_SW_CTRL_AGE = 0)) ∧
    (∃ (s : State) (m i : Nat) (e : MacEnt), s.awake = true ∧ s.macFind m i = some e ∧ e.static = false ∧ s.fld F.ETH_SW_CTRL_AGE ≠ 0) ∧
    (∃ (s : State) (a : Acc), s.granted a .ETH_MAC_CMD (0)) ∧
    (∃ (s : State) (a : Acc), s.granted a .ETH_MAC_CMD (0)) ∧
    (∃ (s : State) (a : Acc), s.granted a .ETH_MAC_CMD (0)) ∧
    (∃ (s : State) (a : Acc), s.granted a .ETH_MAC_CMD (0)) := by
  refine ⟨?_, ?_, ?_, ?_, ?_, ?_, ?_, ?_, ?_, ?_, ?_, ?_, ?_⟩
  · exact ⟨tEth, 3, by decide, .inl (by decide)⟩
  · exact ⟨tLink, 3, [], by decide⟩
  · exact ⟨tLink.setBit F.ETH_VLAN_MEMBER 5 3, 3, tFrame, _, _, _, _, _, _, by decide, by decide, by decide, by decide, by decide, by decide, rfl,
    rfl, rfl, rfl, rfl, rfl⟩
  · exact ⟨tLink, 3, List.replicate 12 0 ++ [0x88, 0x08] ++ List.replicate 46 0, by decide⟩
  · exact ⟨tLink.setBit F.ETH_VLAN_MEMBER 5 3, 3, tFrame, false, _, _, _, _, _, _, _, by decide, by decide, by decide, by decide, .inl rfl, rfl,
    rfl, rfl, rfl, rfl, rfl, rfl⟩
  · exact ⟨tLink, 3, by decide⟩
  · exact
    ⟨{ tLink with eth := { port := [(3, { inFlight := some ⟨List.replicate 58 0, false, 3⟩, queue := [(1, ⟨[], false, 0⟩), (7, ⟨[1], false, 0⟩)] })] } },
    3, 5, _, ⟨List.replicate 58 0, false, 3⟩, _, _, by decide, by decide, rfl, rfl, rfl⟩
  · exact ⟨tEth, 1, 1, by decide, .inl (by decide)⟩
  · exact ⟨{ (tOn 4).setFld F.ETH_SW_CTRL_AGE 0 300 with eth := { mac := [⟨1, 1, 8, false, 0⟩] } }, 1, 1, ⟨1, 1, 8, false, 0⟩, by decide⟩
  · exact ⟨tEth, tCpu, by unfold State.granted; decide⟩
  · exact ⟨tEth, tCpu, by unfold State.granted; decide⟩
  · exact ⟨tEth, tCpu, by unfold State.granted; decide⟩
  · exact ⟨tEth, tCpu, by unfold State.granted; decide⟩

/-- Hypotheses of `Obligations.Tide`, clause by clause. -/
theorem witness_tide :
    (∃ (s : State) (rising : Bool) (ago t : Nat) (o : Int) (v : State), s.awake = true ∧ s.tideRuns = true ∧ s.flag F.DIO_PPS_CFG_EN = true ∧ rising
      ≠ s.flag F.DIO_PPS_CFG_FALL ∧ s.isSafe .dioPps = false ∧ t = s.stampAgo ago ∧ v = ((s.setFld F.DIO_PPS_TLO_T 0 t).setFld F.DIO_PPS_THI_T 0 (t
      / 2 ^ 32)).setTide { s.tide with ppsAt := some s.now } ∧ o = roundDiv t 1000000000 * 1000000000 - (t : Int)) ∧
    (∃ (s : State) (rising : Bool), s.awake = true ∧ (s.flag F.DIO_PPS_CFG_EN = false ∨ rising = s.flag F.DIO_PPS_CFG_FALL ∨ s.isSafe .dioPps = true
      ∨ s.tideRuns = false)) ∧
    (∃ (s v : State), s.awake = true ∧ v = s.advanceTo (if s.srcUsable s.activeSrc then (s.srcEnd s.activeSrc).getD s.now else s.now) ∧ v.bestSource
      = none ∧ v.activeSrc ≠ 0 ∧ v.flag F.TIDE_CTRL_MANUAL = false ∧ v.flag F.TIDE_STAT_VALID = true) ∧
    (∃ (s v : State), s.awake = true ∧ v = s.advanceTo (if s.srcUsable s.activeSrc then (s.srcEnd s.activeSrc).getD s.now else s.now) ∧ v.bestSource
      = none ∧ v.activeSrc ≠ 0 ∧ (v.flag F.TIDE_CTRL_MANUAL = true ∨ v.flag F.TIDE_STAT_VALID = false)) ∧
    (∃ (s v w : State) (k c : Nat), s.awake = true ∧ v = s.advanceTo (if s.srcUsable s.activeSrc then (s.srcEnd s.activeSrc).getD s.now else s.now)
      ∧ v.bestSource = some (k, c) ∧ w = (v.clearFault .TIDE_SRC_LOSS).clearFault .TIDE_HOLD_LONG) ∧
    (∃ (s : State), s.awake = true ∧ s.bestSource = none ∧ s.activeSrc = 0 ∧ s.flag F.TIDE_CTRL_MANUAL = false ∧ s.srcUsable 0 = false) ∧
    (∃ (s : State), s.awake = true ∧ s.tideRuns = true ∧ s.tideState = 4 ∧ s.isSafe .tide = false) ∧
    (∃ (s : State), s.awake = true ∧ (s.tideRuns = false ∨ s.tideState ≠ 4 ∨ s.isSafe .tide = true)) ∧
    (∃ (s v : State), s.awake = true ∧ s.tideRuns = true ∧ s.flag F.TIDE_STAT_VALID = false ∧ s.flag F.TIDE_CTRL_SELF_VALID = true ∧ 3 ≤ s.mode' ∧
      s.isSafe .tide = false ∧ s.tide.selfAt ≤ s.mode.bootEndAt + sec 1 ∧ v = s.advanceTo (s.mode.bootEndAt + sec 1)) ∧
    (∃ (s : State), s.awake = true ∧ (s.flag F.TIDE_STAT_VALID = true ∨ s.flag F.TIDE_CTRL_SELF_VALID = false ∨ s.mode' < 3 ∨ s.isSafe .tide = true
      ∨ s.tideRuns = false)) ∧
    (∃ (s : State) (a : Acc), s.granted a .TIDE_RATE (0)) ∧
    (∃ (s : State) (a : Acc) (v : Nat), s.granted a .TIDE_STEP_LO (0) ∧ s.granted a .TIDE_STEP_HI (0) ∧ v < 2 ^ 64 ∧ s.manualOk = true ∧ s.eve.store
      = []) ∧
    (∃ (s : State) (a : Acc), s.granted a .TIDE_STEP_LO (0) ∧ s.granted a .TIDE_STEP_HI (0) ∧ s.manualOk = false) ∧
    (∃ (s : State) (a : Acc) (v : Nat), s.granted a .TIDE_SET_LO (0) ∧ s.granted a .TIDE_SET_HI (0) ∧ v < 2 ^ 64 ∧ s.manualOk = true ∧ s.flag
      F.TIDE_STAT_VALID = false) ∧
    (∃ (s : State) (a : Acc) (v : Nat), s.granted a .TIDE_SET_LO (0) ∧ s.granted a .TIDE_SET_HI (0) ∧ v < 2 ^ 64 ∧ s.manualOk = true ∧ s.flag
      F.TIDE_STAT_VALID = true ∧ s.eve.store = []) ∧
    (∃ (s : State) (a : Acc), s.granted a .TIDE_SET_LO (0) ∧ s.granted a .TIDE_SET_HI (0) ∧ s.manualOk = false) ∧
    (∃ (s : State) (k : Fin 16), s.awake = true ∧ (s.flag F.TIDE_CMP_CTRL_EN k = false ∨ s.flag F.TIDE_STAT_VALID = false)) ∧
    (∃ (s : State) (k : Fin 16) (v w : State), s.awake = true ∧ s.flag F.TIDE_CMP_CTRL_EN k = true ∧ s.flag F.TIDE_STAT_VALID = true ∧ s.fld
      F.TIDE_CMP_PER_PER k = 0 ∧ v = s.reach (s.target k) ∧ w = (v.setBit F.TIDE_CMP_FLAG_FLAG 0 k).setFlag F.TIDE_CMP_CTRL_EN k false) ∧
    (∃ (s : State) (k : Fin 16) (n t : Nat) (v w : State), s.awake = true ∧ s.flag F.TIDE_CMP_CTRL_EN k = true ∧ s.flag F.TIDE_STAT_VALID = true ∧
      s.fld F.TIDE_CMP_PER_PER k ≠ 0 ∧ v = s.reach (s.target k) ∧ n = (diff64 v.logical (s.target k)).toNat / s.fld F.TIDE_CMP_PER_PER k ∧ t =
      (s.target k + (n + 1) * s.fld F.TIDE_CMP_PER_PER k) % 2 ^ 64 ∧ w = (((v.setBit F.TIDE_CMP_FLAG_FLAG 0 k).setFld F.TIDE_CMP_TLO_T k t).setFld
      F.TIDE_CMP_THI_T k (t / 2 ^ 32)).bump F.TIDE_CMP_CTRL_MISS k n) ∧
    (∃ (s : State), (s.flag F.TIDE_STAT_VALID = false ∨ s.flag F.TIDE_STAT_COARSE = true)) ∧
    (∃ (s : State), s.flag F.TIDE_STAT_VALID = true ∧ s.flag F.TIDE_STAT_COARSE = false ∧ s.tide.winAt = none) ∧
    (∃ (s : State) (k l : Nat) (v : State), s.flag F.TIDE_STAT_VALID = true ∧ s.flag F.TIDE_STAT_COARSE = false ∧ s.tide.winAt = some (k, l) ∧ v =
      s.advanceTo (aonEdge (k + 64 * 32768))) ∧
    (∃ (s : State) (p : Fin 4), s.awake = true ∧ (s.ptpRole p ≠ 2 ∨ s.ptpOn p = false)) ∧
    (∃ (s : State) (p : Fin 4), s.awake = true ∧ s.ptpOn p = true ∧ s.ptpRole p = 2) := by
  refine ⟨?_, ?_, ?_, ?_, ?_, ?_, ?_, ?_, ?_, ?_, ?_, ?_, ?_, ?_, ?_, ?_, ?_, ?_, ?_, ?_, ?_, ?_, ?_, ?_⟩
  · exact ⟨{ (tOn 4).setFlag F.DIO_PPS_CFG_EN with now := 100 }, true, 4, _, _, _, by decide, by decide, by decide, by decide, by decide, rfl, rfl,
    rfl⟩
  · exact ⟨tOn 4, true, by decide, .inl (by decide)⟩
  · exact ⟨((tOn 4).setFld F.TIDE_STAT_ACTIVE 0 1).setFlag F.TIDE_STAT_VALID, _, by decide, rfl, by decide, by decide, by decide, by decide⟩
  · exact ⟨(tOn 4).setFld F.TIDE_STAT_ACTIVE 0 1, _, by decide, rfl, by decide, by decide, .inr (by decide)⟩
  · exact ⟨tSrc, _, _, 0, 9, by decide, rfl, by decide, rfl⟩
  · exact ⟨tOn 4, by decide⟩
  · exact ⟨(tOn 4).setFld F.TIDE_STAT_STATE 0 4, by decide⟩
  · exact ⟨tOn 4, by decide, .inr (.inl (by decide))⟩
  · exact ⟨(tOn 4).setFlag F.TIDE_CTRL_SELF_VALID, _, by decide, by decide, by decide, by decide, by decide, by decide, by decide, rfl⟩
  · exact ⟨tOn 4, by decide, .inr (.inl (by decide))⟩
  · exact ⟨(tOn 4).setFlag F.TIDE_CTRL_MANUAL, tCpu, by unfold State.granted; decide⟩
  · exact ⟨(tOn 4).setFlag F.TIDE_CTRL_MANUAL, tCpu, 0xFFFFFFFFFFFFFFFF, by unfold State.granted; decide⟩
  · exact ⟨tOn 4, tCpu, by unfold State.granted; decide⟩
  · exact ⟨(tOn 4).setFlag F.TIDE_CTRL_MANUAL, tCpu, 0x123456789ABCDEF0, by unfold State.granted; decide⟩
  · exact ⟨((tOn 4).setFlag F.TIDE_CTRL_MANUAL).setFlag F.TIDE_STAT_VALID, tCpu, 0x123456789ABCDEF0, by unfold State.granted; decide⟩
  · exact ⟨tOn 4, tCpu, by unfold State.granted; decide⟩
  · exact ⟨tOn 4, 15, by decide, .inl (by decide)⟩
  · exact ⟨((tOn 4).setFlag F.TIDE_CMP_CTRL_EN 15).setFlag F.TIDE_STAT_VALID, 15, _, _, by decide, by decide, by decide, by decide, rfl, rfl⟩
  · exact
    ⟨{ ((((tOn 4).setFlag F.TIDE_CMP_CTRL_EN 15).setFlag F.TIDE_STAT_VALID).setFld F.TIDE_CMP_PER_PER 15 1000).setFlag F.TIDE_CMP_CTRL_JNL 15 with now := 2500 },
    15, _, _, _, _, by decide, by decide, by decide, by decide, rfl, rfl, rfl, rfl⟩
  · exact ⟨tOn 4, .inl (by decide)⟩
  · exact ⟨(tOn 4).setFlag F.TIDE_STAT_VALID, by decide⟩
  · exact ⟨tAon, 0, 0, _, by decide, by decide, by decide, rfl⟩
  · exact ⟨tOn 4, 3, by decide, .inl (by decide)⟩
  · exact ⟨tPtp 2, 3, by decide⟩

/-- Hypotheses of `Obligations.Gptp`, clause by clause. -/
theorem witness_gptp :
    (∃ (s : State) (p : Fin 4) (steps src : Nat), s.awake = true ∧ s.ptpOn p = true ∧ steps < 255 ∧ src ≠ clockId) ∧
    (∃ (s : State) (p : Fin 4) (steps src : Nat), s.awake = true ∧ (255 ≤ steps ∨ s.ptpOn p = false ∨ src = clockId)) ∧
    (∃ (s : State) (p : Fin 4), s.awake = true ∧ (s.ptp p).best = none) ∧
    (∃ (s : State) (p : Fin 4) (v t : Nat), s.awake = true ∧ (s.ptp p).best = some (v, t)) ∧
    (∃ (s : State) (p : Fin 4) (r : Nat) (v w : State), s.awake = true ∧ s.ptpOn p = true ∧ s.ptpRole p = 1 ∧ (v = s.advanceTo (((s.ptp p).annTx.map
      fun t => t + sec 1).getD s.now)) ∧ w = v.setPtp p { v.ptp p with annTx := some v.now } ∧ r = (if w.bestPort.isSome ∧ w.flag F.TIDE_STAT_GM =
      false then vecRoot (w.bestPort.getD (0, 0)).2 else w.ownRoot)) ∧
    (∃ (s : State) (p : Fin 4), s.awake = true ∧ (s.ptpRole p ≠ 1 ∨ s.ptpOn p = false)) ∧
    (∃ (s : State) (p : Fin 4) (v w : State), s.awake = true ∧ s.ptpOn p = true ∧ s.ptpRole p = 1 ∧ s.flag F.TIDE_STAT_VALID = true ∧ (v =
      s.advanceTo (((s.ptp p).syncTx.map fun t => t + s.syncNs).getD s.now)) ∧ w = v.setPtp p { v.ptp p with syncTx := some v.now }) ∧
    (∃ (s : State) (p : Fin 4), s.awake = true ∧ (s.flag F.TIDE_STAT_VALID = false ∨ s.ptpRole p ≠ 1 ∨ s.ptpOn p = false)) ∧
    (∃ (s : State) (p : Fin 4) (v w : State), s.awake = true ∧ s.ptpOn p = true ∧ (v = s.advanceTo (((s.ptp p).pdTx.map fun t => t + sec 1).getD
      s.now)) ∧ w = v.setPtp p
      { v.ptp p with lost := if (v.ptp p).waiting then (v.ptp p).lost + 1 else (v.ptp p).lost, waiting := true, reqSeq := (v.ptp p).seq, reqAt := v.logical, pdTx := some v.now }) ∧
    (∃ (s : State) (p : Fin 4), s.awake = true ∧ s.ptpOn p = false) ∧
    (∃ (s : State) (p : Fin 4), s.awake = true ∧ s.ptpOn p = true) ∧
    (∃ (s : State) (p : Fin 4), s.awake = true ∧ s.ptpOn p = false) ∧
    (∃ (s : State) (p : Fin 4) (k t2 t3 ago : Nat) (r d : Int) (t4 u3 u4 : Nat) (v : State), s.awake = true ∧ s.ptpOn p = true ∧ (s.ptp p).waiting =
      true ∧ (s.ptp p).reqSeq = k ∧ t4 = s.stampAgo ago ∧ u3 = ((s.ptp p).prev.map (·.1)).getD 0 ∧ u4 = ((s.ptp p).prev.map (·.2)).getD 0 ∧ r = (if
      (s.ptp p).prev.isSome ∧ 0 < diff64 t4 u4 then roundDiv (diff64 t3 u3 * 2 ^ 41) (diff64 t4 u4).toNat - 2 ^ 41 else (s.ptp p).ratio) ∧ d =
      roundDiv (roundDiv (diff64 t4 (s.ptp p).reqAt * (2 ^ 41 + r)) (2 ^ 41) - diff64 t3 t2) 2 ∧ v = (s.setPtp p
      { s.ptp p with lost := 0, waiting := false, prev := some (t3, t4), ratio := r }).setFld F.TIDE_PDELAY_DELAY p (clamp 0 (2 ^ 24 - 1) d).toNat) ∧
    (∃ (s : State) (p : Fin 4) (k : Nat), s.awake = true ∧ ((s.ptp p).waiting = false ∨ (s.ptp p).reqSeq ≠ k ∨ s.ptpOn p = false)) ∧
    (∃ (s : State) (p : Fin 4), s.awake = true ∧ 3 < (s.ptp p).lost + (if (s.ptp p).waiting then 1 else 0)) ∧
    (∃ (s : State) (p : Fin 4), s.awake = true ∧ (s.ptp p).lost + (if (s.ptp p).waiting then 1 else 0) ≤ 3) := by
  refine ⟨?_, ?_, ?_, ?_, ?_, ?_, ?_, ?_, ?_, ?_, ?_, ?_, ?_, ?_, ?_, ?_⟩
  · exact ⟨tPtp 0, 3, 254, clockId + 1, by decide, by decide, by decide, by omega⟩
  · exact ⟨tPtp 0, 3, 255, 7, by decide, .inl (by decide)⟩
  · exact ⟨tPtp 0, 3, by decide⟩
  · exact ⟨{ tPtp 0 with tide := { port := [(3, { best := some (5, 0) })] } }, 3, 5, 0, by decide⟩
  · exact ⟨(tPtp 1).setFlag F.TIDE_STAT_GM, 3, _, _, _, by decide, by decide, by decide, rfl, rfl, rfl⟩
  · exact ⟨tPtp 0, 3, by decide, .inl (by decide)⟩
  · exact ⟨tPtp 1, 3, _, _, by decide, by decide, by decide, by decide, rfl, rfl⟩
  · exact ⟨tOn 4, 3, by decide, .inl (by decide)⟩
  · exact ⟨{ tPtp 0 with tide := { port := [(3, { waiting := true, lost := 2 })] } }, 3, _, _, by decide, by decide, rfl, rfl⟩
  · exact ⟨tOn 4, 3, by decide⟩
  · exact ⟨tPtp 0, 3, by decide⟩
  · exact ⟨tOn 4, 3, by decide⟩
  · exact ⟨{ tPtp 0 with tide := { port := [(3, { waiting := true, reqSeq := 7, prev := some (1, 2) })] } }, 3, 7, 100, 200, 5, _, _, _, _, _, _, by
    decide, by decide, by decide, by decide, rfl, rfl, rfl, rfl, rfl, rfl⟩
  · exact ⟨tPtp 0, 3, 7, by decide, .inl (by decide)⟩
  · exact ⟨{ tPtp 0 with tide := { port := [(3, { waiting := true, lost := 3 })] } }, 3, by decide⟩
  · exact ⟨tPtp 0, 3, by decide⟩

/-- Hypotheses of `Obligations.Gateway`, clause by clause. -/
theorem witness_gateway :
    (∃ (s : State) (p : Fin 8), s.awake = true ∧ (s.flag F.CAN_CTRL_TXB2_SRC p = false ∨ s.canRuns p = false ∨ s.txPend p 2 = true ∨ s.servedRing p
      = none)) ∧
    (∃ (s : State) (p : Fin 8) (r : Nat) (v : State), s.awake = true ∧ s.flag F.CAN_CTRL_TXB2_SRC p = true ∧ s.canRuns p = true ∧ s.txPend p 2 =
      false ∧ s.servedRing p = some r ∧ v = ((s.setBytes (txAddr p 2) (s.bytes (s.ringAddr r (s.fld F.GWY_RING_GET_GET r)) 80)).ringPop r).txPut p
      2) ∧
    (∃ (s : State) (r : Fin 32), s.awake = true ∧ lookup r.val s.gwy.pdu = none) ∧
    (∃ (s : State) (r : Fin 32) (m : List Byte) (t : Nat), s.awake = true ∧ lookup r.val s.gwy.pdu = some (m, t)) ∧
    (∃ (s : State) (i : Fin 9), s.awake = true ∧ s.heldOf i = []) ∧
    (∃ (s : State) (i : Fin 9) (h : GwHeld) (rest : List GwHeld), s.awake = true ∧ s.heldOf i = h :: rest ∧ s.bpHolds 2 (h.rings.getD []) = true) ∧
    (∃ (s : State) (i : Fin 9) (h : GwHeld) (rest : List GwHeld), s.awake = true ∧ s.heldOf i = h :: rest ∧ s.bpHolds 2 (h.rings.getD []) = false) ∧
    (∃ (s : State) (i : Fin 9) (h : GwHeld) (rest : List GwHeld) (v : State), s.awake = true ∧ s.heldOf i = h :: rest ∧ s.bpHolds 2 (h.rings.getD
      []) = true ∧ v = ((s.advanceTo (h.since + ms (s.fld F.GWY_CTRL_BP_MAX))).setHeld i rest).each (h.rings.getD []) (fun x r => x.deliverRing
      (s.plan h.g h.r) h.g h.stamp r)) ∧
    (∃ (s : State) (i : Fin 9) (h : GwHeld) (rest : List GwHeld), s.awake = true ∧ s.heldOf i = h :: rest ∧ s.bpHolds 2 (h.rings.getD []) = false) ∧
    (∃ (s : State) (i : Fin 9), s.awake = true ∧ s.heldOf i = []) ∧
    (∃ (s : State) (a : Acc) (r : Fin 32), s.granted a .GWY_RING_GET (r)) ∧
    (∃ (s : State) (a : Acc) (r : Fin 32), s.granted a .GWY_RING_CFG (r) ∧ s.gwy.closing.contains r.val = false ∧ s.flag F.GWY_RING_CFG_EN r = true
      ∧ s.fld F.GWY_RING_CFG_POLICY r ≠ 3 ∧ s.ringPort r < 12 ∧ 16 ≤ s.ringDepth r ∧ s.ringDepth r ≤ 4096) ∧
    (∃ (s : State) (i : Fin 32), s.awake = true ∧ lookup i.val s.gwy.quar = none) ∧
    (∃ (s : State) (i : Fin 32) (q : Quar), s.awake = true ∧ lookup i.val s.gwy.quar = some q) ∧
    (∃ (s : State) (a : Acc), s.granted a .GWY_CMD (0)) ∧
    (∃ (s : State) (a : Acc), s.granted a .GWY_CMD (0)) := by
  refine ⟨?_, ?_, ?_, ?_, ?_, ?_, ?_, ?_, ?_, ?_, ?_, ?_, ?_, ?_, ?_, ?_⟩
  · exact ⟨tOn 4, 7, by decide, .inl (by decide)⟩
  · exact ⟨tRing, 7, 31, _, by decide, by decide, by decide, by decide, by decide, rfl⟩
  · exact ⟨tOn 4, 31, by decide⟩
  · exact ⟨{ tOn 4 with gwy := { pdu := [(31, ([1, 2, 3, 4], 5))] } }, 31, [1, 2, 3, 4], 5, by decide⟩
  · exact ⟨tOn 4, 8, by decide⟩
  · exact ⟨tHeld 2, 8, tGwHeld, [], by decide⟩
  · exact ⟨tHeld 0, 8, tGwHeld, [], by decide⟩
  · exact ⟨tHeld 2, 8, tGwHeld, [], _, by decide, by decide, by decide, rfl⟩
  · exact ⟨tHeld 0, 8, tGwHeld, [], by decide⟩
  · exact ⟨tOn 4, 8, by decide⟩
  · exact ⟨(tHeld 2), tCpu, 0, by unfold State.granted; decide⟩
  · exact ⟨tHeld 2, tCpu, 0, by unfold State.granted; decide⟩
  · exact ⟨tOn 4, 31, by decide⟩
  · exact ⟨{ tOn 4 with gwy := { quar := [(31, ⟨11, 5, false, 100⟩)] } }, 31, ⟨11, 5, false, 100⟩, by decide⟩
  · exact ⟨tOn 4, tCpu, by unfold State.granted; decide⟩
  · exact ⟨tOn 4, tCpu, by unfold State.granted; decide⟩

/-- Hypotheses of `Obligations.SegmentSleep`, clause by clause. -/
theorem witness_segment_sleep :
    (∃ (s : State) (g : Fin 12), s.awake = true ∧ g.val < 8 ∧ s.managed g = true ∧ s.nmState g = 1) ∧
    (∃ (s : State) (g : Fin 12), s.awake = true ∧ (s.nmState g ≠ 1 ∨ s.managed g = false ∨ 8 ≤ g.val)) ∧
    (∃ (s : State) (g : Fin 12), s.awake = true ∧ s.managed g = true ∧ s.nmState g = 2 ∧ s.isSafe .nm = false) ∧
    (∃ (s : State) (g : Fin 12), s.awake = true ∧ (s.isSafe .nm = true ∨ s.managed g = false ∨ s.nmState g ≠ 2)) ∧
    (∃ (s : State) (g : Fin 12), s.awake = true ∧ s.managed g = true ∧ s.nmState g = 3 ∧ s.isSafe .nm = false) ∧
    (∃ (s : State) (g : Fin 12), s.awake = true ∧ (s.isSafe .nm = true ∨ s.managed g = false ∨ s.nmState g ≠ 3)) ∧
    (∃ (s : State) (g : Fin 12), s.awake = true ∧ (g.val < 8 ∨ s.fld F.ETH_PSTAT_TC10 (g - 8) ≠ 1) ∧ s.managed g = true ∧ s.nmState g = 4) ∧
    (∃ (s : State) (g : Fin 12), s.awake = true ∧ (s.nmState g ≠ 4 ∨ s.managed g = false ∨ (8 ≤ g.val ∧ s.fld F.ETH_PSTAT_TC10 (g - 8) = 1))) ∧
    (∃ (s : State) (g : Fin 12), s.awake = true ∧ s.managed g = true ∧ s.nmState g = 4 ∧ (g.val < 8 ∨ s.flag F.NM_SEG_STAT_HELD g = true)) ∧
    (∃ (s : State) (g : Fin 12), s.awake = true ∧ 8 ≤ g.val ∧ s.flag F.NM_SEG_STAT_HELD g = false) ∧
    (∃ (s : State) (g : Fin 12), s.awake = true ∧ (s.managed g = false ∨ s.nmState g ≠ 4)) ∧
    (∃ (s : State) (g : Fin 12) (t : Nat) (v : State), s.awake = true ∧ (s.nms g).repeatTo = some t ∧ v = (s.advanceTo t).setNms g
      { s.nms g with repeatTo := none }) ∧
    (∃ (s : State) (g : Fin 12), s.awake = true ∧ (s.nms g).repeatTo = none) ∧
    (∃ (s : State) (a : Acc) (g : Fin 12), s.granted a .NM_SEG_NEED (g)) ∧
    (∃ (s : State) (a : Acc), s.granted a .NM_MODNEED (0)) ∧
    (∃ (s : State) (a : Acc) (g : Fin 12), s.granted a .NM_SEG_CMD (g)) ∧
    (∃ (s : State) (g : Fin 12) (cause : Fin 16) (v : State), s.awake = true ∧ s.managed g = true ∧ s.nmState g = 5 ∧ v = ((((s.sleepAbort
      cause).setFld F.NM_SEG_STAT_WREASON g cause).setNms g { s.nms g with lastActive := false }).setXcvr g 1).restartSilence g) ∧
    (∃ (s : State) (g : Fin 12) (cause : Fin 16), s.awake = true ∧ (s.managed g = false ∨ s.nmState g ≠ 5)) := by
  refine ⟨?_, ?_, ?_, ?_, ?_, ?_, ?_, ?_, ?_, ?_, ?_, ?_, ?_, ?_, ?_, ?_, ?_, ?_⟩
  · exact ⟨tSeg 1, 7, by decide⟩
  · exact ⟨tSeg 2, 7, by decide, .inl (by decide)⟩
  · exact ⟨tSeg 2, 7, by decide⟩
  · exact ⟨(tSeg 2).setSafe .nm, 7, by decide, .inl (by decide)⟩
  · exact ⟨tSeg 3, 7, by decide⟩
  · exact ⟨(tSeg 3).setSafe .nm, 7, by decide, .inl (by decide)⟩
  · exact ⟨tSeg 4, 7, by decide, .inl (by decide), by decide, by decide⟩
  · exact ⟨tSeg 2, 7, by decide, .inl (by decide)⟩
  · exact ⟨(tSeg 4).setFlag F.NM_SEG_STAT_HELD 7, 7, by decide, by decide, by decide, .inl (by decide)⟩
  · exact ⟨tOn 4, 11, by decide⟩
  · exact ⟨tOn 4, 7, by decide, .inl (by decide)⟩
  · exact ⟨{ tSeg 1 with nm := { seg := [(7, { repeatTo := some 100 })] } }, 7, 100, _, by decide, by decide, rfl⟩
  · exact ⟨tSeg 1, 7, by decide⟩
  · exact ⟨tSeg 2, tCpu, 7, by unfold State.granted; decide⟩
  · exact ⟨tSeg 2, tCpu, by unfold State.granted; decide⟩
  · exact ⟨tSeg 5, tCpu, 7, by unfold State.granted; decide⟩
  · exact ⟨tSeg 5, 7, 2, _, by decide, by decide, by decide, rfl⟩
  · exact ⟨tOn 4, 7, 2, by decide, .inl (by decide)⟩

/-- Hypotheses of `Obligations.StuckAndWake`, clause by clause. -/
theorem witness_stuck_and_wake :
    (∃ (s : State) (g : Fin 12) (k : Fin 64), s.awake = true ∧ (s.managed g = false ∨ (g.val < 8 ∧ ((s.nmNode g k).since.bind s.awakeFrom = none ∨
      (s.nmNode g k).stuck = true)) ∨ (8 ≤ g.val ∧ (s.nms g).rejectAt.bind s.awakeFrom = none))) ∧
    (∃ (s : State) (g : Fin 12) (k : Fin 64) (t : Nat), s.awake = true ∧ s.managed g = true ∧ g.val < 8 ∧ (s.nmNode g k).stuck = false ∧ (s.nmNode g
      k).since.bind s.awakeFrom = some t) ∧
    (∃ (s : State) (g : Fin 12) (k : Fin 64) (t : Nat) (v : State), s.awake = true ∧ s.managed g = true ∧ 8 ≤ g.val ∧ (s.nms g).rejectAt.bind
      s.awakeFrom = some t ∧ v = (((s.advanceTo (t + minutes (s.fld F.NM_SEG_MAXAW_MAX_AWAKE g))).setNode g 0
      { s.nmNode g 0 with stuck := true }).setFlag F.NM_EVT_NODE_STUCK).raise .NM_NODE_STUCK g [k]) ∧
    (∃ (s : State) (g : Fin 12) (k : Fin 64), s.awake = true ∧ s.managed g = true ∧ (s.nmNode g k).stuck = true ∧ s.nmState g < 4) ∧
    (∃ (s : State) (g : Fin 12) (k : Fin 64), s.awake = true ∧ ((s.nmNode g k).stuck = false ∨ s.managed g = false ∨ 4 ≤ s.nmState g)) ∧
    (∃ (s : State) (a : Acc) (g : Fin 12), s.granted a .NM_SEG_CMD (g)) ∧
    (∃ (s : State) (g : Fin 12) (t : Nat), s.awake = true ∧ (s.nms g).ownSince.bind s.awakeFrom = some t ∧ s.fld F.NM_SEG_MAXAW_OWN_MAX g ≠ 0 ∧
      s.managed g = true ∧ s.ownNeed g = true) ∧
    (∃ (s : State) (g : Fin 12), s.awake = true ∧ ((s.nms g).ownSince.bind s.awakeFrom = none ∨ s.fld F.NM_SEG_MAXAW_OWN_MAX g = 0 ∨ s.managed g =
      false ∨ s.ownNeed g = false)) ∧
    (∃ (s : State) (level : Bool) (v : State), s.awake = true ∧ v = s.setNm { s.nm with wakeIn := level }) ∧
    (∃ (s : State) (held : Nat), s.awake = false ∧ ms 1 ≤ held) ∧
    (∃ (s : State) (level : Bool) (held : Nat), s.awake = false ∧ (level = false ∨ held < ms 1)) ∧
    (∃ (s : State), (s.awake = true ∨ s.nm.timerAt = none ∨ s.flag F.NM_WAKE_CFG_TIMER_EN = false)) ∧
    (∃ (s : State) (t : Nat), s.awake = false ∧ s.nm.timerAt = some t ∧ s.flag F.NM_WAKE_CFG_TIMER_EN = true) ∧
    (∃ (s : State), s.nm.pulse = none) ∧
    (∃ (s : State) (t : Nat), s.nm.pulse = some t) := by
  refine ⟨?_, ?_, ?_, ?_, ?_, ?_, ?_, ?_, ?_, ?_, ?_, ?_, ?_, ?_, ?_⟩
  · exact ⟨tOn 4, 7, 63, by decide, .inl (by decide)⟩
  · exact ⟨tNodeUp false, 7, 63, 0, by decide⟩
  · exact ⟨tTcStuck, 11, 0, 5, _, by decide, by decide, by decide, by decide, rfl⟩
  · exact ⟨tNodeUp true, 7, 63, by decide⟩
  · exact ⟨tNodeUp false, 7, 63, by decide, .inl (by decide)⟩
  · exact ⟨tNodeUp true, tCpu, 7, by unfold State.granted; decide⟩
  · exact ⟨tOwn, 7, 0, by decide⟩
  · exact ⟨tOn 4, 7, by decide, .inl (by decide)⟩
  · exact ⟨tOn 4, true, _, by decide, rfl⟩
  · exact ⟨tOn 0, 1000000, by decide⟩
  · exact ⟨tOn 0, false, 5, by decide, .inl rfl⟩
  · exact ⟨tOn 4, .inl (by decide)⟩
  · exact ⟨{ (tOn 0).setFlag F.NM_WAKE_CFG_TIMER_EN with nm := { timerAt := some 0 } }, 0, by decide⟩
  · exact ⟨tOn 4, by decide⟩
  · exact ⟨{ tOn 4 with nm := { pulse := some 0 } }, 0, by decide⟩

/-- Hypotheses of `Obligations.SdoServer`, clause by clause. -/
theorem witness_sdo_server :
    (∃ (s : State) (p : Fin 8) (k : Fin 4) (b : List Byte) (v : State), s.awake = true ∧ s.sdoOn p = true ∧ b.length = 8 ∧ v =
      s.sessSweep.authUnlock ∧ v.xferOf p = none ∧ byteAt b 0 = 0x23 + 4 * k) ∧
    (∃ (s : State) (p : Fin 8) (b : List Byte) (v : State), s.awake = true ∧ s.sdoOn p = true ∧ b.length = 8 ∧ v = s.sessSweep.authUnlock ∧ v.xferOf
      p = none ∧ byteAt b 0 = 0x21 ∧ (v.setXfer p none).dictMay (.sdo p) (msgIdx b) (msgSub b) true = 0) ∧
    (∃ (s : State) (p : Fin 8) (b : List Byte) (v : State), s.awake = true ∧ s.sdoOn p = true ∧ b.length = 8 ∧ v = s.sessSweep.authUnlock ∧ v.xferOf
      p = none ∧ byteAt b 0 / 32 ≠ 1) ∧
    (∃ (s : State) (p : Fin 8) (b : List Byte), s.awake = true ∧ (s.sdoOn p = false ∨ b.length ≠ 8)) ∧
    (∃ (s : State) (p k : Fin 8) (b : List Byte) (v : State) (x : Xfer), s.awake = true ∧ s.sdoOn p = true ∧ b.length = 8 ∧ v =
      s.sessSweep.authUnlock ∧ v.xferOf p = some x ∧ x.kind = 0 ∧ byteAt b 0 = 2 * k + 1 + (if x.toggle then 16 else 0) ∧ sizeCheck x.size (x.data
      ++ (b.drop 1).take (7 - k)).length = 0) ∧
    (∃ (s : State) (p k : Fin 8) (b : List Byte) (v : State) (x : Xfer), s.awake = true ∧ s.sdoOn p = true ∧ b.length = 8 ∧ v =
      s.sessSweep.authUnlock ∧ v.xferOf p = some x ∧ x.kind = 0 ∧ byteAt b 0 = 2 * k + (if x.toggle then 16 else 0)) ∧
    (∃ (s : State) (p : Fin 8) (b : List Byte) (v : State) (x : Xfer), s.awake = true ∧ s.sdoOn p = true ∧ b.length = 8 ∧ v = s.sessSweep.authUnlock
      ∧ v.xferOf p = some x ∧ x.kind = 0 ∧ byteAt b 0 < 32 ∧ bitOf (byteAt b 0) 4 ≠ x.toggle) ∧
    (∃ (s : State) (p : Fin 8) (b : List Byte) (v : State), s.awake = true ∧ s.sdoOn p = true ∧ b.length = 8 ∧ v = s.sessSweep.authUnlock ∧ v.xferOf
      p = none) ∧
    (∃ (s : State) (p : Fin 8) (b : List Byte) (v : State) (x : State × Nat × List Byte), s.awake = true ∧ s.sdoOn p = true ∧ b.length = 8 ∧ v =
      s.sessSweep.authUnlock ∧ v.xferOf p = none ∧ byteAt b 0 = 0x40 ∧ x = (v.setXfer p none).dictRead (.sdo p) (msgIdx b) (msgSub b) ∧ x.2.1 ≠ 0) ∧
    (∃ (s : State) (p : Fin 8) (b : List Byte) (v : State) (x : State × Nat × List Byte), s.awake = true ∧ s.sdoOn p = true ∧ b.length = 8 ∧ v =
      s.sessSweep.authUnlock ∧ v.xferOf p = none ∧ byteAt b 0 = 0x40 ∧ x = (v.setXfer p none).dictRead (.sdo p) (msgIdx b) (msgSub b) ∧ x.2.1 = 0 ∧
      1 ≤ x.2.2.length ∧ x.2.2.length ≤ 4) ∧
    (∃ (s : State) (p : Fin 8) (b : List Byte) (v : State) (x : State × Nat × List Byte), s.awake = true ∧ s.sdoOn p = true ∧ b.length = 8 ∧ v =
      s.sessSweep.authUnlock ∧ v.xferOf p = none ∧ byteAt b 0 = 0x40 ∧ x = (v.setXfer p none).dictRead (.sdo p) (msgIdx b) (msgSub b) ∧ x.2.1 = 0 ∧
      4 < x.2.2.length) ∧
    (∃ (s : State) (p : Fin 8) (b : List Byte) (v : State) (x : Xfer), s.awake = true ∧ s.sdoOn p = true ∧ b.length = 8 ∧ v = s.sessSweep.authUnlock
      ∧ v.xferOf p = some x ∧ x.kind = 1 ∧ byteAt b 0 = 0x60 + (if x.toggle then 16 else 0) ∧ x.data.length ≤ 7) ∧
    (∃ (s : State) (p : Fin 8) (b : List Byte) (v : State) (x : Xfer), s.awake = true ∧ s.sdoOn p = true ∧ b.length = 8 ∧ v = s.sessSweep.authUnlock
      ∧ v.xferOf p = some x ∧ x.kind = 1 ∧ byteAt b 0 = 0x60 + (if x.toggle then 16 else 0) ∧ 7 < x.data.length) ∧
    (∃ (s : State) (p : Fin 8) (b : List Byte) (v : State), s.awake = true ∧ s.sdoOn p = true ∧ b.length = 8 ∧ v = s.sessSweep.authUnlock ∧ v.xferOf
      p = none ∧ byteAt b 0 / 32 = 6 ∧ bitOf (byteAt b 0) 0 = false ∧ (v.setXfer p none).dictMay (.sdo p) (msgIdx b) (msgSub b) true = 0) ∧
    (∃ (s : State) (p : Fin 8) (b : List Byte) (v : State) (x : Xfer), s.awake = true ∧ s.sdoOn p = true ∧ b.length = 8 ∧ v = s.sessSweep.authUnlock
      ∧ v.xferOf p = some x ∧ x.kind = 2 ∧ x.phase = 0 ∧ x.seq + 1 ≤ x.blk ∧ byteAt b 0 = 128 + (x.seq + 1) ∧ x.seq < 127) ∧
    (∃ (s : State) (p k : Fin 8) (b d : List Byte) (v : State) (x : Xfer), s.awake = true ∧ s.sdoOn p = true ∧ b.length = 8 ∧ v =
      s.sessSweep.authUnlock ∧ v.xferOf p = some x ∧ x.kind = 2 ∧ x.phase = 1 ∧ byteAt b 0 = 0xC1 + 4 * k ∧ d = x.data.take (x.data.length - k) ∧
      x.crc = true ∧ leNat ((b.drop 1).take 2) ≠ sdoCrc d) ∧
    (∃ (s : State) (p k : Fin 8) (b d : List Byte) (v : State) (x : Xfer), s.awake = true ∧ s.sdoOn p = true ∧ b.length = 8 ∧ v =
      s.sessSweep.authUnlock ∧ v.xferOf p = some x ∧ x.kind = 2 ∧ x.phase = 1 ∧ byteAt b 0 = 0xC1 + 4 * k ∧ d = x.data.take (x.data.length - k) ∧
      x.crc = true ∧ leNat ((b.drop 1).take 2) = sdoCrc d ∧ sizeCheck x.size d.length = 0) ∧
    (∃ (s : State) (p : Fin 8) (b : List Byte) (v : State) (x : State × Nat × List Byte), s.awake = true ∧ s.sdoOn p = true ∧ b.length = 8 ∧ v =
      s.sessSweep.authUnlock ∧ v.xferOf p = none ∧ byteAt b 0 = 0xA4 ∧ 1 ≤ byteAt b 4 ∧ byteAt b 4 ≤ 127 ∧ x = (v.setXfer p none).dictRead (.sdo p)
      (msgIdx b) (msgSub b) ∧ x.2.1 = 0) ∧
    (∃ (s : State) (p : Fin 8) (b : List Byte) (v : State) (x : Xfer), s.awake = true ∧ s.sdoOn p = true ∧ b.length = 8 ∧ v = s.sessSweep.authUnlock
      ∧ v.xferOf p = some x ∧ x.kind = 3 ∧ x.phase = 2 ∧ byteAt b 0 = 0xA3) ∧
    (∃ (s : State) (p : Fin 8), s.awake = true ∧ s.sdoOn p = true) ∧
    (∃ (s : State) (p : Fin 8), s.awake = true ∧ s.sdoOn p = false) ∧
    (∃ (s : State) (p : Fin 8) (x : Xfer), s.awake = true ∧ s.sdoOn p = true ∧ s.xferOf p = some x) ∧
    (∃ (s : State) (p : Fin 8), s.awake = true ∧ (s.xferOf p = none ∨ s.sdoOn p = false)) := by
  refine ⟨?_, ?_, ?_, ?_, ?_, ?_, ?_, ?_, ?_, ?_, ?_, ?_, ?_, ?_, ?_, ?_, ?_, ?_, ?_, ?_, ?_, ?_, ?_⟩
  · exact ⟨tNode, 0, 2, [0x2B, 0x17, 0x10, 0, 0xE8, 3, 0, 0], _, by decide, by decide, by decide, rfl, by decide, by decide⟩
  · exact ⟨tNode, 0, [0x21, 0x17, 0x10, 0, 2, 0, 0, 0], _, by decide, by decide, by decide, rfl, by decide, by decide, by decide⟩
  · exact ⟨tNode, 0, [0xE0, 0x17, 0x10, 0, 0, 0, 0, 0], _, by decide, by decide, by decide, rfl, by decide, by decide⟩
  · exact ⟨tNode, 7, [], by decide, .inl (by decide)⟩
  · exact ⟨tXf 0, 0, 5, [11, 0xE8, 3, 0, 0, 0, 0, 0], _, tXfer 0, by decide, by decide, by decide, rfl, by decide, by decide, by decide, by decide⟩
  · exact ⟨tXf 0, 0, 0, [0, 1, 2, 3, 4, 5, 6, 7], _, tXfer 0, by decide, by decide, by decide, rfl, by decide, by decide, by decide⟩
  · exact ⟨tXf 0, 0, [16, 1, 2, 3, 4, 5, 6, 7], _, tXfer 0, by decide, by decide, by decide, rfl, by decide, by decide, by decide, by decide⟩
  · exact ⟨tNode, 0, [16, 1, 2, 3, 4, 5, 6, 7], _, by decide, by decide, by decide, rfl, by decide⟩
  · exact ⟨tNode, 0, [0x40, 0x17, 0x10, 9, 0, 0, 0, 0], _, _, by decide, by decide, by decide, rfl, by decide, by decide, rfl, by decide⟩
  · exact ⟨tNode, 0, [0x40, 0x17, 0x10, 0, 0, 0, 0, 0], _, _, by decide, by decide, by decide, rfl, by decide, by decide, rfl, by decide, by decide,
    by decide⟩
  · exact ⟨tNode, 0, [0x40, 0x08, 0x10, 0, 0, 0, 0, 0], _, _, by decide, by decide, by decide, rfl, by decide, by decide, rfl, by decide, by decide⟩
  · exact ⟨tXf 1, 0, [0x60, 0, 0, 0, 0, 0, 0, 0], _, tXfer 1, by decide, by decide, by decide, rfl, by decide, by decide, by decide, by decide⟩
  · exact ⟨tXf 4, 0, [0x60, 0, 0, 0, 0, 0, 0, 0], _, tXfer 4, by decide, by decide, by decide, rfl, by decide, by decide, by decide, by decide⟩
  · exact ⟨tNode, 0, [0xC6, 0x17, 0x10, 0, 2, 0, 0, 0], _, by decide, by decide, by decide, rfl, by decide, by decide, by decide, by decide⟩
  · exact ⟨tXf 2, 0, [0x81, 0xE8, 3, 0, 0, 0, 0, 0], _, tXfer 2, by decide, by decide, by decide, rfl, by decide, by decide, by decide, by decide,
    by decide, by decide⟩
  · exact ⟨tXf 5, 0, 5, [0xD5, 0, 0, 0, 0, 0, 0, 0], [0xE8, 3], _, tXfer 5, by decide, by decide, by decide, rfl, by decide, by decide, by decide,
    by decide, by decide, by decide, by decide⟩
  · exact ⟨tXf 5, 0, 5, [0xD5] ++ leBytes 2 (sdoCrc [0xE8, 3]) ++ [0, 0, 0, 0, 0], [0xE8, 3], _, tXfer 5, by decide, by decide, by decide, rfl, by
    decide, by decide, by decide, by decide, by decide, by decide, by decide, by decide⟩
  · exact ⟨tNode, 0, [0xA4, 0x08, 0x10, 0, 127, 0, 0, 0], _, _, by decide, by decide, by decide, rfl, by decide, by decide, by decide, by decide,
    rfl, by decide⟩
  · exact ⟨tXf 6, 0, [0xA3, 0, 0, 0, 0, 0, 0, 0], _, tXfer 6, by decide, by decide, by decide, rfl, by decide, by decide, by decide, by decide⟩
  · exact ⟨tXf 0, 0, by decide⟩
  · exact ⟨tXf 0, 7, by decide⟩
  · exact ⟨tXf 0, 0, tXfer 0, by decide⟩
  · exact ⟨tXf 0, 7, by decide, .inl (by decide)⟩

/-- Hypotheses of `Obligations.StoresAndSessions`, clause by clause. -/
theorem witness_stores_and_sessions :
    (∃ (s : State) (p : Fin 8) (v : State), s.awake = true ∧ s.sdoOn p = true ∧ v = s.sessSweep.authUnlock) ∧
    (∃ (s : State) (p : Fin 8), s.awake = true ∧ s.sdoOn p = false) ∧
    (∃ (s : State), s.awake = true ∧ s.nydOn = false) ∧
    (∃ (s : State) (j : Job) (r : List Job) (v : State), s.awake = true ∧ s.od.jobs = j :: r ∧ j.begun = true ∧ v = s.setOd
      { s.od with jobs := r, banks := assoc s.storeTarget ⟨1, s.od.banks.foldl (fun m b => Nat.max m b.2.seq) 0 + 1, j.vals⟩ s.od.banks }) ∧
    (∃ (s : State) (j : Job) (r : List Job) (k : Bank) (v : State), s.awake = true ∧ s.od.jobs = j :: r ∧ j.begun = true ∧ k = (lookup s.storeTarget
      s.od.banks).getD {} ∧ v = s.setOd
      { s.od with jobs := r, banks := assoc s.storeTarget { k with st := if k.st = 1 then 2 else k.st } s.od.banks }) ∧
    (∃ (s : State), s.awake = true ∧ s.od.jobs = []) ∧
    (∃ (s : State) (p : Fin 8) (v : State), s.awake = true ∧ s.sdoOn p = true ∧ v = s.sessSweep.authUnlock) ∧
    (∃ (s : State) (p : Fin 8) (v : State), s.awake = true ∧ s.sdoOn p = true ∧ v = s.sessSweep.authUnlock) ∧
    (∃ (s : State) (p : Fin 8) (b : List Byte) (v : State), s.awake = true ∧ s.sdoOn p = true ∧ b.length = 33 ∧ v = s.sessSweep.authUnlock) ∧
    (∃ (s : State) (p : Fin 8) (b : List Byte) (v : State), s.awake = true ∧ s.sdoOn p = true ∧ s.mode' ≠ 7 ∧ b.length = 33 ∧ b.head? = some 2 ∧ v =
      ((s.sessSweep.authUnlock).setXfer p none).authUnlock ∧ v.od.nonce = [] ∧ v.od.lockUntil = none ∧ v.lcLevel 2 = true ∧ v.highOpen = false ∧
      v.od.fails = 2 ∧ v.cust.bad = []) ∧
    (∃ (s : State) (p : Fin 8) (b : List Byte) (v : State), s.awake = true ∧ s.sdoOn p = true ∧ s.mode' ≠ 7 ∧ b.length = 33 ∧ b.head? = some 2 ∧ v =
      ((s.sessSweep.authUnlock).setXfer p none).authUnlock ∧ v.od.nonce = [] ∧ v.lcLevel 2 = false) ∧
    (∃ (s : State) (p : Fin 8) (v : State), s.awake = true ∧ s.sdoOn p = true ∧ v = s.sessSweep.authUnlock ∧ v.sessOf (.sdo p) = none) ∧
    (∃ (s : State) (p : Fin 8) (x : Sess) (v : State), s.awake = true ∧ s.sdoOn p = true ∧ s.mode' ≠ 7 ∧ v = s.sessSweep.authUnlock.setXfer p none ∧
      v.sessOf (.sdo p) = some x) ∧
    (∃ (s : State) (c : Client) (x : Sess), s.awake = true ∧ s.sessOf c = some x) ∧
    (∃ (s : State) (c : Client), s.awake = true ∧ s.sessOf c = none) ∧
    (∃ (s : State) (t : Nat) (v : State), s.awake = true ∧ s.od.lockUntil = some t ∧ v = s.advanceTo t) ∧
    (∃ (s : State), s.awake = true ∧ s.od.lockUntil = none) := by
  refine ⟨?_, ?_, ?_, ?_, ?_, ?_, ?_, ?_, ?_, ?_, ?_, ?_, ?_, ?_, ?_, ?_, ?_⟩
  · exact ⟨tSdoIn 2, 0, _, by decide, by decide, rfl⟩
  · exact ⟨tNode, 7, by decide⟩
  · exact ⟨tOn 5, by decide⟩
  · exact ⟨tBegun, { begun := true }, [], _, by decide, by decide, by decide, rfl⟩
  · exact ⟨tBegun, { begun := true }, [], {}, _, by decide, by decide, by decide, by decide, rfl⟩
  · exact ⟨tNode, by decide⟩
  · exact ⟨tSdoIn 2, 0, _, by decide, by decide, rfl⟩
  · exact ⟨tNode, 0, _, by decide, by decide, rfl⟩
  · exact ⟨tNode, 0, List.replicate 33 2, _, by decide, by decide, by decide, rfl⟩
  · exact ⟨{ tNode with od := { nodes := [(0, 5)], fails := 2 }, cust := { lc := 2 } }, 0, List.replicate 33 2, _, by decide, by decide, by decide,
    by decide, by decide, rfl, by decide, by decide, by decide, by decide, by decide, by decide⟩
  · exact ⟨{ tNode with od := { nodes := [(0, 5)], fails := 2 } }, 0, List.replicate 33 2, _, by decide, by decide, by decide, by decide, by decide,
    rfl, by decide, by decide⟩
  · exact ⟨tNode, 0, _, by decide, by decide, rfl, by decide⟩
  · exact ⟨tSdoIn 2, 0, tSess 2, _, by decide, by decide, by decide, rfl, by decide⟩
  · exact ⟨tSdoIn 2, .sdo 0, tSess 2, by decide⟩
  · exact ⟨tNode, .nyd 3, by decide⟩
  · exact ⟨{ tNode with od := { fails := 3, lockUntil := some 70 } }, 70, _, by decide, by decide, rfl⟩
  · exact ⟨tNode, by decide⟩

/-- Hypotheses of `Obligations.PdoAndNmt`, clause by clause. -/
theorem witness_pdo_and_nmt :
    (∃ (s : State) (k : Fin 64) (b : List Byte) (v : State), s.awake = true ∧ s.pdoOn = true ∧ s.cobOf (rpdoCom k) < 2 ^ 31 ∧ v = s.setRpdo k
      { s.rpdo k with last := some s.now, late := false } ∧ v.mapTotal (rpdoCom k + 0x200) ≤ 8 * b.length ∧ 254 ≤ v.pdoTypeOf (rpdoCom k)) ∧
    (∃ (s : State) (k : Fin 64) (b : List Byte) (v : State), s.awake = true ∧ s.pdoOn = true ∧ s.cobOf (rpdoCom k) < 2 ^ 31 ∧ v = s.setRpdo k
      { s.rpdo k with last := some s.now, late := false } ∧ v.mapTotal (rpdoCom k + 0x200) ≤ 8 * b.length ∧ v.pdoTypeOf (rpdoCom k) < 254) ∧
    (∃ (s : State) (k : Fin 64) (b : List Byte) (v : State), s.awake = true ∧ s.pdoOn = true ∧ s.cobOf (rpdoCom k) < 2 ^ 31 ∧ v = s.setRpdo k
      { s.rpdo k with last := some s.now, late := false } ∧ 8 * b.length < v.mapTotal (rpdoCom k + 0x200)) ∧
    (∃ (s : State) (k : Fin 64), s.awake = true ∧ (s.pdoOn = false ∨ 2 ^ 31 ≤ s.cobOf (rpdoCom k))) ∧
    (∃ (s : State) (k : Fin 64) (t : Nat) (v : State), s.awake = true ∧ s.pdoOn = true ∧ s.cobOf (rpdoCom k) < 2 ^ 31 ∧ (s.rpdo k).last = some t ∧
      (s.rpdo k).late = false ∧ s.odNum (rpdoCom k) 5 0 ≠ 0 ∧ v = s.advanceTo (t + ms (s.odNum (rpdoCom k) 5 0))) ∧
    (∃ (s : State) (k : Fin 64), s.awake = true ∧ ((s.rpdo k).last = none ∨ s.pdoOn = false ∨ (s.rpdo k).late = true ∨ s.odNum (rpdoCom k) 5 0 = 0 ∨
      2 ^ 31 ≤ s.cobOf (rpdoCom k))) ∧
    (∃ (s : State) (p : Fin 8) (v : State), s.awake = true ∧ s.pdoOn = true ∧ (v = (s.each (List.range 64) fun s k => (s.rpdo k).wait.elim s fun d
      => if s.pdoPort (rpdoCom k) = p.val ∧ s.cobOf (rpdoCom k) < 2 ^ 31 then (s.setRpdo k { s.rpdo k with wait := none }).rpdoProcess k d else s))) ∧
    (∃ (s : State), s.awake = true ∧ s.pdoOn = false) ∧
    (∃ (s : State) (k : Fin 64) (x : State × List Byte) (i d t : Nat), s.awake = true ∧ s.pdoOn = true ∧ s.cobOf (tpdoCom k) < 2 ^ 31 ∧ 254 ≤
      s.pdoTypeOf (tpdoCom k) ∧ x = s.tpdoData k ∧ (x.2 ≠ (x.1.tpdo k).sent ∨ x.1.odNum (tpdoCom k) 5 0 ≠ 0) ∧ (i = tpdoPoint (Nat.max x.1.now
      (((x.1.tpdo k).at0.map fun a => a + x.1.odNum (tpdoCom k) 3 0 * us 100).getD x.1.now))) ∧ (d = Nat.max x.1.now (((x.1.tpdo k).at0.map fun a =>
      a + ms (x.1.odNum (tpdoCom k) 5 0)).getD x.1.now)) ∧ t = (if x.2 = (x.1.tpdo k).sent then d else if x.1.odNum (tpdoCom k) 5 0 = 0 then i else
      Nat.min i d)) ∧
    (∃ (s : State) (k : Fin 64) (x : State × List Byte), s.awake = true ∧ s.pdoOn = true ∧ s.cobOf (tpdoCom k) < 2 ^ 31 ∧ 254 ≤ s.pdoTypeOf (tpdoCom
      k) ∧ x = s.tpdoData k ∧ x.2 = (x.1.tpdo k).sent ∧ x.1.odNum (tpdoCom k) 5 0 = 0) ∧
    (∃ (s : State) (k : Fin 64), s.awake = true ∧ (s.pdoOn = false ∨ 2 ^ 31 ≤ s.cobOf (tpdoCom k) ∨ s.pdoTypeOf (tpdoCom k) < 254)) ∧
    (∃ (s : State) (p : Fin 8) (x : Nat × CanFrame × Option Nat), s.awake = true ∧ s.arbiterPort p = true ∧ s.txPend p 1 = false ∧ s.clk.aDown =
      none ∧ s.mode' ≠ 5 ∧ s.emcyNext p = none ∧ s.od.queue.find? (fun x => x.1 == p.val) = some x) ∧
    (∃ (s : State) (p : Fin 8) (e : Emcy) (v : State), s.awake = true ∧ s.arbiterPort p = true ∧ s.txPend p 1 = false ∧ s.emcyNext p = some e ∧ (v =
      s.setJnl
      { s.jnl with emcy := (s.jnl.emcy.map fun x => if x = e then { x with ports := x.ports.filter (· ≠ p.val) } else x).filter fun x => !x.ports.isEmpty })) ∧
    (∃ (s : State) (p : Fin 8), s.awake = true ∧ (s.txPend p 1 = true ∨ s.arbiterPort p = false ∨ (s.emcyNext p = none ∧ (s.clk.aDown.isSome = true
      ∨ s.mode' = 5 ∨ s.od.queue.find? (fun x => x.1 == p.val) = none)))) ∧
    (∃ (s : State) (p : Fin 8) (node : Nat), s.awake = true ∧ s.nmtFor p node = true ∧ (s.mode' = 3 ∨ s.mode' = 4 ∨ s.mode' = 6) ∧ s.clk.aDown =
      none ∧ s.mode.sleeping = false) ∧
    (∃ (s : State) (p : Fin 8) (node : Nat), s.awake = true ∧ s.nmtFor p node = true ∧ (s.mode' = 3 ∨ s.mode' = 4 ∨ s.mode' = 6) ∧ s.clk.aDown =
      none ∧ s.mode.sleeping = true) ∧
    (∃ (s : State) (p : Fin 8) (node : Nat), s.awake = true ∧ s.nmtFor p node = true ∧ (s.mode' = 5 ∨ s.mode' = 7)) ∧
    (∃ (s : State) (p : Fin 8) (node : Nat), s.awake = true ∧ s.nmtFor p node = true ∧ (s.mode' = 3 ∨ s.mode' = 4 ∨ s.mode' = 6) ∧ s.clk.aDown =
      none ∧ s.mode.sleeping = false) ∧
    (∃ (s : State) (p : Fin 8) (node : Nat), s.awake = true ∧ (s.nmtFor p node = false ∨ s.mode' = 5 ∨ s.mode' = 7 ∨ s.clk.aDown.isSome = true)) ∧
    (∃ (s : State) (p : Fin 8) (node : Nat), s.awake = true ∧ s.nmtFor p node = true ∧ (s.mode' = 3 ∨ s.mode' = 4 ∨ s.mode' = 6) ∧ s.clk.aDown =
      none ∧ s.mode.sleeping = false) ∧
    (∃ (s : State) (p : Fin 8) (node : Nat), s.awake = true ∧ s.nmtFor p node = true ∧ (s.mode' = 3 ∨ s.mode' = 4 ∨ s.mode' = 6) ∧ s.clk.aDown =
      none ∧ s.mode.sleeping = false) ∧
    (∃ (s : State) (p : Fin 8) (node : Nat), s.awake = true ∧ s.nmtFor p node = true ∧ s.mode' = 5) ∧
    (∃ (s : State) (p : Fin 8) (node : Nat), s.awake = true ∧ s.nmtFor p node = true ∧ s.mode' = 7 ∧ s.pins.recov = false ∧ s.upd.runOk = true ∧
      s.upd.marker = .idle) ∧
    (∃ (s : State) (p : Fin 8) (node : Nat), s.awake = true ∧ s.nmtFor p node = true ∧ s.mode' = 7 ∧ (s.pins.recov = true ∨ s.upd.runOk = false ∨
      s.upd.marker ≠ .idle)) ∧
    (∃ (s : State) (p : Fin 8) (node : Nat) (v : State), s.awake = true ∧ s.nmtFor p node = true ∧ (s.mode' = 3 ∨ s.mode' = 4 ∨ s.mode' = 6) ∧
      s.clk.aDown = none ∧ v = ((s.pdoStop.sessEndAll clientSdo).dropVals (fun k => decide (k / 256 < 0x2000))).applySet (fun k => decide (k / 256 <
      0x2000))) ∧
    (∃ (s : State) (p : Fin 8) (node : Nat), s.awake = true ∧ (s.nmtFor p node = false ∨ s.mode' = 5 ∨ s.mode' = 7 ∨ s.clk.aDown.isSome = true)) ∧
    (∃ (s : State) (c : Nat), s.awake = true ∧ hbByte s.mode' = some c ∧ s.hbTime ≠ 0) ∧
    (∃ (s : State), s.awake = true ∧ (hbByte s.mode' = none ∨ s.hbTime = 0)) ∧
    (∃ (s : State) (i : Fin 16) (t w : Nat), s.awake = true ∧ w = s.odNum 0x1016 (i + 1) 0 ∧ lookup i.val s.od.hbIn = some t ∧ w % 2 ^ 16 ≠ 0 ∧
      s.active .DICT_HB_LOSS (i + 1) = false) ∧
    (∃ (s : State) (i : Fin 16), s.awake = true ∧ (lookup i.val s.od.hbIn = none ∨ s.odNum 0x1016 (i + 1) 0 % 2 ^ 16 = 0 ∨ s.active .DICT_HB_LOSS (i
      + 1) = true)) := by
  refine ⟨?_, ?_, ?_, ?_, ?_, ?_, ?_, ?_, ?_, ?_, ?_, ?_, ?_, ?_, ?_, ?_, ?_, ?_, ?_, ?_, ?_, ?_, ?_, ?_, ?_, ?_, ?_, ?_, ?_, ?_⟩
  · exact ⟨tPdo 254, 63, [1], _, by decide, by decide, by decide, rfl, by decide, by decide⟩
  · exact ⟨tPdo 1, 63, [1], _, by decide, by decide, by decide, rfl, by decide, by decide⟩
  · exact ⟨tPdo 1, 63, [], _, by decide, by decide, by decide, rfl, by decide⟩
  · exact ⟨tOn 3, 63, by decide, .inl (by decide)⟩
  · exact ⟨(tPdo 254).setRpdo 63 { last := some 0 }, 63, 0, _, by decide, by decide, by decide, by decide, by decide, by decide, rfl⟩
  · exact ⟨tPdo 254, 63, by decide, .inl (by decide)⟩
  · exact ⟨(tPdo 1).setRpdo 63 { wait := some [5] }, 0, _, by decide, by decide, rfl⟩
  · exact ⟨tOn 3, by decide⟩
  · exact ⟨tPdo 254, 63, _, _, _, _, by decide, by decide, by decide, by decide, rfl, .inl (by decide), rfl, rfl, rfl⟩
  · exact ⟨{ tPdo 254 with od := { (tPdo 254).od with tpdo := [(63, { sent := [0] })] } }, 63, _, by decide, by decide, by decide, by decide, rfl,
    by decide, by decide⟩
  · exact ⟨tOn 3, 63, by decide, .inl (by decide)⟩
  · exact ⟨tQueue, 0, (0, { id := 0x581, dlc := 8, data := List.replicate 8 0 }, none), by decide⟩
  · exact ⟨{ tQueue with jnl := { emcy := [{ err := 0x1000, reg := 1, code := 5, idx := 0, seq := 0, ports := [0] }] } }, 0,
    { err := 0x1000, reg := 1, code := 5, idx := 0, seq := 0, ports := [0] }, _, by decide, by decide, by decide, by decide, rfl⟩
  · exact ⟨(tQueue).setBit F.CAN_TXB_STAT_PEND 0 1, 0, by decide, .inl (by decide)⟩
  · exact ⟨tNode, 0, 5, by decide⟩
  · exact ⟨{ tNode with mode := { sleeping := true } }, 0, 0, by decide⟩
  · exact ⟨tNode.setFld F.SYS_MODE_MODE 0 5, 0, 0, by decide⟩
  · exact ⟨tNode, 0, 5, by decide⟩
  · exact ⟨tNode, 0, 6, by decide, .inl (by decide)⟩
  · exact ⟨tNode, 0, 5, by decide⟩
  · exact ⟨tNode, 0, 5, by decide⟩
  · exact ⟨tNode.setFld F.SYS_MODE_MODE 0 5, 0, 0, by decide⟩
  · exact ⟨tNode.setFld F.SYS_MODE_MODE 0 7, 0, 0, by decide⟩
  · exact ⟨{ tNode.setFld F.SYS_MODE_MODE 0 7 with pins := { recov := true } }, 0, 0, by decide⟩
  · exact ⟨tNode, 0, 5, _, by decide, by decide, by decide, by decide, rfl⟩
  · exact ⟨tNode, 0, 6, by decide, .inl (by decide)⟩
  · exact ⟨tNode, 5, by decide⟩
  · exact ⟨State.reset, by decide, .inl (by decide)⟩
  · exact ⟨tHb, 15, 0, 0x000703E8, by decide⟩
  · exact ⟨tNode, 15, by decide, .inl (by decide)⟩

/-- Hypotheses of `Obligations.NyduletRequests`, clause by clause. -/
theorem witness_nydulet_requests :
    (∃ (s : State) (b : List Byte), s.awake = true ∧ s.nydPlain 0x01 b = true) ∧
    (∃ (s : State) (b : List Byte), s.awake = true ∧ s.nydMine b = false) ∧
    (∃ (s : State) (b : List Byte), s.awake = true ∧ s.nydPlain 0x10 b = true) ∧
    (∃ (s : State) (b : List Byte), s.awake = true ∧ s.nydPlain 0x12 b = true) ∧
    (∃ (s : State) (peer : Nat) (b : List Byte), s.awake = true ∧ s.nydInside peer 0x14 b = true) ∧
    (∃ (s : State) (b : List Byte), s.awake = true ∧ s.nydOn = true ∧ s.nydMine b = true ∧ nydSid b = 0 ∧ byteAt b 1 = 0x14) ∧
    (∃ (s : State) (b : List Byte), s.awake = true ∧ s.nydPlain 0x20 b = true) ∧
    (∃ (s : State) (peer : Nat) (b : List Byte), s.awake = true ∧ s.nydInside peer 0x20 b = true) ∧
    (∃ (s : State) (peer : Nat) (b : List Byte), s.awake = true ∧ s.nydInside peer 0x21 b = true) ∧
    (∃ (s : State) (b : List Byte), s.awake = true ∧ s.nydPlain 0x21 b = true) ∧
    (∃ (s : State) (b : List Byte), s.awake = true ∧ s.nydOn = true ∧ s.nydMine b = true ∧ nydSid b = 0 ∧ s.mode' ≠ 7 ∧ byteAt b 1 = 0x21) ∧
    (∃ (s : State) (b : List Byte), s.awake = true ∧ s.nydPlain 0x22 b = true) ∧
    (∃ (s : State) (peer : Nat) (b : List Byte), s.awake = true ∧ s.nydInside peer 0x23 b = true) ∧
    (∃ (s : State) (peer : Nat) (b : List Byte), s.awake = true ∧ s.nydInside peer 0x24 b = true) ∧
    (∃ (s : State), s.awake = true ∧ s.ipOn = true) ∧
    (∃ (s : State) (target : Nat), s.awake = true ∧ (target ≠ s.od.ip ∨ s.ipOn = false)) ∧
    (∃ (s : State) (data m h : List Byte) (v : State) (d t : Nat), s.awake = true ∧ s.ipOn = true ∧ v = ((s.draw 16).2.draw 8).2 ∧ d = (s.draw 16).1
      ∧ t = ((s.draw 16).2.draw 8).1 ∧ m = beBytes 2 0 ++ beBytes 2 (ipChecksum (beBytes 2 0 ++ beBytes 2 0 ++ data)) ++ data ∧ h = beBytes 1 0x45
      ++ beBytes 1 0 ++ beBytes 2 (20 + m.length) ++ beBytes 2 d ++ beBytes 2 0 ++ beBytes 1 t ++ beBytes 1 1) ∧
    (∃ (s : State), s.awake = true ∧ s.ipOn = false) ∧
    (∃ (s : State) (p : Fin 8) (v : State), s.awake = true ∧ s.sdoOn p = true ∧ v = s.sessSweep.authUnlock ∧ v.xferOf p = none) ∧
    (∃ (s : State) (p : Fin 8) (b : List Byte) (v : State) (tag : Nat), s.awake = true ∧ s.sdoOn p = true ∧ v = s.sessSweep.authUnlock ∧ tag = (if
      b.length ≤ 4 then 0x60 else 0x20) ∧ b.length ≠ 0) := by
  refine ⟨?_, ?_, ?_, ?_, ?_, ?_, ?_, ?_, ?_, ?_, ?_, ?_, ?_, ?_, ?_, ?_, ?_, ?_, ?_, ?_⟩
  · exact ⟨tNode, tDgram 0x01 0x2FF 0 0 [2, 0, 1], by decide⟩
  · exact ⟨tNode, tDgram 0x01 0x300 0 0 [2, 0, 1], by decide⟩
  · exact ⟨tNode, tDgram 0x10 0x2FF 0 0 [3], by decide⟩
  · exact ⟨tNode, tDgram 0x12 0x2FF 0 0 (List.replicate 48 0), by decide⟩
  · exact ⟨tNydIn, 9, tTagged 0x14 1 [], by decide +kernel⟩
  · exact ⟨tNode, tDgram 0x14 0x2FF 0 0 [], by decide⟩
  · exact ⟨tNode, tDgram 0x20 0x2FF 0 0 [0, 0x10, 0], by decide⟩
  · exact ⟨tNydIn, 9, tTagged 0x20 1 [0, 0x10, 0], by decide +kernel⟩
  · exact ⟨tNydIn, 9, tTagged 0x21 1 [0x17, 0x10, 0, 1, 0], by decide +kernel⟩
  · exact ⟨tOn 7, tDgram 0x21 0x2FF 0 0 [0x51, 0x1F, 1, 3], by decide⟩
  · exact ⟨tNode, tDgram 0x21 0x2FF 0 0 [0x17, 0x10, 0, 1, 0], by decide⟩
  · exact ⟨tNode, tDgram 0x22 0x2FF 0 0 [1, 0, 0x10, 0], by decide⟩
  · exact ⟨tNydIn, 9, tTagged 0x23 1 [0x08, 0x10, 0, 0, 0, 0, 0, 4, 0], by decide +kernel⟩
  · exact ⟨tNydIn, 9, tTagged 0x24 1 [0x50, 0x1F, 1, 0, 0, 0, 0, 9, 0, 0, 0, 1], by decide +kernel⟩
  · exact ⟨tNode, by decide⟩
  · exact ⟨tNode, 7, by decide, .inl (by decide)⟩
  · exact ⟨tNode, [1, 2], beBytes 2 0 ++ beBytes 2 (ipChecksum (beBytes 2 0 ++ beBytes 2 0 ++ [1, 2])) ++ [1, 2], _, _, _, _, by decide, by decide,
    rfl, rfl, rfl, by decide, rfl⟩
  · exact ⟨tOn 5, by decide⟩
  · exact ⟨tSdoIn 2, 0, _, by decide, by decide, rfl, by decide⟩
  · exact ⟨tSdoIn 2, 0, [0, 1, 2, 3, 4, 5, 6, 7], _, _, by decide, by decide, rfl, rfl, by decide⟩

/-- Hypotheses of `Obligations.ChallengeCycles`, clause by clause. -/
theorem witness_challenge_cycles :
    (∃ (s : State) (x : LfBurst) (v w : State), s.awake = true ∧ s.accRuns = true ∧ s.accMode = true ∧ s.acc.req = true ∧ v = s.cycleWait ∧ w =
      (v.setAcc { v.acc with last := some v.now, req := false, done := some [] }).startCycle .broadcast) ∧
    (∃ (s : State) (x : LfBurst) (u v w : State), s.awake = true ∧ s.accRuns = true ∧ s.accMode = true ∧ s.acc.req = false ∧ s.flag
      F.ACC_CTRL_POLL_EN = true ∧ u = s.acc.last.elim s (fun t => s.advanceTo (t + s.pollInt)) ∧ v = u.cycleWait ∧ w = (v.setAcc
      { v.acc with last := some v.now, req := false, done := some [] }).startCycle .broadcast) ∧
    (∃ (s : State) (x : LfBurst), s.awake = true ∧ (s.accRuns = false ∨ s.accMode = false ∨ s.acc.req = false ∧ s.flag F.ACC_CTRL_POLL_EN = false)) ∧
    (∃ (s : State) (a : Acc) (x : LfBurst) (v : State), s.granted a .ACC_CMD (0) ∧ s.accRuns = true ∧ s.accMode = true ∧ s.cycling = false ∧ v =
      s.wrote a .ACC_CMD (0) (fun s => ((s.setAcc { s.acc with last := some s.now, done := some [] }).startCycle .broadcast, 0))) ∧
    (∃ (s : State) (a : Acc) (x : LfBurst), s.granted a .ACC_CMD (0) ∧ s.accRuns = true ∧ s.accMode = true ∧ s.cycling = true) ∧
    (∃ (s : State) (a : Acc) (x : LfBurst), s.granted a .ACC_CMD (0) ∧ (s.accRuns = false ∨ s.accMode = false)) ∧
    (∃ (s : State) (a : Acc), s.granted a .ACC_CMD (0)) ∧
    (∃ (s : State) (start : Nat) (b : List Byte) (bitmap : Byte), s.awake = true ∧ (s.accRuns = false ∨ s.acc.cyc.bind (·.parse start b) = none)) ∧
    (∃ (s : State) (start : Nat) (b : List Byte) (bitmap : Byte) (r : Reply) (c : Cycle) (v : State), s.awake = true ∧ s.accRuns = true ∧ s.acc.cyc
      = some c ∧ c.kind ≠ .assign ∧ c.parse start b = some r ∧ v = s.advanceTo (c.chalEnd + us (start + if r.ver = 1 then 8400 else 10000)) ∧
      (r.delay < -10 ∨ ((v.fld F.ACC_SEC_RESP_MAX : Nat) : Int) - 300 < r.delay) ∧ v.respOk c r = false) ∧
    (∃ (s : State) (start : Nat) (b : List Byte) (bitmap : Byte) (r : Reply) (c : Cycle) (v : State), s.awake = true ∧ s.accRuns = true ∧ s.acc.cyc
      = some c ∧ c.kind ≠ .assign ∧ c.parse start b = some r ∧ v = s.advanceTo (c.chalEnd + us (start + if r.ver = 1 then 8400 else 10000)) ∧
      (r.delay < -10 ∨ ((v.fld F.ACC_SEC_RESP_MAX : Nat) : Int) - 300 < r.delay) ∧ v.respOk c r = true) ∧
    (∃ (s : State) (start : Nat) (b : List Byte) (bitmap : Byte) (r : Reply) (c : Cycle) (v : State), s.awake = true ∧ s.accRuns = true ∧ s.acc.cyc
      = some c ∧ c.kind ≠ .assign ∧ c.parse start b = some r ∧ v = s.advanceTo (c.chalEnd + us (start + if r.ver = 1 then 8400 else 10000)) ∧ -10 ≤
      r.delay ∧ r.delay ≤ ((v.fld F.ACC_SEC_RESP_MAX : Nat) : Int) - 300 ∧ v.acc.deny.contains r.id = true) ∧
    (∃ (s : State) (start : Nat) (b : List Byte) (bitmap : Byte) (r : Reply) (c : Cycle) (v : State), s.awake = true ∧ s.accRuns = true ∧ s.acc.cyc
      = some c ∧ c.kind ≠ .assign ∧ c.parse start b = some r ∧ v = s.advanceTo (c.chalEnd + us (start + if r.ver = 1 then 8400 else 10000)) ∧ -10 ≤
      r.delay ∧ r.delay ≤ ((v.fld F.ACC_SEC_RESP_MAX : Nat) : Int) - 300 ∧ v.acc.deny.contains r.id = false ∧ v.lockedOut r.id = true) ∧
    (∃ (s : State) (start : Nat) (b : List Byte) (bitmap : Byte) (r : Reply) (c : Cycle) (v : State), s.awake = true ∧ s.accRuns = true ∧ s.acc.cyc
      = some c ∧ c.kind ≠ .assign ∧ c.parse start b = some r ∧ v = s.advanceTo (c.chalEnd + us (start + if r.ver = 1 then 8400 else 10000)) ∧ -10 ≤
      r.delay ∧ r.delay ≤ ((v.fld F.ACC_SEC_RESP_MAX : Nat) : Int) - 300 ∧ v.acc.deny.contains r.id = false ∧ v.lockedOut r.id = false ∧ (v.slotFor
      r.idx).1.occ = true ∧ (v.slotFor r.idx).1.id = r.id ∧ v.respOk c r = true) ∧
    (∃ (s : State) (start : Nat) (b : List Byte) (bitmap : Byte) (r : Reply) (c : Cycle) (v : State), s.awake = true ∧ s.accRuns = true ∧ s.acc.cyc
      = some c ∧ c.kind ≠ .assign ∧ c.parse start b = some r ∧ v = s.advanceTo (c.chalEnd + us (start + if r.ver = 1 then 8400 else 10000)) ∧ -10 ≤
      r.delay ∧ r.delay ≤ ((v.fld F.ACC_SEC_RESP_MAX : Nat) : Int) - 300 ∧ v.acc.deny.contains r.id = false ∧ v.lockedOut r.id = false ∧ ((v.slotFor
      r.idx).1.occ && (v.slotFor r.idx).1.id == r.id && v.respOk c r) = false) ∧
    (∃ (s : State) (i : Fin 16) (rx : SlotRx) (x : LfBurst) (e : Enrol), s.awake = true ∧ s.accRuns = true ∧ s.acc.enrol = some e ∧ e.slot = i ∧
      e.ver.isSome = true) ∧
    (∃ (s : State) (i : Fin 16) (rx : SlotRx) (x : LfBurst) (d : List Nat) (v w : State), s.awake = true ∧ s.accRuns = true ∧ s.acc.enrol = none ∧
      s.acc.done = some d ∧ (1000000 ≤ rx.energy ∨ 2 ≤ rx.syncs) ∧ v = s.setFlag F.ACC_EVT_COLL ∧ v.addressDue i = true ∧ w = v.cycleWait) ∧
    (∃ (s : State) (i : Fin 16) (rx : SlotRx) (x : LfBurst) (v : State), s.awake = true ∧ s.accRuns = true ∧ s.acc.enrol = none ∧ s.acc.done.isSome
      = true ∧ (1000000 ≤ rx.energy ∨ 2 ≤ rx.syncs) ∧ v = s.setFlag F.ACC_EVT_COLL ∧ v.addressDue i = false) ∧
    (∃ (s : State) (i : Fin 16) (rx : SlotRx) (x : LfBurst), s.awake = true ∧ (s.accRuns = false ∨ s.acc.enrol = none ∧ (s.acc.done = none ∨
      rx.energy < 1000000 ∧ rx.syncs < 2))) ∧
    (∃ (s : State) (rx : SlotRx) (x : LfBurst) (c : Cycle) (i : Nat), s.awake = true ∧ s.accRuns = true ∧ s.acc.cyc = some c ∧ c.kind = .addressed i
      ∧ (1000000 ≤ rx.energy ∨ 2 ≤ rx.syncs)) ∧
    (∃ (s : State) (rx : SlotRx) (x : LfBurst) (c : Cycle) (i k : Nat), s.awake = true ∧ s.accRuns = true ∧ s.acc.cyc = some c ∧ c.kind = .slotted i
      k ∧ k < 7 ∧ (1000000 ≤ rx.energy ∨ 2 ≤ rx.syncs)) ∧
    (∃ (s : State) (rx : SlotRx) (x : LfBurst) (c : Cycle) (i k : Nat) (v : State), s.awake = true ∧ s.accRuns = true ∧ s.acc.cyc = some c ∧ c.kind
      = .slotted i k ∧ 7 ≤ k ∧ (1000000 ≤ rx.energy ∨ 2 ≤ rx.syncs) ∧ v = ((s.setFlag F.ACC_EVT_COLL).cycleWait).raise .ACC_COLLISION i) ∧
    (∃ (s : State) (rx : SlotRx) (x : LfBurst), s.awake = true ∧ (s.accRuns = false ∨ s.acc.cyc = none ∨ rx.energy < 1000000 ∧ rx.syncs < 2)) ∧
    (∃ (s : State) (id t : Nat) (x : Ident) (v : State), s.awake = true ∧ s.acc.ids.find? (fun x => x.id == id && x.lock.isSome) = some x ∧ x.lock =
      some t ∧ v = s.advanceTo t) ∧
    (∃ (s : State), s.awake = true ∧ s.acc.ids = []) := by
  refine ⟨?_, ?_, ?_, ?_, ?_, ?_, ?_, ?_, ?_, ?_, ?_, ?_, ?_, ?_, ?_, ?_, ?_, ?_, ?_, ?_, ?_, ?_, ?_, ?_⟩
  · exact ⟨tAcc { req := true }, ⟨[100], [1], [3]⟩, _, _, by decide, by decide, by decide, by decide, rfl, rfl⟩
  · exact ⟨(tAcc { last := some 0 }).setFlag F.ACC_CTRL_POLL_EN, {}, _, _, _, by decide, by decide, by decide, by decide, by decide, rfl, rfl, rfl⟩
  · exact ⟨tOn 7, {}, by decide⟩
  · exact ⟨tOn 4, tCpu, {}, _, by unfold State.granted; decide, by decide, by decide, by decide, rfl⟩
  · exact ⟨tCyc .broadcast, tCpu, {}, by unfold State.granted; decide⟩
  · exact ⟨tOn 7, tCpu, {}, by unfold State.granted; decide⟩
  · exact ⟨tAcc { ids := [⟨5, [], some 9⟩] }, tCpu, by unfold State.granted; decide⟩
  · exact ⟨tCyc .broadcast, 300, [1, 2], 0, by decide⟩
  · exact ⟨tCyc .broadcast, 32400, tRep0, 0, tReply 300 5, tCycle .broadcast, _, by decide, by decide, by decide, by decide, by decide +kernel, rfl,
    by decide +kernel, by decide +kernel⟩
  · exact ⟨tPaired, 32400, tRep1, 0, tGood 300, tCycle .broadcast, _, by decide, by decide, by decide, by decide, by decide +kernel, rfl, by
    decide +kernel, by decide +kernel⟩
  · exact ⟨tAcc { cyc := some (tCycle .broadcast), deny := [5] }, 32090, tRep0, 0, tReply (-10) 5, tCycle .broadcast, _, by decide, by decide, by
    decide, by decide, by decide +kernel, rfl, by decide +kernel, by decide +kernel, by decide +kernel⟩
  · exact ⟨tAcc { cyc := some (tCycle .broadcast), ids := [⟨5, [], some 9⟩] }, 32100, tRep0, 0, tReply 0 5, tCycle .broadcast, _, by decide, by
    decide, by decide, by decide, by decide +kernel, rfl, by decide +kernel, by decide +kernel, by decide +kernel, by decide +kernel⟩
  · exact ⟨tPaired, 32100, tRep1, 0, tGood 0, tCycle .broadcast, _, by decide, by decide, by decide, by decide, by decide +kernel, rfl, by
    decide +kernel, by decide +kernel, by decide +kernel, by decide +kernel, by decide +kernel, by decide +kernel, by decide +kernel⟩
  · exact ⟨tCyc .broadcast, 32110, tRep0, 0, tReply 10 5, tCycle .broadcast, _, by decide, by decide, by decide, by decide, by decide +kernel, rfl,
    by decide +kernel, by decide +kernel, by decide +kernel, by decide +kernel, by decide +kernel⟩
  · exact ⟨tAcc { enrol := some ⟨15, false, 9, [], 0, some 2⟩ }, 15, ⟨0, 0⟩, {}, ⟨15, false, 9, [], 0, some 2⟩, by decide⟩
  · exact ⟨{ tPaired with acc := { tPaired.acc with done := some [] } }, 15, ⟨1000000, 0⟩, {}, [], _, _, by decide, by decide, by decide, by decide,
    by decide, rfl, by decide, rfl⟩
  · exact ⟨tAcc { done := some [] }, 15, ⟨0, 2⟩, {}, _, by decide, by decide, by decide, by decide, by decide, rfl, by decide⟩
  · exact ⟨tOn 4, 15, ⟨999999, 1⟩, {}, by decide⟩
  · exact ⟨tCyc (.addressed 15), ⟨0, 2⟩, {}, tCycle (.addressed 15), 15, by decide⟩
  · exact ⟨tCyc (.slotted 15 6), ⟨1000000, 0⟩, {}, tCycle (.slotted 15 6), 15, 6, by decide⟩
  · exact ⟨tCyc (.slotted 15 7), ⟨1000000, 0⟩, {}, tCycle (.slotted 15 7), 15, 7, _, by decide, by decide, by decide, by decide, by decide, by
    decide, rfl⟩
  · exact ⟨tOn 4, ⟨0, 0⟩, {}, by decide⟩
  · exact ⟨tAcc { ids := [⟨5, [], some 9⟩] }, 5, 9, ⟨5, [], some 9⟩, _, by decide, by decide, by decide, rfl⟩
  · exact ⟨tOn 4, by decide⟩

/-- Hypotheses of `Obligations.GatesAndEnrolment`, clause by clause. -/
theorem witness_gates_and_enrolment :
    (∃ (s : State) (g : Fin 8) (v : State), s.awake = true ∧ s.bit F.ACC_STAT_GATES 0 g = true ∧ v = s.advanceTo ((s.gatec g).auth + sec (s.fld
      F.ACC_GATE_SEL_WINDOW g)) ∧ v.gateHeld g = false) ∧
    (∃ (s : State) (g : Fin 8) (v : State), s.awake = true ∧ s.bit F.ACC_STAT_GATES 0 g = true ∧ v = s.advanceTo ((s.gatec g).auth + sec (s.fld
      F.ACC_GATE_SEL_WINDOW g)) ∧ v.gateHeld g = true) ∧
    (∃ (s : State) (g : Fin 8), s.awake = true ∧ s.bit F.ACC_STAT_GATES 0 g = false) ∧
    (∃ (s : State) (g : Fin 8), s.awake = true ∧ s.flag F.ACC_MSGCFG_MSG_EN g = false) ∧
    (∃ (s : State) (g : Fin 8) (p f h b : Nat) (k : List Byte) (u v : State), s.awake = true ∧ p = s.fld F.ACC_MSGCFG_PORT g ∧ s.flag
      F.ACC_MSGCFG_MSG_EN g = true ∧ s.accRuns = true ∧ s.canRuns p = true ∧ s.fld F.CAN_CTRL_OPMODE p = 0 ∧ s.key 10 = some k ∧ u = (s.gatec
      g).msgAt.elim s (fun t => s.advanceTo t) ∧ f = (u.cust.fresh + 1) % 2 ^ 64 ∧ h = u.fld F.ACC_GATE_MSG_ID g ∧ b = (if u.bit F.ACC_STAT_GATES 0
      g then 1 else 0) + 2 * g + 16 * (if u.bit F.ACC_STAT_GATES 0 g then (u.gatec g).zone else 15) ∧ v = u.setCust
      { u.cust with fresh := f, freshNvm := if f % 65536 = 0 then f else u.cust.freshNvm }) ∧
    (∃ (s : State) (p : Fin 8) (n : Nat) (v : State), s.awake = true ∧ s.sdoOn p = true ∧ s.mode' = 6 ∧ n ≤ 8 ∧ v = (s.sessSweep.authUnlock).setXfer
      p none ∧ 2 ≤ v.levelOf (.sdo p)) ∧
    (∃ (s : State) (p : Fin 8) (v : State), s.awake = true ∧ s.sdoOn p = true ∧ s.mode' ≠ 6 ∧ s.mode' ≠ 7 ∧ v = (s.sessSweep.authUnlock).setXfer p
      none ∧ 2 ≤ v.levelOf (.sdo p)) ∧
    (∃ (s : State) (z t : Nat) (b : Bool) (v : State), s.awake = true ∧ s.acc.learn = some (z, t, b) ∧ v = s.advanceTo (t + sec 60)) ∧
    (∃ (s : State), s.awake = true ∧ s.acc.learn = none) ∧
    (∃ (s : State) (p : Fin 8) (b : List Byte) (y : LfBurst) (v : State) (x : State × Nat), s.awake = true ∧ s.sdoOn p = true ∧ s.mode' ≠ 7 ∧ v =
      (s.sessSweep.authUnlock).setXfer p none ∧ 2 ≤ v.levelOf (.sdo p) ∧ x = v.enrolWrite true b ∧ 4 < b.length ∧ x.2 = 0) ∧
    (∃ (s : State) (p : Fin 8) (b : List Byte) (y : LfBurst) (v : State) (x : State × Nat), s.awake = true ∧ s.sdoOn p = true ∧ s.mode' ≠ 7 ∧ v =
      (s.sessSweep.authUnlock).setXfer p none ∧ 2 ≤ v.levelOf (.sdo p) ∧ x = v.enrolWrite true b ∧ b.length ≠ 0 ∧ x.2 ≠ 0) ∧
    (∃ (s : State) (start : Nat) (b : List Byte) (bitmap : Byte) (c : Cycle) (r : Reply) (e : Enrol) (n : Nat) (v : State), s.awake = true ∧
      s.accRuns = true ∧ s.acc.cyc = some c ∧ c.kind = .assign ∧ c.parse start b = some r ∧ v = s.advanceTo (c.chalEnd + us (start + if r.ver = 1
      then 8400 else 10000)) ∧ v.acc.enrol = some e ∧ e.id = r.id ∧ n = (if bitOf bitmap.toNat 1 then 2 else 1) ∧ (bitOf bitmap.toNat 0 || bitOf
      bitmap.toNat 1) = true) ∧
    (∃ (s : State) (start : Nat) (b : List Byte) (bitmap : Byte) (c : Cycle) (r : Reply) (e : Enrol) (v : State), s.awake = true ∧ s.accRuns = true
      ∧ s.acc.cyc = some c ∧ c.kind = .assign ∧ c.parse start b = some r ∧ v = s.advanceTo (c.chalEnd + us (start + if r.ver = 1 then 8400 else
      10000)) ∧ v.acc.enrol = some e ∧ e.id = r.id ∧ (bitOf bitmap.toNat 0 || bitOf bitmap.toNat 1) = false) ∧
    (∃ (s : State) (e : Enrol) (v : State), s.awake = true ∧ s.acc.enrol = some e ∧ v = s.advanceTo (e.start + sec 30) ∧ v.acc.enrol = some e) ∧
    (∃ (s : State), s.awake = true ∧ s.acc.enrol = none) ∧
    (∃ (s : State) (p : Fin 8) (i : Fin 16) (v w : State), s.awake = true ∧ s.sdoOn p = true ∧ s.mode' ≠ 7 ∧ v = (s.sessSweep.authUnlock).setXfer p
      none ∧ 2 ≤ v.levelOf (.sdo p) ∧ (v.slotc i).occ = true ∧ v.acc.deny.length < 64 ∧ w = v.setAcc
      { v.acc with deny := v.acc.deny ++ [(v.slotc i).id] }) ∧
    (∃ (s : State) (p : Fin 8) (i : Fin 16) (v : State), s.awake = true ∧ s.sdoOn p = true ∧ s.mode' ≠ 7 ∧ v = (s.sessSweep.authUnlock).setXfer p
      none ∧ 2 ≤ v.levelOf (.sdo p) ∧ (v.slotc i).occ = true ∧ 64 ≤ v.acc.deny.length) ∧
    (∃ (s : State) (p : Fin 8) (i : Fin 16) (v : State), s.awake = true ∧ s.sdoOn p = true ∧ s.mode' ≠ 7 ∧ v = (s.sessSweep.authUnlock).setXfer p
      none ∧ 2 ≤ v.levelOf (.sdo p) ∧ (v.slotc i).occ = false) ∧
    (∃ (s : State) (p : Fin 8) (v : State), s.awake = true ∧ s.sdoOn p = true ∧ s.mode' ≠ 7 ∧ v = (s.sessSweep.authUnlock).setXfer p none ∧
      v.levelOf (.sdo p) = 3 ∧ v.cust.lc = 4 ∧ v.cust.safe = false) ∧
    (∃ (s : State) (p : Fin 8) (v : State), s.awake = true ∧ s.sdoOn p = true ∧ s.mode' ≠ 7 ∧ v = (s.sessSweep.authUnlock).setXfer p none ∧
      v.levelOf (.sdo p) = 3 ∧ (v.cust.lc ≠ 4 ∨ v.cust.safe = true)) ∧
    (∃ (s : State) (ma a : Nat) (v : State), s.mode' = 1 ∧ s.flag F.ACC_CTRL_WATCH_EN = true ∧ s.accRuns = true ∧ nextAerial (s.fld F.ACC_AER_WATCH)
      s.acc.turn = some a ∧ v = s.acc.watchAt.elim s (fun t => s.advanceTo (t + ms 250))) ∧
    (∃ (s : State) (ma : Nat), (s.mode' ≠ 1 ∨ s.flag F.ACC_CTRL_WATCH_EN = false ∨ s.accRuns = false ∨ nextAerial (s.fld F.ACC_AER_WATCH) s.acc.turn
      = none)) ∧
    (∃ (s : State) (b : List Byte) (after : Nat) (boot : BootIn), s.watchOk b after = true) ∧
    (∃ (s : State) (b : List Byte) (after : Nat) (boot : BootIn), s.watchOk b after = false) := by
  refine ⟨?_, ?_, ?_, ?_, ?_, ?_, ?_, ?_, ?_, ?_, ?_, ?_, ?_, ?_, ?_, ?_, ?_, ?_, ?_, ?_, ?_, ?_, ?_, ?_⟩
  · exact ⟨tGate 0, 7, _, by decide, by decide, rfl, by decide⟩
  · exact ⟨(tGate 1).setFlag F.ACC_GATE_HOLD_HOLD_INV 7, 7, _, by decide, by decide, rfl, by decide⟩
  · exact ⟨tOn 4, 7, by decide⟩
  · exact ⟨tGate 0, 7, by decide⟩
  · exact ⟨tRel, 7, _, _, _, _, [1], _, _, by decide, rfl, by decide, by decide, by decide, by decide, by decide, rfl, rfl, rfl, rfl, rfl⟩
  · exact ⟨tSdoM 6 2, 0, 8, _, by decide, by decide, by decide, by decide, rfl, by decide⟩
  · exact ⟨tSdoM 3 2, 0, _, by decide, by decide, by decide, by decide, rfl, by decide⟩
  · exact ⟨tAcc { learn := some (7, 0, true) }, 7, 0, true, _, by decide, by decide, rfl⟩
  · exact ⟨tOn 4, by decide⟩
  · exact ⟨tEnr, 0, tEnrRec, {}, _, _, by decide, by decide, by decide, rfl, by decide, rfl, by decide, by decide +kernel⟩
  · exact ⟨tSdoM 3 2, 0, List.replicate 39 0, {}, _, _, by decide, by decide, by decide, rfl, by decide, rfl, by decide, by decide +kernel⟩
  · exact ⟨tAsg, 300, tRep0, 3, tCycle .assign, tReply 0 5, ⟨15, false, 5, [], 0, none⟩, _, _, by decide, by decide, by decide, by decide, by
    decide +kernel, rfl, by decide, by decide, rfl, by decide⟩
  · exact ⟨tAsg, 300, tRep0, 4, tCycle .assign, tReply 0 5, ⟨15, false, 5, [], 0, none⟩, _, by decide, by decide, by decide, by decide, by
    decide +kernel, rfl, by decide, by decide, by decide⟩
  · exact ⟨tAcc { enrol := some ⟨15, false, 5, [], 0, none⟩ }, ⟨15, false, 5, [], 0, none⟩, _, by decide, by decide, rfl, by decide⟩
  · exact ⟨tOn 4, by decide⟩
  · exact ⟨tPairIn 2, 0, 15, _, _, by decide, by decide, by decide, rfl, by decide, by decide, by decide, rfl⟩
  · exact ⟨(tPairIn 2).setAcc { (tPairIn 2).acc with deny := List.range 64 }, 0, 15, _, by decide, by decide, by decide, rfl, by decide, by decide,
    by decide⟩
  · exact ⟨tPairIn 2, 0, 14, _, by decide, by decide, by decide, rfl, by decide, by decide⟩
  · exact ⟨(tPairIn 3).setCust { lc := 4 }, 0, _, by decide, by decide, by decide, rfl, by decide, by decide, by decide⟩
  · exact ⟨tPairIn 3, 0, _, by decide, by decide, by decide, rfl, by decide, by decide⟩
  · exact ⟨tWatch, 100, 5, _, by decide, by decide, by decide, by decide, rfl⟩
  · exact ⟨tOn 4, 100, by decide⟩
  · exact ⟨tWatch, tWatchRep, 5000, {}, by decide +kernel⟩
  · exact ⟨tWatch, tWatchRep, 5001, {}, by decide +kernel⟩

/-- Hypotheses of `Obligations.KeysAndLifecycle`, clause by clause. -/
theorem witness_keys_and_lifecycle :
    (∃ (s : State) (p : Fin 8) (b : List Byte) (v : State) (x : State × Nat), s.awake = true ∧ s.sdoOn p = true ∧ s.mode' ≠ 7 ∧ v =
      (s.sessSweep.authUnlock).setXfer p none ∧ (v.levelOf (.sdo p) = 3 ∨ v.cust.lc = 1 ∧ v.key 6 = none) ∧ x = v.keyRecord (v.facOf (.sdo p)) b ∧ 4
      < b.length) ∧
    (∃ (s : State) (p : Fin 8) (b : List Byte) (k : Nat) (u y : List Byte) (v : State), s.awake = true ∧ s.sdoOn p = true ∧ s.mode' ≠ 7 ∧ v =
      (s.sessSweep.authUnlock).setXfer p none ∧ v.cust.lc = 1 ∧ v.key 6 = none ∧ v.cust.safe = false ∧ v.cust.bad = [] ∧ k = leNat (b.take 1) ∧ (k =
      8 ∧ b.length = 25 ∨ k ≠ 8 ∧ 4 ≤ k ∧ k ≤ 9 ∧ b.length = 41) ∧ v.key 3 = some u ∧ keyUnwrap u (b.drop 1) = some y) ∧
    (∃ (s : State) (p : Fin 8) (v w : State), s.awake = true ∧ s.sdoOn p = true ∧ s.mode' ≠ 7 ∧ v = s.sessSweep.authUnlock ∧ v.xferOf p = none ∧ (2
      ≤ v.levelOf (.sdo p)) ∧ w = (((v.setXfer p none).lcNonce).2).sessTouch (.sdo p)) ∧
    (∃ (s : State) (p : Fin 8) (b : List Byte) (v : State) (x : State × Nat), s.awake = true ∧ s.sdoOn p = true ∧ s.mode' ≠ 7 ∧ v =
      (s.sessSweep.authUnlock).setXfer p none ∧ 2 ≤ v.levelOf (.sdo p) ∧ x = v.lcRequest true (v.facOf (.sdo p)) b ∧ x.2 = 0 ∧ 4 < b.length) ∧
    (∃ (s : State) (p : Fin 8) (b : List Byte) (v : State) (x : State × Nat), s.awake = true ∧ s.sdoOn p = true ∧ s.mode' ≠ 7 ∧ v =
      (s.sessSweep.authUnlock).setXfer p none ∧ 2 ≤ v.levelOf (.sdo p) ∧ x = v.lcRequest true (v.facOf (.sdo p)) b ∧ x.2 ≠ 0 ∧ b.length ≠ 0) ∧
    (∃ (s : State) (p : Fin 8) (b : List Byte) (v w : State), s.awake = true ∧ s.sdoOn p = true ∧ s.mode' ≠ 7 ∧ v = (s.sessSweep.authUnlock).setXfer
      p none ∧ 2 ≤ v.levelOf (.sdo p) ∧ (s.mode' ≠ 3 ∨ v.fld F.BERTH_STAT_STATE ≠ 1 ∨ v.fld F.BERTH_VKEEP_VSRC ≤ v.vwarn ∨ v.cust.safe = true ∨
      v.lcListed true (v.facOf (.sdo p)) (leNat (b.take 1)) = false) ∧ w = v.setCust { v.cust with nonce := none } ∧ b.length ≠ 0) ∧
    (∃ (s : State), s.awake = true ∧ s.cust.safe = false ∧ (s.cust.dbg.wake = false ∨ s.mode' ≠ 2)) ∧
    (∃ (s : State), (s.cust.safe = true ∨ s.awake = false ∨ s.cust.dbg.wake = true ∧ s.mode' = 2)) ∧
    (∃ (s : State) (l : Fin 4) (b : List Byte) (v : State), v = s.setDbg { s.cust.dbg with nonce := none } ∧ (s.cust.dbg.nonce.any (fun x => decide
      (s.now < x.2 + sec 10)) = false ∨ s.cust.dbg.lock.isSome = true ∨ s.cust.safe = true ∨ s.cust.dbg.enabled = false ∨ l.val = 0 ∨ l.val = 3)) ∧
    (∃ (s : State) (l : Fin 4) (b n : List Byte) (t : Nat) (v : State), s.cust.dbg.nonce = some (n, t) ∧ s.cust.dbg.lock = none ∧ s.cust.safe =
      false ∧ s.cust.dbg.enabled = true ∧ s.now < t + sec 10 ∧ (l.val = 1 ∨ l.val = 2) ∧ v = (s.setDbg { s.cust.dbg with nonce := none }).keyUsed
      s.dbgKey ∧ v.signOk v.dbgKey (n ++ serialBytes ++ leBytes 1 v.cust.lc ++ leBytes 1 l) b = false ∧ s.cust.dbg.fails < 2) ∧
    (∃ (s : State) (l : Fin 4) (b n : List Byte) (t : Nat) (v : State), s.cust.dbg.nonce = some (n, t) ∧ s.cust.dbg.lock = none ∧ s.cust.safe =
      false ∧ s.cust.dbg.enabled = true ∧ s.now < t + sec 10 ∧ (l.val = 1 ∨ l.val = 2) ∧ v = (s.setDbg { s.cust.dbg with nonce := none }).keyUsed
      s.dbgKey ∧ v.signOk v.dbgKey (n ++ serialBytes ++ leBytes 1 v.cust.lc ++ leBytes 1 l) b = false ∧ 2 ≤ s.cust.dbg.fails) ∧
    (∃ (s : State) (l : Fin 4) (b n : List Byte) (t : Nat) (v w : State), s.cust.dbg.nonce = some (n, t) ∧ s.cust.dbg.lock = none ∧ s.cust.safe =
      false ∧ s.cust.dbg.enabled = true ∧ s.now < t + sec 10 ∧ (l.val = 1 ∨ l.val = 2) ∧ v = (s.setDbg { s.cust.dbg with nonce := none }).keyUsed
      s.dbgKey ∧ w = v.setDbg { v.cust.dbg with fails := 0 }) ∧
    (∃ (s : State) (boot : BootIn) (v : State), s.awake = false ∧ v = s.wakeUp 14 0 [] boot) ∧
    (∃ (s : State) (boot : BootIn), s.awake = true) ∧
    (∃ (s : State), s.cust.dbg.granted = 0 ∧ s.cust.dbg.service = false) ∧
    (∃ (s : State), s.cust.dbg.granted ≠ 0 ∧ s.cust.dbg.service = false) ∧
    (∃ (s : State) (p : Fin 8) (v : State), s.awake = true ∧ s.sdoOn p = true ∧ s.mode' = 3 ∧ v = (s.sessSweep.authUnlock).setXfer p none ∧
      v.levelOf (.sdo p) = 3) ∧
    (∃ (s : State) (t : Nat) (v : State), s.cust.dbg.lock = some t ∧ v = s.advanceTo t) ∧
    (∃ (s : State), s.cust.dbg.lock = none) := by
  refine ⟨?_, ?_, ?_, ?_, ?_, ?_, ?_, ?_, ?_, ?_, ?_, ?_, ?_, ?_, ?_, ?_, ?_, ?_, ?_⟩
  · exact ⟨tSdoM 3 3, 0, List.replicate 41 4, _, _, by decide, by decide, by decide, rfl, .inl (by decide), rfl, by decide⟩
  · exact ⟨tKeyIn, 0, tKeyRec, 8, (List.range 16).map (BitVec.ofNat 8), (beBytes 16 0x00112233445566778899AABBCCDDEEFF), _, by decide, by decide, by
    decide, rfl, by decide +kernel, by decide +kernel, by decide +kernel, by decide +kernel, by decide +kernel, .inl (by decide +kernel), by
    decide +kernel, by decide +kernel⟩
  · exact ⟨tSdoM 3 2, 0, _, _, by decide, by decide, by decide, rfl, by decide, by decide, rfl⟩
  · exact ⟨tLc, 0, [2, 0, 0, 0, 0], _, _, by decide, by decide, by decide, rfl, by decide, rfl, by decide, by decide⟩
  · exact ⟨tLc, 0, [4, 0, 0, 0, 0], _, _, by decide, by decide, by decide, rfl, by decide, rfl, by decide, by decide⟩
  · exact ⟨tSdoM 4 2, 0, [1], _, _, by decide, by decide, by decide, rfl, by decide, .inl (by decide), rfl, by decide⟩
  · exact ⟨tOn 4, by decide⟩
  · exact ⟨(tOn 4).setCust { safe := true }, by decide⟩
  · exact ⟨tOn 4, 1, [7], _, rfl, .inl (by decide)⟩
  · exact ⟨tDbg 1, 2, [], [7], 0, _, by decide, by decide, by decide, by decide, by decide, by decide, rfl, by decide, by decide⟩
  · exact ⟨tDbg 2, 2, [], [7], 0, _, by decide, by decide, by decide, by decide, by decide, by decide, rfl, by decide, by decide⟩
  · exact ⟨tDbg 0, 1, [], [7], 0, _, _, by decide, by decide, by decide, by decide, by decide, by decide, rfl, rfl⟩
  · exact ⟨tOn 0, {}, _, by decide, rfl⟩
  · exact ⟨tOn 4, {}, by decide⟩
  · exact ⟨tOn 4, by decide⟩
  · exact ⟨{ tOn 4 with cust := { dbg := { granted := 2, level := 2, mode := 4 } } }, by decide⟩
  · exact ⟨tSdoM 3 3, 0, _, by decide, by decide, by decide, rfl, by decide⟩
  · exact ⟨{ tOn 4 with cust := { dbg := { lock := some 9 } } }, 9, _, by decide, rfl⟩
  · exact ⟨tOn 4, by decide⟩

/-- Hypotheses of `Obligations.Mailboxes`, clause by clause. -/
theorem witness_mailboxes :
    (∃ (s : State) (a : Acc) (m : Fin 2) (r : Reg), r = mbxCmd m ∧ s.granted a r (0) ∧ s.mbxBarred m (s.who a).code = false) ∧
    (∃ (s : State) (a : Acc) (m : Fin 2) (r : Reg), r = mbxCmd m ∧ s.granted a r (0) ∧ s.mbxBarred m (s.who a).code = true) ∧
    (∃ (s : State) (a : Acc) (m : Fin 2) (r : Reg), r = mbxCmd m ∧ s.granted a r (0) ∧ s.mbxBarred m (s.who a).code = false) ∧
    (∃ (s : State) (a : Acc) (m : Fin 2) (r : Reg), r = mbxCmd m ∧ s.granted a r (0) ∧ s.mbxBarred m (s.who a).code = false) ∧
    (∃ (s : State) (a : Acc) (m : Fin 2) (r : Reg), r = mbxCmd m ∧ s.granted a r (0) ∧ s.mbxBarred m (s.who a).code = false) ∧
    (∃ (s : State) (a : Acc) (m : Fin 2) (r : Reg), r = mbxCmd m ∧ s.granted a r (0) ∧ s.mbxBarred m (s.who a).code = false) ∧
    (∃ (s : State) (a : Acc) (m : Fin 2) (r : Reg), r = mbxCmd m ∧ s.granted a r (0) ∧ s.mbxBarred m (s.who a).code = false) ∧
    (∃ (s : State) (a : Acc) (m : Fin 2) (r : Reg), r = mbxCmd m ∧ s.granted a r (0) ∧ s.mbxBarred m (s.who a).code = true) ∧
    (∃ (s : State) (a : Acc) (m : Fin 2) (r : Reg), r = mbxCmd m ∧ s.granted a r (0) ∧ s.mbxBarred m (s.who a).code = true) ∧
    (∃ (s : State) (a : Acc) (m : Fin 2) (r : Reg), r = mbxCmd m ∧ s.granted a r (0) ∧ s.mbxBarred m (s.who a).code = true) ∧
    (∃ (s : State) (a : Acc) (m : Fin 2) (r : Reg), r = mbxCmd m ∧ s.granted a r (0) ∧ s.mbxBarred m (s.who a).code = true) ∧
    (∃ (s : State) (a : Acc) (m : Fin 2) (r : Reg), r = mbxCmd m ∧ s.granted a r (0) ∧ s.mbxBarred m (s.who a).code = true) ∧
    (∃ (s : State) (m : Fin 2), s.awake = true ∧ (s.mbx m).op = none) ∧
    (∃ (s : State) (m : Fin 2) (key len : Nat) (v : State), s.awake = true ∧ (s.mbx m).op = some (0x01, key, len) ∧ s.cust.safe = false ∧ 1 ≤ len ∧
      len ≤ 256 ∧ v = (((s.trng len).2.setMbx m { s.mbx m with op := none }).mbxOut m (Config.trng s.free len)).setFlag (mbxFld m
      F.CUST_MBX0_STAT_BUSY) 0 false ∧ (s.trng len).2.mbx m = s.mbx m) ∧
    (∃ (s : State) (m : Fin 2) (key len : Nat) (v : State), s.awake = true ∧ (s.mbx m).op = some (0x02, key, len) ∧ s.cust.safe = false ∧ 1 ≤ len ∧
      len ≤ 256 ∧ v = ((s.setMbx m { s.mbx m with op := none }).mbxOut m (sha256 (s.mbxIn m len))).setFlag (mbxFld m F.CUST_MBX0_STAT_BUSY) 0 false) ∧
    (∃ (s : State) (m : Fin 2) (op key len : Nat) (k o : List Byte) (v : State), s.awake = true ∧ m = 1 ∧ (s.mbx m).op = some (op, key, len) ∧
      s.cust.safe = false ∧ 1 ≤ len ∧ len ≤ 256 ∧ s.key key = some k ∧ (op = 0x10 ∧ (key = 9 ∨ (4 ≤ key ∧ key ≤ 7)) ∧ o = hmacSha256 k (s.mbxIn m
      len) ∨ op = 0x11 ∧ key = 10 ∧ o = aesCmac k (s.mbxIn m len) ∨ op = 0x12 ∧ len = 16 ∧ 11 ≤ key ∧ key ≤ 26 ∧ o = aes128 k (s.mbxIn m 16)) ∧ v =
      ((s.setMbx m { s.mbx m with op := none }).mbxOut m o).setFlag (mbxFld m F.CUST_MBX0_STAT_BUSY) 0 false) ∧
    (∃ (s : State) (m : Fin 2) (op key len : Nat) (v : State), s.awake = true ∧ (s.mbx m).op = some (op, key, len) ∧ s.cust.safe = false ∧ (len = 0
      ∨ 256 < len) ∧ v = ((s.setMbx m { s.mbx m with op := none }).mbxOut m []).setFlag (mbxFld m F.CUST_MBX0_STAT_BUSY) 0 false) ∧
    (∃ (s : State) (m : Fin 2) (op key len : Nat) (x : State × List Byte × Nat) (v : State), s.awake = true ∧ (s.mbx m).op = some (op, key, len) ∧ x
      = s.mbxRun m op key len ∧ v = ((x.1.setMbx m { x.1.mbx m with op := none }).mbxOut m x.2.1).setFlag (mbxFld m F.CUST_MBX0_STAT_BUSY) 0 false) ∧
    (∃ (s : State) (m : Fin 2) (op key len : Nat), s.awake = true ∧ (s.mbx m).op = some (op, key, len) ∧ s.cust.safe = true) ∧
    (∃ (s : State) (m : Fin 2) (op key len : Nat), s.awake = true ∧ (s.mbx m).op = some (op, key, len) ∧ (s.cust.safe = false ∧ 1 ≤ len ∧ len ≤ 256
      ∧ (op = 0 ∨ 0x12 < op ∨ 0x10 ≤ op ∧ m = 0 ∨ op = 0x03 ∧ 2 < key ∨ op = 0x11 ∧ key ≠ 10))) ∧
    (∃ (s : State) (m : Fin 2) (op key len : Nat), s.awake = true ∧ (s.mbx m).op = some (op, key, len) ∧ (s.cust.safe = false ∧ 1 ≤ len ∧ len ≤ 256
      ∧ (op = 0x03 ∧ key ≤ 2 ∧ len ≠ 96 ∨ op = 0x12 ∧ m = 1 ∧ len ≠ 16))) ∧
    (∃ (s : State) (a : Acc) (m : Fin 2) (r : Reg), r = mbxStat m ∧ s.granted a r (0) ∧ s.mbxBarred m (s.who a).code = false) ∧
    (∃ (s : State) (a : Acc) (m : Fin 2) (r : Reg), r = mbxStat m ∧ s.granted a r (0) ∧ s.mbxBarred m (s.who a).code = true) ∧
    (∃ (s : State), s.awake = true) := by
  refine ⟨?_, ?_, ?_, ?_, ?_, ?_, ?_, ?_, ?_, ?_, ?_, ?_, ?_, ?_, ?_, ?_, ?_, ?_, ?_, ?_, ?_, ?_, ?_, ?_⟩
  · exact ⟨tOn 4, tCpu, 1, .CUST_MBX1_CMD, by unfold State.granted; decide⟩
  · exact ⟨tMbx 0x01 0 5, tCpu, 1, .CUST_MBX1_CMD, by unfold State.granted; decide⟩
  · exact ⟨tOn 4, tCpu, 0, .CUST_MBX0_CMD, by unfold State.granted; decide⟩
  · exact ⟨tOn 4, tCpu, 0, .CUST_MBX0_CMD, by unfold State.granted; decide⟩
  · exact ⟨tOn 4, tCpu, 1, .CUST_MBX1_CMD, by unfold State.granted; decide⟩
  · exact ⟨tOn 4, tCpu, 1, .CUST_MBX1_CMD, by unfold State.granted; decide⟩
  · exact ⟨tOn 4, tCpu, 1, .CUST_MBX1_CMD, by unfold State.granted; decide⟩
  · exact ⟨tMbx 0x01 0 5, tCpu, 1, .CUST_MBX1_CMD, by unfold State.granted; decide⟩
  · exact ⟨tMbx 0x01 0 5, tCpu, 1, .CUST_MBX1_CMD, by unfold State.granted; decide⟩
  · exact ⟨tMbx 0x01 0 5, tCpu, 1, .CUST_MBX1_CMD, by unfold State.granted; decide⟩
  · exact ⟨tMbx 0x01 0 5, tCpu, 1, .CUST_MBX1_CMD, by unfold State.granted; decide⟩
  · exact ⟨tMbx 0x01 0 5, tCpu, 1, .CUST_MBX1_CMD, by unfold State.granted; decide⟩
  · exact ⟨tOn 4, 1, by decide⟩
  · exact ⟨tMbx 0x01 0 5, 1, 0, 5, _, by decide, by decide, by decide, by decide, by decide, rfl, rfl⟩
  · exact ⟨tMbx 0x02 0 5, 1, 0, 5, _, by decide, by decide, by decide, by decide, by decide, rfl⟩
  · exact ⟨tMbxK, 1, 0x10, 7, 5, [1], hmacSha256 [1] (tMbxK.mbxIn 1 5), _, by decide, by decide, by decide, by decide, by decide, by decide, by
    decide, .inl ⟨rfl, .inr (by decide), rfl⟩, rfl⟩
  · exact ⟨tMbx 0x02 0 0, 1, 2, 0, 0, _, by decide, by decide, by decide, by decide, rfl⟩
  · exact ⟨tMbx 0x11 9 5, 1, 0x11, 9, 5, _, _, by decide, by decide, rfl, rfl⟩
  · exact ⟨{ tMbx 0x02 0 5 with cust := { (tMbx 0x02 0 5).cust with safe := true } }, 1, 2, 0, 5, by decide⟩
  · exact ⟨tMbx 0x11 9 5, 1, 0x11, 9, 5, by decide⟩
  · exact ⟨tMbx 0x12 11 5, 1, 0x12, 11, 5, by decide⟩
  · exact ⟨tMbx 0x02 0 0, { m := .cpuB, sec := true }, 0, .CUST_MBX0_STAT, by unfold State.granted; decide⟩
  · exact ⟨tMbx 0x02 0 0, tCpu, 1, .CUST_MBX1_STAT, by unfold State.granted; decide⟩
  · exact ⟨tOn 4, by decide⟩

/-- Hypotheses of `Obligations.UpdateAndResoling`, clause by clause. -/
theorem witness_update_and_resoling :
    (∃ (s : State) (p : Fin 8) (b : List Byte) (v : State), s.awake = true ∧ s.sdoOn p = true ∧ v = (s.sessSweep.authUnlock).setXfer p none ∧
      (s.mode' = 7 ∨ 2 ≤ v.levelOf (.sdo p)) ∧ (v.updOpen = false ∨ v.flag F.SYS_LOAD_C6_DEFER = true) ∧ b.length ≠ 0) ∧
    (∃ (s : State) (p : Fin 8) (b : List Byte) (v : State), s.awake = true ∧ s.sdoOn p = true ∧ v = (s.sessSweep.authUnlock).setXfer p none ∧
      (s.mode' = 7 ∨ 2 ≤ v.levelOf (.sdo p)) ∧ v.updOpen = true ∧ v.flag F.SYS_LOAD_C6_DEFER = false ∧ b.length ≠ 0 ∧ (leNat (b.take 4) % 256 ≠ 0 ∨
      leNat ((b.drop 4).take 2) ≠ (b.drop 8).length ∨ (b.drop 8).length = 0 ∨ 1024 < (b.drop 8).length ∨ 4096 < leNat (b.take 4) % 4096 + (b.drop
      8).length ∨ crc16 (b.drop 8) ≠ leNat ((b.drop 6).take 2))) ∧
    (∃ (s : State) (p : Fin 8) (b : List Byte) (off : Nat) (d : List Byte) (v : State) (x : State × Nat), s.awake = true ∧ s.sdoOn p = true ∧ v =
      (s.sessSweep.authUnlock).setXfer p none ∧ (s.mode' = 7 ∨ 2 ≤ v.levelOf (.sdo p)) ∧ v.updOpen = true ∧ v.flag F.SYS_LOAD_C6_DEFER = false ∧ off
      = leNat (b.take 4) ∧ d = b.drop 8 ∧ (off % 256 = 0 ∧ leNat ((b.drop 4).take 2) = d.length ∧ 1 ≤ d.length ∧ d.length ≤ 1024 ∧ off % 4096 +
      d.length ≤ 4096 ∧ crc16 d = leNat ((b.drop 6).take 2)) ∧ off = 0 ∧ (d.length = 256 ∨ d.length = 512 ∨ d.length = 768 ∨ d.length = 1024) ∧ x =
      v.firstParcel d) ∧
    (∃ (s : State) (p : Fin 8) (b : List Byte) (off : Nat) (d : List Byte) (v : State), s.awake = true ∧ s.sdoOn p = true ∧ v =
      (s.sessSweep.authUnlock).setXfer p none ∧ (s.mode' = 7 ∨ 2 ≤ v.levelOf (.sdo p)) ∧ v.updOpen = true ∧ v.flag F.SYS_LOAD_C6_DEFER = false ∧ off
      = leNat (b.take 4) ∧ d = b.drop 8 ∧ (off % 256 = 0 ∧ leNat ((b.drop 4).take 2) = d.length ∧ 1 ≤ d.length ∧ d.length ≤ 1024 ∧ off % 4096 +
      d.length ≤ 4096 ∧ crc16 d = leNat ((b.drop 6).take 2)) ∧ (off = 0 ∧ d.length ≠ 256 ∧ d.length ≠ 512 ∧ d.length ≠ 768 ∧ d.length ≠ 1024 ∨ off ≠
      0 ∧ v.upd.head = none)) ∧
    (∃ (s : State) (p : Fin 8) (b : List Byte) (off : Nat) (d : List Byte) (v : State) (h : List Byte), s.awake = true ∧ s.sdoOn p = true ∧ v =
      (s.sessSweep.authUnlock).setXfer p none ∧ (s.mode' = 7 ∨ 2 ≤ v.levelOf (.sdo p)) ∧ v.updOpen = true ∧ v.flag F.SYS_LOAD_C6_DEFER = false ∧ off
      = leNat (b.take 4) ∧ d = b.drop 8 ∧ (off % 256 = 0 ∧ leNat ((b.drop 4).take 2) = d.length ∧ 1 ≤ d.length ∧ d.length ≤ 1024 ∧ off % 4096 +
      d.length ≤ 4096 ∧ crc16 d = leNat ((b.drop 6).take 2)) ∧ off ≠ 0 ∧ v.upd.head = some h ∧ (prefixLen h + hdrLength h < off + d.length ∨
      d.length ≠ 256 ∧ d.length ≠ 512 ∧ d.length ≠ 768 ∧ d.length ≠ 1024 ∧ off + d.length ≠ prefixLen h + hdrLength h)) ∧
    (∃ (s : State) (p : Fin 8) (b : List Byte) (off : Nat) (d : List Byte) (v : State) (h : List Byte) (x : State × Nat), s.awake = true ∧ s.sdoOn p
      = true ∧ v = (s.sessSweep.authUnlock).setXfer p none ∧ (s.mode' = 7 ∨ 2 ≤ v.levelOf (.sdo p)) ∧ v.updOpen = true ∧ v.flag F.SYS_LOAD_C6_DEFER
      = false ∧ off = leNat (b.take 4) ∧ d = b.drop 8 ∧ (off % 256 = 0 ∧ leNat ((b.drop 4).take 2) = d.length ∧ 1 ≤ d.length ∧ d.length ≤ 1024 ∧ off
      % 4096 + d.length ≤ 4096 ∧ crc16 d = leNat ((b.drop 6).take 2)) ∧ off ≠ 0 ∧ v.upd.head = some h ∧ off + d.length ≤ prefixLen h + hdrLength h ∧
      (d.length = 256 ∨ d.length = 512 ∨ d.length = 768 ∨ d.length = 1024 ∨ off + d.length = prefixLen h + hdrLength h) ∧ off < prefixLen h ∧ x =
      v.prefixParcel h off d) ∧
    (∃ (s : State) (p : Fin 8) (b : List Byte) (off : Nat) (d : List Byte) (v : State) (h : List Byte) (x : State × Nat), s.awake = true ∧ s.sdoOn p
      = true ∧ v = (s.sessSweep.authUnlock).setXfer p none ∧ (s.mode' = 7 ∨ 2 ≤ v.levelOf (.sdo p)) ∧ v.updOpen = true ∧ v.flag F.SYS_LOAD_C6_DEFER
      = false ∧ off = leNat (b.take 4) ∧ d = b.drop 8 ∧ (off % 256 = 0 ∧ leNat ((b.drop 4).take 2) = d.length ∧ 1 ≤ d.length ∧ d.length ≤ 1024 ∧ off
      % 4096 + d.length ≤ 4096 ∧ crc16 d = leNat ((b.drop 6).take 2)) ∧ off ≠ 0 ∧ v.upd.head = some h ∧ off + d.length ≤ prefixLen h + hdrLength h ∧
      (d.length = 256 ∨ d.length = 512 ∨ d.length = 768 ∨ d.length = 1024 ∨ off + d.length = prefixLen h + hdrLength h) ∧ prefixLen h ≤ off ∧ x =
      v.bodyParcel h off d) ∧
    (∃ (s : State), s.awake = true ∧ (s.upd.head = none ∨ s.nvmDeferred = true ∨ s.flag F.SYS_LOAD_C6_DEFER = true ∨ s.upd.whole = false ∧
      s.upd.ready = [])) ∧
    (∃ (s : State) (h p : List Byte), s.awake = true ∧ s.flag F.SYS_LOAD_C6_DEFER = false ∧ s.nvmDeferred = false ∧ s.upd.head = some h ∧
      s.upd.whole = true ∧ p = joinPieces (prefixLen h / 256) s.upd.gather) ∧
    (∃ (s : State) (h : List Byte), s.awake = true ∧ s.flag F.SYS_LOAD_C6_DEFER = false ∧ s.nvmDeferred = false ∧ s.upd.head = some h ∧ s.upd.whole
      = true) ∧
    (∃ (s : State) (h : List Byte) (b : Nat) (r : List Nat) (v : State), s.awake = true ∧ s.flag F.SYS_LOAD_C6_DEFER = false ∧ s.nvmDeferred = false
      ∧ s.upd.head = some h ∧ s.upd.whole = false ∧ s.upd.ready = b :: r ∧ v = s.setUpd { s.upd with ready := r, asm := Tbl.del s.upd.asm b }) ∧
    (∃ (s : State) (h d : List Byte) (b : Nat) (r : List Nat) (v w : State), s.awake = true ∧ s.flag F.SYS_LOAD_C6_DEFER = false ∧ s.nvmDeferred =
      false ∧ s.upd.head = some h ∧ s.upd.whole = false ∧ s.upd.ready = b :: r ∧ v = s.setUpd { s.upd with ready := r, asm := Tbl.del s.upd.asm b }
      ∧ d = pad4k (joinPieces ((blockLen h b + 255) / 256) ((lookup b s.upd.asm).getD [])) ∧ w = (v.setBytes (0x02010000 + 4096 * b) d).setUpd
      { v.upd with bitmap := b :: v.upd.bitmap }) ∧
    (∃ (s : State) (a : Acc) (key : Nat), s.granted a .UPD_CMD (0) ∧ s.updOpen = true ∧ key % 256 = 0xA5) ∧
    (∃ (s : State) (a : Acc) (key : Nat), s.granted a .UPD_CMD (0) ∧ (key % 256 ≠ 0xA5 ∨ s.updOpen = false)) ∧
    (∃ (s : State) (p : Fin 8) (v : State), s.awake = true ∧ s.sdoOn p = true ∧ v = (s.sessSweep.authUnlock).setXfer p none ∧ (s.mode' = 7 ∨ 2 ≤
      v.levelOf (.sdo p))) ∧
    (∃ (s : State) (a : Acc) (key : Nat), s.granted a .UPD_CMD (0) ∧ key % 256 = 0xA5 ∧ s.mode' = 3 ∧ s.serviceOpen = true ∧ s.complete = true ∧
      s.updState = 2 ∧ s.parked = true ∧ s.updSupply = true ∧ s.od.jobs = [] ∧ s.upd.marker = .idle) ∧
    (∃ (s : State) (a : Acc) (key c : Nat), s.granted a .UPD_CMD (0) ∧ (s.mode' ≠ 7 ∨ s.upd.head.isSome = true) ∧ c = (s.keyUsed 0).actCause (key %
      256 == 0xA5) ∧ c ≠ 0) ∧
    (∃ (s : State) (p : Fin 8) (key : Nat) (v x : State), s.awake = true ∧ s.sdoOn p = true ∧ v = (s.sessSweep.authUnlock).setXfer p none ∧ (s.mode'
      = 7 ∨ 2 ≤ v.levelOf (.sdo p)) ∧ (s.mode' ≠ 7 ∨ v.upd.head.isSome = true) ∧ x = v.keyUsed 0) ∧
    (∃ (s : State) (a : Acc) (key : Nat), s.granted a .UPD_CMD (0) ∧ s.mode' = 7 ∧ s.upd.head = none) ∧
    (∃ (s : State), s.awake = true ∧ (s.resoling = false ∨ s.upd.head = none ∨ s.mode' ≠ 2 ∨ s.nvmDeferred = true ∨ s.extracting = true)) ∧
    (∃ (s : State) (b : Nat) (h d : List Byte) (v : State), s.awake = true ∧ s.upd.marker = .resoling b ∧ s.upd.head = some h ∧ s.mode' = 2 ∧
      s.nvmDeferred = false ∧ s.extracting = false ∧ d = s.bytes (0x02010000 + 4096 * b) 4096 ∧ v = (s.erase (0x01040000 + 4096 * b) (0x01040000 +
      4096 * (b + 1))).setUpd { s.upd with runOk := false }) ∧
    (∃ (s : State) (c t : Nat) (v : State), s.awake = true ∧ s.upd.marker = .trial c ∧ s.upd.trialAt = some t ∧ (s.mode' = 3 ∨ s.mode' = 4 ∨ s.mode'
      = 6) ∧ v = s.advanceTo (t + sec s.trialTime)) ∧
    (∃ (s : State), s.awake = true ∧ (s.upd.marker = .idle ∨ s.resoling = true ∨ s.upd.trialAt = none ∨ (s.mode' ≠ 3 ∧ s.mode' ≠ 4 ∧ s.mode' ≠ 6))) ∧
    (∃ (s v : State), v = { s with pins := { s.pins with recov := true } }) := by
  refine ⟨?_, ?_, ?_, ?_, ?_, ?_, ?_, ?_, ?_, ?_, ?_, ?_, ?_, ?_, ?_, ?_, ?_, ?_, ?_, ?_, ?_, ?_, ?_, ?_⟩
  · exact ⟨{ tSdoM 4 2 with upd := { marker := .resoling 3 } }, 0, List.replicate 9 0, _, by decide, by decide, rfl, .inr (by decide), .inl (by
    decide), by decide⟩
  · exact ⟨tSdoM 4 2, 0, List.replicate 9 0, _, by decide, by decide, rfl, .inr (by decide), by decide, by decide, by decide, by decide⟩
  · exact ⟨tSdoM 4 2, 0, tPart 0, _, _, _, _, by decide, by decide, rfl, .inr (by decide), by decide +kernel, by decide +kernel, rfl, rfl,
    tPart_good (by decide) (by decide), by decide +kernel, by decide +kernel, rfl⟩
  · exact ⟨tSdoM 4 2, 0, tPart 256, _, _, _, by decide, by decide, rfl, .inr (by decide), by decide +kernel, by decide +kernel, rfl, rfl, tPart_good
    (by decide) (by decide), .inr (by decide +kernel)⟩
  · exact ⟨{ tSdoM 4 2 with upd := { head := some (List.replicate 192 0) } }, 0, tPart 0x400000, _, _, _, List.replicate 192 0, by decide, by
    decide, rfl, .inr (by decide), by decide +kernel, by decide +kernel, rfl, rfl, tPart_good (by decide) (by decide), by decide +kernel, by
    decide +kernel, .inl (by decide +kernel)⟩
  · exact ⟨tGath false, 0, tPart 256, _, _, _, tHead, _, by decide, by decide, rfl, .inr (by decide), by decide +kernel, by decide +kernel, rfl,
    rfl, tPart_good (by decide) (by decide), by decide +kernel, by decide +kernel, by decide +kernel, .inl (by decide +kernel), by decide +kernel,
    rfl⟩
  · exact ⟨tGath true, 0, tPart 36864, _, _, _, tHead, _, by decide, by decide, rfl, .inr (by decide), by decide +kernel, by decide +kernel, rfl,
    rfl, tPart_good (by decide) (by decide), by decide +kernel, by decide +kernel, by decide +kernel, .inl (by decide +kernel), by decide +kernel,
    rfl⟩
  · exact ⟨tOn 4, by decide⟩
  · exact ⟨tUpd { head := some tHead, whole := true }, tHead, _, by decide, by decide, by decide, rfl, by decide, rfl⟩
  · exact ⟨tUpd { head := some tHead, whole := true }, tHead, by decide, by decide, by decide, rfl, by decide⟩
  · exact ⟨tUpd { head := some tHead, ready := [1007] }, tHead, 1007, [], _, by decide, by decide, by decide, rfl, by decide, by decide, rfl⟩
  · exact ⟨tUpd { head := some tHead, ready := [1007] }, tHead, _, 1007, [], _, _, by decide, by decide, by decide, rfl, by decide, by decide, rfl,
    rfl, rfl⟩
  · exact ⟨tUpd { head := some tHead }, tCpu, 0xA5, by unfold State.granted; decide⟩
  · exact ⟨tUpd { head := some tHead }, tCpu, 0x5A, by unfold State.granted; decide⟩
  · exact ⟨tSdoM 4 2, 0, _, by decide, by decide, rfl, .inr (by decide)⟩
  · exact ⟨tAct, tCpu, 0xA5, by unfold State.granted; decide⟩
  · exact ⟨tOn 4, tCpu, 0xA5, _, by unfold State.granted; decide, .inl (by decide), rfl, by decide⟩
  · exact ⟨tAct, 0, 0, _, _, by decide, by decide, rfl, .inr (by decide), .inl (by decide), rfl⟩
  · exact ⟨tOn 7, tCpu, 0, by unfold State.granted; decide⟩
  · exact ⟨tOn 4, by decide⟩
  · exact ⟨tResol, 1007, tHead, _, _, by decide, by decide, rfl, by decide, by decide, by decide, rfl, rfl⟩
  · exact ⟨tUpd { marker := .trial 2, trialAt := some 0 }, 2, 0, _, by decide, by decide, by decide, by decide, rfl⟩
  · exact ⟨tOn 4, by decide⟩
  · exact ⟨tOn 0, _, rfl⟩
end

section
/-! Reading back what a write of bytes leaves in memory (R9), and what a granted 32-bit write of general RAM does (R42, R52). -/

namespace Sys2Proof.Machine

/-! ## Little-endian bytes (R9) -/

theorem leBytes_getElem {k j : Nat} (n : Nat) (h : j < (leBytes k n).length) : (leBytes k n)[j] = BitVec.ofNat 8 (n / 256 ^ j) := by
  induction k generalizing n j with
  | zero => simp [leBytes] at h
  | succ k ih =>
    cases j with
    | zero => simp [leBytes]
    | succ j =>
      simp only [leBytes, List.getElem_cons_succ]
      rw [ih, Nat.div_div_eq_div_mul, ← Nat.pow_succ']

/-- `k` little-endian bytes spell a number modulo `256 ^ k`. -/
theorem leBytes_mod (k n : Nat) : leBytes k (n % 256 ^ k) = leBytes k n := by
  induction k generalizing n with
  | zero => rfl
  | succ k ih =>
    have low : BitVec.ofNat 8 (n % (256 * 256 ^ k)) = BitVec.ofNat 8 n :=
      BitVec.eq_of_toNat_eq (Nat.mod_mul_right_mod n 256 (256 ^ k))
    rw [Nat.pow_succ', leBytes, leBytes, low, Nat.mod_mul_right_div_self, ih]

/-! ## Bytes and words of memory -/

@[simp] theorem State.setBytes_regs (s : State) (a : Nat) (l : List Byte) : (s.setBytes a l).regs = s.regs := by
  induction l generalizing s a with
  | nil => rfl
  | cons b r ih => exact ih _ _

theorem State.byte_setBytes_in (s : State) (a : Nat) (l : List Byte) {j : Nat} (h : j < l.length) :
    (s.setBytes a l).byte (a + j) = l[j] := by
  induction l generalizing s a j with
  | nil => exact absurd h (Nat.not_lt_zero j)
  | cons b r ih =>
    rw [State.setBytes]
    cases j with
    | zero => rw [State.byte_setBytes _ _ _ (by omega)]; exact State.byte_setByte_same s a b
    | succ j => rw [← Nat.add_assoc, Nat.add_right_comm]; exact ih _ _ _

@[simp] theorem State.setWord_regs (s : State) (a v : Nat) : (s.setWord a v).regs = s.regs := s.setBytes_regs a _

theorem State.byte_setWord_in (s : State) (a v : Nat) {j : Nat} (h : j < 4) :
    (s.setWord a v).byte (a + j) = BitVec.ofNat 8 (v / 256 ^ j) :=
  (s.byte_setBytes_in a (leBytes 4 v) h).trans (leBytes_getElem v h)

theorem State.byte_setWord_ne (s : State) {a x : Nat} (v : Nat) (h : x < a ∨ a + 4 ≤ x) : (s.setWord a v).byte x = s.byte x :=
  s.byte_setBytes a (leBytes 4 v) h

theorem State.setWord_ofNat (s : State) (a v : Nat) : s.setWord a (BitVec.ofNat 32 v).toNat = s.setWord a v :=
  congrArg (s.setBytes a) (leBytes_mod 4 v)

@[simp] theorem State.setBus_byte (s : State) (b : BusSt) (x : Nat) : (s.setBus b).byte x = s.byte x := rfl

@[simp] theorem State.dropHeld_mem (s : State) (c a : Nat) : (s.dropHeld c a).mem = s.mem := by
  obtain ⟨x, hx⟩ := s.dropHeld_eq c a
  rw [hx]

/-! ## A 32-bit write of general RAM (R42, R52) -/

theorem targetOf_generalRam {a : Nat} (h1 : 0x20000000 ≤ a) (h2 : a < 0x20400000) : targetOf a = .ram 1 := by
  have below (hi : Nat) (h : hi ≤ 0x20000000) (lo : Nat) : within lo hi a = false := by
    simp only [within, Bool.and_eq_false_iff, decide_eq_false_iff_not]; omega
  have inside : within 0x20000000 0x20400000 a = true := by simp [within, h1, h2]
  rw [targetOf, if_neg (by omega : ¬ a < 0x00020000), below 0x01040000 (by decide), below 0x01800000 (by decide),
    below 0x02400000 (by decide), below 0x03080000 (by decide), inside]
  rfl

/-- Nothing stops an aligned word write of general RAM by a privileged master that may write. -/
theorem State.stop_generalRam (s : State) {w : Who} {a : Nat} (hr : 1 ≤ w.rank) (ho : w.ro = false) (ha : a % 4 = 0) :
    s.stop w a 4 true (.ram 1) = none := by
  simp [State.stop, Target.key, Target.cls, Target.fullOnly, Who.may, hr, ho, ha]

/-- A write of all four lanes stores its data whole, whatever the word held before. -/
theorem State.writeAt_ram_word (s : State) (w : Who) {a : Nat} (c : Nat) (v : Word) (full : Bool) (ha : a % 4 = 0) :
    s.writeAt w a (.ram c) v (laneMask a 4) full = s.setWord a v.toNat := by
  have hw : a / 4 * 4 = a := by omega
  have merged (old : Word) : (old &&& ~~~(0xFFFFFFFF : Word)) ||| (v &&& 0xFFFFFFFF) = v := by
    rw [BitVec.and_comm v, ones_and, show ~~~(0xFFFFFFFF : Word) = 0#32 from rfl, BitVec.and_zero, BitVec.zero_or]
  rw [State.writeAt, hw, laneMask_word ha, merged]

/-- A granted word write of general RAM drops the low word that the master holds for another address (R55), stores the word and is
answered. -/
theorem State.busWrite_generalRam {s : State} {a : Acc} {x : Nat} (v : Nat) (hs : s.awake = true) (hm : (s.who a).mute = false)
    (hr : 1 ≤ (s.who a).rank) (ho : (s.who a).ro = false) (h1 : 0x20000000 ≤ x) (h2 : x < 0x20400000) (hx : x % 4 = 0) :
    s.busWrite a x v = (((s.dropHeld (s.who a).code x).setWord x v).answer (.ok 0)).1 := by
  have hw : x / 4 * 4 = x := by omega
  simp only [State.busWrite, State.busWho, hm, hs, Bool.not_true, Bool.or_false, Bool.false_eq_true, if_false, reduceCtorEq, Width.bytes,
    State.access, hw, targetOf_generalRam h1 h2, State.stop_generalRam _ hr ho hx, if_true, State.writeAt_ram_word _ _ _ _ _ hx,
    State.setWord_ofNat]

/-- Settles O4: the granted write is `State.setWord` at the address, whose bytes and frame are read off. -/
theorem busWriteOfRam : Obligations.BusWriteOfRam := by
  unfold Obligations.BusWriteOfRam
  intro s a k v j hs hm hr ho hk
  have hj := j.isLt
  refine ⟨s.busWrite a (0x20000000 + 4 * k) v, rfl, ?_⟩
  rw [State.busWrite_generalRam v hs hm hr ho (by omega) (by omega) (by omega), State.answer_fst]
  refine ⟨?_, fun y hy => ?_, ?_⟩
  · rw [State.setBus_byte, State.byte_setWord_in _ _ _ hj]
  · rw [State.setBus_byte, State.byte_setWord_ne _ _ (by omega)]
    exact State.byte_congr (s.dropHeld_mem _ _) y
  · rw [State.setBus_regs, State.setWord_regs, State.dropHeld_regs]

end Sys2Proof.Machine
end

section
/-! What shared operations leave that chapter 01 asks for: a field set beside another of its register, the frame of a state change, a
fault that is cleared, a full write that is accepted. -/

namespace Sys2Proof.Machine

/-! ## Fields of one register -/

/-- A word is cut by field `f` into what lies below it, the field, and what lies above it. -/
theorem Fld.word_cut (f : Fld) (w : Word) :
    w.toNat = 2 ^ (f.lsb + f.w) * (w.toNat / 2 ^ (f.lsb + f.w)) + (f.of w * 2 ^ f.lsb + w.toNat % 2 ^ f.lsb) := by
  have low := Nat.div_add_mod w.toNat (2 ^ f.lsb)
  have mid := Nat.div_add_mod (w.toNat / 2 ^ f.lsb) (2 ^ f.w)
  rw [Nat.div_div_eq_div_mul, ← pow_add] at mid
  calc w.toNat = 2 ^ f.lsb * (2 ^ f.w * (w.toNat / 2 ^ (f.lsb + f.w)) + f.of w) + w.toNat % 2 ^ f.lsb := by
        rw [Fld.of, mid, low]
    _ = _ := by rw [pow_add]; ring

/-- Replacing the field leaves the parts below and above it. -/
theorem Fld.into_cut {f : Fld} (hf : f.fits) (w : Word) (v : Nat) :
    (f.into w v).toNat = 2 ^ (f.lsb + f.w) * (w.toNat / 2 ^ (f.lsb + f.w)) + (v % 2 ^ f.w * 2 ^ f.lsb + w.toNat % 2 ^ f.lsb) := by
  have cut := f.word_cut w
  rw [Fld.into_toNat hf]
  omega

theorem Fld.into_above {f : Fld} (hf : f.fits) (w : Word) (v : Nat) :
    (f.into w v).toNat / 2 ^ (f.lsb + f.w) = w.toNat / 2 ^ (f.lsb + f.w) := by
  have small : v % 2 ^ f.w * 2 ^ f.lsb + w.toNat % 2 ^ f.lsb < 2 ^ (f.lsb + f.w) := by
    have hv : v % 2 ^ f.w < 2 ^ f.w := Nat.mod_lt _ (by positivity)
    have hm : w.toNat % 2 ^ f.lsb < 2 ^ f.lsb := Nat.mod_lt _ (by positivity)
    calc _ < (v % 2 ^ f.w + 1) * 2 ^ f.lsb := by rw [Nat.add_one_mul]; omega
      _ ≤ 2 ^ f.w * 2 ^ f.lsb := Nat.mul_le_mul_right _ hv
      _ = 2 ^ (f.lsb + f.w) := by rw [pow_add, Nat.mul_comm]
  rw [Fld.into_cut hf, Nat.mul_add_div (by positivity), Nat.div_eq_of_lt small, Nat.add_zero]

theorem Fld.into_below {f : Fld} (hf : f.fits) (w : Word) (v : Nat) : (f.into w v).toNat % 2 ^ f.lsb = w.toNat % 2 ^ f.lsb := by
  rw [Fld.into_cut hf, pow_add, Nat.mul_assoc, Nat.mul_add_mod, Nat.mul_add_mod', Nat.mod_mod]

/-- Replacing a field keeps every field that lies apart from it. -/
theorem Fld.of_into_apart {f g : Fld} (hf : f.fits) (h : f.apart g) (w : Word) (v : Nat) : g.of (f.into w v) = g.of w := by
  rcases h with above | below
  · have cut (n : Nat) : n / 2 ^ g.lsb = n / 2 ^ (f.lsb + f.w) / 2 ^ (g.lsb - (f.lsb + f.w)) := by
      rw [Nat.div_div_eq_div_mul, ← pow_add, Nat.add_sub_cancel' above]
    rw [Fld.of, Fld.of, cut, cut w.toNat, Fld.into_above hf]
  · have cut (n : Nat) : n / 2 ^ g.lsb % 2 ^ g.w = n % 2 ^ f.lsb / 2 ^ g.lsb % 2 ^ g.w := by
      obtain ⟨k, hk⟩ := Nat.exists_eq_add_of_le below
      rw [hk, pow_add, pow_add, Nat.mul_assoc, Nat.mod_mul_right_div_self, Nat.mod_mul_right_mod]
    rw [Fld.of, Fld.of, cut, cut w.toNat, Fld.into_below hf]

theorem State.flag_setFld_apart (s : State) {f g : Fld} (hr : f.reg = g.reg) (hf : f.fits) (h : f.apart g) (i v : Nat) :
    (s.setFld f i v).flag g i = s.flag g i := by
  rw [State.flag, State.flag, State.fld, State.fld, State.setFld, ← hr, State.rd_wr_same, Fld.of_into_apart hf h]

theorem State.flag_setFlag_apart (s : State) {f g : Fld} (hr : f.reg = g.reg) (hf : f.fits) (h : f.apart g) (i : Nat) (b : Bool) :
    (s.setFlag f i b).flag g i = s.flag g i := s.flag_setFld_apart hr hf h i _

/-! ## The frame of a state change -/

theorem State.sameBut_of_rd {s u : State} {l : List (Reg × Nat)} (hm : u.mem = s.mem)
    (hr : ∀ r i, (r, i) ∉ l → u.rd r i = s.rd r i) : s.sameBut u l := ⟨State.byte_congr hm, hr⟩

theorem State.sameBut_of_regs {s u : State} {l : List (Reg × Nat)} (hm : u.mem = s.mem) (hr : u.regs = s.regs) : s.sameBut u l :=
  State.sameBut_of_rd hm fun r i _ => State.rd_congr hr r i

theorem State.when_true (s : State) (f : State → State) : s.when true f = f s := rfl

theorem State.when_false (s : State) (f : State → State) : s.when false f = s := rfl

/-! ## A cleared fault, a cleared mismatch, an accepted write -/

/-- Of the journal's state a cleared fault changes the active faults, the queue of stamped entries and the suppressed counts. -/
theorem State.clearFault_jnl (s : State) (f : FaultId) (idx : Nat) :
    ∃ act pend supp, (s.clearFault f idx).jnl = { s.jnl with active := act, pend := pend, supp := supp } := by
  unfold State.clearFault
  split
  · exact ⟨_, _, _, rfl⟩
  · exact ⟨s.jnl.active, s.jnl.pend, s.jnl.supp, rfl⟩

/-- A cleared mismatch changes the parity record, and ends CFG_PARITY where it was the last cause. -/
theorem State.clearMismatch_cases (s : State) (k : Reg × Nat) :
    ∃ l, s.clearMismatch k = s.setPar l ∨ s.clearMismatch k = (s.setPar l).clearFault .CFG_PARITY (regBlock k.1 k.2) := by
  unfold State.clearMismatch State.parityJudge
  split
  · split
    · exact ⟨_, .inl rfl⟩
    · exact ⟨_, .inr rfl⟩
  · exact ⟨s.bus.par, .inl rfl⟩

theorem State.clearMismatch_regs (s : State) (k : Reg × Nat) : (s.clearMismatch k).regs = s.regs := by
  obtain ⟨l, h | h⟩ := s.clearMismatch_cases k
  · rw [h]; rfl
  · rw [h, State.clearFault_regs]; rfl

theorem State.clearMismatch_mem (s : State) (k : Reg × Nat) : (s.clearMismatch k).mem = s.mem := by
  obtain ⟨l, h | h⟩ := s.clearMismatch_cases k
  · rw [h]; rfl
  · rw [h, State.clearFault_mem]; rfl

theorem State.clearMismatch_err1003 (s : State) (k : Reg × Nat) : (s.clearMismatch k).jnl.err1003 = s.jnl.err1003 := by
  obtain ⟨l, h | h⟩ := s.clearMismatch_cases k
  · rw [h]; rfl
  · obtain ⟨act, pend, supp, hj⟩ := (s.setPar l).clearFault_jnl .CFG_PARITY (regBlock k.1 k.2)
    rw [h, hj]; rfl

end Sys2Proof.Machine
end

section
/-! The loss of a clock, of the reference, the overflow of a welt, and lockstep (R17 to R25): what each judgement does, said once. -/

namespace Sys2Proof.Machine

/-! ## Clocks and welts -/

theorem clkLost_of {thr : Nat} {dev : Int} {still : Nat} (h : thr < dev.natAbs ∨ 10000 ≤ still) : clkLost thr dev still = true := by
  simpa [clkLost] using h

/-- A valid clock that its judge finds lost takes the reaction of the domain table. -/
theorem exec_clkDomainLoss_lost {s : State} {d : ClkDom} {dev : Int} {still : Nat} (ha : s.awake = true) (hv : s.clkValid d = true)
    (hl : clkThr d < dev.natAbs ∨ 10000 ≤ still) : exec (.clkDomainLoss d dev still) s = .next (State.finish s (s.clkLoss d)) := by
  refine State.runOn_next rfl ha ?_
  rw [State.clkJudge, hv, clkLost_of hl]
  rfl

/-- The domains whose loss has no reaction of its own lead to Limp. -/
theorem State.clkLoss_limp (s : State) {d : ClkDom} (h : d ∈ [ClkDom.core, .fab, .per]) :
    s.clkLoss d = ((s.setBit F.CLK_STAT_LOCK 0 (clkBit d) false).raiseC .CLK_DOMAIN_LOSS 4 (clkBit d) [] 0).enterLimp .CLK_DOMAIN_LOSS := by
  simp only [List.mem_cons, List.not_mem_nil, or_false] at h
  rcases h with rfl | rfl | rfl <;> rfl

theorem State.clkValid_lock (s : State) {d : ClkDom} (h : d ∈ [ClkDom.core, .fab, .per]) :
    s.clkValid d = s.bit F.CLK_STAT_LOCK 0 (clkBit d) := by
  simp only [List.mem_cons, List.not_mem_nil, or_false] at h
  rcases h with rfl | rfl | rfl <;> rfl

theorem clkThr_limp {d : ClkDom} (h : d ∈ [ClkDom.core, .fab, .per]) : clkThr d = 20000 := by
  simp only [List.mem_cons, List.not_mem_nil, or_false] at h
  rcases h with rfl | rfl | rfl <;> rfl

theorem exec_clkRefLoss_lost {s : State} {dev : Int} {still : Nat} (ha : s.awake = true) (hv : s.bit F.CLK_STAT_LOCK 0 7 = true)
    (hl : 50000 < dev.natAbs ∨ 10000 ≤ still) : exec (.clkRefLoss dev still) s = .next (State.finish s s.clkRefLoss) := by
  refine State.runOn_next rfl ha ?_
  rw [State.refJudge, hv, clkLost_of hl]
  rfl

/-! ## Lockstep -/

/-- The restarts that lie within 60 s of now, a restart at this instant among them (R25). -/
def State.recentRestarts (s : State) : List Nat := (s.now :: s.clk.restarts).filter fun t => decide (s.now < t + sec 60)

/-- The other pair has mismatched within the last millisecond (R25). -/
def State.bothMismatch (s : State) (p : Pair) : Bool :=
  match s.lastMis (otherPair p) with
  | some t => decide (s.now < t + ms 1)
  | none => false

/-- A pair's restart is noted with its time (R23). -/
def State.noteRestart (s : State) : Pair → State
  | .A => { s with clk := { s.clk with aDown := some s.now, restarts := s.recentRestarts, aMis := some s.now } }
  | .B => { s with clk := { s.clk with bDown := some s.now, restarts := s.recentRestarts, bMis := some s.now } }

/-- The pair restarts on a mismatch, under the bollard's hold (R23, R24). -/
def State.pairRestart (s : State) (p : Pair) : State := ((s.raise (lockstepOf p) p.idx).noteRestart p).holdStart

theorem State.recentRestarts_congr {s r : State} (hn : r.now = s.now) (hc : r.clk = s.clk) : r.recentRestarts = s.recentRestarts := by
  rw [State.recentRestarts, State.recentRestarts, hn, hc]

theorem State.bothMismatch_congr {s r : State} (p : Pair) (hn : r.now = s.now) (hc : r.clk = s.clk) :
    r.bothMismatch p = s.bothMismatch p := by
  cases p <;> simp only [State.bothMismatch, State.lastMis, hn, hc]

theorem State.pairRestart_A (s : State) : s.pairRestart .A = ({ (s.raise .LOCKSTEP_A 0) with
    clk := { s.clk with aDown := some s.now, restarts := s.recentRestarts, aMis := some s.now } } : State).holdStart := by
  simp only [State.pairRestart, State.noteRestart, lockstepOf, Pair.idx, State.raise_now, State.raise_clk,
    State.recentRestarts_congr (s.raise_now _ _ _ _) (s.raise_clk _ _ _ _)]

theorem State.pairRestart_B (s : State) : s.pairRestart .B = ({ (s.raise .LOCKSTEP_B 1) with
    clk := { s.clk with bDown := some s.now, restarts := s.recentRestarts, bMis := some s.now } } : State).holdStart := by
  simp only [State.pairRestart, State.noteRestart, lockstepOf, Pair.idx, State.raise_now, State.raise_clk,
    State.recentRestarts_congr (s.raise_now _ _ _ _) (s.raise_clk _ _ _ _)]

/-- What follows the restart when its conditions of Limp are `third` and `both` (R25). -/
def State.restartLimits (s : State) (third both : Bool) : State :=
  ((s.when third fun s => s.raise .PAIR_RESTART_LIMIT 0).when both fun s => s.raise .PAIR_RESTART_LIMIT 1).when (third || both)
    fun s => s.enterLimp .PAIR_RESTART_LIMIT

theorem State.restartLimits_none (s : State) : s.restartLimits false false = s := by
  simp only [State.restartLimits, State.when_false, Bool.or_self]

theorem State.restartLimits_both (s : State) :
    s.restartLimits false true = (s.raise .PAIR_RESTART_LIMIT 1).enterLimp .PAIR_RESTART_LIMIT := by
  simp only [State.restartLimits, State.when_false, State.when_true, Bool.false_or]

theorem State.restartLimits_third (s : State) :
    s.restartLimits true false = (s.raise .PAIR_RESTART_LIMIT 0).enterLimp .PAIR_RESTART_LIMIT := by
  simp only [State.restartLimits, State.when_false, State.when_true, Bool.true_or]

theorem State.restartLimits_third_both (s : State) :
    s.restartLimits true true =
      ((s.raise .PAIR_RESTART_LIMIT 0).raise .PAIR_RESTART_LIMIT 1).enterLimp .PAIR_RESTART_LIMIT := by
  simp only [State.restartLimits, State.when_true, Bool.or_self]

/-- The restart with its consequences; the raise changes neither the time nor the clocks, from which R25 judges. -/
theorem State.compareMismatch_eq (s : State) (p : Pair) :
    s.compareMismatch p = (s.pairRestart p).restartLimits (decide (3 ≤ s.recentRestarts.length)) (s.bothMismatch p) := by
  have hn : (s.raise (lockstepOf p) p.idx).now = s.now := s.raise_now _ _ _ _
  have hc : (s.raise (lockstepOf p) p.idx).clk = s.clk := s.raise_clk _ _ _ _
  rw [← State.recentRestarts_congr hn hc, ← State.bothMismatch_congr p hn hc, State.compareMismatch, State.pairRestart, ← hn]
  generalize s.raise (lockstepOf p) p.idx = r
  cases p <;> rfl

theorem State.bothMismatch_of_old {s : State} {p : Pair}
    (h : (s.lastMis (otherPair p)).all (fun t => decide (t + ms 1 ≤ s.now)) = true) : s.bothMismatch p = false := by
  unfold State.bothMismatch
  split
  next t hm =>
    rw [hm, Option.all_some] at h
    exact decide_eq_false (Nat.not_lt.mpr (of_decide_eq_true h))
  next => rfl

theorem State.bothMismatch_of_recent {s : State} {p : Pair} {t : Nat} (h : s.lastMis (otherPair p) = some t) (ht : s.now < t + ms 1) :
    s.bothMismatch p = true := by
  rw [State.bothMismatch, h]
  exact decide_eq_true ht

/-- A mismatch restarts its pair and takes the consequences `e` of the conditions `third` and `both` of R25. -/
theorem exec_compareMismatch {s e : State} {p : Pair} {third both : Bool} (ha : s.awake = true)
    (h3 : decide (3 ≤ s.recentRestarts.length) = third) (hb : s.bothMismatch p = both)
    (he : (s.pairRestart p).restartLimits third both = e) : exec (.compareMismatch p) s = .next (State.finish s e) :=
  State.runOn_next rfl ha (by rw [State.compareMismatch_eq, h3, hb, he])

/-- The firmware of a restarted pair runs again; requests of pair A stop being late, but not in Limp (R417). -/
theorem State.pairBack_down {s : State} {p : Pair} {t : Nat} (h : s.pairDown p = some t) :
    s.pairBack p = ((s.setPairDown p none).clearFault (lockstepOf p) p.idx).when (decide (p = .A ∧ s.mode' ≠ 5)) State.lateEnds := by
  have mode : ((s.setPairDown p none).clearFault (lockstepOf p) p.idx).mode' = s.mode' :=
    State.mode'_congr ((State.clearFault_regs _ _ _).trans (by cases p <;> rfl))
  simp only [State.pairBack, h, mode, State.when, decide_eq_true_eq]

theorem exec_pairRestartComplete {s e : State} {p : Pair} {t : Nat} (ha : s.awake = true) (h : s.pairDown p = some t)
    (he : ((s.setPairDown p none).clearFault (lockstepOf p) p.idx).when (decide (p = .A ∧ s.mode' ≠ 5)) State.lateEnds = e) :
    exec (.pairRestartComplete p) s = .next (State.finish s e) :=
  State.runOn_next rfl ha ((State.pairBack_down h).trans he)

/-- Settles O1: each clause is its judgement's reaction, read off the lemma about it. -/
theorem clocksAndWelts : Obligations.ClocksAndWelts := by
  unfold Obligations.ClocksAndWelts
  refine ⟨?pwr, ?aon, ?canc, ?limp, ?tide, ?eth, ?ref, ?welt, ?aAlone, ?bAlone, ?aBoth, ?bThird, ?aThirdBoth, ?bBack, ?aBackLimp, ?aBack⟩
  case pwr => exact fun s dev still ha hv hl => exec_clkDomainLoss_lost (d := .pwr) ha hv hl
  case aon => exact fun s dev still ha hv hl => exec_clkDomainLoss_lost (d := .aon) ha hv hl
  case canc => exact fun s dev still ha hv hl => exec_clkDomainLoss_lost (d := .canc) ha hv hl
  case limp =>
    intro s d dev still hd ha hv hl
    rw [exec_clkDomainLoss_lost ha ((s.clkValid_lock hd).trans hv) (by rwa [clkThr_limp hd]), s.clkLoss_limp hd]
  case tide => exact fun s dev still ha hv hl => exec_clkDomainLoss_lost (d := .tide) ha hv hl
  case eth => exact fun s p dev still ha hv hl => exec_clkDomainLoss_lost (d := .ethc p) ha hv hl
  case ref => exact fun s dev still ha hv hl => exec_clkRefLoss_lost ha hv hl
  case welt => exact fun s w blk ha => State.runOn_next rfl ha rfl
  case aAlone =>
    rintro s _ ha rfl h3 hm
    refine exec_compareMismatch ha (decide_eq_false (Nat.not_le.mpr h3)) (State.bothMismatch_of_old (p := .A) hm) ?_
    rw [State.restartLimits_none, s.pairRestart_A, State.recentRestarts]
  case bAlone =>
    rintro s _ ha rfl h3 hm
    refine exec_compareMismatch ha (decide_eq_false (Nat.not_le.mpr h3)) (State.bothMismatch_of_old (p := .B) hm) ?_
    rw [State.restartLimits_none, s.pairRestart_B, State.recentRestarts]
  case aBoth =>
    rintro s t _ ha rfl h3 hm ht
    refine exec_compareMismatch ha (decide_eq_false (Nat.not_le.mpr h3)) (State.bothMismatch_of_recent (p := .A) hm ht) ?_
    rw [State.restartLimits_both, s.pairRestart_A, State.recentRestarts]
  case bThird =>
    rintro s _ ha rfl h3 hm
    refine exec_compareMismatch ha (decide_eq_true h3) (State.bothMismatch_of_old (p := .B) hm) ?_
    rw [State.restartLimits_third, s.pairRestart_B, State.recentRestarts]
  case aThirdBoth =>
    rintro s t _ ha rfl h3 hm ht
    refine exec_compareMismatch ha (decide_eq_true h3) (State.bothMismatch_of_recent (p := .A) hm ht) ?_
    rw [State.restartLimits_third_both, s.pairRestart_A, State.recentRestarts]
  case bBack =>
    intro s t ha h
    refine exec_pairRestartComplete (p := .B) ha h ?_
    rw [decide_eq_false (by simp), State.when_false]
    rfl
  case aBackLimp =>
    intro s t ha h hm
    refine exec_pairRestartComplete (p := .A) ha h ?_
    rw [decide_eq_false (by simp [hm]), State.when_false]
    rfl
  case aBack =>
    intro s t ha h hm
    refine exec_pairRestartComplete (p := .A) ha h ?_
    rw [decide_eq_true ⟨rfl, hm⟩, State.when_true]
    rfl

end Sys2Proof.Machine
end

section
/-! The load of a processor pair (R28 to R31): the overload flags of SYS_LOAD, and what begins and ends with an overload. -/

namespace Sys2Proof.Machine

/-! ## SYS_LOAD -/

theorem ovlFldOf_fits (p : Pair) : (ovlFldOf p).fits := by cases p <;> simp [ovlFldOf, Fld.fits]

theorem loadFldOf_fits (p : Pair) : (loadFldOf p).fits := by cases p <;> simp [loadFldOf, Fld.fits]

theorem loadFldOf_apart_ovl (p : Pair) : (loadFldOf p).apart (ovlFldOf p) := by cases p <;> simp [loadFldOf, ovlFldOf, Fld.apart]

theorem State.loadSeen_regs (s : State) (p : Pair) (load : Nat) :
    (s.loadSeen p load).regs = (s.setFld (loadFldOf p) 0 (Nat.min load 100)).regs := by
  unfold State.loadSeen State.when
  split <;> rfl

theorem State.loadSeen_mem (s : State) (p : Pair) (load : Nat) : (s.loadSeen p load).mem = s.mem := by
  unfold State.loadSeen State.when
  split <;> rfl

theorem State.loadSeen_now (s : State) (p : Pair) (load : Nat) : (s.loadSeen p load).now = s.now := by
  unfold State.loadSeen State.when
  split <;> rfl

/-- A load below 75 % is shown, and does not start the 500 ms of R29 afresh. -/
theorem State.loadSeen_low (s : State) (p : Pair) {load : Nat} (h : load < 75) :
    s.loadSeen p load = s.setFld (loadFldOf p) 0 (Nat.min load 100) := by
  rw [State.loadSeen, decide_eq_false (Nat.not_le.mpr h), State.when_false]

theorem State.loadSeen_ovl (s : State) (p : Pair) (load : Nat) : (s.loadSeen p load).flag (ovlFldOf p) = s.flag (ovlFldOf p) := by
  rw [State.flag_congr (s.loadSeen_regs p load)]
  exact s.flag_setFld_apart (by cases p <;> rfl) (loadFldOf_fits p) (loadFldOf_apart_ovl p) 0 _

theorem State.loadSeen_rd (s : State) (p : Pair) (load : Nat) {r : Reg} {i : Nat} (h : (r, i) ≠ (.SYS_LOAD, 0)) :
    (s.loadSeen p load).rd r i = s.rd r i := by
  rw [State.rd_congr (s.loadSeen_regs p load)]
  exact s.rd_setFld_ne (by cases p <;> exact h)

/-- C5 and C6 are deferred, or no longer (R31). -/
def State.setDefer (s : State) (b : Bool) : State := (s.setFlag F.SYS_LOAD_C5_DEFER 0 b).setFlag F.SYS_LOAD_C6_DEFER 0 b

theorem State.setDefer_c5 (s : State) (b : Bool) : (s.setDefer b).flag F.SYS_LOAD_C5_DEFER = b :=
  (State.flag_setFlag_apart (f := F.SYS_LOAD_C6_DEFER) (g := F.SYS_LOAD_C5_DEFER) _ rfl (by simp [Fld.fits]) (by simp [Fld.apart]) 0 b).trans
    (State.flag_setFlag_same s (by simp [Fld.fits]) rfl 0 b)

theorem State.setDefer_c6 (s : State) (b : Bool) : (s.setDefer b).flag F.SYS_LOAD_C6_DEFER = b :=
  State.flag_setFlag_same _ (by simp [Fld.fits]) rfl 0 b

theorem State.setDefer_ovl (s : State) (b : Bool) : (s.setDefer b).flag F.SYS_LOAD_OVL_A = s.flag F.SYS_LOAD_OVL_A :=
  (State.flag_setFlag_apart (f := F.SYS_LOAD_C6_DEFER) (g := F.SYS_LOAD_OVL_A) _ rfl (by simp [Fld.fits]) (by simp [Fld.apart]) 0 b).trans
    (State.flag_setFlag_apart (f := F.SYS_LOAD_C5_DEFER) (g := F.SYS_LOAD_OVL_A) s rfl (by simp [Fld.fits]) (by simp [Fld.apart]) 0 b)

theorem State.setDefer_rd (s : State) (b : Bool) {r : Reg} {i : Nat} (h : (r, i) ≠ (.SYS_LOAD, 0)) : (s.setDefer b).rd r i = s.rd r i :=
  (State.rd_setFld_ne _ h).trans (State.rd_setFld_ne s h)

/-- Where the overload of pair A stands at `b` and SYS_LOAD alone has changed, the deferral follows it, and nothing else changes. -/
theorem State.setDefer_follows {s t : State} {b : Bool} (j : JnlSt) (ovl : t.flag F.SYS_LOAD_OVL_A = b) (mem : t.mem = s.mem)
    (rd : ∀ r i, (r, i) ≠ (Reg.SYS_LOAD, 0) → t.rd r i = s.rd r i) :
    ((t.setDefer b).setJnl j).flag F.SYS_LOAD_OVL_A = b ∧ ((t.setDefer b).setJnl j).flag F.SYS_LOAD_C5_DEFER = b ∧
      ((t.setDefer b).setJnl j).flag F.SYS_LOAD_C6_DEFER = b ∧ s.sameBut ((t.setDefer b).setJnl j) [(.SYS_LOAD, 0)] := by
  have regs : ((t.setDefer b).setJnl j).regs = (t.setDefer b).regs := rfl
  have mem' : ((t.setDefer b).setJnl j).mem = s.mem := by
    rw [State.setJnl_mem, State.setDefer, State.setFlag_mem, State.setFlag_mem, mem]
  simp only [State.flag_congr regs, State.setDefer_ovl, State.setDefer_c5, State.setDefer_c6, ovl, true_and]
  refine State.sameBut_of_rd mem' fun r i hr => ?_
  have ne : (r, i) ≠ (Reg.SYS_LOAD, 0) := by simpa using hr
  rw [State.rd_congr regs, State.setDefer_rd _ _ ne, rd r i ne]

/-! ## Entry and exit -/

/-- The pair's overload is marked and its fault raised. -/
theorem State.overloadEntry_B (s : State) {load : Nat} (h : 90 ≤ load) (hf : s.flag F.SYS_LOAD_OVL_B = false) :
    s.overloadEntry .B load = ((s.loadSeen .B load).setFlag F.SYS_LOAD_OVL_B).raise .OVERLOAD_B 1 := by
  have flag : (s.loadSeen .B load).flag (ovlFldOf .B) = false := (s.loadSeen_ovl .B load).trans hf
  simp only [State.overloadEntry, flag, Nat.not_lt.mpr h, Bool.false_eq_true, or_self, if_false]
  rfl

/-- With pair A also C5 and C6 are deferred, from now on. -/
theorem State.overloadEntry_A (s : State) {load : Nat} {t : State} (h : 90 ≤ load) (hf : s.flag F.SYS_LOAD_OVL_A = false)
    (ht : t = ((s.loadSeen .A load).setFlag F.SYS_LOAD_OVL_A).raise .OVERLOAD_A 0) :
    s.overloadEntry .A load = (t.setDefer true).setJnl { t.jnl with deferSince := some t.now } := by
  have flag : (s.loadSeen .A load).flag (ovlFldOf .A) = false := (s.loadSeen_ovl .A load).trans hf
  simp only [State.overloadEntry, flag, Nat.not_lt.mpr h, Bool.false_eq_true, or_self, if_false]
  rw [ht]
  rfl

/-- An overload ends 500 ms after the last load of 75 % or more (R29). -/
theorem State.overloadExit_B (s : State) {load : Nat} (h : load < 75) (hf : s.flag F.SYS_LOAD_OVL_B = true) :
    s.overloadExit .B load = ((s.setFld F.SYS_LOAD_LOAD_B 0 (Nat.min load 100)).advanceTo
      ((lookup 1 s.clk.highAt).getD s.now + ms 500)).setFlag F.SYS_LOAD_OVL_B 0 false := by
  have flag : (s.loadSeen .B load).flag (ovlFldOf .B) = true := (s.loadSeen_ovl .B load).trans hf
  simp only [State.overloadExit, flag, Nat.not_le.mpr h, Bool.not_true, Bool.false_eq_true, or_self, if_false]
  rw [s.loadSeen_low .B h]
  rfl

theorem State.overloadExit_A (s : State) {load : Nat} {t : State} (h : load < 75) (hf : s.flag F.SYS_LOAD_OVL_A = true)
    (ht : t = ((s.setFld F.SYS_LOAD_LOAD_A 0 (Nat.min load 100)).advanceTo
      ((lookup 0 s.clk.highAt).getD s.now + ms 500)).setFlag F.SYS_LOAD_OVL_A 0 false) :
    s.overloadExit .A load = (t.setDefer false).setJnl { t.jnl with deferSince := none } := by
  have flag : (s.loadSeen .A load).flag (ovlFldOf .A) = true := (s.loadSeen_ovl .A load).trans hf
  simp only [State.overloadExit, flag, Nat.not_le.mpr h, Bool.not_true, Bool.false_eq_true, or_self, if_false]
  rw [s.loadSeen_low .A h, ht]
  rfl

/-! ## Requests and flushes under overload -/

/-- A request that pair A leaves unserved under overload is refused 50 ms after its arrival (R30). -/
theorem State.requestTimeout_sdo (s : State) (p : Fin 8) (x y waited : Nat) (ho : s.flag F.SYS_LOAD_OVL_A = true)
    (hd : s.dictServed = true) (hp : s.sdoOn p = true) :
    s.requestTimeout (.sdo p) x y waited = match s.xferOf p with
      | some t => (s.advanceTo (s.now - waited + ms 50)).sdoAbort p t.idx t.sub 0x08000022
      | none => (s.advanceTo (s.now - waited + ms 50)).sdoAbort p x y 0x08000022 := by
  have on : (s.advanceTo (s.now - waited + ms 50)).sdoOn p = true := hp
  simp only [State.requestTimeout, ho, hd, on, Bool.not_true, Bool.or_self, Bool.false_eq_true, if_false]
  rfl

theorem State.requestTimeout_nyd (s : State) (peer x y waited : Nat) (ho : s.flag F.SYS_LOAD_OVL_A = true) (hd : s.dictServed = true) :
    s.requestTimeout (.nyd peer) x y waited = (s.advanceTo (s.now - waited + ms 50)).nydReply peer x
      (match s.sessOf (.nyd peer) with | some t => t.sid | none => 0) y 1 (leBytes 4 0x08000022) := by
  simp only [State.requestTimeout, ho, hd, Bool.not_true, Bool.or_self, Bool.false_eq_true, if_false]
  rfl

/-- The forced flush of R31, and the deferral that starts anew with it. -/
theorem State.forcedFlush_deferred (s : State) {t : Nat} (h : s.jnl.deferSince = some t) :
    s.forcedFlush = ({ s with now := Nat.max s.now (t + sec 2),
                              jnl := { s.jnl with deferSince := some (Nat.max s.now (t + sec 2)) } } : State).beginFlush 64 := by
  simp only [State.forcedFlush, h]
  rfl

/-- Settles O2: entry and exit mark the flags of SYS_LOAD, the deferred work follows R30 and R31. -/
theorem load : Obligations.Load := by
  unfold Obligations.Load
  refine ⟨?entryB, ?entryA, ?exitB, ?exitA, ?sdoIdle, ?sdoOpen, ?nydPlain, ?nydSess, ?flush⟩
  case entryB => exact fun s load ha h hf => State.runOn_next rfl ha (s.overloadEntry_B h hf)
  case entryA =>
    intro s load ha h hf
    refine State.runOn_completes (f := fun s => s.overloadEntry .A load) rfl ha ?_
    obtain ⟨t, ht⟩ : ∃ t, t = ((s.loadSeen .A load).setFlag F.SYS_LOAD_OVL_A).raise .OVERLOAD_A 0 := ⟨_, rfl⟩
    have regs : t.regs = ((s.loadSeen .A load).setFlag F.SYS_LOAD_OVL_A).regs := by rw [ht, State.raise_regs]
    have mem : t.mem = s.mem := by rw [ht, State.raise_mem, State.setFlag_mem, State.loadSeen_mem]
    have now : t.now = s.now := by rw [ht, State.raise_now, State.setFlag_now, State.loadSeen_now]
    have ovl : t.flag F.SYS_LOAD_OVL_A = true := by
      rw [State.flag_congr regs]
      exact State.flag_setFlag_same _ (ovlFldOf_fits .A) rfl 0 true
    have rd (r i) (ne : (r, i) ≠ (Reg.SYS_LOAD, 0)) : t.rd r i = s.rd r i := by
      rw [State.rd_congr regs, State.setFlag, State.rd_setFld_ne _ ne, State.loadSeen_rd _ _ _ ne]
    rw [s.overloadEntry_A h hf ht]
    obtain ⟨flag, c5, c6, same⟩ := State.setDefer_follows { t.jnl with deferSince := some t.now } ovl mem rd
    exact ⟨flag, c5, c6, congrArg some now, same⟩
  case exitB => exact fun s load ha h hf => State.runOn_next rfl ha (s.overloadExit_B h hf)
  case exitA =>
    intro s load ha h hf
    refine State.runOn_completes (f := fun s => s.overloadExit .A load) rfl ha ?_
    obtain ⟨t, ht⟩ : ∃ t, t = ((s.setFld F.SYS_LOAD_LOAD_A 0 (Nat.min load 100)).advanceTo
      ((lookup 0 s.clk.highAt).getD s.now + ms 500)).setFlag F.SYS_LOAD_OVL_A 0 false := ⟨_, rfl⟩
    have mem : t.mem = s.mem := by rw [ht, State.setFlag_mem, State.advanceTo_mem, State.setFld_mem]
    have now : t.now = Nat.max s.now ((lookup 0 s.clk.highAt).getD s.now + ms 500) := by rw [ht, State.setFlag_now]; rfl
    have ovl : t.flag F.SYS_LOAD_OVL_A = false := by
      rw [ht]
      exact State.flag_setFlag_same _ (ovlFldOf_fits .A) rfl 0 false
    have rd (r i) (ne : (r, i) ≠ (Reg.SYS_LOAD, 0)) : t.rd r i = s.rd r i := by
      rw [ht, State.setFlag, State.rd_setFld_ne _ ne, State.rd_congr (State.advanceTo_regs _ _), State.rd_setFld_ne s ne]
    rw [s.overloadExit_A h hf ht]
    obtain ⟨flag, c5, c6, same⟩ := State.setDefer_follows { t.jnl with deferSince := none } ovl mem rd
    exact ⟨flag, c5, c6, rfl, now, same⟩
  case sdoIdle =>
    intro s p x y waited ha ho hd hp hx
    exact State.runOn_next rfl ha (by rw [s.requestTimeout_sdo p x y waited ho hd hp, hx])
  case sdoOpen =>
    intro s p x y waited t ha ho hd hp hx
    exact State.runOn_next rfl ha (by rw [s.requestTimeout_sdo p x y waited ho hd hp, hx])
  case nydPlain =>
    intro s peer x y waited ha ho hd hx
    exact State.runOn_next rfl ha (by rw [s.requestTimeout_nyd peer x y waited ho hd, hx])
  case nydSess =>
    intro s peer x y waited t ha ho hd hx
    exact State.runOn_next rfl ha (by rw [s.requestTimeout_nyd peer x y waited ho hd, hx])
  case flush => exact fun s t ha h => State.runOn_next rfl ha (s.forcedFlush_deferred h)

end Sys2Proof.Machine
end

section
/-! The journal (R38, R39, R612 to R623): visibility, flushes, the expiry of faults, and the writes of JNL_CMD and JNL_RD_SEQ. -/

namespace Sys2Proof.Machine

/-! ## Visibility -/

theorem State.nextVisible_empty (s : State) (held : Nat) (h : s.jnl.pend = []) : s.nextVisible held = s := by
  simp only [State.nextVisible, h, List.drop_nil]

/-- The entry behind the held ones is the next (R39). -/
theorem State.nextVisible_drop (s : State) {held : Nat} {e : Entry} {r : List Entry}
    (h : s.jnl.pend.drop (if s.pathFault then Nat.min held (s.jnl.pend.length - 1) else 0) = e :: r) :
    s.nextVisible held = ((s.advanceTo (e.born + us 128)).setJnl { s.jnl with
      pend := s.jnl.pend.take (if s.pathFault then Nat.min held (s.jnl.pend.length - 1) else 0) ++ r }).makeVisible e := by
  simp only [State.nextVisible, h]

/-! ## Flushes -/

theorem State.beginFlush_may {s : State} (n : Nat) (hm : s.mayFlush = true) (hw : s.jnl.wait ≠ []) :
    s.beginFlush n = s.setJnl { s.jnl with flushing := s.jnl.wait.take n, flushReq := false } := by
  rw [State.beginFlush, hm, List.isEmpty_eq_false_iff.mpr hw]
  rfl

/-- A flush that may begin takes up to 64 entries, once one of the triggers of R620 has come. -/
theorem State.journalFlush_begins {s v : State} (hw : s.jnl.wait ≠ []) (hd : s.flag F.SYS_LOAD_C5_DEFER = false)
    (hv : v = if s.flushDue then s else s.advanceTo (s.oldestWait + sec 1)) (hm : v.mayFlush = true) :
    s.journalFlush = v.setJnl { v.jnl with flushing := v.jnl.wait.take 64, flushReq := false } := by
  have regs : v.regs = s.regs := by rw [hv]; split <;> rfl
  have jnl : v.jnl = s.jnl := by rw [hv]; split <;> rfl
  have flag : v.flag F.SYS_LOAD_C5_DEFER = false := (State.flag_congr regs _ _).trans hd
  rw [State.journalFlush, List.isEmpty_eq_false_iff.mpr hw, ← hv]
  simp only [flag, Bool.false_eq_true, if_false]
  exact State.beginFlush_may 64 hm (by rwa [jnl])

theorem State.flushComplete_failed {s : State} (h : s.jnl.flushing ≠ []) :
    s.flushComplete false = (s.setJnl { s.jnl with flushing := [] }).raise .JNL_NVM_FAIL := by
  rw [State.flushComplete, List.isEmpty_eq_false_iff.mpr h]
  rfl

@[simp] theorem State.persist_regs (s : State) (es : List (Nat × List Byte)) : (s.persist es).regs = s.regs := by
  rw [State.persist, State.setJnl_regs]

@[simp] theorem State.persist_mem (s : State) (es : List (Nat × List Byte)) : (s.persist es).mem = s.mem := by
  rw [State.persist, State.setJnl_mem]

@[simp] theorem State.persist_waitSince (s : State) (es : List (Nat × List Byte)) :
    (s.persist es).jnl.waitSince = s.jnl.waitSince := by
  rw [State.persist, State.setJnl_jnl]

/-- A flush that has committed: the state before its fault is cleared has ended the flush, and kept registers and memory. -/
theorem State.flushComplete_done {s : State} (h : s.jnl.flushing ≠ []) :
    ∃ t : State, s.flushComplete true = t.clearFault .JNL_NVM_FAIL ∧ t.jnl.flushing = [] ∧
      t.jnl.waitSince = s.jnl.waitSince.drop (s.jnl.flushing.filter fun q => s.jnl.wait.contains q).length ∧
      t.regs = s.regs ∧ t.mem = s.mem := by
  rw [State.flushComplete, List.isEmpty_eq_false_iff.mpr h]
  simp only [Bool.false_eq_true, if_false, if_true]
  refine ⟨_, rfl, ?_, ?_, ?_, ?_⟩
  · rw [State.setJnl_jnl]
  · rw [State.setJnl_jnl, State.persist_waitSince]
  · rw [State.setJnl_regs, State.persist_regs]
  · rw [State.setJnl_mem, State.persist_mem]

/-! ## Expiry -/

/-- The youngest fault without recovery ends 1 s after its raise (R612). -/
theorem State.faultExpiry_last {s : State} {x : Active} (h : (s.jnl.active.filter fun a => a.f.recov == [.N]).getLast? = some x) :
    s.faultExpiry = (s.advanceTo (x.since + sec 1)).setJnl { s.jnl with
      active := s.jnl.active.filter (fun b => !(b.f == x.f && b.idx == x.idx))
      shown := s.jnl.shown.filter (· ≠ (x.f.code, x.idx % 256)) } := by
  simp only [State.faultExpiry, h]
  rfl

/-- A fault filtered out of the active ones is not active. -/
theorem State.active_filtered {s : State} {f : FaultId} {idx : Nat} {l : List Active}
    (h : s.jnl.active = l.filter fun b => !(b.f == f && b.idx == idx)) : s.active f idx = false := by
  rw [State.active, h, List.any_filter, List.any_eq_false]
  intro x _
  cases (x.f == f && x.idx == idx) <;> simp

/-! ## Commands and the read window -/

/-- A full write of JNL_CMD acts by its two bits: CLR_1003 empties 1003, FLUSH requests a flush. -/
theorem State.put_jnlCmd (s : State) (c : Nat) (w : Word) :
    s.put c .JNL_CMD 0 w 0xFFFFFFFF =
      (let t := if w.getLsbD 1 then s.clr1003 else s; if w.getLsbD 0 then t.flushCommand else t, 0) := by
  have clr : F.JNL_CMD_CLR_1003.on (Reg.fired .JNL_CMD w 0xFFFFFFFF) = w.getLsbD 1 := Fld.on_fired w rfl (by decide)
  have flush : F.JNL_CMD_FLUSH.on (Reg.fired .JNL_CMD w 0xFFFFFFFF) = w.getLsbD 0 := Fld.on_fired w rfl (by decide)
  rw [← clr, ← flush]
  rfl

/-- JNL_RD_SEQ is one field of 32 bits, so that a full write stores its data whole. -/
theorem State.merge_jnlRdSeq (s : State) (w : Word) : s.merge .JNL_RD_SEQ 0 w 0xFFFFFFFF = w := by
  have sets : Reg.tyMask .JNL_RD_SEQ FTy.sets = 0xFFFFFFFF := by decide
  have clears : Reg.tyMask .JNL_RD_SEQ FTy.clears = 0 := by decide
  have whole : w &&& 0xFFFFFFFF = w := (BitVec.and_comm _ _).trans (ones_and w)
  rw [State.merge_full, sets, clears, whole]
  simpa using whole

theorem State.put_jnlRdSeq (s : State) (c : Nat) (w : Word) :
    s.put c .JNL_RD_SEQ 0 w 0xFFFFFFFF = ((s.wr .JNL_RD_SEQ 0 w).readWindow w.toNat, 0) := by
  have n := s.merge_jnlRdSeq w
  have put : s.put c .JNL_RD_SEQ 0 w 0xFFFFFFFF =
    ((s.wr .JNL_RD_SEQ 0 (s.merge .JNL_RD_SEQ 0 w 0xFFFFFFFF)).readWindow (s.merge .JNL_RD_SEQ 0 w 0xFFFFFFFF).toNat, 0) := rfl
  rw [put, n]

/-- A granted write whose effect `g` is always accepted: what it leaves beside the answer. -/
theorem State.wrote_accepted (s : State) (a : Acc) (r : Reg) (i : Nat) (g : State → State) :
    s.wrote a r i (fun s => (g s, 0)) =
      (((g (s.dropHeld (s.who a).code (r.addr i))).clearMismatch (r, i)).answer (.ok 0)).1 := rfl

/-- CLR_1003 empties 1003 and writes neither registers nor memory (R623). -/
theorem State.wrote_clr1003 (s : State) (a : Acc) :
    (s.wrote a .JNL_CMD 0 fun s => (s.clr1003, 0)).jnl.err1003 = [] ∧ s.sameBut (s.wrote a .JNL_CMD 0 fun s => (s.clr1003, 0)) [] := by
  rw [State.wrote_accepted, State.answer_fst]
  refine ⟨?_, State.sameBut_of_regs ?_ ?_⟩
  · rw [State.setBus_jnl, State.clearMismatch_err1003]
    rfl
  · rw [State.setBus_mem, State.clearMismatch_mem, State.clr1003, State.setJnl_mem, State.dropHeld_mem]
  · rw [State.setBus_regs, State.clearMismatch_regs, State.clr1003, State.setJnl_regs, State.dropHeld_regs]

/-- Settles O7: each clause is what its operation of the journal does. -/
theorem journal : Obligations.Journal := by
  unfold Obligations.Journal
  refine ⟨?empty, ?visible, ?flush, ?command, ?failed, ?done, ?clr, ?window, ?expiry⟩
  case empty => exact fun s held h => State.run_next rfl (s.nextVisible_empty held h)
  case visible =>
    rintro s held _ e r rfl h
    exact State.run_next rfl (s.nextVisible_drop h)
  case flush => exact fun s v ha hw hd hv hm => State.runOn_next rfl ha (State.journalFlush_begins hw hd hv hm)
  case command =>
    intro s a h
    refine State.run_next (f := fun s => s.busPut a .JNL_CMD 0 1) rfl ?_
    rw [State.busPut_wrote h 1 rfl rfl rfl]
    exact congrArg (s.wrote a .JNL_CMD 0) (funext fun u => u.put_jnlCmd _ 1)
  case failed => exact fun s ha h => State.runOn_next rfl ha (State.flushComplete_failed h)
  case done =>
    intro s ha h
    obtain ⟨t, ht, flushing, since, regs, mem⟩ := State.flushComplete_done h
    obtain ⟨act, pend, supp, hj⟩ := t.clearFault_jnl .JNL_NVM_FAIL 0
    refine State.runOn_completes (f := fun s => s.flushComplete true) rfl ha ?_
    rw [ht, hj]
    exact ⟨flushing, t.active_clearFault .JNL_NVM_FAIL 0, since,
      State.sameBut_of_regs ((t.clearFault_mem _ _).trans mem) ((t.clearFault_regs _ _).trans regs)⟩
  case clr =>
    intro s a h
    refine State.run_completes (f := fun s => s.busPut a .JNL_CMD 0 2) rfl ?_
    have put : (fun u : State => u.put (u.who a).code .JNL_CMD 0 (BitVec.ofNat 32 2) 0xFFFFFFFF) = fun u => (u.clr1003, 0) :=
      funext fun u => u.put_jnlCmd _ 2
    rw [State.busPut_wrote h 2 rfl rfl rfl, put]
    exact s.wrote_clr1003 a
  case window =>
    intro s a q h
    refine ⟨BitVec.ofNat 32 q, State.run_next (f := fun s => s.busPut a .JNL_RD_SEQ 0 q) rfl ?_⟩
    rw [State.busPut_wrote h q rfl rfl rfl]
    exact congrArg (s.wrote a .JNL_RD_SEQ 0) (funext fun u => u.put_jnlRdSeq _ _)
  case expiry =>
    intro s x h
    refine State.run_completes (f := fun s => s.faultExpiry) rfl ?_
    rw [State.faultExpiry_last h]
    exact ⟨rfl, State.active_filtered rfl, rfl, State.sameBut_of_regs rfl rfl⟩

end Sys2Proof.Machine
end

section
/-! The register map (R42 to R44, R62): no two cells share an address, so that every cell's address names it. -/

namespace Sys2Proof.Machine

/-! ## Where the cells of a register lie -/

/-- Address of the cell in row `i` and column `j`. -/
def Place.at (p : Place) (i j : Nat) : Nat := p.base + i * p.s1 + j * p.s2

/-- Address of the last cell. -/
def Place.last (p : Place) : Nat := p.at (p.n1 - 1) (p.n2 - 1)

/-- Rows do not overlap and the cells of a row are apart; a level without a stride has one element. -/
def Place.regular (p : Place) : Bool :=
  (p.s1 == 0 && p.n1 == 1 || decide ((p.n2 - 1) * p.s2 < p.s1)) && (p.s2 != 0 || p.n2 == 1)

/-- How far the cells of a register reach above its base, modulo `m`: a stride that `m` divides does not count. -/
def Place.reach (p : Place) (m : Nat) : Nat :=
  (if p.s1 % m = 0 then 0 else (p.n1 - 1) * p.s1) + if p.s2 % m = 0 then 0 else (p.n2 - 1) * p.s2

/-- How far the base of `q` lies above that of `p`, modulo `m`. -/
def Place.gap (p q : Place) (m : Nat) : Nat := (q.base + (m - p.base % m)) % m

/-- Modulo `m` the cells of `p` and those of `q` lie in intervals that are apart. -/
def Place.apartMod (p q : Place) (m : Nat) : Bool := decide (p.reach m < p.gap q m) && decide (p.gap q m + q.reach m < m)

/-- Two registers lie apart as a whole (every base and reach is below 2 ^ 31), within the stride of the rows, or within that of the
columns. -/
def Place.apart (p q : Place) : Bool := p.apartMod q (2 ^ 31) || p.apartMod q p.s1 || p.apartMod q p.s2

theorem Place.base_le_at (p : Place) (i j : Nat) : p.base ≤ p.at i j := by
  rw [Place.at]
  omega

theorem Place.at_le_last (p : Place) {i j : Nat} (hi : i < p.n1) (hj : j < p.n2) : p.at i j ≤ p.last := by
  have row : i * p.s1 ≤ (p.n1 - 1) * p.s1 := Nat.mul_le_mul_right _ (by omega)
  have col : j * p.s2 ≤ (p.n2 - 1) * p.s2 := Nat.mul_le_mul_right _ (by omega)
  simp only [Place.last, Place.at]
  omega

/-- A level's offset is a multiple of `m`, or counts in the reach. -/
theorem stride_mod (m : Nat) {n s i : Nat} (hi : i < n) :
    ∃ c k, i * s = m * c + k ∧ k ≤ if s % m = 0 then 0 else (n - 1) * s := by
  split
  · next h =>
    obtain ⟨c, rfl⟩ := Nat.dvd_of_mod_eq_zero h
    exact ⟨i * c, 0, Nat.mul_left_comm i m c, Nat.le_refl 0⟩
  · exact ⟨0, i * s, by omega, Nat.mul_le_mul_right s (by omega)⟩

theorem Place.at_mod (p : Place) (m : Nat) {i j : Nat} (hi : i < p.n1) (hj : j < p.n2) :
    ∃ c k, p.at i j = p.base + (m * c + k) ∧ k ≤ p.reach m := by
  obtain ⟨c, k, row, hk⟩ := stride_mod m (s := p.s1) hi
  obtain ⟨d, l, col, hl⟩ := stride_mod m (s := p.s2) hj
  exact ⟨c + d, k + l, by rw [Place.at, row, col, Nat.mul_add]; omega, Nat.add_le_add hk hl⟩

theorem Place.base_gap (p q : Place) {m : Nat} (hm : 0 < m) : ∃ c d, q.base + m * c = p.base + m * d + p.gap q m := by
  have low := Nat.div_add_mod p.base m
  have lt := Nat.mod_lt p.base hm
  have cut := Nat.div_add_mod (q.base + (m - p.base % m)) m
  refine ⟨p.base / m + 1, (q.base + (m - p.base % m)) / m, ?_⟩
  rw [Place.gap, Nat.mul_add, Nat.mul_one]
  omega

theorem Place.at_ne_of_apartMod {p q : Place} {m i j k l : Nat} (h : p.apartMod q m = true) (hi : i < p.n1) (hj : j < p.n2)
    (hk : k < q.n1) (hl : l < q.n2) : p.at i j ≠ q.at k l := by
  simp only [Place.apartMod, Bool.and_eq_true, decide_eq_true_eq] at h
  obtain ⟨below, above⟩ := h
  obtain ⟨c, x, hx, lx⟩ := p.at_mod m hi hj
  obtain ⟨d, y, hy, ly⟩ := q.at_mod m hk hl
  obtain ⟨e, f, hg⟩ := p.base_gap q (m := m) (by omega)
  intro same
  have sum : x + m * (c + e) = p.gap q m + y + m * (d + f) := by
    rw [Nat.mul_add, Nat.mul_add]
    omega
  have mod := congrArg (· % m) sum
  simp only [Nat.add_mul_mod_self_left] at mod
  rw [Nat.mod_eq_of_lt (by omega), Nat.mod_eq_of_lt (by omega)] at mod
  omega

theorem Place.at_ne_of_apart {p q : Place} {i j k l : Nat} (h : p.apart q = true) (hi : i < p.n1) (hj : j < p.n2)
    (hk : k < q.n1) (hl : l < q.n2) : p.at i j ≠ q.at k l := by
  simp only [Place.apart, Bool.or_eq_true] at h
  rcases h with (whole | row) | col
  · exact Place.at_ne_of_apartMod whole hi hj hk hl
  · exact Place.at_ne_of_apartMod row hi hj hk hl
  · exact Place.at_ne_of_apartMod col hi hj hk hl

/-! ## Finding a cell -/

theorem Place.find_at {p : Place} (h : p.regular = true) {i j : Nat} (hi : i < p.n1) (hj : j < p.n2) :
    p.find (p.at i j) = some (i * p.n2 + j) := by
  simp only [Place.regular, Bool.and_eq_true, Bool.or_eq_true, beq_iff_eq, bne_iff_ne, decide_eq_true_eq] at h
  obtain ⟨rows, cols⟩ := h
  have le : j * p.s2 ≤ (p.n2 - 1) * p.s2 := Nat.mul_le_mul_right _ (by omega)
  have off : p.at i j - p.base = i * p.s1 + j * p.s2 := by rw [Place.at]; omega
  have row : (if p.s1 = 0 then 0 else (i * p.s1 + j * p.s2) / p.s1) = i := by
    split
    · omega
    · rw [Nat.add_comm, Nat.add_mul_div_right _ _ (by omega), Nat.div_eq_of_lt (by omega), Nat.zero_add]
  have col : (if p.s2 = 0 then 0 else j * p.s2 / p.s2) = j := by
    split
    · omega
    · exact Nat.mul_div_cancel j (by omega)
  simp only [Place.find, off, row, Nat.add_sub_cancel_left, col]
  rw [if_neg (by rw [Place.at]; omega), if_pos (by simp [hi, hj])]

theorem Place.at_of_find {p : Place} {a k : Nat} (h : p.find a = some k) : ∃ i < p.n1, ∃ j < p.n2, a = p.at i j := by
  simp only [Place.find] at h
  generalize hi : (if p.s1 = 0 then 0 else (a - p.base) / p.s1) = i at h
  generalize (if p.s2 = 0 then 0 else (a - p.base - i * p.s1) / p.s2) = j at h
  have le : i * p.s1 ≤ a - p.base := by
    rw [← hi]
    split
    · simp
    · exact Nat.div_mul_le_self _ _
  split at h
  · cases h
  · split at h
    · next c =>
      obtain ⟨ci, cj, ce⟩ := c
      exact ⟨i, ci, j, cj, by rw [Place.at]; omega⟩
    · cases h

/-- No address is a cell of both. -/
def Place.disjoint (p q : Place) : Prop := ∀ a, p.find a = none ∨ q.find a = none

theorem Place.disjoint_of_apart {p q : Place} (h : p.apart q = true) : p.disjoint q := by
  intro a
  by_contra both
  simp only [not_or, ← ne_eq, Option.ne_none_iff_exists'] at both
  obtain ⟨⟨x, hx⟩, y, hy⟩ := both
  obtain ⟨i, hi, j, hj, inP⟩ := Place.at_of_find hx
  obtain ⟨k, hk, l, hl, inQ⟩ := Place.at_of_find hy
  exact Place.at_ne_of_apart h hi hj hk hl (inP.symm.trans inQ)

/-! ## The blocks -/

theorem blockMap_ordered : blockMap.Pairwise fun b c => b.base + b.span ≤ c.base := by decide

theorem blockMap_within : ∀ b ∈ blockMap, 0x40000000 ≤ b.base ∧ b.base + b.span ≤ 0x40200000 := by decide

/-- The blocks list the registers in the order of their names. -/
theorem blockMap_lists : (blockMap.flatMap (·.regs)).map Reg.ctorIdx = List.range 353 := by decide +kernel

theorem Reg.ctorIdx_lt (r : Reg) : r.ctorIdx < 353 := by cases r <;> decide

theorem block_of_reg (r : Reg) : ∃ b ∈ blockMap, r ∈ b.regs := by
  have listed : r.ctorIdx ∈ (blockMap.flatMap (·.regs)).map Reg.ctorIdx := by
    rw [blockMap_lists, List.mem_range]
    exact r.ctorIdx_lt
  obtain ⟨q, hq, same⟩ := List.mem_map.mp listed
  have name := congrArg Reg.ofNat same
  rw [Reg.ofNat_ctorIdx, Reg.ofNat_ctorIdx] at name
  exact List.mem_flatMap.mp (name ▸ hq)

theorem blockMap_apart : ∀ b ∈ blockMap, b.regs.Pairwise fun r q => r.card.place.apart q.card.place = true := by decide +kernel

/-- The cells of a register are regular, and lie in its block beside the result ring of the event engine (R318). -/
def BlockMap.holds (b : BlockMap) (p : Place) : Bool :=
  p.regular && decide (b.base ≤ p.base) && decide (p.last < b.base + b.span) &&
    (decide (p.last < 0x40098000) || decide (0x4009A000 ≤ p.base))

theorem blockMap_holds : ∀ b ∈ blockMap, ∀ r ∈ b.regs, b.holds r.card.place = true := by decide +kernel

theorem BlockMap.holds_iff {b : BlockMap} {p : Place} : b.holds p = true ↔
    p.regular = true ∧ b.base ≤ p.base ∧ p.last < b.base + b.span ∧ (p.last < 0x40098000 ∨ 0x4009A000 ≤ p.base) := by
  simp only [BlockMap.holds, Bool.and_eq_true, Bool.or_eq_true, decide_eq_true_eq, and_assoc]

theorem blockAt_of_mem {b : BlockMap} (hb : b ∈ blockMap) {a : Nat} (h1 : b.base ≤ a) (h2 : a < b.base + b.span) : blockAt a = some b := by
  obtain ⟨l, r, cut⟩ := List.append_of_mem hb
  have before : ∀ c ∈ l, c.base + c.span ≤ b.base := by
    have ordered := blockMap_ordered
    rw [cut, List.pairwise_append] at ordered
    exact fun c hc => ordered.2.2 c hc b (by simp)
  refine List.find?_eq_some_iff_append.mpr ⟨by simp [h1, h2], l, r, cut, fun c hc => ?_⟩
  have := before c hc
  simp
  omega

/-- Within a block an address is a cell of one register at most. -/
theorem find_none_of_ne {b : BlockMap} (hb : b ∈ blockMap) {r q : Reg} (hr : r ∈ b.regs) (hq : q ∈ b.regs) (ne : r ≠ q) (a : Nat) :
    r.card.place.find a = none ∨ q.card.place.find a = none :=
  have : Std.Symm fun r q : Reg => r.card.place.disjoint q.card.place := ⟨fun _ _ h a => (h a).symm⟩
  ((blockMap_apart b hb).imp Place.disjoint_of_apart).forall hr hq ne a

theorem findReg_at (r : Reg) {i j : Nat} (hi : i < r.card.place.n1) (hj : j < r.card.place.n2) :
    findReg (r.card.place.at i j) = some (r, i * r.card.place.n2 + j) := by
  obtain ⟨b, hb, hr⟩ := block_of_reg r
  obtain ⟨regular, low, high, -⟩ := BlockMap.holds_iff.mp (blockMap_holds b hb r hr)
  have block : blockAt (r.card.place.at i j) = some b :=
    blockAt_of_mem hb (low.trans (r.card.place.base_le_at i j)) ((r.card.place.at_le_last hi hj).trans_lt high)
  have cell := Place.find_at regular hi hj
  obtain ⟨k, hk⟩ : ∃ k, b.regs.findSome? (fun q => (q.card.place.find (r.card.place.at i j)).map fun i => (q, i)) = some k :=
    Option.isSome_iff_exists.mp (List.findSome?_isSome_iff.mpr ⟨r, hr, by rw [cell]; rfl⟩)
  obtain ⟨q, hq, found⟩ := List.exists_of_findSome?_eq_some hk
  have only : q = r := by
    by_contra ne
    rcases find_none_of_ne hb hq hr ne (r.card.place.at i j) with h | h
    · rw [h] at found
      cases found
    · rw [h] at cell
      cases cell
  rw [only, cell] at found
  rw [findReg, block]
  exact hk.trans found.symm

/-- A register of the peripheral region beside the result ring names itself (R42). -/
theorem targetOf_findReg {a : Nat} {k : Reg × Nat} (h1 : 0x40000000 ≤ a) (h2 : a < 0x40200000)
    (ring : a < 0x40098000 ∨ 0x4009A000 ≤ a) (h : findReg a = some k) : targetOf a = .reg k.1 k.2 := by
  have out {lo hi : Nat} (c : a < lo ∨ hi ≤ a) : within lo hi a = false := by
    simp only [within, Bool.and_eq_false_iff, decide_eq_false_iff_not]
    omega
  have inside : within 0x40000000 0x40200000 a = true := by simp [within, h1, h2]
  have flash (lo : Nat) {hi : Nat} (c : hi ≤ 0x40000000) : within lo hi a = false := out (.inr (c.trans h1))
  rw [targetOf, if_neg (by omega : ¬ a < 0x00020000), flash 0x01000000 (by decide), flash 0x01040000 (by decide),
    flash 0x02000000 (by decide), flash 0x03000000 (by decide), flash 0x20000000 (by decide), flash 0x20400000 (by decide),
    out (.inl (by omega) : a < 0x50000000 ∨ 0x50040000 ≤ a), out ring, inside, h]
  rfl

/-- Settles O54: the blocks are apart, and within a block the registers' cells are (`Place.apart`), so that the search for the address
finds its own register and, the cells being regular, its own cell. -/
theorem registerMap : Obligations.RegisterMap := by
  unfold Obligations.RegisterMap
  intro r i h
  obtain ⟨b, hb, hr⟩ := block_of_reg r
  obtain ⟨-, low, high, ring⟩ := BlockMap.holds_iff.mp (blockMap_holds b hb r hr)
  obtain ⟨first, past⟩ := blockMap_within b hb
  have cols : 0 < r.card.place.n2 := Nat.pos_of_mul_pos_left (Nat.zero_lt_of_lt h)
  have row : i / r.card.place.n2 < r.card.place.n1 := Nat.div_lt_of_lt_mul (by rwa [Nat.mul_comm])
  have col : i % r.card.place.n2 < r.card.place.n2 := Nat.mod_lt _ cols
  have address : r.addr i = r.card.place.at (i / r.card.place.n2) (i % r.card.place.n2) := rfl
  have above := r.card.place.base_le_at (i / r.card.place.n2) (i % r.card.place.n2)
  have below := r.card.place.at_le_last row col
  have found := findReg_at r row col
  rw [Nat.div_add_mod'] at found
  rw [address]
  exact targetOf_findReg (by omega) (by omega) (by omega) found

end Sys2Proof.Machine
end

section
/-! Every command ends (R42, R401), and the machine right after a power-on reset (R73, R141, R628). -/

namespace Sys2Proof.Machine

/-- Two arms of the dispatch look at their frame before they run; every other one runs whatever its operands are. -/
theorem exec_next_of_wf {i : Instr} (s : State) (h : i.wf = true) : ∃ t, exec i s = .next t := by
  cases i
  case canFrameReceived p f ago => exact ⟨_, if_pos h⟩
  case canSelectiveWake p f boot => exact ⟨_, if_pos h⟩
  all_goals exact ⟨_, rfl⟩

theorem exec_canFrameReceived_illFormed (p : Fin 8) {f : CanFrame} (ago : Nat) (s : State) (h : f.wf = false) :
    exec (.canFrameReceived p f ago) s = .fault .illFormed := if_neg (Bool.eq_false_iff.mp h)

theorem exec_canSelectiveWake_illFormed (p : Fin 8) {f : CanFrame} (boot : BootIn) (s : State) (h : f.wf = false) :
    exec (.canSelectiveWake p (some f) boot) s = .fault .illFormed := if_neg (Bool.eq_false_iff.mp h)

/-- Settles O50: a well-formed command runs, and the two that take a frame refuse an ill-formed one. -/
theorem everyCommandEnds : Obligations.EveryCommandEnds :=
  ⟨fun _ s h => exec_next_of_wf s h, fun p _ ago s h => exec_canFrameReceived_illFormed p ago s h,
    fun p _ boot s h => exec_canSelectiveWake_illFormed p boot s h⟩

theorem State.reset_mode : State.reset.mode' = 2 := by decide

/-- Settles O51: the register file of `State.reset` lists nothing, so that every register reads as its reset value, SYS_MODE as Boot. -/
theorem resetValues : Obligations.ResetValues := by
  unfold Obligations.ResetValues
  refine ⟨State.reset_mode, fun r i => rfl, by decide, rfl, rfl, Memory.wf_reset, fun service => ?_, State.reset_mode.symm, nofun⟩
  rw [State.reset_mode] at service
  cases service

end Sys2Proof.Machine
end

section
/-! The frame of a state change, rule by rule: what each shared operation adds to the registers that may have changed. -/

namespace Sys2Proof.Machine

variable {s u : State} {l : List (Reg × Nat)}

theorem State.sameBut_refl (s : State) (l : List (Reg × Nat)) : s.sameBut s l := State.sameBut_of_regs rfl rfl

/-- A further change that keeps the register file and memory. -/
theorem State.sameBut.congr {t : State} (h : s.sameBut u l) (hm : t.mem = u.mem) (hr : t.regs = u.regs) : s.sameBut t l :=
  ⟨fun a => (State.byte_congr hm a).trans (h.1 a), fun r i out => (State.rd_congr hr r i).trans (h.2 r i out)⟩

theorem State.sameBut.wr (h : s.sameBut u l) {r : Reg} {i : Nat} (v : Word) (k : (r, i) ∈ l) : s.sameBut (u.wr r i v) l :=
  ⟨h.1, fun r' i' out => (State.rd_wr_ne u v fun e => out (e.symm ▸ k)).trans (h.2 r' i' out)⟩

theorem State.sameBut.setFld (h : s.sameBut u l) {f : Fld} {i : Nat} (v : Nat) (k : (f.reg, i) ∈ l) : s.sameBut (u.setFld f i v) l :=
  h.wr _ k

theorem State.sameBut.setFlag (h : s.sameBut u l) {f : Fld} {i : Nat} (b : Bool) (k : (f.reg, i) ∈ l) :
    s.sameBut (u.setFlag f i b) l := h.wr _ k

theorem State.sameBut.bump (h : s.sameBut u l) {f : Fld} {i : Nat} (n : Nat) (k : (f.reg, i) ∈ l) : s.sameBut (u.bump f i n) l :=
  h.wr _ k

theorem State.sameBut.raise (h : s.sameBut u l) (f : FaultId) (idx : Nat) (d : List Nat) (lim : Nat) :
    s.sameBut (u.raise f idx d lim) l := h.congr (u.raise_mem f idx d lim) (u.raise_regs f idx d lim)

theorem State.sameBut.clearFault (h : s.sameBut u l) (f : FaultId) (idx : Nat) : s.sameBut (u.clearFault f idx) l :=
  h.congr (u.clearFault_mem f idx) (u.clearFault_regs f idx)

theorem State.sameBut.setBus (h : s.sameBut u l) (b : BusSt) : s.sameBut (u.setBus b) l := h.congr rfl rfl

theorem State.sameBut.dropHeld (h : s.sameBut u l) (c a : Nat) : s.sameBut (u.dropHeld c a) l :=
  h.congr (u.dropHeld_mem c a) (u.dropHeld_regs c a)

theorem State.sameBut.clearMismatch (h : s.sameBut u l) (k : Reg × Nat) : s.sameBut (u.clearMismatch k) l :=
  h.congr (u.clearMismatch_mem k) (u.clearMismatch_regs k)

end Sys2Proof.Machine
end


section
/-! Misaligned accesses (R53), and what a bus error records (R48, R61). -/

namespace Sys2Proof.Machine

/-- The registers that record a bus error. -/
def berrRegs : List (Reg × Nat) := [(.GUARD_BERR_ADDR, 0), (.GUARD_BERR_INFO, 0)]

theorem State.busError_sameBut {s u : State} (h : s.sameBut u berrRegs) (w : Who) (a : Nat) (write : Bool) (cause : Nat)
    (applied : Bool) : s.sameBut (u.busError w a write cause applied).1 berrRegs := by
  have addr : (Reg.GUARD_BERR_ADDR, 0) ∈ berrRegs := by decide
  have info : (Reg.GUARD_BERR_INFO, 0) ∈ berrRegs := by decide
  have noted := (((((h.wr (BitVec.ofNat 32 a) addr).setFld (f := F.GUARD_BERR_INFO_MASTER) w.code info).setFlag
    (f := F.GUARD_BERR_INFO_WRITE) write info).setFld (f := F.GUARD_BERR_INFO_CAUSE) cause info).setFlag
    (f := F.GUARD_BERR_INFO_APPLIED) applied info).bump (f := F.GUARD_BERR_INFO_COUNT) 1 info
  rw [State.busError]
  split
  · exact ((noted.raise _ _ _ _).setBus _).setBus _
  · exact (noted.raise _ _ _ _).setBus _

theorem State.busError_answer (s : State) (w : Who) (a : Nat) (write : Bool) (cause : Nat) (applied : Bool) :
    (s.busError w a write cause applied).1.bus.answer = .err cause := rfl

/-- Nothing that stops a misaligned access is a guard violation: alignment is judged first (log 20). -/
theorem State.stop_misaligned (s : State) (w : Who) {a n : Nat} (write : Bool) (t : Target) (h : a % n ≠ 0) :
    ∃ c < 16, s.stop w a n write t = some c := by
  unfold State.stop
  extract_lets lost narrow locked eye
  by_cases unmapped : t = .unmapped
  · exact ⟨0, by decide, if_pos unmapped⟩
  · rw [if_neg unmapped]
    split
    · exact ⟨1, by decide, rfl⟩
    · exact ⟨2, by decide, rfl⟩

theorem State.access_misaligned (s : State) (w : Who) {a n : Nat} (write : Bool) (v : Word) (h : a % n ≠ 0) :
    ∃ c, s.access w a n write v = s.busError w a write c := by
  obtain ⟨c, small, stop⟩ := s.stop_misaligned w write (targetOf (a / 4 * 4)) h
  exact ⟨c, by simp only [State.access, stop, small, if_true]⟩

theorem State.access64_misaligned (s : State) (w : Who) {a : Nat} (write : Bool) (v : Nat) (h : a % 8 ≠ 0) :
    ∃ c, s.access64 w a write v = s.busError w a write c := by
  unfold State.access64
  extract_lets t pair eye
  by_cases unmapped : t = .unmapped
  · exact ⟨0, if_pos unmapped⟩
  · rw [if_neg unmapped]
    split
    · exact ⟨1, rfl⟩
    · exact ⟨2, rfl⟩

theorem State.busWho_misaligned {s : State} {w : Who} {a : Nat} {width : Width} (write : Bool) (v : Nat) (hs : s.awake = true)
    (hm : w.mute = false) (h : a % width.bytes ≠ 0) :
    ∃ c, s.busWho w a width write v = (s.dropHeld w.code a).busError w a write c := by
  have reaches : (w.mute || !s.awake) = false := by rw [hs, hm]; rfl
  simp only [State.busWho, reaches, Bool.false_eq_true, if_false]
  split
  · next wide =>
    subst wide
    exact State.access64_misaligned _ w write v h
  · exact State.access_misaligned _ w write _ h

/-- A misaligned access ends in a bus error (R53). -/
theorem State.busWho_misaligned_ends {s : State} {w : Who} {a : Nat} {width : Width} (write : Bool) (v : Nat) (hs : s.awake = true)
    (hm : w.mute = false) (h : a % width.bytes ≠ 0) :
    (∃ c, (s.busWho w a width write v).1.bus.answer = .err c) ∧ s.sameBut (s.busWho w a width write v).1 berrRegs := by
  obtain ⟨c, ends⟩ := State.busWho_misaligned write v hs hm h
  rw [ends]
  exact ⟨⟨c, State.busError_answer ..⟩, State.busError_sameBut ((s.sameBut_refl _).dropHeld _ _) ..⟩

/-- Settles O57: alignment is judged before the access acts, for a write as for a read. -/
theorem misalignedAccess : Obligations.MisalignedAccess :=
  ⟨fun _ _ _ v _ hs hm h => ⟨_, rfl, State.busWho_misaligned_ends true v hs hm h⟩,
    fun _ _ _ _ hs hm h => ⟨_, rfl, State.busWho_misaligned_ends false 0 hs hm h⟩⟩

end Sys2Proof.Machine
end

section
/-! Accesses that nothing stops (R52, R55, R64, R66 to R71): what a granted write and a granted read do, by what the address names. -/

namespace Sys2Proof.Machine

/-! ## The shadow of a master (R55) -/

theorem lookup_getD {κ α : Type} [DecidableEq κ] (t : List (κ × α)) (k : κ) (d : α) : (lookup k t).getD d = Tbl.get (fun _ => d) t k := by
  induction t with
  | nil => rfl
  | cons e r ih =>
    obtain ⟨k', v⟩ := e
    by_cases h : k = k'
    · simp [lookup, Tbl.get, h]
    · simp [lookup, Tbl.get, h, ih]

@[simp] theorem State.shadow_setShadow (s : State) (c : Nat) (x : Shadow) : (s.setShadow c x).shadow c = x := by
  rw [State.shadow, lookup_getD]
  exact Tbl.get_set_same ..

theorem State.sameBut.setShadow {s u : State} {l : List (Reg × Nat)} (h : s.sameBut u l) (c : Nat) (x : Shadow) :
    s.sameBut (u.setShadow c x) l := h.congr rfl rfl

/-! ## Accesses that pass -/

theorem State.aligned_of_stop {s : State} {w : Who} {x n : Nat} {write : Bool} {t : Target} (h : s.stop w x n write t = none) :
    x % n = 0 := by
  by_contra mis
  obtain ⟨c, -, stop⟩ := s.stop_misaligned w write t mis
  exact nomatch h.symm.trans stop

theorem State.stop_dropHeld (s : State) (c a : Nat) (w : Who) (x n : Nat) (write : Bool) (t : Target) :
    (s.dropHeld c a).stop w x n write t = s.stop w x n write t := by
  obtain ⟨y, hy⟩ := s.dropHeld_eq c a
  rw [hy]
  rfl

theorem State.ethDark_dropHeld (s : State) (c a : Nat) (k : Reg × Nat) : (s.dropHeld c a).ethDark k = s.ethDark k := by
  obtain ⟨y, hy⟩ := s.dropHeld_eq c a
  rw [hy]
  rfl

section
variable {s : State} {w : Who} {x : Nat} {t : Target}

/-- A 32-bit access that reaches the bus is judged after the low word that the master holds for another address is dropped. -/
theorem State.busWho_word (hs : s.awake = true) (hm : w.mute = false) (write : Bool) (v : Nat) :
    s.busWho w x .b32 write v = (s.dropHeld w.code x).access w x 4 write (BitVec.ofNat 32 v) := by
  have reaches : (w.mute || !s.awake) = false := by rw [hs, hm]; rfl
  simp only [State.busWho, reaches, Bool.false_eq_true, if_false, reduceCtorEq, Width.bytes]

theorem State.busWho_write (hs : s.awake = true) (hm : w.mute = false) (ht : targetOf x = t) (pass : s.stop w x 4 true t = none) (v : Nat) :
    s.busWho w x .b32 true v = ((s.dropHeld w.code x).writeAt w x t (BitVec.ofNat 32 v) 0xFFFFFFFF true).answer (.ok 0) := by
  have aligned := State.aligned_of_stop pass
  have word : x / 4 * 4 = x := by omega
  rw [State.busWho_word hs hm]
  simp only [State.access, word, ht, State.stop_dropHeld, pass, if_true, laneMask_word aligned, beq_self_eq_true]

theorem State.busWho_read (hs : s.awake = true) (hm : w.mute = false) (ht : targetOf x = t) (pass : s.stop w x 4 false t = none) (v : Nat) :
    s.busWho w x .b32 false v = ((s.dropHeld w.code x).readAt w x t).1.answer
      (.ok (BitVec.ofNat 32 ((s.dropHeld w.code x).readAt w x t).2).toNat) := by
  have aligned := State.aligned_of_stop pass
  have word : x / 4 * 4 = x := by omega
  rw [State.busWho_word hs hm]
  simp only [State.access, word, ht, State.stop_dropHeld, pass, Bool.false_eq_true, if_false, laneMask_word aligned,
    BitVec.and_comm _ (0xFFFFFFFF : Word), ones_and]

end

/-- A full write takes its data whole, whatever the word held before. -/
theorem lanes_full (old v : Word) : (old &&& ~~~(0xFFFFFFFF : Word)) ||| (v &&& 0xFFFFFFFF) = v := by
  rw [BitVec.and_comm v, ones_and, show ~~~(0xFFFFFFFF : Word) = 0#32 from rfl, BitVec.and_zero, BitVec.zero_or]

theorem State.view_dropHeld (s : State) (c a : Nat) (r : Reg) (i : Nat) : (s.dropHeld c a).view r i = s.view r i := by
  obtain ⟨y, hy⟩ := s.dropHeld_eq c a
  rw [hy]
  rfl

/-- A stalled access whose write the target has not taken ends in a bus error of cause 3 (R59). -/
theorem State.stall_unapplied {s : State} {a : Acc} {addr v : Nat} {write applied : Bool} (reaches : (s.who a).mute = false)
    (withdrawn : (write && applied) = false) : s.stall a addr v write applied = (s.busError (s.who a) addr write 3).1 := by
  simp only [State.stall, reaches, withdrawn, Bool.false_eq_true, if_false]

/-! ## Granted accesses to a register -/

section
variable {s : State} {a : Acc} {r : Reg} {i : Nat}

theorem State.busWrite_granted (h : s.granted a r i) (v : Nat) :
    s.busWrite a (r.addr i) v = (((s.dropHeld (s.who a).code (r.addr i)).writeReg (s.who a).code (r, i) (BitVec.ofNat 32 v) 0xFFFFFFFF
      true).answer (.ok 0)).1 := by
  obtain ⟨awake, reaches, names, pass, bright⟩ := h
  rw [State.busWrite, State.busWho_write awake reaches names pass, State.writeAt, State.ethDark_dropHeld, bright]
  rfl

theorem State.busRead_granted (h : s.granted a r i false) :
    (s.busRead a (r.addr i)).1 = (((s.dropHeld (s.who a).code (r.addr i)).readHalf (s.who a).code (r, i)).1.answer
      (.ok (((s.dropHeld (s.who a).code (r.addr i)).readHalf (s.who a).code (r, i)).2 % 2 ^ 32))).1 := by
  obtain ⟨awake, reaches, names, pass, bright⟩ := h
  rw [State.busRead, State.busWho_read awake reaches names pass, State.readAt, State.ethDark_dropHeld, bright]
  rfl

end

theorem State.shadow_dropHeld_rd (s : State) (c a : Nat) : ((s.dropHeld c a).shadow c).rd = (s.shadow c).rd := by
  unfold State.dropHeld
  dsimp only
  split
  · split
    · rfl
    · rw [State.shadow_setShadow]
  · rfl

/-- A read of a register without parity, by a master that holds no other half of a pair for it. -/
theorem State.readHalf_plain {s : State} {c : Nat} {r : Reg} {i : Nat} (cfg : r.card.cfg = false) (pair : atomicHigh r = none)
    (held : (s.shadow c).rd = none) : s.readHalf c (r, i) = (s, (s.view r i).toNat) := by
  simp only [State.readHalf, State.readReg, cfg, pair, held, Bool.false_eq_true, if_false]

/-- A write of the low half of a pair is held in the master's shadow (R55). -/
theorem State.writeReg_low (s : State) (c : Nat) {r h : Reg} (i : Nat) (v : Word) (route : routeReg r = false) (pair : atomicHigh r = some h) :
    s.writeReg c (r, i) v 0xFFFFFFFF true = s.setShadow c { s.shadow c with wr := some ((r, i), v.toNat) } := by
  simp only [State.writeReg, route, pair, lanes_full, Bool.not_true, Bool.false_and, Bool.false_eq_true, if_false]

/-- A write to an eyelet sets or clears its one bit of the parent by bit 0 of its data (R64). -/
theorem State.writeAt_eyelet (s : State) {w : Who} (a : Nat) {b : Nat} {k : Reg × Nat} (v : Nat) (m : Word) (full : Bool)
    (bright : s.ethDark k = false) :
    s.writeAt w a (.eye b (some k)) (BitVec.ofNat 32 v) m full =
      s.writeReg w.code k (if v % 2 = 1 then BitVec.ofNat 32 (2 ^ b) else 0) (BitVec.ofNat 32 (2 ^ b)) false := by
  have bit : (BitVec.ofNat 32 v).getLsbD 0 = decide (v % 2 = 1) :=
    (BitVec.getLsbD_ofNat 32 v 0).trans (by simp [Nat.testBit_zero])
  simp only [State.writeAt, bright, Bool.false_eq_true, if_false, bit, decide_eq_true_eq]

/-! ## Registers with a rule of their own -/

/-- A granted write depends on the register's effect only at the state in which it acts. -/
theorem State.wrote_congr (s : State) (a : Acc) (r : Reg) (i : Nat) {f g : State → State × Nat}
    (h : f (s.dropHeld (s.who a).code (r.addr i)) = g (s.dropHeld (s.who a).code (r.addr i))) : s.wrote a r i f = s.wrote a r i g := by
  rw [State.wrote, State.wrote, h]

/-- A write of GUARD_REENABLE with GO re-enables the block that it names (R69, R70). -/
theorem State.put_guardReenable (s : State) (c : Nat) {w : Word} (go : w.getLsbD 31 = true) :
    s.put c .GUARD_REENABLE 0 w 0xFFFFFFFF = refusedAs 0x08000022
      ((s.wr .GUARD_REENABLE 0 (s.merge .GUARD_REENABLE 0 w 0xFFFFFFFF)).reenableBlock (F.GUARD_REENABLE_BLOCK.of w)) := by
  have fires : F.GUARD_REENABLE_GO.on (Reg.fired .GUARD_REENABLE w 0xFFFFFFFF) = true := (Fld.on_fired w rfl (by decide)).trans go
  have block := Fld.of_merge s (f := F.GUARD_REENABLE_BLOCK) (r := .GUARD_REENABLE) 0 w (by decide) (by decide)
  rw [← block]
  exact if_pos fires

/-- CLR of GUARD_VIOL clears the count of violations (R71). -/
theorem State.put_guardViol_clr (s : State) (c : Nat) {w : Word} (clr : w.getLsbD 31 = true) :
    s.put c .GUARD_VIOL 0 w 0xFFFFFFFF =
      ((s.wr .GUARD_VIOL 0 (s.merge .GUARD_VIOL 0 w 0xFFFFFFFF)).setFld F.GUARD_VIOL_COUNT 0 0, 0) := by
  have fires : F.GUARD_VIOL_CLR.on (Reg.fired .GUARD_VIOL w 0xFFFFFFFF) = true := (Fld.on_fired w rfl (by decide)).trans clr
  exact congrArg (·, 0) (if_pos fires)

/-- CLR of GUARD_BERR_INFO clears the count of bus errors (R71). -/
theorem State.put_guardBerrInfo_clr (s : State) (c : Nat) {w : Word} (clr : w.getLsbD 31 = true) :
    s.put c .GUARD_BERR_INFO 0 w 0xFFFFFFFF =
      ((s.wr .GUARD_BERR_INFO 0 (s.merge .GUARD_BERR_INFO 0 w 0xFFFFFFFF)).setFld F.GUARD_BERR_INFO_COUNT 0 0, 0) := by
  have fires : F.GUARD_BERR_INFO_CLR.on (Reg.fired .GUARD_BERR_INFO w 0xFFFFFFFF) = true := (Fld.on_fired w rfl (by decide)).trans clr
  exact congrArg (·, 0) (if_pos fires)

/-- A granted write that stores a word and clears a field of it. -/
theorem State.wrote_cleared (s : State) (a : Acc) {f : Fld} (fits : f.fits) {g : State → State × Nat} {n : State → Word}
    (h : ∀ u : State, g u = ((u.wr f.reg 0 (n u)).setFld f 0 0, 0)) :
    (s.wrote a f.reg 0 g).fld f = 0 ∧ s.sameBut (s.wrote a f.reg 0 g) [(f.reg, 0)] := by
  rw [State.wrote_congr s a f.reg 0 (g := fun u => ((u.wr f.reg 0 (n u)).setFld f 0 0, 0)) (h _),
    State.wrote_accepted s a f.reg 0 fun u => (u.wr f.reg 0 (n u)).setFld f 0 0, State.answer_fst]
  have self : (f.reg, 0) ∈ [(f.reg, 0)] := List.mem_singleton_self _
  refine ⟨?_, (((((s.sameBut_refl _).dropHeld _ _).wr _ self).setFld 0 self).clearMismatch _).setBus _⟩
  refine (State.fld_congr (State.clearMismatch_regs _ _) f 0).trans ?_
  exact (State.fld_setFld_same _ fits 0 0).trans (Nat.zero_mod _)

/-- Settles O5: an access that nothing stops acts on what its address names; the others are what their operation is. -/
theorem busAccesses : Obligations.BusAccesses := by
  unfold Obligations.BusAccesses
  refine ⟨?write, ?read, ?low, ?eyelet, ?stallRead, ?stallWrite, ?scrub, ?asleep, ?reenable, ?viol, ?berr⟩
  case write => exact fun s a r i v h route high low => State.run_next rfl (State.busPut_wrote h v route high low)
  case read =>
    intro s a r i h cfg pair held
    refine State.run_completes (f := fun s => (s.busRead a (r.addr i)).1) rfl ?_
    rw [State.busRead_granted h, State.readHalf_plain cfg pair ((s.shadow_dropHeld_rd _ _).trans held), State.view_dropHeld,
      Nat.mod_eq_of_lt (s.view r i).isLt]
    exact ⟨rfl, ((s.sameBut_refl []).dropHeld _ _).setBus _⟩
  case low =>
    intro s a r h i v granted pair route
    refine State.run_completes (f := fun s => s.busWrite a (r.addr i) v) rfl ?_
    rw [State.busWrite_granted granted, State.writeReg_low _ _ _ _ route pair]
    exact ⟨congrArg Shadow.wr (State.shadow_setShadow _ _ _), (((s.sameBut_refl []).dropHeld _ _).setShadow _ _).setBus _⟩
  case eyelet =>
    intro s a addr b r i v awake reaches names aligned pass bright
    refine State.run_next (f := fun s => s.busWrite a addr v) rfl ?_
    rw [State.busWrite, State.busWho_write awake reaches names pass, State.writeAt_eyelet _ _ _ _ _ (by rwa [State.ethDark_dropHeld])]
  case stallRead => exact fun s a addr applied reaches => State.run_next rfl (State.stall_unapplied reaches rfl)
  case stallWrite => exact fun s a addr v reaches => State.run_next rfl (State.stall_unapplied reaches rfl)
  case scrub =>
    rintro s l _ rfl awake
    exact State.run_next rfl (if_neg (by simp [awake]))
  case asleep =>
    rintro s l _ rfl asleep
    exact State.run_next rfl (if_pos (by simp [asleep]))
  case reenable =>
    intro s a blk h
    have go : (BitVec.ofNat 32 (blk % 256 + 2 ^ 31)).getLsbD 31 = true := by
      rw [BitVec.getLsbD_ofNat, Nat.add_comm, Nat.testBit_two_pow_add_eq, Nat.testBit_lt_two_pow (by omega)]
      rfl
    have block : F.GUARD_REENABLE_BLOCK.of (BitVec.ofNat 32 (blk % 256 + 2 ^ 31)) = blk % 256 := by
      simp only [Fld.of, BitVec.toNat_ofNat]
      omega
    refine ⟨(s.dropHeld (s.who a).code (Reg.addr .GUARD_REENABLE 0)).merge .GUARD_REENABLE 0 (BitVec.ofNat 32 (blk % 256 + 2 ^ 31))
        0xFFFFFFFF,
      State.run_next (f := fun s => s.busPut a .GUARD_REENABLE 0 (blk % 256 + 2 ^ 31)) rfl ?_⟩
    rw [State.busPut_wrote h _ rfl rfl rfl]
    exact s.wrote_congr a _ 0 ((State.put_guardReenable _ _ go).trans (by rw [block]))
  case viol =>
    intro s a h
    refine State.run_completes (f := fun s => s.busPut a .GUARD_VIOL 0 (2 ^ 31)) rfl ?_
    rw [State.busPut_wrote h _ rfl rfl rfl]
    exact s.wrote_cleared a (f := F.GUARD_VIOL_COUNT) (by simp [Fld.fits]) fun u => u.put_guardViol_clr _ (by decide)
  case berr =>
    intro s a h
    refine State.run_completes (f := fun s => s.busPut a .GUARD_BERR_INFO 0 (2 ^ 31)) rfl ?_
    rw [State.busPut_wrote h _ rfl rfl rfl]
    exact s.wrote_cleared a (f := F.GUARD_BERR_INFO_COUNT) (by simp [Fld.fits]) fun u => u.put_guardBerrInfo_clr _ (by decide)

end Sys2Proof.Machine
end

section
/-! The host register port (R74 to R83): what each frame answers, the end of its session and of its lockout. -/

namespace Sys2Proof.Machine

/-! ## What the port looks at before a frame -/

theorem State.hrpUnlock_due {s : State} {t : Nat} (h : s.bus.hrp.lockUntil = some t) (due : t ≤ s.now) :
    s.hrpUnlock = ((s.setHrp { s.bus.hrp with lockUntil := none }).setFld F.SYS_HRP_STAT_FAILS 0 0).clearFault .HRP_AUTH_FAIL := by
  rw [State.hrpUnlock, h]
  exact if_pos due

/-- The look at the lockout changes registers, journal and port alone. -/
theorem State.hrpUnlock_eq (s : State) : ∃ r j b, s.hrpUnlock = { s with regs := r, jnl := j, bus := b } := by
  unfold State.hrpUnlock
  split
  · split
    · obtain ⟨j, h⟩ := ((s.setHrp { s.bus.hrp with lockUntil := none }).setFld F.SYS_HRP_STAT_FAILS 0 0).clearFault_eq .HRP_AUTH_FAIL 0
      exact ⟨_, _, _, h⟩
    · exact ⟨s.regs, s.jnl, s.bus, rfl⟩
  · exact ⟨s.regs, s.jnl, s.bus, rfl⟩

/-- The state that a frame meets: an idle session and an ended lockout have ended. -/
theorem State.hrpReady_eq (s : State) : ∃ r j b, (s.when s.hrpStale State.hrpEnd).hrpUnlock = { s with regs := r, jnl := j, bus := b } := by
  obtain ⟨r, j, b, h⟩ := (s.when s.hrpStale State.hrpEnd).hrpUnlock_eq
  refine ⟨r, j, b, h.trans ?_⟩
  cases s.hrpStale <;> rfl

theorem State.hrpServe_on {s v : State} (on : s.hrpOn = true) (hv : v = (s.when s.hrpStale State.hrpEnd).hrpUnlock) (x : HrpReq) :
    s.hrpServe x = v.hrpDo x := by
  rw [State.hrpServe, State.hrpFrame, on, hv]
  rfl

theorem hrpFrame_completes {c : Instr} {s v : State} {x y : HrpReq} {P : State → Prop}
    (h : exec c s = .next (s.run fun s => s.hrpServe x)) (on : s.hrpOn = true)
    (hv : v = (s.when s.hrpStale State.hrpEnd).hrpUnlock) (hx : x = y) (hp : P (v.hrpDo y)) : Completes c s P :=
  State.run_completes h (by rw [State.hrpServe_on on hv, hx]; exact hp)

/-! ## Frames -/

theorem State.hrpReply_regs (s : State) (good : Bool) (data : List Nat) (status done : Nat) :
    (s.hrpReply good data status done).regs = s.regs := rfl

theorem State.hrpReply_bus (s : State) (good : Bool) (data : List Nat) (status done : Nat) :
    (s.hrpReply good data status done).bus = { s.bus with hrp := { s.bus.hrp with
      status := status + s.hrpBits, done := done, reply := data, lastOk := if good then s.now else s.bus.hrp.lastOk } } := rfl

theorem State.sameBut.hrpReply {s u : State} {l : List (Reg × Nat)} (h : s.sameBut u l) (good : Bool) (data : List Nat) (status done : Nat) :
    s.sameBut (u.hrpReply good data status done) l := h.congr rfl rfl

theorem State.fld_bump (s : State) {f : Fld} (fits : f.fits) (i n : Nat) :
    (s.bump f i n).fld f i = Nat.min (s.fld f i + n) (2 ^ f.w - 1) := by
  have room : 0 < 2 ^ f.w := by positivity
  have cut : Nat.min (s.fld f i + n) (2 ^ f.w - 1) ≤ 2 ^ f.w - 1 := Nat.min_le_right _ _
  exact (State.fld_setFld_same _ fits _ _).trans (Nat.mod_eq_of_lt (by omega))

/-- A frame in error is counted, up to the width of CRC_ERR (R80). -/
theorem State.hrpBad_crcErr (s : State) (bit : Nat) :
    (s.hrpBad bit).fld F.SYS_HRP_STAT_CRC_ERR = Nat.min (s.fld F.SYS_HRP_STAT_CRC_ERR + 1) 65535 := by
  have regs : (s.hrpBad bit).regs = (s.bump F.SYS_HRP_STAT_CRC_ERR).regs := rfl
  exact (State.fld_congr regs _ _).trans (s.fld_bump (by simp [Fld.fits]) 0 1)

/-- A frame in error changes neither the session nor the time of the last good frame (R80). -/
theorem State.hrpBad_port (s : State) (bit : Nat) : (s.hrpBad bit).bus.hrp.session = s.bus.hrp.session ∧
    (s.hrpBad bit).bus.hrp.done = 0 ∧ (s.hrpBad bit).bus.hrp.lastOk = s.bus.hrp.lastOk := by
  rw [State.hrpBad, State.hrpReply_bus, State.bump_bus]
  exact ⟨rfl, rfl, rfl⟩

theorem State.hrpBad_sameBut (s : State) (bit : Nat) : s.sameBut (s.hrpBad bit) [(.SYS_HRP_STAT, 0)] :=
  ((s.sameBut_refl _).bump (f := F.SYS_HRP_STAT_CRC_ERR) 1 (List.mem_singleton_self _)).hrpReply false [] bit 0

/-- SESS_AUTH with the right tag opens the session (R81). -/
theorem State.hrpAuth_ok {s : State} {tag : List Byte} (free : s.bus.hrp.lockUntil = none) (good : s.cust.bad.contains 7 = false)
    (right : s.hrpTagOk tag = true) :
    s.hrpAuth tag = (((s.setHrp { s.bus.hrp with nonce := none }).setHrp { s.bus.hrp with nonce := none, session := true }).setFld
      F.SYS_HRP_STAT_FAILS 0 0).hrpReply true [] 1 8 := by
  have used : s.keyUsed 7 = s := if_neg (by rw [good]; exact Bool.false_ne_true)
  simp only [State.hrpAuth, used, free, right, Option.isNone_none, Bool.and_true, if_true]
  rfl

/-- Settles O6. -/
theorem hostPort : Obligations.HostPort := by
  unfold Obligations.HostPort
  refine ⟨?read, ?write, ?status, ?openSess, ?auth, ?close, ?bad, ?timeout, ?unlock⟩
  case read => exact fun s v b addr n on hv h => hrpFrame_completes rfl on hv h ⟨rfl, rfl⟩
  case write => exact fun s v b addr data on hv h => hrpFrame_completes rfl on hv h ⟨rfl, rfl⟩
  case status => exact fun s v b on hv h => hrpFrame_completes rfl on hv h ⟨rfl, (v.sameBut_refl []).hrpReply _ _ _ _⟩
  case openSess =>
    intro s v b on hv h
    have same : v.free = s.free ∧ v.now = s.now := by
      obtain ⟨r, j, b, e⟩ := s.hrpReady_eq
      rw [hv, e]
      exact ⟨rfl, rfl⟩
    obtain ⟨free, now⟩ := same
    rw [← free, ← now]
    exact hrpFrame_completes rfl on hv h ⟨rfl, rfl, rfl, (v.sameBut_refl []).congr rfl rfl⟩
  case auth =>
    intro s v b tag on hv h unlocked good right
    have cust : v.cust = s.cust := by
      obtain ⟨r, j, b, e⟩ := s.hrpReady_eq
      rw [hv, e]
    refine hrpFrame_completes rfl on hv h ?_
    rw [State.hrpDo, State.hrpAuth_ok unlocked (by rwa [cust]) right]
    exact ⟨rfl, rfl, (State.fld_congr (State.hrpReply_regs ..) _ _).trans (State.fld_setFld_same _ (by simp [Fld.fits]) 0 0)⟩
  case close => exact fun s v b on hv h => hrpFrame_completes rfl on hv h ⟨rfl, (v.sameBut_refl []).congr rfl rfl⟩
  case bad =>
    intro s v b cut bit on hv h
    obtain ⟨k, frame⟩ : ∃ k, (if cut then HrpReq.bad 64 else hrpParse b) = .bad k := by
      rcases h with rfl | h
      · exact ⟨64, rfl⟩
      · cases cut
        · exact ⟨bit, h⟩
        · exact ⟨64, rfl⟩
    obtain ⟨session, done, lastOk⟩ := v.hrpBad_port k
    exact hrpFrame_completes rfl on hv frame ⟨v.hrpBad_crcErr k, session, done, lastOk, v.hrpBad_sameBut k⟩
  case timeout => exact fun s h => State.run_next rfl (if_pos h)
  case unlock =>
    intro s t h
    have later : (s.advanceTo t).bus.hrp.lockUntil = some t := h
    refine State.run_completes (f := fun s => s.hrpLockEnd) rfl ?_
    have unlocked : s.hrpLockEnd = (s.advanceTo t).hrpUnlock := by rw [State.hrpLockEnd, h]
    rw [unlocked, State.hrpUnlock_due later (Nat.le_max_right _ _)]
    have stat : (Reg.SYS_HRP_STAT, 0) ∈ [(Reg.SYS_HRP_STAT, 0)] := List.mem_singleton_self _
    refine ⟨?_, ?_, State.active_clearFault _ _ _, ?_⟩
    · rw [State.clearFault_bus]
      rfl
    · exact (State.fld_congr (State.clearFault_regs _ _ _) _ _).trans (State.fld_setFld_same _ (by simp [Fld.fits]) 0 0)
    · have moved := (s.sameBut_refl [(.SYS_HRP_STAT, 0)]).congr (t := (s.advanceTo t).setHrp { (s.advanceTo t).bus.hrp with lockUntil := none })
        rfl rfl
      exact (moved.setFld (f := F.SYS_HRP_STAT_FAILS) 0 stat).clearFault _ _

end Sys2Proof.Machine
end

section
/-! What a power-on reset and a module reset leave when the start-up begins, and the end of Boot (R73, R143, R155, R168, R628). -/

namespace Sys2Proof.Machine

/-! ## The cause of a reset -/

/-- SYS_RST_CAUSE shows the causes that the reset was given; only RESOLE may come beside them (R598, R628). -/
theorem State.flag_rstCause (s : State) (bits : Nat) {f : Fld} (reg : f.reg = .SYS_RST_CAUSE) (one : f.w = 1) (low : f.lsb < 6) :
    (s.rstCause bits).flag f 0 = bits.testBit f.lsb := by
  have resole : (if s.resoling then 64 else 0).testBit f.lsb = false := by
    split
    · exact Nat.testBit_two_pow_of_ne (n := 6) (by omega)
    · exact Nat.zero_testBit _
  have bit : (s.fld F.SYS_RST_CAUSE_LIMP_COUNT * 256 + (bits ||| if s.resoling then 64 else 0) % 128).testBit f.lsb = bits.testBit f.lsb := by
    rw [Nat.mul_comm, show (256 : Nat) = 2 ^ 8 from rfl, show (128 : Nat) = 2 ^ 7 from rfl,
      Nat.testBit_two_pow_mul_add _ (by omega), if_pos (by omega), Nat.testBit_mod_two_pow, Nat.testBit_or, resole]
    simp
    omega
  have word : (BitVec.ofNat 32 (s.fld F.SYS_RST_CAUSE_LIMP_COUNT * 256 + (bits ||| if s.resoling then 64 else 0) % 128)).toNat.testBit f.lsb =
      bits.testBit f.lsb := by
    rw [BitVec.toNat_ofNat, Nat.testBit_mod_two_pow, bit]
    simp
    omega
  rw [State.flag, State.fld, reg, State.rstCause, State.rd_wr_same, Fld.of, one, ← word, Nat.testBit_eq_decide_div_mod_eq]
  generalize (BitVec.ofNat 32 _).toNat / 2 ^ f.lsb = n
  rcases Nat.mod_two_eq_zero_or_one n with h | h <;> simp [h]

/-! ## The power-on reset -/

/-- A module without power, with the pins and the plate as they then are (R73). -/
def State.blank (s : State) (slot : Nat) (aon : Bool) (boot : BootIn) : State :=
  let s := s.cold aon false
  { s with pins := { s.pins with slot := slot % 64 }, plate := { t1 := boot.t1, t2 := boot.t2 } }

/-- The state in which the start-up of a power-on reset begins. -/
def State.powerUp (s : State) (slot keep : Nat) (aon : Bool) (boot : BootIn) : State :=
  let s := ((s.blank slot aon boot).rstCause (if aon then 3 else 1)).keepVolt keep
  if keep < 900 then s.raise .BERTH_NO_KEEP else s

theorem State.powerOn_eq (s : State) (slot keep : Nat) (aon : Bool) (boot : BootIn) :
    s.powerOn slot keep aon boot = ((s.powerUp slot keep aon boot).startUp boot true).wireDefault := rfl

theorem State.setFld_eq (s : State) (f : Fld) (i v : Nat) : ∃ r, s.setFld f i v = { s with regs := r } := ⟨_, rfl⟩

theorem State.sources_eq (s : State) : ∃ r, s.sources = { s with regs := r } := by
  unfold State.sources
  generalize (List.range 4).foldl (fun a f => Nat.max a (s.vfeed f)) s.sup.keep = v
  obtain ⟨q, h⟩ := s.setFld_eq F.BERTH_VKEEP_VSRC 0 (Nat.min 65535 v)
  obtain ⟨r, h'⟩ := (s.setFld F.BERTH_VKEEP_VSRC 0 (Nat.min 65535 v)).setFld_eq F.BERTH_VKEEP_KEEP 0 (Nat.min 65535 s.sup.keep)
  exact ⟨r, by rw [h', h]⟩

theorem State.keepVolt_eq (s : State) (v : Nat) : ∃ r, s.keepVolt v = { s with regs := r, sup := { s.sup with keep := v } } := by
  have ok (u : State) : ∃ q, u.setFlag F.BERTH_STAT_KEEP_OK 0 (decide (900 ≤ v)) = { u with regs := q } := u.setFld_eq _ _ _
  obtain ⟨q, h⟩ := ok (s.setSup { s.sup with keep := v })
  obtain ⟨r, h'⟩ := ((s.setSup { s.sup with keep := v }).setFlag F.BERTH_STAT_KEEP_OK 0 (decide (900 ≤ v))).sources_eq
  exact ⟨r, by rw [State.keepVolt, h', h]; rfl⟩

theorem State.raise_if_eq (s : State) (c : Prop) [Decidable c] (f : FaultId) :
    ∃ j m, (if c then s.raise f else s) = { s with jnl := j, mode := m } := by
  split
  · obtain ⟨j, l, h⟩ := s.raiseC_eq f f.cls 0 [] 0
    exact ⟨j, _, h⟩
  · exact ⟨s.jnl, s.mode, rfl⟩

/-- The start-up begins with what a blank module holds beside registers, journal, mode and KEEP. -/
theorem State.powerUp_eq (s : State) (slot keep : Nat) (aon : Bool) (boot : BootIn) : ∃ j m, s.powerUp slot keep aon boot =
    { ((s.blank slot aon boot).rstCause (if aon then 3 else 1)).keepVolt keep with jnl := j, mode := m } := State.raise_if_eq _ _ _

theorem State.rd_keepVolt (s : State) (v : Nat) {r : Reg} (h1 : r ≠ .BERTH_STAT) (h2 : r ≠ .BERTH_VKEEP) (i : Nat) :
    (s.keepVolt v).rd r i = s.rd r i := by
  have stat : (r, i) ≠ (Reg.BERTH_STAT, 0) := fun e => h1 (congrArg Prod.fst e)
  have vkeep : (r, i) ≠ (Reg.BERTH_VKEEP, 0) := fun e => h2 (congrArg Prod.fst e)
  rw [State.keepVolt, State.sources, State.rd_setFld_ne _ vkeep, State.rd_setFld_ne _ vkeep, State.setFlag, State.rd_setFld_ne _ stat]
  rfl

/-- Beside the registers of KEEP the start-up of a power-on reset begins with the cause of the reset and blank registers. -/
theorem State.rd_powerUp (s : State) (slot keep : Nat) (aon : Bool) (boot : BootIn) {r : Reg} (h1 : r ≠ .BERTH_STAT) (h2 : r ≠ .BERTH_VKEEP)
    (i : Nat) : (s.powerUp slot keep aon boot).rd r i = ((s.blank slot aon boot).rstCause (if aon then 3 else 1)).rd r i := by
  obtain ⟨j, m, h⟩ := s.powerUp_eq slot keep aon boot
  have same (u : State) : State.rd { u with jnl := j, mode := m } r i = u.rd r i := rfl
  rw [h, same, State.rd_keepVolt _ keep h1 h2]

theorem State.powerUp_flag (s : State) (slot keep : Nat) (aon : Bool) (boot : BootIn) {f : Fld} (reg : f.reg = .SYS_RST_CAUSE) (one : f.w = 1)
    (low : f.lsb < 6) : (s.powerUp slot keep aon boot).flag f = (if aon then 3 else 1).testBit f.lsb := by
  rw [← State.flag_rstCause (s.blank slot aon boot) _ reg one low, State.flag, State.flag, State.fld, State.fld, reg,
    State.rd_powerUp s slot keep aon boot (by decide) (by decide)]

theorem State.powerUp_mode' (s : State) (slot keep : Nat) (aon : Bool) (boot : BootIn) : (s.powerUp slot keep aon boot).mode' = 2 := by
  rw [State.mode', State.fld, State.rd_powerUp s slot keep aon boot (by decide) (by decide), State.rstCause, State.rd_wr_ne _ _ (by decide)]
  exact State.reset_mode

theorem State.powerUp_fields (s : State) (slot keep : Nat) (aon : Bool) (boot : BootIn) : (s.powerUp slot keep aon boot).sup.keep = keep ∧
    (s.powerUp slot keep aon boot).pins.slot = slot % 64 ∧ (s.powerUp slot keep aon boot).can = [] ∧
    (s.powerUp slot keep aon boot).eve = {} := by
  obtain ⟨j, m, h⟩ := s.powerUp_eq slot keep aon boot
  obtain ⟨r, hr⟩ := ((s.blank slot aon boot).rstCause (if aon then 3 else 1)).keepVolt_eq keep
  rw [h, hr]
  exact ⟨rfl, rfl, rfl, rfl⟩

/-! ## The module reset -/

/-- What a module reset empties or writes afresh, and no output stage touches: the state of Boot, the controllers, the gateway, the event
store. -/
def State.rested (s : State) : ModeSt × List (Nat × CanCtl) × GwySt × EveSt := (s.mode, s.can, s.gwy, s.eve)

theorem State.rested_clearFault (s : State) (f : FaultId) (idx : Nat) : (s.clearFault f idx).rested = s.rested := by
  obtain ⟨j, h⟩ := s.clearFault_eq f idx
  rw [h]
  rfl

theorem State.rested_clearAll (s : State) (p : Active → Bool) : (s.clearAll p).rested = s.rested :=
  State.each_keeps s _ _ State.rested fun s a => s.rested_clearFault a.f a.idx

theorem State.rested_parityReset (s : State) : s.parityReset.rested = s.rested := by
  unfold State.parityReset
  refine (State.each_keeps _ _ _ State.rested fun s b => ?_).trans rfl
  unfold State.parityJudge
  split
  · rfl
  · exact s.rested_clearFault .CFG_PARITY b

theorem State.rested_setFld (s : State) (f : Fld) (i v : Nat) : (s.setFld f i v).rested = s.rested := rfl

theorem State.rested_setFlag (s : State) (f : Fld) (i : Nat) (b : Bool) : (s.setFlag f i b).rested = s.rested := rfl

theorem State.rested_setTide (s : State) (t : TideSt) : (s.setTide t).rested = s.rested := rfl

theorem State.rested_setSwc (s : State) (n : Nat) (x : SwCh) : (s.setSwc n x).rested = s.rested := rfl

theorem State.rested_setInj (s : State) (x : InjSt) : State.rested { s with inj := x } = s.rested := rfl

theorem State.rested_resetDomains (s : State) (ds : List Domain) (keep : List Reg) : (s.resetDomains ds keep).rested = s.rested := rfl

theorem State.rested_rstCause (s : State) (bits : Nat) : (s.rstCause bits).rested = s.rested := rfl

theorem State.rested_tideResume (s : State) : s.tideResume.rested = s.rested := by
  unfold State.tideResume State.validate
  extract_lets blank s1
  have tide : s1.rested = s.rested := s.rested_setTide _
  split
  · exact tide
  · rw [State.rested_setFld, State.rested_setFlag, State.rested_setFld, State.rested_setFlag, State.rested_setFld, State.rested_setTide, tide]

theorem State.rested_freezeInrush (s : State) (c : Nat) : (s.freezeInrush c).rested = s.rested := by
  unfold State.freezeInrush
  dsimp only
  split
  · rw [State.rested_setSwc, State.rested_setFlag, State.rested_setFlag]
  · split
    · rw [State.rested_setSwc, State.rested_setFlag]
    · rfl

theorem State.rested_stage (s : State) (d : Drive) (c : Nat) : (s.stage d c).rested = s.rested := by
  unfold State.stage
  extract_lets _ x y s1 s2
  have pulled : s2.rested = s.rested := by
    have stage : s1.rested = s.rested := (State.rested_freezeInrush _ c).trans rfl
    simp only [s2]
    split
    · rw [State.rested_setFlag, stage]
    · exact stage
  split
  · rw [State.rested_setFlag, State.rested_setFlag, State.rested_setFlag, State.rested_setFld, pulled]
  · split
    · rw [State.rested_setFld, pulled]
    · exact pulled

theorem State.rested_refreshAll (s : State) : s.refreshAll.rested = s.rested :=
  State.each_keeps s _ _ State.rested fun s _ => State.each_keeps s _ _ State.rested fun s c => s.rested_stage _ c

theorem State.rested_dioRefresh (s : State) : s.dioRefresh.rested = s.rested := by
  unfold State.dioRefresh
  dsimp only
  rw [State.rested_setFlag]
  exact State.each_keeps s _ _ State.rested fun s m => s.rested_setFld _ _ _

theorem State.rested_bstRefresh (s : State) (x : Nat) : (s.bstRefresh x).rested = s.rested := by
  unfold State.bstRefresh
  extract_lets may s1 inj s2
  have enabled : s2.rested = s.rested := (s1.rested_setInj _).trans (s.rested_setFlag _ _ _)
  split
  · rfl
  · split
    · exact enabled
    · rw [State.rested_setFlag, enabled]

theorem State.rested_bstAll (s : State) : s.bstAll.rested = s.rested := by
  rw [State.bstAll, State.rested_bstRefresh, State.rested_bstRefresh]

/-- The start-up of a module reset begins in Boot with the reset's cause, with empty controllers, gateway and event store. -/
theorem State.moduleReset_startUp (s : State) (bit : Nat) (boot : BootIn) : ∃ v : State, s.moduleReset bit boot = v.startUp boot false ∧
    v.mode.bootCause = bit ∧ v.mode.reset = none ∧ v.can = [] ∧ v.gwy = {} ∧ v.eve = {} := by
  unfold State.moduleReset
  extract_lets prev s1 s2 s3 s4 inj s5 jnl bus clk cal emptied parity domains cause marked cleared resumed
  have atCause : cause.rested = emptied.rested := by
    rw [State.rested_rstCause, State.rested_setFld, State.rested_resetDomains, State.rested_parityReset]
  have atEnd : resumed.rested = marked.rested := by
    rw [State.rested_bstAll, State.rested_dioRefresh, State.rested_refreshAll, State.rested_tideResume, State.rested_clearAll]
  have blocks : (marked.can, marked.gwy, marked.eve) = ([], {}, {}) := congrArg Prod.snd atCause
  have ends := atEnd.trans (congrArg (Prod.mk marked.mode) blocks)
  simp only [State.rested, Prod.mk.injEq] at ends
  obtain ⟨mode, can, gwy, eve⟩ := ends
  refine ⟨resumed, rfl, ?_, ?_, can, gwy, eve⟩
  · rw [mode]
  · rw [mode]

/-! ## The end of Boot -/

/-- Boot leads to Operate (R143, R155): AUTOSTART as it counts with its safe value, not after a wake of cause 14, with a valid set and a feed. -/
def State.autoStarts (s : State) : Bool :=
  s.flag F.SYS_CFG_AUTOSTART && !s.isSafe .sysCfg && !(s.mode.bootCause == 2 && s.fld F.NM_WAKE_REASON_CAUSE == 14) && s.mode.setApplied &&
    s.anyFeed

/-- A Boot whose start-up is done. -/
def State.booted (s : State) : State := if s.mode.started then s else (s.startUp s.bootSame true).wireDefault

/-- The faults of Boot are judged and its end is noted. -/
def State.bootEnds (s : State) : State :=
  { s.bootFaults.journalBoot with mode := { s.bootFaults.journalBoot.mode with bootEndAt := s.bootFaults.journalBoot.now } }

section
variable {s w v : State} (hw : w = s.booted) (boot : s.mode' = 2) (begun : w.mode' = 2) (idle : w.resoling = false)
  (free : w.mode.holdBoot = false) (hv : v = w.bootEnds)
include hw boot begun idle free hv

theorem State.bootComplete_eq : s.bootComplete = if v.pins.recov then
      (if (v.takeTrigger 4).2 then (v.takeTrigger 4).1.enterRecovery 2 else (v.takeTrigger 4).1)
    else (((if v.autoStarts then v.enterOperate else v.enterConfigure).bootNm.nmtSend 0).dbgHeld) := by
  subst hv hw
  have runs : (decide (s.booted.mode' ≠ 2) || s.booted.resoling || s.booted.mode.holdBoot) = false := by
    rw [begun, idle, free]
    rfl
  unfold State.bootComplete
  rw [if_neg (not_not.mpr boot)]
  exact if_neg (Bool.eq_false_iff.mp runs)

theorem State.bootComplete_recovery (low : v.pins.recov = true) (taken : (v.takeTrigger 4).2 = true) :
    s.bootComplete = (v.takeTrigger 4).1.enterRecovery 2 := by
  rw [State.bootComplete_eq hw boot begun idle free hv, if_pos low, if_pos taken]

theorem State.bootComplete_configure (high : v.pins.recov = false) (no : v.autoStarts = false) :
    s.bootComplete = (v.enterConfigure.bootNm.nmtSend 0).dbgHeld := by
  rw [State.bootComplete_eq hw boot begun idle free hv, if_neg (Bool.eq_false_iff.mp high), if_neg (Bool.eq_false_iff.mp no)]

theorem State.bootComplete_operate (high : v.pins.recov = false) (yes : v.autoStarts = true) :
    s.bootComplete = (v.enterOperate.bootNm.nmtSend 0).dbgHeld := by
  rw [State.bootComplete_eq hw boot begun idle free hv, if_neg (Bool.eq_false_iff.mp high), if_pos yes]

end

/-- Settles O8: the state in which a reset's start-up begins, and the branches of the end of Boot. -/
theorem resets : Obligations.Resets := by
  unfold Obligations.Resets
  refine ⟨?powerOn, ?module, ?elsewhere, ?recovery, ?configure, ?operate, ?holdup⟩
  case powerOn =>
    intro s slot keep aon boot
    obtain ⟨kept, strap, can, eve⟩ := s.powerUp_fields slot keep (aon && s.flag F.BERTH_SUP_STAT_HOLDUP) boot
    refine ⟨_, rfl, s.powerUp slot keep (aon && s.flag F.BERTH_SUP_STAT_HOLDUP) boot, s.powerOn_eq _ _ _ _, ?_, ?_, s.powerUp_mode' _ _ _ _,
      kept, strap.trans (Nat.mod_eq_of_lt slot.isLt), can, eve⟩
    · rw [State.powerUp_flag s _ _ _ _ rfl rfl (by decide)]
      split <;> rfl
    · rw [State.powerUp_flag s _ _ _ _ rfl rfl (by decide)]
      cases aon && s.flag F.BERTH_SUP_STAT_HOLDUP <;> rfl
  case module =>
    intro s cause boot awake
    exact State.runOn_completes (f := fun s => s.moduleReset (Machine.ResetCause.bit cause) boot) rfl awake
      (s.moduleReset_startUp _ boot)
  case elsewhere => exact fun s h => State.run_next rfl (if_pos h)
  case recovery =>
    intro s w v hw boot begun idle free hv low taken
    exact State.run_next rfl (State.bootComplete_recovery hw boot begun idle free hv low taken)
  case configure =>
    intro s w v hw boot begun idle free hv high missing
    refine State.run_next rfl (State.bootComplete_configure hw boot begun idle free hv high ?_)
    rcases missing with no | no | no <;> simp [State.autoStarts, no]
  case operate =>
    intro s w v hw boot begun idle free hv high auto safe set feed cause
    refine State.run_next rfl (State.bootComplete_operate hw boot begun idle free hv high ?_)
    simp [State.autoStarts, auto, safe, set, feed, cause]
  case holdup => exact fun s aon boot h => State.run_next rfl (if_pos h)

end Sys2Proof.Machine
end

section
/-! The plate temperature (R112 to R114): what one reading of the sensors does to PLATE_HOT, and the judgements that follow it. -/

namespace Sys2Proof.Machine

/-! ## The PLATE_HOT rule, which every reading feeds (R112) -/

theorem State.tp_congr {s u : State} (h : u.plate = s.plate) : u.tp = s.tp := by rw [State.tp, State.tp, h]

section
variable {s v : State} {t1 t2 : Sens} (hv : v = { s with plate := ⟨t1, t2⟩ })
include hv

theorem State.plateHot_eq : s.plateHot t1 t2 =
    if 85 * 1024 < v.tp then (if v.active .PLATE_HOT then v else v.raise .PLATE_HOT)
    else if v.tp < 82 * 1024 then v.clearFault .PLATE_HOT else v := by
  subst hv
  rfl

theorem State.plateHot_of_hot (hot : 85 * 1024 < v.tp) :
    s.plateHot t1 t2 = if v.active .PLATE_HOT then v else v.raise .PLATE_HOT := by
  rw [State.plateHot_eq hv, if_pos hot]

theorem State.plateHot_of_cool (cool : v.tp < 82 * 1024) : s.plateHot t1 t2 = v.clearFault .PLATE_HOT := by
  rw [State.plateHot_eq hv, if_neg (by omega), if_pos cool]

/-- Raising or clearing PLATE_HOT leaves the readings, so that a later judgement sees the same TP. -/
theorem State.plateHot_tp : (s.plateHot t1 t2).tp = v.tp := by
  refine State.tp_congr ?_
  rw [State.plateHot_eq hv]
  split_ifs
  · rfl
  · exact v.raise_plate _ _ _ _
  · exact v.clearFault_plate _ _
  · rfl

/-- Above 85 °C the reading can raise PLATE_HOT only. -/
theorem State.plateHot_active_of_hot (hot : 85 * 1024 < v.tp) {f : FaultId} (other : f ≠ .PLATE_HOT) (idx : Nat) :
    (s.plateHot t1 t2).active f idx = s.active f idx := by
  have read : v.active f idx = s.active f idx := by rw [hv]; rfl
  have apart : (f, idx) ≠ (FaultId.PLATE_HOT, 0) := fun e => other (Prod.ext_iff.mp e).1
  rw [State.plateHot_of_hot hv hot, ← read]
  split_ifs
  · rfl
  · exact v.active_raiseC_ne _ _ _ _ _ _ _ apart

/-! ## PLATE_LIMIT (R113) -/

theorem State.plateLimit_of_hot (hot : 100 * 1024 ≤ v.tp) (first : s.active .PLATE_LIMIT = false) :
    s.plateLimit t1 t2 = (((s.plateHot t1 t2).raise .PLATE_LIMIT).injSafe).ledsSafe := by
  refine if_pos ⟨hot.trans_eq (State.plateHot_tp hv).symm, ?_⟩
  rw [State.plateHot_active_of_hot hv (by omega) (by decide), first]
  rfl

theorem State.plateLimitClear_of_cool (cool : v.tp < 90 * 1024) :
    s.plateLimitClear t1 t2 = (s.plateHot t1 t2).clearFault .PLATE_LIMIT :=
  if_pos ((State.plateHot_tp hv).trans_lt cool)

end

/-! ## PLATE_SENSOR (R114) -/

theorem State.plateSensor_differ (s : State) {a b : Int} (apart : 5 * 1024 < (a - b).natAbs) :
    s.plateSensor (.val a) (.val b) = (s.plateHot (.val a) (.val b)).raise .PLATE_SENSOR 0 := if_pos apart

theorem State.plateSensor_first_bad (s : State) {t : Sens} (b : Int) (bad : t = .opn ∨ t = .short) :
    s.plateSensor t (.val b) = (s.plateHot t (.val b)).raise .PLATE_SENSOR 1 := by
  rcases bad with rfl | rfl <;> rfl

theorem State.plateSensor_second_bad (s : State) (a : Int) {t : Sens} (bad : t = .opn ∨ t = .short) :
    s.plateSensor (.val a) t = (s.plateHot (.val a) t).raise .PLATE_SENSOR 2 := by
  rcases bad with rfl | rfl <;> rfl

theorem State.plateSensorClear_agree (s : State) {a b : Int} (agree : (a - b).natAbs ≤ 5 * 1024) :
    s.plateSensorClear (.val a) (.val b) = (((s.plateHot (.val a) (.val b)).clearFault .PLATE_SENSOR 0).clearFault
      .PLATE_SENSOR 1).clearFault .PLATE_SENSOR 2 := if_pos agree

/-- Settles O3: each clause is its judgement, after the PLATE_HOT rule that the same reading feeds. -/
theorem plate : Obligations.Plate := by
  unfold Obligations.Plate
  refine ⟨?hot, ?hotClear, ?limit, ?limitClear, ?differ, ?firstBad, ?secondBad, ?agree⟩
  case hot =>
    intro s t1 t2 awake hot off
    have inactive : ({ s with plate := ⟨t1, t2⟩ } : State).active .PLATE_HOT = false := off
    exact State.runOn_next rfl awake ((State.plateHot_of_hot rfl hot).trans (if_neg (Bool.eq_false_iff.mp inactive)))
  case hotClear => exact fun s t1 t2 awake cool => State.runOn_next rfl awake (State.plateHot_of_cool rfl cool)
  case limit => exact fun s t1 t2 awake hot first => State.runOn_next rfl awake (State.plateLimit_of_hot rfl hot first)
  case limitClear => exact fun s t1 t2 awake cool => State.runOn_next rfl awake (State.plateLimitClear_of_cool rfl cool)
  case differ => exact fun s a b awake apart => State.runOn_next rfl awake (s.plateSensor_differ apart)
  case firstBad => exact fun s b t awake bad => State.runOn_next rfl awake (s.plateSensor_first_bad b bad)
  case secondBad => exact fun s a t awake bad => State.runOn_next rfl awake (s.plateSensor_second_bad a bad)
  case agree => exact fun s a b awake agree => State.runOn_next rfl awake (s.plateSensorClear_agree agree)

/-- Settles O58: the judgement of a reading is the PLATE_HOT rule with both limits and the band between them. -/
theorem plateHotLimits : Obligations.PlateHotLimits := by
  unfold Obligations.PlateHotLimits
  exact fun s t1 t2 v awake hv => State.runOn_next rfl awake (State.plateHot_eq hv)

end Sys2Proof.Machine
end

section
/-! What operations that the berth shares with other blocks leave: bits of a number and of a field, fields beside another of their register,
and registers after a raised or cleared fault. -/

namespace Sys2Proof.Machine

/-! ## Bits -/

theorem bitOf_eq_testBit (n b : Nat) : bitOf n b = n.testBit b := by
  rw [bitOf, Nat.testBit_eq_decide_div_mod_eq]
  rfl

/-- A bit that was set reads what it was set to. -/
theorem bitOf_putBit (n b : Nat) (v : Bool) : bitOf (putBit n b v) b = v := by
  have low : 2 ^ b * (n / 2 ^ b % 2) ≤ n :=
    (Nat.mul_le_mul_left _ (Nat.mod_le _ _)).trans (Nat.mul_div_le _ _)
  have base : (n - n / 2 ^ b % 2 * 2 ^ b) / 2 ^ b = n / 2 ^ b - n / 2 ^ b % 2 := by
    rw [Nat.mul_comm, Nat.sub_mul_div_of_le _ _ _ low]
  cases v
  · rw [putBit, bitOf, if_neg Bool.false_ne_true, base, beq_eq_false_iff_ne]
    omega
  · rw [putBit, bitOf, if_pos rfl, Nat.add_div_right _ (by positivity), base, beq_iff_eq]
    omega

/-- A bit of a field that was set reads what it was set to. -/
theorem State.bit_setBit_same (s : State) {f : Fld} (fits : f.fits) {i k : Nat} (inside : k < f.w) (b : Bool) :
    (s.setBit f i k b).bit f i k = b := by
  rw [State.bit, State.setBit, State.fld_setFld_same _ fits, bitOf_eq_testBit, Nat.testBit_mod_two_pow, decide_eq_true inside,
    Bool.true_and, ← bitOf_eq_testBit, bitOf_putBit]

/-! ## Bytes as a number (R9) -/

/-- A little-endian number of `k` bytes has at most 8 * k bits. -/
theorem leNat_lt {l : List Byte} {k : Nat} (len : l.length = k) : leNat l < 2 ^ (8 * k) := by
  subst len
  induction l with
  | nil => exact Nat.one_pos
  | cons b r ih =>
    have byte : b.toNat < 256 := b.isLt
    rw [leNat, List.length_cons, Nat.mul_succ, pow_add]
    omega

/-! ## Fields -/

theorem State.fld_setFld_apart (s : State) {f g : Fld} (same : f.reg = g.reg) (fits : f.fits) (h : f.apart g) (i v : Nat) :
    (s.setFld f i v).fld g i = s.fld g i := by
  rw [State.fld, State.fld, State.setFld, ← same, State.rd_wr_same, Fld.of_into_apart fits h]

theorem State.flag_setFld_ne (s : State) {f g : Fld} {i v j : Nat} (h : (g.reg, j) ≠ (f.reg, i)) :
    (s.setFld f i v).flag g j = s.flag g j := by
  rw [State.flag, State.flag, State.fld_setFld_ne s h]

/-- The guard of the operations that wait for Boot or later. -/
theorem State.not_asleep {s : State} (awake : s.awake = true) : ¬ (!s.awake) = true := by
  rw [awake]
  exact Bool.false_ne_true

section
variable (s : State) (f : Fld) (i : Nat)

@[simp] theorem State.fld_raise (x : FaultId) (idx : Nat) (d : List Nat) (lim : Nat) : (s.raise x idx d lim).fld f i = s.fld f i :=
  State.fld_congr (s.raise_regs x idx d lim) f i

@[simp] theorem State.flag_raise (x : FaultId) (idx : Nat) (d : List Nat) (lim : Nat) : (s.raise x idx d lim).flag f i = s.flag f i :=
  State.flag_congr (s.raise_regs x idx d lim) f i

@[simp] theorem State.fld_clearFault (x : FaultId) (idx : Nat) : (s.clearFault x idx).fld f i = s.fld f i :=
  State.fld_congr (s.clearFault_regs x idx) f i

@[simp] theorem State.flag_clearFault (x : FaultId) (idx : Nat) : (s.clearFault x idx).flag f i = s.flag f i :=
  State.flag_congr (s.clearFault_regs x idx) f i

end

end Sys2Proof.Machine
end

section
/-! The berth (R118 to R134): mating, the slot code, the berth link and the capacities. -/

namespace Sys2Proof.Machine

/-! ## Mating (R121) -/

/-- Feed `f` is declared mated: what `State.feedProbe` does before the channels of the feed and the auxiliary feeds follow. -/
def State.declareMated (s : State) (f : Nat) : State :=
  let s := (s.setBit F.BERTH_STAT_MATED 0 f).setFlag F.BERTH_EVT_MATE
  let s := s.setFld F.BERTH_STAT_STATE 0 (if s.fld F.BERTH_STAT_STATE = 0 then 1 else s.fld F.BERTH_STAT_STATE)
  s.setBerth { s.berth with probes := Tbl.del s.berth.probes f }

theorem State.declareMated_eq (s : State) (f : Nat) : ∃ m b, s.declareMated f =
    (((s.setBit F.BERTH_STAT_MATED 0 f).setFlag F.BERTH_EVT_MATE).setFld F.BERTH_STAT_STATE 0 m).setBerth b := ⟨_, _, rfl⟩

theorem State.declareMated_bit (s : State) (f : Fin 4) : (s.declareMated f).bit F.BERTH_STAT_MATED 0 f = true := by
  obtain ⟨m, b, h⟩ := s.declareMated_eq f
  rw [h, State.bit, State.fld_congr (State.setBerth_regs _ _),
    State.fld_setFld_apart (f := F.BERTH_STAT_STATE) (g := F.BERTH_STAT_MATED) _ rfl (by simp [Fld.fits]) (by simp [Fld.apart]),
    State.setFlag, State.fld_setFld_ne _ (by decide)]
  exact s.bit_setBit_same (by simp [Fld.fits]) f.isLt true

theorem State.declareMated_evt (s : State) (f : Nat) : (s.declareMated f).flag F.BERTH_EVT_MATE = true := by
  obtain ⟨m, b, h⟩ := s.declareMated_eq f
  rw [h, State.flag_congr (State.setBerth_regs _ _), State.flag_setFld_ne _ (by decide)]
  exact State.flag_setFlag_same _ (by simp [Fld.fits]) rfl 0 true

theorem State.declareMated_now (s : State) (f : Nat) : (s.declareMated f).now = s.now := by
  obtain ⟨m, b, h⟩ := s.declareMated_eq f
  rw [h, State.setBerth_now, State.setFld_now, State.setFlag_now, State.setBit_now]

/-- The bus of feed `f` has come within 1.0 V of PRECHG, at this probe or since the mating began. -/
def State.precharged (s : State) (f bus prechg : Nat) : Bool :=
  bitOf s.berth.prechg f || (decide (bus ≤ prechg + 100) && decide (prechg ≤ bus + 100) && s.berth.prechgMated)

/-- A probe counts the passing probes in a row and notes the precharge; the second in a row mates a feed whose precharge is done. -/
theorem State.feedProbe_eq {s v : State} {f bus prechg sag n : Nat} {last : Nat × Nat} {p : Bool} (awake : s.awake = true)
    (unmated : s.bit F.BERTH_STAT_MATED 0 f = false) (hlast : last = (lookup f s.berth.probes).getD (0, 0))
    (hn : n = if sag < 25 then last.1 + 1 else 0) (hp : p = s.precharged f bus prechg)
    (hv : v = if last.1 = 0 then s else s.advanceTo (last.2 + ms 10)) :
    s.feedProbe f bus prechg sag =
      let w := v.setBerth { s.berth with prechg := putBit s.berth.prechg f p, probes := assoc f (n, v.now) s.berth.probes }
      if 2 ≤ n ∧ p = true then ((w.declareMated f).enableChanged f).auxFeeds else w := by
  have berth : v.berth = s.berth := by
    rw [hv]
    split <;> rfl
  have probes : ¬ (s.bit F.BERTH_STAT_MATED 0 f || !s.awake) = true := by
    rw [unmated, awake]
    exact Bool.false_ne_true
  rw [State.precharged] at hp
  unfold State.feedProbe
  rw [if_neg probes, ← hlast]
  dsimp only
  rw [← hv, ← hn]
  simp only [State.setBerth_berth, berth, ← hp, bitOf_putBit]
  rfl

/-- A probe that does not mate its feed (R121). -/
theorem State.feedProbe_unmated {s v : State} {f bus prechg sag n : Nat} {last : Nat × Nat} {p : Bool} (awake : s.awake = true)
    (unmated : s.bit F.BERTH_STAT_MATED 0 f = false) (hlast : last = (lookup f s.berth.probes).getD (0, 0))
    (hn : n = if sag < 25 then last.1 + 1 else 0) (hp : p = s.precharged f bus prechg)
    (hv : v = if last.1 = 0 then s else s.advanceTo (last.2 + ms 10)) (misses : n < 2 ∨ p = false) :
    s.feedProbe f bus prechg sag =
      v.setBerth { s.berth with prechg := putBit s.berth.prechg f p, probes := assoc f (n, v.now) s.berth.probes } := by
  refine (State.feedProbe_eq awake unmated hlast hn hp hv).trans (if_neg ?_)
  rintro ⟨two, done⟩
  rcases misses with few | no
  · omega
  · exact Bool.noConfusion (done.symm.trans no)

/-- The second passing probe in a row mates a feed whose precharge is done (R121). -/
theorem State.feedProbe_mates {s : State} {f bus prechg sag : Nat} {last : Nat × Nat} (awake : s.awake = true)
    (unmated : s.bit F.BERTH_STAT_MATED 0 f = false) (hlast : last = (lookup f s.berth.probes).getD (0, 0)) (passes : sag < 25)
    (again : 1 ≤ last.1) (near : s.precharged f bus prechg = true) :
    s.feedProbe f bus prechg sag = ((((s.advanceTo (last.2 + ms 10)).setBerth { s.berth with
      prechg := putBit s.berth.prechg f true
      probes := assoc f (last.1 + 1, (s.advanceTo (last.2 + ms 10)).now) s.berth.probes }).declareMated f).enableChanged f).auxFeeds :=
  (State.feedProbe_eq awake unmated hlast (if_pos passes).symm near.symm (if_neg (by omega)).symm).trans (if_pos ⟨by omega, rfl⟩)

/-! ## The slot code (R127) -/

/-- The strap reads code `raw`, and BERTH_STAT shows it. -/
def State.showSlot (s : State) (raw : Nat) : State :=
  ({ s with pins := { s.pins with slot := raw % 64 } } : State).setFld F.BERTH_STAT_SLOT_RAW 0 raw

/-- A valid code other than the held sample is reported. -/
theorem State.slotChange_reported {s : State} {raw h : Nat} (awake : s.awake = true) (valid : slotValid raw = true)
    (held : s.berth.held = some h) (differs : h ≠ raw % 64) :
    s.slotChange raw = ((s.showSlot raw).setFlag F.BERTH_EVT_SLOT_CHANGE).raise .BERTH_SLOT_CHANGE := by
  have sampled : (slotValid raw && s.berth.held != some (raw % 64) && s.berth.held.isSome) = true := by
    rw [valid, held]
    simpa using differs
  exact (if_neg (State.not_asleep awake)).trans (if_pos sampled)

theorem State.showSlot_raw (s : State) (raw : Fin 64) : (s.showSlot raw).fld F.BERTH_STAT_SLOT_RAW = raw :=
  (State.fld_setFld_same _ (by simp [Fld.fits]) 0 _).trans (Nat.mod_eq_of_lt raw.isLt)

theorem State.showSlot_pos (s : State) (raw : Nat) : (s.showSlot raw).fld F.BERTH_STAT_POS = s.fld F.BERTH_STAT_POS := by
  rw [State.showSlot, State.fld_setFld_apart (f := F.BERTH_STAT_SLOT_RAW) (g := F.BERTH_STAT_POS) _ rfl (by simp [Fld.fits])
    (by simp [Fld.apart])]
  exact State.fld_congr rfl _ _

theorem State.showSlot_sameBut (s : State) (raw : Nat) {l : List (Reg × Nat)} (h : (.BERTH_STAT, 0) ∈ l) : s.sameBut (s.showSlot raw) l :=
  ((s.sameBut_refl l).congr (t := { s with pins := { s.pins with slot := raw % 64 } }) rfl rfl).setFld (f := F.BERTH_STAT_SLOT_RAW) raw h

/-! ## The link (R129 to R133) -/

/-- The registers show version `v` and what the payload `p` of a RAIL_ADV announces. -/
def State.showLink (s : State) (v : Nat) (p : List Byte) : State :=
  (((s.setFld F.BERTH_LINK_VERSION 0 v).setFld F.BERTH_LINK_RAIL_ID 0 (leNat ((p.drop 1).take 2))).setFld F.BERTH_RAILCAP_ADV 0
    (leNat (p.drop 3))).setFlag F.BERTH_STAT_LINK_UP

theorem State.showLink_berth (s : State) (v : Nat) (p : List Byte) : (s.showLink v p).berth = s.berth := by
  rw [State.showLink, State.setFlag_berth, State.setFld_berth, State.setFld_berth, State.setFld_berth]

theorem State.showLink_now (s : State) (v : Nat) (p : List Byte) : (s.showLink v p).now = s.now := by
  rw [State.showLink, State.setFlag_now, State.setFld_now, State.setFld_now, State.setFld_now]

/-- The link is up: what `State.railAdv` does before the capacities are adopted. -/
def State.linkUp (s : State) (v : Nat) (p : List Byte) : State :=
  ((s.showLink v p).setBerth { s.berth with advSeen := true, lastAdv := s.now }).clearFault .BERTH_LINK_LOSS

/-- The highest version common to the module and a rail that offers `vers`, 0 for none (R131). -/
def commonVersion (vers : Nat) : Nat := if bitOf vers 2 then 2 else if bitOf vers 1 then 1 else 0

theorem railPayload_length {b p : List Byte} (good : railPayload b = some p) : p.length = 7 := by
  unfold railPayload at good
  extract_lets q at good
  split at good
  · next h =>
    obtain rfl := Option.some.inj good
    exact h.1
  · exact absurd good (Option.some_ne_none p).symm

theorem State.startByte_seen {s : State} {b : List Byte} (awake : s.awake = true) (start : b.head? = some 0x7E) :
    ¬ (!s.awake || b.head? != some 0x7E) = true := by
  rw [awake, start]
  decide

theorem State.railAdv_good {s : State} {b p : List Byte} {v : Nat} (awake : s.awake = true) (start : b.head? = some 0x7E)
    (good : railPayload b = some p) (hv : commonVersion (p.getD 0 0).toNat = v) (common : v ≠ 0) : s.railAdv b = (s.linkUp v p).adopt := by
  unfold State.railAdv
  rw [if_neg (State.startByte_seen awake start), good]
  have up : ((s.showLink v p).setBerth { (s.showLink v p).berth with advSeen := true, lastAdv := (s.showLink v p).now }).clearFault
      .BERTH_LINK_LOSS = s.linkUp v p := by rw [State.showLink_berth, State.showLink_now, State.linkUp]
  rw [← up, ← hv]
  exact if_neg (show ¬ commonVersion (p.getD 0 0).toNat = 0 from hv ▸ common)

theorem State.railAdv_damaged {s : State} {b : List Byte} (awake : s.awake = true) (start : b.head? = some 0x7E)
    (bad : railPayload b = none) : s.railAdv b = s.bump F.BERTH_LINK_ERR := by
  unfold State.railAdv
  rw [if_neg (State.startByte_seen awake start), bad]

theorem State.linkUp_regs (s : State) (v : Nat) (p : List Byte) : (s.linkUp v p).regs = (s.showLink v p).regs :=
  (State.clearFault_regs _ _ _).trans (State.setBerth_regs _ _)

theorem State.linkUp_lastAdv (s : State) (v : Nat) (p : List Byte) : (s.linkUp v p).berth.lastAdv = s.now := by
  rw [State.linkUp, State.clearFault_berth, State.setBerth_berth]

theorem State.linkUp_spec (s : State) {v : Nat} (small : v < 16) {p : List Byte} (len : p.length = 7) :
    (s.linkUp v p).fld F.BERTH_LINK_VERSION = v ∧ (s.linkUp v p).fld F.BERTH_LINK_RAIL_ID = leNat ((p.drop 1).take 2) ∧
    (s.linkUp v p).fld F.BERTH_RAILCAP_ADV = leNat (p.drop 3) ∧ (s.linkUp v p).flag F.BERTH_STAT_LINK_UP = true ∧
    (s.linkUp v p).active .BERTH_LINK_LOSS 0 = false ∧ (s.linkUp v p).berth.lastAdv = s.now := by
  have rail : leNat ((p.drop 1).take 2) < 2 ^ 16 := leNat_lt (k := 2) (by simp [len])
  have caps : leNat (p.drop 3) < 2 ^ 32 := leNat_lt (k := 4) (by simp [len])
  have shown := s.linkUp_regs v p
  refine ⟨?version, ?railId, ?adv, ?up, State.active_clearFault _ _ _, s.linkUp_lastAdv v p⟩
  case version =>
    rw [State.fld_congr shown, State.showLink, State.setFlag, State.fld_setFld_ne _ (by decide), State.fld_setFld_ne _ (by decide),
      State.fld_setFld_apart (f := F.BERTH_LINK_RAIL_ID) (g := F.BERTH_LINK_VERSION) _ rfl (by simp [Fld.fits]) (by simp [Fld.apart]),
      State.fld_setFld_same _ (by simp [Fld.fits])]
    exact Nat.mod_eq_of_lt small
  case railId =>
    rw [State.fld_congr shown, State.showLink, State.setFlag, State.fld_setFld_ne _ (by decide), State.fld_setFld_ne _ (by decide),
      State.fld_setFld_same _ (by simp [Fld.fits])]
    exact Nat.mod_eq_of_lt rail
  case adv =>
    rw [State.fld_congr shown, State.showLink, State.setFlag, State.fld_setFld_ne _ (by decide), State.fld_setFld_same _ (by simp [Fld.fits])]
    exact Nat.mod_eq_of_lt caps
  case up => exact (State.flag_congr shown _ _).trans (State.flag_setFlag_same _ (by simp [Fld.fits]) rfl 0 true)

theorem State.railAdv_completes {s : State} {b p : List Byte} {v : Nat} (awake : s.awake = true) (start : b.head? = some 0x7E)
    (good : railPayload b = some p) (hv : commonVersion (p.getD 0 0).toNat = v) (common : v ≠ 0) (small : v < 16) :
    Completes (.railAdv b) s fun u => ∃ t : State, u = t.adopt ∧ t.fld F.BERTH_LINK_VERSION = v ∧
      t.fld F.BERTH_LINK_RAIL_ID = leNat ((p.drop 1).take 2) ∧ t.fld F.BERTH_RAILCAP_ADV = leNat (p.drop 3) ∧
      t.flag F.BERTH_STAT_LINK_UP = true ∧ t.active .BERTH_LINK_LOSS 0 = false ∧ t.berth.lastAdv = s.now :=
  State.runOn_completes (f := fun s => s.railAdv b) rfl awake
    ⟨s.linkUp v p, State.railAdv_good awake start good hv common, s.linkUp_spec small (railPayload_length good)⟩

/-! ## Reports and the loss of the link (R130, R132) -/

/-- A report leaves at once or waits for its time; it is the frame of R130, and nothing but the record of reports changes. -/
theorem State.modReport_sent {s : State} (awake : s.awake = true) : ∃ v : State, s.now ≤ v.now ∧ v.mem = s.mem ∧ v.regs = s.regs ∧
    s.modReport = v.setBerth { s.berth with reports := s.berth.reports + 1, report := s.modFrame, reportAt := some v.now } := by
  unfold State.modReport
  rw [if_neg (State.not_asleep awake)]
  split
  · next t _ =>
    split
    · exact ⟨s.advanceTo (t + ms 100), Nat.le_max_left _ _, rfl, rfl, rfl⟩
    · exact ⟨s, le_rfl, rfl, rfl, rfl⟩
  · exact ⟨s, le_rfl, rfl, rfl, rfl⟩

/-- The link is lost at its time (R132). -/
theorem State.linkLoss_up {s : State} (up : s.flag F.BERTH_STAT_LINK_UP = true) : s.linkLoss =
    ((((s.advanceTo (s.berth.lastAdv + ms 500)).setFlag F.BERTH_STAT_LINK_UP 0 false).setFld F.BERTH_LINK_VERSION 0 0).setFlag
      F.BERTH_EVT_LINK_LOSS).raise .BERTH_LINK_LOSS := by
  unfold State.linkLoss
  rw [if_neg (by rw [up]; exact Bool.false_ne_true)]

/-! ## The obligation -/

/-- Settles O9: each clause is one operation of the berth; the frames follow the registers that it writes. -/
theorem berth : Obligations.Berth := by
  unfold Obligations.Berth
  refine ⟨?prechg, ?probe, ?mate, ?hardMate, ?slot, ?link2, ?link1, ?damaged, ?report, ?loss, ?raise, ?keep⟩
  case prechg => exact fun s => State.run_next rfl rfl
  case probe =>
    intro s v f bus prechg sag last n p awake unmated hlast hn hp hv misses
    exact State.runOn_next rfl awake (State.feedProbe_unmated awake unmated hlast hn hp hv misses)
  case mate =>
    intro s f bus prechg sag last awake unmated hlast passes again near
    refine State.runOn_completes (f := fun s => s.feedProbe f bus prechg sag) rfl awake ⟨_, State.feedProbe_mates awake unmated hlast
      passes again near, State.declareMated_bit _ f, State.declareMated_evt _ f, ?_⟩
    rw [State.declareMated_now]
    rfl
  case hardMate => exact fun s f awake => State.runOn_next rfl awake rfl
  case slot =>
    intro s raw h awake valid held differs
    have other : h.val ≠ raw.val % 64 := by
      rw [Nat.mod_eq_of_lt raw.isLt]
      exact fun e => differs (Fin.ext e)
    refine State.run_completes (f := fun s => s.slotChange raw) rfl ?_
    rw [State.slotChange_reported awake valid held other, State.flag_raise, State.fld_raise, State.fld_raise]
    refine ⟨State.flag_setFlag_same _ (by simp [Fld.fits]) rfl 0 true, ?_, ?_, ?_⟩
    · exact (State.fld_setFld_ne _ (by decide)).trans (s.showSlot_raw raw)
    · exact (State.fld_setFld_ne _ (by decide)).trans (s.showSlot_pos raw)
    · exact (s.showSlot_sameBut raw (by simp) |>.setFlag (f := F.BERTH_EVT_SLOT_CHANGE) true (by simp)).raise _ _ _ _
  case link2 =>
    intro s b p awake start good two
    exact State.railAdv_completes awake start good (v := 2) (by rw [commonVersion, if_pos two]) (by decide) (by decide)
  case link1 =>
    intro s b p awake start good notTwo one
    exact State.railAdv_completes awake start good (v := 1)
      (by rw [commonVersion, if_neg (Bool.eq_false_iff.mp notTwo), if_pos one]) (by decide) (by decide)
  case damaged => exact fun s b awake start bad => State.runOn_next rfl awake (State.railAdv_damaged awake start bad)
  case report =>
    intro s awake
    obtain ⟨v, later, mem, regs, sent⟩ := State.modReport_sent awake
    refine State.runOn_completes (f := fun s => s.modReport) rfl awake ?_
    rw [sent]
    exact ⟨rfl, rfl, rfl, later, State.sameBut_of_regs mem regs⟩
  case loss =>
    intro s awake up
    refine State.runOn_completes (f := fun s => s.linkLoss) rfl awake ?_
    rw [State.linkLoss_up up, State.raise_now, State.flag_raise, State.fld_raise, State.flag_raise]
    refine ⟨rfl, ?down, ?version, State.flag_setFlag_same _ (by simp [Fld.fits]) rfl 0 true, State.active_raise _ _ (by decide) _ _ _, ?frame⟩
    case down =>
      rw [State.setFlag, State.flag_setFld_ne _ (by decide), State.flag_setFld_ne _ (by decide)]
      exact State.flag_setFlag_same _ (by simp [Fld.fits]) rfl 0 false
    case version =>
      rw [State.setFlag, State.fld_setFld_ne _ (by decide)]
      exact State.fld_setFld_same _ (by simp [Fld.fits]) 0 0
    case frame =>
      have moved := (s.sameBut_refl [(.BERTH_STAT, 0), (.BERTH_LINK, 0), (.BERTH_EVT, 0)]).congr (t := s.advanceTo (s.berth.lastAdv + ms 500))
        rfl rfl
      exact (((moved.setFlag (f := F.BERTH_STAT_LINK_UP) false (by simp)).setFld (f := F.BERTH_LINK_VERSION) 0 (by simp)).setFlag
        (f := F.BERTH_EVT_LINK_LOSS) true (by simp)).raise _ _ _ _
  case raise =>
    intro s f v t rest awake waits
    refine State.runOn_next rfl awake ?_
    rw [State.capRaise, waits]
    rfl
  case keep => exact fun s v nine => State.run_next rfl (if_pos nine)

end Sys2Proof.Machine
end

section
/-! Extraction (R135 to R139): its start, the comparison at the end of the ramp, the entries it leaves, and its abort. -/

namespace Sys2Proof.Machine

/-! ## The comparison (R137) -/

/-- Every residual current, in 0.1 A, is below 0.5 A. -/
def residualsLow (res : List Nat) : Bool := (List.range 4).all fun f => decide (Nat.min 65535 (res.getD f 0) < 5)

/-- What the comparison does after it has noted its result. -/
def State.rampJudged (s : State) (ok : Bool) (data : List Nat) : State :=
  if ok then ((s.setFld F.BERTH_STAT_STATE 0 3).setFlag F.BERTH_EVT_RAMP_OK).raise .BERTH_RAMP_OK 0 data
  else (s.setFlag F.BERTH_EVT_RAMP_FAIL).raise .BERTH_RAMP_FAIL 0 data

theorem residualsLow_iff (a b c d : Nat) : residualsLow [a, b, c, d] = true ↔ a < 5 ∧ b < 5 ∧ c < 5 ∧ d < 5 := by
  simp [residualsLow, List.range_succ]

/-- The comparison notes the residual currents and its result, and judges the ramp. -/
theorem State.rampCompare_eq {s : State} (ramping : s.fld F.BERTH_STAT_STATE = 2) (res : List Nat) : ∃ (v : State) (data : List Nat),
    v.berth.lastRes = (List.range 4).map (fun f => Nat.min 65535 (res.getD f 0)) ∧ v.berth.lastOk = residualsLow res ∧
    s.rampCompare res = v.rampJudged (residualsLow res) data := by
  unfold State.rampCompare
  rw [if_neg (not_not.mpr ramping)]
  extract_lets ramped compared r t ok data old noted
  exact ⟨noted, data, rfl, rfl, rfl⟩

theorem State.rampJudged_berth (s : State) (ok : Bool) (data : List Nat) : (s.rampJudged ok data).berth = s.berth := by
  unfold State.rampJudged
  split
  · rw [State.raise_berth, State.setFlag_berth, State.setFld_berth]
  · rw [State.raise_berth, State.setFlag_berth]

theorem State.rampJudged_ok (s : State) (data : List Nat) : (s.rampJudged true data).fld F.BERTH_STAT_STATE = 3 ∧
    (s.rampJudged true data).flag F.BERTH_EVT_RAMP_OK = true := by
  rw [State.rampJudged, if_pos rfl, State.fld_raise, State.flag_raise]
  refine ⟨?_, State.flag_setFlag_same _ (by simp [Fld.fits]) rfl 0 true⟩
  rw [State.setFlag, State.fld_setFld_ne _ (by decide)]
  exact State.fld_setFld_same _ (by simp [Fld.fits]) 0 3

theorem State.rampJudged_fail (s : State) (data : List Nat) : (s.rampJudged false data).flag F.BERTH_EVT_RAMP_FAIL = true := by
  rw [State.rampJudged, if_neg Bool.false_ne_true, State.flag_raise]
  exact State.flag_setFlag_same _ (by simp [Fld.fits]) rfl 0 true

/-! ## The abort (R139) -/

/-- EXTRACT reads 0 again, and BERTH_STAT shows it. -/
def State.extractLow (s : State) : State :=
  ({ s with pins := { s.pins with extract := false } } : State).setFlag F.BERTH_STAT_EXTRACT 0 false

theorem State.extractLow_apart (s : State) {g : Fld} (same : g.reg = .BERTH_STAT) (h : F.BERTH_STAT_EXTRACT.apart g) :
    s.extractLow.fld g = s.fld g := by
  rw [State.extractLow, State.setFlag, State.fld_setFld_apart (f := F.BERTH_STAT_EXTRACT) _ same.symm (by simp [Fld.fits]) h]
  exact State.fld_congr rfl _ _

theorem State.extractLow_flag (s : State) : s.extractLow.flag F.BERTH_STAT_EXTRACT = false :=
  State.flag_setFlag_same _ (by simp [Fld.fits]) rfl 0 false

theorem State.raise_reset (s : State) (f : FaultId) (idx : Nat) (d : List Nat) (lim : Nat) :
    (s.raise f idx d lim).mode.reset = s.mode.reset := by
  obtain ⟨j, l, h⟩ := s.raiseC_eq f f.cls idx d lim
  rw [State.raise, h]

@[simp] theorem State.askReset_reset (s : State) (bit : Nat) : (s.askReset bit).mode.reset = some (s.mode.reset.getD bit) := rfl
@[simp] theorem State.askReset_regs (s : State) (bit : Nat) : (s.askReset bit).regs = s.regs := rfl
@[simp] theorem State.askReset_pins (s : State) (bit : Nat) : (s.askReset bit).pins = s.pins := rfl

/-- `u` keeps the pins of `s`, a reset that is asked for, and every register but SYS_MODE. -/
structure State.TrigFrame (s u : State) : Prop where
  pins : u.pins = s.pins
  reset : u.mode.reset = s.mode.reset
  rd : ∀ r i, r ≠ .SYS_MODE → u.rd r i = s.rd r i

theorem State.TrigFrame.congr {s u t : State} (h : s.TrigFrame u) (pins : t.pins = u.pins) (reset : t.mode.reset = u.mode.reset)
    (regs : t.regs = u.regs) : s.TrigFrame t :=
  ⟨pins.trans h.pins, reset.trans h.reset, fun r i other => (State.rd_congr regs r i).trans (h.rd r i other)⟩

theorem State.TrigFrame.flag {s u : State} (h : s.TrigFrame u) {f : Fld} (other : f.reg ≠ .SYS_MODE) (i : Nat) : u.flag f i = s.flag f i := by
  rw [State.flag, State.flag, State.fld, State.fld, h.rd f.reg i other]

/-- A mode trigger changes SYS_MODE alone of the registers, and no reset that is asked for (R144). -/
theorem State.takeTrigger_frame (s : State) (rank : Nat) : s.TrigFrame (s.takeTrigger rank).1 := by
  have same : s.TrigFrame s := ⟨rfl, rfl, fun _ _ _ => rfl⟩
  have refused : s.TrigFrame ((s.setFld F.SYS_MODE_REFUSE 0 7).raise .MODE_REFUSED 0 [7]) := by
    have field : s.TrigFrame (s.setFld F.SYS_MODE_REFUSE 0 7) :=
      ⟨s.setFld_pins _ _ _, congrArg _ (s.setFld_mode _ _ _), fun r i other => State.rd_setFld_ne s fun e => other (congrArg Prod.fst e)⟩
    exact field.congr (State.raise_pins _ _ _ _ _) (State.raise_reset _ _ _ _ _) (State.raise_regs _ _ _ _ _)
  unfold State.takeTrigger
  extract_lets i beaten s1 s2
  have first : s.TrigFrame s1 := by
    simp only [s1]
    split
    · exact refused
    · exact same
  have second : s.TrigFrame s2 := by
    simp only [s2]
    split
    · exact first.congr rfl rfl rfl
    · exact first
  split
  · exact same
  · exact second.congr rfl rfl rfl

/-- An abort asks for the module reset of R139. -/
theorem State.extractAbort_eq {s : State} (extracting : s.extracting = true) (mated : s.fld F.BERTH_STAT_MATED ≠ 0) : s.extractAbort =
    (((s.extractLow.takeTrigger 2).1.raise .BERTH_EXTRACT_ABORT).setFld F.BERTH_STAT_STATE 0 1).askReset 5 := by
  have still : ¬ (!s.extractLow.extracting || s.extractLow.fld F.BERTH_STAT_MATED == 0) = true := by
    rw [State.extracting, State.extractLow_apart s rfl (by simp [Fld.apart]), State.extractLow_apart s rfl (by simp [Fld.apart]),
      ← State.extracting, extracting]
    simpa using mated
  exact if_neg still

/-! ## The obligation -/

/-- Settles O10: the start and the wake are the cases of the pin, the comparison is judged by its residual currents, and the abort keeps
what the trigger leaves alone. -/
theorem extraction : Obligations.Extraction := by
  unfold Obligations.Extraction
  refine ⟨?start, ?wake, ?ok, ?fail, ?commit, ?abort⟩
  case start =>
    intro s boot awake idle
    refine State.run_next rfl ?_
    rw [State.extractPin, if_pos awake, if_neg (Bool.eq_false_iff.mp idle)]
  case wake =>
    intro s boot asleep
    exact State.run_next rfl (if_neg (Bool.eq_false_iff.mp asleep))
  case ok =>
    intro s a b c d awake ramping ha hb hc hd
    obtain ⟨v, data, noted, result, judged⟩ := State.rampCompare_eq ramping [a, b, c, d]
    have low := (residualsLow_iff a b c d).mpr ⟨ha, hb, hc, hd⟩
    refine State.runOn_completes (f := fun s => s.rampCompare [a, b, c, d]) rfl awake ?_
    obtain ⟨ramped, event⟩ := v.rampJudged_ok data
    rw [judged, low, State.rampJudged_berth]
    refine ⟨ramped, event, result.trans low, noted.trans ?_⟩
    have cut (n : Nat) (small : n < 5) : Nat.min 65535 n = n := Nat.min_eq_right (by omega)
    simp [List.range_succ, cut, ha, hb, hc, hd]
  case fail =>
    intro s a b c d awake ramping high
    obtain ⟨v, data, noted, result, judged⟩ := State.rampCompare_eq ramping [a, b, c, d]
    have notLow : residualsLow [a, b, c, d] = false := by
      rw [Bool.eq_false_iff, Ne, residualsLow_iff]
      omega
    refine State.runOn_completes (f := fun s => s.rampCompare [a, b, c, d]) rfl awake ?_
    rw [judged, notLow, State.rampJudged_berth]
    exact ⟨v.rampJudged_fail data, result.trans notLow⟩
  case commit =>
    intro s waits free
    refine State.run_next rfl (if_neg ?_)
    rw [free]
    simpa using waits
  case abort =>
    intro s awake extracting mated
    have trigger := s.extractLow.takeTrigger_frame 2
    refine State.runOn_completes (f := fun s => s.extractAbort) rfl awake ?_
    rw [State.extractAbort_eq extracting mated]
    generalize (s.extractLow.takeTrigger 2).1 = w at trigger
    refine ⟨?asked, (State.fld_congr (State.askReset_regs _ _) _ _).trans (State.fld_setFld_same _ (by simp [Fld.fits]) 0 1), ?flag, ?pin⟩
    case asked =>
      rw [State.askReset_reset, State.setFld_mode, State.raise_reset, trigger.reset, State.extractLow, State.setFlag_mode]
    case flag =>
      rw [State.flag_congr (State.askReset_regs _ _), State.flag_setFld_apart (f := F.BERTH_STAT_STATE) (g := F.BERTH_STAT_EXTRACT) _ rfl
        (by simp [Fld.fits]) (by simp [Fld.apart]), State.flag_raise, trigger.flag (by decide)]
      exact s.extractLow_flag
    case pin =>
      rw [State.askReset_pins, State.setFld_pins, State.raise_pins, trigger.pins, State.extractLow, State.setFlag_pins]

end Sys2Proof.Machine
end

section
/-! Service is held only by a service session or by a wake attach of the debug port (R143, R582). -/

namespace Sys2Proof.Machine

/-- What `State.serviceLawful` reads: the register file, the open sessions and customs. -/
theorem State.serviceLawful.congr {s t : State} (h : s.serviceLawful) (regs : t.regs = s.regs) (sess : t.od.sess = s.od.sess)
    (cust : t.cust = s.cust) : t.serviceLawful := by
  intro service
  rw [State.mode'_congr regs] at service
  rw [State.serviceOpen, sess, cust]
  exact h service

theorem State.serviceLawful_of_mode {s : State} (h : s.mode' ≠ 6) : s.serviceLawful := fun service => absurd service h

/-- The end of Service in `State.follow`: without what R143 and R582 ask for it gives way to Configure. -/
def State.endService (s : State) : State := if s.mode' = 6 ∧ !s.serviceOpen ∧ !s.cust.dbg.service then s.enterConfigure else s

/-- PDOs stop where a command has led out of Operate. -/
def State.pdosLeft (s0 s : State) : State := if s0.mode' = 4 ∧ s.mode' ≠ 4 then s.pdoStop else s

/-- Zone learning ends where a command has led out of Service. -/
def State.learningLeft (s0 s : State) : State := if s0.mode' = 6 ∧ s.mode' ≠ 6 then s.setAcc { s.acc with learn := none } else s

/-- The end of Service comes after everything in `State.follow` that writes the mode. -/
theorem State.follow_eq (s u : State) : ∃ v : State, s.follow u = s.learningLeft (s.pdosLeft v.endService) := ⟨_, rfl⟩

theorem State.endService_lawful (s : State) : s.endService.serviceLawful := by
  unfold State.endService
  split
  next => exact State.serviceLawful_of_mode (by rw [State.enterConfigure_mode]; decide)
  next holds =>
    intro service
    by_contra neither
    rw [not_or, Bool.not_eq_true, Bool.not_eq_true] at neither
    exact holds ⟨service, by simp [neither]⟩

theorem State.serviceLawful.pdosLeft {s : State} (h : s.serviceLawful) (s0 : State) : (s0.pdosLeft s).serviceLawful := by
  unfold State.pdosLeft
  split
  · exact h.congr rfl rfl rfl
  · exact h

theorem State.serviceLawful.learningLeft {s : State} (h : s.serviceLawful) (s0 : State) : (s0.learningLeft s).serviceLawful := by
  unfold State.learningLeft
  split
  · exact h.congr rfl rfl rfl
  · exact h

theorem State.follow_serviceLawful (s u : State) : (s.follow u).serviceLawful := by
  obtain ⟨v, followed⟩ := s.follow_eq u
  rw [followed]
  exact (v.endService_lawful.pdosLeft s).learningLeft s

theorem State.finish_serviceLawful (s u : State) : (State.finish s u).serviceLawful := by
  obtain ⟨mode, od, -, service⟩ := State.finish_debug s u
  intro inService
  rw [mode] at inService
  rw [State.serviceOpen, od, service, inService, beq_self_eq_true, Bool.and_true]
  exact s.follow_serviceLawful u inService

/-- Settles O52: a command ends with `State.finish`, which leaves no unlawful Service; the passing of time changes neither the mode nor a
session. -/
theorem serviceInvariant : Obligations.ServiceInvariant := by
  unfold Obligations.ServiceInvariant
  intro s s' lawful stepped
  unfold step at stepped
  split at stepped
  next =>
    obtain rfl := Host.Outcome.next.inj stepped
    exact lawful.congr rfl rfl rfl
  next =>
    obtain ⟨u, rfl⟩ := exec_finish stepped
    exact State.finish_serviceLawful _ u

end Sys2Proof.Machine
end

section
/-! RESTORE_STEP on a feed that its limiter restores too (R163, R215). -/

namespace Sys2Proof.Machine

theorem State.restoreNext_limiterFirst {s : State} {f t : Nat} {r : FlRestore} (limiter : (s.flc f).rest = some r)
    (supply : lookup f s.sup.restoring = some t) (first : r.next < t) : s.restoreNext f = s.flStep f := by
  simp only [State.restoreNext, limiter, supply, if_pos first]

/-- Operate, with two restores running on FEEDB: its limiter's next turn-on is due at 5 ns, that of its supply restore at 9 ns. -/
def twoRestores : State :=
  { State.reset.setFld F.SYS_MODE_MODE 0 4 with fl := [(1, { rest := some { cls := 2, next := 5 } })], sup := { restoring := [(1, 9)] } }

theorem twoRestores_step : exec (.restoreStep 1) twoRestores = .next (State.finish twoRestores (twoRestores.flStep 1)) :=
  State.runOn_next rfl (by decide) (State.restoreNext_limiterFirst (r := ⟨2, 5⟩) (t := 9) (by decide) (by decide) (by decide))

/-- Refutes O12: the clause of RESTORE_STEP has the supply restore act at its time though the restore of the feed's limiter is due before
it; from `twoRestores` the model acts at 5 ns, the clause at 9 ns. -/
theorem not_supply : ¬ Obligations.Supply := by
  unfold Obligations.Supply
  rintro ⟨-, -, -, -, -, restoreStep, -⟩
  have claimed := restoreStep twoRestores 1 9 (by decide) (by decide)
  rw [twoRestores_step] at claimed
  have times := congrArg State.now (Host.Outcome.next.inj claimed)
  have limiterAt : (State.finish twoRestores (twoRestores.flStep 1)).now = 5 := by decide +kernel
  have supplyAt : (State.finish twoRestores ((twoRestores.advanceTo 9).restoreTurnOn (1 : Fin 4))).now = 9 := by decide +kernel
  rw [limiterAt, supplyAt] at times
  cases times

end Sys2Proof.Machine
end

section
/-! Entry to Configure turns every channel's commanded mode to OFF (R173). -/

namespace Sys2Proof.Machine

/-! ## Every commanded state becomes OFF -/

/-- What the step at one element of a list establishes and every step keeps holds after all steps. -/
theorem State.each_reaches {α : Type} {P : State → Prop} {f : State → α → State} {l : List α} {a : α} (mem : a ∈ l)
    (sets : ∀ s, P (f s a)) (keeps : ∀ s b, P s → P (f s b)) (s : State) : P (s.each l f) := by
  have carries (l : List α) : ∀ s, P s → P (s.each l f) := by
    induction l with
    | nil => exact fun s h => h
    | cons b r ih => exact fun s h => ih (f s b) (keeps s b h)
  obtain ⟨before, after, rfl⟩ := List.append_of_mem mem
  have split : s.each (before ++ a :: after) f = (f (s.each before f) a).each after f := List.foldl_append ..
  rw [split]
  exact carries after _ (sets _)

/-- A command for a mode leaves that mode in the channel's SW_OUT, and the other channels' as they were. -/
theorem State.command_mode (s : State) (k mode duty : Nat) (d : Option Nat) (n : Nat) :
    (s.command k mode duty d).fld F.SW_OUT_MODE n = if n = k then mode % 4 else s.fld F.SW_OUT_MODE n := by
  rw [State.fld, State.command_rd (.inr rfl)]
  split
  · next same =>
    rw [same, State.rd_wr_same]
    exact Fld.of_into (f := F.SW_OUT_MODE) (by simp [Fld.fits]) _ _
  · next other => rw [State.rd_wr_ne _ _ fun e => other (congrArg Prod.snd e), State.fld]

theorem State.allSwitchesOff_off (s : State) {n : Nat} (h : n < 64) : s.allSwitchesOff.fld F.SW_OUT_MODE n = 0 := by
  refine State.each_reaches (P := fun u => u.fld F.SW_OUT_MODE n = 0) (List.mem_range.mpr h) (fun u => ?_) (fun u k off => ?_) s
  · rw [State.command_mode, if_pos rfl]
  · rw [State.command_mode, off, ite_self]

theorem State.commandsOff_off (s : State) {n : Nat} (h : n < 64) : s.commandsOff.fld F.SW_OUT_MODE n = 0 := by
  rw [State.commandsOff, State.fld, State.allLedsOff_aside (.inr rfl), State.dioRefresh_aside (.inr rfl),
    State.setFld_aside (.inr rfl) _ _ _ _ (by decide) (by decide)]
  exact s.allSwitchesOff_off h

theorem State.enterConfigure_off {s : State} (live : s.live = true) {n : Nat} (h : n < 64) :
    s.enterConfigure.fld F.SW_OUT_MODE n = 0 := by
  rw [State.enterConfigure, if_pos live, State.fld, State.governanceEnds_aside (.inr rfl)]
  exact State.commandsOff_off _ h

/-! ## The request -/

/-- A trigger does not change the mode: of SYS_MODE it writes REFUSE at most. -/
theorem State.takeTrigger_mode' (s : State) (rank : Nat) : (s.takeTrigger rank).1.mode' = s.mode' := by
  have refused : ((s.setFld F.SYS_MODE_REFUSE 0 7).raise .MODE_REFUSED 0 [7]).mode' = s.mode' := by
    rw [State.mode', State.fld_raise]
    exact s.fld_setFld_apart (f := F.SYS_MODE_REFUSE) (g := F.SYS_MODE_MODE) rfl (by simp [Fld.fits]) (by simp [Fld.apart]) 0 7
  unfold State.takeTrigger
  extract_lets i beaten s1 s2
  have first : s1.mode' = s.mode' := by
    simp only [s1]
    split
    · exact refused
    · rfl
  have second : s2.mode' = s.mode' := by
    simp only [s2]
    split
    · exact (State.mode'_congr rfl).trans first
    · exact first
  split
  · rfl
  · exact (State.mode'_congr rfl).trans second

theorem State.live_takeTrigger (s : State) (rank : Nat) : (s.takeTrigger rank).1.live = s.live := by
  rw [State.live, State.live, State.takeTrigger_mode']

/-- A request for Configure that R145 does not refuse and that no other trigger overtakes enters Configure. -/
theorem State.modeRequest_configure {s : State} {key : Bool} (may : s.modeCause 3 key = 0) (taken : (s.takeTrigger 5).2 = true) :
    s.modeRequest 3 key = ((s.takeTrigger 5).1.enterConfigure, false) := by
  simp only [State.modeRequest, may, taken, ne_eq, not_true_eq_false, if_false, Bool.not_true, Bool.false_eq_true]

/-- Settles O55: on entry from a live mode every channel takes a command for OFF, and nothing after it writes SW_OUT or the mode; the
trigger of an accepted request leaves the mode live. -/
theorem configureTurnsOff : Obligations.ConfigureTurnsOff := by
  unfold Obligations.ConfigureTurnsOff
  refine ⟨fun s live => ⟨s.enterConfigure_mode, fun n => State.enterConfigure_off live n.isLt⟩, fun s live may taken => ?_⟩
  rw [State.modeRequest_configure may taken]
  exact ⟨State.enterConfigure_mode _, fun n => State.enterConfigure_off ((s.live_takeTrigger 5).trans live) n.isLt⟩

end Sys2Proof.Machine
end

section
/-! Granted writes to the registers of the switch channels, and those that a channel refuses for its period (R172, R182). -/

namespace Sys2Proof.Machine

/-! ## Writes to the SW block -/

/-- A write to a register of the SW block is judged by `State.wrSw`. -/
theorem State.put_sw (s : State) (c : Nat) {r : Reg} (i : Nat) (w m : Word) (inSw : regsSW.contains r = true)
    (notCust : regsCUST.contains r = false) : s.put c r i w m = s.wrSw r i (s.merge r i w m) (r.fired w m) := by
  simp only [State.put, inSw, notCust, Bool.false_eq_true, if_false, if_true]

/-- What a master holds back of a 64-bit pair (R55) is the business of the bus alone. -/
theorem State.dropHeld_keeps {α : Type} (s : State) (c a : Nat) (g : State → α)
    (blind : ∀ (u : State) (b : BusSt), g (u.setBus b) = g u) : g (s.dropHeld c a) = g s := by
  obtain ⟨x, hx⟩ := s.dropHeld_eq c a
  rw [hx]
  exact blind s _

theorem State.merge_dropHeld (s : State) (c a : Nat) (r : Reg) (i : Nat) (w m : Word) :
    (s.dropHeld c a).merge r i w m = s.merge r i w m := by
  obtain ⟨x, hx⟩ := s.dropHeld_eq c a
  rw [hx]
  rfl

theorem State.fld_dropHeld (s : State) (c a : Nat) (f : Fld) (i : Nat) : (s.dropHeld c a).fld f i = s.fld f i :=
  State.fld_congr (s.dropHeld_regs c a) f i

/-- A granted write of a plain register does what the register's own rule says of its word, in the state in which it acts. -/
theorem exec_put {c : Instr} {s : State} {a : Acc} {r : Reg} {i v : Nat} {f : State → State × Nat}
    (h : exec c s = .next (s.run fun s => s.busPut a r i v)) (granted : s.granted a r i) (route : routeReg r = false)
    (high : atomicHigh r = none) (low : atomicLow r = none)
    (put : ∀ code, (s.dropHeld (s.who a).code (r.addr i)).put code r i (BitVec.ofNat 32 v) 0xFFFFFFFF =
      f (s.dropHeld (s.who a).code (r.addr i))) : exec c s = .next (State.finish s (s.wrote a r i f)) :=
  State.run_next h ((State.busPut_wrote granted v route high low).trans (s.wrote_congr a r i (put _)))

theorem exec_wrote_congr {c : Instr} {s : State} {a : Acc} {r : Reg} {i : Nat} {f g : State → State × Nat}
    (h : exec c s = .next (State.finish s (s.wrote a r i f)))
    (same : f (s.dropHeld (s.who a).code (r.addr i)) = g (s.dropHeld (s.who a).code (r.addr i))) :
    exec c s = .next (State.finish s (s.wrote a r i g)) := by rw [h, s.wrote_congr a r i same]

/-! ## Refusals -/

/-- The write to a register of channel `n` that left `x` was refused: REFUSED is set, and beside the channel's status and events no register
changed. -/
structure State.SwRefused (s : State) (n : Nat) (x : State × Nat) : Prop where
  answer : x.2 = abRange
  refused : x.1.flag F.SW_STAT_REFUSED n = true
  rd : ∀ r i, r ≠ .SW_STAT → r ≠ .SW_EVT → x.1.rd r i = s.rd r i

theorem State.swRange_refused (s : State) (n : Nat) : s.SwRefused n (s.swRange n) where
  answer := rfl
  refused := by
    rw [State.swRange, State.setFlag, State.flag_setFld_ne _ (by simp)]
    exact State.flag_setFlag_same s (by simp [Fld.fits]) rfl n true
  rd r i stat evt := by
    have first : (r, i) ≠ (F.SW_STAT_REFUSED.reg, n) := fun e => stat (congrArg Prod.fst e)
    have second : (r, i) ≠ (F.SW_EVT_REFUSED.reg, n) := fun e => evt (congrArg Prod.fst e)
    rw [State.swRange, State.setFlag, State.rd_setFld_ne _ second, State.setFlag, State.rd_setFld_ne s first]

/-- A refusal for R182 raises SW_REFUSED beside what a refusal for its range does. -/
theorem State.swSlewBad_refused (s : State) (n : Nat) : s.SwRefused n (s.swSlewBad n) where
  answer := rfl
  refused := (State.flag_raise _ _ _ _ _ _ _).trans (s.swRange_refused n).refused
  rd r i stat evt := (State.rd_congr (State.raise_regs _ _ _ _ _) r i).trans ((s.swRange_refused n).rd r i stat evt)

/-- A period below four times the minimum pulse of the slew is refused, if not already for its range (R182). -/
theorem State.wrSw_pwm_refused (s : State) (i : Nat) (n c : Word)
    (short : F.SW_PWM_PERIOD.of n < 4 * tminOf (s.fld F.SW_CTRL_SLEW i)) : s.SwRefused i (s.wrSw .SW_PWM i n c) := by
  simp only [State.wrSw, short, if_true]
  split
  · exact s.swRange_refused i
  · exact s.swSlewBad_refused i

/-- So is a slew whose minimum pulse is more than a quarter of the period, if not already for VREF. -/
theorem State.wrSw_ctrl_refused (s : State) (i : Nat) (n c : Word)
    (short : s.fld F.SW_PWM_PERIOD i < 4 * tminOf (F.SW_CTRL_SLEW.of n)) : s.SwRefused i (s.wrSw .SW_CTRL i n c) := by
  simp only [State.wrSw, short, if_true]
  split
  · exact s.swRange_refused i
  · exact s.swSlewBad_refused i

/-- A granted write that its channel refuses keeps the register written. -/
theorem State.wrote_swRefused {s : State} {a : Acc} {r : Reg} {n : Nat} {f : State → State × Nat}
    (stat : r ≠ .SW_STAT) (evt : r ≠ .SW_EVT)
    (h : (s.dropHeld (s.who a).code (r.addr n)).SwRefused n (f (s.dropHeld (s.who a).code (r.addr n)))) :
    (s.wrote a r n f).rd r n = s.rd r n ∧ (s.wrote a r n f).flag F.SW_STAT_REFUSED n = true := by
  have answered : ¬ (f (s.dropHeld (s.who a).code (r.addr n))).2 = 0 := by
    rw [h.answer]
    decide
  rw [State.wrote, if_neg answered, State.answer_fst]
  exact ⟨(h.rd r n stat evt).trans (State.rd_congr (s.dropHeld_regs _ _) r n), h.refused⟩

/-- A 32-bit write of a register that has no other half, when the register's own rule refuses it. -/
theorem registerWrite_swRefused {s : State} {a : Acc} {r : Reg} {n : Nat} (v : Nat) (granted : s.granted a r n)
    (inSw : regsSW.contains r = true) (notCust : regsCUST.contains r = false) (route : routeReg r = false) (high : atomicHigh r = none) (low : atomicLow r = none)
    (stat : r ≠ .SW_STAT) (evt : r ≠ .SW_EVT)
    (refused : (s.dropHeld (s.who a).code (r.addr n)).SwRefused n ((s.dropHeld (s.who a).code (r.addr n)).wrSw r n
      (s.merge r n (BitVec.ofNat 32 v) 0xFFFFFFFF) (r.fired (BitVec.ofNat 32 v) 0xFFFFFFFF))) :
    Completes (.registerWrite a (r.addr n) .b32 v) s fun u => u.rd r n = s.rd r n ∧ u.flag F.SW_STAT_REFUSED n = true := by
  refine ⟨_, exec_put (f := fun u => u.wrSw r n (s.merge r n (BitVec.ofNat 32 v) 0xFFFFFFFF) (r.fired (BitVec.ofNat 32 v) 0xFFFFFFFF)) rfl
    granted route high low fun code => ?_, State.wrote_swRefused stat evt refused⟩
  rw [State.put_sw _ _ _ _ _ inSw notCust, State.merge_dropHeld]

/-- Settles O59: the merged period or slew breaks the rule of R182, and the write is refused for it or already for its range. -/
theorem pwmPeriodRule : Obligations.PwmPeriodRule := by
  unfold Obligations.PwmPeriodRule
  refine ⟨fun s a n v granted short => ?_, fun s a n v granted short => ?_⟩
  · refine registerWrite_swRefused v granted rfl rfl rfl rfl rfl (by decide) (by decide) (State.wrSw_pwm_refused _ _ _ _ ?_)
    rwa [State.fld_dropHeld]
  · refine registerWrite_swRefused v granted rfl rfl rfl rfl rfl (by decide) (by decide) (State.wrSw_ctrl_refused _ _ _ _ ?_)
    rwa [State.fld_dropHeld]

end Sys2Proof.Machine
end

section
/-! The commands of the switch channels (R171 to R191): writes of a commanded state, group commands, pairs, the start of a PWM period. -/

namespace Sys2Proof.Machine

/-! ## SW_OUT (R172) -/

theorem State.put_swOut (s : State) (c : Nat) (i : Nat) (w : Word) : s.put c .SW_OUT i w 0xFFFFFFFF =
    refusedAs abState (s.swOutWrite i (F.SW_OUT_MODE.of w) (F.SW_OUT_DUTY.of w)) := by
  have mode := Fld.of_merge s (f := F.SW_OUT_MODE) (r := .SW_OUT) i w (by decide) (by decide)
  have duty := Fld.of_merge s (f := F.SW_OUT_DUTY) (r := .SW_OUT) i w (by decide) (by decide)
  rw [← mode, ← duty]
  exact s.put_sw c i w _ rfl rfl

theorem exec_swOutWrite {s : State} {a : Acc} {n : Fin 64} (duty : Bool) (v : Nat) (h : s.granted a .SW_OUT n) :
    exec (.swOutWrite (.reg a) n duty v) s = .next (State.finish s (s.wrote a .SW_OUT n fun s => refusedAs abState
      (s.swOutWrite n (F.SW_OUT_MODE.of (BitVec.ofNat 32 v)) (F.SW_OUT_DUTY.of (BitVec.ofNat 32 v))))) :=
  exec_put rfl h rfl rfl rfl fun code => State.put_swOut _ code n _

theorem State.onRefused_dropHeld (s : State) (c a n mode : Nat) : (s.dropHeld c a).onRefused n mode = s.onRefused n mode :=
  s.dropHeld_keeps c a (·.onRefused n mode) fun _ _ => rfl

/-- A commanded state that R172 does not refuse is taken. -/
theorem State.swOutWrite_taken {s : State} {n mode : Nat} (may : s.onRefused n mode = false) (duty : Nat) :
    s.swOutWrite n mode duty = ((s.swAccept n).command n mode duty none, false) := by
  rw [State.swOutWrite, may]
  rfl

/-! ## PWM periods (R176 to R180) -/

/-- No period of the last 100 ms saturated (R180, log 118). -/
def State.satFresh (s : State) (n : Nat) : Bool := (s.swc n).satAt.all fun t => decide (t + ms 100 ≤ s.now)

theorem State.satFresh_of_recent {s : State} {n : Nat} (h : (s.swc n).satAt.any (fun t => decide (s.now < t + ms 100)) = true) :
    s.satFresh n = false := by
  unfold State.satFresh
  cases hs : (s.swc n).satAt with
  | none => rw [hs] at h; cases h
  | some t =>
    rw [hs, Option.any_some, decide_eq_true_eq] at h
    rw [Option.all_some, decide_eq_false_iff_not]
    omega

theorem State.setVfeed_clk (s : State) (f v : Nat) : (s.setVfeed f v).clk = s.clk := by
  unfold State.setVfeed
  extract_lets t
  have seen : t.clk = s.clk := by
    simp only [t]
    split <;> exact State.setFld_clk ..
  split
  · rw [State.setFld_clk, State.setFld_clk, seen]
  · exact seen

/-- A period starts on leading channel `m` at tick `g`: with less than PWM to do the stage follows its drive at once; else the cells take the
period's duty, and a saturated one is reported where none was of late. -/
def State.periodBegin (s : State) (m g : Nat) : State :=
  if (s.want m).mode < 2 then s.refresh m
  else
    let r := s.periodDuty m (s.want m)
    let t := s.each (s.cells m) fun s c => s.startPeriod m g r.1 r.2 c
    if r.2 && s.satFresh m then (t.setFlag F.SW_EVT_COMP_SAT m).raise .COMP_SAT m [] (sec 1) else t

theorem State.periodStart_eq {s : State} {n m g : Nat} {raw : List (List (Nat × Int))} (lead : s.lead n = m)
    (next : (s.swc m).nextStart s.clk.g0 = some g) :
    s.periodStart n raw = ((s.advanceTo (s.gTime g)).periodDone m raw).periodBegin m g := by
  unfold State.periodStart State.periodBegin
  simp only [lead, next]
  generalize (s.advanceTo (s.gTime g)).periodDone m raw = w
  split
  · rfl
  · unfold State.satFresh
    cases (w.swc m).satAt with
    | none => rw [Option.all_none]
    | some t => rw [Option.all_some]

/-- The command sees the feed's voltage before the period starts. -/
theorem exec_pwmPeriodStart {s w : State} {n : Fin 64} {m v g : Nat} {a b : List (Nat × Int)} (awake : s.awake = true)
    (lead : m = (s.setVfeed (feedOf n) v).lead n) (next : ((s.setVfeed (feedOf n) v).swc m).nextStart s.clk.g0 = some g)
    (hw : w = ((s.setVfeed (feedOf n) v).advanceTo (s.gTime g)).periodDone m [a, b]) :
    exec (.pwmPeriodStart n v a b) s = .next (State.finish s (w.periodBegin m g)) := by
  have clk := s.setVfeed_clk (feedOf n) v
  have time : (s.setVfeed (feedOf n) v).gTime g = s.gTime g := by rw [State.gTime, State.gTime, clk]
  refine State.runOn_next rfl awake ((State.periodStart_eq lead.symm (by rwa [clk])).trans ?_)
  rw [time, hw]

section
variable {w : State} {m : Nat} (g : Nat)

theorem State.periodBegin_notPwm (low : (w.want m).mode < 2) : w.periodBegin m g = w.refresh m := if_pos low

theorem State.periodBegin_quiet (pwm : 2 ≤ (w.want m).mode) (quiet : (w.periodDuty m (w.want m)).2 = false ∨ w.satFresh m = false) :
    w.periodBegin m g =
      w.each (w.cells m) fun s c => s.startPeriod m g (w.periodDuty m (w.want m)).1 (w.periodDuty m (w.want m)).2 c := by
  have silent : ¬ ((w.periodDuty m (w.want m)).2 && w.satFresh m) = true := by rcases quiet with h | h <;> simp [h]
  exact (if_neg (by omega)).trans (if_neg silent)

theorem State.periodBegin_saturated (pwm : 2 ≤ (w.want m).mode) (saturated : (w.periodDuty m (w.want m)).2 = true)
    (fresh : w.satFresh m = true) : w.periodBegin m g =
      ((w.each (w.cells m) fun s c => s.startPeriod m g (w.periodDuty m (w.want m)).1 (w.periodDuty m (w.want m)).2 c).setFlag
        F.SW_EVT_COMP_SAT m).raise .COMP_SAT m [] (sec 1) := by
  have reported : ((w.periodDuty m (w.want m)).2 && w.satFresh m) = true := by rw [saturated, fresh]; rfl
  exact (if_neg (by omega)).trans (if_pos reported)

end

/-! ## The end of the inrush phase (R183) and a delayed turn-on (R184) -/

theorem State.inrushEnd_due {s : State} {n t : Nat} (due : (s.swc n).inrush = some t) (runs : (s.swc n).frzAt = none) :
    s.inrushEnd n = (s.advanceTo t).setSwc n { s.swc n with inrush := none, frozen := 0 } := by
  have thawed : ¬ (s.swc n).frzAt.isSome = true := by
    rw [runs]
    exact Bool.false_ne_true
  rw [State.inrushEnd, due]
  exact if_neg thawed

theorem State.groupTurnOn_due {s : State} {n m t : Nat} (lead : s.lead n = m) (due : (s.swc m).delay = some t) :
    s.groupTurnOn n = ((s.advanceTo t).each (s.cells m) fun s c => s.setSwc c { s.swc c with delay := none }).refresh m := by
  simp only [State.groupTurnOn, lead, due]
  rfl

/-! ## Group commands (R184) -/

/-- When a group command for `mode` turns channel `n` on, where that is later: PHASE µs after a command that takes it from OFF, or from a
turn-on still pending, to ON (R184, R185). -/
def State.groupDelay (s : State) (mode : Nat) (n : Nat) : Option Nat :=
  if mode = 1 ∧ (s.fld F.SW_OUT_MODE n = 0 ∨ (s.swc n).delay.isSome = true) ∧ s.fld F.SW_PHASE_PHASE n ≠ 0 then
    some (s.now + us (s.fld F.SW_PHASE_PHASE n))
  else none

theorem State.groupDelay_fin (s : State) (mode : Fin 4) (n : Nat) : s.groupDelay mode n =
    if mode = 1 ∧ (s.fld F.SW_OUT_MODE n = 0 ∨ (s.swc n).delay.isSome = true) ∧ s.fld F.SW_PHASE_PHASE n ≠ 0 then
      some (s.now + us (s.fld F.SW_PHASE_PHASE n))
    else none := if_congr (and_congr_left' (Fin.ext_iff (a := mode) (b := 1)).symm) rfl rfl

/-- The channels that a group command selects, all of them free to take it, take it. -/
theorem State.groupCommand_taken {s : State} {sel mode : Nat} {ns : List Nat} (selected : s.leads.filter (fun n => bitOf sel n) = ns)
    (may : mode = 0 ∨ (s.live = true ∧ ns.all (fun n => !s.gateShut n) = true)) (duty : Nat) :
    s.groupCommand sel mode duty = (s.each ns fun s n => s.command n mode duty (s.groupDelay mode n), false) := by
  have free : ¬ (mode != 0 && (!s.live || ns.any fun n => s.gateShut n)) = true := by
    rcases may with off | ⟨live, gates⟩
    · rw [off]
      exact Bool.false_ne_true
    · rw [live]
      simpa using fun _ => by simpa using gates
  have delays (u : State) (n : Nat) :
      (if mode = 1 && (u.fld F.SW_OUT_MODE n == 0 || (u.swc n).delay.isSome) && u.fld F.SW_PHASE_PHASE n != 0
        then some (u.now + us (u.fld F.SW_PHASE_PHASE n)) else none) = u.groupDelay mode n :=
    if_congr (by simp [and_assoc]) rfl rfl
  rw [State.groupCommand, selected, if_neg free]
  simp only [delays]

theorem State.fld_wr_ne (s : State) {f : Fld} {r : Reg} (other : f.reg ≠ r) (i j : Nat) (v : Word) : (s.wr r j v).fld f i = s.fld f i := by
  rw [State.fld, State.fld, State.rd_wr_ne _ _ fun e => other (congrArg Prod.fst e)]

/-! What a group command looks at does not change when its word is stored. -/

section
variable (s : State) (c a : Nat) (v : Word)

theorem State.leads_grpStored : ((s.dropHeld c a).wr .SW_GLB_GRPCMD 0 v).leads = s.leads := by
  have lead (n : Nat) : ((s.dropHeld c a).wr .SW_GLB_GRPCMD 0 v).lead n = s.lead n := by
    rw [State.lead, State.lead, State.paired, State.paired, State.bit, State.bit, State.fld_wr_ne _ (by decide), State.fld_dropHeld]
  simp only [State.leads, lead]

theorem State.live_grpStored : ((s.dropHeld c a).wr .SW_GLB_GRPCMD 0 v).live = s.live := by
  rw [State.live, State.live, State.mode', State.mode', State.fld_wr_ne _ (by decide), State.fld_dropHeld]

theorem State.gateShut_grpStored (n : Nat) : ((s.dropHeld c a).wr .SW_GLB_GRPCMD 0 v).gateShut n = s.gateShut n := by
  rw [State.gateShut, State.gateShut, State.bit, State.bit, State.fld_wr_ne _ (by decide), State.fld_wr_ne _ (by decide),
    State.fld_dropHeld, State.fld_dropHeld]

end

/-- The channels that SW_GLB_GRPLO and SW_GLB_GRPHI select. -/
def State.grpSel (s : State) : Nat := s.fld F.SW_GLB_GRPLO_SEL + 2 ^ 32 * s.fld F.SW_GLB_GRPHI_SEL

/-- Those of them that have a commanded state of their own (R184). -/
def State.grpLeads (s : State) : List Nat := s.leads.filter fun n => bitOf s.grpSel n

/-- A full write of SW_GLB_GRPCMD with GO is stored and carries out the command of its fields. -/
theorem State.put_grpCmd (s : State) (c : Nat) {w : Word} (go : w.getLsbD 16 = true) : s.put c .SW_GLB_GRPCMD 0 w 0xFFFFFFFF =
    refusedAs abState ((s.wr .SW_GLB_GRPCMD 0 (s.merge .SW_GLB_GRPCMD 0 w 0xFFFFFFFF)).groupCommand s.grpSel
      (F.SW_GLB_GRPCMD_MODE.of w) (F.SW_GLB_GRPCMD_DUTY.of w)) := by
  have fires : F.SW_GLB_GRPCMD_GO.on (Reg.fired .SW_GLB_GRPCMD w 0xFFFFFFFF) = true := (Fld.on_fired w rfl (by decide)).trans go
  have mode := Fld.of_merge s (f := F.SW_GLB_GRPCMD_MODE) (r := .SW_GLB_GRPCMD) 0 w (by decide) (by decide)
  have duty := Fld.of_merge s (f := F.SW_GLB_GRPCMD_DUTY) (r := .SW_GLB_GRPCMD) 0 w (by decide) (by decide)
  rw [State.put_sw _ _ _ _ _ rfl rfl, ← mode, ← duty, State.grpSel]
  simp only [State.wrSw, fires, if_true, s.fld_wr_ne (f := F.SW_GLB_GRPLO_SEL) (r := .SW_GLB_GRPCMD) (by decide),
    s.fld_wr_ne (f := F.SW_GLB_GRPHI_SEL) (r := .SW_GLB_GRPCMD) (by decide)]

/-- The word of a group command: its fields and GO. -/
def grpWord (mode duty : Nat) : Nat := duty + mode * 2 ^ 12 + 2 ^ 16

theorem grpWord_fields (mode : Fin 4) (duty : Fin 4096) : F.SW_GLB_GRPCMD_MODE.of (BitVec.ofNat 32 (grpWord mode duty)) = mode ∧
    F.SW_GLB_GRPCMD_DUTY.of (BitVec.ofNat 32 (grpWord mode duty)) = duty ∧ (BitVec.ofNat 32 (grpWord mode duty)).getLsbD 16 = true := by
  have low := duty.isLt
  have mid := mode.isLt
  simp only [Fld.of, BitVec.toNat_ofNat, grpWord, BitVec.getLsbD_ofNat]
  refine ⟨by omega, by omega, ?_⟩
  rw [Nat.add_comm, Nat.testBit_two_pow_add_eq, Nat.testBit_lt_two_pow (by omega)]
  rfl

theorem exec_groupCommand {s : State} {a : Acc} (h : s.granted a .SW_GLB_GRPCMD 0) (mode : Fin 4) (duty : Fin 4096) {n : Word}
    (hn : n = (s.dropHeld (s.who a).code (Reg.addr .SW_GLB_GRPCMD 0)).merge .SW_GLB_GRPCMD 0 (BitVec.ofNat 32 (grpWord mode duty))
      0xFFFFFFFF) :
    exec (.groupCommand (.reg a) mode duty) s = .next (State.finish s (s.wrote a .SW_GLB_GRPCMD 0 fun s => refusedAs abState
      ((s.wr .SW_GLB_GRPCMD 0 n).groupCommand s.grpSel mode duty))) := by
  obtain ⟨modeIs, dutyIs, go⟩ := grpWord_fields mode duty
  exact exec_put rfl h rfl rfl rfl fun code => (State.put_grpCmd _ code go).trans (by rw [modeIs, dutyIs, hn])

/-! ## Pairs (R186, R190) -/

theorem State.put_swPair (s : State) (c : Nat) (v : Nat) :
    s.put c .SW_GLB_PAIR 0 (BitVec.ofNat 32 v) 0xFFFFFFFF = refusedAs abState (s.pairWrite (v % 2 ^ 32)) := by
  have pairs := Fld.of_merge s (f := F.SW_GLB_PAIR_PAIR) (r := .SW_GLB_PAIR) 0 (BitVec.ofNat 32 v) (by decide) (by decide)
  have word : F.SW_GLB_PAIR_PAIR.of (BitVec.ofNat 32 v) = v % 2 ^ 32 := by simp [Fld.of]
  rw [← word, ← pairs]
  exact s.put_sw c 0 _ _ rfl rfl

theorem exec_pairWrite {s : State} {a : Acc} (h : s.granted a .SW_GLB_PAIR 0) (v : Nat) :
    exec (.pairWrite (.reg a) v) s = .next (State.finish s (s.wrote a .SW_GLB_PAIR 0 fun s => refusedAs abState
      (s.pairWrite (v % 2 ^ 32)))) := exec_put rfl h rfl rfl rfl fun code => State.put_swPair _ code v

/-- The channels whose pairing the word `v` changes. -/
def State.repaired (s : State) (v : Nat) : List Nat :=
  (List.range 64).filter fun n => bitOf (s.fld F.SW_GLB_PAIR_PAIR) (n / 2) != bitOf v (n / 2)

/-- The channel is commanded OFF with its output off. -/
def State.atRest (s : State) (n : Nat) : Bool := s.fld F.SW_OUT_MODE n == 0 && (s.swc n).st == 0

theorem State.pairWrite_taken {s : State} {v : Nat} (cfg : s.cfgOpen = true) (rest : (s.repaired v).all s.atRest = true) :
    s.pairWrite v = ((s.wr .SW_GLB_PAIR 0 (BitVec.ofNat 32 v)).refreshAll, false) := by
  have may : (s.cfgOpen && (s.repaired v).all s.atRest) = true := by rw [cfg, rest]; rfl
  exact if_pos may

/-- The guard of R186 in the state in which a granted write acts. -/
theorem State.pairWrite_dropHeld {s : State} {v : Nat} (c a : Nat) (cfg : s.cfgOpen = true) (rest : (s.repaired v).all s.atRest = true) :
    (s.dropHeld c a).pairWrite v = (((s.dropHeld c a).wr .SW_GLB_PAIR 0 (BitVec.ofNat 32 v)).refreshAll, false) :=
  State.pairWrite_taken ((s.dropHeld_keeps c a (·.cfgOpen) fun _ _ => rfl).trans cfg)
    ((s.dropHeld_keeps c a (fun u => (u.repaired v).all u.atRest) fun _ _ => rfl).trans rest)

/-- The shares of the pair of channel `l` are marked as differing. -/
def State.markImbalance (s : State) (l : Nat) : State :=
  s.each [l, l + 1] fun s c => (s.setFlag F.SW_STAT_PAIR_IMB c).setFlag F.SW_EVT_PAIR_IMB c

theorem State.markImbalance_flags (s : State) (l : Nat) : (s.markImbalance l).flag F.SW_STAT_PAIR_IMB l = true ∧
    (s.markImbalance l).flag F.SW_EVT_PAIR_IMB (l + 1) = true := by
  refine ⟨?_, State.flag_setFlag_same _ (by simp [Fld.fits]) rfl (l + 1) true⟩
  have split : s.markImbalance l = (((s.setFlag F.SW_STAT_PAIR_IMB l).setFlag F.SW_EVT_PAIR_IMB l).setFlag
    F.SW_STAT_PAIR_IMB (l + 1)).setFlag F.SW_EVT_PAIR_IMB (l + 1) := rfl
  rw [split, State.setFlag, State.flag_setFld_ne _ (by simp), State.setFlag, State.flag_setFld_ne _ (by simp), State.setFlag,
    State.flag_setFld_ne _ (by simp)]
  exact State.flag_setFlag_same s (by simp [Fld.fits]) rfl l true

theorem State.pairImbalance_raised {s : State} {n : Nat} {x y : Int} (paired : s.paired n = true) (large : 1600 ≤ (x + y).natAbs)
    (apart : (x + y).natAbs < 5 * (x - y).natAbs) (first : s.flag F.SW_STAT_PAIR_IMB (n / 2 * 2) = false) :
    s.pairImbalance n x y = (s.markImbalance (n / 2 * 2)).raise .PAIR_IMBALANCE (n / 2 * 2) :=
  if_pos ⟨paired, large, apart, by rw [first]; rfl⟩

theorem State.pairBalance_cleared {s : State} {n : Nat} {x y : Int} (near : 5 * (x - y).natAbs ≤ (x + y).natAbs) :
    s.pairBalance n x y = ((s.setFlag F.SW_STAT_PAIR_IMB (n / 2 * 2) false).setFlag F.SW_STAT_PAIR_IMB (n / 2 * 2 + 1) false).clearFault
      .PAIR_IMBALANCE (n / 2 * 2) := if_pos near

/-! ## The peak (R191) -/

theorem State.put_swPeak_clr (s : State) (c n : Nat) {w : Word} (clr : w.getLsbD 31 = true) :
    s.put c .SW_PEAK n w 0xFFFFFFFF = ((s.swAccept n).setFld F.SW_PEAK_PEAK n 0, 0) := by
  have fires : F.SW_PEAK_CLR.on (Reg.fired .SW_PEAK w 0xFFFFFFFF) = true := (Fld.on_fired w rfl (by decide)).trans clr
  rw [State.put_sw _ _ _ _ _ rfl rfl]
  exact congrArg (·, 0) (if_pos fires)

theorem exec_peakClr {s : State} {a : Acc} {n : Fin 64} (h : s.granted a .SW_PEAK n) : exec (.peakClr (.reg a) n) s =
    .next (State.finish s (s.wrote a .SW_PEAK n fun s => ((s.swAccept n).setFld F.SW_PEAK_PEAK n 0, 0))) :=
  exec_put rfl h rfl rfl rfl fun code => State.put_swPeak_clr _ code n (by decide)

/-- The write that clears a peak is accepted, and leaves everything but the peak and REFUSED. -/
theorem State.wrote_peakClr (s : State) (a : Acc) (n : Nat) {u : State}
    (hu : u = s.wrote a .SW_PEAK n fun s => ((s.swAccept n).setFld F.SW_PEAK_PEAK n 0, 0)) :
    u.fld F.SW_PEAK_PEAK n = 0 ∧ u.flag F.SW_STAT_REFUSED n = false ∧ s.sameBut u [(.SW_PEAK, n), (.SW_STAT, n)] := by
  rw [State.wrote_accepted s a _ _ fun u => (u.swAccept n).setFld F.SW_PEAK_PEAK n 0, State.answer_fst] at hu
  have regs : u.regs = (((s.dropHeld (s.who a).code (Reg.addr .SW_PEAK n)).swAccept n).setFld F.SW_PEAK_PEAK n 0).regs := by
    rw [hu]
    exact State.clearMismatch_regs _ _
  refine ⟨(State.fld_congr regs _ _).trans (State.fld_setFld_same _ (by simp [Fld.fits]) n 0), ?flag, ?frame⟩
  case flag =>
    rw [State.flag_congr regs, State.flag_setFld_ne _ (by simp)]
    exact State.flag_setFlag_same _ (by simp [Fld.fits]) rfl n false
  case frame =>
    rw [hu]
    have dropped := (s.sameBut_refl [(.SW_PEAK, n), (.SW_STAT, n)]).dropHeld (s.who a).code (Reg.addr .SW_PEAK n)
    have accepted := dropped.setFlag (f := F.SW_STAT_REFUSED) (i := n) false (by simp)
    exact ((accepted.setFld (f := F.SW_PEAK_PEAK) (i := n) 0 (by simp)).clearMismatch _).setBus _

/-- Settles O13: a write of a command register is the register's rule over the fields of its word, and each event is one branch of its
operation. -/
theorem switchCommands : Obligations.SwitchCommands := by
  unfold Obligations.SwitchCommands
  refine ⟨?out, ?outTaken, ?notPwm, ?period, ?saturated, ?inrush, ?group, ?groupTaken, ?turnOn, ?pair, ?pairTaken, ?imbalance, ?balance,
    ?peak⟩
  case out => exact fun s a n duty v h => exec_swOutWrite duty v h
  case outTaken =>
    intro s a n duty v h may
    refine exec_wrote_congr (exec_swOutWrite duty v h) ?_
    rw [State.swOutWrite_taken (by rwa [State.onRefused_dropHeld])]
    rfl
  case notPwm =>
    intro s w n m v a b g awake lead next hw low
    rw [exec_pwmPeriodStart awake lead next hw, State.periodBegin_notPwm g low]
  case period =>
    rintro s w n m v a b g r awake lead next hw pwm rfl quiet
    rw [exec_pwmPeriodStart awake lead next hw, State.periodBegin_quiet g pwm (quiet.imp_right State.satFresh_of_recent)]
  case saturated =>
    rintro s w n m v a b g r awake lead next hw pwm rfl saturated fresh
    rw [exec_pwmPeriodStart awake lead next hw, State.periodBegin_saturated g pwm saturated fresh]
  case inrush => exact fun s n t awake due runs => State.runOn_next rfl awake (State.inrushEnd_due due runs)
  case group => exact fun s a mode duty h => ⟨_, exec_groupCommand h mode duty rfl⟩
  case groupTaken =>
    rintro s a mode duty ns h rfl may
    obtain ⟨n, stored⟩ : ∃ n, n = (s.dropHeld (s.who a).code (Reg.addr .SW_GLB_GRPCMD 0)).merge .SW_GLB_GRPCMD 0
      (BitVec.ofNat 32 (grpWord mode duty)) 0xFFFFFFFF := ⟨_, rfl⟩
    refine ⟨n, exec_wrote_congr (exec_groupCommand h mode duty stored) ?_⟩
    rw [State.groupCommand_taken (ns := s.grpLeads) ?selected ?free]
    case selected =>
      rw [State.leads_grpStored, State.grpSel, State.fld_dropHeld, State.fld_dropHeld]
      rfl
    case free =>
      simp only [State.live_grpStored, State.gateShut_grpStored]
      exact may.imp_left (congrArg Fin.val)
    simp only [State.groupDelay_fin]
    rfl
  case turnOn => exact fun s n m t awake lead due => State.runOn_next rfl awake (State.groupTurnOn_due lead due)
  case pair => exact fun s a v h => exec_pairWrite h v
  case pairTaken =>
    intro s a v h cfg rest
    refine exec_wrote_congr (exec_pairWrite h v) ?_
    rw [Nat.mod_eq_of_lt v.isLt, State.pairWrite_dropHeld _ _ cfg rest]
    rfl
  case imbalance =>
    intro s n x y awake paired large apart first
    refine State.runOn_completes (f := fun s => s.pairImbalance n x y) rfl awake ?_
    obtain ⟨stat, evt⟩ := s.markImbalance_flags (n / 2 * 2)
    rw [State.pairImbalance_raised paired large apart first, State.flag_raise, State.flag_raise]
    exact ⟨stat, evt, State.active_raise _ _ (by decide) _ _ _⟩
  case balance =>
    intro s n x y awake near
    refine State.runOn_completes (f := fun s => s.pairBalance n x y) rfl awake ?_
    rw [State.pairBalance_cleared near, State.flag_clearFault, State.setFlag, State.flag_setFld_ne _ (by simp)]
    exact ⟨State.flag_setFlag_same _ (by simp [Fld.fits]) rfl _ false, State.active_clearFault _ _ _⟩
  case peak => exact fun s a n h => ⟨_, exec_peakClr h, s.wrote_peakClr a n rfl⟩

end Sys2Proof.Machine
end

section
/-! Channel protection (R195 to R226): the comparator, levels 1 and 2, the measurements of 1 ms with the wire models, and clears. -/

namespace Sys2Proof.Machine

/-! ## The comparator (R195) -/

theorem State.fastTrip_trips {s : State} {n cur : Nat} (on : (s.swc n).gateOn (s.now - s.clk.g0) = true)
    (reached : 1500 * s.activeLimit n ≤ cur) : s.fastTrip n cur =
      (((s.bump F.PROT_CNT_FT n).setFlag F.PROT_EVT_FT n).raise .FAST_TRIP n).setHold n .ft :=
  if_neg (by rw [on]; simpa using reached)

theorem State.fastTrip_rests {s : State} {n cur : Nat}
    (below : (s.swc n).gateOn (s.now - s.clk.g0) = false ∨ cur < 1500 * s.activeLimit n) : s.fastTrip n cur = s :=
  if_pos (below.imp_left fun off => by rw [off]; rfl)

/-! ## Level 1 (R197, R198, R201) -/

/-- A level-1 crossing of channel `n` is counted and reported. -/
def State.l1Noted (s : State) (n : Nat) : State := ((s.bump F.PROT_CNT_L1 n).setFlag F.PROT_EVT_L1 n).raise .L1_TRIP n [] (sec 1)

theorem State.l1Noted_flag (s : State) (n : Nat) : (s.l1Noted n).flag F.PROT_EVT_L1 n = true :=
  (State.flag_raise _ _ _ _ _ _ _).trans (State.flag_setFlag_same _ (by simp [Fld.fits]) rfl n true)

theorem State.l1Noted_active (s : State) (n : Nat) : (s.l1Noted n).active .L1_TRIP n = true := State.active_raise _ _ (by decide) _ _ _

theorem State.fld_l1Noted (s : State) {f : Fld} (cnt : f.reg ≠ .PROT_CNT) (evt : f.reg ≠ .PROT_EVT) (n i : Nat) :
    (s.l1Noted n).fld f i = s.fld f i := by
  rw [State.l1Noted, State.fld_raise, State.setFlag, State.fld_setFld_ne _ fun e => evt (congrArg Prod.fst e), State.bump,
    State.fld_setFld_ne _ fun e => cnt (congrArg Prod.fst e)]

theorem State.lead_l1Noted (s : State) (n k : Nat) : (s.l1Noted n).lead k = s.lead k := by
  rw [State.lead, State.lead, State.paired, State.paired, State.bit, State.bit, State.fld_l1Noted _ (by decide) (by decide)]

theorem State.l1Latch_l1Noted (s : State) (n k : Nat) : (s.l1Noted n).flag F.PROT_CFG_L1_LATCH k = s.flag F.PROT_CFG_L1_LATCH k := by
  rw [State.flag, State.flag, State.fld_l1Noted _ (by decide) (by decide)]

theorem State.restartsOf_l1Noted (s : State) (n k : Nat) : (s.l1Noted n).restartsOf k = s.restartsOf k := by
  have now : (s.l1Noted n).now = s.now := State.raise_now _ _ _ _ _
  have sw : (s.l1Noted n).sw = s.sw := State.raise_sw _ _ _ _ _
  rw [State.restartsOf, State.restartsOf, State.swc, State.swc, now, sw]

/-- A crossing while the gate is on: what the channel is held by. -/
theorem State.l1Trip_crossing {s v : State} {n : Nat} {tj : Int} (hv : v = s.setFld F.SW_TEMP_TJ n (satSigned 8 tj))
    (on : v.gateOn n = true) (hot : 170 ≤ tj ∨ v.above tj 60 = true) : s.l1Trip n tj =
      if v.flag F.PROT_CFG_L1_LATCH (v.lead n) then (v.l1Noted n).setHold n .l1Latch
      else if 8 ≤ (v.restartsOf (v.lead n)).length then
        (((v.l1Noted n).setFlag F.PROT_EVT_BUDGET n).raise .RESTART_BUDGET n).setHold n .budget
      else (v.l1Noted n).setHold n .l1 := by
  have crosses : ¬ ((!v.gateOn n) = true ∨ (!(decide (170 ≤ tj) || v.above tj 60)) = true) := by
    rcases hot with level | rise
    · simp [on, level]
    · simp [on, rise]
  rw [← v.l1Latch_l1Noted n, ← v.lead_l1Noted n, ← v.restartsOf_l1Noted n, hv]
  exact if_neg (hv ▸ crosses)

theorem State.l1Restart_ends {s v : State} {n : Nat} {tj tj2 : Int}
    (hv : v = s.each ((s.cells n).zip [tj, tj2]) fun s c => s.setFld F.SW_TEMP_TJ c.1 (satSigned 8 c.2))
    (pending : v.heldIn n 6 6 = true) (cool : v.cool n = true) : s.l1Restart n tj tj2 =
      ((v.each (s.cells n) fun s c => s.setSwc c { s.swc c with restarts := (s.now :: (s.restartsOf c)).take 16 }).each (s.cells n)
        fun s c => s.clearFault .L1_TRIP c).endHold n .l1 := by
  have ready : ¬ ((!v.heldIn n 6 6) = true ∨ (!v.cool n) = true) := by simp [pending, cool]
  subst hv
  exact if_neg ready

/-! ## Level 2 (R200) and the step of 1 ms (R202) -/

theorem State.l2Reading_holds {s v : State} {n : Nat} {tj c : Int} (hv : v = s.setFld F.SW_TEMP_TJ n (satSigned 8 tj))
    (hc : c = if v.isSafe (.protCh (v.lead n)) then 110 else v.fld F.PROT_CFG_CEIL (v.lead n))
    (commanded : v.fld F.SW_OUT_MODE (v.lead n) ≠ 0) (reached : c ≤ tj) (first : v.held n .ceil = false) :
    s.l2Reading n tj = ((v.setFlag F.PROT_EVT_CEIL n).raise .L2_CEILING n).setHold n .ceil := by
  have holds : ¬ (v.fld F.SW_OUT_MODE (v.lead n) = 0 ∨ tj < c ∨ v.held n .ceil = true) := by
    simp [commanded, reached, first]
  rw [Nat.cast_ite] at hc
  subst hc hv
  exact if_neg holds

theorem State.not_unpowered {s : State} (powered : s.powered = true) : ¬ (!s.powered) = true := by simp [powered]

theorem State.awake_of_powered {s : State} (powered : s.powered = true) : s.awake = true := (Bool.and_eq_true_iff.mp powered).1

/-! ## Clears (R222, R223) -/

/-- A write to a register of the PROT block is judged by `State.wrProt`. -/
theorem State.put_prot (s : State) (c : Nat) {r : Reg} (i : Nat) (w m : Word) (inProt : regsPROT.contains r = true)
    (notSw : regsSW.contains r = false) (notCust : regsCUST.contains r = false) :
    s.put c r i w m = s.wrProt r i (s.merge r i w m) (r.fired w m) := by
  simp only [State.put, inProt, notSw, notCust, Bool.false_eq_true, if_false, if_true]

theorem State.put_protClr (s : State) (c n : Nat) {w : Word} (clr : w.getLsbD 0 = true) :
    s.put c .PROT_CLR n w 0xFFFFFFFF = refusedAs abState (s.protClear (s.lead n)) := by
  have fires : F.PROT_CLR_CLR.on (Reg.fired .PROT_CLR w 0xFFFFFFFF) = true := (Fld.on_fired w rfl (by decide)).trans clr
  rw [State.put_prot _ _ _ _ _ rfl rfl rfl]
  exact if_pos fires

theorem State.put_protFlClr (s : State) (c f : Nat) {w : Word} (clr : w.getLsbD 0 = true) :
    s.put c .PROT_FL_CLR f w 0xFFFFFFFF = refusedAs abState (s.flClear f) := by
  have fires : F.PROT_FL_CLR_CLR.on (Reg.fired .PROT_FL_CLR w 0xFFFFFFFF) = true := (Fld.on_fired w rfl (by decide)).trans clr
  rw [State.put_prot _ _ _ _ _ rfl rfl rfl]
  exact if_pos fires

theorem exec_protClear {s : State} {a : Acc} {n : Fin 64} (h : s.granted a .PROT_CLR n) : exec (.protClear (.reg a) n) s =
    .next (State.finish s (s.wrote a .PROT_CLR n fun s => refusedAs abState (s.protClear (s.lead n)))) :=
  exec_put rfl h rfl rfl rfl fun code => State.put_protClr _ code n (by decide)

theorem exec_feedLimiterClear {s : State} {a : Acc} {f : Fin 4} (h : s.granted a .PROT_FL_CLR f) :
    exec (.feedLimiterClear (.reg a) f) s =
      .next (State.finish s (s.wrote a .PROT_FL_CLR f fun s => refusedAs abState (s.flClear f))) :=
  exec_put rfl h rfl rfl rfl fun code => State.put_protFlClr _ code f (by decide)

theorem State.protClear_refused {s : State} {n : Nat} (barred : s.mayClear n = false) :
    s.protClear n = (s.setFlag F.PROT_EVT_CLR_REFUSED n, true) := if_pos (by rw [barred]; rfl)

theorem State.mayClear_dropHeld (s : State) (c a n : Nat) :
    (s.dropHeld c a).mayClear ((s.dropHeld c a).lead n) = s.mayClear (s.lead n) := by
  obtain ⟨x, hx⟩ := s.dropHeld_eq c a
  rw [hx]
  rfl

/-! ## Clears under the re-enable policy (R226) -/

/-- Pair B records the commanded state `was` of channel `m`. -/
def State.autoNote (s : State) (m : Nat) (was : Nat × Nat) : State := s.setSwc m { s.swc m with auto := some was }

/-- A clear under the policy is entered beside those of the last hour, `used`, and the record ends. -/
def State.autoSpend (s : State) (m : Nat) (used : List Nat) : State :=
  s.setSwc m { s.swc m with clears := s.now :: used, auto := none }

/-- The recorded state is commanded again, where R172 does not refuse it. -/
def State.autoReturn (s : State) (m : Nat) (was : Nat × Nat) : State :=
  if s.onRefused m was.1 then s else s.command m was.1 was.2 none

theorem State.mayClear_autoNote (s : State) (m : Nat) (was : Nat × Nat) (n : Nat) : (s.autoNote m was).mayClear n = s.mayClear n := by
  have tc (k : Nat) : ((s.autoNote m was).swc k).tc = (s.swc k).tc := by
    rw [State.autoNote]
    by_cases same : k = m
    · rw [same, State.swc_setSwc]
    · rw [State.swc_setSwc_ne _ _ same]
  have wire (k : Nat) : (s.autoNote m was).wireOk k = s.wireOk k := by
    simp only [State.wireOk, tc]
    rfl
  simp only [State.mayClear, wire]
  rfl

theorem State.autoClear_noPolicy {s : State} {n : Nat} (noPolicy : (s.swc (s.lead n)).policy = 0) : s.autoClear n = s :=
  if_pos (.inl noPolicy)

/-- A clear that the policy covers: the commanded state is recorded with OFF written, unless that has been done; once R222 permits, the clear is
made and the recorded state returns. -/
theorem State.autoClear_covered {s v : State} {n m : Nat} {used : List Nat} {was : Nat × Nat} (lead : m = s.lead n)
    (hour : used = (s.swc m).clears.filter fun t => decide (s.now < t + sec 3600)) (left : used.length < (s.swc m).policy)
    (latched : s.heldIn m 1 5 = true) (up : s.clk.bDown = none) (mode : s.mode' ≠ 5)
    (recorded : was = (s.swc m).auto.getD (s.fld F.SW_OUT_MODE m, s.fld F.SW_OUT_DUTY m))
    (off : v = if (s.swc m).auto.isSome then s else s.command m 0 was.2 none) : s.autoClear n =
      if !(v.autoNote m was).mayClear m then v.autoNote m was
      else (((v.autoNote m was).protClear m).1.autoSpend m used).autoReturn m was := by
  have covered : ¬ ((s.swc m).policy = 0 ∨ (s.swc m).policy ≤ used.length ∨ (!s.heldIn m 1 5) = true ∨
      s.clk.bDown.isSome = true ∨ s.mode' = 5) := by
    simp only [latched, up, mode, Option.isSome_none, Bool.not_true, Bool.false_eq_true, or_false]
    omega
  subst off recorded hour lead
  exact if_neg covered

/-- Settles O14: each event is one branch of its operation, and a write of a clear register is its rule in the state in which it acts. -/
theorem channelProtection : Obligations.ChannelProtection := by
  unfold Obligations.ChannelProtection
  refine ⟨?trips, ?rests, ?latch, ?budget, ?pending, ?restart, ?ceiling, ?wire, ?clear, ?clearRefused, ?feedClear, ?noPolicy,
    ?waits, ?clears⟩
  case trips => exact fun s n cur awake on reached => State.runOn_next rfl awake (State.fastTrip_trips on reached)
  case rests => exact fun s n cur awake below => State.runOn_next rfl awake (State.fastTrip_rests below)
  case latch =>
    intro s v n tj awake hv on hot latch
    refine State.runOn_completes (f := fun s => s.l1Trip n tj) rfl awake ⟨v.l1Noted n, ?_, v.l1Noted_flag n, v.l1Noted_active n⟩
    rw [State.l1Trip_crossing hv on hot, if_pos latch]
  case budget =>
    intro s v n tj awake hv on hot restarts spent
    refine State.runOn_next rfl awake ((State.l1Trip_crossing hv on hot).trans ?_)
    rw [restarts, if_neg Bool.false_ne_true, if_pos spent]
    rfl
  case pending =>
    intro s v n tj awake hv on hot restarts left
    refine State.runOn_next rfl awake ((State.l1Trip_crossing hv on hot).trans ?_)
    rw [restarts, if_neg Bool.false_ne_true, if_neg (by omega)]
    rfl
  case restart => exact fun s v n tj tj2 awake hv pending cool => State.runOn_next rfl awake (State.l1Restart_ends hv pending cool)
  case ceiling =>
    exact fun s v n tj c awake hv hc commanded reached first =>
      State.runOn_next rfl awake (State.l2Reading_holds hv hc commanded reached first)
  case wire =>
    rintro s v l powered rfl
    exact State.runOn_next rfl (State.awake_of_powered powered) (if_neg (State.not_unpowered powered))
  case clear => exact fun s a n h => exec_protClear h
  case clearRefused =>
    intro s a n h barred
    refine exec_wrote_congr (exec_protClear h) ?_
    rw [State.protClear_refused (by rwa [State.mayClear_dropHeld])]
    rfl
  case feedClear => exact fun s a f h => exec_feedLimiterClear h
  case noPolicy => exact fun s n awake noPolicy => State.runOn_next rfl awake (State.autoClear_noPolicy noPolicy)
  case waits =>
    intro s v n m used was awake lead hour left latched up mode recorded off barred
    refine State.runOn_next rfl awake ((State.autoClear_covered lead hour left latched up mode recorded off).trans ?_)
    rw [State.mayClear_autoNote, barred]
    rfl
  case clears =>
    rintro s v w n m used was awake lead hour left latched up mode recorded off may rfl
    refine State.runOn_next rfl awake ((State.autoClear_covered lead hour left latched up mode recorded off).trans ?_)
    have permitted : (v.autoNote m was).mayClear m = true := may
    rw [permitted]
    rfl

end Sys2Proof.Machine
end

section
/-! The feed limiter and the sag of a feed (R212 to R217). -/

namespace Sys2Proof.Machine

/-! ## The limiter (R212 to R215) -/

/-- An update judges and shows the state in which the feed's sum and its auxiliary share have entered their windows. -/
theorem State.limiterUpdate_judged {s : State} {f : Nat} {aux x : Int} (powered : s.powered = true)
    (share : x = if f = 1 ∨ f = 2 then aux else 0) : ∃ v : State, s.limiterUpdate f aux = (v.shedDecision f).limiterState f ∧
      (v.flc f).win = (((List.range 16).map fun i => s.avg1 (f * 16 + i)).foldl (· + ·) x :: (s.flc f).win).take 100 ∧
      (v.flc f).aux = (x :: (s.flc f).aux).take 100 ∧ v.now = Nat.max s.now ((s.flc f).at0 + ms 1) := by
  subst share
  refine ⟨_, if_neg (State.not_unpowered powered), ?win, ?aux, rfl⟩
  all_goals rw [State.flc_setFlc, State.flc, State.setFld_fl, State.setFld_fl, ← State.flc, State.flc_setFlc]

theorem State.holdoffEnd_due {s : State} {f t : Nat} (due : (s.flc f).hold = some t) : s.holdoffEnd f =
    (((s.advanceTo t).setFlc f { s.flc f with hold := none }).limiterState f).shedDecision f := by
  rw [State.holdoffEnd, due]
  rfl

theorem State.flc_advanceTo (s : State) (t f : Nat) : (s.advanceTo t).flc f = s.flc f := rfl

/-- What a low average does for the class that was shed last: its restore begins, or goes on where it runs. -/
theorem State.flRestore_shed {s : State} {f c t : Nat} {r : List Nat} (shed : (s.flc f).shed = c :: r)
    (low : (s.flc f).below = some t) : s.flRestore f =
      if (s.flc f).rest.isSome then s.flStep f
      else (((s.advanceTo (t + s.relTime f)).setFlc f
        { s.flc f with rest := some { cls := c, next := (s.advanceTo (t + s.relTime f)).now } }).setFld F.PROT_FL_STAT_STATE f 2).flStep f := by
  simp only [State.flRestore, shed, low, State.flc_advanceTo]

/-! ## The sag (R217) -/

theorem State.sagBegin_freezes {s : State} {f mean v clear : Nat} (powered : s.powered = true) (first : (s.flc f).sagAt = none)
    (low : 100 * v < 85 * mean) (settled : us 50 ≤ clear) : s.sagBegin f mean v clear =
      (s.setFlc f { s.flc f with sagAt := some s.now, sagLevel := (85 * mean + 99) / 100 }).each
        ((List.range 64).filter fun n => feedOf n == f) fun s n => s.freezeInrush n := by
  have begins : ¬ ((!s.powered) = true ∨ (s.flc f).sagAt.isSome = true ∨ 85 * mean ≤ 100 * v ∨ clear < us 50) := by
    simp only [powered, first, Option.isSome_none, Bool.not_true, Bool.false_eq_true, false_or]
    omega
  exact if_neg begins

theorem State.sagEnd_thaws {s v : State} {f volt t : Nat} (runs : (s.flc f).sagAt = some t)
    (hv : v = if (s.flc f).sagLevel ≤ volt then s else s.advanceTo (t + us 200)) : s.sagEnd f volt =
      (v.setFlc f { s.flc f with sagAt := none }).each ((List.range 64).filter fun n => feedOf n == f) fun s n =>
        s.thawInrush n (Nat.min s.now (t + us 200)) := by
  simp only [State.sagEnd, runs, hv]

/-- Settles O15: each event is one branch of its operation of the limiter or of the sag. -/
theorem feedLimiterAndSag : Obligations.FeedLimiterAndSag := by
  unfold Obligations.FeedLimiterAndSag
  refine ⟨?update, ?holdoff, ?restoreBegins, ?restoreRuns, ?sagBegins, ?sagEnds⟩
  case update =>
    exact fun s f aux x powered share => State.runOn_completes rfl (State.awake_of_powered powered)
      (State.limiterUpdate_judged powered share)
  case holdoff => exact fun s f t awake due => State.runOn_next rfl awake (State.holdoffEnd_due due)
  case restoreBegins =>
    rintro s v f c t r awake shed low idle rfl
    refine State.runOn_next rfl awake ((State.flRestore_shed shed low).trans ?_)
    rw [idle]
    rfl
  case restoreRuns =>
    intro s f c t r x awake shed low runs
    refine State.runOn_next rfl awake ((State.flRestore_shed shed low).trans ?_)
    rw [runs]
    rfl
  case sagBegins =>
    exact fun s f mean v clear powered first low settled =>
      State.runOn_next rfl (State.awake_of_powered powered) (State.sagBegin_freezes powered first low settled)
  case sagEnds => exact fun s v f volt t awake runs hv => State.runOn_next rfl awake (State.sagEnd_thaws runs hv)

end Sys2Proof.Machine
end

section
/-! The CAL safe state when its register CAL_CTRL is in mismatch (R68, R69): a re-enable in the write that clears the mismatch. -/

namespace Sys2Proof.Machine

/-- A re-enable of a safe unit whose cause persists is refused, and the refusal is noted (R69). -/
theorem State.reenableUnit_barred {s : State} {u : SafeUnit} (safe : s.isSafe u = true) (barred : s.unitBarred u = true) :
    s.reenableUnit u = (s.setFlag F.GUARD_REENABLE_REFUSED, true) := by
  have isBarred (x : SafeUnit) (sel : x ∈ s.bus.safe.filter (· == u)) : s.unitBarred x = true := by
    rwa [eq_of_beq (List.mem_filter.mp sel).2]
  have noneBack : (s.bus.safe.filter (· == u)).filter (fun x => !s.unitBarred x) = [] :=
    List.filter_eq_nil_iff.mpr fun x sel => by simp [isBarred x sel]
  have refused : (s.bus.safe.filter (· == u)).any s.unitBarred = true :=
    List.any_eq_true.mpr ⟨u, List.mem_filter.mpr ⟨List.contains_iff_mem.mp safe, beq_self_eq_true u⟩, barred⟩
  rw [State.reenableUnit, State.reenable, noneBack, refused]
  rfl

/-- A write of CAL_CTRL that leaves the word `n` and whose re-enable is refused. -/
def State.calRefused (s : State) (n : Word) : State :=
  (((s.wr .CAL_CTRL 0 n).setFlag F.GUARD_REENABLE_REFUSED).answer (.ok 0)).1

theorem State.rd_calRefused (s : State) (n : Word) {r : Reg} (ctrl : r ≠ .CAL_CTRL) (guard : r ≠ .GUARD_REENABLE) (i : Nat) :
    (s.calRefused n).rd r i = s.rd r i := by
  rw [State.calRefused, State.answer_fst, State.rd_congr (State.setBus_regs _ _), State.setFlag,
    State.rd_setFld_ne _ fun e => guard (congrArg Prod.fst e), State.rd_wr_ne _ _ fun e => ctrl (congrArg Prod.fst e)]

theorem State.fld_calRefused (s : State) (n : Word) {f : Fld} (ctrl : f.reg ≠ .CAL_CTRL) (guard : f.reg ≠ .GUARD_REENABLE) (i : Nat) :
    (s.calRefused n).fld f i = s.fld f i := congrArg f.of (s.rd_calRefused n ctrl guard i)

/-- A debug port without a grant that knows the mode has nothing to follow. -/
theorem State.dbgMode_settled {s : State} (ungranted : s.cust.dbg.granted = 0) (mode : s.cust.dbg.mode = s.mode')
    (idle : s.cust.dbg.service = false) : s.dbgMode = s := by
  have held : (s.cust.dbg.service && s.mode' == 6) = s.cust.dbg.service := by rw [idle]; rfl
  rw [State.dbgMode, if_pos (.inr ungranted), held, ← mode]
  rfl

/-- Operate, with a mismatch of CAL_CTRL found and the unit of CAL safe. -/
def calMismatch : State :=
  { State.reset.setFld F.SYS_MODE_MODE 0 4 with
    bus := { par := [((.CAL_CTRL, 0), true)], safe := [.cal] }, cust := { dbg := { mode := 4 } } }

/-- Core A with the rights of the secure world. -/
def secureCpu : Acc := { m := .cpuA, sec := true }

theorem calMismatch_granted : calMismatch.granted secureCpu .CAL_CTRL 0 := by unfold State.granted; decide

/-- Nothing is due after a refused write in `calMismatch`. -/
theorem calMismatch_quiet (n : Word) : calMismatch.quiet (calMismatch.calRefused n) := by
  have was : calMismatch.mode' = 4 := by decide
  have mode : (calMismatch.calRefused n).mode' = 4 := (calMismatch.fld_calRefused n (by decide) (by decide) 0).trans was
  have berth : (calMismatch.calRefused n).fld F.BERTH_STAT_STATE = 0 :=
    (calMismatch.fld_calRefused n (by decide) (by decide) 0).trans (by decide)
  refine ⟨rfl, mode.trans was.symm, ?service, ?debug, rfl, ?sleep, ?ramp, rfl, rfl, rfl, rfl, (fun due => nomatch due), rfl⟩
  case service => exact fun service => absurd (mode.symm.trans service) (by decide)
  case debug => exact State.dbgMode_settled rfl mode.symm rfl
  case sleep =>
    rw [State.sleepOk, berth]
    simp only [Nat.reduceBEq, Bool.and_false, Bool.false_and]
    rfl
  case ramp => exact if_pos (.inl (by rw [berth]; decide))

theorem calMismatch_wrote (n : Word) : (calMismatch.wrote secureCpu .CAL_CTRL 0 fun s =>
    (((s.wr .CAL_CTRL 0 n).reenableUnit .cal).1, if ((s.wr .CAL_CTRL 0 n).reenableUnit .cal).2 then 0x08000022 else 0)) =
      calMismatch.calRefused n := by
  have held : calMismatch.dropHeld (calMismatch.who secureCpu).code (Reg.addr .CAL_CTRL 0) = calMismatch := rfl
  have refused : (calMismatch.wr .CAL_CTRL 0 n).reenableUnit .cal =
      ((calMismatch.wr .CAL_CTRL 0 n).setFlag F.GUARD_REENABLE_REFUSED, true) := State.reenableUnit_barred rfl rfl
  rw [State.wrote, held, refused]
  rfl

/-- Refutes O16: its clause of CAL_REENABLE judges the re-enable with the mismatch of CAL_CTRL still there, and so has it refused, though
the write ends the mismatch before (R68); from `calMismatch` the model ends the safe state, the clause keeps it. -/
theorem not_calibration : ¬ Obligations.Calibration := by
  unfold Obligations.Calibration
  rintro ⟨-, -, -, -, -, -, -, -, -, -, reenable, -⟩
  obtain ⟨n, claimed⟩ := reenable calMismatch secureCpu calMismatch_granted (by decide)
  have model : exec (.calReenable (.reg secureCpu)) calMismatch =
      .next (State.finish calMismatch (calMismatch.busField secureCpu F.CAL_CTRL_REENABLE 0 1)) := rfl
  rw [model, calMismatch_wrote, State.finish_quiet (calMismatch_quiet n)] at claimed
  have safe := congrArg (State.isSafe · .cal) (Host.Outcome.next.inj claimed)
  have ended : (State.finish calMismatch (calMismatch.busField secureCpu F.CAL_CTRL_REENABLE 0 1)).isSafe .cal = false := by
    decide +kernel
  have kept : (calMismatch.calRefused n).isSafe .cal = true := rfl
  exact Bool.false_ne_true (ended.symm.trans (safe.trans kept))

end Sys2Proof.Machine
end

section
/-! Load diagnostics of the switch channels (R247 to R250): the case of each operation in which its conditions hold. -/

namespace Sys2Proof.Machine

section
variable {s v : State} {n m : Nat} {vout : Int} (lead : m = s.lead n)
include lead

theorem State.pullup_applied (may : s.diagMay m F.CAL_CH_DIAG_OFF_EN = true) (off : s.offState m = true) (powered : s.powered = true) :
    s.pullup n = (s.advanceTo ((s.swc m).offAt + ms 2)).setFlag F.CAL_CH_DSTAT_PULLUP m := by
  subst lead
  exact if_pos ⟨may, off, powered⟩

theorem State.openLoadOff_found (hv : v = s.setFld F.CAL_CH_DSTAT_VOUT m (satSigned 16 vout)) (high : 250 < vout)
    (may : v.diagMay m F.CAL_CH_DIAG_OFF_EN = true) (off : v.offState m = true) (pulled : v.flag F.CAL_CH_DSTAT_PULLUP m = true) :
    s.openLoadOff n vout = v.diagSet m F.CAL_CH_DSTAT_OL_OFF F.CAL_CH_DEVT_OL_OFF .OPEN_LOAD_OFF := by
  subst hv lead
  exact if_pos ⟨may, off, pulled, high⟩

theorem State.shortToFeed_found (hv : v = s.setFld F.CAL_CH_DSTAT_VOUT m (satSigned 16 vout)) (high : 600 ≤ vout)
    (may : v.diagMay m F.CAL_CH_DIAG_STF_EN = true) (off : v.offState m = true) :
    s.shortToFeed n vout = v.diagSet m F.CAL_CH_DSTAT_STF F.CAL_CH_DEVT_STF .SHORT_TO_FEED := by
  subst hv lead
  exact if_pos ⟨may, off, high⟩

/-- The current has been low since `t`, in PWM for `k` evaluated periods. -/
theorem State.openLoadOn_found {t k : Nat} (low : (s.swc m).low = some (t, k)) (may : s.diagMay m F.CAL_CH_DIAG_ON_EN = true)
    (conducts : s.conducting m = true) (evaluated : (s.swc m).st = 1 ∨ 2 ≤ k) :
    s.openLoadOn n = (s.advanceTo (t + ms 10)).diagSet m F.CAL_CH_DSTAT_OL_ON F.CAL_CH_DEVT_OL_ON .OPEN_LOAD_ON := by
  have runs : (s.diagMay m F.CAL_CH_DIAG_ON_EN && s.conducting m && ((s.swc m).st == 1 || decide (2 ≤ k))) = true := by
    simpa [may, conducts] using evaluated
  subst lead
  simp only [State.openLoadOn, low, if_pos runs]

theorem State.openLoadOnEnd_cleared {t : Nat} (high : (s.swc m).high = some t) :
    s.openLoadOnEnd n = (s.advanceTo (t + ms 10)).diagEnd m F.CAL_CH_DSTAT_OL_ON .OPEN_LOAD_ON := by
  subst lead
  simp only [State.openLoadOnEnd, high]

end

/-- Settles O17: each event is the branch of its operation in which the condition holds, and an end clears flag and fault
(`State.diagEnd`). -/
theorem loadDiagnostics : Obligations.LoadDiagnostics := by
  unfold Obligations.LoadDiagnostics
  refine ⟨?pullup, ?openOff, ?short, ?openOn, ?openOffEnds, ?shortEnds, ?openOnEnds⟩
  case pullup => exact fun s n m awake lead may off powered => State.runOn_next rfl awake (State.pullup_applied lead may off powered)
  case openOff =>
    exact fun s v n m vout awake lead hv high may off pulled =>
      State.runOn_next rfl awake (State.openLoadOff_found lead hv high may off pulled)
  case short =>
    exact fun s v n m vout awake lead hv high may off => State.runOn_next rfl awake (State.shortToFeed_found lead hv high may off)
  case openOn =>
    rintro s v n m t k awake lead low may conducts evaluated rfl
    exact State.runOn_next rfl awake (State.openLoadOn_found lead low may conducts evaluated)
  case openOffEnds => exact fun s n awake => State.runOn_next rfl awake rfl
  case shortEnds => exact fun s n awake => State.runOn_next rfl awake rfl
  case openOnEnds => exact fun s n m t awake lead high => State.runOn_next rfl awake (State.openLoadOnEnd_cleared lead high)

end Sys2Proof.Machine
end

section
/-! The boost rails of the valve banks (R254 to R257, R275): the case of each operation in which its conditions hold. -/

namespace Sys2Proof.Machine

section
variable {s : State} {x p cur v : Nat}

/-! ## The limits (R255) -/

theorem State.boostLimit_acts (runs : s.flag F.INJ_BST_STAT_RUN x = true) (limited : s.bstLimits p cur = true) :
    s.boostLimit x p cur v = (((s.setFld F.INJ_BST_PWR_PAVG x (Nat.min 4095 p)).setFlag F.INJ_BST_STAT_PLIM x).railVolt x v).raise
      .BOOST_PWR_LIMIT x [] (sec 10) :=
  if_neg (by simp [runs, limited])

theorem State.boostLimit_rests (rests : s.flag F.INJ_BST_STAT_RUN x = false ∨ s.bstLimits p cur = false) : s.boostLimit x p cur v = s :=
  if_pos (rests.imp (fun off => by simp [off]) fun unlimited => by simp [unlimited])

theorem State.boostLimitEnd_ends (unlimited : s.bstLimits p cur = false) : s.boostLimitEnd x p cur v =
    (((s.setFld F.INJ_BST_PWR_PAVG x (Nat.min 4095 p)).setFlag F.INJ_BST_STAT_PLIM x false).railVolt x v).clearFault .BOOST_PWR_LIMIT x :=
  if_neg (by simp [unlimited])

/-! ## Over-voltage (R256) -/

theorem State.boostOver_latches (high : 760 < v) (first : s.flag F.INJ_BST_STAT_OV x = false) : s.boostOver x v =
    ((((s.setFld F.INJ_BST_STAT_VOUT x (Nat.min 1023 v)).setFlag F.INJ_BST_STAT_OV x).setFlag F.INJ_BST_STAT_READY x false).bstRefresh
      x).raise .BOOST_OVERVOLT x :=
  if_neg (by simp [high, first])

theorem State.boostOver_rests (low : v ≤ 760) : s.boostOver x v = s := if_pos (.inl low)

/-- CLR of INJ_BST_STAT ends the latch of its boost. -/
theorem State.put_bstStat_clr (s : State) (c x : Nat) {w : Word} (clr : w.getLsbD 31 = true) : s.put c .INJ_BST_STAT x w 0xFFFFFFFF =
    (((s.setFlag F.INJ_BST_STAT_OV x false).clearFault .BOOST_OVERVOLT x).bstRefresh x, 0) := by
  have fires : F.INJ_BST_STAT_CLR.on (Reg.fired .INJ_BST_STAT w 0xFFFFFFFF) = true := (Fld.on_fired w rfl (by decide)).trans clr
  exact congrArg (·, 0) (if_pos fires)

/-! ## The start of a boost, and the phases that wait for it (R254, R257, R275) -/

theorem State.boostLate_raises {t : Nat} (started : lookup x s.inj.enAt = some t) (first : s.active .BOOST_START_FAIL x = false) :
    s.boostLate x = (s.advanceTo (t + ms 50)).raise .BOOST_START_FAIL x := by
  have still : (s.advanceTo (t + ms 50)).active .BOOST_START_FAIL x = false := first
  simp only [State.boostLate, started, still, Bool.false_eq_true, if_false]

theorem State.railVolt_ready (runs : s.flag F.INJ_BST_STAT_RUN x = true) (sound : s.flag F.INJ_BST_STAT_OV x = false)
    (reached : 95 * s.fld F.INJ_BST_CFG_VTGT x ≤ 100 * v) :
    s.railVolt x v = (s.setFld F.INJ_BST_STAT_VOUT x (Nat.min 1023 v)).boostReady x := by
  have keeps (g : Fld) (same : F.INJ_BST_STAT_VOUT.reg = g.reg) (apart : F.INJ_BST_STAT_VOUT.apart g) :
      (s.setFld F.INJ_BST_STAT_VOUT x (Nat.min 1023 v)).flag g x = s.flag g x :=
    s.flag_setFld_apart same (by simp [Fld.fits]) apart x _
  refine if_pos ?_
  rw [keeps F.INJ_BST_STAT_RUN rfl (by simp [Fld.apart]), keeps F.INJ_BST_STAT_OV rfl (by simp [Fld.apart]),
    State.fld_setFld_ne _ (by simp), runs, sound]
  simpa using reached

theorem State.railVolt_low (below : 100 * v < 95 * s.fld F.INJ_BST_CFG_VTGT x) :
    s.railVolt x v = (s.setFld F.INJ_BST_STAT_VOUT x (Nat.min 1023 v)).setFlag F.INJ_BST_STAT_READY x false := by
  refine if_neg ?_
  rw [State.fld_setFld_ne _ (by simp), Bool.and_eq_true, decide_eq_true_eq, not_and]
  exact fun _ => Nat.not_le_of_lt below

theorem State.boostWaitEnd_fallsBack {n t : Nat} {r : ValveRun} (running : (s.injc n).run = some r) (waits : r.waitBst = some t) :
    s.boostWaitEnd n = ((s.advanceTo (t + s.bankBw (bankOf n))).bstFallback n).bankCheck (bankOf n) := by
  simp only [State.boostWaitEnd, running, waits]

end

/-- Settles O18: each event is the branch of its operation in which its condition holds, and a write of CLR ends the latch. -/
theorem boosts : Obligations.Boosts := by
  unfold Obligations.Boosts
  refine ⟨?limits, ?unlimited, ?limitEnds, ?latches, ?noLatch, ?clear, ?late, ?ready, ?low, ?waitEnds⟩
  case limits => exact fun s x p cur v awake runs limited => State.runOn_next rfl awake (State.boostLimit_acts runs limited)
  case unlimited => exact fun s x p cur v awake rests => State.runOn_next rfl awake (State.boostLimit_rests rests)
  case limitEnds => exact fun s x p cur v awake unlimited => State.runOn_next rfl awake (State.boostLimitEnd_ends unlimited)
  case latches => exact fun s x v awake high first => State.runOn_next rfl awake (State.boostOver_latches high first)
  case noLatch => exact fun s x v awake low => State.runOn_next rfl awake (State.boostOver_rests low)
  case clear => exact fun s a x h => exec_put rfl h rfl rfl rfl fun code => State.put_bstStat_clr _ code x (by decide)
  case late => exact fun s x t awake started first => State.runOn_next rfl awake (State.boostLate_raises started first)
  case ready =>
    exact fun s x v awake runs sound reached => State.runOn_next rfl awake (State.railVolt_ready runs sound reached)
  case low => exact fun s x v awake below => State.runOn_next rfl awake (State.railVolt_low below)
  case waitEnds =>
    exact fun s c r t awake running waits => State.runOn_next rfl awake (State.boostWaitEnd_fallsBack running waits)

end Sys2Proof.Machine
end

section
/-! Writes to INJ_CH_CMD and to the words of the lasts (R260, R265, R278, R284). -/

namespace Sys2Proof.Machine

/-! ## INJ_CH_CMD -/

/-- What the command bits of a full write of `w` to INJ_CH_CMD do, once the word is stored. -/
def State.injCommand (s : State) (n : Nat) (w : Word) : State × Nat :=
  let t := if w.getLsbD 29 then s.coilClear n else s
  if w.getLsbD 30 then (t.valveAbort n, 0)
  else if w.getLsbD 31 then
    let x := t.directCommand n (F.INJ_CH_CMD_LAST.of w) (F.INJ_CH_CMD_DUR.of w)
    (x.1, if x.2 = 0 then 0 else if x.2 = 1 then abState else abRange)
  else (t, 0)

theorem State.put_injChCmd (s : State) (c n : Nat) (w : Word) : s.put c .INJ_CH_CMD n w 0xFFFFFFFF =
    (s.wr .INJ_CH_CMD n (s.merge .INJ_CH_CMD n w 0xFFFFFFFF)).injCommand n w := by
  have clr : F.INJ_CH_CMD_CLR.on (Reg.fired .INJ_CH_CMD w 0xFFFFFFFF) = w.getLsbD 29 := Fld.on_fired w rfl (by decide)
  have abort : F.INJ_CH_CMD_ABORT.on (Reg.fired .INJ_CH_CMD w 0xFFFFFFFF) = w.getLsbD 30 := Fld.on_fired w rfl (by decide)
  have go : F.INJ_CH_CMD_GO.on (Reg.fired .INJ_CH_CMD w 0xFFFFFFFF) = w.getLsbD 31 := Fld.on_fired w rfl (by decide)
  have last := Fld.of_merge s (f := F.INJ_CH_CMD_LAST) (r := .INJ_CH_CMD) n w (by decide) (by decide)
  have dur := Fld.of_merge s (f := F.INJ_CH_CMD_DUR) (r := .INJ_CH_CMD) n w (by decide) (by decide)
  rw [State.injCommand, ← clr, ← abort, ← go, ← last, ← dur]
  rfl

/-- A granted write of `v` to INJ_CH_CMD stores a word `m` and does what its command bits do, here `f m`. -/
theorem exec_injChCmd {c : Instr} {s : State} {a : Acc} {n v : Nat} {f : Word → State → State × Nat}
    (h : exec c s = .next (s.run fun s => s.busPut a .INJ_CH_CMD n v)) (granted : s.granted a .INJ_CH_CMD n)
    (does : ∀ m, ((s.dropHeld (s.who a).code (Reg.addr .INJ_CH_CMD n)).wr .INJ_CH_CMD n m).injCommand n (BitVec.ofNat 32 v) =
      f m (s.dropHeld (s.who a).code (Reg.addr .INJ_CH_CMD n))) :
    ∃ m : Word, exec c s = .next (State.finish s (s.wrote a .INJ_CH_CMD n (f m))) := by
  refine ⟨s.merge .INJ_CH_CMD n (BitVec.ofNat 32 v) 0xFFFFFFFF, exec_put h granted rfl rfl rfl fun code => ?_⟩
  rw [State.put_injChCmd, State.merge_dropHeld, does]

/-- The word of a direct command: its fields and GO (R284). -/
def directWord (last dur : Nat) : Nat := dur % 2 ^ 20 + last * 2 ^ 20 + 2 ^ 31

theorem directWord_fields (last : Fin 32) (dur : Nat) : F.INJ_CH_CMD_LAST.of (BitVec.ofNat 32 (directWord last dur)) = last ∧
    F.INJ_CH_CMD_DUR.of (BitVec.ofNat 32 (directWord last dur)) = dur % 2 ^ 20 := by
  have low : dur % 2 ^ 20 < 2 ^ 20 := Nat.mod_lt _ (by decide)
  have mid := last.isLt
  simp only [Fld.of, BitVec.toNat_ofNat, directWord]
  omega

/-- GO is the only command bit of the word of a direct command. -/
theorem directWord_bits (last : Fin 32) (dur : Nat) : (BitVec.ofNat 32 (directWord last dur)).getLsbD 29 = false ∧
    (BitVec.ofNat 32 (directWord last dur)).getLsbD 30 = false ∧ (BitVec.ofNat 32 (directWord last dur)).getLsbD 31 = true := by
  have low : dur % 2 ^ 20 < 2 ^ 20 := Nat.mod_lt _ (by decide)
  have mid := last.isLt
  simp only [BitVec.getLsbD_ofNat, Nat.testBit_eq_decide_div_mod_eq, directWord]
  refine ⟨?_, ?_, ?_⟩ <;> simp <;> omega

/-- A direct command with a duration that DUR holds. -/
theorem State.injCommand_direct (s : State) (n : Nat) (last : Fin 32) {dur : Nat} (holds : dur < 2 ^ 20) :
    s.injCommand n (BitVec.ofNat 32 (directWord last dur)) =
      ((s.directCommand n last dur).1, if (s.directCommand n last dur).2 = 0 then 0
        else if (s.directCommand n last dur).2 = 1 then abState else abRange) := by
  obtain ⟨clr, abort, go⟩ := directWord_bits last dur
  obtain ⟨lastIs, durIs⟩ := directWord_fields last dur
  simp only [State.injCommand, clr, abort, go, lastIs, durIs, Nat.mod_eq_of_lt holds, Bool.false_eq_true, if_false, if_true]

theorem State.directCommand_taken {s : State} {dur : Nat} (n last : Nat) (long : 1 ≤ dur) (short : dur ≤ 1000000) (live : s.live = true) :
    s.directCommand n last dur = (s.valveArrive n { ent := none, last := last, dur := dur, req := s.now }, 0) := by
  rw [State.directCommand, if_neg (by omega), live]
  rfl

theorem State.directCommand_mode {s : State} {dur : Nat} (n last : Nat) (long : 1 ≤ dur) (short : dur ≤ 1000000) (dead : s.live = false) :
    s.directCommand n last dur = (s.setFlag F.INJ_CH_EVT_CMD_REFUSED n, 1) := by
  rw [State.directCommand, if_neg (by omega), dead]
  rfl

theorem State.directCommand_range (s : State) {dur : Nat} (n last : Nat) (out : dur = 0 ∨ 1000000 < dur) :
    s.directCommand n last dur = (s.setFlag F.INJ_CH_EVT_CMD_REFUSED n, 2) := if_pos out

/-- Storing the word of a command does not change whether the mode serves valves. -/
theorem State.live_cmdStored (s : State) (c a n : Nat) (m : Word) : ((s.dropHeld c a).wr .INJ_CH_CMD n m).live = s.live := by
  rw [State.live, State.live, State.mode', State.mode', State.fld_wr_ne _ (by decide), State.fld_dropHeld]

theorem State.injc_cmdStored (s : State) (c a n : Nat) (m : Word) (k : Nat) :
    ((s.dropHeld c a).wr .INJ_CH_CMD n m).injc k = s.injc k :=
  s.dropHeld_keeps c a (·.injc k) fun _ _ => rfl

/-! ## The release of a short latch (R278) -/

theorem State.coilClear_latched {s : State} {n : Nat} (latched : (s.injc n).latched = true) (idle : (s.injc n).run = none) :
    s.coilClear n = (s.setInjc n { s.injc n with latched := false }).clearFault .COIL_SHORT n :=
  if_pos ⟨latched, by rw [idle]; rfl⟩

theorem State.coilClear_running {s : State} {n : Nat} {r : ValveRun} (running : (s.injc n).run = some r) : s.coilClear n = s :=
  if_neg fun ⟨_, idle⟩ => by simp [running] at idle

/-! ## The words of a last (R260) -/

/-- The phase words that the header counts, with word `k` taken as `v`. -/
def State.lastPhsWith (s : State) (l k v : Nat) : List Nat :=
  (List.range ((s.rd .INJ_LAST_HDR l).toNat % 16)).map fun j => if j = k then v else (s.rd .INJ_LAST_PH (l * 8 + j)).toNat

theorem State.lastWrite_header {s : State} {l v : Nat} (limits : hdrOk v = true)
    (phases : v % 16 = 0 ∨ phasesOk ((List.range (v % 16)).map fun k => (s.rd .INJ_LAST_PH (l * 8 + k)).toNat) = true) :
    s.lastWrite l 0 v = (s.wr .INJ_LAST_HDR l (BitVec.ofNat 32 (v / 256 * 256 + v % 64)), false) := by
  have ok : (hdrOk v && (v % 16 == 0 || phasesOk ((List.range (v % 16)).map fun k => (s.rd .INJ_LAST_PH (l * 8 + k)).toNat))) = true := by
    simpa [limits] using phases
  exact if_pos ok

theorem State.lastWrite_phase {s : State} {l k v : Nat}
    (phases : (s.rd .INJ_LAST_HDR l).toNat % 16 ≤ k ∨ phasesOk (s.lastPhsWith l k v) = true) :
    s.lastWrite l (k + 1) v = (s.wr .INJ_LAST_PH (8 * l + k) (BitVec.ofNat 32 (v % 2147483648)), false) := by
  have ok : (decide ((s.rd .INJ_LAST_HDR l).toNat % 16 ≤ k) || phasesOk (s.lastPhsWith l k v)) = true := by simpa using phases
  rw [State.lastPhsWith] at ok
  simp only [State.lastWrite, Nat.succ_ne_zero, if_false, Nat.add_sub_cancel, Nat.add_right_cancel_iff, ok, if_true, Nat.mul_comm 8 l]

theorem State.put_lastHdr (s : State) (c l : Nat) (w : Word) : s.put c .INJ_LAST_HDR l w 0xFFFFFFFF =
    refusedAs abRange (s.lastWrite l 0 (s.merge .INJ_LAST_HDR l w 0xFFFFFFFF).toNat) := rfl

theorem State.put_lastPh (s : State) (c l : Nat) (k : Fin 8) (w : Word) : s.put c .INJ_LAST_PH (8 * l + k) w 0xFFFFFFFF =
    refusedAs abRange (s.lastWrite l (k + 1) (s.merge .INJ_LAST_PH (8 * l + k) w 0xFFFFFFFF).toNat) := by
  have last : (8 * l + k) / 8 = l := by omega
  have word : (8 * l + k) % 8 = k := by omega
  have put : s.put c .INJ_LAST_PH (8 * l + k) w 0xFFFFFFFF = refusedAs abRange (s.lastWrite ((8 * l + k) / 8) ((8 * l + k) % 8 + 1)
    (s.merge .INJ_LAST_PH (8 * l + k) w 0xFFFFFFFF).toNat) := rfl
  rw [put, last, word]

theorem exec_lastHdr {s : State} {a : Acc} {l : Fin 32} (h : s.granted a .INJ_LAST_HDR l) (v : Nat) :
    exec (.lastWrite (.reg a) l 0 v) s = .next (State.finish s (s.wrote a .INJ_LAST_HDR l fun s => refusedAs abRange
      (s.lastWrite l 0 (s.merge .INJ_LAST_HDR l (BitVec.ofNat 32 v) 0xFFFFFFFF).toNat))) :=
  exec_put rfl h rfl rfl rfl fun code => State.put_lastHdr _ code l _

theorem exec_lastPh {s : State} {a : Acc} {l : Fin 32} {k : Fin 8} (h : s.granted a .INJ_LAST_PH (8 * l + k)) (v : Nat) :
    exec (.lastWrite (.reg a) l k.succ v) s = .next (State.finish s (s.wrote a .INJ_LAST_PH (8 * l + k) fun s => refusedAs abRange
      (s.lastWrite l (k + 1) (s.merge .INJ_LAST_PH (8 * l + k) (BitVec.ofNat 32 v) 0xFFFFFFFF).toNat))) :=
  exec_put rfl h rfl rfl rfl fun code => State.put_lastPh _ code l k _

end Sys2Proof.Machine
end

section
/-! Valve shorts and their release, and writes to the lasts (R260, R278, R279, R286). -/

namespace Sys2Proof.Machine

/-! ## Shorts (R278, R279) -/

/-- An event that a short ends at `now` through the fast decay. -/
def ValveRun.shorted (r : ValveRun) (now : Nat) : ValveRun :=
  { r with decay := true, decayAt := now, cmdEnd := Nat.min r.cmdEnd now, fast := true, result := 3, waitBst := none }

/-- What follows the latch of a coil short: its event and its fault, the rejection of the waiting event, the bank's check. -/
def State.shortSeen (s : State) (n : Nat) : State :=
  (((s.setFlag F.INJ_CH_EVT_SHORT n).raise .COIL_SHORT n).rejectWait n 10).bankCheck (bankOf n)

theorem State.coilShort_eq (s : State) (n : Nat) : s.coilShort n =
    (s.setInjc n { s.injc n with run := (s.injc n).run.map (·.shorted s.now), latched := true }).shortSeen n := rfl

theorem State.coilShort_idle {s : State} {n : Nat} (idle : (s.injc n).run = none) :
    s.coilShort n = (s.setInjc n { s.injc n with latched := true }).shortSeen n := by
  have noRun : ({ s.injc n with run := (s.injc n).run.map (·.shorted s.now), latched := true } : InjCh) =
      { s.injc n with latched := true } := by simp [idle]
  rw [State.coilShort_eq, noRun]

theorem State.coilShort_running {s : State} {n : Nat} {r : ValveRun} (running : (s.injc n).run = some r) :
    s.coilShort n = (s.setInjc n { s.injc n with run := some (r.shorted s.now), latched := true }).shortSeen n := by
  rw [State.coilShort_eq, running]
  rfl

/-- CLR of INJ_BANK_STAT ends the latch of its bank. -/
theorem State.put_bankStat_clr (s : State) (c b : Nat) {w : Word} (clr : w.getLsbD 31 = true) :
    s.put c .INJ_BANK_STAT b w 0xFFFFFFFF = ((s.setFlag F.INJ_BANK_STAT_HSB_SHORT b false).clearFault .HSB_SHORT b, 0) := by
  have fires : F.INJ_BANK_STAT_CLR.on (Reg.fired .INJ_BANK_STAT w 0xFFFFFFFF) = true := (Fld.on_fired w rfl (by decide)).trans clr
  exact congrArg (·, 0) (if_pos fires)

/-- REENABLE of INJ_GLB_CTRL re-enables the unit of the block (R286). -/
theorem State.put_injGlbCtrl_reenable (s : State) (c : Nat) {w : Word} (reenable : w.getLsbD 0 = true) :
    s.put c .INJ_GLB_CTRL 0 w 0xFFFFFFFF = refusedAs abState (s.reenableUnit .inj) := by
  have fires : F.INJ_GLB_CTRL_REENABLE.on (Reg.fired .INJ_GLB_CTRL w 0xFFFFFFFF) = true :=
    (Fld.on_fired w rfl (by decide)).trans reenable
  exact if_pos fires

/-! ## The release -/

/-- The word with CLR alone releases the short latch of its channel. -/
theorem State.injCommand_clr (s : State) (n : Nat) : s.injCommand n (BitVec.ofNat 32 (2 ^ 29)) = (s.coilClear n, 0) := rfl

/-- Settles O20: a short is its operation by whether an event runs, and each write is its register's rule in the state in which it acts. -/
theorem valveFaultsAndLasts : Obligations.ValveFaultsAndLasts := by
  unfold Obligations.ValveFaultsAndLasts
  refine ⟨?idle, ?running, ?release, ?keep, ?highSide, ?clear, ?reenable, ?header, ?phase, ?headerTaken, ?phaseTaken⟩
  case idle => exact fun s c awake idle => State.runOn_next rfl awake (State.coilShort_idle idle)
  case running => exact fun s c r awake running => State.runOn_next rfl awake (State.coilShort_running running)
  case release =>
    intro s a c h latched idle
    refine exec_injChCmd (f := fun n s => (((s.wr .INJ_CH_CMD c n).setInjc c { s.injc c with latched := false }).clearFault .COIL_SHORT c, 0))
      rfl h fun m => ?_
    rw [State.injCommand_clr, State.coilClear_latched (by rwa [State.injc_cmdStored]) (by rwa [State.injc_cmdStored])]
    rfl
  case keep =>
    intro s a c r h running
    refine exec_injChCmd (f := fun n s => (s.wr .INJ_CH_CMD c n, 0)) rfl h fun m => ?_
    rw [State.injCommand_clr, State.coilClear_running (r := r) (by rwa [State.injc_cmdStored])]
  case highSide => exact fun s b awake => State.runOn_next rfl awake rfl
  case clear => exact fun s a b h => exec_put rfl h rfl rfl rfl fun code => State.put_bankStat_clr _ code b (by decide)
  case reenable => exact fun s a h => exec_put rfl h rfl rfl rfl fun code => State.put_injGlbCtrl_reenable _ code (by decide)
  case header => exact fun s a l v h => exec_lastHdr h v
  case phase => exact fun s a l k v h => exec_lastPh h v
  case headerTaken =>
    rintro s a l v m h rfl limits phases
    refine exec_wrote_congr (exec_lastHdr h v) ?_
    have words (k : Nat) := State.rd_congr (s.dropHeld_regs (s.who a).code (Reg.addr .INJ_LAST_HDR l)) .INJ_LAST_PH (l * 8 + k)
    rw [State.merge_dropHeld, State.lastWrite_header limits (by simpa only [words] using phases)]
    rfl
  case phaseTaken =>
    rintro s a l k v h m granted rfl rfl phases
    refine exec_wrote_congr (exec_lastPh granted v) ?_
    have words (r : Reg) (i : Nat) := State.rd_congr (s.dropHeld_regs (s.who a).code (Reg.addr .INJ_LAST_PH (8 * l + k))) r i
    rw [State.merge_dropHeld, State.lastWrite_phase (by simpa only [State.lastPhsWith, words] using phases)]
    rfl

end Sys2Proof.Machine
end

section
/-! Valve events from command to end (R262 to R265, R271, R273, R280 to R282, R284). -/

namespace Sys2Proof.Machine

/-! ## The end of a phase (R258, R262, R277, R278) -/

/-- OPEN_COIL of channel `n` is reported, and its event goes to its end decay (R277). -/
def State.openCoil (s : State) (n : Nat) : State := ((s.setFlag F.INJ_CH_EVT_OPEN n).raise .OPEN_COIL n [] (sec 1)).toDecay n 2 false

/-- What follows phase `r.phase` of the event `r`: the next phase, or the end decay where it was the last. -/
def State.nextPhase (s : State) (n : Nat) (r : ValveRun) : State :=
  if r.phase + 1 < r.phs.length then s.beginPhase n (r.phase + 1) else s.toDecay n 0 false

theorem State.nextPhase_begins (s : State) (n : Nat) {r : ValveRun} (more : r.phase + 1 < r.phs.length) :
    s.nextPhase n r = s.beginPhase n (r.phase + 1) := if_pos more

theorem State.nextPhase_decays (s : State) (n : Nat) {r : ValveRun} (last : r.phs.length ≤ r.phase + 1) :
    s.nextPhase n r = s.toDecay n 0 false := if_neg (Nat.not_lt.mpr last)

/-- Only a peak that does not run degraded misses its current. -/
theorem ValveRun.not_missed {r : ValveRun} {w : Nat} (other : 2 ≤ phType w ∨ r.degraded = true) :
    ¬ (decide (phType w ≤ 1) && !r.degraded) = true := by
  rcases other with noPeak | degraded
  · simp [Nat.not_le.mpr noPeak]
  · simp [degraded]

section
variable {s u v : State} {n w : Nat} {i : Shunt} {r : ValveRun} (chopped : v = s.chop (bankOf n) s.now i)
include chopped

theorem State.phaseEnd_idle (reached : Bool) (idle : (v.injc n).run = none) : s.phaseEnd n reached i = v := by
  subst chopped
  simp only [State.phaseEnd, idle]

theorem State.commandEnd_decays (running : (v.injc n).run = some r) (driven : r.decay = false) :
    s.commandEnd n i = ((v.advanceTo r.cmdEnd).toDecay n 0 false).bankCheck (bankOf n) := by
  subst chopped
  simp only [State.commandEnd, running, driven, Bool.false_eq_true, if_false]

variable (running : (v.injc n).run = some r) (phase : r.phs[r.phase]? = some w) (driven : r.decay = false) (started : r.waitBst = none)
include running phase driven started

/-- The time of a phase passes before command end: a peak that does not run degraded has missed its current, and any other phase is over. -/
theorem State.phaseEnd_byTime (timed : phType w ≠ 2 ∨ phTime w ≠ 0) (within : r.phAt + us (phTime w) < r.cmdEnd)
    (hu : u = (v.advanceTo (r.phAt + us (phTime w))).setInjc n { v.injc n with run := some r }) : s.phaseEnd n false i =
      (if decide (phType w ≤ 1) && !r.degraded then u.openCoil n else u.nextPhase n r).bankCheck (bankOf n) := by
  have ends : (phType w == 2 && phTime w == 0) = false := by simpa [← imp_iff_not_or] using timed
  subst chopped hu
  simp only [State.phaseEnd, running, phase, driven, started, ends, Nat.not_le.mpr within, Option.isSome_none, Bool.or_false,
    Bool.false_and, Bool.false_eq_true, if_false, Bool.not_false, Bool.true_and, decide_false]
  rfl

/-- A peak reaches its current: before TRISE_MIN that shows a short, else the phase is over. -/
theorem State.phaseEnd_peak (peak : phType w ≤ 1) (first : r.tpeak = none)
    (hu : u = v.setInjc n { v.injc n with run := some { r with tpeak := some ((v.now - r.phAt) / 1000) } }) : s.phaseEnd n true i =
      if v.now - r.phAt < us (v.fld F.INJ_CH_PROT_TRISE_MIN n) then u.coilShort n else (u.nextPhase n r).bankCheck (bankOf n) := by
  have ends : (phType w == 2 && phTime w == 0) = false := by
    have notHold : phType w ≠ 2 := by omega
    simp [notHold]
  subst chopped hu
  simp only [State.phaseEnd, running, phase, driven, started, ends, peak, first, Option.isSome_none, Bool.or_false, Bool.false_and,
    Bool.false_eq_true, if_false, Bool.true_and, decide_true, Bool.not_true, Bool.and_false, if_true, decide_eq_true_eq]
  rfl

end

/-! ## The end of the decay, and the closing search (R264, R280 to R282) -/

/-- The search found the closing delay `k`. -/
def State.closeFound (s : State) (n k : Nat) : State :=
  (s.setInjc n { s.injc n with closes := (k :: (s.injc n).closes).take 8, misses := 0 }).clearFault .VALVE_NOT_CLOSED n

/-- The search counts a miss. -/
def State.closeMiss (s : State) (n : Nat) : State := s.setInjc n { s.injc n with misses := (s.injc n).misses + 1 }

/-- The eighth miss in a row is reported. -/
def State.closeMissed (s : State) (n : Nat) : State :=
  if (s.injc n).misses = 7 then ((s.closeMiss n).setFlag F.INJ_CH_EVT_NOT_CLOSED n).raise .VALVE_NOT_CLOSED n else s.closeMiss n

/-- The event of channel `n` ends with the closing delay `close`, and its bank checks its candidates. -/
def State.eventOver (s : State) (n result close : Nat) : State := (s.endEvent n result close).bankCheck (bankOf n)

section
variable {s v : State} {n off : Nat} {x : Decay} {r : ValveRun} {w : Nat × Nat} (running : (s.injc n).run = some r) (decays : r.decay = true)
include running decays

theorem State.valveEnd_fast (fast : r.fast = true) :
    s.valveEnd n x = (s.advanceTo (r.decayAt + x.tail)).eventOver n r.result 0xFFFF := by
  simp only [State.valveEnd, running, decays, fast, Bool.not_true, Bool.false_eq_true, if_false, if_true, Bool.false_and, Nat.add_zero]
  rfl

variable (slow : r.fast = false) (hw : w = s.closeWin n r) (ho : off = r.lowOff w x)
  (hv : v = s.advanceTo (r.decayAt + off + if x.below ≤ off then 0 else x.tail))
include slow hw ho hv

theorem State.valveEnd_unsearched (unsearched : hdrClose r.hdr = false ∨ w.2 ≤ w.1 ∨ off ≤ us w.1) :
    s.valveEnd n x = v.eventOver n r.result 0xFFFF := by
  have noSearch : (hdrClose r.hdr && decide (w.1 < w.2) && decide (us w.1 < off)) = false := by
    rcases unsearched with disabled | empty | early
    · simp [disabled]
    · simp [Nat.not_lt.mpr empty]
    · simp [Nat.not_lt.mpr early]
  subst hw ho hv
  simp only [State.valveEnd, running, decays, slow, Bool.not_true, Bool.false_eq_true, if_false, Bool.not_false, Bool.true_and, noSearch,
    decide_eq_true_eq]
  rfl

variable (close : hdrClose r.hdr = true) (window : w.1 < w.2) (reached : us w.1 < off)
include close window reached

theorem State.valveEnd_found {t : Nat} (kink : kinkIn x.volts (us w.1) (Nat.min (us w.2) off) = some t) :
    s.valveEnd n x = (v.closeFound n ((t + 500) / 1000)).eventOver n r.result ((t + 500) / 1000) := by
  subst hw ho hv
  simp only [State.valveEnd, running, decays, slow, close, window, reached, kink, Bool.not_true, Bool.false_eq_true, if_false,
    Bool.not_false, Bool.true_and, decide_true, if_true, decide_eq_true_eq, Option.map_some]
  rfl

theorem State.valveEnd_missed (noKink : kinkIn x.volts (us w.1) (Nat.min (us w.2) off) = none) :
    s.valveEnd n x = (v.closeMissed n).eventOver n r.result 0xFFFF := by
  subst hw ho hv
  simp only [State.valveEnd, running, decays, slow, close, window, reached, noKink, Bool.not_true, Bool.false_eq_true, if_false,
    Bool.not_false, Bool.true_and, decide_true, if_true, decide_eq_true_eq, Option.map_none, Nat.reduceEqDiff]
  rfl

end

theorem State.deferEnd_waiting {s : State} {n : Nat} {e : ValveEv} (waiting : (s.injc n).wait = some e) :
    s.deferEnd n = (s.advanceTo (e.req + s.deferNs (bankOf n))).bankCheck (bankOf n) := by
  simp only [State.deferEnd, waiting]

/-- Settles O19: a write of INJ_CH_CMD does what its command bits do, and each event is the branch of its operation in which its conditions
hold. -/
theorem valveEvents : Obligations.ValveEvents := by
  unfold Obligations.ValveEvents
  refine ⟨?taken, ?mode, ?range, ?abort, ?next, ?lastPhase, ?openCoil, ?peak, ?short, ?idle, ?command, ?fast, ?unsearched, ?found,
    ?missed, ?minOff, ?defer⟩
  case taken =>
    intro s a c last dur h live long short
    refine exec_injChCmd (f := fun n s => ((s.wr .INJ_CH_CMD c n).valveArrive c { ent := none, last := last, dur := dur, req := s.now }, 0))
      rfl h fun m => ?_
    rw [← directWord, State.injCommand_direct _ _ _ (by omega),
      State.directCommand_taken _ _ long short ((s.live_cmdStored _ _ _ _).trans live)]
    rfl
  case mode =>
    intro s a c last dur h dead long short
    refine exec_injChCmd (f := fun n s => ((s.wr .INJ_CH_CMD c n).setFlag F.INJ_CH_EVT_CMD_REFUSED c, 0x08000022)) rfl h fun m => ?_
    rw [← directWord, State.injCommand_direct _ _ _ (by omega),
      State.directCommand_mode _ _ long short ((s.live_cmdStored _ _ _ _).trans dead)]
    rfl
  case range =>
    intro s a c last dur h out
    refine exec_injChCmd (f := fun n s => ((s.wr .INJ_CH_CMD c n).setFlag F.INJ_CH_EVT_CMD_REFUSED c, 0x06090030)) rfl h fun m => ?_
    rw [← directWord, State.injCommand_direct _ _ _ (by omega), State.directCommand_range _ _ _ (out.imp_right And.left)]
    rfl
  case abort => exact fun s a c h => exec_injChCmd (f := fun n s => ((s.wr .INJ_CH_CMD c n).valveAbort c, 0)) rfl h fun m => rfl
  case next =>
    intro s v c i r w awake chopped running phase driven started other timed within more
    refine State.runOn_next rfl awake ((State.phaseEnd_byTime chopped running phase driven started timed within rfl).trans ?_)
    rw [if_neg (ValveRun.not_missed other), State.nextPhase_begins _ _ more]
  case lastPhase =>
    intro s v c i r w awake chopped running phase driven started other timed within last
    refine State.runOn_next rfl awake ((State.phaseEnd_byTime chopped running phase driven started timed within rfl).trans ?_)
    rw [if_neg (ValveRun.not_missed other), State.nextPhase_decays _ _ last]
  case openCoil =>
    intro s v c i r w awake chopped running phase driven started peak full within
    refine State.runOn_next rfl awake
      ((State.phaseEnd_byTime chopped running phase driven started (.inl (by omega)) within rfl).trans ?_)
    rw [if_pos (by simp [peak, full])]
    rfl
  case peak =>
    intro s v c i r w awake chopped running phase driven started peak first late more
    refine State.runOn_next rfl awake ((State.phaseEnd_peak chopped running phase driven started peak first rfl).trans ?_)
    rw [if_neg (Nat.not_lt.mpr late), State.nextPhase_begins _ _ more]
  case short =>
    intro s v c i r w awake chopped running phase driven started peak first early
    exact State.runOn_next rfl awake ((State.phaseEnd_peak chopped running phase driven started peak first rfl).trans (if_pos early))
  case idle => exact fun s v c b i awake chopped idle => State.runOn_next rfl awake (State.phaseEnd_idle chopped b idle)
  case command =>
    exact fun s v c i r awake chopped running driven => State.runOn_next rfl awake (State.commandEnd_decays chopped running driven)
  case fast => exact fun s c x r awake running decays fast => State.runOn_next rfl awake (State.valveEnd_fast running decays fast)
  case unsearched =>
    exact fun s v c x r w off awake running decays slow hw ho unsearched hv =>
      State.runOn_next rfl awake (State.valveEnd_unsearched running decays slow hw ho hv unsearched)
  case found =>
    rintro s v c x r w off t k awake running decays slow hw ho close window reached hv kink rfl
    exact State.runOn_next rfl awake (State.valveEnd_found running decays slow hw ho hv close window reached kink)
  case missed =>
    rintro s v c x r w off y awake running decays slow hw ho close window reached hv noKink rfl
    exact State.runOn_next rfl awake (State.valveEnd_missed running decays slow hw ho hv close window reached noKink)
  case minOff => exact fun s c awake => State.runOn_next rfl awake rfl
  case defer => exact fun s c e awake waiting => State.runOn_next rfl awake (State.deferEnd_waiting waiting)

end Sys2Proof.Machine
end

section
/-! Granted writes that keep a register's other fields, and those of a 64-bit pair (R51, R55, R71). -/

namespace Sys2Proof.Machine

theorem Fld.getLsbD_into {f : Fld} (fits : f.fits) (w : Word) (v j : Nat) :
    (f.into w v).getLsbD j = if f.lsb ≤ j ∧ j < f.lsb + f.w then v.testBit (j - f.lsb) else w.getLsbD j := by
  simp only [BitVec.getLsbD]
  split
  next inside =>
    have field := congrArg (·.testBit (j - f.lsb)) (Fld.of_into fits w v)
    have low : j - f.lsb < f.w := by omega
    simpa [Fld.of, Nat.testBit_mod_two_pow, Nat.testBit_div_two_pow, low, Nat.sub_add_cancel inside.1] using field
  next outside =>
    rcases Nat.lt_or_ge j f.lsb with below | above
    · have kept := congrArg (·.testBit j) (Fld.into_below fits w v)
      simpa [Nat.testBit_mod_two_pow, below] using kept
    · have high : f.lsb + f.w ≤ j := by omega
      have kept := congrArg (·.testBit (j - (f.lsb + f.w))) (Fld.into_above fits w v)
      simpa [Nat.testBit_div_two_pow, Nat.sub_add_cancel high] using kept

/-- Putting a field's own value back undoes its replacement. -/
theorem Fld.into_restore {f : Fld} (fits : f.fits) (w : Word) (v : Nat) : f.into (f.into w v) (f.of w) = w := by
  apply BitVec.eq_of_toNat_eq
  have own : f.of w % 2 ^ f.w = f.of w := Nat.mod_mod _ _
  rw [Fld.into_cut fits, Fld.into_above fits, Fld.into_below fits, own, ← f.word_cut w]

/-- A full write of a register's stored fields with `f` replaced leaves the register with `f` replaced. -/
theorem State.merge_baseWord (s : State) {f : Fld} (fits : f.fits) (i v : Nat)
    (stored : ∀ j < f.w, (f.reg.tyMask FTy.sets).getLsbD (f.lsb + j) = true) (noClears : f.reg.tyMask FTy.clears = 0) :
    s.merge f.reg i (f.into (s.baseWord f.reg i) v) 0xFFFFFFFF = f.into (s.before f.reg i) v := by
  apply BitVec.eq_of_getLsbD_eq
  intro j hj
  rw [State.merge_full, noClears, State.baseWord]
  simp only [BitVec.getLsbD_and, BitVec.getLsbD_or, BitVec.getLsbD_not, Fld.getLsbD_into fits]
  split
  next inside =>
    have set := stored (j - f.lsb) (by omega)
    rw [Nat.add_sub_cancel' inside.1, BitVec.getLsbD_eq_getElem hj] at set
    simp [hj, set]
  next outside => cases (f.reg.tyMask FTy.sets).getLsbD j <;> simp [hj]

/-- A full write of a register that is one stored field leaves its data. -/
theorem State.merge_whole (s : State) {r : Reg} (i : Nat) (w : Word) (sets : r.tyMask FTy.sets = 0xFFFFFFFF)
    (clears : r.tyMask FTy.clears = 0) : s.merge r i w 0xFFFFFFFF = w := by
  have whole : w &&& 0xFFFFFFFF = w := (BitVec.and_comm _ _).trans (ones_and w)
  rw [State.merge_full, sets, clears, whole]
  simpa using whole

end Sys2Proof.Machine
end

section
/-! A record that is written to a stream (R55, R315). -/

namespace Sys2Proof.Machine

/-! ## The 64-bit write of a pair -/

/-- What a write of a 64-bit pair in one access leaves: the low word is put, then the high one (R55). -/
def State.putPair (s : State) (code : Nat) (r h : Reg) (i v : Nat) : State :=
  ((s.putWord code r i (BitVec.ofNat 32 v)).1.putWord code h i (BitVec.ofNat 32 (v / 2 ^ 32))).1

/-- A granted 64-bit write of an atomic pair reaches both registers past the master's shadow. -/
theorem State.busWrite_pair {s : State} {a : Acc} {r h : Reg} {i : Nat} (granted : s.granted a r i) (aligned : r.addr i % 8 = 0)
    (route : routeReg r = false) (high : atomicHigh r = some h) (routeHigh : routeReg h = false) (highHigh : atomicHigh h = none)
    (low : atomicLow h = some r) (v : Nat) :
    ∃ b b', s.busWrite a (r.addr i) v .b64 = ((s.setBus b).putPair (s.who a).code r h i v).setBus b' := by
  obtain ⟨awake, reaches, names, pass, -⟩ := granted
  have word : r.addr i / 4 * 4 = r.addr i := by omega
  have served : ((s.who a).mute || !s.awake) = false := by rw [awake, reaches]; rfl
  obtain ⟨x, dropped⟩ := s.dropHeld_eq (s.who a).code (r.addr i)
  have heldLow : BitVec.ofNat 32 (BitVec.ofNat 32 v).toNat = BitVec.ofNat 32 v := by simp only [BitVec.ofNat_toNat, BitVec.setWidth_eq]
  simp only [State.busWrite, State.busWho, served, Bool.false_eq_true, if_false, if_true, State.access64, word, names, high, reduceCtorEq,
    aligned, ne_eq, not_true_eq_false, Option.map_some, State.accessPair, State.stop_dropHeld, pass,
    State.writeReg_low _ _ _ _ route high]
  simp only [State.writeReg, Bool.not_true, Bool.false_and, Bool.false_eq_true, if_false, routeHigh, highHigh, low,
    State.shadow_setShadow, if_true, heldLow, dropped]
  exact ⟨_, _, rfl⟩

theorem recLo_aligned (t : Fin 8) : Reg.addr .EVE_ST_RECLO t % 8 = 0 := by
  revert t
  decide

/-! ## What the words of a record leave -/

theorem State.clearMismatch_eve (s : State) (k : Reg × Nat) : (s.clearMismatch k).eve = s.eve := by
  obtain ⟨l, h | h⟩ := s.clearMismatch_cases k
  · rw [h]; rfl
  · rw [h, State.clearFault_eve]; rfl

theorem State.clearMismatch_clk (s : State) (k : Reg × Nat) : (s.clearMismatch k).clk = s.clk := by
  obtain ⟨l, h | h⟩ := s.clearMismatch_cases k
  · rw [h]; rfl
  · rw [h, State.clearFault_clk]; rfl

theorem State.putWord_eve (s : State) (c : Nat) (r : Reg) (i : Nat) (w : Word) :
    (s.putWord c r i w).1.eve = (s.put c r i w 0xFFFFFFFF).1.eve := by
  rw [State.putWord]
  split
  · exact State.clearMismatch_eve ..
  · rfl

theorem State.put_recLo (s : State) (c t : Nat) (w : Word) :
    s.put c .EVE_ST_RECLO t w 0xFFFFFFFF = (s.wr .EVE_ST_RECLO t w, 0) := by
  have n := s.merge_whole (r := .EVE_ST_RECLO) t w (by decide) (by decide)
  have put : s.put c .EVE_ST_RECLO t w 0xFFFFFFFF = (s.wr .EVE_ST_RECLO t (s.merge .EVE_ST_RECLO t w 0xFFFFFFFF), 0) := rfl
  rw [put, n]

theorem State.put_recHi (s : State) (c t : Nat) (w : Word) : s.put c .EVE_ST_RECHI t w 0xFFFFFFFF =
    let x := (s.wr .EVE_ST_RECHI t w).addRecord t ((s.rd .EVE_ST_RECLO t).toNat + 2 ^ 32 * w.toNat)
    (x.1, if x.2 then 0 else abState) := by
  have n := s.merge_whole (r := .EVE_ST_RECHI) t w (by decide) (by decide)
  have lo := s.rd_wr_ne (r := .EVE_ST_RECHI) (r' := .EVE_ST_RECLO) (i := t) (i' := t) w (by simp)
  have put : s.put c .EVE_ST_RECHI t w 0xFFFFFFFF =
    let u := s.wr .EVE_ST_RECHI t (s.merge .EVE_ST_RECHI t w 0xFFFFFFFF)
    let x := u.addRecord t ((u.rd .EVE_ST_RECLO t).toNat + 2 ^ 32 * (s.merge .EVE_ST_RECHI t w 0xFFFFFFFF).toNat)
    (x.1, if x.2 then 0 else abState) := rfl
  rw [put, n]
  simp only [lo]

/-! ## Adding a record -/

/-- An open stream with room that has no record yet takes one as it stands. -/
theorem State.addRecord_first {s : State} {t : Nat} (opened : s.flag F.EVE_ST_CTRL_OPEN t = true) (live : s.live = true)
    (runs : s.clk.bDown = none) (room : (s.strm t).recs.length < 256) (first : (s.strm t).newest = none) (v : Nat) :
    ((s.addRecord t v).1.strm t).recs = (s.strm t).recs ++ [(v % 2 ^ 32, v / 2 ^ 32 % 2 ^ 24, v / 2 ^ 56 % 256)] ∧
      ((s.addRecord t v).1.strm t).newest = some (v % 2 ^ 32) := by
  have taken : (!s.flag F.EVE_ST_CTRL_OPEN t || !s.live || s.clk.bDown.isSome) = false := by rw [opened, live, runs]; rfl
  simp only [State.addRecord, taken, Nat.not_le.mpr room, first, Bool.false_eq_true, if_false]
  split
  · rw [State.strm, State.clearFault_eve]
    exact ⟨congrArg Strm.recs (State.strm_setStrm ..), congrArg Strm.newest (State.strm_setStrm ..)⟩
  · exact ⟨congrArg Strm.recs (State.strm_setStrm ..), congrArg Strm.newest (State.strm_setStrm ..)⟩

theorem State.addRecord_closed {s : State} {t : Nat} (closed : s.flag F.EVE_ST_CTRL_OPEN t = false) (v : Nat) :
    s.addRecord t v = (s, false) := if_pos (by rw [closed]; rfl)

theorem State.strm_congr {s u : State} (h : u.eve = s.eve) (t : Nat) : u.strm t = s.strm t := by rw [State.strm, State.strm, h]

/-- `u` has the streams of `s` and whatever decides whether they take a record. -/
structure State.StreamFrame (s u : State) : Prop where
  eve : u.eve = s.eve
  clk : u.clk = s.clk
  ctrl (t : Nat) : u.rd .EVE_ST_CTRL t = s.rd .EVE_ST_CTRL t
  mode : u.rd .SYS_MODE = s.rd .SYS_MODE

section
variable {s u v : State}

theorem State.StreamFrame.congr (h : s.StreamFrame u) (eve : v.eve = u.eve) (clk : v.clk = u.clk) (regs : v.regs = u.regs) :
    s.StreamFrame v :=
  ⟨eve.trans h.eve, clk.trans h.clk, fun t => (State.rd_congr regs _ t).trans (h.ctrl t), (State.rd_congr regs _ 0).trans h.mode⟩

theorem State.StreamFrame.wr (h : s.StreamFrame u) {r : Reg} (i : Nat) (w : Word) (ctrl : r ≠ .EVE_ST_CTRL) (mode : r ≠ .SYS_MODE) :
    s.StreamFrame (u.wr r i w) :=
  ⟨h.eve, h.clk, fun t => (State.rd_wr_ne _ _ fun e => ctrl (congrArg Prod.fst e).symm).trans (h.ctrl t),
    (State.rd_wr_ne _ _ fun e => mode (congrArg Prod.fst e).symm).trans h.mode⟩

theorem State.StreamFrame.opened (h : s.StreamFrame u) (t : Nat) : u.flag F.EVE_ST_CTRL_OPEN t = s.flag F.EVE_ST_CTRL_OPEN t := by
  rw [State.flag, State.flag, State.fld, State.fld, h.ctrl]

theorem State.StreamFrame.live (h : s.StreamFrame u) : u.live = s.live := by
  rw [State.live, State.live, State.mode', State.mode', State.fld, State.fld, h.mode]

theorem State.StreamFrame.strm (h : s.StreamFrame u) (t : Nat) : u.strm t = s.strm t := State.strm_congr h.eve t

end

/-- The two words of a pair make up the number that was written. -/
theorem pairWord (w : Nat) : (BitVec.ofNat 32 w).toNat + 2 ^ 32 * (BitVec.ofNat 32 (w / 2 ^ 32)).toNat = w % 2 ^ 64 := by
  simp only [BitVec.toNat_ofNat]
  omega

/-- The low word of a record is stored. -/
def State.recLow (s : State) (t w : Nat) : State := (s.wr .EVE_ST_RECLO t (BitVec.ofNat 32 w)).clearMismatch (.EVE_ST_RECLO, t)

theorem State.putWord_recLo (s : State) (c t w : Nat) : (s.putWord c .EVE_ST_RECLO t (BitVec.ofNat 32 w)).1 = s.recLow t w := by
  rw [State.putWord, State.put_recLo]
  rfl

theorem State.rd_recLow (s : State) (t w : Nat) : (s.recLow t w).rd .EVE_ST_RECLO t = BitVec.ofNat 32 w :=
  (State.rd_congr (State.clearMismatch_regs ..) _ _).trans (State.rd_wr_same ..)

theorem State.StreamFrame.recLow {s u : State} (h : s.StreamFrame u) (t w : Nat) : s.StreamFrame (u.recLow t w) :=
  (h.wr t (BitVec.ofNat 32 w) (by decide) (by decide)).congr (State.clearMismatch_eve ..) (State.clearMismatch_clk ..)
    (State.clearMismatch_regs ..)

/-- A granted 64-bit write of a record leaves the events and streams that adding it leaves. -/
theorem State.busWrite_record {s : State} {a : Acc} {t : Fin 8} (granted : s.granted a .EVE_ST_RECLO t) (w : Nat) :
    ∃ v : State, s.StreamFrame v ∧ (s.busWrite a (Reg.addr .EVE_ST_RECLO t) w .b64).eve = (v.addRecord t (w % 2 ^ 64)).1.eve := by
  obtain ⟨b, b', written⟩ := State.busWrite_pair granted (recLo_aligned t) rfl rfl rfl rfl rfl w
  have start : s.StreamFrame (s.setBus b) := ⟨rfl, rfl, fun _ => rfl, rfl⟩
  refine ⟨_, (start.recLow t w).wr (r := .EVE_ST_RECHI) t (BitVec.ofNat 32 (w / 2 ^ 32)) (by decide) (by decide), ?_⟩
  rw [written, State.setBus_eve, State.putPair, State.putWord_recLo, State.putWord_eve, State.put_recHi, State.rd_recLow, pairWord]

end Sys2Proof.Machine
end

section
/-! Prescription streams (R307, R308, R312 to R317, R321). -/

namespace Sys2Proof.Machine

/-! ## Writes to a stream's registers (R307, R317, R321) -/

theorem State.put_stOdo (s : State) (c t : Nat) (w : Word) : s.put c .EVE_ST_ODO t w 0xFFFFFFFF =
    if s.strmTakes t then (s.setOdo t w.toNat, 0) else (s, abState) := by
  have n := s.merge_whole (r := .EVE_ST_ODO) t w (by decide) (by decide)
  have put : s.put c .EVE_ST_ODO t w 0xFFFFFFFF =
    if s.strmTakes t then (s.setOdo t (s.merge .EVE_ST_ODO t w 0xFFFFFFFF).toNat, 0) else (s, abState) := rfl
  rw [put, n]

theorem State.put_stSpeed (s : State) (c t : Nat) (w : Word) : s.put c .EVE_ST_SPEED t w 0xFFFFFFFF =
    if s.strmTakes t && s.fld F.EVE_ST_CTRL_SRC t == 2 then (s.speedIn t (signed 32 w.toNat), 0) else (s, abState) := by
  have n := s.merge_whole (r := .EVE_ST_SPEED) t w (by decide) (by decide)
  have put : s.put c .EVE_ST_SPEED t w 0xFFFFFFFF =
    if s.strmTakes t && s.fld F.EVE_ST_CTRL_SRC t == 2 then (s.speedIn t (signed 32 (s.merge .EVE_ST_SPEED t w 0xFFFFFFFF).toNat), 0)
    else (s, abState) := rfl
  rw [put, n]

theorem signed_of_small {v : Nat} (small : v < 2 ^ 31) : signed 32 (BitVec.ofNat 32 v).toNat = v := by
  rw [BitVec.toNat_ofNat, signed, Nat.mod_mod, Nat.mod_eq_of_lt (by omega), if_pos small]

theorem State.strmTakes_dropHeld (s : State) (c a t : Nat) : (s.dropHeld c a).strmTakes t = s.strmTakes t := by
  obtain ⟨x, hx⟩ := s.dropHeld_eq c a
  rw [hx]
  rfl

/-- A write that takes OPEN from an open stream and keeps the other fields closes it. -/
theorem State.put_stCtrl_close (s : State) {t : Nat} (opened : s.flag F.EVE_ST_CTRL_OPEN t = true)
    (range : inRange 100 2000 (s.fld F.EVE_ST_CTRL_RUN_AHEAD t) = true) (c : Nat) :
    s.put c .EVE_ST_CTRL t (F.EVE_ST_CTRL_OPEN.into (s.baseWord .EVE_ST_CTRL t) 0) 0xFFFFFFFF =
      ((s.wr .EVE_ST_CTRL t (F.EVE_ST_CTRL_OPEN.into (s.rd .EVE_ST_CTRL t) 0)).closeStream t, 0) := by
  have fits : F.EVE_ST_CTRL_OPEN.fits := by simp [Fld.fits]
  have n := s.merge_baseWord fits t 0 (by decide) (by decide)
  have kept (g : Fld) (same : g.reg = .EVE_ST_CTRL) (apart : F.EVE_ST_CTRL_OPEN.apart g) :
      g.of (F.EVE_ST_CTRL_OPEN.into (s.rd .EVE_ST_CTRL t) 0) = s.fld g t := by
    rw [Fld.of_into_apart fits apart, State.fld, same]
  have open0 : F.EVE_ST_CTRL_OPEN.of (F.EVE_ST_CTRL_OPEN.into (s.rd .EVE_ST_CTRL t) 0) = 0 := Fld.of_into fits _ 0
  have restored : F.EVE_ST_CTRL_OPEN.into (F.EVE_ST_CTRL_OPEN.into (s.rd .EVE_ST_CTRL t) 0) (s.fld F.EVE_ST_CTRL_OPEN t) =
    s.rd .EVE_ST_CTRL t := Fld.into_restore fits _ 0
  have put : s.put c .EVE_ST_CTRL t (F.EVE_ST_CTRL_OPEN.into (s.baseWord .EVE_ST_CTRL t) 0) 0xFFFFFFFF =
    s.wrEve .EVE_ST_CTRL t (F.EVE_ST_CTRL_OPEN.into (s.rd .EVE_ST_CTRL t) 0)
      (Reg.fired .EVE_ST_CTRL (F.EVE_ST_CTRL_OPEN.into (s.baseWord .EVE_ST_CTRL t) 0) 0xFFFFFFFF) := by
    exact congrArg (s.wrEve .EVE_ST_CTRL t · _) n
  rw [put]
  simp only [State.wrEve, restored, opened, open0, kept F.EVE_ST_CTRL_RUN_AHEAD rfl (by simp [Fld.apart]),
    kept F.EVE_ST_CTRL_SRC rfl (by simp [Fld.apart]), kept F.EVE_ST_CTRL_DI rfl (by simp [Fld.apart]), range]
  simp

/-! ## Expansion of a record -/

theorem State.expandRecord_empty {s : State} {t : Nat} (empty : (s.strm t).recs = []) : s.expandRecord t = s := by
  simp only [State.expandRecord, empty]

section
variable {s v w y : State} {t : Nat}

/-- Nothing keeps a stream from expanding its oldest record, whose events are `evs` (R312, R314). -/
structure State.MayExpand (s : State) (t : Nat) (evs : List EvEnt) : Prop where
  due : evs = [] ∨ evs.any (fun e => decide (diff64 e.start s.logical ≤ (ms (s.fld F.EVE_ST_CTRL_RUN_AHEAD t) : Nat))) = true
  opened : s.flag F.EVE_ST_CTRL_OPEN t = true
  runs : s.clk.bDown = none
  timed : s.timeOk = true
  enabled : s.flag F.EVE_CTRL_EN = true
  live : s.live = true
  sound : s.isSafe .eve = false
  inPlace : s.extracting = false
  moving : s.moving t = true

theorem State.expandRecord_expands {r : Nat × Nat × Nat} {rest : List (Nat × Nat × Nat)} {evs keep good : List EvEnt}
    (oldest : (s.strm t).recs = r :: rest) (hevs : evs = s.expand t r) (may : s.MayExpand t evs)
    (hkeep : keep = evs.filter (fun e => !decide (diff64 e.start s.logical < (s.horizonNs : Nat))))
    (hgood : good = keep.filter (fun e => !s.badEvent e.target e.value e.dur)) (room : s.eve.store.length + good.length ≤ s.streamRoom)
    (hv : v = ((s.setStrm t { s.strm t with recs := rest }).bump F.EVE_ST_CNT_RECORDS t).each (List.range (keep.length - good.length))
      (fun s _ => s.eveRefuse))
    (hw : w = (if evs.length - keep.length = 0 then v else
      ((v.bump F.EVE_ST_CNT_LATE_DROP t (evs.length - keep.length)).setFlag F.EVE_EVT_LATE_DROP).raise .RECORD_LATE t [] (sec 1))) :
    s.expandRecord t = w.each good (fun s e => ((s.accept e).map fun x => x.2).getD s) := by
  obtain ⟨due, opened, runs, timed, enabled, live, sound, inPlace, moving⟩ := may
  have dueNow : (evs.isEmpty || evs.any fun e =>
      decide (diff64 e.start s.logical ≤ (ms (s.fld F.EVE_ST_CTRL_RUN_AHEAD t) : Nat))) = true := by
    rw [Bool.or_eq_true, List.isEmpty_iff]
    exact due
  subst hevs hkeep hgood hv hw
  simp only [State.expandRecord, oldest, opened, runs, timed, enabled, live, sound, inPlace, moving, dueNow, Option.isNone_none,
    Bool.not_false, Bool.and_true, Bool.not_true, Bool.false_eq_true, if_false, Nat.not_lt.mpr room]
  refine congrArg (State.each _ _) (funext fun s => funext fun e => ?_)
  cases s.accept e <;> rfl

/-! ## The 1 ms update and the loss of speed (R307, R308, R313, R316) -/

/-- An open and moving stream is past its newest record `p`, and this is not noted yet (R316). -/
def State.runsDry (y : State) (t p : Nat) (under : Bool) : Bool :=
  y.flag F.EVE_ST_CTRL_OPEN t && y.moving t && decide (posDiff p (y.strmNow t).mm < 0) && !under

/-- What the 1 ms update makes of the newest record of a stream: an underrun is noted where the stream runs dry. -/
def State.underrunJudged (y : State) (t : Nat) (newest : Option Nat) (under : Bool) : State :=
  match newest with
  | some p =>
    if y.runsDry t p under then ((y.setStrm t { y.strm t with under := true }).setFlag F.EVE_EVT_UNDERRUN).raise .STREAM_UNDERRUN t else y
  | none => y

theorem State.underrunJudged_rests {newest : Option Nat} {under : Bool} (h : newest.all (fun p => !y.runsDry t p under) = true) :
    y.underrunJudged t newest under = y := by
  cases newest with
  | none => rfl
  | some p => exact if_neg (by simpa using h)

/-- The 1 ms update of a stream: its estimate and odometer, its speculative events, then the underrun. -/
theorem State.speedUpdate_eq {x : Strm} {vel : Nat} (hv : v = s.advanceTo ((s.strm t).upd + ms 1))
    (hvel : vel = (if s.fld F.EVE_ST_CTRL_SRC t = 0
      then pulseSpeed (s.strm t).pulses (s.fld F.EVE_ST_SCALE_SCALE t) v.now (ms 10 * s.fld F.EVE_ST_CFG2_TIMEOUT t)
      else if (s.strm t).loss then 0 else (s.strm t).v))
    (hx : x = (if s.fld F.EVE_ST_CTRL_SRC t = 0 then { s.strm t with v := vel, upd := v.now }
      else { s.strm t with v := vel, odo := ((s.strm t).odo + vel * 65536 / 1000) % 2 ^ 48, upd := v.now }))
    (hw : w = (v.setStrm t x).setFld F.EVE_ST_SPEED_SPEED t vel)
    (hy : y = (if w.moving t then w.each (w.eve.store.filter fun z => z.2.st == 1 && z.2.src == t + 2) (fun s z => s.retime t z.1)
      else w.retractAll fun e => e.src == t + 2)) :
    s.speedUpdate t = y.underrunJudged t (s.strm t).newest (s.strm t).under := by
  have judged : s.speedUpdate t = y.underrunJudged t x.newest x.under := by
    subst hy hw hx hvel hv
    rfl
  have kept : x.newest = (s.strm t).newest ∧ x.under = (s.strm t).under := by
    rw [hx]
    split <;> exact ⟨rfl, rfl⟩
  rw [judged, kept.1, kept.2]

/-- The state of a stream that has lost its source of speed, before its speculative events are retracted. -/
def State.speedLost (s : State) (t : Nat) : State :=
  let v := s.advanceTo ((s.strm t).last + ms 10 * s.fld F.EVE_ST_CFG2_TIMEOUT t)
  (((v.setStrm t { s.strm t with loss := true, v := 0 }).setFld F.EVE_ST_SPEED_SPEED t 0).setFlag F.EVE_EVT_SPEED_LOSS).raise
    .SPEED_LOSS t

theorem State.speedLoss_found (source : s.fld F.EVE_ST_CTRL_SRC t ≠ 0) (first : (s.strm t).loss = false) :
    s.speedLoss t = (s.speedLost t).retractAll fun e => e.src == t + 2 := if_neg (by simp [source, first])

theorem State.speedLost_strm : (s.speedLost t).strm t = { s.strm t with loss := true, v := 0 } := by
  rw [State.strm, State.speedLost, State.raise_eve]
  exact State.strm_setStrm ..

theorem State.speedLost_speed : (s.speedLost t).fld F.EVE_ST_SPEED_SPEED t = 0 := by
  rw [State.speedLost, State.fld_raise, State.setFlag, State.fld_setFld_ne _ (by simp), State.fld_setFld_same _ (by simp [Fld.fits])]
  exact Nat.zero_mod _

theorem State.speedLost_flag : (s.speedLost t).flag F.EVE_EVT_SPEED_LOSS = true := by
  rw [State.speedLost, State.flag_raise]
  exact State.flag_setFlag_same _ (by simp [Fld.fits]) rfl 0 true

end

/-- Settles O22: a record reaches `State.addRecord` through its pair of registers, a write of a stream's register is the register's rule, and
each event is the branch of its operation in which its conditions hold. -/
theorem streams : Obligations.Streams := by
  unfold Obligations.Streams
  refine ⟨?record, ?closed, ?empty, ?expands, ?update, ?underrun, ?loss, ?speed, ?odometer, ?refused, ?close⟩
  case record =>
    intro s a t w lo hi small opened live runs room first
    obtain ⟨v, frame, eve⟩ := State.busWrite_record lo w
    have added := State.addRecord_first ((frame.opened t).trans opened) (frame.live.trans live)
      ((congrArg ClkSt.bDown frame.clk).trans runs) (by rwa [frame.strm]) (by rwa [frame.strm]) w
    have dose : w / 2 ^ 56 % 256 = w / 2 ^ 56 := Nat.mod_eq_of_lt (by omega)
    rw [Nat.mod_eq_of_lt small] at eve
    rw [frame.strm, dose, ← State.strm_congr eve] at added
    exact State.run_completes rfl added
  case closed =>
    intro s a t w lo hi closed
    obtain ⟨v, frame, eve⟩ := State.busWrite_record lo w
    rw [State.addRecord_closed ((frame.opened t).trans closed)] at eve
    exact State.run_completes rfl (eve.trans frame.eve)
  case empty => exact fun s t awake empty => State.runOn_next rfl awake (State.expandRecord_empty empty)
  case expands =>
    intro s v w t r rest evs keep good awake oldest hevs due opened runs timed enabled live sound inPlace moving hkeep hgood room hv hw
    exact State.runOn_next rfl awake (State.expandRecord_expands oldest hevs
      ⟨due, opened, runs, timed, enabled, live, sound, inPlace, moving⟩ hkeep hgood room hv hw)
  case update =>
    intro s v w y t x vel awake hv hvel hx hw hy rests
    exact State.runOn_next rfl awake ((State.speedUpdate_eq hv hvel hx hw hy).trans (State.underrunJudged_rests rests))
  case underrun =>
    intro s v w y t x vel p awake hv hvel hx hw hy newest dry
    refine State.runOn_next rfl awake ((State.speedUpdate_eq hv hvel hx hw hy).trans ?_)
    rw [newest]
    exact if_pos dry
  case loss =>
    intro s t awake source first
    exact State.runOn_completes rfl awake ⟨s.speedLost t, State.speedLoss_found source first, State.raise_now .., State.speedLost_strm,
      State.speedLost_speed, State.speedLost_flag, State.active_raise _ _ (by decide) _ _ _⟩
  case speed =>
    intro s a t v h takes source small
    refine exec_put rfl h rfl rfl rfl fun code => ?_
    rw [State.put_stSpeed, State.strmTakes_dropHeld, State.fld_dropHeld, takes, source, signed_of_small small]
    rfl
  case odometer =>
    intro s a t mm h takes small
    refine exec_put rfl h rfl rfl rfl fun code => ?_
    rw [State.put_stOdo, State.strmTakes_dropHeld, takes, BitVec.toNat_ofNat, Nat.mod_eq_of_lt small]
    rfl
  case refused =>
    intro s a t mm h closed
    refine exec_put rfl h rfl rfl rfl fun code => ?_
    rw [State.put_stOdo, State.strmTakes_dropHeld, closed]
    rfl
  case close =>
    intro s a t h opened range
    refine ⟨F.EVE_ST_CTRL_OPEN.into (s.rd .EVE_ST_CTRL t) 0,
      exec_put (v := (F.EVE_ST_CTRL_OPEN.into (s.baseWord .EVE_ST_CTRL t) 0).toNat) rfl h rfl rfl rfl fun code => ?_⟩
    have regs := s.dropHeld_regs (s.who a).code (Reg.addr .EVE_ST_CTRL t)
    have base := (s.dropHeld (s.who a).code (Reg.addr .EVE_ST_CTRL t)).put_stCtrl_close
      ((State.flag_congr regs _ t).trans opened) ((congrArg (inRange 100 2000) (State.fld_congr regs _ t)).trans range) code
    have same : (s.dropHeld (s.who a).code (Reg.addr .EVE_ST_CTRL t)).baseWord .EVE_ST_CTRL t = s.baseWord .EVE_ST_CTRL t :=
      congrArg (· &&& Reg.tyMask .EVE_ST_CTRL FTy.sets) (State.rd_congr regs .EVE_ST_CTRL t)
    rw [BitVec.ofNat_toNat, BitVec.setWidth_eq]
    rwa [same, State.rd_congr regs] at base

end Sys2Proof.Machine
end

section
/-! The EVE safe state when its register EVE_CTRL is in mismatch (R68, R69, R306): a re-enable in the write that clears the mismatch. -/

namespace Sys2Proof.Machine

/-- `calMismatch` with EVE_CTRL in the place of CAL_CTRL: its mismatch is found and the unit of EVE is safe. -/
def eveMismatch : State := calMismatch.setBus { par := [((.EVE_CTRL, 0), true)], safe := [.eve] }

theorem eveMismatch_granted : eveMismatch.granted secureCpu .EVE_CTRL 0 := by unfold State.granted; decide

/-- Nothing is due after a command that leaves in `eveMismatch` other words in registers, the mode and the berth's state aside, and another
state of the bus. -/
theorem eveMismatch_quiet {u : State} {r : List ((Reg × Nat) × Word)} {b : BusSt} (only : u = { eveMismatch with regs := r, bus := b })
    (mode : u.mode' = 4) (berth : u.fld F.BERTH_STAT_STATE = 0) : eveMismatch.quiet u := by
  have was : eveMismatch.mode' = 4 := by decide
  have debug : u.dbgMode = u := State.dbgMode_settled (by rw [only]; rfl) (by rw [mode, only]; rfl) (by rw [only]; rfl)
  have asleep : u.sleepOk = false := by
    rw [State.sleepOk, berth]
    simp only [Nat.reduceBEq, Bool.and_false, Bool.false_and]
  have ramp : u.rampEnd = u := if_pos (.inl (by rw [berth]; decide))
  have service : u.mode' = 6 → u.serviceOpen = true := fun service => absurd (mode.symm.trans service) (by decide)
  subst only
  exact ⟨rfl, mode.trans was.symm, service, debug, rfl, asleep, ramp, rfl, rfl, rfl, rfl, (fun due => nomatch due), rfl⟩

/-- The write of EVE_CTRL that the statement has: it leaves the word `n` and its re-enable is refused. -/
def eveRefused (n : Word) : State :=
  (((eveMismatch.wr .EVE_CTRL 0 n).setFlag F.GUARD_REENABLE_REFUSED).answer (.ok 0)).1

theorem eveRefused_fld (n : Word) {f : Fld} (ctrl : f.reg ≠ .EVE_CTRL) (guard : f.reg ≠ .GUARD_REENABLE) :
    (eveRefused n).fld f = eveMismatch.fld f := by
  rw [eveRefused, State.answer_fst, State.fld_congr (State.setBus_regs _ _), State.setFlag,
    State.fld_setFld_ne _ fun e => guard (congrArg Prod.fst e), State.fld_wr_ne _ ctrl]

theorem eveMismatch_wrote (n : Word) : (eveMismatch.wrote secureCpu .EVE_CTRL 0 fun s =>
    (((s.wr .EVE_CTRL 0 n).reenableUnit .eve).1, if ((s.wr .EVE_CTRL 0 n).reenableUnit .eve).2 then 0x08000022 else 0)) =
      eveRefused n := by
  have held : eveMismatch.dropHeld (eveMismatch.who secureCpu).code (Reg.addr .EVE_CTRL 0) = eveMismatch := rfl
  have refused : (eveMismatch.wr .EVE_CTRL 0 n).reenableUnit .eve =
      ((eveMismatch.wr .EVE_CTRL 0 n).setFlag F.GUARD_REENABLE_REFUSED, true) := State.reenableUnit_barred rfl rfl
  rw [State.wrote, held, refused]
  rfl

/-- Refutes O21: its clause of EVENT_REENABLE judges the re-enable with the mismatch of EVE_CTRL still there, and so has it refused, though
the write ends the mismatch before (R68); from `eveMismatch` the model ends the safe state, the clause keeps it. -/
theorem not_eventEngine : ¬ Obligations.EventEngine := by
  unfold Obligations.EventEngine
  rintro ⟨-, -, -, -, -, -, -, -, -, -, -, -, reenable⟩
  obtain ⟨n, claimed⟩ := reenable eveMismatch secureCpu eveMismatch_granted (by decide)
  have quiet : eveMismatch.quiet (eveRefused n) := eveMismatch_quiet rfl ((eveRefused_fld n (by decide) (by decide)).trans (by decide))
    ((eveRefused_fld n (by decide) (by decide)).trans (by decide))
  have model : exec (.eventReenable secureCpu) eveMismatch =
      .next (State.finish eveMismatch (eveMismatch.busField secureCpu F.EVE_CTRL_REENABLE 0 1)) := rfl
  rw [model, eveMismatch_wrote, State.finish_quiet quiet] at claimed
  have safe := congrArg (State.isSafe · .eve) (Host.Outcome.next.inj claimed)
  have ended : (State.finish eveMismatch (eveMismatch.busField secureCpu F.EVE_CTRL_REENABLE 0 1)).isSafe .eve = false := by
    decide +kernel
  have kept : (eveRefused n).isSafe .eve = true := rfl
  exact Bool.false_ne_true (ended.symm.trans (safe.trans kept))

end Sys2Proof.Machine
end

section
/-! The step (R435), the routes of the object dictionary (R507, R510), and what the debug port holds of the mode (R582, R583). -/

namespace Sys2Proof.Machine

/-- Settles O48: `step` takes the front of the queue. -/
theorem stepTakesFront : Obligations.StepTakesFront := fun _ _ _ => rfl

/-- Settles O49: an empty queue leaves `State.idle` alone. -/
theorem idleStep : Obligations.IdleStep := by
  unfold Obligations.IdleStep
  intro s empty
  unfold step
  split
  · rfl
  · next waiting => exact nomatch empty.symm.trans waiting

/-! ## Dictionary routes -/

theorem exec_lastWrite_hold (s : State) (c : Client) (l : Fin 32) (v : Nat) :
    exec (.lastWrite (.dict c) l 0 v) s = .next (State.finish s (s.clientNum c (0x2230 + l) 0x40 v)) := rfl

theorem exec_lastWrite_phase (s : State) (c : Client) (l : Fin 32) (j : Fin 8) (v : Nat) :
    exec (.lastWrite (.dict c) l (Fin.ofNat 9 (j + 1)) v) s = .next (State.finish s (s.clientNum c (0x2230 + l) (0x41 + j) v)) := by
  have number : Fin.ofNat 9 (j + 1) = ⟨j + 1, by omega⟩ := Fin.ext (Nat.mod_eq_of_lt (by omega))
  rw [number]
  rfl

/-- Settles O60: each command over the dictionary is, by its meaning, the client's write of its entry. -/
theorem dictionaryRoutes : Obligations.DictionaryRoutes := by
  unfold Obligations.DictionaryRoutes
  refine ⟨?_, ?_, ?_, ?_, ?_, ?_, ?_, ?_, ?_, ?_, ?_, ?_, ?_, ?_, ?_, ?_, ?_, ?_, ?phase, ?_, ?_, ?_, ?_, ?_, ?_, ?_, ?_, ?_, ?_, ?_, ?_,
    ?_, ?_, ?_, ?_, ?_, ?_, ?_, ?_, ?_, ?_, ?_, ?_, ?_, ?_, ?_, ?_, ?_, ?_, ?_, ?_, ?_, ?_, ?_⟩
  case phase => exact exec_lastWrite_phase
  all_goals intros; rfl

/-! ## The debug port -/

theorem State.finish_debugLawful (s u : State) : (State.finish s u).debugLawful := by
  obtain ⟨mode, -, held, service⟩ := State.finish_debug s u
  rw [← mode] at held service
  refine ⟨held, fun marked => ?_⟩
  rw [service, Bool.and_eq_true, beq_iff_eq] at marked
  exact marked.2

/-- Settles O53: a command ends with `State.finish`, which puts the present mode into the record of the debug port; the passing of time
changes neither. -/
theorem debugGrantInvariant : Obligations.DebugGrantInvariant := by
  unfold Obligations.DebugGrantInvariant
  intro s s' lawful stepped
  unfold step at stepped
  split at stepped
  next =>
    obtain rfl := Host.Outcome.next.inj stepped
    exact lawful
  next =>
    obtain ⟨u, rfl⟩ := exec_finish stepped
    exact State.finish_debugLawful _ u

end Sys2Proof.Machine
end

section
/-! The anchor of logical time (R436 to R438): what a change of rate and a step make of it. -/

namespace Sys2Proof.Machine

theorem unsigned_lt (w : Nat) (i : Int) : unsigned w i < 2 ^ w := by
  have pos : (0 : Int) < (2 ^ w : Nat) := by positivity
  have low := Int.emod_nonneg i pos.ne'
  have high := Int.emod_lt_of_pos i pos
  rw [unsigned]
  omega

theorem unsigned_cast (w : Nat) (i : Int) : (unsigned w i : Int) = i % (2 ^ w : Nat) :=
  Int.toNat_of_nonneg (Int.emod_nonneg i (by positivity))

/-- Only the residue of a number counts towards its encoding. -/
theorem unsigned_add_left (w : Nat) (i j : Int) : unsigned w ((unsigned w i : Int) + j) = unsigned w (i + j) := by
  rw [unsigned_cast, unsigned, unsigned, Int.emod_add_emod]

theorem unsigned_of_lt {w n : Nat} (h : n < 2 ^ w) : unsigned w n = n := by
  rw [unsigned, Int.emod_eq_of_lt (Int.natCast_nonneg n) (by exact_mod_cast h), Int.toNat_natCast]

/-- A number in the range of R10 is read back from its encoding. -/
theorem signed_unsigned_32 {r : Int} (low : -(2 ^ 31) ≤ r) (high : r < 2 ^ 31) : signed 32 (unsigned 32 r) = r := by
  have small := unsigned_lt 32 r
  have code := unsigned_cast 32 r
  rw [signed, Nat.mod_eq_of_lt small]
  split <;> omega

/-! ## The rate -/

section
variable (s : State)

theorem State.logical_lt : s.logical < 2 ^ 64 := unsigned_lt ..

/-- After a change of rate the register holds the new one. -/
theorem State.rate_setRate {r : Int} (low : -(2 ^ 31) ≤ r) (high : r < 2 ^ 31) : signed 32 ((s.setRate r).rd .TIDE_RATE 0).toNat = r := by
  have whole (u : State) : u.fld F.TIDE_RATE_RATE 0 = (u.rd .TIDE_RATE 0).toNat := by
    simp only [State.fld, Fld.of, pow_zero, Nat.div_one]
    exact Nat.mod_eq_of_lt (u.rd .TIDE_RATE 0).isLt
  rw [← whole, State.setRate, State.fld_setFld_same _ (by simp [Fld.fits]), Nat.mod_eq_of_lt (unsigned_lt 32 r),
    signed_unsigned_32 low high]

theorem State.fr_setRate (r : Int) : (s.setRate r).tide.fr < 2 ^ 40 := by
  have fr : ∃ x : Int, (s.setRate r).tide.fr = (x % (2 ^ 40 : Nat)).toNat := ⟨_, rfl⟩
  obtain ⟨x, fr⟩ := fr
  rw [fr]
  omega

/-- Logical time under the new rate counts from the new anchor. -/
theorem State.logicalAt_setRate {r : Int} (low : -(2 ^ 31) ≤ r) (high : r < 2 ^ 31) (c : Nat) : (s.setRate r).logicalAt c =
    unsigned 64 ((s.logical : Int) + 4 * ((c - s.counter : Nat) : Int) +
      (((s.setRate r).tide.fr : Int) + 4 * ((c - s.counter : Nat) : Int) * r) / 2 ^ 40) := by
  have rate := s.rate_setRate low high
  unfold State.logicalAt
  dsimp only
  rw [rate]
  rfl

/-- A change of rate does not move logical time (R437). -/
theorem State.logical_setRate {r : Int} (low : -(2 ^ 31) ≤ r) (high : r < 2 ^ 31) : (s.setRate r).logical = s.logical := by
  have small : ((s.setRate r).tide.fr : Int) / 2 ^ 40 = 0 :=
    Int.ediv_eq_zero_of_lt (Int.natCast_nonneg _) (by exact_mod_cast s.fr_setRate r)
  have counter : (s.setRate r).counter = s.counter := rfl
  rw [State.logical, counter, s.logicalAt_setRate low high, Nat.sub_self]
  simp only [Nat.cast_zero, mul_zero, add_zero, zero_mul, small]
  exact unsigned_of_lt s.logical_lt

/-- What elapsed since the anchor comes on top of A, which is what a step changes. -/
theorem State.logicalAt_anchor (d : Int) (c : Nat) : ∃ e : Int, s.logicalAt c = unsigned 64 ((s.tide.a : Int) + e) ∧
    (s.stepAnchor d).logicalAt c = unsigned 64 ((unsigned 64 ((s.tide.a : Int) + d) : Int) + e) :=
  ⟨_, congrArg (unsigned 64) (add_assoc _ _ _), congrArg (unsigned 64) (add_assoc _ _ _)⟩

/-- A step moves logical time by its size (R438). -/
theorem State.logical_stepAnchor (d : Int) : (s.stepAnchor d).logical = unsigned 64 ((s.logical : Int) + d) := by
  obtain ⟨e, before, after⟩ := s.logicalAt_anchor d s.counter
  have counter : (s.stepAnchor d).counter = s.counter := rfl
  rw [State.logical, State.logical, counter, before, after, unsigned_add_left, unsigned_add_left, add_right_comm]

end

/-- Settles O56: the anchor is taken at the present count, and its remainder is below one part of 2^40. -/
theorem tideAnchor : Obligations.TideAnchor := by
  unfold Obligations.TideAnchor
  rintro s r d t low high rfl
  refine ⟨rfl, rfl, s.fr_setRate r, s.rate_setRate low high, s.logical_setRate low high, fun c _ => s.logicalAt_setRate low high c,
    s.logical_stepAnchor d, ?_⟩
  rw [State.logical_stepAnchor, s.logical_setRate low high]

end Sys2Proof.Machine
end

section
/-! What a register holds after the operations that change other registers, or no register at all. -/

namespace Sys2Proof.Machine

section
variable (s : State) (r : Reg) (i : Nat)

@[simp] theorem State.rd_advanceTo (t : Nat) : (s.advanceTo t).rd r i = s.rd r i := rfl
@[simp] theorem State.rd_setDio (d : DioSt) : (s.setDio d).rd r i = s.rd r i := rfl
@[simp] theorem State.rd_setDic (n : Nat) (c : DiCh) : (s.setDic n c).rd r i = s.rd r i := rfl
@[simp] theorem State.rd_setCntc (n : Nat) (c : CntCh) : (s.setCntc n c).rd r i = s.rd r i := rfl
@[simp] theorem State.rd_setLedc (n : Nat) (c : LedCh) : (s.setLedc n c).rd r i = s.rd r i := rfl
@[simp] theorem State.rd_setBoll (b : BollSt) : (s.setBoll b).rd r i = s.rd r i := rfl
@[simp] theorem State.rd_setTide (t : TideSt) : (s.setTide t).rd r i = s.rd r i := rfl

@[simp] theorem State.rd_raise (f : FaultId) (idx : Nat) (d : List Nat) (lim : Nat) : (s.raise f idx d lim).rd r i = s.rd r i :=
  State.rd_congr (s.raise_regs f idx d lim) r i

@[simp] theorem State.rd_clearFault (f : FaultId) (idx : Nat) : (s.clearFault f idx).rd r i = s.rd r i :=
  State.rd_congr (s.clearFault_regs f idx) r i

@[simp] theorem State.rd_dropHeld (c a : Nat) : (s.dropHeld c a).rd r i = s.rd r i := State.rd_congr (s.dropHeld_regs c a) r i

end

section
variable (s : State) {f : Fld} {i : Nat} {r : Reg} {j : Nat}

theorem State.rd_setFlag_ne (b : Bool) (h : (r, j) ≠ (f.reg, i)) : (s.setFlag f i b).rd r j = s.rd r j := s.rd_setFld_ne h

theorem State.rd_setBit_ne (k : Nat) (b : Bool) (h : (r, j) ≠ (f.reg, i)) : (s.setBit f i k b).rd r j = s.rd r j := s.rd_setFld_ne h

end

end Sys2Proof.Machine
end

section
/-! Digital outputs, SSUP and AUX24 (R351 to R357). -/

namespace Sys2Proof.Machine

/-! ## Writes to the DIO block -/

/-- A write to a register of the DIO block is judged by `State.wrDio`. -/
theorem State.put_dio (s : State) (c : Nat) {r : Reg} (i : Nat) (w m : Word) (inDio : regsDIO.contains r = true)
    (elsewhere : (regsCUST ++ regsSW ++ regsPROT ++ regsCAL ++ regsINJ ++ regsEVE ++ regsLEDS).contains r = false) :
    s.put c r i w m = s.wrDio r i (s.merge r i w m) (r.fired w m) := by
  simp only [List.contains_append, Bool.or_eq_false_iff] at elsewhere
  simp only [State.put, inDio, elsewhere, Bool.false_eq_true, if_false, if_true]

theorem State.put_doOut (s : State) (c v : Nat) :
    s.put c .DIO_DO_OUT 0 (BitVec.ofNat 32 v) 0xFFFFFFFF = refusedAs abState (s.doWrite (v % 2 ^ 16)) := by
  have on := Fld.of_merge s (f := F.DIO_DO_OUT_ON) (r := .DIO_DO_OUT) 0 (BitVec.ofNat 32 v) (by decide) (by decide)
  have data : F.DIO_DO_OUT_ON.of (BitVec.ofNat 32 v) = v % 2 ^ 16 := by
    simp only [Fld.of, BitVec.toNat_ofNat]
    omega
  rw [State.put_dio _ _ _ _ _ (by decide) (by decide), State.wrDio, on, data]

/-- Of the clears of one write only that of the output whose bit is written acts. -/
theorem foldl_only {α : Type} (x : α) (g : α → Nat → α) (m : Nat) {n : Nat} (h : m < n) :
    (List.range n).foldl (fun x k => if k = m then g x k else x) x = g x m := by
  induction n with
  | zero => omega
  | succ n ih =>
    rw [List.range_succ, List.foldl_append]
    by_cases last : m = n
    · subst last
      have rest : (List.range m).foldl (fun x k => if k = m then g x k else x) x = x := by
        refine List.foldlRecOn (motive := fun y => y = x) _ _ rfl fun y hy k hk => ?_
        rw [if_neg (List.mem_range.mp hk).ne, hy]
      simp [rest]
    · rw [ih (by omega)]
      simp [Ne.symm last]

theorem bitOf_two_pow (m k : Nat) : bitOf (2 ^ m) k = decide (m = k) := by rw [bitOf_eq_testBit, Nat.testBit_two_pow]

theorem doClr_fired (m : Fin 16) :
    F.DIO_DO_CLR_CLR.of (Reg.fired .DIO_DO_CLR (BitVec.ofNat 32 (2 ^ m.val)) 0xFFFFFFFF) = 2 ^ m.val := by
  revert m
  decide

/-- A write of one bit of DIO_DO_CLR clears the output of that bit. -/
theorem State.put_doClr (s : State) (c : Nat) (m : Fin 16) :
    s.put c .DIO_DO_CLR 0 (BitVec.ofNat 32 (2 ^ m.val)) 0xFFFFFFFF = refusedAs abState (s.doClear m) := by
  have only := foldl_only (s, 0) (fun x k => ((x.1.doClear k).1, if (x.1.doClear k).2 then abState else x.2)) m m.isLt
  rw [State.put_dio _ _ _ _ _ (by decide) (by decide), State.wrDio, doClr_fired]
  simp only [bitOf_two_pow, decide_eq_true_eq, eq_comm (a := m.val)]
  exact only

/-! ## Outputs (R351 to R353) -/

section
variable {s : State} {m : Nat}

/-- The state of an output that has gone off for overload, before its retry is set. -/
def State.doTripped (s : State) (m : Nat) : State :=
  ((s.setBit F.DIO_DO_STAT_FAULT 0 m).setFlag F.DIO_EVT_DO_OVL).raise .DO_OVERLOAD m [] (sec 1)

theorem State.doTripped_bus : (s.doTripped m).bus = s.bus := by
  rw [State.doTripped, State.raise_bus, State.setFlag_bus, State.setBit, State.setFld_bus]

theorem State.doTripped_dio : (s.doTripped m).dio = s.dio := by
  rw [State.doTripped, State.raise_dio, State.setFlag_dio, State.setBit, State.setFld_dio]

theorem State.doTripped_now : (s.doTripped m).now = s.now := by
  rw [State.doTripped, State.raise_now, State.setFlag_now, State.setBit, State.setFld_now]

theorem State.doLatch_doTripped : (s.doTripped m).doLatch m = s.doLatch m := by
  have cfg : (s.doTripped m).rd .DIO_DO_CFG 0 = s.rd .DIO_DO_CFG 0 := by
    rw [State.doTripped, State.rd_raise, State.rd_setFlag_ne _ _ (by decide), State.rd_setBit_ne _ _ _ (by decide)]
  rw [State.doLatch, State.doLatch, State.isSafe, State.isSafe, State.doTripped_bus, State.bit, State.bit, State.fld, State.fld, cfg]

theorem State.doOverload_on (on : s.bit F.DIO_DO_STAT_ON 0 m = true) : s.doOverload m =
    (if s.doLatch m then s.doTripped m
      else (s.doTripped m).setDio { s.dio with retry := assoc m (s.now + ms 100) s.dio.retry }).doRefresh m := by
  rw [← State.doLatch_doTripped, ← State.doTripped_dio (m := m), ← State.doTripped_now (m := m)]
  exact if_neg (by rw [on]; decide)

theorem State.doOverload_off (off : s.bit F.DIO_DO_STAT_ON 0 m = false) : s.doOverload m = s := if_pos (by rw [off]; rfl)

theorem State.doRetry_due {t : Nat} (waits : lookup m s.dio.retry = some t) (shed : s.bit F.DIO_DO_DIAG_SHED 0 m = false) :
    s.doRetry m = ((((s.advanceTo t).setDio { s.dio with retry := Tbl.del s.dio.retry m }).setBit F.DIO_DO_STAT_FAULT 0 m
      false).clearFault .DO_OVERLOAD m).doRefresh m := by
  simp only [State.doRetry, waits, shed, Bool.false_eq_true, if_false]

theorem State.doRetry_none (none : lookup m s.dio.retry = none) : s.doRetry m = s := by simp only [State.doRetry, none]

theorem State.doOpen_found (enabled : s.bit F.DIO_DO_CFG_OL_EN 0 m = true) (sound : s.isSafe .dioDo = false)
    (on : s.bit F.DIO_DO_STAT_ON 0 m = true) (first : s.bit F.DIO_DO_DIAG_OPEN 0 m = false) :
    s.doOpen m = ((s.setBit F.DIO_DO_DIAG_OPEN 0 m).setFlag F.DIO_EVT_DO_OPEN).raise .DO_OPEN_LOAD m :=
  if_pos (by rw [enabled, sound, on, first]; rfl)

theorem State.doOpen_off (off : s.bit F.DIO_DO_STAT_ON 0 m = false) : s.doOpen m = s := if_neg (by simp [off])

end

/-- Settles O26: the two writes reach the operation of their register, and each event is the branch in which its conditions hold. -/
theorem digitalOutputs : Obligations.DigitalOutputs := by
  unfold Obligations.DigitalOutputs
  refine ⟨?write, ?overload, ?latched, ?off, ?retry, ?noRetry, ?clear, ?opened, ?openOff, ?openClear⟩
  case write => exact fun s a m v h => exec_put rfl h rfl rfl rfl fun code => State.put_doOut _ code v
  case overload =>
    exact fun s m awake on free => State.runOn_next rfl awake ((State.doOverload_on on).trans (by rw [free]; rfl))
  case latched =>
    exact fun s m awake on latch => State.runOn_next rfl awake ((State.doOverload_on on).trans (by rw [latch]; rfl))
  case off => exact fun s m awake off => State.runOn_next rfl awake (State.doOverload_off off)
  case retry => exact fun s m t awake waits shed => State.runOn_next rfl awake (State.doRetry_due waits shed)
  case noRetry => exact fun s m awake none => State.runOn_next rfl awake (State.doRetry_none none)
  case clear => exact fun s a m h => exec_put rfl h rfl rfl rfl fun code => State.put_doClr _ code m
  case opened =>
    exact fun s m awake enabled sound on first => State.runOn_next rfl awake (State.doOpen_found enabled sound on first)
  case openOff => exact fun s m awake off => State.runOn_next rfl awake (State.doOpen_off off)
  case openClear => exact fun s m awake => State.runOn_next rfl awake rfl

/-! ## SSUP (R354) -/

section
variable {s v w : State} {cur m : Nat}

theorem State.ssupOverload_on (on : s.flag F.DIO_AUX_STAT_SSUP_ON = true) : s.ssupOverload =
    ((((s.setFlag F.DIO_AUX_STAT_SSUP_FAULT).setFlag F.DIO_EVT_SSUP_OVL).raise .SSUP_OVERLOAD).setDio
      { s.dio with ssupRetry := some (s.now + sec 1) }).dioRefresh := by
  have dio : (((s.setFlag F.DIO_AUX_STAT_SSUP_FAULT).setFlag F.DIO_EVT_SSUP_OVL).raise .SSUP_OVERLOAD).dio = s.dio := by
    rw [State.raise_dio, State.setFlag_dio, State.setFlag_dio]
  have now : (((s.setFlag F.DIO_AUX_STAT_SSUP_FAULT).setFlag F.DIO_EVT_SSUP_OVL).raise .SSUP_OVERLOAD).now = s.now := by
    rw [State.raise_now, State.setFlag_now, State.setFlag_now]
  rw [← dio, ← now]
  exact if_neg (by rw [on]; decide)

theorem State.ssupRetry_due {t : Nat} (waits : s.dio.ssupRetry = some t) (enabled : s.flag F.DIO_AUX_CTRL_SSUP_EN = true) :
    s.ssupRetry = ((((s.advanceTo t).setDio { s.dio with ssupRetry := none }).setFlag F.DIO_AUX_STAT_SSUP_FAULT 0 false).clearFault
      .SSUP_OVERLOAD).dioRefresh := by
  simp only [State.ssupRetry, waits, enabled, Bool.not_true, Bool.false_eq_true, if_false]

/-! ## AUX24 (R355 to R357) -/

theorem State.auxCur_dio : (s.auxCur cur).dio = s.dio := by rw [State.auxCur, State.setFlag_dio, State.setFld_dio]

/-- The total of AUX24 is kept in DIO_AUX_STAT alone, beside UP. -/
theorem State.rd_auxCur {r : Reg} {i : Nat} (h : r ≠ .DIO_AUX_STAT) : (s.auxCur cur).rd r i = s.rd r i := by
  have elsewhere : (r, i) ≠ (.DIO_AUX_STAT, 0) := fun e => h (congrArg Prod.fst e)
  exact (State.rd_setFlag_ne _ _ elsewhere).trans (State.rd_setFld_ne s elsewhere)

theorem State.auxCur_up : (s.auxCur cur).flag F.DIO_AUX_STAT_UP = s.flag F.DIO_AUX_STAT_UP :=
  (State.flag_setFlag_apart (f := F.DIO_AUX_STAT_LIMIT) (g := F.DIO_AUX_STAT_UP) _ rfl (by simp [Fld.fits]) (by simp [Fld.apart]) 0 _).trans
    (State.flag_setFld_apart (f := F.DIO_AUX_STAT_CUR) (g := F.DIO_AUX_STAT_UP) s rfl (by simp [Fld.fits]) (by simp [Fld.apart]) 0 _)

theorem State.auxCur_rating : (s.auxCur cur).auxRating = s.auxRating := by
  have feed (f : Nat) : (s.auxCur cur).vfeed f = s.vfeed f := by
    unfold State.vfeed State.fld
    split <;> rw [State.rd_auxCur (by decide)]
  rw [State.auxRating, State.auxRating, feed, feed]

theorem State.auxCur_bit {f : Fld} {i k : Nat} (h : f.reg ≠ .DIO_AUX_STAT) : (s.auxCur cur).bit f i k = s.bit f i k := by
  rw [State.bit, State.bit, State.fld, State.fld, State.rd_auxCur h]

theorem State.auxOverload_above (above : s.auxRating < cur) (up : s.flag F.DIO_AUX_STAT_UP = true) (first : s.dio.ovl = false) :
    s.auxOverload cur = (((s.auxCur cur).setDio { s.dio with ovl := true, shedAt := none, retAt := none }).setFlag
      F.DIO_EVT_AUX_OVL).raise .AUX_OVERLOAD := by
  have goes : ¬ (cur ≤ (s.auxCur cur).auxRating ∨ !(s.auxCur cur).flag F.DIO_AUX_STAT_UP ∨ (s.auxCur cur).dio.ovl) := by
    rw [State.auxCur_rating, State.auxCur_up, State.auxCur_dio, up, first]
    simpa using above
  exact (if_neg goes).trans (by rw [State.auxCur_dio])

theorem State.auxOverload_within (within : cur ≤ s.auxRating) : s.auxOverload cur = s.auxCur cur :=
  if_pos (.inl (by rwa [State.auxCur_rating]))

/-- The state in which a shed step is judged: 1 ms after the step before. -/
def State.shedDue (s : State) : State := if s.dio.shedAt.isSome then s.advanceTo (s.dio.shedAt.getD 0 + ms 1) else s

/-- The state in which a return step is judged: 10 ms after the step before. -/
def State.returnDue (s : State) : State := if s.dio.retAt.isSome then s.advanceTo (s.dio.retAt.getD 0 + ms 10) else s

theorem State.shedDue_none (first : s.dio.shedAt = none) : s.shedDue = s := by rw [State.shedDue, first]; rfl
theorem State.shedDue_some {t : Nat} (last : s.dio.shedAt = some t) : s.shedDue = s.advanceTo (t + ms 1) := by
  rw [State.shedDue, last]; rfl
theorem State.returnDue_none (first : s.dio.retAt = none) : s.returnDue = s := by rw [State.returnDue, first]; rfl
theorem State.returnDue_some {t : Nat} (last : s.dio.retAt = some t) : s.returnDue = s.advanceTo (t + ms 10) := by
  rw [State.returnDue, last]; rfl

theorem State.shedDue_bit {f : Fld} {i k : Nat} : s.shedDue.bit f i k = s.bit f i k := by
  unfold State.shedDue
  split <;> rfl

/-- A shed step is judged on the total that it notes. -/
theorem State.auxShed_goes (shedding : s.dio.ovl = true) (hv : v = s.shedDue.auxCur cur) :
    (cur ≤ v.auxRating → s.auxShed cur = v.setDio { v.dio with ovl := false }) ∧
    (v.auxRating < cur → (List.range 16).reverse.find? (fun k => v.bit F.DIO_DO_STAT_ON 0 k) = some m →
      s.auxShed cur = ((v.setBit F.DIO_DO_DIAG_SHED 0 m).setDio { v.dio with shedAt := some v.now }).doRefresh m) := by
  have goes : ¬ (!s.dio.ovl) = true := by rw [shedding]; decide
  subst hv
  rcases last : s.dio.shedAt with _ | t
  case' none => rw [State.shedDue_none last]
  case' some => rw [State.shedDue_some last]
  all_goals
    refine ⟨fun within => (if_neg goes).trans ?_, fun above first => (if_neg goes).trans ?_⟩ <;> simp only [last]
    · exact if_pos within
    · exact (if_neg (Nat.not_le.mpr above)).trans (by simp only [first])

theorem State.returnDue_frame : s.returnDue.regs = s.regs ∧ s.returnDue.dio = s.dio := by
  unfold State.returnDue
  split <;> exact ⟨rfl, rfl⟩

theorem State.returnDue_up (hv : v = s.returnDue.auxCur cur) : v.flag F.DIO_AUX_STAT_UP = s.flag F.DIO_AUX_STAT_UP :=
  hv ▸ State.auxCur_up.trans (State.flag_congr State.returnDue_frame.1 _ _)

theorem State.returnDue_retAt (hv : v = s.returnDue.auxCur cur) : v.dio.retAt = s.dio.retAt := by
  rw [hv, State.auxCur_dio, State.returnDue_frame.2]

theorem State.auxReturn_rests (hv : v = s.returnDue.auxCur cur)
    (rests : v.flag F.DIO_AUX_STAT_UP = false ∨ (cur ≤ v.auxRating ∧ v.dio.retAt = none ∧ v.auxRating * 8 ≤ cur * 10)) :
    s.auxReturn cur = v := by
  subst hv
  rcases last : s.dio.retAt with _ | t
  case' none => rw [State.returnDue_none last] at rests ⊢
  case' some => rw [State.returnDue_some last] at rests ⊢
  all_goals
    simp only [State.auxReturn, last]
    rcases rests with down | ⟨within, first, high⟩
    · exact if_pos (by rw [down]; rfl)
    · split
      · rfl
      · rw [if_neg (Nat.not_lt.mpr within), if_pos ⟨by rw [first]; rfl, high⟩]

theorem State.auxReturn_above (hv : v = s.returnDue.auxCur cur) (up : v.flag F.DIO_AUX_STAT_UP = true) (above : v.auxRating < cur) :
    s.auxReturn cur = v.setDio { v.dio with retAt := none } := by
  have goes : ¬ (!v.flag F.DIO_AUX_STAT_UP) = true := by rw [up]; decide
  subst hv
  rcases last : s.dio.retAt with _ | t
  case' none => rw [State.returnDue_none last] at goes above ⊢
  case' some => rw [State.returnDue_some last] at goes above ⊢
  all_goals
    simp only [State.auxReturn, last]
    exact (if_neg goes).trans (if_pos above)

/-- A shed output that may return (R355, R356). -/
def State.mayReturn (v : State) (m : Nat) : Bool :=
  v.bit F.DIO_DO_DIAG_SHED 0 m && v.bit F.DIO_DO_OUT_ON 0 m && !(v.bit F.DIO_DO_STAT_FAULT 0 m && v.doLatch m)

/-- An output returns (R355). -/
def State.returned (v : State) (m : Nat) : State :=
  ((v.setBit F.DIO_DO_DIAG_SHED 0 m false).setDio { v.dio with retAt := some v.now, ovl := false }).doRefresh m

/-- A step within the rating goes on where one is under way, or where the total is below 80 % of it. -/
theorem State.auxReturn_goes (hv : v = s.returnDue.auxCur cur) (up : v.flag F.DIO_AUX_STAT_UP = true) (within : cur ≤ v.auxRating)
    (goes : v.dio.retAt.isSome = true ∨ cur * 10 < v.auxRating * 8) :
    ((List.range 16).find? v.mayReturn = none →
      s.auxReturn cur = (v.setDio { v.dio with retAt := none, ovl := false }).clearFault .AUX_OVERLOAD) ∧
    ((List.range 16).find? v.mayReturn = some m → s.auxReturn cur =
      if (v.returned m).fld F.DIO_DO_DIAG_SHED = 0 then (v.returned m).clearFault .AUX_OVERLOAD else v.returned m) := by
  have isUp : ¬ (!v.flag F.DIO_AUX_STAT_UP) = true := by rw [up]; decide
  have step : ¬ (v.dio.retAt.isNone = true ∧ v.auxRating * 8 ≤ cur * 10) := by
    rintro ⟨first, high⟩
    rcases goes with under | low
    · rw [Option.isNone_iff_eq_none.mp first] at under
      cases under
    · omega
  have low := Nat.not_lt.mpr within
  subst hv
  rcases last : s.dio.retAt with _ | t
  case' none => rw [State.returnDue_none last] at isUp low step ⊢
  case' some => rw [State.returnDue_some last] at isUp low step ⊢
  all_goals
    simp only [State.auxReturn, last]
    rw [if_neg isUp, if_neg low, if_neg step]
    unfold State.mayReturn
    refine ⟨fun none => ?_, fun first => ?_⟩
    · simp only [none]
    · simp only [first]
      rfl

/-! ## AUX24 goes and comes (R357) -/

theorem State.auxDown_up (up : s.flag F.DIO_AUX_STAT_UP = true) : s.auxDown =
    ((((s.setFlag F.DIO_AUX_STAT_UP 0 false).setFld F.DIO_DO_DIAG_SHED 0 (s.fld F.DIO_DO_OUT_ON)).setDio
      { s.dio with ovl := false, shedAt := none, retAt := none }).setFlag F.DIO_EVT_AUX_DOWN |>.raise .AUX_DOWN).dioRefresh := by
  have dio (v : Nat) : ((s.setFlag F.DIO_AUX_STAT_UP 0 false).setFld F.DIO_DO_DIAG_SHED 0 v).dio = s.dio := by
    rw [State.setFld_dio, State.setFlag_dio]
  refine (if_neg (by rw [up]; decide)).trans ?_
  simp only [dio]

theorem State.auxDown_down (down : s.flag F.DIO_AUX_STAT_UP = false) : s.auxDown = s := if_pos (by rw [down]; rfl)

theorem State.auxUp_up (down : s.flag F.DIO_AUX_STAT_UP = false) (feed : s.feedUp 1 = true ∨ s.feedUp 2 = true)
    (powered : s.powered = true) : s.auxUp =
    ((((s.setFlag F.DIO_AUX_STAT_UP).setFld F.DIO_DO_DIAG_SHED 0 (s.fld F.DIO_DO_OUT_ON)).setDio
      { s.dio with retAt := some s.now }).clearFault .AUX_DOWN).dioRefresh := by
  have goes : ¬ (s.flag F.DIO_AUX_STAT_UP ∨ !(s.feedUp 1 || s.feedUp 2) ∨ !s.powered) := by
    rcases feed with feed | feed <;> simp [down, feed, powered]
  have dio (v : Nat) : ((s.setFlag F.DIO_AUX_STAT_UP).setFld F.DIO_DO_DIAG_SHED 0 v).dio = s.dio := by
    rw [State.setFld_dio, State.setFlag_dio]
  have now (v : Nat) : ((s.setFlag F.DIO_AUX_STAT_UP).setFld F.DIO_DO_DIAG_SHED 0 v).now = s.now := by
    rw [State.setFld_now, State.setFlag_now]
  refine (if_neg goes).trans ?_
  simp only [dio, now]

end

/-- Settles O27: each event is the branch of its operation in which its conditions hold, and the total that it notes changes none of them. -/
theorem auxSupply : Obligations.AuxSupply := by
  unfold Obligations.AuxSupply
  refine ⟨?ssup, ?ssupRetry, ?overload, ?within, ?shedEnds, ?shed, ?rests, ?above, ?allBack, ?back, ?down, ?isDown, ?up⟩
  case ssup => exact fun s awake on => State.runOn_next rfl awake (State.ssupOverload_on on)
  case ssupRetry => exact fun s t awake waits enabled => State.runOn_next rfl awake (State.ssupRetry_due waits enabled)
  case overload => exact fun s cur awake above up first => State.runOn_next rfl awake (State.auxOverload_above above up first)
  case within => exact fun s cur awake within => State.runOn_next rfl awake (State.auxOverload_within within)
  case shedEnds =>
    exact fun s cur v awake shedding hv within => State.runOn_next rfl awake ((State.auxShed_goes (m := 0) shedding hv).1 within)
  case shed =>
    intro s cur m v awake shedding hv above first
    have seen (k : Nat) : v.bit F.DIO_DO_STAT_ON 0 k = s.bit F.DIO_DO_STAT_ON 0 k :=
      hv ▸ (State.auxCur_bit (by decide)).trans State.shedDue_bit
    simp only [← seen] at first
    exact State.runOn_next rfl awake ((State.auxShed_goes shedding hv).2 above first)
  case rests =>
    intro s cur v awake hv rests
    exact State.runOn_next rfl awake (State.auxReturn_rests hv (by rwa [State.returnDue_up hv, State.returnDue_retAt hv]))
  case above =>
    intro s cur v awake hv up above
    exact State.runOn_next rfl awake (State.auxReturn_above hv ((State.returnDue_up hv).trans up) above)
  case allBack =>
    intro s cur v awake hv up within goes none
    exact State.runOn_next rfl awake
      ((State.auxReturn_goes (m := 0) hv ((State.returnDue_up hv).trans up) within (by rwa [State.returnDue_retAt hv])).1 none)
  case back =>
    intro s cur m v w awake hv up within goes first hw
    subst hw
    exact State.runOn_next rfl awake ((State.auxReturn_goes hv ((State.returnDue_up hv).trans up) within (by rwa [State.returnDue_retAt hv])).2 first)
  case down => exact fun s awake up => State.runOn_next rfl awake (State.auxDown_up up)
  case isDown => exact fun s awake down => State.runOn_next rfl awake (State.auxDown_down down)
  case up => exact fun s awake down feed powered => State.runOn_next rfl awake (State.auxUp_up down feed powered)

end Sys2Proof.Machine
end

section
/-! Digital inputs, counters and wake strobes (R343 to R349). -/

namespace Sys2Proof.Machine

/-! ## Inputs (R344) -/

section
variable {s v : State} {k : Nat} {mv : Int} {x : Bool}

theorem State.logicalAt_congr {s u : State} (tide : u.tide = s.tide) (rate : u.rd .TIDE_RATE = s.rd .TIDE_RATE) (c : Nat) :
    u.logicalAt c = s.logicalAt c := by
  unfold State.logicalAt
  rw [tide, rate]

/-- An input shows a new level, and its edge is latched. -/
def State.diShown (s : State) (k : Nat) (x : Bool) : State :=
  if k < 32 then (s.setBit F.DIO_DI_LO_STATE 0 k x).setBit F.DIO_EDGE_LO_EDGE 0 k
  else (s.setBit F.DIO_DI_HI_STATE 0 (k - 32) x).setBit F.DIO_EDGE_HI_EDGE 0 (k - 32)

/-- It changes the two registers of its half alone. -/
theorem State.diShown_eq (s : State) (k : Nat) (x : Bool) : ∃ r, s.diShown k x = { s with regs := r } := by
  unfold State.diShown
  split <;> exact ⟨_, rfl⟩

theorem State.rd_diShown (s : State) (k : Nat) (x : Bool) {r : Reg} {i : Nat}
    (h : r ∉ [Reg.DIO_DI_LO, .DIO_EDGE_LO, .DIO_DI_HI, .DIO_EDGE_HI]) : (s.diShown k x).rd r i = s.rd r i := by
  simp only [List.mem_cons, List.not_mem_nil, or_false, not_or] at h
  obtain ⟨lo, elo, hi, ehi⟩ := h
  unfold State.diShown
  split
  · rw [State.rd_setBit_ne _ _ _ fun e => elo (congrArg Prod.fst e), State.rd_setBit_ne _ _ _ fun e => lo (congrArg Prod.fst e)]
  · rw [State.rd_setBit_ne _ _ _ fun e => ehi (congrArg Prod.fst e), State.rd_setBit_ne _ _ _ fun e => hi (congrArg Prod.fst e)]

theorem State.debounceNs_diShown (j : Nat) : (s.diShown k x).debounceNs j = s.debounceNs j := by
  obtain ⟨r, shown⟩ := s.diShown_eq k x
  have safe (u : SafeUnit) : (s.diShown k x).isSafe u = s.isSafe u := by rw [shown]; rfl
  rw [State.debounceNs, State.debounceNs, safe, State.fld, State.fld, s.rd_diShown k x (by decide)]

/-- A new level is stamped with the first of its samples. -/
theorem State.diEdge_changed (powered : s.powered = true) (hx : x = s.comparator k mv) (changed : s.di k ≠ x)
    (hv : v = s.advanceTo ((lookup (k / 8) s.dio.grpAt).getD 0 + s.debounceNs k)) :
    s.diEdge k mv = (v.diShown k x).setDic k { raw := x, stamp := v.logicalAt ((v.now - v.debounceNs k - v.tide.epoch) / 4) } := by
  obtain ⟨r, shown⟩ := v.diShown_eq k x
  have now : (v.diShown k x).now = v.now := by rw [shown]
  have tide : (v.diShown k x).tide = v.tide := by rw [shown]
  have stamp := State.logicalAt_congr tide (v.rd_diShown k x (by decide))
  rw [← stamp, ← State.debounceNs_diShown (x := x), ← now, ← tide]
  rw [hx] at changed ⊢
  rw [hv]
  exact (if_neg (by rw [powered]; decide)).trans (if_neg changed)

theorem State.diEdge_same (powered : s.powered = true) (same : s.di k = s.comparator k mv) :
    s.diEdge k mv = s.setDic k { s.dic k with raw := s.di k } := by
  rw [same]
  exact (if_neg (by rw [powered]; decide)).trans (if_pos same)

/-- An input of the lower half shows the level that it was given. -/
theorem State.di_diShown (low : k < 32) : (s.diShown k x).di k = x := by
  rw [State.di, if_pos low, State.diShown, if_pos low, State.bit, State.fld, State.rd_setBit_ne _ _ _ (by simp)]
  exact s.bit_setBit_same (f := F.DIO_DI_LO_STATE) (by simp [Fld.fits]) low x

theorem State.diSeen_changed (powered : s.powered = true) (hx : x = s.comparator k mv) (changed : s.di k ≠ x)
    (hv : v = s.advanceTo ((lookup (k / 8) s.dio.grpAt).getD 0 + s.debounceNs k)) {w : State}
    (hw : w = (v.diShown k x).setDic k { raw := x, stamp := v.logicalAt ((v.now - v.debounceNs k - v.tide.epoch) / 4) }) :
    s.diSeen k mv = if s.diArmed k = true then w.sleepAbort 5 else w := by
  rw [State.diSeen, State.diEdge_changed powered hx changed hv, ← hw]
  by_cases armed : s.diArmed k = true
  · have low : k < 32 := by
      rw [State.diArmed, Bool.and_eq_true, decide_eq_true_eq] at armed
      omega
    have shows : w.di k = x := by
      rw [hw]
      exact State.di_diShown low
    rw [if_pos armed, armed, shows, Bool.true_and, if_pos (by simpa using changed.symm)]
  · rw [if_neg armed, if_neg (by simp [armed])]

theorem State.diSeen_same (powered : s.powered = true) (same : s.di k = s.comparator k mv) :
    s.diSeen k mv = s.setDic k { s.dic k with raw := s.di k } := by
  have kept (c : DiCh) : (s.setDic k c).di k = s.di k := rfl
  rw [State.diSeen, State.diEdge_same powered same, kept, if_neg (by simp)]

end

/-! ## Counters (R346, R347) -/

section
variable {s v : State} {k : Nat}

theorem State.put_cntCmd (s : State) (c k : Nat) : s.put c .DIO_CNT_CMD k (BitVec.ofNat 32 1) 0xFFFFFFFF = (s.counterClear k, 0) := by
  have clr : F.DIO_CNT_CMD_CLR.on (Reg.fired .DIO_CNT_CMD (BitVec.ofNat 32 1) 0xFFFFFFFF) = true :=
    (Fld.on_fired _ rfl (by decide)).trans (by decide)
  rw [State.put_dio _ _ _ _ _ (by decide) (by decide), State.wrDio, if_pos clr]

theorem State.counterClear_none (none : (s.cntc k).lastE = none) : s.counterClear k = s.setFld F.DIO_CNT_VAL_COUNT k 0 := by
  rw [State.counterClear, none]

/-- The edge is one of those that the counter counts. -/
def State.countsEdge (s : State) (k : Nat) (rising : Bool) : Bool :=
  let e := s.fld F.DIO_CNT_CFG_EDGE k
  e == 2 || (e == 0 && rising) || (e == 1 && !rising)

theorem State.countsEdge_of {rising : Bool}
    (h : s.fld F.DIO_CNT_CFG_EDGE k = 2 ∨ s.fld F.DIO_CNT_CFG_EDGE k = (if rising then 0 else 1)) : s.countsEdge k rising = true := by
  rcases h with h | h <;> cases rising <;> simp [State.countsEdge, h]

theorem State.not_countsEdge_of {rising : Bool}
    (h : s.fld F.DIO_CNT_CFG_EDGE k = 3 ∨ s.fld F.DIO_CNT_CFG_EDGE k = (if rising then 1 else 0)) : s.countsEdge k rising = false := by
  rcases h with h | h <;> cases rising <;> simp [State.countsEdge, h]

theorem State.counterEdge_counted {rising : Bool} {c : CntCh} (powered : s.powered = true) (mode : s.fld F.DIO_CNT_CFG_MODE k ≠ 0)
    (edge : s.countsEdge k rising = true) (sound : s.isSafe (.dioCnt k) = false)
    (hv : v = (if s.fld F.DIO_CNT_CFG_MODE k % 2 = 1 then s.setFld F.DIO_CNT_VAL_COUNT k (s.fld F.DIO_CNT_VAL_COUNT k + 1) else s))
    (hc : c = { s.cntc k with
      edges := (s.cntc k).edges + 1
      first := if (s.cntc k).edges = 0 then s.now else (s.cntc k).first
      period := if (s.cntc k).lastE.isSome then (s.cntc k).lastE.map (fun t => s.now - t) else (s.cntc k).period
      lastE := some s.now }) : s.counterEdge k rising = (v.setCntc k c).streamPulse k := by
  have goes : ¬ (s.fld F.DIO_CNT_CFG_MODE k = 0 ∨ !s.countsEdge k rising ∨ s.isSafe (.dioCnt k) ∨ !s.powered) := by
    simp [mode, edge, sound, powered]
  have frame : v.cntc k = s.cntc k ∧ v.now = s.now := by
    rw [hv]
    split <;> exact ⟨rfl, rfl⟩
  rw [hc, ← frame.1, ← frame.2]
  subst hv
  refine (if_neg goes).trans ?_
  cases (State.cntc _ k).lastE <;> rfl

theorem State.counterEdge_rests {rising : Bool} (rests : s.fld F.DIO_CNT_CFG_MODE k = 0 ∨ s.countsEdge k rising = false ∨
    s.isSafe (.dioCnt k) = true ∨ s.powered = false) : s.counterEdge k rising = s :=
  if_pos (by
    unfold State.countsEdge at rests
    rcases rests with h | h | h | h <;> simp [h])

/-- What a frequency gate leaves whose counter counts (R347). -/
def State.gateEnd (s : State) (k empty f : Nat) : State :=
  let v := s.advanceTo ((s.cntc k).gateAt + ms 10 * s.fld F.DIO_CNT_CFG_GATE k)
  ((v.setCntc k { s.cntc k with edges := 0, empty := empty, gateAt := v.now }).setFld F.DIO_CNT_FREQ_FREQ k
    (Nat.min f 16777215)).setFlag F.DIO_CNT_FREQ_VALID k

/-- What the gates without an edge come to, this one included. -/
def CntCh.emptied (c : CntCh) : Nat := if c.edges = 0 then c.empty + 1 else 0

/-- The frequency that a gate gives whose counter has seen an edge at `t` (R347). -/
def CntCh.freqAt (c : CntCh) (t : Nat) : Nat :=
  if 2 ≤ c.edges ∧ c.first < t then (c.edges - 1) * 100000000000 / (t - c.first)
  else if 10 ≤ c.emptied then 0
  else match c.period with
    | some p => if p = 0 then 0 else 100000000000 / p
    | none => 0

/-- The frequency that a gate gives, 0 where the counter has never seen an edge. -/
def CntCh.freq (c : CntCh) : Nat :=
  match c.lastE with
  | some t => c.freqAt t
  | none => 0

theorem CntCh.freq_some {c : CntCh} {t : Nat} (last : c.lastE = some t) : c.freq = c.freqAt t := by rw [CntCh.freq, last]

theorem State.freqGate_on (counts : 2 ≤ s.fld F.DIO_CNT_CFG_MODE k) (sound : s.isSafe (.dioCnt k) = false)
    (powered : s.powered = true) : s.freqGate k = s.gateEnd k (s.cntc k).emptied (s.cntc k).freq := by
  have goes : ¬ (s.fld F.DIO_CNT_CFG_MODE k < 2 ∨ s.isSafe (.dioCnt k) ∨ !s.powered) := by
    simp [sound, powered]
    omega
  exact (if_neg goes).trans rfl

theorem State.freqGate_off (off : s.fld F.DIO_CNT_CFG_MODE k < 2 ∨ s.isSafe (.dioCnt k) = true ∨ s.powered = false) :
    s.freqGate k = s := if_pos (by simpa using off)

end

/-! ## Wake strobes (R349) -/

section
variable {s : State} {levels : Nat} {boot : BootIn} {d : List Nat}

/-- The armed inputs whose strobe differs from the level kept for them. -/
def State.strobeDiffers (s : State) (levels : Nat) : List Nat :=
  (List.range 16).filter fun n => s.diArmed n && bitOf levels n != s.bit F.DIO_WAKE_SRC_LEVEL 0 n

theorem State.wakeStrobe_first (asleep : s.awake = false) (hd : d = s.strobeDiffers levels)
    (first : d.filter (fun n => (lookup n s.dio.strobe).isSome) = []) :
    s.wakeStrobe levels boot = s.setDio { s.dio with strobe := d.map fun n => (n, 1) } := by
  subst hd
  unfold State.strobeDiffers at first
  refine (if_neg (by rw [asleep]; decide)).trans ?_
  simp only [first]
  rfl

theorem State.wakeStrobe_second {n : Nat} {more : List Nat} (asleep : s.awake = false) (hd : d = s.strobeDiffers levels)
    (hits : d.filter (fun n => (lookup n s.dio.strobe).isSome) = n :: more) : s.wakeStrobe levels boot =
    ((s.setDio { s.dio with strobe := d.map fun n => (n, 1) }).setFld F.DIO_WAKE_SRC_SRC 0
      (bitsOf 16 fun j => s.bit F.DIO_WAKE_SRC_SRC 0 j || (n :: more).contains j)).wakeUp 5 n (more.map fun n => (5, n)) boot := by
  subst hd
  unfold State.strobeDiffers at hits ⊢
  refine (if_neg (by rw [asleep]; decide)).trans ?_
  simp only [hits]
  rfl

end

/-- Settles O25: each event is the branch of its operation in which its conditions hold. -/
theorem inputs : Obligations.Inputs := by
  unfold Obligations.Inputs
  refine ⟨?changed, ?same, ?counted, ?rests, ?clear, ?clearFirst, ?spans, ?empty, ?period, ?off, ?awake, ?strobe, ?wakes⟩
  case changed =>
    exact fun s k mv x v w awake powered hx changed hv hw => State.runOn_next rfl awake (State.diSeen_changed powered hx changed hv hw)
  case same => exact fun s k mv awake powered same => State.runOn_next rfl awake (State.diSeen_same powered same)
  case counted =>
    exact fun s k rising c v awake powered mode edge sound hv hc =>
      State.runOn_next rfl awake (State.counterEdge_counted powered mode (State.countsEdge_of edge) sound hv hc)
  case rests =>
    intro s k rising awake h
    refine State.runOn_next rfl awake (State.counterEdge_rests ?_)
    rcases h with stopped | off | safe | edge
    · exact .inl stopped
    · exact .inr (.inr (.inr off))
    · exact .inr (.inr (.inl safe))
    · exact .inr (.inl (State.not_countsEdge_of edge))
  case clear => exact fun s a k h => exec_put rfl h rfl rfl rfl fun code => State.put_cntCmd _ code k
  case clearFirst =>
    intro s a k h none
    refine exec_put rfl h rfl rfl rfl fun code => (State.put_cntCmd _ code k).trans ?_
    rw [State.counterClear_none]
    exact (congrArg CntCh.lastE (s.dropHeld_keeps _ _ (State.cntc · k) fun _ _ => rfl)).trans none
  case spans =>
    intro s k t awake powered counts sound last two spans
    have edges : (s.cntc k).edges ≠ 0 := by omega
    have freq : (s.cntc k).freq = ((s.cntc k).edges - 1) * 100000000000 / (t - (s.cntc k).first) :=
      (CntCh.freq_some last).trans (if_pos ⟨two, spans⟩)
    refine State.runOn_next rfl awake ((State.freqGate_on counts sound powered).trans ?_)
    rw [freq, CntCh.emptied, if_neg edges]
    rfl
  case empty =>
    rintro s k _ awake powered counts sound none rfl nine
    have emptied : (s.cntc k).emptied = (s.cntc k).empty + 1 := if_pos none
    have freq : (s.cntc k).freq = 0 := by
      cases last : (s.cntc k).lastE with
      | none => rw [CntCh.freq, last]
      | some t => rw [CntCh.freq_some last, CntCh.freqAt, if_neg (by omega), emptied, if_pos (by omega)]
    refine State.runOn_next rfl awake ((State.freqGate_on counts sound powered).trans ?_)
    rw [freq, emptied]
    rfl
  case period =>
    rintro s k _ e p awake powered counts sound few last hp pos rfl rfl low
    obtain ⟨t, last⟩ := Option.isSome_iff_exists.mp last
    have freq : (s.cntc k).freq = 100000000000 / p := by
      rw [CntCh.freq_some last, CntCh.freqAt, if_neg (by omega), CntCh.emptied, if_neg (by omega), hp]
      exact if_neg pos.ne'
    refine State.runOn_next rfl awake ((State.freqGate_on counts sound powered).trans ?_)
    rw [freq]
    rfl
  case off => exact fun s k awake off => State.runOn_next rfl awake (State.freqGate_off off)
  case awake => exact fun s l boot awake => State.run_next rfl (if_pos awake)
  case strobe => exact fun s l d boot asleep hd first => State.run_next rfl (State.wakeStrobe_first asleep hd first)
  case wakes => exact fun s l d m k boot asleep hd hits => State.run_next rfl (State.wakeStrobe_second asleep hd hits)

end Sys2Proof.Machine
end

section
/-! The LED sinks (R323 to R339): writes of duty and code, period starts, fades, windows, latches and foldback. -/

namespace Sys2Proof.Machine

/-! ## Writes to the LEDS block -/

/-- What a master holds back of a 64-bit pair (R55) is not seen by what reads no other part of the bus. -/
theorem State.dropHeld_blind {α : Type} (s : State) (c a : Nat) (g : State → α)
    (blind : ∀ u x, g { u with bus := { u.bus with shadow := x } } = g u) : g (s.dropHeld c a) = g s := by
  obtain ⟨x, hx⟩ := s.dropHeld_eq c a
  rw [hx]
  exact blind s x

/-- A write to a register of the LEDS block is judged by `State.wrLeds`. -/
theorem State.put_leds (s : State) (c : Nat) {r : Reg} (i : Nat) (w m : Word) (inLeds : regsLEDS.contains r = true)
    (elsewhere : (regsCUST ++ regsSW ++ regsPROT ++ regsCAL ++ regsINJ ++ regsEVE).contains r = false) :
    s.put c r i w m = s.wrLeds r i (s.merge r i w m) (r.fired w m) m := by
  simp only [List.contains_append, Bool.or_eq_false_iff] at elsewhere
  simp only [State.put, inLeds, elsewhere, Bool.false_eq_true, if_false, if_true]

theorem State.put_ledOut (s : State) (c k v : Nat) : s.put c .LEDS_CH_OUT k (BitVec.ofNat 32 v) 0xFFFFFFFF =
    refusedAs abState (s.ledOutWrite k (v % 2 ^ 14) (v / 2 ^ 16 % 2 ^ 8) false) := by
  have duty := Fld.of_merge s (f := F.LEDS_CH_OUT_DUTY) (r := .LEDS_CH_OUT) k (BitVec.ofNat 32 v) (by decide) (by decide)
  have code := Fld.of_merge s (f := F.LEDS_CH_OUT_CODE) (r := .LEDS_CH_OUT) k (BitVec.ofNat 32 v) (by decide) (by decide)
  have dutyOf : F.LEDS_CH_OUT_DUTY.of (BitVec.ofNat 32 v) = v % 2 ^ 14 := by simp only [Fld.of, BitVec.toNat_ofNat]; omega
  have codeOf : F.LEDS_CH_OUT_CODE.of (BitVec.ofNat 32 v) = v / 2 ^ 16 % 2 ^ 8 := by simp only [Fld.of, BitVec.toNat_ofNat]; omega
  have whole : (F.LEDS_CH_OUT_DUTY.of 0xFFFFFFFF == 0) = false := by decide
  rw [State.put_leds _ _ _ _ _ (by decide) (by decide), State.wrLeds, duty, code, dutyOf, codeOf, whole]

section
variable {s : State} {k duty code : Nat}

theorem State.ledOutWrite_accepted (accepted : s.ledRefused duty code = false) : s.ledOutWrite k duty code false =
    (((s.wr .LEDS_CH_OUT k (BitVec.ofNat 32 (duty + code * 65536))).fadeEnd k).ledAccept k, false) :=
  if_neg (by rw [accepted]; decide)

theorem State.ledOutWrite_refused (refused : s.ledRefused duty code = true) : s.ledOutWrite k duty code false = (s.ledRefuse k, true) :=
  if_pos refused

theorem State.fadeEnd_parked (parked : s.extracting = false) :
    s.fadeEnd k = (s.setLedc k { s.ledc k with fade := none }).setFlag F.LEDS_CH_STAT_FADING k false :=
  if_neg (by rw [parked]; decide)

theorem State.fadeEnd_extracting (extracting : s.extracting = true) : s.fadeEnd k = s := if_pos extracting

theorem State.extracting_congr {s u : State} (h : u.rd .BERTH_STAT = s.rd .BERTH_STAT) : u.extracting = s.extracting := by
  rw [State.extracting, State.extracting, State.fld, State.fld, h]

theorem State.extracting_wr {r : Reg} (i : Nat) (n : Word) (h : r ≠ .BERTH_STAT) : (s.wr r i n).extracting = s.extracting :=
  State.extracting_congr (s.rd_wr_ne n fun e => h (congrArg Prod.fst e).symm)

end

/-! ## Fades (R329, R330) -/

section
variable {s v : State} {k : Nat}

/-- The word that a fade's start writes. -/
def fadeWord (target : Fin 16384) (time : Fin 4096) : Nat := target + time * 2 ^ 16 + 2 ^ 31

theorem State.put_fade (s : State) (c k : Nat) (target : Fin 16384) (time : Fin 4096) :
    s.put c .LEDS_CH_FADE k (BitVec.ofNat 32 (fadeWord target time)) 0xFFFFFFFF = refusedAs abState
      ((s.wr .LEDS_CH_FADE k (s.merge .LEDS_CH_FADE k (BitVec.ofNat 32 (fadeWord target time)) 0xFFFFFFFF)).fadeStart k target time) := by
  have goes : F.LEDS_CH_FADE_GO.on (Reg.fired .LEDS_CH_FADE (BitVec.ofNat 32 (fadeWord target time)) 0xFFFFFFFF) = true := by
    refine (Fld.on_fired _ rfl (by decide)).trans ?_
    have low : target.val + time.val * 2 ^ 16 < 2 ^ 31 := by omega
    rw [BitVec.getLsbD_ofNat, fadeWord, Nat.add_comm, Nat.testBit_two_pow_add_eq, Nat.testBit_lt_two_pow low]
    rfl
  have targetOf := Fld.of_merge s (f := F.LEDS_CH_FADE_TARGET) (r := .LEDS_CH_FADE) k (BitVec.ofNat 32 (fadeWord target time))
    (by decide) (by decide)
  have timeOf := Fld.of_merge s (f := F.LEDS_CH_FADE_TIME) (r := .LEDS_CH_FADE) k (BitVec.ofNat 32 (fadeWord target time))
    (by decide) (by decide)
  have target' : F.LEDS_CH_FADE_TARGET.of (BitVec.ofNat 32 (fadeWord target time)) = target := by
    simp only [Fld.of, BitVec.toNat_ofNat, fadeWord]; omega
  have time' : F.LEDS_CH_FADE_TIME.of (BitVec.ofNat 32 (fadeWord target time)) = time := by
    simp only [Fld.of, BitVec.toNat_ofNat, fadeWord]; omega
  rw [State.put_leds _ _ _ _ _ (by decide) (by decide), State.wrLeds]
  exact (if_pos goes).trans (by rw [targetOf, timeOf, target', time'])

/-- What a fade's start looks at beside the extraction. -/
def State.fadeTaken (s : State) (k target : Nat) : Bool :=
  !(s.ledRefused target (s.fld F.LEDS_CH_OUT_CODE k) || s.clk.aDown.isSome || s.clk.bDown.isSome)

theorem State.fadeTaken_of {target : Nat} (accepted : s.ledRefused target (s.fld F.LEDS_CH_OUT_CODE k) = false) (a : s.clk.aDown = none)
    (b : s.clk.bDown = none) : s.fadeTaken k target = true := by rw [State.fadeTaken, accepted, a, b]; rfl

theorem State.fadeTaken_wr (n : Word) (target : Nat) : (s.wr .LEDS_CH_FADE k n).fadeTaken k target = s.fadeTaken k target := by
  have code : (s.wr .LEDS_CH_FADE k n).fld F.LEDS_CH_OUT_CODE k = s.fld F.LEDS_CH_OUT_CODE k :=
    congrArg _ (s.rd_wr_ne n (by simp))
  have live : (s.wr .LEDS_CH_FADE k n).live = s.live := by
    rw [State.live, State.live, State.mode', State.mode', State.fld, State.fld, s.rd_wr_ne n (by simp)]
  have refused (d c : Nat) : (s.wr .LEDS_CH_FADE k n).ledRefused d c = s.ledRefused d c := by
    rw [State.ledRefused, State.ledRefused, live]
    rfl
  rw [State.fadeTaken, State.fadeTaken, code, refused]
  rfl

section
variable {target time : Nat}

/-- An accepted command changes the status of its sink alone. -/
theorem State.rd_ledAccept {r : Reg} {i : Nat} (h : r ≠ .LEDS_CH_STAT) : (s.ledAccept k).rd r i = s.rd r i :=
  s.rd_setFlag_ne _ fun e => h (congrArg Prod.fst e)

theorem State.extracting_ledAccept : (s.ledAccept k).extracting = s.extracting := State.extracting_congr (State.rd_ledAccept (by decide))

theorem State.fadeStart_extracting (taken : s.fadeTaken k target = true) (extracting : s.extracting = true) :
    s.fadeStart k target time = (s.ledAccept k, false) := by
  have goes := Bool.not_eq_true' _ ▸ taken
  exact (if_neg (by rw [goes]; decide)).trans (if_pos (State.extracting_ledAccept.trans extracting))

theorem State.fadeStart_write (taken : s.fadeTaken k target = true) (parked : s.extracting = false) :
    s.fadeStart k target 0 = ((((s.ledAccept k).setFld F.LEDS_CH_OUT_DUTY k target).setLedc k
      { s.ledc k with fade := none }).setFlag F.LEDS_CH_STAT_FADING k false, false) := by
  have goes := Bool.not_eq_true' _ ▸ taken
  have stays : ¬ (s.ledAccept k).extracting = true := by rw [State.extracting_ledAccept, parked]; decide
  exact (if_neg (by rw [goes]; decide)).trans ((if_neg stays).trans (if_pos rfl))

theorem State.fadeStart_runs (taken : s.fadeTaken k target = true) (parked : s.extracting = false) (long : time ≠ 0) :
    s.fadeStart k target time = (((s.ledAccept k).setLedc k
      { s.ledc k with
        duty := s.fld F.LEDS_CH_EDUTY_EDUTY k
        fade := some { d0 := s.fld F.LEDS_CH_EDUTY_EDUTY k, target := target, len := 4 * time, at0 := s.now } }).setFlag
      F.LEDS_CH_STAT_FADING k, false) := by
  have goes := Bool.not_eq_true' _ ▸ taken
  have stays : ¬ (s.ledAccept k).extracting = true := by rw [State.extracting_ledAccept, parked]; decide
  have duty : (s.ledAccept k).fld F.LEDS_CH_EDUTY_EDUTY k = s.fld F.LEDS_CH_EDUTY_EDUTY k := congrArg _ (State.rd_ledAccept (by decide))
  rw [← duty]
  exact (if_neg (by rw [goes]; decide)).trans ((if_neg stays).trans (if_neg long))

end

/-! ## Steps of a fade -/

/-- Of what a step leaves, the duty in force changes registers and the sum of R338 alone. -/
theorem State.ledDuty_frame (n d : Nat) : (s.ledDuty n d).led = s.led ∧ (s.ledDuty n d).now = s.now := by
  unfold State.ledDuty
  extract_lets u div v
  exact ⟨by rw [State.setFlag_led, State.setFlag_led, State.setFld_led]; rfl,
    by rw [State.setFlag_now, State.setFlag_now, State.setFld_now]; rfl⟩

theorem State.ledc_congr {s u : State} (h : u.led = s.led) (n : Nat) : u.ledc n = s.ledc n := by rw [State.ledc, State.ledc, h]

/-- The last step of a fade, which reaches the target. -/
def State.fadeLast (s : State) (k : Nat) (f : Fade) : State :=
  ((s.advanceTo (f.at0 + ms f.len)).setLedc k { s.ledc k with fade := none, duty := f.target }).setFlag F.LEDS_CH_STAT_FADING k false

theorem State.extracting_fadeLast {f : Fade} : (s.fadeLast k f).extracting = s.extracting :=
  State.extracting_congr (State.rd_setFlag_ne _ _ (by simp))

theorem State.fadeStep_last {f : Fade} (fades : (s.ledc k).fade = some f) (last : f.len ≤ 4 * (f.k + 1))
    (hv : v = if s.extracting then s.fadeLast k f else (s.fadeLast k f).setFld F.LEDS_CH_OUT_DUTY k f.target) :
    s.fadeStep k = v.ledDuty k (v.ledWant k) := by
  have len : Nat.min (4 * (f.k + 1)) f.len = f.len := Nat.min_eq_right last
  subst hv
  rw [← State.extracting_fadeLast (f := f) (k := k)]
  simp only [State.fadeStep, fades, len, if_true]
  rfl

/-- Any other step: the duty is the exact one of its time, or one code beside it (log 3). -/
theorem State.fadeStep_next {f : Fade} (fades : (s.ledc k).fade = some f) (more : 4 * (f.k + 1) < f.len) :
    ∃ (x : Nat) (w : State) (d : Nat), x < 3 ∧ d = Nat.min 16383 (fadeDuty f.d0 f.target (4 * (f.k + 1)) f.len + x - 1) ∧
      w.now = Nat.max s.now (f.at0 + ms (4 * (f.k + 1))) ∧
      s.fadeStep k = (w.setLedc k { s.ledc k with fade := some { f with k := f.k + 1 }, duty := d }).ledDuty k
        ((w.setLedc k { s.ledc k with fade := some { f with k := f.k + 1 }, duty := d }).ledWant k) := by
  have len : Nat.min (4 * (f.k + 1)) f.len = 4 * (f.k + 1) := Nat.min_eq_left more.le
  refine ⟨_, ((s.advanceTo (f.at0 + ms (4 * (f.k + 1)))).draw 2).2, _,
    Nat.mod_lt ((s.advanceTo (f.at0 + ms (4 * (f.k + 1)))).draw 2).1 (by decide), rfl, rfl, ?_⟩
  simp only [State.fadeStep, fades, len, if_neg more.ne']
  rfl

end

/-- Settles O23: a write reaches the rule of its register, and each event is the branch of its operation in which its conditions hold. -/
theorem ledSinks : Obligations.LedSinks := by
  unfold Obligations.LedSinks
  have stays {s : State} {c x k : Nat} {n : Word} : ((s.dropHeld c x).wr .LEDS_CH_FADE k n).extracting = s.extracting :=
    (State.extracting_wr _ _ (by decide)).trans (s.dropHeld_blind _ _ State.extracting fun _ _ => rfl)
  have taken {s : State} {c x k target : Nat} {n : Word} (accepted : s.ledRefused target (s.fld F.LEDS_CH_OUT_CODE k) = false)
      (a : s.clk.aDown = none) (b : s.clk.bDown = none) : ((s.dropHeld c x).wr .LEDS_CH_FADE k n).fadeTaken k target = true :=
    (State.fadeTaken_wr _ _).trans ((s.dropHeld_blind _ _ (State.fadeTaken · _ _) fun _ _ => rfl).trans (State.fadeTaken_of accepted a b))
  refine ⟨?write, ?writeExtracting, ?writeRefused, ?period, ?fade, ?fadeWrite, ?fadeExtracting, ?last, ?lastExtracting, ?next⟩
  case write =>
    intro s a k duty v h parked accepted
    refine exec_put rfl h rfl rfl rfl fun code => (State.put_ledOut _ code k v).trans ?_
    rw [State.ledOutWrite_accepted ((s.dropHeld_blind _ _ (State.ledRefused · _ _) fun _ _ => rfl).trans accepted), State.fadeEnd_parked]
    · rfl
    · rw [State.extracting_wr _ _ (by decide)]
      exact (s.dropHeld_blind _ _ State.extracting fun _ _ => rfl).trans parked
  case writeExtracting =>
    intro s a k duty v h extracting accepted
    refine exec_put rfl h rfl rfl rfl fun code => (State.put_ledOut _ code k v).trans ?_
    rw [State.ledOutWrite_accepted ((s.dropHeld_blind _ _ (State.ledRefused · _ _) fun _ _ => rfl).trans accepted), State.fadeEnd_extracting]
    · rfl
    · rw [State.extracting_wr _ _ (by decide)]
      exact (s.dropHeld_blind _ _ State.extracting fun _ _ => rfl).trans extracting
  case writeRefused =>
    intro s a k duty v h refused
    refine exec_put rfl h rfl rfl rfl fun code => (State.put_ledOut _ code k v).trans ?_
    rw [State.ledOutWrite_refused ((s.dropHeld_blind _ _ (State.ledRefused · _ _) fun _ _ => rfl).trans refused)]
    rfl
  case period =>
    rintro s _ _ k t awake rfl rfl rfl
    exact State.runOn_next rfl awake rfl
  case fade =>
    intro s a k target time h accepted pairA pairB parked long
    refine ⟨s.merge .LEDS_CH_FADE k (BitVec.ofNat 32 (fadeWord target time)) 0xFFFFFFFF,
      exec_put rfl h rfl rfl rfl fun code => (State.put_fade _ code k target time).trans ?_⟩
    have duty (u : State) (n : Word) : (u.wr .LEDS_CH_FADE k n).fld F.LEDS_CH_EDUTY_EDUTY k = u.fld F.LEDS_CH_EDUTY_EDUTY k :=
      congrArg _ (u.rd_wr_ne n (by simp))
    rw [State.merge_dropHeld, State.fadeStart_runs (taken accepted pairA pairB) (stays.trans parked) long, duty]
    rfl
  case fadeWrite =>
    intro s a k target h accepted pairA pairB parked
    refine ⟨s.merge .LEDS_CH_FADE k (BitVec.ofNat 32 (fadeWord target 0)) 0xFFFFFFFF,
      exec_put rfl h rfl rfl rfl fun code => (State.put_fade _ code k target 0).trans ?_⟩
    rw [State.merge_dropHeld]
    exact (congrArg _ (State.fadeStart_write (taken accepted pairA pairB) (stays.trans parked))).trans rfl
  case fadeExtracting =>
    intro s a k target time h accepted pairA pairB extracting
    refine ⟨s.merge .LEDS_CH_FADE k (BitVec.ofNat 32 (fadeWord target time)) 0xFFFFFFFF,
      exec_put rfl h rfl rfl rfl fun code => (State.put_fade _ code k target time).trans ?_⟩
    rw [State.merge_dropHeld, State.fadeStart_extracting (taken accepted pairA pairB) (stays.trans extracting)]
    rfl
  case last =>
    rintro s v k f awake fades last parked rfl
    exact State.runOn_next rfl awake (State.fadeStep_last fades last (by rw [parked]; rfl))
  case lastExtracting =>
    rintro s v k f awake fades last extracting rfl
    exact State.runOn_next rfl awake (State.fadeStep_last fades last (by rw [extracting]; rfl))
  case next =>
    rintro s k f e awake fades more rfl
    obtain ⟨x, w, d, small, duty, now, stepped⟩ := State.fadeStep_next fades more
    have led (u : State) (n b : Nat) : (u.ledDuty n b).ledc k = u.ledc k := State.ledc_congr (u.ledDuty_frame n b).1 k
    have three : x = 0 ∨ x = 1 ∨ x = 2 := by omega
    refine State.runOn_completes rfl awake ⟨d, ?_, ?_, ?_, ?_, ?_, ?_⟩
    · exact duty ▸ Nat.min_le_left _ _
    · exact duty ▸ (Nat.min_le_right _ _).trans (by omega)
    · rcases Nat.le_total 16383 (fadeDuty f.d0 f.target (4 * (f.k + 1)) f.len + x - 1) with top | below
      · exact .inr (duty.trans (Nat.min_eq_left top))
      · exact .inl ((duty.trans (Nat.min_eq_right below)) ▸ by omega)
    · rw [stepped, led, State.ledc_setLedc]
    · rw [stepped, led, State.ledc_setLedc]
    · rw [stepped, (State.ledDuty_frame _ _).2, State.setLedc_now, now]

end Sys2Proof.Machine
end

section
/-! What a field holds after the operations on the fields beside it. -/

namespace Sys2Proof.Machine

/-- Field `g` keeps its value when field `f` is set: they lie in different registers, or apart in one. -/
def Fld.off (f g : Fld) : Bool :=
  f.reg != g.reg || (decide (f.lsb + f.w ≤ 32) && (decide (f.lsb + f.w ≤ g.lsb) || decide (g.lsb + g.w ≤ f.lsb)))

theorem Fld.of_lt (f : Fld) (w : Word) : f.of w < 2 ^ f.w := Nat.mod_lt _ (by positivity)

theorem State.fld_lt (s : State) (f : Fld) (i : Nat) : s.fld f i < 2 ^ f.w := f.of_lt _

section
variable (s : State) {f g : Fld} {i j : Nat}

theorem State.fld_setFld_off (h : f.off g = true) (v : Nat) : (s.setFld f i v).fld g j = s.fld g j := by
  by_cases same : (g.reg, j) = (f.reg, i)
  · obtain ⟨hr, rfl⟩ := Prod.mk.inj same
    simp only [Fld.off, hr, bne_self_eq_false, Bool.false_or, Bool.and_eq_true, Bool.or_eq_true, decide_eq_true_eq] at h
    exact s.fld_setFld_apart hr.symm h.1 h.2 j v
  · exact s.fld_setFld_ne same

theorem State.flag_setFld_off (h : f.off g = true) (v : Nat) : (s.setFld f i v).flag g j = s.flag g j :=
  by rw [State.flag, State.flag, s.fld_setFld_off h v]

theorem State.fld_setFlag_off (h : f.off g = true) (b : Bool) : (s.setFlag f i b).fld g j = s.fld g j := s.fld_setFld_off h _

theorem State.flag_setFlag_off (h : f.off g = true) (b : Bool) : (s.setFlag f i b).flag g j = s.flag g j := s.flag_setFld_off h _

theorem State.fld_setBit_off (h : f.off g = true) (k : Nat) (b : Bool) : (s.setBit f i k b).fld g j = s.fld g j := s.fld_setFld_off h _

theorem State.flag_setBit_off (h : f.off g = true) (k : Nat) (b : Bool) : (s.setBit f i k b).flag g j = s.flag g j :=
  s.flag_setFld_off h _

theorem State.fld_wr_off {r : Reg} (h : g.reg ≠ r) (n : Word) : (s.wr r i n).fld g j = s.fld g j :=
  congrArg g.of (s.rd_wr_ne n fun e => h (congrArg Prod.fst e))

theorem State.flag_wr_off {r : Reg} (h : g.reg ≠ r) (n : Word) : (s.wr r i n).flag g j = s.flag g j := by
  rw [State.flag, State.flag, s.fld_wr_off h n]

theorem State.flag_setFlag_self (h : (f.w == 1 && decide (f.lsb + f.w ≤ 32)) = true) (b : Bool) : (s.setFlag f i b).flag f i = b := by
  simp only [Bool.and_eq_true, beq_iff_eq, decide_eq_true_eq] at h
  exact s.flag_setFlag_same h.2 h.1 i b

theorem State.fld_setFld_self (h : f.lsb + f.w ≤ 32) {v : Nat} (small : v < 2 ^ f.w) : (s.setFld f i v).fld f i = v :=
  (s.fld_setFld_same h i v).trans (Nat.mod_eq_of_lt small)

/-- A flag whose register holds what it held keeps its value. -/
theorem State.flag_of_rd {s u : State} {f : Fld} {i : Nat} (h : u.rd f.reg i = s.rd f.reg i) : u.flag f i = s.flag f i := by
  rw [State.flag, State.flag, State.fld, State.fld, h]

end

end Sys2Proof.Machine
end

section
/-! The LED sinks (R331 to R339): windows and their judgement, release, foldback and re-enable. -/

namespace Sys2Proof.Machine

/-! ## Windows -/

section
variable {s : State} {n mv ma e : Nat} {rest : List Nat} {sup : Option Nat}

/-- The module at the end of an on-phase, the window taken from its sink. -/
def State.atWindow (s : State) (n e : Nat) (rest : List Nat) (sup : Option Nat) : State :=
  let v := (s.advanceTo (s.gTime e)).ledTick
  v.setLedc n { s.ledc n with ends := rest, lsupAt := sup.map fun d => v.now - d }

/-- What a window shows of its sink. -/
def State.windowShown (s : State) (n mv ma : Nat) : State :=
  (((s.setFld F.LEDS_CH_STAT_VSINK n (Nat.min 1023 (mv / 100))).setFld F.LEDS_CH_STAT_IMEAS n (Nat.min 255 ma)).setFlag
    F.LEDS_CH_STAT_LOWHR n (decide (mv < 600 ∧ ma * 100 < 95 * s.fld F.LEDS_CH_EDUTY_ISET n))).setFlag
    F.LEDS_CH_STAT_SUSP n (s.ledSusp n)

/-- The counts of windows in a row (R334 to R336). -/
def LedCh.counted (c : LedCh) (susp below above : Bool) : LedCh :=
  { c with low := if susp then 0 else if below then c.low + 1 else 0
           good := if below then 0 else c.good + 1
           high := if above then c.high + 1 else 0 }

/-- The judgement of a sink as open (R334, R335). -/
def State.openJudged (s : State) (n : Nat) (c : LedCh) : State :=
  if c.low = 4 ∧ !s.flag F.LEDS_CH_STAT_OPEN n then
    ((s.setFlag F.LEDS_CH_STAT_OPEN n).setFlag F.LEDS_CH_EVT_OPEN n).raise .LED_OPEN n [] (sec 1)
  else if 4 ≤ c.good ∧ s.flag F.LEDS_CH_STAT_OPEN n then (s.setFlag F.LEDS_CH_STAT_OPEN n false).clearFault .LED_OPEN n
  else s

/-- The judgement of a sink as short (R336). -/
def State.shortJudged (s : State) (n : Nat) (c : LedCh) : State :=
  if 4 ≤ c.high ∧ !s.flag F.LEDS_CH_STAT_SHORT n then
    (((s.setFlag F.LEDS_CH_STAT_SHORT n).setFlag F.LEDS_CH_EVT_SHORT n).raise .LED_SHORT n).ledRefresh n
  else s

theorem State.rd_windowShown {r : Reg} {i : Nat} (h : r ≠ .LEDS_CH_STAT) : (s.windowShown n mv ma).rd r i = s.rd r i := by
  have other : (r, i) ≠ (Reg.LEDS_CH_STAT, n) := fun x => h (congrArg Prod.fst x)
  rw [State.windowShown, State.rd_setFlag_ne _ _ other, State.rd_setFlag_ne _ _ other]
  exact (State.rd_wr_ne _ _ other).trans (State.rd_wr_ne _ _ other)

theorem State.flag_windowShown {f : Fld} {i : Nat} (h : f.reg ≠ .LEDS_CH_STAT) : (s.windowShown n mv ma).flag f i = s.flag f i := by
  rw [State.flag, State.flag, State.fld, State.fld, State.rd_windowShown h]

theorem State.flag_windowShown_judged {f : Fld} (h : f = F.LEDS_CH_STAT_OPEN ∨ f = F.LEDS_CH_STAT_SHORT) :
    (s.windowShown n mv ma).flag f n = s.flag f n := by
  rcases h with rfl | rfl <;>
  rw [State.windowShown, State.flag_setFlag_off _ (by decide), State.flag_setFlag_off _ (by decide),
    State.flag_setFld_off _ (by decide), State.flag_setFld_off _ (by decide)]

theorem State.fld_setLedc {f : Fld} {i m : Nat} (c : LedCh) : (s.setLedc m c).fld f i = s.fld f i := rfl

theorem State.flag_setLedc {f : Fld} {i m : Nat} (c : LedCh) : (s.setLedc m c).flag f i = s.flag f i := rfl

theorem State.windowShown_led : (s.windowShown n mv ma).led = s.led := by
  rw [State.windowShown, State.setFlag_led, State.setFlag_led, State.setFld_led, State.setFld_led]

theorem State.windowShown_voltage : (s.windowShown n mv ma).fld F.LEDS_CH_STAT_VSINK n = Nat.min 1023 (mv / 100) := by
  rw [State.windowShown, State.fld_setFlag_off _ (by decide), State.fld_setFlag_off _ (by decide), State.fld_setFld_off _ (by decide),
    State.fld_setFld_same _ (by simp [Fld.fits])]
  exact Nat.mod_eq_of_lt (Nat.lt_succ_of_le (Nat.min_le_left _ _))

theorem State.windowShown_eq : ((((s.setFld F.LEDS_CH_STAT_VSINK n (Nat.min 1023 (mv / 100))).setFld F.LEDS_CH_STAT_IMEAS n
    (Nat.min 255 ma)).setFlag F.LEDS_CH_STAT_LOWHR n (decide (mv < 600) && decide (ma * 100 < 95 *
    ((s.setFld F.LEDS_CH_STAT_VSINK n (Nat.min 1023 (mv / 100))).setFld F.LEDS_CH_STAT_IMEAS n (Nat.min 255 ma)).fld
      F.LEDS_CH_EDUTY_ISET n))).setFlag F.LEDS_CH_STAT_SUSP n (s.ledSusp n)) = s.windowShown n mv ma := by
  rw [State.windowShown, State.fld_setFld_ne _ (by simp), State.fld_setFld_ne _ (by simp), ← Bool.decide_and]

/-- A window without diagnosis (R331). -/
theorem State.ledWindow_shown (ends : (s.ledc n).ends = e :: rest) (diag : s.flag F.LEDS_CH_CFG_DIAG_EN n = false) :
    s.ledWindow n mv ma sup = ((s.atWindow n e rest sup).windowShown n mv ma).setLedc n
      { (s.atWindow n e rest sup).ledc n with low := 0, good := 0, high := 0 } := by
  have off : (!((s.atWindow n e rest sup).windowShown n mv ma).flag F.LEDS_CH_CFG_DIAG_EN n) = true := by
    rw [State.flag_windowShown (by decide)]
    exact Bool.not_eq_true' _ ▸ diag
  simp only [State.ledWindow, ends]
  rw [State.windowShown_eq]
  refine (if_pos off).trans ?_
  rw [State.atWindow, State.ledc_setLedc]
  rfl

/-- A window with diagnosis (R334 to R336). -/
theorem State.ledWindow_judged {c : LedCh} (ends : (s.ledc n).ends = e :: rest) (diag : s.flag F.LEDS_CH_CFG_DIAG_EN n = true)
    (counted : c = ((s.atWindow n e rest sup).ledc n).counted ((s.atWindow n e rest sup).ledSusp n) (decide (mv < 250))
      (decide (100 * s.fld F.LEDS_CH_CFG_VSHORT n < mv))) :
    s.ledWindow n mv ma sup =
      (((((s.atWindow n e rest sup).windowShown n mv ma).setLedc n c).openJudged n c).shortJudged n c) := by
  have on : ¬ (!((s.atWindow n e rest sup).windowShown n mv ma).flag F.LEDS_CH_CFG_DIAG_EN n) = true := by
    rw [State.flag_windowShown (by decide), Bool.not_eq_true']
    exact fun off => Bool.false_ne_true (off.symm.trans diag)
  have limit : ((s.atWindow n e rest sup).windowShown n mv ma).fld F.LEDS_CH_CFG_VSHORT n = s.fld F.LEDS_CH_CFG_VSHORT n :=
    congrArg _ (State.rd_windowShown (by decide))
  rw [← limit] at counted
  subst counted
  simp only [State.ledWindow, ends]
  rw [State.windowShown_eq]
  refine (if_neg on).trans ?_
  rw [State.atWindow, State.ledc_setLedc]
  rfl

theorem State.atWindow_sink : (s.atWindow n e rest sup).ledc n =
    { s.ledc n with ends := rest, lsupAt := sup.map fun d => (s.advanceTo (s.gTime e)).now - d } := by
  rw [State.atWindow, State.ledc_setLedc]
  rfl

theorem State.openJudged_opens {c : LedCh} (fourth : c.low = 4) (closed : s.flag F.LEDS_CH_STAT_OPEN n = false) :
    s.openJudged n c = ((s.setFlag F.LEDS_CH_STAT_OPEN n).setFlag F.LEDS_CH_EVT_OPEN n).raise .LED_OPEN n [] (sec 1) :=
  if_pos ⟨fourth, by rw [closed]; rfl⟩

theorem State.openJudged_led {c : LedCh} : (s.openJudged n c).led = s.led := by
  unfold State.openJudged
  split
  · rw [State.raise_led, State.setFlag_led, State.setFlag_led]
  split
  · rw [State.clearFault_led, State.setFlag_led]
  · rfl

theorem State.flag_openJudged_short {c : LedCh} : (s.openJudged n c).flag F.LEDS_CH_STAT_SHORT n = s.flag F.LEDS_CH_STAT_SHORT n := by
  unfold State.openJudged
  split
  · rw [State.flag_raise, State.flag_setFlag_off _ (by decide), State.flag_setFlag_off _ (by decide)]
  split
  · rw [State.flag_clearFault, State.flag_setFlag_off _ (by decide)]
  · rfl

theorem State.shortJudged_sound {c : LedCh} (low : c.high < 4) : s.shortJudged n c = s := if_neg fun h => by omega

theorem State.shortJudged_shorts {c : LedCh} (fourth : c.high = 4) (sound : s.flag F.LEDS_CH_STAT_SHORT n = false) :
    s.shortJudged n c = (((s.setFlag F.LEDS_CH_STAT_SHORT n).setFlag F.LEDS_CH_EVT_SHORT n).raise .LED_SHORT n).ledRefresh n :=
  if_pos ⟨fourth.ge, by rw [sound]; rfl⟩

end

/-! ## Release and foldback -/

section
variable {s v : State} {k p cap f : Nat}

theorem State.put_ledCmd (s : State) (c k : Nat) : s.put c .LEDS_CH_CMD k (BitVec.ofNat 32 1) 0xFFFFFFFF = refusedAs abState (s.ledRelease k) := by
  have clr : F.LEDS_CH_CMD_CLR.on (Reg.fired .LEDS_CH_CMD (BitVec.ofNat 32 1) 0xFFFFFFFF) = true :=
    (Fld.on_fired _ rfl (by decide)).trans (by decide)
  rw [State.put_leds _ _ _ _ _ (by decide) (by decide), State.wrLeds, if_pos clr]

theorem State.put_ledsCtrl (s : State) (c : Nat) :
    s.put c .LEDS_GLB_CTRL 0 (BitVec.ofNat 32 1) 0xFFFFFFFF = refusedAs abState (s.reenableUnit .leds) := by
  have goes : F.LEDS_GLB_CTRL_REENABLE.on (Reg.fired .LEDS_GLB_CTRL (BitVec.ofNat 32 1) 0xFFFFFFFF) = true :=
    (Fld.on_fired _ rfl (by decide)).trans (by decide)
  rw [State.put_leds _ _ _ _ _ (by decide) (by decide), State.wrLeds, if_pos goes]

/-- The factor that a comparison of R338 gives. -/
def State.folded (s : State) (p cap : Nat) : Nat :=
  let f := s.fld F.LEDS_GLB_STAT_F
  if cap < p then f * cap / p else if 100 * p < 95 * cap ∧ f < 255 then f + 1 else f

theorem State.rd_foldDue {r : Reg} {i : Nat} : s.foldDue.rd r i = s.rd r i := rfl

theorem State.foldback_eq {f : Nat} {w : State} (hf : f = s.folded s.foldDue.ledSum (s.foldDue.derate 600 450 * 1638300))
    (hw : w = s.foldDue.setFld F.LEDS_GLB_STAT_F 0 f) : s.foldback =
    if f < 255 ∧ !s.flag F.LEDS_GLB_STAT_FOLDBACK then
      ((w.setFlag F.LEDS_GLB_STAT_FOLDBACK).setFlag F.LEDS_GLB_EVT_FOLDBACK).raise .LED_FOLDBACK
    else if f = 255 ∧ s.flag F.LEDS_GLB_STAT_FOLDBACK then (w.setFlag F.LEDS_GLB_STAT_FOLDBACK 0 false).clearFault .LED_FOLDBACK
    else w := by
  have was (x : Nat) : (s.foldDue.setFld F.LEDS_GLB_STAT_F 0 x).flag F.LEDS_GLB_STAT_FOLDBACK = s.flag F.LEDS_GLB_STAT_FOLDBACK :=
    s.foldDue.flag_setFld_off (by decide) x
  subst hw hf
  simp only [State.foldback, was, State.folded, Nat.mul_assoc]
  rfl

theorem State.folded_above (above : cap < p) : s.folded p cap = s.fld F.LEDS_GLB_STAT_F * cap / p := if_pos above

theorem State.folded_below (below : p ≤ cap) : s.folded p cap =
    if 100 * p < 95 * cap ∧ s.fld F.LEDS_GLB_STAT_F < 255 then s.fld F.LEDS_GLB_STAT_F + 1 else s.fld F.LEDS_GLB_STAT_F :=
  if_neg (Nat.not_lt_of_le below)

theorem State.folded_above_lt (above : cap < p) : s.folded p cap < 255 := by
  have factor : s.fld F.LEDS_GLB_STAT_F ≤ 255 := Nat.le_of_lt_succ (s.fld_lt F.LEDS_GLB_STAT_F 0)
  rw [State.folded_above above, Nat.div_lt_iff_lt_mul (by omega)]
  calc s.fld F.LEDS_GLB_STAT_F * cap ≤ 255 * cap := Nat.mul_le_mul_right _ factor
    _ < 255 * p := by omega

theorem State.folded_below_le (below : p ≤ cap) : s.folded p cap ≤ 255 := by
  have factor : s.fld F.LEDS_GLB_STAT_F ≤ 255 := Nat.le_of_lt_succ (s.fld_lt F.LEDS_GLB_STAT_F 0)
  rw [State.folded_below below]
  split <;> omega

theorem State.ledRelease_off (off : s.fld F.LEDS_CH_OUT_DUTY k = 0) : s.ledRelease k =
    (((((s.ledTick.setLedc k { s.ledc k with high := 0, duty := 0, fade := none }).setFlag F.LEDS_CH_STAT_SHORT k false).setFlag
      F.LEDS_CH_STAT_FADING k false).setFlag F.LEDS_CH_STAT_REFUSED k false).clearFault .LED_SHORT k, false) := if_pos off

theorem State.ledRelease_lit (lit : s.fld F.LEDS_CH_OUT_DUTY k ≠ 0) : s.ledRelease k = (s.ledRefuse k, true) := if_neg lit

end

/-- Settles O24: a window is what it shows, its counts and the two judgements of them; a comparison of R338 is the branch of its factor. -/
theorem ledDiagnosis : Obligations.LedDiagnosis := by
  unfold Obligations.LedDiagnosis
  refine ⟨?none, ?shown, ?opens, ?shorts, ?release, ?releaseRefused, ?foldEnds, ?foldKeeps, ?folds, ?reenable⟩
  case none =>
    intro s k mv ma sup awake none
    exact State.runOn_next rfl awake (by rw [State.ledWindow, none])
  case shown =>
    rintro s _ _ k mv ma sup e rest _ awake ends diag rfl rfl rfl
    refine State.runOn_next rfl awake ((State.ledWindow_shown ends diag).trans ?_)
    rw [State.atWindow_sink]
    rfl
  case opens =>
    rintro s _ _ k mv ma sup e rest awake ends rfl rfl up diag low fine third closed
    have sink := State.atWindow_sink (s := s) (n := k) (e := e) (rest := rest) (sup := sup)
    have susp : (s.atWindow k e rest sup).ledSusp k = false := up
    have stillClosed (c : LedCh) : (((s.atWindow k e rest sup).windowShown k mv ma).setLedc k c).flag F.LEDS_CH_STAT_OPEN k = false :=
      (State.flag_setLedc c).trans ((State.flag_windowShown_judged (.inl rfl)).trans closed)
    rw [Completes]
    refine State.runOn_completes rfl awake ?_
    rw [State.ledWindow_judged ends diag rfl]
    generalize hc : (((s.atWindow k e rest sup).ledc k).counted _ _ _) = c
    have fourth : c.low = 4 := by rw [← hc, susp, decide_eq_true low, sink]; exact congrArg (· + 1) third
    have fair : c.high = 0 := by rw [← hc, decide_eq_false (Nat.not_lt_of_le fine)]; rfl
    rw [State.shortJudged_sound (by omega), State.openJudged_opens fourth (stillClosed c)]
    refine ⟨?_, ?_, ?_, ?_, ?_⟩
    · rw [State.flag_raise, State.flag_setFlag_off _ (by decide), State.flag_setFlag_self _ (by decide)]
    · rw [State.flag_raise, State.flag_setFlag_self _ (by decide)]
    · exact State.active_raise _ _ (by decide) _ _ _
    · rw [State.fld_raise, State.fld_setFlag_off _ (by decide), State.fld_setFlag_off _ (by decide)]
      exact (State.fld_setLedc c).trans (State.windowShown_voltage.trans (Nat.min_eq_right (by omega)))
    · rw [State.ledc_congr (State.raise_led _ _ _ _ _), State.ledc_congr (State.setFlag_led _ _ _ _), State.ledc_congr (State.setFlag_led _ _ _ _),
        State.ledc_setLedc, fourth]
  case shorts =>
    intro s k mv ma sup e rest awake ends diag above third sound
    have sink := State.atWindow_sink (s := s) (n := k) (e := e) (rest := rest) (sup := sup)
    rw [Completes]
    refine State.runOn_completes rfl awake ?_
    rw [State.ledWindow_judged ends diag rfl]
    generalize hc : (((s.atWindow k e rest sup).ledc k).counted _ _ _) = c
    have fourth : c.high = 4 := by rw [← hc, decide_eq_true above, sink]; exact congrArg (· + 1) third
    have stillSound : ((((s.atWindow k e rest sup).windowShown k mv ma).setLedc k c).openJudged k c).flag F.LEDS_CH_STAT_SHORT k = false :=
      State.flag_openJudged_short.trans ((State.flag_setLedc c).trans ((State.flag_windowShown_judged (.inr rfl)).trans sound))
    refine ⟨_, State.shortJudged_shorts fourth stillSound, ?_, ?_, ?_, ?_⟩
    · rw [State.flag_raise, State.flag_setFlag_off _ (by decide), State.flag_setFlag_self _ (by decide)]
    · rw [State.flag_raise, State.flag_setFlag_self _ (by decide)]
    · exact State.active_raise _ _ (by decide) _ _ _
    · rw [State.ledc_congr (State.raise_led _ _ _ _ _), State.ledc_congr (State.setFlag_led _ _ _ _), State.ledc_congr (State.setFlag_led _ _ _ _),
        State.ledc_congr State.openJudged_led, State.ledc_setLedc, fourth]
  case release =>
    intro s a k h off
    refine exec_put rfl h rfl rfl rfl fun code => (State.put_ledCmd _ code k).trans ?_
    rw [State.ledRelease_off ((congrArg _ (s.rd_dropHeld _ _ _ _)).trans off)]
    rfl
  case releaseRefused =>
    intro s a k h lit
    refine exec_put rfl h rfl rfl rfl fun code => (State.put_ledCmd _ code k).trans ?_
    rw [State.ledRelease_lit fun off => lit ((congrArg _ (s.rd_dropHeld _ _ _ _)).symm.trans off)]
    rfl
  case foldEnds =>
    rintro s _ _ _ f awake rfl rfl rfl below hf top was
    have factor := hf.trans (State.folded_below (s := s) below).symm
    refine State.runOn_next rfl awake ((State.foldback_eq factor rfl).trans ?_)
    subst top
    exact (if_neg fun h => absurd h.1 (by decide)).trans (if_pos ⟨rfl, was⟩)
  case foldKeeps =>
    rintro s _ _ _ f awake rfl rfl rfl below hf agrees
    have factor := hf.trans (State.folded_below (s := s) below).symm
    have bound : f ≤ 255 := factor ▸ State.folded_below_le below
    refine State.runOn_next rfl awake ((State.foldback_eq factor rfl).trans ((if_neg fun h => ?_).trans (if_neg fun h => ?_)))
    · have := agrees.2 (by simpa using h.2)
      omega
    · exact Bool.false_ne_true ((agrees.1 h.1).symm.trans h.2)
  case folds =>
    rintro s _ _ _ awake rfl rfl rfl unfolded above
    refine State.runOn_next rfl awake ((State.foldback_eq (State.folded_above above).symm rfl).trans (if_pos ⟨?_, ?_⟩))
    · exact State.folded_above above ▸ State.folded_above_lt above
    · rw [unfolded]
      rfl
  case reenable => exact fun s a h => exec_put rfl h rfl rfl rfl fun code => State.put_ledsCtrl _ code

end Sys2Proof.Machine
end

section
/-! The bollard (R360 to R381): feeds, silence timers, the hold window, reclaim and the reflexes. -/

namespace Sys2Proof.Machine

/-- A write to a register of the BOLL block is judged by `State.wrBoll`. -/
theorem State.put_boll (s : State) (c : Nat) {r : Reg} (i : Nat) (w m : Word) (inBoll : regsBOLL.contains r = true)
    (elsewhere : (regsCUST ++ regsSW ++ regsPROT ++ regsCAL ++ regsINJ ++ regsEVE ++ regsLEDS ++ regsDIO).contains r = false) :
    s.put c r i w m = s.wrBoll r i (s.merge r i w m) (r.fired w m) := by
  simp only [List.contains_append, Bool.or_eq_false_iff] at elsewhere
  simp only [State.put, inBoll, elsewhere, Bool.false_eq_true, if_false, if_true]

/-- A write to a register of no other block is judged by `State.wrSys`. -/
theorem State.put_sys (s : State) (c : Nat) {r : Reg} (i : Nat) (w m : Word)
    (elsewhere : (regsCUST ++ regsSW ++ regsPROT ++ regsCAL ++ regsINJ ++ regsEVE ++ regsLEDS ++ regsDIO ++ regsBOLL ++ regsCAN ++ regsGWY ++
      regsETH ++ regsTIDE ++ regsNM ++ regsACC ++ regsUPD ++ regsJNL).contains r = false) :
    s.put c r i w m = s.wrSys r i (s.merge r i w m) (r.fired w m) := by
  simp only [List.contains_append, Bool.or_eq_false_iff] at elsewhere
  simp only [State.put, elsewhere, Bool.false_eq_true, if_false]

/-- The word that feeds timer `t`. -/
def feedWord (t : Fin 4) (v : Fin 256) : Nat := v + t * 2 ^ 8 + 2 ^ 31

theorem State.put_feed (s : State) (c : Nat) (t : Fin 4) (v : Fin 256) :
    s.put c .SYS_BOLLARD_FEED 0 (BitVec.ofNat 32 (feedWord t v)) 0xFFFFFFFF =
      ((s.wr .SYS_BOLLARD_FEED 0 (s.merge .SYS_BOLLARD_FEED 0 (BitVec.ofNat 32 (feedWord t v)) 0xFFFFFFFF)).feed t v, 0) := by
  have goes : F.SYS_BOLLARD_FEED_FEED.on (Reg.fired .SYS_BOLLARD_FEED (BitVec.ofNat 32 (feedWord t v)) 0xFFFFFFFF) = true := by
    refine (Fld.on_fired _ rfl (by decide)).trans ?_
    have low : v.val + t.val * 2 ^ 8 < 2 ^ 31 := by omega
    rw [BitVec.getLsbD_ofNat, feedWord, Nat.add_comm, Nat.testBit_two_pow_add_eq, Nat.testBit_lt_two_pow low]
    rfl
  have timer := Fld.of_merge s (f := F.SYS_BOLLARD_FEED_TIMER) (r := .SYS_BOLLARD_FEED) 0 (BitVec.ofNat 32 (feedWord t v)) (by decide) (by decide)
  have value := Fld.of_merge s (f := F.SYS_BOLLARD_FEED_VALUE) (r := .SYS_BOLLARD_FEED) 0 (BitVec.ofNat 32 (feedWord t v)) (by decide) (by decide)
  have timerOf : F.SYS_BOLLARD_FEED_TIMER.of (BitVec.ofNat 32 (feedWord t v)) = t := by
    simp only [Fld.of, BitVec.toNat_ofNat, feedWord]; omega
  have valueOf : F.SYS_BOLLARD_FEED_VALUE.of (BitVec.ofNat 32 (feedWord t v)) = v := by
    simp only [Fld.of, BitVec.toNat_ofNat, feedWord]; omega
  rw [State.put_sys _ _ _ _ _ (by decide), State.wrSys, timer, value, timerOf, valueOf, if_pos goes]

theorem bollCmd_fired : F.BOLL_CMD_RECLAIM.on (Reg.fired .BOLL_CMD (BitVec.ofNat 32 1) 0xFFFFFFFF) = true ∧
    F.BOLL_CMD_REENABLE.on (Reg.fired .BOLL_CMD (BitVec.ofNat 32 1) 0xFFFFFFFF) = false ∧
    F.BOLL_CMD_RECLAIM.on (Reg.fired .BOLL_CMD (BitVec.ofNat 32 2) 0xFFFFFFFF) = false ∧
    F.BOLL_CMD_REENABLE.on (Reg.fired .BOLL_CMD (BitVec.ofNat 32 2) 0xFFFFFFFF) = true := by decide

theorem State.put_reclaim (s : State) (c : Nat) : s.put c .BOLL_CMD 0 (BitVec.ofNat 32 1) 0xFFFFFFFF = refusedAs abState s.reclaim := by
  obtain ⟨reclaims, stays, -⟩ := bollCmd_fired
  rw [State.put_boll _ _ _ _ _ (by decide) (by decide)]
  simp only [State.wrBoll, reclaims, stays, Bool.false_eq_true, if_false, if_true, Bool.false_or, refusedAs]

theorem State.put_bollReenable (s : State) (c : Nat) :
    s.put c .BOLL_CMD 0 (BitVec.ofNat 32 2) 0xFFFFFFFF = refusedAs abState (s.reenableUnit .boll) := by
  obtain ⟨-, -, stays, reenables⟩ := bollCmd_fired
  rw [State.put_boll _ _ _ _ _ (by decide) (by decide)]
  simp only [State.wrBoll, reenables, stays, Bool.false_eq_true, if_false, if_true, Bool.or_false, refusedAs]

theorem rfxClr_fired (m : Fin 32) : (Reg.fired .BOLL_RFX_CLRLO (BitVec.ofNat 32 (2 ^ m.val)) 0xFFFFFFFF).toNat = 2 ^ m.val ∧
    (Reg.fired .BOLL_RFX_CLRHI (BitVec.ofNat 32 (2 ^ m.val)) 0xFFFFFFFF).toNat = 2 ^ m.val := by
  revert m
  decide

theorem State.put_rfxClrLo (s : State) (c : Nat) (m : Fin 32) :
    s.put c .BOLL_RFX_CLRLO 0 (BitVec.ofNat 32 (2 ^ m.val)) 0xFFFFFFFF = (s.rfxClear m, 0) := by
  have only := foldl_only s (fun x k => x.rfxClear k) m m.isLt
  rw [State.put_boll _ _ _ _ _ (by decide) (by decide), State.wrBoll, (rfxClr_fired m).1]
  simp only [bitOf_two_pow, decide_eq_true_eq, eq_comm (a := m.val)]
  exact congrArg (·, 0) only

theorem State.put_rfxClrHi (s : State) (c : Nat) (m : Fin 32) :
    s.put c .BOLL_RFX_CLRHI 0 (BitVec.ofNat 32 (2 ^ m.val)) 0xFFFFFFFF = (s.rfxClear (32 + m), 0) := by
  have only := foldl_only s (fun x k => x.rfxClear (32 + k)) m m.isLt
  rw [State.put_boll _ _ _ _ _ (by decide) (by decide), State.wrBoll, (rfxClr_fired m).2]
  simp only [bitOf_two_pow, decide_eq_true_eq, eq_comm (a := m.val)]
  exact congrArg (·, 0) only

/-! ## Timers, the hold window and reclaim -/

section
variable {s : State} {t b : Nat}

theorem State.silExpire_stands (stands : (s.silc t).since = none) : s.silExpire t = s := by rw [State.silExpire, stands]

theorem State.silExpire_held (held : s.silMay = false) : s.silExpire t = s := by
  rw [State.silExpire]
  cases (s.silc t).since with
  | none => rfl
  | some b => exact if_pos (by rw [held]; rfl)

theorem State.silExpire_expires {v : State} (runs : (s.silc t).since = some b) (may : s.silMay = true)
    (hv : v = ((s.advanceTo (b + (s.silc t).left)).setSilc t { s.silc t with left := 0, since := none, exp := true, last := none }).raise
      .BOLL_SILENCE t) :
    s.silExpire t = (v.each (List.range 136) fun s i => if s.fld F.BOLL_SAFE_SIL i = t + 1 ∧ s.outLead i = i then s.take i t false else
      s).bollFaults := by
  subst hv
  rw [State.silExpire, runs]
  exact if_neg (by rw [may]; decide)

theorem State.holdExpire_none (none : s.boll.hold = none) : s.holdExpire = s := by rw [State.holdExpire, none]

theorem State.holdExpire_some (runs : s.boll.hold = some t) : s.holdExpire =
    ((((s.advanceTo t).holdStop).raise .BOLL_HOLD_EXPIRED).each (List.range 136) fun s i => s.take i 4 false).bollFaults.silResume := by
  rw [State.holdExpire, runs]

theorem State.reclaim_refused (h : s.mode' = 5 ∨ s.isSafe .boll = true) : s.reclaim = (s.setFlag F.BOLL_STAT_REFUSED, true) := if_pos h

theorem State.reclaim_goes (running : s.mode' ≠ 5) (sound : s.isSafe .boll = false) : s.reclaim =
    (((if s.mode' = 3 then s.holdStop.commandsOff else s.holdStop).each ((s.holdStop.boll.gov.map (·.1)).filter
      fun i => !s.holdStop.unitSafe i && !(s.holdStop.fld F.BOLL_SAFE_SIL (s.holdStop.outLead i) != 0 && (s.holdStop.silc (s.holdStop.fld
      F.BOLL_SAFE_SIL (s.holdStop.outLead i) - 1)).exp)) fun s i => s.release i).bollFaults.silStart.raise .BOLL_RECLAIMED, false) :=
  if_neg fun h => h.elim running fun safe => Bool.false_ne_true (sound.symm.trans safe)

/-- The firmware that runs again after a restart of pair `p`, or after a Boot. -/
def State.firmwareRuns (s : State) (p : Option Pair) : Bool :=
  match p with
  | some p => (s.pairDown p).isNone
  | none => (s.pairDown .A).isNone && (s.pairDown .B).isNone

theorem State.firmwareReclaim_eq (p : Option Pair) :
    s.firmwareReclaim p = if (s.firmwareRuns p && s.awake) = true then s.autoReclaim else s := by cases p <;> rfl

theorem State.firmwareRuns_of {p : Option Pair} (a : s.pairDown .A = none ∨ p = some .B) (b : s.pairDown .B = none ∨ p = some .A) :
    s.firmwareRuns p = true := by
  rcases p with _ | _ | _ <;> simp_all [State.firmwareRuns]

theorem State.not_firmwareRuns_of {p : Option Pair}
    (h : (p ≠ some .B ∧ (s.pairDown .A).isSome = true) ∨ (p ≠ some .A ∧ (s.pairDown .B).isSome = true)) : s.firmwareRuns p = false := by
  rcases h with ⟨other, down⟩ | ⟨other, down⟩ <;> obtain ⟨since, down⟩ := Option.isSome_iff_exists.mp down <;>
    rcases p with _ | _ | _ <;> simp_all [State.firmwareRuns]

end

/-! ## Reflexes -/

section
variable {s v w : State}

theorem State.reflexes_off (off : s.powered = false ∨ s.isSafe .boll = true) : s.reflexes = s :=
  if_pos (by rcases off with h | h <;> rw [h] <;> simp)

theorem State.reflexes_on (powered : s.powered = true) (sound : s.isSafe .boll = false) (hv : v = s.advanceTo (s.boll.rfxAt + us 100))
    (hw : w = ((v.setBoll { v.boll with rfxAt := v.now }).each (List.range 64) fun s k => s.evalEntry k)) :
    s.reflexes = w.each ((List.range 64).filter fun k => w.flag F.BOLL_RFX_ACT_EN k || (w.rfxc k).act) fun s k =>
      s.outRefresh (s.fld F.BOLL_RFX_ACT_TARGET k) := by
  subst hv hw
  exact if_neg (by rw [powered, sound]; decide)

end

theorem exec_reflexLatchClear_low (s : State) (a : Acc) {k : Fin 64} (low : k.val < 32) :
    exec (.reflexLatchClear (.reg a) k) s = .next (s.run fun s => s.busPut a .BOLL_RFX_CLRLO 0 (2 ^ k.val)) := by
  rw [exec, execReflexLatchClear, if_pos low, Nat.mod_eq_of_lt low]
  rfl

theorem exec_reflexLatchClear_high (s : State) (a : Acc) {k : Fin 64} (high : 32 ≤ k.val) :
    exec (.reflexLatchClear (.reg a) k) s = .next (s.run fun s => s.busPut a .BOLL_RFX_CLRHI 0 (2 ^ (k.val % 32))) := by
  rw [exec, execReflexLatchClear, if_neg (Nat.not_lt_of_le high)]
  rfl

/-- Settles O28: each event is the branch of its operation in which its conditions hold, each write the operation of its register. -/
theorem bollard : Obligations.Bollard := by
  unfold Obligations.Bollard
  refine ⟨?feed, ?stands, ?expires, ?held, ?holdEnds, ?noHold, ?reclaim, ?reclaimRefused, ?auto, ?notAuto, ?reenable, ?reflexOff, ?reflexes,
    ?clearLow, ?clearHigh⟩
  case feed =>
    intro s a t v h
    refine ⟨s.merge .SYS_BOLLARD_FEED 0 (BitVec.ofNat 32 (feedWord t v)) 0xFFFFFFFF,
      exec_put rfl h rfl rfl rfl fun code => (State.put_feed _ code t v).trans ?_⟩
    rw [State.merge_dropHeld]
  case stands => exact fun s t awake stands => State.runOn_next rfl awake (State.silExpire_stands stands)
  case expires => exact fun s t b v awake runs may hv => State.runOn_next rfl awake (State.silExpire_expires runs may hv)
  case held => exact fun s t awake held => State.runOn_next rfl awake (State.silExpire_held held)
  case holdEnds => exact fun s t awake runs => State.runOn_next rfl awake (State.holdExpire_some runs)
  case noHold => exact fun s awake none => State.runOn_next rfl awake (State.holdExpire_none none)
  case reclaim =>
    intro s a h running sound
    refine exec_put rfl h rfl rfl rfl fun code => (State.put_reclaim _ code).trans ?_
    rw [State.reclaim_goes ((s.dropHeld_blind _ _ State.mode' fun _ _ => rfl).trans_ne running)
      ((s.dropHeld_blind _ _ (State.isSafe · _) fun _ _ => rfl).trans sound)]
    rfl
  case reclaimRefused =>
    intro s a h barred
    refine exec_put rfl h rfl rfl rfl fun code => (State.put_reclaim _ code).trans ?_
    have mode := s.dropHeld_blind (s.who a).code (Reg.BOLL_CMD.addr 0) State.mode' fun _ _ => rfl
    have safe := s.dropHeld_blind (s.who a).code (Reg.BOLL_CMD.addr 0) (State.isSafe · .boll) fun _ _ => rfl
    rw [State.reclaim_refused (barred.imp mode.trans safe.trans)]
    rfl
  case auto =>
    intro s p awake a b auto
    refine State.run_next rfl ((State.firmwareReclaim_eq p).trans ?_)
    rw [State.firmwareRuns_of a b, awake]
    exact if_pos auto
  case notAuto =>
    intro s p off
    refine State.run_next rfl ((State.firmwareReclaim_eq p).trans ?_)
    split
    case isFalse => rfl
    case isTrue runs =>
      rcases off with auto | asleep | down
      · exact if_neg (by rw [auto]; decide)
      · simp [asleep] at runs
      · simp [State.not_firmwareRuns_of down] at runs
  case reenable => exact fun s a h => exec_put rfl h rfl rfl rfl fun code => State.put_bollReenable _ code
  case reflexOff => exact fun s awake off => State.runOn_next rfl awake (State.reflexes_off off)
  case reflexes => exact fun s v w awake powered sound hv hw => State.runOn_next rfl awake (State.reflexes_on powered sound hv hw)
  case clearLow =>
    intro s a k h low
    exact exec_put (exec_reflexLatchClear_low s a low) h rfl rfl rfl fun code => State.put_rfxClrLo _ code ⟨k, low⟩
  case clearHigh =>
    intro s a k h high
    have place : 32 + k.val % 32 = k.val := by omega
    exact exec_put (exec_reflexLatchClear_high s a high) h rfl rfl rfl fun code =>
      (State.put_rfxClrHi _ code ⟨k.val % 32, Nat.mod_lt _ (by decide)⟩).trans (by rw [place])

end Sys2Proof.Machine
end

section
/-! Network time (R435 to R460): PPS, the choice of the source, holdover, self validation, manual steering, compare units and AON
retention. -/

namespace Sys2Proof.Machine

/-! ## The 64-bit write of a pair whose low word is kept -/

theorem State.clearMismatch_eq (s : State) (k : Reg × Nat) :
    ∃ p j, s.clearMismatch k = { s with bus := { s.bus with par := p }, jnl := j } := by
  obtain ⟨l, h | h⟩ := s.clearMismatch_cases k
  · exact ⟨l, s.jnl, h⟩
  · obtain ⟨j, hj⟩ := (s.setPar l).clearFault_eq .CFG_PARITY (regBlock k.1 k.2)
    exact ⟨l, j, h.trans hj⟩

theorem State.putWord_eq (s : State) (c : Nat) (r : Reg) (i : Nat) (w : Word) :
    ∃ b j, (s.putWord c r i w).1 = { (s.put c r i w 0xFFFFFFFF).1 with bus := b, jnl := j } := by
  rw [State.putWord]
  split
  · obtain ⟨p, j, h⟩ := (s.put c r i w 0xFFFFFFFF).1.clearMismatch_eq (r, i)
    exact ⟨_, j, h⟩
  · exact ⟨_, _, rfl⟩

/-- What a write of a 64-bit pair leaves before its high word is put: the low word `w` stored, the master's shadow spent. -/
def State.lowStored (s : State) (r : Reg) (i : Nat) (w : Word) (held : List (Nat × Shadow)) (par : List ((Reg × Nat) × Bool)) (j : JnlSt) :
    State :=
  { s.wr r i w with bus := { s.bus with shadow := held, par := par }, jnl := j }

theorem State.busWrite_pair_stored {s : State} {a : Acc} {r h : Reg} {i : Nat} (granted : s.granted a r i) (aligned : r.addr i % 8 = 0)
    (route : routeReg r = false) (high : atomicHigh r = some h) (routeHigh : routeReg h = false) (highHigh : atomicHigh h = none)
    (low : atomicLow h = some r) (stored : ∀ (u : State) (c : Nat) (w : Word), u.put c r i w 0xFFFFFFFF = (u.wr r i w, 0)) (v : Nat) :
    ∃ held par j b j', s.busWrite a (r.addr i) v .b64 =
      { ((s.lowStored r i (BitVec.ofNat 32 v) held par j).put (s.who a).code h i (BitVec.ofNat 32 (v / 2 ^ 32)) 0xFFFFFFFF).1 with
        bus := b, jnl := j' } := by
  obtain ⟨awake, reaches, names, pass, -⟩ := granted
  have word : r.addr i / 4 * 4 = r.addr i := by omega
  have served : ((s.who a).mute || !s.awake) = false := by rw [awake, reaches]; rfl
  obtain ⟨x, dropped⟩ := s.dropHeld_eq (s.who a).code (r.addr i)
  have heldLow : BitVec.ofNat 32 (BitVec.ofNat 32 v).toNat = BitVec.ofNat 32 v := by simp only [BitVec.ofNat_toNat, BitVec.setWidth_eq]
  have written : ∃ held b, s.busWrite a (r.addr i) v .b64 =
      (({ s with bus := { s.bus with shadow := held } }).putPair (s.who a).code r h i v).setBus b := by
    simp only [State.busWrite, State.busWho, served, Bool.false_eq_true, if_false, if_true, State.access64, word, names, high, reduceCtorEq,
      aligned, ne_eq, not_true_eq_false, Option.map_some, State.accessPair, State.stop_dropHeld, pass,
      State.writeReg_low _ _ _ _ route high]
    simp only [State.writeReg, Bool.not_true, Bool.false_and, Bool.false_eq_true, if_false, routeHigh, highHigh, low,
      State.shadow_setShadow, if_true, heldLow, dropped]
    exact ⟨_, _, rfl⟩
  obtain ⟨held, b, written⟩ := written
  obtain ⟨p, j, cleared⟩ := (({ s with bus := { s.bus with shadow := held } } : State).wr r i (BitVec.ofNat 32 v)).clearMismatch_eq (r, i)
  have lowPut : (State.putWord { s with bus := { s.bus with shadow := held } } (s.who a).code r i (BitVec.ofNat 32 v)).1 =
      s.lowStored r i (BitVec.ofNat 32 v) held p j := by
    rw [State.putWord, stored]
    exact cleared
  obtain ⟨b', j', highPut⟩ := State.putWord_eq (s.lowStored r i (BitVec.ofNat 32 v) held p j) (s.who a).code h i (BitVec.ofNat 32 (v / 2 ^ 32))
  rw [written, State.putPair, lowPut, highPut]
  exact ⟨held, p, j, b, j', rfl⟩

theorem State.put_tide (s : State) (c : Nat) {r : Reg} (i : Nat) (w m : Word) (inTide : regsTIDE.contains r = true)
    (elsewhere : (regsCUST ++ regsSW ++ regsPROT ++ regsCAL ++ regsINJ ++ regsEVE ++ regsLEDS ++ regsDIO ++ regsBOLL ++ regsCAN ++ regsGWY ++
      regsETH).contains r = false) :
    s.put c r i w m = s.wrTide r i (s.merge r i w m) (r.fired w m) := by
  simp only [List.contains_append, Bool.or_eq_false_iff] at elsewhere
  simp only [State.put, inTide, elsewhere, Bool.false_eq_true, if_false, if_true]

theorem State.put_tideRate (s : State) (c v : Nat) :
    s.put c .TIDE_RATE 0 (BitVec.ofNat 32 v) 0xFFFFFFFF = refusedAs abState (s.manualRate (v % 2 ^ 32)) := by
  rw [State.put_tide _ _ _ _ _ (by decide) (by decide), State.wrTide, s.merge_whole 0 _ (by decide) (by decide), BitVec.toNat_ofNat]

theorem State.put_stepLo (s : State) (c : Nat) (w : Word) : s.put c .TIDE_STEP_LO 0 w 0xFFFFFFFF = (s.wr .TIDE_STEP_LO 0 w, 0) := by
  rw [State.put_tide _ _ _ _ _ (by decide) (by decide), s.merge_whole 0 _ (by decide) (by decide)]
  rfl

theorem State.put_setLo (s : State) (c : Nat) (w : Word) : s.put c .TIDE_SET_LO 0 w 0xFFFFFFFF = (s.wr .TIDE_SET_LO 0 w, 0) := by
  rw [State.put_tide _ _ _ _ _ (by decide) (by decide), s.merge_whole 0 _ (by decide) (by decide)]
  rfl

theorem State.put_stepHi (s : State) (c : Nat) (w : Word) : s.put c .TIDE_STEP_HI 0 w 0xFFFFFFFF =
    refusedAs abState ((s.wr .TIDE_STEP_HI 0 w).manualStep ((s.rd .TIDE_STEP_LO 0).toNat + 2 ^ 32 * w.toNat)) := by
  rw [State.put_tide _ _ _ _ _ (by decide) (by decide), s.merge_whole 0 _ (by decide) (by decide)]
  rfl

theorem State.put_setHi (s : State) (c : Nat) (w : Word) : s.put c .TIDE_SET_HI 0 w 0xFFFFFFFF =
    refusedAs abState ((s.wr .TIDE_SET_HI 0 w).manualSet ((s.rd .TIDE_SET_LO 0).toNat + 2 ^ 32 * w.toNat)) := by
  rw [State.put_tide _ _ _ _ _ (by decide) (by decide), s.merge_whole 0 _ (by decide) (by decide)]
  rfl

/-! ## Manual steering (R444) -/

section
variable {s u : State} {a : Acc} {v : Nat}

/-- What the words of a 64-bit pair leave of the tide, before the command of the pair acts. -/
structure State.TideFrame (s u : State) : Prop where
  now : u.now = s.now
  tide : u.tide = s.tide
  store : u.eve = s.eve
  safe : u.isSafe .tide = s.isSafe .tide
  rd : ∀ r i, r ≠ .TIDE_STEP_LO → r ≠ .TIDE_STEP_HI → r ≠ .TIDE_SET_LO → r ≠ .TIDE_SET_HI → u.rd r i = s.rd r i

theorem State.tideFrame_lowStored {r h : Reg} {lo hi : Word} {held : List (Nat × Shadow)} {p : List ((Reg × Nat) × Bool)} {j : JnlSt}
    (hr : r = .TIDE_STEP_LO ∨ r = .TIDE_SET_LO) (hh : h = .TIDE_STEP_HI ∨ h = .TIDE_SET_HI) :
    s.TideFrame ((s.lowStored r 0 lo held p j).wr h 0 hi) where
  now := rfl
  tide := rfl
  store := rfl
  safe := rfl
  rd q i a b c d := by
    have high : q ≠ h := by rcases hh with rfl | rfl <;> assumption
    have low : q ≠ r := by rcases hr with rfl | rfl <;> assumption
    have base : (s.lowStored r 0 lo held p j).rd q i = (s.wr r 0 lo).rd q i := rfl
    rw [State.rd_wr_ne _ _ fun e => high (congrArg Prod.fst e), base, State.rd_wr_ne _ _ fun e => low (congrArg Prod.fst e)]

theorem State.TideFrame.flag (h : s.TideFrame u) {f : Fld} (i : Nat)
    (other : f.reg ≠ .TIDE_STEP_LO ∧ f.reg ≠ .TIDE_STEP_HI ∧ f.reg ≠ .TIDE_SET_LO ∧ f.reg ≠ .TIDE_SET_HI) : u.flag f i = s.flag f i :=
  State.flag_of_rd (h.rd _ _ other.1 other.2.1 other.2.2.1 other.2.2.2)

theorem State.TideFrame.manualOk (h : s.TideFrame u) : u.manualOk = s.manualOk := by
  have runs : u.tideRuns = s.tideRuns := by
    have lock := h.rd .CLK_STAT 0 (by decide) (by decide) (by decide) (by decide)
    have mode := h.rd .SYS_MODE 0 (by decide) (by decide) (by decide) (by decide)
    simp only [State.tideRuns, State.awake, State.mode', State.bit, State.fld, lock, mode]
    rfl
  rw [State.manualOk, State.manualOk, h.flag 0 (by decide), h.safe, runs]

/-- The pair of TIDE_STEP reaches the step of its whole value. -/
theorem State.busWrite_step (granted : s.granted a .TIDE_STEP_LO 0) (v : Nat) : ∃ u b j, s.TideFrame u ∧
    s.busWrite a (Reg.addr .TIDE_STEP_LO 0) v .b64 = { (u.manualStep (v % 2 ^ 64)).1 with bus := b, jnl := j } := by
  obtain ⟨held, p, j, b, j', written⟩ := State.busWrite_pair_stored (h := .TIDE_STEP_HI) granted (by decide) rfl rfl rfl rfl rfl
    State.put_stepLo v
  have low : (s.lowStored .TIDE_STEP_LO 0 (BitVec.ofNat 32 v) held p j).rd .TIDE_STEP_LO 0 = BitVec.ofNat 32 v := s.rd_wr_same ..
  rw [State.put_stepHi, low, pairWord] at written
  exact ⟨_, b, j', State.tideFrame_lowStored (.inl rfl) (.inl rfl), written⟩

/-- The pair of TIDE_SET reaches the set of its whole value. -/
theorem State.busWrite_set (granted : s.granted a .TIDE_SET_LO 0) (v : Nat) : ∃ u b j, s.TideFrame u ∧
    s.busWrite a (Reg.addr .TIDE_SET_LO 0) v .b64 = { (u.manualSet (v % 2 ^ 64)).1 with bus := b, jnl := j } := by
  obtain ⟨held, p, j, b, j', written⟩ := State.busWrite_pair_stored (h := .TIDE_SET_HI) granted (by decide) rfl rfl rfl rfl rfl
    State.put_setLo v
  have low : (s.lowStored .TIDE_SET_LO 0 (BitVec.ofNat 32 v) held p j).rd .TIDE_SET_LO 0 = BitVec.ofNat 32 v := s.rd_wr_same ..
  rw [State.put_setHi, low, pairWord] at written
  exact ⟨_, b, j', State.tideFrame_lowStored (.inr rfl) (.inr rfl), written⟩

theorem State.lateStarts_none (none : s.eve.store = []) : s.lateStarts = s := by
  simp only [State.lateStarts, none]
  rfl

theorem State.stepBy_none (none : s.eve.store = []) (d : Int) : s.stepBy d = s.stepAnchor d := by
  have still : (s.stepAnchor d).lateStarts = s.stepAnchor d := State.lateStarts_none none
  rw [State.stepBy, still, ite_self]

theorem State.manualStep_goes (ok : s.manualOk = true) (none : s.eve.store = []) :
    s.manualStep v = ((s.stepAnchor (signed 64 v)).stepReport (signed 64 v), false) := by
  rw [State.manualStep, if_pos ok, State.stepBy_none none]

theorem State.manualStep_refused (ok : s.manualOk = false) : s.manualStep v = (s.tideRefuse, true) :=
  if_neg (by rw [ok]; exact Bool.false_ne_true)

theorem State.manualSet_refused (ok : s.manualOk = false) : s.manualSet v = (s.tideRefuse, true) :=
  if_neg (by rw [ok]; exact Bool.false_ne_true)

theorem State.stepReport_tide (d : Int) : (s.stepReport d).tide = s.tide := by rw [State.stepReport, State.raise_tide, State.setFlag_tide]

theorem State.stepReport_now (d : Int) : (s.stepReport d).now = s.now := by rw [State.stepReport, State.raise_now, State.setFlag_now]

theorem State.rd_stepReport {r : Reg} (i : Nat) (d : Int) (h : r ≠ .TIDE_EVT) : (s.stepReport d).rd r i = s.rd r i := by
  rw [State.stepReport, State.rd_raise, State.rd_setFlag_ne _ _ fun e => h (congrArg Prod.fst e)]

theorem State.flag_stepReport_step (d : Int) : (s.stepReport d).flag F.TIDE_EVT_STEP = true := by
  rw [State.stepReport, State.flag_raise, State.flag_setFlag_self _ (by decide)]

/-! Logical time set (R444) -/

theorem State.logical_congr (now : u.now = s.now) (tide : u.tide = s.tide) (rate : u.rd .TIDE_RATE = s.rd .TIDE_RATE) :
    u.logical = s.logical := by
  have counter : u.counter = s.counter := by simp only [State.counter, tide, now]
  rw [State.logical, State.logical, counter, State.logicalAt_congr tide rate]

theorem State.logical_setFld (s : State) {f : Fld} (h : f.reg ≠ .TIDE_RATE) (i n : Nat) : (s.setFld f i n).logical = s.logical :=
  State.logical_congr rfl rfl (s.rd_setFld_ne fun e => h (congrArg Prod.fst e).symm)

theorem State.logical_setFlag (s : State) {f : Fld} (h : f.reg ≠ .TIDE_RATE) (i : Nat) (b : Bool) : (s.setFlag f i b).logical = s.logical :=
  s.logical_setFld h i _

theorem State.logical_setLogical (small : v < 2 ^ 64) : (s.setLogical v).logical = v := by
  have start : (s.setLogical v).counter - (s.setLogical v).tide.f = 0 := Nat.sub_self _
  have a : (s.setLogical v).tide.a = v := Nat.mod_eq_of_lt small
  have fr : (s.setLogical v).tide.fr = 0 := rfl
  rw [State.logical, State.logicalAt, start, a, fr]
  simpa using unsigned_of_lt small

/-- Logical time stands at `v`, valid and not COARSE. -/
structure State.SetTo (s : State) (v : Nat) : Prop where
  logical : s.logical = v
  valid : s.flag F.TIDE_STAT_VALID = true
  fine : s.flag F.TIDE_STAT_COARSE = false

theorem State.SetTo.stepReport (h : s.SetTo v) (d : Int) : (s.stepReport d).SetTo v where
  logical := (State.logical_congr (s.stepReport_now d) (s.stepReport_tide d) (s.rd_stepReport 0 d (by decide))).trans h.logical
  valid := (State.flag_of_rd (s.rd_stepReport 0 d (by decide))).trans h.valid
  fine := (State.flag_of_rd (s.rd_stepReport 0 d (by decide))).trans h.fine

theorem State.SetTo.winOpen (h : s.SetTo v) : s.winOpen.SetTo v := by
  unfold State.winOpen
  split
  · exact ⟨h.logical, h.valid, h.fine⟩
  · exact h

theorem State.SetTo.written (h : s.SetTo v) (b : BusSt) (j : JnlSt) : State.SetTo { s with bus := b, jnl := j } v :=
  ⟨h.logical, h.valid, h.fine⟩

theorem State.flag_written (b : BusSt) (j : JnlSt) (f : Fld) (i : Nat) : State.flag { s with bus := b, jnl := j } f i = s.flag f i := rfl

theorem State.SetTo.state (h : s.SetTo v) (n : Nat) : (s.setFld F.TIDE_STAT_STATE 0 n).SetTo v where
  logical := (s.logical_setFld (by decide) 0 n).trans h.logical
  valid := (s.flag_setFld_off (by decide) n).trans h.valid
  fine := (s.flag_setFld_off (by decide) n).trans h.fine

theorem State.setTo_validate (small : v < 2 ^ 64) : (s.setLogical v).validate.endCoarse.SetTo v := by
  have valid : (s.setLogical v).validate.flag F.TIDE_STAT_VALID = true := State.flag_setFlag_self _ (by decide) _
  have logical : (s.setLogical v).validate.logical = v :=
    ((s.setLogical v).logical_setFlag (by decide) 0 true).trans (State.logical_setLogical small)
  generalize (s.setLogical v).validate = w at valid logical
  unfold State.endCoarse
  split
  case isFalse fine => exact ⟨logical, valid, by simpa using fine⟩
  case isTrue =>
    constructor
    · rw [State.logical_setFlag _ (by decide), State.logical_setFld _ (by decide), State.logical_setFlag _ (by decide), logical]
    · rw [State.flag_setFlag_off _ (by decide), State.flag_setFld_off _ (by decide), State.flag_setFlag_off _ (by decide), valid]
    · rw [State.flag_setFlag_off _ (by decide), State.flag_setFld_off _ (by decide), State.flag_setFlag_self _ (by decide)]

/-- Logical time is set under MANUAL, before what it makes late is delivered. -/
def State.manualSetTo (s : State) (v : Nat) : State :=
  let w := (s.setLogical v).validate.endCoarse
  if w.tideState = 0 then w.setFld F.TIDE_STAT_STATE 0 1 else w

theorem State.setTo_manualSetTo (small : v < 2 ^ 64) : (s.manualSetTo v).SetTo v := by
  have set := State.setTo_validate (s := s) small
  unfold State.manualSetTo
  extract_lets w
  split
  · exact set.state 1
  · exact set

theorem State.manualSetTo_eve : (s.manualSetTo v).eve = s.eve := by
  have coarse : (s.setLogical v).validate.endCoarse.eve = s.eve := by
    rw [State.endCoarse]
    split
    · rw [State.setFlag_eve, State.setFld_eve, State.setFlag_eve]; rfl
    · rfl
  unfold State.manualSetTo
  extract_lets w
  split
  · exact coarse
  · exact coarse

theorem State.manualSet_first (ok : s.manualOk = true) (invalid : s.flag F.TIDE_STAT_VALID = false) :
    s.manualSet v = ((s.manualSetTo v).winOpen, false) := by
  simp only [State.manualSet, if_pos ok, invalid, Bool.false_and, Bool.false_eq_true, if_false]
  rfl

theorem State.manualSet_again (ok : s.manualOk = true) (valid : s.flag F.TIDE_STAT_VALID = true) (none : s.eve.store = []) :
    s.manualSet v = (((s.manualSetTo v).stepReport (diff64 v s.logical)).winOpen, false) := by
  have still : (s.manualSetTo v).lateStarts = s.manualSetTo v := State.lateStarts_none (s.manualSetTo_eve ▸ none)
  have keeps (b : Bool) : (if b = true then (s.manualSetTo v).lateStarts else s.manualSetTo v) = s.manualSetTo v := by rw [still, ite_self]
  simp only [State.manualSet, if_pos ok, valid, if_true]
  exact congrArg (fun x => ((State.stepReport x _).winOpen, false)) (keeps _)

theorem State.flag_winOpen (f : Fld) (i : Nat) : s.winOpen.flag f i = s.flag f i := by
  unfold State.winOpen
  split <;> rfl

end

theorem State.advanceTo_self (s : State) : s.advanceTo s.now = s := by
  rw [State.advanceTo, show Nat.max s.now s.now = s.now from Nat.max_self _]

/-! ## The choice of the source (R442, R450) -/

section
variable {s v w : State} {k c : Nat}

theorem State.chooseSource_lost (none : s.bestSource = none) (used : s.activeSrc ≠ 0) (automatic : s.flag F.TIDE_CTRL_MANUAL = false)
    (valid : s.flag F.TIDE_STAT_VALID = true) : s.chooseSource = s.holdover.raise .TIDE_SRC_LOSS := by
  simp only [State.chooseSource, none, if_neg used, automatic, valid, Bool.false_eq_true, if_false, Bool.not_true]

theorem State.chooseSource_left (none : s.bestSource = none) (used : s.activeSrc ≠ 0)
    (h : s.flag F.TIDE_CTRL_MANUAL = true ∨ s.flag F.TIDE_STAT_VALID = false) :
    s.chooseSource = s.useSource 0 0 (if s.flag F.TIDE_CTRL_MANUAL ∧ s.flag F.TIDE_STAT_VALID then 1 else 0) := by
  simp only [State.chooseSource, none, if_neg used]
  cases manual : s.flag F.TIDE_CTRL_MANUAL
  · have invalid := h.resolve_left (by rw [manual]; decide)
    simp [invalid]
  · simp

theorem State.chooseSource_some (best : s.bestSource = some (k, c)) (hw : w = (s.clearFault .TIDE_SRC_LOSS).clearFault .TIDE_HOLD_LONG) :
    s.chooseSource = if w.activeSrc = c then w.setFld F.TIDE_STAT_SLOT 0 k else w.useSource k c (if w.flag F.TIDE_STAT_VALID then 2 else 0) := by
  subst hw
  simp only [State.chooseSource, best]

theorem State.chooseSource_none (none : s.bestSource = none) (unused : s.activeSrc = 0) (automatic : s.flag F.TIDE_CTRL_MANUAL = false) :
    s.chooseSource = s := by
  simp only [State.chooseSource, none, if_pos unused, automatic, Bool.false_and, Bool.false_eq_true, if_false]

end

/-! ## PPS and Sync (R348, R443) -/

section
variable {s v : State} {ago t : Nat} {rising : Bool}

theorem State.ppsEdge_off (off : s.flag F.DIO_PPS_CFG_EN = false ∨ rising = s.flag F.DIO_PPS_CFG_FALL ∨ s.isSafe .dioPps = true ∨
    s.tideRuns = false) : s.ppsEdge rising ago = s :=
  if_pos (by rcases off with h | h | h | h <;> simp [h])

theorem State.ppsEdge_on {o : Int} (runs : s.tideRuns = true) (on : s.flag F.DIO_PPS_CFG_EN = true) (chosen : rising ≠ s.flag F.DIO_PPS_CFG_FALL)
    (sound : s.isSafe .dioPps = false) (ht : t = s.stampAgo ago) (hv : v = ((s.setFld F.DIO_PPS_TLO_T 0 t).setFld F.DIO_PPS_THI_T 0
      (t / 2 ^ 32)).setTide { s.tide with ppsAt := some s.now }) (ho : o = roundDiv t 1000000000 * 1000000000 - (t : Int)) :
    s.ppsEdge rising ago = if v.flag F.TIDE_STAT_VALID && decide (o.natAbs ≤ 500000000) then v.measurement 10 o else v := by
  subst ht hv ho
  exact if_neg (by simp [runs, on, sound, chosen])

theorem State.syncIn_off {p origin : Nat} {corr : Int} (off : s.ptpRole p ≠ 2 ∨ s.ptpOn p = false) : s.syncIn p origin corr ago = s :=
  if_pos (by rcases off with h | h <;> simp [h])

theorem State.syncIn_slave {p origin : Nat} {corr : Int} (on : s.ptpOn p = true) (slave : s.ptpRole p = 2) :
    s.syncIn p origin corr ago = (s.setPtp p { s.ptp p with synAt := some s.now }).measurement 1 ((origin : Int) + roundDiv (corr * 2 ^ 25 +
      (s.fld F.TIDE_PDELAY_DELAY p : Int) * (2 ^ 41 + (s.ptp p).ratio)) (2 ^ 41) - (s.stampAgo ago : Int)) :=
  if_neg (by simp [on, slave])

end

/-! ## Holdover, self validation and AON retention (R440, R452, R459) -/

section
variable {s v : State} {k l : Nat}

theorem State.holdLong_off (off : s.tideRuns = false ∨ s.tideState ≠ 4 ∨ s.isSafe .tide = true) : s.holdLong = s :=
  if_pos (by rcases off with h | h | h <;> simp [h])

theorem State.holdLong_free (runs : s.tideRuns = true) (holds : s.tideState = 4) (sound : s.isSafe .tide = false) : s.holdLong =
    (((s.advanceTo (s.tide.holdAt + sec (s.fld F.TIDE_HOLD_HOLD_LIMIT))).setFld F.TIDE_STAT_STATE 0 1).setFlag F.TIDE_EVT_HOLD_LONG).raise
      .TIDE_HOLD_LONG :=
  if_neg (by simp [runs, holds, sound])

theorem State.selfValid_off (off : s.flag F.TIDE_STAT_VALID = true ∨ s.flag F.TIDE_CTRL_SELF_VALID = false ∨ s.mode' < 3 ∨
    s.isSafe .tide = true ∨ s.tideRuns = false) : s.selfValid = s :=
  if_pos (by rcases off with h | h | h | h | h <;> simp [h])

theorem State.selfValid_on (runs : s.tideRuns = true) (invalid : s.flag F.TIDE_STAT_VALID = false) (on : s.flag F.TIDE_CTRL_SELF_VALID = true)
    (booted : 3 ≤ s.mode') (sound : s.isSafe .tide = false) (early : s.tide.selfAt ≤ s.mode.bootEndAt + sec 1)
    (hv : v = s.advanceTo (s.mode.bootEndAt + sec 1)) :
    s.selfValid = (((v.setLogical 0).validate).setFld F.TIDE_STAT_STATE 0 (if s.activeSrc = 0 then 1 else 2)).winOpen := by
  subst hv
  refine (if_neg ?_).trans ?_
  · simp [runs, invalid, on, booted, sound, early]
  · rfl

theorem State.aonWindow_off (off : s.flag F.TIDE_STAT_VALID = false ∨ s.flag F.TIDE_STAT_COARSE = true) :
    s.aonWindow = s.setTide { s.tide with winAt := none } :=
  if_pos (by rcases off with h | h <;> simp [h])

theorem State.aonWindow_opens (valid : s.flag F.TIDE_STAT_VALID = true) (fine : s.flag F.TIDE_STAT_COARSE = false) (none : s.tide.winAt = none) :
    s.aonWindow = s.setTide { s.tide with winAt := some (aonAfter s.now, s.logicalAt ((aonEdge (aonAfter s.now) - s.tide.epoch) / 4)) } := by
  simp only [State.aonWindow, valid, fine, none, State.winOpen]
  rfl

theorem State.aonWindow_ends (valid : s.flag F.TIDE_STAT_VALID = true) (fine : s.flag F.TIDE_STAT_COARSE = false)
    (window : s.tide.winAt = some (k, l)) (hv : v = s.advanceTo (aonEdge (k + 64 * 32768))) :
    s.aonWindow = v.setTide { s.tide with
      period := (diff64 v.logical l).toNat * 1000000 / (64 * 32768), winAt := some (k + 64 * 32768, v.logical) } := by
  subst hv
  simp only [State.aonWindow, valid, fine, window]
  rfl

end

/-! ## Compare units (R457) -/

section
variable {s v w : State} {k n t : Nat}

theorem State.rd_reach (l : Nat) (r : Reg) (i : Nat) : (s.reach l).rd r i = s.rd r i := by
  unfold State.reach
  split <;> rfl

theorem State.fld_reach (l : Nat) (f : Fld) (i : Nat) : (s.reach l).fld f i = s.fld f i := congrArg _ (State.rd_reach ..)

theorem State.target_reach (l u : Nat) : (s.reach l).target u = s.target u := by
  rw [State.target, State.target, State.fld_reach, State.fld_reach]

theorem State.compareFire_off (off : s.flag F.TIDE_CMP_CTRL_EN k = false ∨ s.flag F.TIDE_STAT_VALID = false) : s.compareFire k = s :=
  if_pos (by rcases off with h | h <;> simp [h])

/-- What firing does to its unit (R457). -/
def State.compareFired (s : State) (k late : Nat) : State :=
  let u := s.setBit F.TIDE_CMP_FLAG_FLAG 0 k
  if s.fld F.TIDE_CMP_PER_PER k = 0 then u.setFlag F.TIDE_CMP_CTRL_EN k false
  else
    let n := late / s.fld F.TIDE_CMP_PER_PER k
    let t := (s.target k + (n + 1) * s.fld F.TIDE_CMP_PER_PER k) % 2 ^ 64
    ((u.setFld F.TIDE_CMP_TLO_T k t).setFld F.TIDE_CMP_THI_T k (t / 2 ^ 32)).bump F.TIDE_CMP_CTRL_MISS k n

theorem State.compareFired_once {late : Nat} (once : s.fld F.TIDE_CMP_PER_PER k = 0) :
    s.compareFired k late = (s.setBit F.TIDE_CMP_FLAG_FLAG 0 k).setFlag F.TIDE_CMP_CTRL_EN k false := if_pos once

theorem State.compareFired_period {late : Nat} (period : s.fld F.TIDE_CMP_PER_PER k ≠ 0) (hn : n = late / s.fld F.TIDE_CMP_PER_PER k)
    (ht : t = (s.target k + (n + 1) * s.fld F.TIDE_CMP_PER_PER k) % 2 ^ 64) : s.compareFired k late =
      (((s.setBit F.TIDE_CMP_FLAG_FLAG 0 k).setFld F.TIDE_CMP_TLO_T k t).setFld F.TIDE_CMP_THI_T k (t / 2 ^ 32)).bump
        F.TIDE_CMP_CTRL_MISS k n := by
  subst ht hn
  exact if_neg period

theorem State.jnl_compareFired (late : Nat) : (s.compareFired k late).flag F.TIDE_CMP_CTRL_JNL k = s.flag F.TIDE_CMP_CTRL_JNL k := by
  unfold State.compareFired
  extract_lets u n t
  split
  · rw [State.flag_setFlag_off _ (by decide), State.flag_setBit_off _ (by decide)]
  · rw [State.bump, State.flag_setFld_off _ (by decide), State.flag_setFld_off _ (by decide), State.flag_setFld_off _ (by decide),
      State.flag_setBit_off _ (by decide)]

theorem State.compareFire_on (on : s.flag F.TIDE_CMP_CTRL_EN k = true) (valid : s.flag F.TIDE_STAT_VALID = true) (hv : v = s.reach (s.target k))
    (hw : w = v.compareFired k (diff64 v.logical (s.target k)).toNat) :
    s.compareFire k = if s.flag F.TIDE_CMP_CTRL_JNL k then w.raise .TIDE_CMP k else w := by
  have jnl : w.flag F.TIDE_CMP_CTRL_JNL k = s.flag F.TIDE_CMP_CTRL_JNL k := by
    rw [hw, State.jnl_compareFired, hv]
    exact State.flag_of_rd (State.rd_reach ..)
  have target : (v.setBit F.TIDE_CMP_FLAG_FLAG 0 k).target k = v.target k := by
    rw [State.target, State.target, State.fld_setBit_off _ (by decide), State.fld_setBit_off _ (by decide)]
  have same : v.target k = s.target k := hv ▸ State.target_reach ..
  rw [← jnl]
  refine (if_neg (by simp [on, valid])).trans ?_
  rw [← hv, hw, State.compareFired]
  simp only [target, same, Nat.add_sub_cancel]

end

/-- Settles O34: each event is the branch of its operation in which its conditions hold; of a 64-bit command the low word is kept and the
high word acts. -/
theorem tide : Obligations.Tide := by
  unfold Obligations.Tide
  refine ⟨?pps, ?ppsOff, ?lost, ?left, ?other, ?idle, ?holdLong, ?notHoldLong, ?self, ?notSelf, ?rate, ?step, ?stepRefused, ?set, ?setAgain,
    ?setRefused, ?cmpOff, ?cmpOnce, ?cmpPeriod, ?winOff, ?winOpens, ?winEnds, ?syncOff, ?sync⟩
  case pps =>
    exact fun s rising ago t o v awake runs on chosen sound ht hv ho =>
      State.runOn_next rfl awake (State.ppsEdge_on runs on chosen sound ht hv ho)
  case ppsOff => exact fun s rising ago awake off => State.runOn_next rfl awake (State.ppsEdge_off off)
  case lost =>
    rintro s _ awake rfl none used automatic valid
    exact State.runOn_next rfl awake (State.chooseSource_lost none used automatic valid)
  case left =>
    rintro s _ awake rfl none used h
    exact State.runOn_next rfl awake (State.chooseSource_left none used h)
  case other =>
    rintro s _ w k c awake rfl best hw
    exact State.runOn_next rfl awake (State.chooseSource_some best hw)
  case idle =>
    intro s awake none unused automatic unusable
    have now : (if s.srcUsable s.activeSrc then (s.srcEnd s.activeSrc).getD s.now else s.now) = s.now := by
      rw [unused, unusable]
      rfl
    refine State.runOn_next rfl awake ?_
    rw [State.sourceLoss, now, State.advanceTo_self]
    exact State.chooseSource_none none unused automatic
  case holdLong => exact fun s awake runs holds sound => State.runOn_next rfl awake (State.holdLong_free runs holds sound)
  case notHoldLong => exact fun s awake off => State.runOn_next rfl awake (State.holdLong_off off)
  case self =>
    exact fun s v awake runs invalid on booted sound early hv =>
      State.runOn_next rfl awake (State.selfValid_on runs invalid on booted sound early hv)
  case notSelf => exact fun s awake off => State.runOn_next rfl awake (State.selfValid_off off)
  case rate => exact fun s a v h => exec_put rfl h rfl rfl rfl fun code => State.put_tideRate _ code v
  case step =>
    intro s a v h _ small ok none
    obtain ⟨u, b, j, frame, written⟩ := State.busWrite_step h v
    rw [Nat.mod_eq_of_lt small, State.manualStep_goes (frame.manualOk.trans ok) (frame.store ▸ none)] at written
    refine State.run_completes rfl ?_
    rw [State.viaPair, written]
    refine ⟨?_, ?_, ?_⟩
    · exact (congrArg TideSt.a (State.stepReport_tide _)).trans (by rw [← frame.tide]; rfl)
    · exact (congrArg TideSt.f (State.stepReport_tide _)).trans (by rw [← frame.tide]; rfl)
    · exact (State.flag_written ..).trans (State.flag_stepReport_step _)
  case stepRefused =>
    intro s a v h _ refused
    obtain ⟨u, b, j, frame, written⟩ := State.busWrite_step h v
    rw [State.manualStep_refused (frame.manualOk.trans refused)] at written
    refine State.run_completes rfl ?_
    rw [State.viaPair, written]
    exact ⟨frame.tide, (State.flag_written ..).trans (State.flag_setFlag_self _ (by decide) _)⟩
  case set =>
    intro s a v h _ small ok invalid
    obtain ⟨u, b, j, frame, written⟩ := State.busWrite_set h v
    rw [Nat.mod_eq_of_lt small, State.manualSet_first (frame.manualOk.trans ok) ((frame.flag 0 (by decide)).trans invalid)] at written
    have set := (State.setTo_manualSetTo (s := u) small).winOpen.written b j
    refine State.run_completes rfl ?_
    rw [State.viaPair, written]
    exact ⟨set.logical, set.valid, set.fine⟩
  case setAgain =>
    intro s a v h _ small ok valid none
    obtain ⟨u, b, j, frame, written⟩ := State.busWrite_set h v
    rw [Nat.mod_eq_of_lt small,
      State.manualSet_again (frame.manualOk.trans ok) ((frame.flag 0 (by decide)).trans valid) (frame.store ▸ none)] at written
    have set := ((State.setTo_manualSetTo (s := u) small).stepReport (diff64 v u.logical)).winOpen.written b j
    refine State.run_completes rfl ?_
    rw [State.viaPair, written]
    exact ⟨set.logical, set.valid, set.fine, (State.flag_written ..).trans <| (State.flag_winOpen _ _).trans (State.flag_stepReport_step _)⟩
  case setRefused =>
    intro s a v h _ refused
    obtain ⟨u, b, j, frame, written⟩ := State.busWrite_set h v
    rw [State.manualSet_refused (frame.manualOk.trans refused)] at written
    refine State.run_completes rfl ?_
    rw [State.viaPair, written]
    exact ⟨frame.tide, (State.flag_written ..).trans (State.flag_setFlag_self _ (by decide) _)⟩
  case cmpOff => exact fun s k awake off => State.runOn_next rfl awake (State.compareFire_off off)
  case cmpOnce =>
    rintro s k v _ awake on valid once hv rfl
    have once' : v.fld F.TIDE_CMP_PER_PER k = 0 := by rw [hv, State.fld_reach, once]
    exact State.runOn_next rfl awake (State.compareFire_on on valid hv (State.compareFired_once once').symm)
  case cmpPeriod =>
    rintro s k n t v _ awake on valid period hv hn ht rfl
    have same : v.fld F.TIDE_CMP_PER_PER k = s.fld F.TIDE_CMP_PER_PER k := by rw [hv, State.fld_reach]
    have target : v.target k = s.target k := hv ▸ State.target_reach ..
    rw [← same] at period hn ht
    rw [← target] at ht
    exact State.runOn_next rfl awake (State.compareFire_on on valid hv (State.compareFired_period period hn ht).symm)
  case winOff => exact fun s off => State.run_next rfl (State.aonWindow_off off)
  case winOpens => exact fun s valid fine none => State.run_next rfl (State.aonWindow_opens valid fine none)
  case winEnds =>
    rintro s k l _ valid fine window rfl
    exact State.run_next rfl (State.aonWindow_ends valid fine window rfl)
  case syncOff => exact fun s p origin ago corr awake off => State.runOn_next rfl awake (State.syncIn_off off)
  case sync => exact fun s p origin ago corr awake on slave => State.runOn_next rfl awake (State.syncIn_slave on slave)

end Sys2Proof.Machine
end

section
/-! CAN controllers (R386 to R418): control, recovery, rate detection, traffic, reference messages and wake. -/

namespace Sys2Proof.Machine

/-! ## Writes to the CAN block -/

/-- A granted write that acts in the state `w` to which the event before it has led. -/
theorem exec_put_after {c : Instr} {s w : State} {a : Acc} {r : Reg} {i v : Nat} {f : State → State × Nat}
    (h : exec c s = .next (State.finish s (w.busPut a r i v))) (granted : w.granted a r i) (route : routeReg r = false)
    (high : atomicHigh r = none) (low : atomicLow r = none)
    (put : ∀ code, (w.dropHeld (w.who a).code (r.addr i)).put code r i (BitVec.ofNat 32 v) 0xFFFFFFFF =
      f (w.dropHeld (w.who a).code (r.addr i))) : exec c s = .next (State.finish s (w.wrote a r i f)) := by
  rw [h, (State.busPut_wrote granted v route high low).trans (w.wrote_congr a r i (put _))]

/-- A write to a register of the CAN block is judged by `State.wrCan`. -/
theorem State.put_can (s : State) (c : Nat) {r : Reg} (i : Nat) (w m : Word) (inCan : regsCAN.contains r = true)
    (elsewhere : (regsCUST ++ regsSW ++ regsPROT ++ regsCAL ++ regsINJ ++ regsEVE ++ regsLEDS ++ regsDIO ++ regsBOLL).contains r = false) :
    s.put c r i w m = s.wrCan r i (s.merge r i w m) (r.fired w m) := by
  simp only [List.contains_append, Bool.or_eq_false_iff] at elsewhere
  simp only [State.put, inCan, elsewhere, Bool.false_eq_true, if_false, if_true]

theorem State.put_canCtrl (s : State) (c p v : Nat) : s.put c .CAN_CTRL p (BitVec.ofNat 32 v) 0xFFFFFFFF =
    s.wrCanCtrl p (s.merge .CAN_CTRL p (BitVec.ofNat 32 v) 0xFFFFFFFF) := by
  rw [State.put_can _ _ _ _ _ (by decide) (by decide), State.wrCan]

theorem State.put_recover (s : State) (c p : Nat) : s.put c .CAN_CMD p (BitVec.ofNat 32 1) 0xFFFFFFFF = (s.boRecover p, 0) := by
  rw [State.put_can _ _ _ _ _ (by decide) (by decide), State.wrCan]
  exact (if_neg (by decide)).trans (congrArg (·, 0) ((if_neg (by decide)).trans (if_pos (by decide))))

theorem State.put_detStart (s : State) (c p : Nat) : s.put c .CAN_CMD p (BitVec.ofNat 32 2) 0xFFFFFFFF = (s.detStart p, 0) := by
  rw [State.put_can _ _ _ _ _ (by decide) (by decide), State.wrCan]
  refine (if_neg (by decide)).trans (congrArg (·, 0) ((if_pos (by decide)).trans ?_))
  exact congrArg (State.detStart · p) (if_neg (by decide))

theorem State.put_canReenable (s : State) (c p : Nat) :
    s.put c .CAN_CMD p (BitVec.ofNat 32 4) 0xFFFFFFFF = refusedAs abState (s.reenableUnit .can) := by
  rw [State.put_can _ _ _ _ _ (by decide) (by decide), State.wrCan]
  refine (if_pos (by decide)).trans (congrArg (fun u => refusedAs abState (State.reenableUnit u .can)) ?_)
  exact (if_neg (by decide)).trans (if_neg (by decide))

/-- What REQ and ABORT of CAN_TXB_CMD fire. -/
theorem txbCmd_fired (mask : Fin 8) :
    F.CAN_TXB_CMD_REQ.of (Reg.fired .CAN_TXB_CMD (BitVec.ofNat 32 mask.val) 0xFFFFFFFF) = mask ∧
      F.CAN_TXB_CMD_ABORT.of (Reg.fired .CAN_TXB_CMD (BitVec.ofNat 32 mask.val) 0xFFFFFFFF) = 0 ∧
      F.CAN_TXB_CMD_REQ.of (Reg.fired .CAN_TXB_CMD (BitVec.ofNat 32 (mask.val % 8 * 16)) 0xFFFFFFFF) = 0 ∧
      F.CAN_TXB_CMD_ABORT.of (Reg.fired .CAN_TXB_CMD (BitVec.ofNat 32 (mask.val % 8 * 16)) 0xFFFFFFFF) = mask := by
  revert mask
  decide

theorem State.put_txReq (s : State) (c p : Nat) (mask : Fin 8) :
    s.put c .CAN_TXB_CMD p (BitVec.ofNat 32 mask.val) 0xFFFFFFFF = (s.txCmd p mask 0 (s.canc p).onBus.isSome, 0) := by
  obtain ⟨req, abort, -, -⟩ := txbCmd_fired mask
  rw [State.put_can _ _ _ _ _ (by decide) (by decide), State.wrCan, req, abort]

theorem State.put_txAbort (s : State) (c p : Nat) (mask : Fin 8) :
    s.put c .CAN_TXB_CMD p (BitVec.ofNat 32 (mask.val % 8 * 16)) 0xFFFFFFFF = (s.txCmd p 0 mask (s.canc p).onBus.isSome, 0) := by
  obtain ⟨-, -, req, abort⟩ := txbCmd_fired mask
  rw [State.put_can _ _ _ _ _ (by decide) (by decide), State.wrCan, req, abort]

theorem State.put_rxfAck (s : State) (c p v : Nat) : s.put c .CAN_RXF_ACK p (BitVec.ofNat 32 v) 0xFFFFFFFF =
    ((s.wr .CAN_RXF_ACK p (s.merge .CAN_RXF_ACK p (BitVec.ofNat 32 v) 0xFFFFFFFF)).fifoAck p (F.CAN_RXF_ACK_COUNT.of (BitVec.ofNat 32 v)), 0) := by
  have count := Fld.of_merge s (f := F.CAN_RXF_ACK_COUNT) (r := .CAN_RXF_ACK) p (BitVec.ofNat 32 v) (by decide) (by decide)
  rw [State.put_can _ _ _ _ _ (by decide) (by decide), State.wrCan, count]

/-! ## Recovery and rate detection (R394, R395, R408) -/

section
variable {s v : State} {p : Nat}

theorem State.canc_congr {u : State} (h : u.can = s.can) (n : Nat) : u.canc n = s.canc n := by rw [State.canc, State.canc, h]

theorem State.detWindow_off (off : s.canDet p = false) : s.detWindow p = s := if_pos (by rw [off]; rfl)

theorem State.detWindow_next {k : Nat} (on : s.canDet p = true) (next : s.nextCand p ((s.canc p).cand + 1) = some k)
    (hv : v = s.advanceTo ((s.canc p).winAt + ms (10 * s.fld F.CAN_DET_CFG_WIN p))) :
    s.detWindow p = v.setCanc p { s.canc p with cand := k, good := 0, bad := false, winAt := v.now } := by
  subst hv
  have next' (t : Nat) : (s.advanceTo t).nextCand p ((s.canc p).cand + 1) = some k := next
  refine (if_neg (by rw [on]; decide)).trans ?_
  simp only [next']

theorem State.detWindow_none (on : s.canDet p = true) (none : s.nextCand p ((s.canc p).cand + 1) = none)
    (hv : v = s.advanceTo ((s.canc p).winAt + ms (10 * s.fld F.CAN_DET_CFG_WIN p))) :
    s.detWindow p = ((v.setCanc p { s.canc p with cand := (s.nextCand p 0).getD 0, good := 0, bad := false, winAt := v.now }).setFlag
      F.CAN_EVT_DET_FAIL p).raise .CAN_RATE_NOT_FOUND p [] (sec 10) := by
  subst hv
  have none' (t : Nat) : (s.advanceTo t).nextCand p ((s.canc p).cand + 1) = Option.none := none
  refine (if_neg (by rw [on]; decide)).trans ?_
  simp only [none']
  rfl

theorem State.boDelayEnd_off (off : s.fld F.CAN_STAT_STATE p ≠ 2 ∨ s.flag F.CAN_CTRL_BO_MAN p = true ∨ (s.canc p).limited = true) :
    s.boDelayEnd p = s := if_pos off

theorem State.boDelayEnd_counts (busOff : s.fld F.CAN_STAT_STATE p = 2) (automatic : s.flag F.CAN_CTRL_BO_MAN p = false)
    (unlimited : (s.canc p).limited = false) : s.boDelayEnd p =
      (s.advanceTo ((s.canc p).boffAt + ms (10 * s.fld F.CAN_CTRL_BO_DELAY p))).setCanc p { s.canc p with counting := true } :=
  if_neg (by simp [busOff, automatic, unlimited])

theorem State.boRecovered_off (off : s.fld F.CAN_STAT_STATE p ≠ 2 ∨ (s.canc p).counting = false) : s.boRecovered p = s :=
  if_pos (by simpa using off)

theorem State.boRecovered_ends (busOff : s.fld F.CAN_STAT_STATE p = 2) (counting : (s.canc p).counting = true) : s.boRecovered p =
    (((((s.setFld F.CAN_STAT_STATE p 0).setFld F.CAN_ERR_TEC p 0).setFld F.CAN_ERR_REC p 0).setCanc p
      { s.canc p with counting := false }).clearFault .CAN_BUS_OFF p).clearFault .CAN_ERR_PASSIVE p := by
  have canc : (((s.setFld F.CAN_STAT_STATE p 0).setFld F.CAN_ERR_TEC p 0).setFld F.CAN_ERR_REC p 0).canc p = s.canc p :=
    State.canc_congr (by rw [State.setFld_can, State.setFld_can, State.setFld_can]) p
  rw [← canc]
  exact if_neg (by simp [busOff, counting])

end

/-- Settles O29: each write of a command reaches the controller's operation, each event is the branch in which its conditions hold. -/
theorem canControllers : Obligations.CanControllers := by
  unfold Obligations.CanControllers
  refine ⟨?ctrl, ?reenable, ?recover, ?det, ?next, ?none, ?notDet, ?counts, ?notCounts, ?recovered, ?notRecovered⟩
  case ctrl =>
    rintro s a p v act w rfl h
    refine exec_put_after rfl h rfl rfl rfl fun code => (State.put_canCtrl _ code p v).trans ?_
    rw [State.merge_dropHeld]
  case reenable => exact fun s a p h => exec_put rfl h rfl rfl rfl fun code => State.put_canReenable _ code p
  case recover => exact fun s a p h => exec_put rfl h rfl rfl rfl fun code => State.put_recover _ code p
  case det => exact fun s a p h => exec_put rfl h rfl rfl rfl fun code => State.put_detStart _ code p
  case next => exact fun s p k v awake on next hv => State.runOn_next rfl awake (State.detWindow_next on next hv)
  case none => exact fun s p v awake on none hv => State.runOn_next rfl awake (State.detWindow_none on none hv)
  case notDet => exact fun s p awake off => State.runOn_next rfl awake (State.detWindow_off off)
  case counts =>
    exact fun s p awake busOff automatic unlimited => State.runOn_next rfl awake (State.boDelayEnd_counts busOff automatic unlimited)
  case notCounts => exact fun s p awake off => State.runOn_next rfl awake (State.boDelayEnd_off off)
  case recovered => exact fun s p awake busOff counting => State.runOn_next rfl awake (State.boRecovered_ends busOff counting)
  case notRecovered => exact fun s p awake off => State.runOn_next rfl awake (State.boRecovered_off off)

end Sys2Proof.Machine
end

section
/-! Frames on the CAN buses and the transmit requests (R397 to R412, R470). -/

namespace Sys2Proof.Machine

section
variable {s v w x y : State} {p b t ago lec tec n : Nat} {f : CanFrame} {data dom header collide free : Bool}

theorem exec_canFrameReceived {p : Fin 8} (wf : f.wf = true) :
    exec (.canFrameReceived p f ago) s = .next (s.runOn fun s => s.canFrame p f ago) := if_pos wf

theorem State.canFrame_deaf (deaf : s.canHears p = false) (other : s.nmState p ≠ 4) : s.canFrame p f ago = s := by
  have receive : s.canReceive p f ago = s := (if_pos (by rw [deaf]; rfl)).trans (if_neg other)
  have unheard : ¬ (s.canHears p && !s.canDet p) = true := by simp [deaf]
  exact (if_neg unheard).trans receive

theorem State.canError_deaf (deaf : s.canHears p = false) : s.canError p lec data dom header = s := if_pos (by rw [deaf]; rfl)

theorem State.canError_heard (hears : s.canHears p = true)
    (hv : v = (((s.arbLost p).lastError p lec data).bump F.CAN_ERR_REC p (if dom then 8 else 1)).errJudge p) :
    s.canError p lec data dom header =
      (if v.canDet p then v.setCanc p { v.canc p with good := 0, bad := true }
       else if header && v.gwyRuns && v.flag F.GWY_SRC_CFG_EN p then v.bump F.GWY_CNT0_SPEC_UNWIND else v).canIdle p := by
  have heard : ¬ (!s.canHears p) = true := by simp [hears]
  subst hv
  exact if_neg heard

theorem State.canSent_none (none : s.sending p = none) : s.canSent p ago = s := by
  simp only [State.canSent, none]

/-- The loop delay that a frame with bit rate switch measures (R388). -/
def State.delayMeasured (s : State) (p : Nat) (f : CanFrame) : State :=
  if f.fdf && f.brs && s.flag F.CAN_TDC_EN p then (s.draw 7).2.setFld F.CAN_TDC_TDCV p (s.draw 7).1 else s

/-- The counters and flags of a frame that has been sent (R407). -/
def State.sentCounted (s : State) (p : Nat) : State :=
  ((((s.setFld F.CAN_ERR_TEC p (s.fld F.CAN_ERR_TEC p - 1)).errJudge p).setFlag F.CAN_EVT_TX_DONE p).setFlag F.CAN_STAT_SYNC p).setFld
    F.CAN_TXB_STAT_CCNT p 0

theorem State.delayMeasured_can : (s.delayMeasured p f).can = s.can := by
  unfold State.delayMeasured
  split
  · exact State.setFld_can ..
  · rfl

theorem State.errJudge_can : (s.errJudge p).can = s.can := by
  unfold State.errJudge
  extract_lets passive st
  split
  · rw [State.raise_can, State.setFlag_can, State.setFld_can]
  split
  · rw [State.clearFault_can, State.setFld_can]
  · rfl

theorem State.sentCounted_can : (s.sentCounted p).can = s.can := by
  rw [State.sentCounted, State.setFld_can, State.setFlag_can, State.setFlag_can, State.errJudge_can, State.setFld_can]

theorem State.canSent_buffer (sends : s.sending p = some (b, f)) (buffer : b < 3)
    (ht : t = if s.flag F.TIDE_STAT_VALID then s.stampAgo ago else 0) (hv : v = s.delayMeasured p f) (hw : w = v.sentCounted p)
    (hx : x = w.setWord (txAddr p b + 4) (putBit (putBit (w.word (txAddr p b + 4)) 7 (w.flag F.TIDE_STAT_VALID)) 20
      (w.flag F.TIDE_STAT_COARSE))) :
    s.canSent p ago = ((((x.setBytes (txAddr p b + 8) (leBytes 8 t)).setFld F.CAN_TXTS_LO_T (p * 3 + b) t).setFld F.CAN_TXTS_HI_T
      (p * 3 + b) (t / 2 ^ 32)).txEnd p b 1).canIdle p := by
  subst hx hw hv ht
  simp only [State.canSent, sends]
  exact if_pos buffer

/-- What a frame of the timer slot of this kind does once it has left (R412, R492). -/
def State.timerSent (s : State) (p t kind : Nat) : State :=
  if kind = 1 then (if s.managed p then s.restartSilence p else s)
  else if kind = 2 then s.setCanc p { s.canc p with ownRef := some t, refAt := some s.now }
  else s

theorem State.canSent_timer {z : TimerFrame} {rest : List TimerFrame} (sends : s.sending p = some (3, f)) (head : (s.canc p).timer = z :: rest)
    (ht : t = if s.flag F.TIDE_STAT_VALID then s.stampAgo ago else 0) (hw : w = (s.delayMeasured p f).sentCounted p)
    (hx : x = (w.timerDone p true).canIdle p) : s.canSent p ago = x.timerSent p t z.kind := by
  have kept : (w.canc p).timer = z :: rest := by
    rw [hw, State.canc_congr (State.sentCounted_can.trans State.delayMeasured_can), head]
  have kind : (match (w.canc p).timer.head? with | some x => x.kind | none => 0) = z.kind := by rw [kept]; rfl
  rw [← kind]
  subst hx hw ht
  simp only [State.canSent, sends]
  exact if_neg (by decide)

/-! ## Attempts that fail (R407, R410) -/

theorem State.canTxError_none (none : s.sending p = none) : s.canTxError p lec data collide free = s := by rw [State.canTxError, none]

/-- The collision count that an attempt of frame `f` in slot `b` goes on from (R410). -/
def State.collOf (s : State) (p b : Nat) (f : CanFrame) : Coll :=
  ((lookup b (s.canc p).coll).filter fun e => decide (e.id = f.id ∧ e.xtd = f.xtd)).getD { id := f.id, xtd := f.xtd }

theorem State.collOf_none (h : lookup b (s.canc p).coll = none) : s.collOf p b f = { id := f.id, xtd := f.xtd } := by
  rw [State.collOf, h]
  rfl

theorem State.collOf_some {e : Coll} (h : lookup b (s.canc p).coll = some e) :
    s.collOf p b f = if e.id = f.id ∧ e.xtd = f.xtd then e else { id := f.id, xtd := f.xtd } := by
  rw [State.collOf, h]
  by_cases same : e.id = f.id ∧ e.xtd = f.xtd
  · simp only [same, and_self, if_true, Option.filter_some, decide_true, Option.getD_some]
  · simp only [same, if_false, Option.filter_some, decide_false, Bool.false_eq_true, Option.getD_none]

/-- The error of an attempt is kept, and TEC and the error state follow (R407). -/
def State.attemptFailed (s : State) (p lec tec : Nat) (data : Bool) : State :=
  ((s.lastError p lec data).setFld F.CAN_ERR_TEC p (Nat.min tec 255)).errJudge p

/-- The collision count of the slot is kept, and the attempt leaves the bus. -/
def State.collKept (s : State) (p b n : Nat) (k : Coll) : State :=
  (s.setCanc p { s.canc p with coll := assoc b { k with n := n } (s.canc p).coll, onBus := none }).setFld F.CAN_TXB_STAT_CCNT p (Nat.min n 63)

/-- A slot that has collided COLL_THR times ends, and its identifier is kept (R410). -/
def State.collEnded (s : State) (p b : Nat) (f : CanFrame) : State :=
  (((if b < 3 then s.txEnd p b 3 else s.timerDone p false).setFld F.CAN_COLL_ID p f.id).setFlag F.CAN_COLL_XTD p f.xtd).setFlag F.CAN_EVT_COLL p

/-- The collision is reported once a second, and its identifier goes into quarantine (R410). -/
def State.collReported (s : State) (p z : Nat) (f : CanFrame) : State :=
  (if (lookup z (s.canc p).collAt).any (fun t => decide (s.now < t + sec 1)) then s
   else (s.setCanc p { s.canc p with collAt := assoc z s.now (s.canc p).collAt }).raise .ID_COLLISION p [z]).quarEnter p f.id f.xtd

/-- The collision is noted before it is reported (R410). -/
def State.collNoted (s : State) (p z : Nat) : State :=
  (s.setCanc p { s.canc p with collAt := assoc z s.now (s.canc p).collAt }).raise .ID_COLLISION p [z]

theorem State.collReported_first {z : Nat} (h : lookup z (s.canc p).collAt = none) :
    s.collReported p z f = (s.collNoted p z).quarEnter p f.id f.xtd := by
  rw [State.collReported, h]
  rfl

theorem State.collReported_again {z : Nat} (h : lookup z (s.canc p).collAt = some t) :
    s.collReported p z f = (if decide (s.now < t + sec 1) then s else s.collNoted p z).quarEnter p f.id f.xtd := by
  rw [State.collReported, h, Option.any_some, State.collNoted]

/-- What the count of its collisions does to the slot of a failed attempt (R398, R410). -/
def State.attemptJudged (s : State) (p b n z : Nat) (f : CanFrame) : State :=
  if s.fld F.CAN_ERRCFG_COLL_THR p ≤ n then (s.collEnded p b f).collReported p z f
  else if b < 3 ∧ bitOf (s.canc p).abort b = true then s.txEnd p b 2
  else s

theorem State.attemptFailed_can : (s.attemptFailed p lec tec data).can = s.can := by
  rw [State.attemptFailed, State.errJudge_can, State.setFld_can, State.lastError, State.setFlag_can, State.setFld_can]

theorem State.fld_errJudge {g : Fld} {i : Nat} (h : g.reg ≠ .CAN_STAT ∧ g.reg ≠ .CAN_EVT) : (s.errJudge p).fld g i = s.fld g i := by
  have stat (u : State) (n : Nat) : (u.setFld F.CAN_STAT_STATE p n).fld g i = u.fld g i :=
    u.fld_setFld_ne fun e => h.1 (congrArg Prod.fst e)
  have evt (u : State) : (u.setFlag F.CAN_EVT_EPASS p).fld g i = u.fld g i := u.fld_setFld_ne fun e => h.2 (congrArg Prod.fst e)
  unfold State.errJudge
  extract_lets passive st
  split
  · rw [State.fld_raise, evt, stat]
  split
  · rw [State.fld_clearFault, stat]
  · rfl

theorem State.threshold_attemptFailed {i : Nat} :
    (s.attemptFailed p lec tec data).fld F.CAN_ERRCFG_COLL_THR i = s.fld F.CAN_ERRCFG_COLL_THR i := by
  rw [State.attemptFailed, State.fld_errJudge (by decide), State.fld_setFld_off _ (by decide), State.lastError,
    State.fld_setFlag_off _ (by decide), State.fld_setFld_off _ (by decide)]

theorem State.threshold_collKept {k : Coll} {i : Nat} :
    (s.collKept p b n k).fld F.CAN_ERRCFG_COLL_THR i = s.fld F.CAN_ERRCFG_COLL_THR i := by
  rw [State.collKept, State.fld_setFld_off _ (by decide)]
  rfl

theorem State.abort_collKept {k : Coll} : ((s.collKept p b n k).canc p).abort = (s.canc p).abort := by
  rw [State.collKept, State.canc_congr (State.setFld_can ..), State.canc_setCanc]

theorem State.canTxError_sends {k : Coll} (sends : s.sending p = some (b, f)) (htec : tec = s.fld F.CAN_ERR_TEC p + (if free then 0 else 8))
    (hv : v = s.attemptFailed p lec tec data) (hk : k = v.collOf p b f) (hn : n = if collide then k.n + 1 else 0)
    (hw : w = v.collKept p b n k) {z : Nat}
    (hz : z = f.id + bit01 f.xtd * 2 ^ 29) :
    s.canTxError p lec data collide free = (if 255 < tec then (w.attemptJudged p b n z f).busOff p else w.attemptJudged p b n z f).canIdle p := by
  have counted : (s.lastError p lec data).fld F.CAN_ERR_TEC p = s.fld F.CAN_ERR_TEC p := by
    rw [State.lastError, State.fld_setFlag_off _ (by decide), State.fld_setFld_off _ (by decide)]
  have ended : ∃ x, x = w.collEnded p b f := ⟨_, rfl⟩
  obtain ⟨x, hx⟩ := ended
  rw [← counted] at htec
  rw [State.attemptFailed] at hv
  rw [State.attemptJudged, ← hx]
  rw [State.collKept] at hw
  rw [State.collEnded] at hx
  cases look : lookup b (v.canc p).coll with
  | none =>
    rw [State.collOf_none look] at hk
    simp only [hk] at hn hw
    simp only [State.canTxError, sends, ← htec, ← hv, look, ← hn, ← hw, ← hx, ← hz]
    cases recent : lookup z (x.canc p).collAt with
    | none =>
      rw [State.collReported_first recent, State.collNoted]
      simp only [Bool.false_eq_true, if_false]
    | some t => rw [State.collReported_again recent, State.collNoted]
  | some e =>
    rw [State.collOf_some look] at hk
    simp only [State.canTxError, sends, ← htec, ← hv, look, ← hk, ← hn, ← hw, ← hx, ← hz]
    cases recent : lookup z (x.canc p).collAt with
    | none =>
      rw [State.collReported_first recent, State.collNoted]
      simp only [Bool.false_eq_true, if_false]
    | some t => rw [State.collReported_again recent, State.collNoted]

theorem State.attemptJudged_below {z : Nat} (below : n < s.fld F.CAN_ERRCFG_COLL_THR p) :
    s.attemptJudged p b n z f = if b < 3 ∧ bitOf (s.canc p).abort b = true then s.txEnd p b 2 else s := if_neg (Nat.not_le_of_lt below)

theorem State.attemptJudged_reached {z : Nat} (reached : s.fld F.CAN_ERRCFG_COLL_THR p ≤ n) :
    s.attemptJudged p b n z f = (s.collEnded p b f).collReported p z f := if_pos reached

theorem State.collOf_attemptFailed : (s.attemptFailed p lec tec data).collOf p b f = s.collOf p b f := by
  rw [State.collOf, State.collOf, State.canc_congr State.attemptFailed_can]

end

/-- Settles O30: a frame that is received, sent or in error is the branch of its operation, whose parts have names; a count of collisions
below COLL_THR goes on and one that reaches it is reported. -/
theorem canTraffic : Obligations.CanTraffic := by
  unfold Obligations.CanTraffic
  refine ⟨?received, ?deaf, ?errorDeaf, ?error, ?sentNone, ?sent, ?sentTimer, ?txNone, ?txBelow, ?txCollides, ?request, ?abort, ?abortBusy, ?ack⟩
  case received =>
    intro s p f ago awake wf
    exact State.runOn_next (exec_canFrameReceived wf) awake rfl
  case deaf =>
    intro s p f ago awake wf deaf other
    exact State.runOn_next (exec_canFrameReceived wf) awake (State.canFrame_deaf deaf other)
  case errorDeaf => exact fun s p lec data dom header awake deaf => State.runOn_next rfl awake (State.canError_deaf deaf)
  case error => exact fun s p lec data dom header v awake hears hv => State.runOn_next rfl awake (State.canError_heard hears hv)
  case sentNone => exact fun s p ago awake none => State.runOn_next rfl awake (State.canSent_none none)
  case sent =>
    exact fun s p ago b t f v w x awake sends buffer ht hv hw hx => State.runOn_next rfl awake (State.canSent_buffer sends buffer ht hv hw hx)
  case sentTimer =>
    rintro s p ago f y rest _ w x awake sends head rfl hw hx
    exact State.runOn_next rfl awake (State.canSent_timer sends head rfl hw hx)
  case txNone => exact fun s p lec data collide free awake none => State.runOn_next rfl awake (State.canTxError_none none)
  case txBelow =>
    rintro s p lec data collide free b f tec n k v _ awake sends htec rfl hk hn rfl below
    have below' : n < ((s.attemptFailed p lec tec data).collKept p b n k).fld F.CAN_ERRCFG_COLL_THR p := by
      rw [State.threshold_collKept, State.threshold_attemptFailed]
      exact below
    have abort : (((s.attemptFailed p lec tec data).collKept p b n k).canc p).abort = (s.canc p).abort := by
      rw [State.abort_collKept, State.canc_congr State.attemptFailed_can]
    rw [← State.collOf, ← State.collOf_attemptFailed (lec := lec) (tec := tec) (data := data)] at hk
    refine State.runOn_next rfl awake ((State.canTxError_sends sends htec rfl hk hn rfl rfl).trans ?_)
    rw [State.attemptJudged_below below', abort]
    rfl
  case txCollides =>
    rintro s p lec data collide free b f tec n z k v _ x y awake sends htec rfl hk hn rfl reached hz rfl rfl
    have reached' : ((s.attemptFailed p lec tec data).collKept p b n k).fld F.CAN_ERRCFG_COLL_THR p ≤ n := by
      rw [State.threshold_collKept, State.threshold_attemptFailed]
      exact reached
    rw [← State.collOf, ← State.collOf_attemptFailed (lec := lec) (tec := tec) (data := data)] at hk
    refine State.runOn_next rfl awake ((State.canTxError_sends sends htec rfl hk hn rfl hz).trans ?_)
    rw [State.attemptJudged_reached reached']
    rfl
  case request => exact fun s a p mask h => exec_put rfl h rfl rfl rfl fun code => State.put_txReq _ code p mask
  case abort => exact fun s a p mask h => exec_put rfl h rfl rfl rfl fun code => State.put_txAbort _ code p mask
  case abortBusy =>
    rintro s a p mask v rfl h
    exact exec_put_after rfl h rfl rfl rfl fun code => State.put_txAbort _ code p mask
  case ack =>
    intro s a p k h
    refine ⟨s.merge .CAN_RXF_ACK p (BitVec.ofNat 32 k) 0xFFFFFFFF, exec_put rfl h rfl rfl rfl fun code => (State.put_rxfAck _ code p k).trans ?_⟩
    rw [State.merge_dropHeld]

end Sys2Proof.Machine
end

section
/-! Reference messages and the wake detection of the CAN transceivers (R411 to R415). -/

namespace Sys2Proof.Machine

/-! ## Reference messages (R412, R413) -/

section
variable {s v : State} {p c : Nat}

theorem State.ttSend_off (off : s.flag F.TIDE_STAT_VALID = false ∨ s.flag F.TIDE_STAT_COARSE = true ∨ s.fld F.CAN_TT_CFG_ROLE p ≠ 2 ∨
    s.fld F.CAN_TT_STAT_ROLE p ≠ 2) : s.ttSend p = s :=
  if_pos (by rcases off with h | h | h | h <;> simp [h])

/-- The reference message that a master sends is the same however much time has passed. -/
theorem State.ttFrame_setCanc (t : Option Nat) : (s.setCanc p { s.canc p with ttAt := t }).ttFrame p c = s.ttFrame p c := by
  rw [State.ttFrame, State.canc_setCanc]
  rfl

/-- The time of a master's next reference message (R413). -/
def State.ttDue (s : State) (p : Nat) : State :=
  if (s.canc p).ttAt.isSome then s.advanceTo ((s.canc p).ttAt.getD 0 + s.ttCycle p) else s

theorem State.ttDue_cases : s.ttDue p = s ∨ ∃ t, s.ttDue p = s.advanceTo t := by
  unfold State.ttDue
  split
  · exact .inr ⟨_, rfl⟩
  · exact .inl rfl

theorem State.ttFrame_ttDue : (s.ttDue p).ttFrame p c = s.ttFrame p c := by
  rcases s.ttDue_cases (p := p) with h | ⟨t, h⟩ <;> rw [h]
  rfl

theorem State.cycle_ttDue : (s.ttDue p).fld F.CAN_TT_STAT_CYC p = s.fld F.CAN_TT_STAT_CYC p := by
  rcases s.ttDue_cases (p := p) with h | ⟨t, h⟩ <;> rw [h]
  rfl

theorem State.ttSend_on (master : s.fld F.CAN_TT_CFG_ROLE p = 2) (present : s.fld F.CAN_TT_STAT_ROLE p = 2)
    (valid : s.flag F.TIDE_STAT_VALID = true) (fine : s.flag F.TIDE_STAT_COARSE = false) (hc : c = (s.fld F.CAN_TT_STAT_CYC p + 1) % 64)
    (hv : v = s.ttDue p) : s.ttSend p =
      ((v.setCanc p { v.canc p with ttAt := some v.now }).timerPut p 2 (s.ttFrame p c)).setFld F.CAN_TT_STAT_CYC p c := by
  have goes : ¬ (s.fld F.CAN_TT_CFG_ROLE p ≠ 2 ∨ s.fld F.CAN_TT_STAT_ROLE p ≠ 2 ∨ (!s.flag F.TIDE_STAT_VALID) = true ∨
      s.flag F.TIDE_STAT_COARSE = true) := by simp [master, present, valid, fine]
  have frame : (v.setCanc p { v.canc p with ttAt := some v.now }).ttFrame p c = s.ttFrame p c := by
    rw [State.ttFrame_setCanc, hv, State.ttFrame_ttDue]
  rw [← State.cycle_ttDue, ← hv] at hc
  rw [← frame, hc]
  refine (if_neg goes).trans ?_
  cases last : (s.canc p).ttAt with
  | none =>
    have stays : v = s := by rw [hv, State.ttDue, last]; rfl
    rw [stays]
    rfl
  | some t =>
    have waits : v = s.advanceTo (t + s.ttCycle p) := by rw [hv, State.ttDue, last]; rfl
    rw [waits]
    rfl

theorem State.ttTakeover_off (off : s.fld F.CAN_TT_CFG_ROLE p ≠ 2 ∨ s.fld F.CAN_TT_STAT_ROLE p = 2 ∨ s.canRuns p = false) : s.ttTakeover p = s :=
  if_pos (by rcases off with h | h | h <;> simp [h])

theorem State.ttTakeover_on (potential : s.fld F.CAN_TT_CFG_ROLE p = 2) (follower : s.fld F.CAN_TT_STAT_ROLE p ≠ 2) (runs : s.canRuns p = true)
    (hv : v = ((s.advanceTo ((s.canc p).refAt.getD 0 + s.ttCycle p + us (200 * (s.fld F.CAN_TT_CFG_PRIO p + 1)))).setFld F.CAN_TT_STAT_ROLE p
      2).setFld F.CAN_TT_STAT_MPRIO p (s.fld F.CAN_TT_CFG_PRIO p)) :
    s.ttTakeover p = ((v.setCanc p { v.canc p with ttAt := none }).chooseSource).ttSend p := by
  subst hv
  refine (if_neg (by simp [potential, follower, runs])).trans ?_
  have canc (t : Nat) : (((s.advanceTo t).setFld F.CAN_TT_STAT_ROLE p 2).setFld F.CAN_TT_STAT_MPRIO p (s.fld F.CAN_TT_CFG_PRIO p)).canc p =
      (s.advanceTo t).canc p := State.canc_congr (by rw [State.setFld_can, State.setFld_can]) p
  rw [canc]

theorem State.ttLoss_off (off : s.fld F.CAN_TT_CFG_ROLE p = 0 ∨ s.canRuns p = false ∨ s.active .CAN_TT_LOSS p = true) : s.ttLoss p = s :=
  if_pos (by rcases off with h | h | h <;> simp [h])

theorem State.ttLoss_on (takes : s.fld F.CAN_TT_CFG_ROLE p ≠ 0) (runs : s.canRuns p = true) (new : s.active .CAN_TT_LOSS p = false) :
    s.ttLoss p = ((((s.advanceTo ((s.canc p).refAt.getD 0 + 3 * s.ttCycle p)).setFlag F.CAN_TT_STAT_SYNC p false).setFlag
      F.CAN_EVT_TT_LOSS p).raise .CAN_TT_LOSS p).chooseSource :=
  if_neg (by simp [takes, runs, new])

end

/-! ## The transceivers (R414, R415) -/

section
variable {s v w : State} {p : Nat} {f : CanFrame} {x : Option CanFrame}

theorem State.xcvrFrame_off (off : (s.canc p).xcvr ≠ 2 ∨ s.flag F.CAN_SW_CFG_EN p = false) : s.xcvrFrame p x = (s, none) :=
  if_pos (by rcases off with h | h <;> simp [h])

/-- An armed transceiver counts an error (R414). -/
def State.xcvrError (s : State) (p : Nat) : State × Option Nat :=
  let u := s.bump F.CAN_SW_STAT_FEC p
  if 31 < u.fld F.CAN_SW_STAT_FEC p then
    let u := (u.setFlag F.CAN_SW_STAT_FEC_OVF p).setFlag F.CAN_SW_STAT_MATCH p false
    (u.setCanc p { u.canc p with fecWake := true }, some 2)
  else (u, none)

theorem State.xcvrFrame_error (armed : (s.canc p).xcvr = 2) (on : s.flag F.CAN_SW_CFG_EN p = true)
    (error : x.all (fun f => f.fdf && !s.flag F.CAN_SW_CFG_FDTOL p) = true) : s.xcvrFrame p x = s.xcvrError p := by
  have goes : ¬ ((s.canc p).xcvr ≠ 2 ∨ (!s.flag F.CAN_SW_CFG_EN p) = true) := by simp [armed, on]
  refine (if_neg goes).trans ?_
  cases x with
  | none => rfl
  | some f =>
    simp only [Option.all_some, Bool.and_eq_true, Bool.not_eq_true'] at error
    exact (if_pos error.1).trans (if_neg (by rw [error.2]; decide))

theorem State.xcvrFrame_tolerated (fd : f.fdf = true) (tolerated : s.flag F.CAN_SW_CFG_FDTOL p = true) :
    s.xcvrFrame p (some f) = (s, none) := by
  by_cases off : (s.canc p).xcvr ≠ 2 ∨ (!s.flag F.CAN_SW_CFG_EN p) = true
  · exact if_pos off
  · exact (if_neg off).trans ((if_pos fd).trans (if_pos tolerated))

theorem State.xcvrFrame_classic (classic : f.fdf = false) (armed : (s.canc p).xcvr = 2) (on : s.flag F.CAN_SW_CFG_EN p = true)
    (hv : v = s.setFld F.CAN_SW_STAT_FEC p (s.fld F.CAN_SW_STAT_FEC p - 1)) : s.xcvrFrame p (some f) =
      if v.isWuf p f then ((v.setFlag F.CAN_SW_STAT_MATCH p).setFlag F.CAN_SW_STAT_FEC_OVF p false, some 1) else (v, none) := by
  subst hv
  exact (if_neg (by simp [armed, on])).trans (if_neg (by rw [classic]; decide))

theorem State.fec_bump : (s.bump F.CAN_SW_STAT_FEC p).fld F.CAN_SW_STAT_FEC p = Nat.min (s.fld F.CAN_SW_STAT_FEC p + 1) 63 :=
  s.fld_setFld_self (by decide) (Nat.lt_succ_of_le (Nat.min_le_right _ _))

theorem State.xcvrError_few (few : s.fld F.CAN_SW_STAT_FEC p < 31) : s.xcvrError p = (s.bump F.CAN_SW_STAT_FEC p, none) := by
  refine if_neg ?_
  rw [State.fec_bump]
  exact Nat.not_lt_of_le ((Nat.min_le_left _ _).trans few)

theorem State.xcvrError_wakes (many : 31 ≤ s.fld F.CAN_SW_STAT_FEC p)
    (hv : v = ((s.bump F.CAN_SW_STAT_FEC p).setFlag F.CAN_SW_STAT_FEC_OVF p).setFlag F.CAN_SW_STAT_MATCH p false)
    (hw : w = v.setCanc p { v.canc p with fecWake := true }) : s.xcvrError p = (w, some 2) := by
  subst hw hv
  refine if_pos ?_
  rw [State.fec_bump]
  exact Nat.lt_min.mpr ⟨Nat.lt_succ_of_le many, by decide⟩

theorem State.portWake_awake {k : Nat} {boot : BootIn} (awake : s.awake = true) : s.portWake p (some k) boot = s.passiveWake p k := if_pos awake

theorem State.portWake_asleep {k : Nat} {boot : BootIn} (asleep : s.awake = false) : s.portWake p (some k) boot = s.wakeUp k p [] boot :=
  if_neg (by rw [asleep]; decide)

theorem State.awake_of_rd {s u : State} (h : u.rd .SYS_MODE = s.rd .SYS_MODE) : u.awake = s.awake := by
  rw [State.awake, State.awake, State.mode', State.mode', State.fld, State.fld, h]

/-- What a wake-up frame shows at its transceiver. -/
def State.wufShown (s : State) (p : Nat) : State := (s.setFlag F.CAN_SW_STAT_MATCH p).setFlag F.CAN_SW_STAT_FEC_OVF p false

theorem State.awake_wufShown (hv : v = s.setFld F.CAN_SW_STAT_FEC p (s.fld F.CAN_SW_STAT_FEC p - 1)) : (v.wufShown p).awake = s.awake := by
  subst hv
  refine State.awake_of_rd ?_
  rw [State.wufShown, State.rd_setFlag_ne _ _ (by simp), State.rd_setFlag_ne _ _ (by simp), State.rd_setFld_ne _ (by simp)]

theorem State.awake_fecWake (hv : v = ((s.bump F.CAN_SW_STAT_FEC p).setFlag F.CAN_SW_STAT_FEC_OVF p).setFlag F.CAN_SW_STAT_MATCH p false)
    (hw : w = v.setCanc p { v.canc p with fecWake := true }) : w.awake = s.awake := by
  subst hw
  have same : (v.setCanc p { v.canc p with fecWake := true }).awake = v.awake := rfl
  rw [same, hv]
  refine State.awake_of_rd ?_
  rw [State.rd_setFlag_ne _ _ (by simp), State.rd_setFlag_ne _ _ (by simp), State.bump, State.rd_setFld_ne _ (by simp)]

theorem State.xcvrPattern_armed (armed : (s.canc p).xcvr = 2) (plain : s.flag F.CAN_SW_CFG_EN p = false)
    (on : s.flag F.CAN_SW_CFG_WUP p = true) : s.xcvrPattern p = some 3 :=
  if_pos ⟨armed, by rw [plain]; rfl, on⟩

theorem State.xcvrPattern_off (off : (s.canc p).xcvr ≠ 2 ∨ s.flag F.CAN_SW_CFG_EN p = true ∨ s.flag F.CAN_SW_CFG_WUP p = false) :
    s.xcvrPattern p = none :=
  if_neg (by rcases off with h | h | h <;> simp [h])

theorem exec_canSelectiveWake {p : Fin 8} {boot : BootIn} {y : State × Option Nat} {e : State} (wf : x.all CanFrame.wf = true)
    (frame : s.xcvrFrame p x = y) (wake : y.1.portWake p y.2 boot = e) : exec (.canSelectiveWake p x boot) s = .next (State.finish s e) := by
  subst frame wake
  exact if_pos wf

end

/-- Settles O31: each event is the branch of its operation in which its conditions hold; what a transceiver counts leaves the mode alone. -/
theorem canTimeAndWake : Obligations.CanTimeAndWake := by
  unfold Obligations.CanTimeAndWake
  refine ⟨?send, ?notSend, ?takeover, ?notTakeover, ?loss, ?notLoss, ?off, ?wuf, ?wufAsleep, ?notWuf, ?few, ?many, ?tolerated, ?pattern,
    ?patternAsleep, ?notPattern⟩
  case send => exact fun s p c v awake master present valid fine hc hv => State.runOn_next rfl awake (State.ttSend_on master present valid fine hc hv)
  case notSend => exact fun s p awake off => State.runOn_next rfl awake (State.ttSend_off off)
  case takeover =>
    exact fun s p v awake potential follower runs hv => State.runOn_next rfl awake (State.ttTakeover_on potential follower runs hv)
  case notTakeover => exact fun s p awake off => State.runOn_next rfl awake (State.ttTakeover_off off)
  case loss => exact fun s p awake takes runs new => State.runOn_next rfl awake (State.ttLoss_on takes runs new)
  case notLoss => exact fun s p awake off => State.runOn_next rfl awake (State.ttLoss_off off)
  case off => exact fun s p f boot wf off => exec_canSelectiveWake wf (State.xcvrFrame_off off) rfl
  case wuf =>
    intro s p f boot v wf classic armed on hv wuf awake
    exact exec_canSelectiveWake wf ((State.xcvrFrame_classic classic armed on hv).trans (if_pos wuf))
      (State.portWake_awake ((State.awake_wufShown hv).trans awake))
  case wufAsleep =>
    intro s p f boot v wf classic armed on hv wuf asleep
    exact exec_canSelectiveWake wf ((State.xcvrFrame_classic classic armed on hv).trans (if_pos wuf))
      (State.portWake_asleep ((State.awake_wufShown hv).trans asleep))
  case notWuf =>
    intro s p f boot v wf classic armed on hv other
    exact exec_canSelectiveWake wf ((State.xcvrFrame_classic classic armed on hv).trans (if_neg (by rw [other]; decide))) rfl
  case few =>
    exact fun s p f boot wf error armed on few =>
      exec_canSelectiveWake wf ((State.xcvrFrame_error armed on error).trans (State.xcvrError_few few)) rfl
  case many =>
    intro s p f boot v w wf error armed on many hv hw
    refine exec_canSelectiveWake wf ((State.xcvrFrame_error armed on error).trans (State.xcvrError_wakes many hv hw)) ?_
    rw [← State.awake_fecWake hv hw]
    rfl
  case tolerated => exact fun s p f boot wf fd tolerated => exec_canSelectiveWake wf (State.xcvrFrame_tolerated fd tolerated) rfl
  case pattern =>
    intro s p boot armed plain on awake
    exact State.run_next rfl ((congrArg (s.portWake p · boot) (State.xcvrPattern_armed armed plain on)).trans (State.portWake_awake awake))
  case patternAsleep =>
    intro s p boot armed plain on asleep
    exact State.run_next rfl ((congrArg (s.portWake p · boot) (State.xcvrPattern_armed armed plain on)).trans (State.portWake_asleep asleep))
  case notPattern =>
    intro s p boot off
    exact State.run_next rfl (congrArg (s.portWake p · boot) (State.xcvrPattern_off off))

end Sys2Proof.Machine
end

section
/-! What network time and the loss of a link leave of the other blocks' registers. -/

namespace Sys2Proof.Machine

section
variable (s : State) {r : Reg} {i : Nat}

theorem State.rd_setFld_in {l : List Reg} (out : l.contains r = false) {f : Fld} (inside : l.contains f.reg = true) (j v : Nat) :
    (s.setFld f j v).rd r i = s.rd r i :=
  s.rd_setFld_ne fun e => Bool.false_ne_true (out.symm.trans ((congrArg (l.contains ·) (congrArg Prod.fst e)).trans inside))

theorem State.rd_setFlag_in {l : List Reg} (out : l.contains r = false) {f : Fld} (inside : l.contains f.reg = true) (j : Nat) (b : Bool) :
    (s.setFlag f j b).rd r i = s.rd r i := s.rd_setFld_in out inside j _

variable (out : regsTIDE.contains r = false)
include out

theorem State.rd_useSource (slot c st : Nat) : (s.useSource slot c st).rd r i = s.rd r i := by
  rw [State.useSource, State.negotiated, State.rd_raise, State.rd_setFlag_in _ out (by decide), State.rd_setTide,
    State.rd_setFld_in _ out (by decide), State.rd_setFld_in _ out (by decide), State.rd_setFld_in _ out (by decide)]

theorem State.rd_holdover : s.holdover.rd r i = s.rd r i := by
  have source : (if s.activeSrc = 0 then s else s.useSource 0 0 4).rd r i = s.rd r i := by
    split
    · rfl
    · exact s.rd_useSource out ..
  rw [State.holdover, State.rd_setFlag_in _ out (by decide), State.rd_setTide, State.rd_setFld_in _ out (by decide), State.setRate,
    State.rd_setFld_in _ out (by decide), State.reanchor, State.rd_setTide, source]

theorem State.rd_chooseSource : s.chooseSource.rd r i = s.rd r i := by
  unfold State.chooseSource
  split
  · extract_lets w
    split
    · rw [State.rd_setFld_in _ out (by decide), State.rd_clearFault, State.rd_clearFault]
    · rw [State.rd_useSource _ out, State.rd_clearFault, State.rd_clearFault]
  split
  · split
    · exact s.rd_setFld_in out (by decide) ..
    · rfl
  split
  · exact s.rd_useSource out ..
  split
  · exact s.rd_useSource out ..
  · rw [State.rd_raise, State.rd_holdover _ out]

theorem State.rd_ptpRoles : s.ptpRoles.rd r i = s.rd r i := by
  unfold State.ptpRoles
  extract_lets on capable own best gmVec role any gm id old u v w x
  have kept : x.rd r i = s.rd r i := calc
    x.rd r i = w.rd r i := (State.rd_setFld_in _ out (by decide) ..).trans (State.rd_setFld_in _ out (by decide) ..)
    _ = v.rd r i := State.rd_setFlag_in _ out (by decide) ..
    _ = u.rd r i := State.rd_setFld_in _ out (by decide) ..
    _ = s.rd r i := State.rd_setFld_in _ out (by decide) ..
  split
  · rw [State.rd_raise, State.rd_setFlag_in _ out (by decide), kept]
  · exact kept

theorem State.rd_bmca : s.bmca.rd r i = s.rd r i := (State.rd_chooseSource _ out).trans (s.rd_ptpRoles out)

theorem State.rd_linkDrop (notEth : regsETH.contains r = false) (notClk : r ≠ .CLK_STAT) (p : Nat) : (s.linkDrop p).rd r i = s.rd r i := by
  have lock (u : State) (b : Bool) : (u.setBit F.CLK_STAT_ETH_LOCK 0 p b).rd r i = u.rd r i :=
    u.rd_setBit_ne _ _ fun e => notClk (congrArg Prod.fst e)
  have flushed : (s.ethFlush p).rd r i = s.rd r i := by
    rw [State.ethFlush, State.ethDrop, State.bump, State.rd_setFld_in _ notEth (by decide)]
    rfl
  have setUp (u : State) : (u.linkSetup p).rd r i = u.rd r i := rfl
  have down (u : State) : (u.ptpPortDown p).rd r i = u.rd r i := by
    rw [State.ptpPortDown, State.rd_bmca _ out, State.setBit, State.rd_setFld_in _ out (by decide)]
    rfl
  rw [State.linkDrop, down, setUp, lock, State.rd_setFld_in _ notEth (by decide), State.rd_setFlag_in _ notEth (by decide)]
  exact flushed

end

end Sys2Proof.Machine
end

section
/-! Links of the Ethernet ports (R420 to R433, R498): negotiation, loss, sleep and wake. -/

namespace Sys2Proof.Machine

/-- A write to a register of the ETH block is judged by `State.wrEth`. -/
theorem State.put_eth (s : State) (c : Nat) {r : Reg} (i : Nat) (w m : Word) (inEth : regsETH.contains r = true)
    (elsewhere : (regsCUST ++ regsSW ++ regsPROT ++ regsCAL ++ regsINJ ++ regsEVE ++ regsLEDS ++ regsDIO ++ regsBOLL ++ regsCAN ++
      regsGWY).contains r = false) : s.put c r i w m = s.wrEth r i (s.merge r i w m) (r.fired w m) := by
  simp only [List.contains_append, Bool.or_eq_false_iff] at elsewhere
  simp only [State.put, inEth, elsewhere, Bool.false_eq_true, if_false, if_true]

theorem State.put_reneg (s : State) (c p : Nat) : s.put c .ETH_PCMD p (BitVec.ofNat 32 1) 0xFFFFFFFF = (s.reneg p, 0) := by
  rw [State.put_eth _ _ _ _ _ (by decide) (by decide), State.wrEth, if_pos (by decide)]

theorem State.put_ethReenable (s : State) (c : Nat) :
    s.put c .ETH_SW_CMD 0 (BitVec.ofNat 32 1) 0xFFFFFFFF = refusedAs abState (s.reenableUnit .eth) := by
  rw [State.put_eth _ _ _ _ _ (by decide) (by decide), State.wrEth, if_pos (by decide)]

/-! ## Negotiation (R420, R421) -/

section
variable {s v w : State} {p adv role : Nat} {nonce m : Bool} {f : FaultId} {i : Nat}

theorem State.ethp_congr {u : State} (h : u.eth = s.eth) (n : Nat) : u.ethp n = s.ethp n := by rw [State.ethp, State.ethp, h]

theorem State.active_congr {u : State} (h : u.jnl = s.jnl) : u.active f i = s.active f i := by rw [State.active, State.active, h]

theorem State.active_raise_ne {g : FaultId} {j : Nat} (d : List Nat) (lim : Nat) (h : f ≠ g) : (s.raise g j d lim).active f i = s.active f i :=
  s.active_raiseC_ne g f _ j i d lim fun e => h (congrArg Prod.fst e)

/-- No negotiation goes on at the port. -/
theorem State.not_negotiates (off : s.ethLink p = true ∨ s.portRuns p = false ∨ s.flag F.ETH_PCTRL_AN_EN p = false) :
    (!(s.portRuns p && s.flag F.ETH_PCTRL_AN_EN p) || s.ethLink p) = true := by
  rcases off with h | h | h <;> simp [h]

theorem State.negotiates (runs : s.portRuns p = true) (on : s.flag F.ETH_PCTRL_AN_EN p = true) (down : s.ethLink p = false) :
    ¬ (!(s.portRuns p && s.flag F.ETH_PCTRL_AN_EN p) || s.ethLink p) = true := by simp [runs, on, down]

theorem State.anResult_off (off : s.ethLink p = true ∨ s.portRuns p = false ∨ s.flag F.ETH_PCTRL_AN_EN p = false) :
    s.anResult p adv role nonce = s := if_pos (State.not_negotiates off)

/-- The port has got a page: it begins anew (R421). -/
def State.pageSeen (s : State) (p : Nat) : State := s.setEthp p { s.ethp p with pageAt := s.now, fixedTry := false, retryAt := none }

/-- The negotiation is tried again 1 s later (R420). -/
def State.anAgain (s : State) (p : Nat) : State :=
  let u := s.setFld F.ETH_PSTAT_SRC p 0
  u.setEthp p { u.ethp p with retryAt := some (u.now + sec 1) }

def State.anFailed (s : State) (p : Nat) : State := (s.setFlag F.ETH_PEVT_AN_FAIL p).raise .ETH_AN_FAIL p

/-- The two sides share a speed. -/
def State.commonSpeed (s : State) (p adv : Nat) : Bool :=
  bitOf (s.fld F.ETH_PCTRL_AN_ADV p) 0 && bitOf adv 0 || bitOf (s.fld F.ETH_PCTRL_AN_ADV p) 1 && bitOf adv 1

/-- The result of a negotiation is kept. -/
def State.anSettled (s : State) (p : Nat) (fast master : Bool) : State :=
  (((s.setFlag F.ETH_PSTAT_SPEED p fast).setFlag F.ETH_PSTAT_ROLE p master).setFld F.ETH_PSTAT_SRC p 1)

theorem State.anResult_conflict (runs : s.portRuns p = true) (on : s.flag F.ETH_PCTRL_AN_EN p = true) (down : s.ethLink p = false)
    (conflict : roleOf (s.fld F.ETH_PCTRL_AN_ROLE p) role nonce = none)
    (hv : v = ((s.pageSeen p).anAgain p).raise .ETH_ROLE_CONFLICT p) :
    s.anResult p adv role nonce = if s.commonSpeed p adv then v else v.anFailed p := by
  have conflict' : roleOf ((s.pageSeen p).fld F.ETH_PCTRL_AN_ROLE p) role nonce = none := conflict
  subst hv
  refine (if_neg (State.negotiates runs on down)).trans ?_
  rw [State.pageSeen] at conflict' ⊢
  simp only [conflict']
  rfl

theorem State.anResult_agrees (runs : s.portRuns p = true) (on : s.flag F.ETH_PCTRL_AN_EN p = true) (down : s.ethLink p = false)
    (agrees : roleOf (s.fld F.ETH_PCTRL_AN_ROLE p) role nonce = some m) (hv : v = (s.pageSeen p).clearFault .ETH_ROLE_CONFLICT p) :
    s.anResult p adv role nonce =
      if s.commonSpeed p adv then (v.anSettled p (bitOf (s.fld F.ETH_PCTRL_AN_ADV p) 1 && bitOf adv 1) m).ethResult p (s.rd .ETH_PSTAT p)
      else (v.anAgain p).anFailed p := by
  have agrees' : roleOf ((s.pageSeen p).fld F.ETH_PCTRL_AN_ROLE p) role nonce = some m := agrees
  subst hv
  refine (if_neg (State.negotiates runs on down)).trans ?_
  rw [State.pageSeen] at agrees' ⊢
  simp only [agrees']
  rfl

theorem State.retryAt_anAgain : ((s.anAgain p).ethp p).retryAt = some (s.now + sec 1) := congrArg EthPort.retryAt (State.ethp_setEthp ..)

theorem State.src_anAgain : (s.anAgain p).fld F.ETH_PSTAT_SRC p = 0 := s.fld_setFld_self (by decide) (by decide)

theorem State.ethp_anFailed : (s.anFailed p).ethp p = s.ethp p := State.ethp_congr (by rw [State.anFailed, State.raise_eth, State.setFlag_eth]) p

theorem State.src_anFailed : (s.anFailed p).fld F.ETH_PSTAT_SRC p = s.fld F.ETH_PSTAT_SRC p := by
  rw [State.anFailed, State.fld_raise, State.fld_setFlag_off _ (by decide)]

theorem State.failed_anFailed : (s.anFailed p).flag F.ETH_PEVT_AN_FAIL p = true ∧ (s.anFailed p).active .ETH_AN_FAIL p = true := by
  rw [State.anFailed, State.flag_raise, State.flag_setFlag_self _ (by decide)]
  exact ⟨rfl, State.active_raise _ _ (by decide) _ _ _⟩

theorem State.active_anFailed (h : f ≠ .ETH_AN_FAIL) : (s.anFailed p).active f i = s.active f i :=
  (State.active_raise_ne _ _ h).trans (State.active_congr (State.setFlag_jnl ..))

theorem State.ethResult_cases (was : Word) : s.ethResult p was = s ∨ ∃ n, s.ethResult p was = s.raise .NEGOTIATED p [1, n] := by
  unfold State.ethResult
  extract_lets w
  split
  · exact .inl rfl
  · exact .inr ⟨_, rfl⟩

theorem State.rd_ethResult (was : Word) (r : Reg) : (s.ethResult p was).rd r i = s.rd r i := by
  rcases s.ethResult_cases (p := p) was with h | ⟨n, h⟩ <;> rw [h]
  exact State.rd_raise ..

theorem State.ethp_ethResult (was : Word) (n : Nat) : (s.ethResult p was).ethp n = s.ethp n := by
  rcases s.ethResult_cases (p := p) was with h | ⟨k, h⟩ <;> rw [h]
  exact State.ethp_congr (State.raise_eth ..) n

theorem State.active_ethResult (was : Word) (h : f ≠ .NEGOTIATED) : (s.ethResult p was).active f i = s.active f i := by
  rcases s.ethResult_cases (p := p) was with e | ⟨k, e⟩ <;> rw [e]
  exact State.active_raise_ne _ _ h

/-- What a conflict of roles leaves, in common speed or not. -/
theorem State.conflict_shows {b : Bool} (hv : v = (s.anAgain p).raise .ETH_ROLE_CONFLICT p) :
    ((if b then v else v.anFailed p).ethp p).retryAt = some (s.now + sec 1) ∧ (if b then v else v.anFailed p).fld F.ETH_PSTAT_SRC p = 0 ∧
      (if b then v else v.anFailed p).active .ETH_ROLE_CONFLICT p = true := by
  have retry : (v.ethp p).retryAt = some (s.now + sec 1) := by
    rw [hv, State.ethp_congr (State.raise_eth ..), State.retryAt_anAgain]
  have src : v.fld F.ETH_PSTAT_SRC p = 0 := by rw [hv, State.fld_raise, State.src_anAgain]
  have raised : v.active .ETH_ROLE_CONFLICT p = true := by
    rw [hv]
    exact State.active_raise _ _ (by decide) _ _ _
  cases b
  · exact ⟨(congrArg EthPort.retryAt State.ethp_anFailed).trans retry, State.src_anFailed.trans src,
      (State.active_anFailed (by decide)).trans raised⟩
  · exact ⟨retry, src, raised⟩

/-- What a settled negotiation leaves. -/
theorem State.agreed_shows {fast : Bool} {was : Word} (hw : w = ((v.anSettled p fast m).ethResult p was)) :
    w.flag F.ETH_PSTAT_SPEED p = fast ∧ w.flag F.ETH_PSTAT_ROLE p = m ∧ w.fld F.ETH_PSTAT_SRC p = 1 ∧
      (w.ethp p).retryAt = (v.ethp p).retryAt ∧ w.active .ETH_ROLE_CONFLICT p = v.active .ETH_ROLE_CONFLICT p := by
  have kept (g : Fld) : w.fld g p = (v.anSettled p fast m).fld g p := by rw [hw, State.fld, State.fld, State.rd_ethResult]
  have shown (g : Fld) : w.flag g p = (v.anSettled p fast m).flag g p := by rw [State.flag, State.flag, kept]
  refine ⟨?_, ?_, ?_, ?_, ?_⟩
  · rw [shown, State.anSettled, State.flag_setFld_off _ (by decide), State.flag_setFlag_off _ (by decide), State.flag_setFlag_self _ (by decide)]
  · rw [shown, State.anSettled, State.flag_setFld_off _ (by decide), State.flag_setFlag_self _ (by decide)]
  · rw [kept, State.anSettled, State.fld_setFld_self _ (by decide) (by decide)]
  · rw [hw, State.ethp_ethResult, State.anSettled]
    exact congrArg EthPort.retryAt (State.ethp_congr (by rw [State.setFld_eth, State.setFlag_eth, State.setFlag_eth]) p)
  · rw [hw, State.active_ethResult _ (by decide), State.anSettled]
    exact State.active_congr (by rw [State.setFld_jnl, State.setFlag_jnl, State.setFlag_jnl])

theorem State.anRetry_some {t : Nat} (again : (s.ethp p).retryAt = some t) :
    s.anRetry p adv role nonce = (s.advanceTo t).anResult p adv role nonce := by rw [State.anRetry, again]

theorem State.anRetry_none (none : (s.ethp p).retryAt = none) : s.anRetry p adv role nonce = s := by rw [State.anRetry, none]

theorem State.anExpiry_on (runs : s.portRuns p = true) (on : s.flag F.ETH_PCTRL_AN_EN p = true) (down : s.ethLink p = false)
    (hv : v = s.advanceTo ((s.ethp p).pageAt + s.anTimeout p)) :
    s.anExpiry p = v.setEthp p { s.ethp p with pageAt := v.now, fixedTry := !(s.ethp p).fixedTry } := by
  subst hv
  exact if_neg (State.negotiates runs on down)

/-! ## Links (R421, R422) -/

/-- A link comes up (R421). -/
def State.linkRises (s : State) (p : Nat) : State :=
  (((((s.setFlag F.ETH_PSTAT_LINK p).setFlag F.ETH_PEVT_UP p).setFld F.ETH_PSTAT_TC10 p 0).setBit F.CLK_STAT_ETH_LOCK 0 p true).clearFault
    .ETH_LINK_DOWN p).clearFault .ETH_AN_FAIL p

/-- The fixed setting is taken, its source `src` (R421). -/
def State.fixedTaken (s : State) (p src : Nat) : State :=
  (((s.setFld F.ETH_PSTAT_SPEED p (s.fld F.ETH_PCTRL_FIX_SPEED p)).setFld F.ETH_PSTAT_ROLE p (s.fld F.ETH_PCTRL_FIX_ROLE p)).setFld
    F.ETH_PSTAT_SRC p src).ethResult p (s.rd .ETH_PSTAT p)

theorem State.ethUp_off (off : s.portRuns p = false ∨ s.ethLink p = true ∨ (s.flag F.ETH_PCTRL_AN_EN p = true ∧ (s.ethp p).fixedTry = false ∧
    s.fld F.ETH_PSTAT_SRC p ≠ 1)) : s.ethUp p = s :=
  if_pos (by rcases off with h | h | ⟨a, b, c⟩ <;> simp [*])

theorem State.ethUp_negotiated (runs : s.portRuns p = true) (down : s.ethLink p = false) (on : s.flag F.ETH_PCTRL_AN_EN p = true)
    (open' : (s.ethp p).fixedTry = false) (settled : s.fld F.ETH_PSTAT_SRC p = 1) : s.ethUp p = s.linkRises p := by
  have negotiated : (!s.flag F.ETH_PCTRL_AN_EN p || (s.ethp p).fixedTry) = false := by rw [on, open']; rfl
  unfold State.ethUp
  simp only [negotiated, runs, down, settled, Bool.false_eq_true, if_false, Bool.false_and, Bool.not_true, Bool.not_false, bne_self_eq_false,
    Bool.and_false, Bool.or_false]
  rfl

theorem State.ethUp_fixed (runs : s.portRuns p = true) (down : s.ethLink p = false)
    (fixed : (!s.flag F.ETH_PCTRL_AN_EN p || (s.ethp p).fixedTry) = true)
    (hw : w = (s.fixedTaken p (if s.flag F.ETH_PCTRL_AN_EN p then 3 else 2)).linkRises p) :
    s.ethUp p = if s.flag F.ETH_PCTRL_AN_EN p then (w.setFlag F.ETH_PEVT_FALLBACK p).raise .ETH_AN_FALLBACK p else w := by
  have other (n : Nat) : (s.setFld F.ETH_PSTAT_SPEED p n).fld F.ETH_PCTRL_FIX_ROLE p = s.fld F.ETH_PCTRL_FIX_ROLE p := s.fld_setFld_off (by decide) n
  subst hw
  unfold State.ethUp
  simp only [fixed, runs, down, other, if_true, Bool.true_and, Bool.not_true, Bool.false_or, Bool.false_and, Bool.false_eq_true, if_false]
  rfl

theorem State.ethUp_plain (runs : s.portRuns p = true) (down : s.ethLink p = false) (off : s.flag F.ETH_PCTRL_AN_EN p = false) :
    s.ethUp p = (s.fixedTaken p 2).linkRises p :=
  (State.ethUp_fixed runs down (by rw [off]; rfl) (by rw [off]; rfl)).trans (if_neg (ne_true_of_eq_false off))

theorem State.ethUp_fallback (runs : s.portRuns p = true) (down : s.ethLink p = false) (on : s.flag F.ETH_PCTRL_AN_EN p = true)
    (fixed : (s.ethp p).fixedTry = true) (hv : v = s.fixedTaken p 3) (hw : w = v.linkRises p) :
    s.ethUp p = (w.setFlag F.ETH_PEVT_FALLBACK p).raise .ETH_AN_FALLBACK p :=
  (State.ethUp_fixed runs down (by rw [fixed, Bool.or_true]) (by rw [if_pos on, ← hv, hw])).trans (if_pos on)

theorem State.ethDown_up (up : s.flag F.ETH_PSTAT_LINK p = true) :
    s.ethDown p = ((s.linkDrop p).setFlag F.ETH_PEVT_DOWN p).raise .ETH_LINK_DOWN p := if_neg (by rw [up]; decide)

theorem State.ethDown_down (down : s.flag F.ETH_PSTAT_LINK p = false) : s.ethDown p = s := if_pos (by rw [down]; rfl)

theorem State.rd_linkRises_same : (s.linkRises p).flag F.ETH_PSTAT_LINK p = true ∧
    (s.linkRises p).fld F.ETH_PSTAT_SRC p = s.fld F.ETH_PSTAT_SRC p ∧ (s.linkRises p).fld F.ETH_PSTAT_SPEED p = s.fld F.ETH_PSTAT_SPEED p ∧
    (s.linkRises p).fld F.ETH_PSTAT_ROLE p = s.fld F.ETH_PSTAT_ROLE p := by
  unfold State.linkRises
  refine ⟨?_, ?_, ?_, ?_⟩
  · rw [State.flag_clearFault, State.flag_clearFault, State.flag_setBit_off _ (by decide), State.flag_setFld_off _ (by decide),
      State.flag_setFlag_off _ (by decide), State.flag_setFlag_self _ (by decide)]
  all_goals
    rw [State.fld_clearFault, State.fld_clearFault, State.fld_setBit_off _ (by decide), State.fld_setFld_off _ (by decide),
      State.fld_setFlag_off _ (by decide), State.fld_setFlag_off _ (by decide)]

theorem State.fld_fixedTaken {src : Nat} (small : src < 4) : (s.fixedTaken p src).fld F.ETH_PSTAT_SRC p = src ∧
    (s.fixedTaken p src).fld F.ETH_PSTAT_SPEED p = s.fld F.ETH_PCTRL_FIX_SPEED p ∧
    (s.fixedTaken p src).fld F.ETH_PSTAT_ROLE p = s.fld F.ETH_PCTRL_FIX_ROLE p := by
  have kept (u : State) (was : Word) (g : Fld) : (u.ethResult p was).fld g p = u.fld g p := congrArg _ (State.rd_ethResult was _)
  unfold State.fixedTaken
  refine ⟨?_, ?_, ?_⟩
  · rw [kept, State.fld_setFld_self _ (by decide) small]
  · rw [kept, State.fld_setFld_off _ (by decide), State.fld_setFld_off _ (by decide)]
    exact s.fld_setFld_self (f := F.ETH_PSTAT_SPEED) (by decide) (s.fld_lt F.ETH_PCTRL_FIX_SPEED p)
  · rw [kept, State.fld_setFld_off _ (by decide)]
    exact State.fld_setFld_self (f := F.ETH_PSTAT_ROLE) _ (by decide) (s.fld_lt F.ETH_PCTRL_FIX_ROLE p)

/-- A cleared fault stays clear while another is cleared. -/
theorem State.inactive_clearFault {g : FaultId} {j : Nat} (h : s.active f i = false) : (s.clearFault g j).active f i = false := by
  rw [State.active, List.any_eq_false] at h
  unfold State.clearFault
  split
  · simp only [State.active, State.journal, State.setJnl, List.any_filter, List.any_eq_false]
    exact fun x mem => by simp [h x mem]
  · rw [State.active, List.any_eq_false]
    exact h

theorem State.inactive_linkRises : (s.linkRises p).active .ETH_LINK_DOWN p = false := by
  have cleared (u : State) : ((u.clearFault .ETH_LINK_DOWN p).clearFault .ETH_AN_FAIL p).active .ETH_LINK_DOWN p = false :=
    State.inactive_clearFault (s := u.clearFault .ETH_LINK_DOWN p) (u.active_clearFault .ETH_LINK_DOWN p)
  rw [State.linkRises, cleared]

/-! ## TC10 (R431, R498) -/

theorem State.tc10Request_off (off : s.nmState (p + 8) = 1 ∨ s.nmState (p + 8) = 4 ∨ s.flag F.ETH_PCTRL_TC10_EN p = false ∨
    s.ethLink p = false) : s.tc10Request p = s :=
  if_pos (by rcases off with h | h | h | h <;> simp [h])

theorem State.tc10Request_sleeps (on : s.flag F.ETH_PCTRL_TC10_EN p = true) (up : s.ethLink p = true)
    (rests : s.nmState (p + 8) = 2 ∨ s.nmState (p + 8) = 3) (hv : v = ((s.linkDrop p).setFld F.ETH_PSTAT_TC10 p 2).segEnter (p + 8) 4) :
    s.tc10Request p = v.setNms (p + 8) { v.nms (p + 8) with isolating := false, rejectAt := none } := by
  have same : ((s.linkDrop p).setFld F.ETH_PSTAT_TC10 p 2).nmState (p + 8) = s.nmState (p + 8) := by
    rw [State.nmState, State.nmState, State.fld, State.fld, State.rd_setFld_in (l := regsETH) _ (by decide) (by decide),
      s.rd_linkDrop (by decide) (by decide) (by decide)]
  subst hv
  refine (if_neg ?awake).trans (if_pos (same.symm ▸ rests))
  case awake => rcases rests with h | h <;> simp [on, up, h]

theorem State.tc10Wake_off (off : s.fld F.ETH_PSTAT_TC10 p ≠ 2) : s.tc10Wake p = s := if_pos off

theorem State.tc10Wake_on (asleep : s.fld F.ETH_PSTAT_TC10 p = 2) :
    s.tc10Wake p = (((s.setFlag F.ETH_PEVT_WAKE p).setFld F.ETH_PSTAT_TC10 p 3).linkSetup p).passiveWake (p + 8) 10 := if_neg fun h => h asleep

theorem State.tc10Response_off {b : Bool} (off : s.nmState (p + 8) ≠ 4 ∨ s.fld F.ETH_PSTAT_TC10 p ≠ 1) : s.tc10Response p b = s := if_pos off

theorem State.tc10Response_accepts (commits : s.nmState (p + 8) = 4) (asks : s.fld F.ETH_PSTAT_TC10 p = 1) : s.tc10Response p true =
    (((s.linkDrop p).setFld F.ETH_PSTAT_TC10 p 2).setNms (p + 8) { s.nms (p + 8) with rejectAt := none }).commitDone (p + 8) :=
  (if_neg fun h => h.elim (fun h => h commits) fun h => h asks).trans (if_pos rfl)

theorem State.tc10Response_rejects (commits : s.nmState (p + 8) = 4) (asks : s.fld F.ETH_PSTAT_TC10 p = 1)
    (hv : v = ((((s.setFld F.ETH_PSTAT_TC10 p 0).setNms (p + 8) { s.nms (p + 8) with rejectAt := some ((s.nms (p + 8)).rejectAt.getD
      s.now) }).segEnter (p + 8) 2).restartSilence (p + 8)).setFlag F.NM_SEG_STAT_HELD (p + 8) false) :
    s.tc10Response p false = if s.flag F.NM_SEG_STAT_HELD (p + 8) then v.goAwake (p + 8) else v := by
  subst hv
  exact (if_neg fun h => h.elim (fun h => h commits) fun h => h asks).trans (if_neg (by decide))

end

/-- Settles O32: a failed negotiation keeps `retryAt` and `SRC` 0 whether or not the sides share a speed; a link that rises keeps what its setup
  gave; and `RENEG` and `REENABLE` are writes judged by the ETH block. -/
theorem ethLinks : Obligations.EthLinks := by
  unfold Obligations.EthLinks
  refine ⟨?anOff, ?conflict, ?agrees, ?noSpeed, ?retry, ?noRetry, ?expiry, ?upNegotiated, ?upFixed, ?upFallback, ?notUp, ?down, ?notDown,
    ?reneg, ?reenable, ?requestOff, ?request, ?wake, ?notWake, ?accepts, ?rejects, ?noAnswer⟩
  case anOff => exact fun s p adv role nonce awake off => State.runOn_next rfl awake (State.anResult_off off)
  case conflict =>
    intro s p adv role nonce awake runs on down conflict
    refine State.runOn_completes rfl awake ?_
    rw [State.anResult_conflict runs on down conflict rfl]
    exact State.conflict_shows (s := s.pageSeen p) rfl
  case agrees =>
    intro s p adv role nonce m awake runs on down agrees common
    refine State.runOn_completes rfl awake ?_
    rw [State.anResult_agrees runs on down agrees rfl, if_pos (show s.commonSpeed p adv = true from common)]
    obtain ⟨speed, master, src, retry, clear⟩ := State.agreed_shows (v := (s.pageSeen p).clearFault .ETH_ROLE_CONFLICT p) rfl
    refine ⟨speed, master, src, retry.trans ?_, clear.trans (State.active_clearFault ..)⟩
    rw [State.ethp_congr (State.clearFault_eth ..), State.pageSeen, State.ethp_setEthp]
  case noSpeed =>
    intro s p adv role nonce m awake runs on down agrees apart
    refine State.runOn_completes rfl awake ?_
    rw [State.anResult_agrees runs on down agrees rfl, if_neg (show ¬ s.commonSpeed p adv = true from ne_true_of_eq_false apart)]
    refine ⟨State.src_anFailed.trans State.src_anAgain, (congrArg EthPort.retryAt State.ethp_anFailed).trans (State.retryAt_anAgain.trans ?_),
      State.failed_anFailed⟩
    rw [State.clearFault_now, State.pageSeen, State.setEthp_now]
  case retry => exact fun s p adv role nonce t awake again => State.runOn_next rfl awake (State.anRetry_some again)
  case noRetry => exact fun s p adv role nonce awake none => State.runOn_next rfl awake (State.anRetry_none none)
  case expiry => exact fun s p v awake runs on down hv => State.runOn_next rfl awake (State.anExpiry_on runs on down hv)
  case upNegotiated =>
    exact fun s p awake runs down on open' settled => State.runOn_next rfl awake (State.ethUp_negotiated runs down on open' settled)
  case upFixed =>
    intro s p awake runs down off
    refine State.runOn_completes rfl awake ?_
    rw [State.ethUp_plain runs down off]
    obtain ⟨link, src, speed, role⟩ := State.rd_linkRises_same (s := s.fixedTaken p 2) (p := p)
    obtain ⟨src', speed', role'⟩ := State.fld_fixedTaken (s := s) (p := p) (src := 2) (by decide)
    exact ⟨link, src.trans src', speed.trans speed', role.trans role', State.inactive_linkRises⟩
  case upFallback =>
    intro s p v w awake runs down on fixed hv hw
    exact State.runOn_next rfl awake (State.ethUp_fallback runs down on fixed hv hw)
  case notUp => exact fun s p awake off => State.runOn_next rfl awake (State.ethUp_off off)
  case down => exact fun s p awake up => State.runOn_next rfl awake (State.ethDown_up up)
  case notDown => exact fun s p awake down => State.runOn_next rfl awake (State.ethDown_down down)
  case reneg => exact fun s a p h => exec_put rfl h rfl rfl rfl fun code => State.put_reneg _ code p
  case reenable => exact fun s a h => exec_put rfl h rfl rfl rfl fun code => State.put_ethReenable _ code
  case requestOff => exact fun s p awake off => State.runOn_next rfl awake (State.tc10Request_off off)
  case request => exact fun s p v awake on up rests hv => State.runOn_next rfl awake (State.tc10Request_sleeps on up rests hv)
  case wake => exact fun s p awake asleep => State.runOn_next rfl awake (State.tc10Wake_on asleep)
  case notWake => exact fun s p awake off => State.runOn_next rfl awake (State.tc10Wake_off off)
  case accepts => exact fun s p awake commits asks => State.runOn_next rfl awake (State.tc10Response_accepts commits asks)
  case rejects => exact fun s p v awake commits asks hv => State.runOn_next rfl awake (State.tc10Response_rejects commits asks hv)
  case noAnswer => exact fun s p b awake off => State.runOn_next rfl awake (State.tc10Response_off off)

end Sys2Proof.Machine
end

section
/-! Frames and addresses of the Ethernet switch (R423 to R430). -/

namespace Sys2Proof.Machine

section
variable {s v w : State} {p ago c i : Nat} {b : List Byte} {good t adm : Bool} {d : List Nat}

theorem State.ethReceive_off (off : s.ethLink p = false ∨ s.portRuns p = false) : s.ethReceive p b good ago = s :=
  if_pos (by rcases off with h | h <;> simp [h])

theorem State.hears (link : s.ethLink p = true) (runs : s.portRuns p = true) : ¬ (!s.ethLink p || !s.portRuns p) = true := by simp [link, runs]

theorem State.ethReceive_runt (link : s.ethLink p = true) (runs : s.portRuns p = true) (short : b.length < 60) :
    s.ethReceive p b good ago = s.bump F.ETH_PCNT1_FCS_ERR p :=
  (if_neg (State.hears link runs)).trans (if_pos (by omega))

theorem State.ethReceive_pause (link : s.ethLink p = true) (runs : s.portRuns p = true) (long : 60 ≤ b.length) (fits : b.length ≤ 1518)
    (pause : (ethView b).type = 0x8808) : s.ethReceive p b true ago = s := by
  unfold State.ethReceive
  extract_lets len
  have short : ¬ len < 64 := fun h => by omega
  have bad : ¬ (!true || decide (1522 < len)) = true := by simp; omega
  rw [if_neg (State.hears link runs), if_neg short, if_neg bad, if_pos pause]

/-- Whether a frame's tag names a VLAN, and the VLAN and priority that it or else its port gives it (R424). -/
theorem tag_judged (tag : Option (Nat × Nat)) (pvid pcp : Nat) :
    (match tag with | some (_, i) => i != 0 | none => false) = (tag.any fun x => x.2 != 0) ∧
      (match tag with | some (_, i) => if i = 0 then pvid else i | none => pvid) =
        (if tag.any fun x => x.2 != 0 then (tag.map (·.2)).getD 0 else pvid) ∧
      (match tag with | some (c, i) => if i = 0 then pcp else c | none => pcp) =
        (if tag.any fun x => x.2 != 0 then (tag.map (·.1)).getD 0 else pcp) := by
  rcases tag with _ | ⟨c, i⟩
  · exact ⟨rfl, rfl, rfl⟩
  · by_cases h : i = 0 <;> simp [h]

/-- What a count of a port leaves alone: which ports a frame crosses cut-through (R427). -/
theorem State.cutThrough_bump {f : Fld} (off1 : f.off F.ETH_SW_CTRL_CT_EN) (off2 : f.off F.ETH_PSTAT_SPEED) (j n q : Nat) :
    (s.bump f j n).cutThrough p q = s.cutThrough p q := by
  unfold State.bump State.cutThrough
  rw [State.flag_setFld_off _ off1, State.fld_setFld_off _ off2, State.fld_setFld_off _ off2, State.ethp_congr (State.setFld_eth ..)]

section
variable (link : s.ethLink p = true) (runs : s.portRuns p = true) (long : 60 ≤ b.length) (ht : t = ((ethView b).tag.any fun x => x.2 != 0))
  (hc : c = if t then ((ethView b).tag.map (·.1)).getD 0 else s.fld F.ETH_PVLAN_DEF_PCP p)
  (hi : i = if t then ((ethView b).tag.map (·.2)).getD 0 else s.fld F.ETH_PVLAN_PVID p)
  (hadm : adm = (!(s.fld F.ETH_PVLAN_ACCEPT p == 1 && !t) && !(s.fld F.ETH_PVLAN_ACCEPT p == 2 && t) && s.bit F.ETH_VLAN_MEMBER i p))
  (hd : d = if (ethView b).dst == 0x0180C200000E || (ethView b).type == 0x88F7 then [4] else s.ethDest p (ethView b).dst i)
include link runs long ht hc hi hadm hd

theorem State.ethReceive_good (fits : b.length ≤ 1518) (data : (ethView b).type ≠ 0x8808)
    (hv : v = (s.bump F.ETH_PCNT0_RX p).macLearn (ethView b).src i p) :
    s.ethReceive p b true ago = if adm then v.each d (fun s q => if q = 4 then s.internalIn p (s.stampAgo ago) (ethView b) b
      else s.ethQueue q (s.qmap c) ⟨(ethView b).out c i (s.bit F.ETH_VLAN_UNTAG i q), false, 0⟩) else v.ethDrop p 1 := by
  obtain ⟨tagged, vid, pcp⟩ := tag_judged (ethView b).tag (s.fld F.ETH_PVLAN_PVID p) (s.fld F.ETH_PVLAN_DEF_PCP p)
  unfold State.ethReceive
  extract_lets len x tagged' vid' pcp' accept admitted local' dest frame counted ct noted learned
  have hvid : vid' = i := vid.trans (by rw [hi, ht])
  have hpcp : pcp' = c := pcp.trans (by rw [hc, ht])
  have ht' : tagged' = t := tagged.trans ht.symm
  have hadm' : admitted = adm := by rw [hadm, ← hvid, ← ht']
  have hd' : dest = d := by rw [hd, ← hvid]
  have hframe : frame = fun s q stomp => ⟨(ethView b).out c i (s.bit F.ETH_VLAN_UNTAG i q), stomp, 0⟩ := by rw [← hpcp, ← hvid]
  have hlearned : learned = v := by rw [hv, ← hvid]
  have short : ¬ len < 64 := fun h => by omega
  have bad : ¬ (!true || decide (1522 < len)) = true := by simp; omega
  rw [if_neg (State.hears link runs), if_neg short, if_neg bad, if_neg data, hadm', hd', hframe, hlearned, hpcp]
  cases adm <;> rfl

theorem State.ethReceive_bad (bad : good = false ∨ 1518 < b.length)
    (hv : v = if 1518 < b.length then s.bump F.ETH_PCNT1_OVERSIZE p else s)
    (hw : w = if (good && !(adm && d.any fun q => s.cutThrough p q)) = true then v else v.bump F.ETH_PCNT1_FCS_ERR p) :
    s.ethReceive p b good ago = if adm then w.each d (fun s q => if s.cutThrough p q then
      (s.ethQueue q (s.qmap c) ⟨(ethView b).out c i (s.bit F.ETH_VLAN_UNTAG i q), true, 0⟩).bump F.ETH_PCNT1_STOMP q else s) else w := by
  obtain ⟨tagged, vid, pcp⟩ := tag_judged (ethView b).tag (s.fld F.ETH_PVLAN_PVID p) (s.fld F.ETH_PVLAN_DEF_PCP p)
  unfold State.ethReceive
  extract_lets len x tagged' vid' pcp' accept admitted local' dest frame counted ct noted learned
  have hvid : vid' = i := vid.trans (by rw [hi, ht])
  have hpcp : pcp' = c := pcp.trans (by rw [hc, ht])
  have ht' : tagged' = t := tagged.trans ht.symm
  have hadm' : admitted = adm := by rw [hadm, ← hvid, ← ht']
  have hd' : dest = d := by rw [hd, ← hvid]
  have hframe : frame = fun s q stomp => ⟨(ethView b).out c i (s.bit F.ETH_VLAN_UNTAG i q), stomp, 0⟩ := by rw [← hpcp, ← hvid]
  have size : (1522 < len) = (1518 < b.length) := propext ⟨fun h => by omega, fun h => by omega⟩
  have hcounted : counted = v := by simp only [counted, size, hv]
  have through (q : Nat) : v.cutThrough p q = s.cutThrough p q := by
    rw [hv]
    split
    · exact State.cutThrough_bump (by decide) (by decide) ..
    · rfl
  have hct : ct = (adm && d.any fun q => s.cutThrough p q) := by simp only [ct, hcounted, through, hadm', hd']
  have hnoted : noted = w := by rw [hw, ← hct, ← hcounted]
  have short : ¬ len < 64 := fun h => by omega
  have bad' : (!good || decide (1522 < len)) = true := by
    rcases bad with h | h
    · simp [h]
    · simp [size, h]
  rw [if_neg (State.hears link runs), if_neg short, if_pos bad', hadm', hd', hframe, hnoted, hpcp]
  cases adm <;> rfl

end

/-! ## Sending (R426, R429) -/

theorem State.ethSent_none (idle : (s.ethp p).inFlight = none) : s.ethSent p ago = s := by
  unfold State.ethSent
  simp only [idle]

/-- A frame sent at `t`, with the time stamp that a PTP message carries (R429). -/
def EthFr.stamped (x : EthFr) (t : Nat) : EthFr :=
  if x.stamp = 2 then { x with bytes := putBytes x.bytes 48 (ptpStamp t) }
  else if x.stamp = 3 then
    let turn := diff64 t (stampOf ((x.bytes.drop 48).take 10))
    { x with bytes := putBytes (putBytes x.bytes 22 (beBytes 8 (unsigned 64 (turn * 65536)))) 48 (ptpStamp t) }
  else x

theorem EthFr.stamped_eq (x : EthFr) (t : Nat) : (match x.stamp with
    | 2 => { x with bytes := putBytes x.bytes 48 (ptpStamp t) }
    | 3 =>
      let turn := diff64 t (stampOf ((x.bytes.drop 48).take 10))
      { x with bytes := putBytes (putBytes x.bytes 22 (beBytes 8 (unsigned 64 (turn * 65536)))) 48 (ptpStamp t) }
    | _ => x) = x.stamped t := by
  unfold EthFr.stamped
  split
  · next h => rw [if_pos h]
  · next h => rw [if_neg (by omega), if_pos h]
  · next h2 h3 => rw [if_neg h2, if_neg h3]

theorem EthFr.stamp_stamped (x : EthFr) (t : Nat) : (x.stamped t).stamp = x.stamp := by
  unfold EthFr.stamped
  split
  · rfl
  · split <;> rfl

theorem State.ethSent_some {t : Nat} {x y : EthFr} (flies : (s.ethp p).inFlight = some x) (ht : t = s.stampAgo ago) (hy : y = x.stamped t)
    (hv : v = s.setEthp p { s.ethp p with
      sent := some (y, t)
      inFlight := (nextFrame (s.ethp p).queue).map (·.2)
      queue := ((nextFrame (s.ethp p).queue).map fun z => (s.ethp p).queue.erase z).getD (s.ethp p).queue }) :
    s.ethSent p ago = (if x.stamp = 1 then v.setPtp p { v.ptp p with reqAt := t } else v).bump F.ETH_PCNT0_TX p := by
  unfold State.ethSent
  extract_lets e t' n old
  rw [show e.inFlight = some x from flies]
  dsimp -zeta only
  extract_lets turn y' u c r
  have hy' : y' = y := by
    rw [hy, ht]
    exact x.stamped_eq t'
  have hn : (match n with | some z => e.queue.erase z | none => e.queue) = (n.map fun z => e.queue.erase z).getD e.queue := by cases n <;> rfl
  have hu : u = v := by
    rw [hv, ht, ← hy', ← hn] <;> rfl
  have same : y'.stamp = x.stamp := by rw [hy', hy, EthFr.stamp_stamped]
  simp only [r, c, same, hu, ht, t', old]

/-! ## The MAC table (R423) -/

theorem State.macAge_stays {m : Nat} (stays : (s.macFind m i).all (fun e => e.static) = true ∨ s.fld F.ETH_SW_CTRL_AGE = 0) :
    s.macAge m i = s := by
  unfold State.macAge
  cases found : s.macFind m i with
  | none => rfl
  | some e =>
    refine if_pos ?_
    rcases stays with h | h
    · rw [found] at h
      simp [show e.static = true from h]
    · simp [h]

theorem State.macAge_some {m : Nat} {e : MacEnt} (found : s.macFind m i = some e) (learned : e.static = false)
    (ages : s.fld F.ETH_SW_CTRL_AGE ≠ 0) : s.macAge m i = (s.advanceTo (e.seen + sec (s.fld F.ETH_SW_CTRL_AGE))).macDrop m i := by
  unfold State.macAge
  simp only [found]
  exact if_neg (by simp [learned, ages])

theorem State.put_macCmd (s : State) (code : Nat) (op : Fin 4) : s.put code .ETH_MAC_CMD 0 (BitVec.ofNat 32 (op + 2 ^ 31)) 0xFFFFFFFF =
    ((s.wr .ETH_MAC_CMD 0 (s.merge .ETH_MAC_CMD 0 (BitVec.ofNat 32 (op + 2 ^ 31)) 0xFFFFFFFF)).macCmd op, 0) := by
  have go : F.ETH_MAC_CMD_GO.on (Reg.ETH_MAC_CMD.fired (BitVec.ofNat 32 (op + 2 ^ 31)) 0xFFFFFFFF) = true := by
    refine (Fld.on_fired _ rfl (by decide)).trans ?_
    revert op
    decide
  have opOf : F.ETH_MAC_CMD_OP.of (s.merge .ETH_MAC_CMD 0 (BitVec.ofNat 32 (op + 2 ^ 31)) 0xFFFFFFFF) = op := by
    refine (Fld.of_merge s 0 _ (by decide) (by decide)).trans ?_
    revert op
    decide
  rw [State.put_eth _ _ _ _ _ (by decide) (by decide), State.wrEth, if_pos go, opOf]

theorem exec_macCmd {c : Instr} {s : State} {a : Acc} (op : Fin 4) (h : s.granted a .ETH_MAC_CMD 0)
    (run : exec c s = .next (s.run fun s => s.busPut a .ETH_MAC_CMD 0 (op + 2 ^ 31))) :
    ∃ n : Word, exec c s = .next (State.finish s (s.wrote a .ETH_MAC_CMD 0 fun s => ((s.wr .ETH_MAC_CMD 0 n).macCmd op, 0))) :=
  ⟨s.merge .ETH_MAC_CMD 0 (BitVec.ofNat 32 (op + 2 ^ 31)) 0xFFFFFFFF, exec_put run h rfl rfl rfl fun code => by
    rw [State.put_macCmd, State.merge_dropHeld]⟩

end

/-- Settles O33: a frame is judged on its bytes and its port's VLAN, where an oversize count leaves what is cut through as it was; and each
  operation of `ETH_MAC_CMD` is a word with `GO` and its number. -/
theorem ethSwitch : Obligations.EthSwitch := by
  unfold Obligations.EthSwitch
  refine ⟨?off, ?runt, ?good, ?pause, ?bad, ?idle, ?sent, ?stays, ?ages, ?lookup, ?add, ?delete, ?flush⟩
  case off => exact fun s p b good ago awake off => State.runOn_next rfl awake (State.ethReceive_off off)
  case runt => exact fun s p b good ago awake link runs short => State.runOn_next rfl awake (State.ethReceive_runt link runs short)
  case good =>
    exact fun s p b ago c i t adm d v awake link runs long fits data ht hc hi hadm hd hv =>
      State.runOn_next rfl awake (State.ethReceive_good link runs long ht hc hi hadm hd fits data hv)
  case pause =>
    exact fun s p b ago awake link runs long fits pause => State.runOn_next rfl awake (State.ethReceive_pause link runs long fits pause)
  case bad =>
    exact fun s p b good ago c i t adm d v w awake link runs long bad ht hc hi hadm hd hv hw =>
      State.runOn_next rfl awake (State.ethReceive_bad link runs long ht hc hi hadm hd bad hv hw)
  case idle => exact fun s p ago awake idle => State.runOn_next rfl awake (State.ethSent_none idle)
  case sent =>
    exact fun s p ago t x y v awake flies ht hy hv => State.runOn_next rfl awake (State.ethSent_some flies ht hy hv)
  case stays => exact fun s m i awake stays => State.runOn_next rfl awake (State.macAge_stays stays)
  case ages => exact fun s m i e awake found learned ages => State.runOn_next rfl awake (State.macAge_some found learned ages)
  case lookup => exact fun s a h => exec_macCmd 0 h rfl
  case add => exact fun s a h => exec_macCmd 1 h rfl
  case delete => exact fun s a h => exec_macCmd 2 h rfl
  case flush => exact fun s a h => exec_macCmd 3 h rfl

end Sys2Proof.Machine
end

section
/-! gPTP messages and best master selection (R454 to R456). -/

namespace Sys2Proof.Machine

section
variable {s v w : State} {p : Nat}

/-! ## Announce (R454, R455) -/

theorem State.announceIn_on {root steps src port : Nat} (on : s.ptpOn p = true) (near : steps < 255) (other : src ≠ clockId) :
    s.announceIn p root steps src port = (s.setPtp p { s.ptp p with best := some (ptpVec root steps src port, s.now) }).bmca :=
  if_neg (by simp [on, near, other])

theorem State.announceIn_off {root steps src port : Nat} (off : 255 ≤ steps ∨ s.ptpOn p = false ∨ src = clockId) :
    s.announceIn p root steps src port = s :=
  if_pos (by rcases off with h | h | h <;> simp [h])

theorem State.announceOut_none (none : (s.ptp p).best = none) : s.announceOut p = s := by
  unfold State.announceOut
  simp only [none]

theorem State.announceOut_some {n t : Nat} (best : (s.ptp p).best = some (n, t)) :
    s.announceOut p = ((s.advanceTo (t + sec 3)).setPtp p { s.ptp p with best := none }).bmca := by
  unfold State.announceOut
  simp only [best]

/-- An interval after the last message, else now. -/
theorem afterLast (last : Option Nat) (gap now : Nat) :
    (match last with | some t => t + gap | none => now) = (last.map fun t => t + gap).getD now := by
  cases last <;> rfl

/-- The root that an Announce carries: that of the best port unless the module is grandmaster. -/
def State.annRoot (s : State) : Nat :=
  if s.bestPort.isSome ∧ s.flag F.TIDE_STAT_GM = false then vecRoot (s.bestPort.getD (0, 0)).2 else s.ownRoot

theorem State.annRoot_eq (s : State) : (match s.bestPort with
    | some (_, v) => if s.flag F.TIDE_STAT_GM then s.ownRoot else vecRoot v
    | none => s.ownRoot) = s.annRoot := by
  unfold State.annRoot
  cases s.bestPort with
  | none => rfl
  | some x => cases s.flag F.TIDE_STAT_GM <;> simp

theorem State.announceSend_on {r : Nat} (on : s.ptpOn p = true) (master : s.ptpRole p = 1)
    (hv : v = s.advanceTo (((s.ptp p).annTx.map fun t => t + sec 1).getD s.now)) (hw : w = v.setPtp p { v.ptp p with annTx := some v.now })
    (hr : r = w.annRoot) : s.announceSend p = (w.ptpSend p (ptpHead 11 64 (w.ptp p).seq p 5 0 ++ (beBytes 10 0 ++ beBytes 2 0 ++ beBytes 1 0 ++
      beBytes 1 (r / 2 ^ 104) ++ beBytes 4 (r / 2 ^ 72) ++ beBytes 1 (r / 2 ^ 64) ++ beBytes 8 r ++ beBytes 2 (w.fld F.TIDE_PTP_STAT_STEPS) ++
      beBytes 1 0xA0)) 0).nextSeq p := by
  unfold State.announceSend
  extract_lets v' old w' root body
  have hv' : v' = v := (congrArg s.advanceTo (afterLast (s.ptp p).annTx (sec 1) s.now)).trans hv.symm
  have hw' : w' = w := by rw [hw, ← hv']
  have root' : root = r := w'.annRoot_eq.trans (by rw [hr, hw'])
  rw [if_neg (by simp [on, master]), ← root', ← hw']

theorem State.announceSend_off (off : s.ptpRole p ≠ 1 ∨ s.ptpOn p = false) : s.announceSend p = s :=
  if_pos (by rcases off with h | h <;> simp [h])

/-! ## Sync (R456) -/

theorem State.syncSend_on (on : s.ptpOn p = true) (master : s.ptpRole p = 1) (valid : s.flag F.TIDE_STAT_VALID = true)
    (hv : v = s.advanceTo (((s.ptp p).syncTx.map fun t => t + s.syncNs).getD s.now)) (hw : w = v.setPtp p { v.ptp p with syncTx := some v.now }) :
    s.syncSend p = (w.ptpSend p (ptpHead 0 44 (w.ptp p).seq p 0 (256 - w.fld F.TIDE_PTP_CFG_SYNC_EXP) ++ ptpStamp w.logical) 2).nextSeq p := by
  unfold State.syncSend
  extract_lets v' old w'
  have hv' : v' = v := (congrArg s.advanceTo (afterLast (s.ptp p).syncTx s.syncNs s.now)).trans hv.symm
  have hw' : w' = w := by rw [hw, ← hv']
  rw [if_neg (by simp [on, master, valid]), ← hw']

theorem State.syncSend_off (off : s.flag F.TIDE_STAT_VALID = false ∨ s.ptpRole p ≠ 1 ∨ s.ptpOn p = false) : s.syncSend p = s :=
  if_pos (by rcases off with h | h | h <;> simp [h])

/-! ## Pdelay (R454, R455) -/

theorem State.pdelaySend_on (on : s.ptpOn p = true) (hv : v = s.advanceTo (((s.ptp p).pdTx.map fun t => t + sec 1).getD s.now))
    (hw : w = v.setPtp p { v.ptp p with
      lost := if (v.ptp p).waiting then (v.ptp p).lost + 1 else (v.ptp p).lost
      waiting := true
      reqSeq := (v.ptp p).seq
      reqAt := v.logical
      pdTx := some v.now }) :
    s.pdelaySend p = (w.ptpSend p (ptpHead 2 54 (v.ptp p).seq p 5 0 ++ ptpStamp 0 ++ beBytes 10 0) 1).nextSeq p := by
  unfold State.pdelaySend
  extract_lets v' pp w'
  have hv' : v' = v := (congrArg s.advanceTo (afterLast (s.ptp p).pdTx (sec 1) s.now)).trans hv.symm
  have hw' : w' = w := by rw [hw, ← hv']
  rw [if_neg (by simp [on]), ← hw', ← hv']

theorem State.pdelaySend_off (off : s.ptpOn p = false) : s.pdelaySend p = s := if_pos (by simp [off])

/-- The neighbour rate ratio, less 1 in 2^-41, that a response stamped `t3` and `t4` gives (R454). -/
theorem ratio_eq (prev : Option (Nat × Nat)) (old : Int) (t3 t4 : Nat) :
    (match prev with
      | some (u3, u4) => if 0 < diff64 t4 u4 then roundDiv (diff64 t3 u3 * 2 ^ 41) (diff64 t4 u4).toNat - 2 ^ 41 else old
      | none => old) =
    if prev.isSome ∧ 0 < diff64 t4 ((prev.map (·.2)).getD 0) then
      roundDiv (diff64 t3 ((prev.map (·.1)).getD 0) * 2 ^ 41) (diff64 t4 ((prev.map (·.2)).getD 0)).toNat - 2 ^ 41 else old := by
  rcases prev with _ | ⟨u3, u4⟩
  · simp only [Option.isSome_none, Bool.false_eq_true, false_and, if_false]
  · simp only [Option.isSome_some, true_and, Option.map_some, Option.getD_some]

theorem State.pdelayResp_on {k t2 t3 ago t4 u3 u4 : Nat} {r d : Int} (on : s.ptpOn p = true) (waits : (s.ptp p).waiting = true)
    (last : (s.ptp p).reqSeq = k) (h4 : t4 = s.stampAgo ago) (hu3 : u3 = ((s.ptp p).prev.map (·.1)).getD 0)
    (hu4 : u4 = ((s.ptp p).prev.map (·.2)).getD 0)
    (hr : r = if (s.ptp p).prev.isSome ∧ 0 < diff64 t4 u4 then roundDiv (diff64 t3 u3 * 2 ^ 41) (diff64 t4 u4).toNat - 2 ^ 41
      else (s.ptp p).ratio)
    (hd : d = roundDiv (roundDiv (diff64 t4 (s.ptp p).reqAt * (2 ^ 41 + r)) (2 ^ 41) - diff64 t3 t2) 2)
    (hv : v = (s.setPtp p { s.ptp p with lost := 0, waiting := false, prev := some (t3, t4), ratio := r }).setFld F.TIDE_PDELAY_DELAY p
      (clamp 0 (2 ^ 24 - 1) d).toNat) :
    s.pdelayResp p k t2 t3 ago = (v.setBit F.TIDE_PTP_STAT_AS_CAP 0 p (decide (d ≤ 800))).bmca := by
  unfold State.pdelayResp
  extract_lets pp t4' ratio round delay ok kept shown
  have hr' : ratio = r := (ratio_eq pp.prev pp.ratio t3 t4').trans (by rw [hr, hu3, hu4, h4])
  have hd' : delay = d := by rw [hd, ← hr', h4]
  have hv' : shown = v := by rw [hv, ← hr', ← hd', h4]
  rw [if_neg (by simp [pp, on, waits, last]), hv', ← hd']

theorem State.pdelayResp_off {k t2 t3 ago : Nat} (off : (s.ptp p).waiting = false ∨ (s.ptp p).reqSeq ≠ k ∨ s.ptpOn p = false) :
    s.pdelayResp p k t2 t3 ago = s :=
  if_pos (by rcases off with h | h | h <;> simp [h])

theorem State.pdelayLost_many (many : 3 < (s.ptp p).lost + (if (s.ptp p).waiting then 1 else 0)) : s.pdelayLost p =
    ((if 3 < (s.ptp p).lost then s else s.advanceTo ((s.ptp p).pdTx.getD s.now + sec 1)).setBit F.TIDE_PTP_STAT_AS_CAP 0 p false).bmca := by
  unfold State.pdelayLost
  extract_lets pp
  by_cases lost : 3 < pp.lost
  · rw [if_pos lost, if_pos lost]
  · have last : (pp.waiting && decide (3 ≤ pp.lost)) = true := by
      cases waits : (s.ptp p).waiting <;> simp only [waits, if_true, if_false, Bool.false_eq_true] at many
      · exact absurd many lost
      · simp only [pp, Bool.true_and, decide_eq_true_eq]
        omega
    rw [if_neg lost, if_pos last, if_neg lost]

theorem State.pdelayLost_few (few : (s.ptp p).lost + (if (s.ptp p).waiting then 1 else 0) ≤ 3) : s.pdelayLost p = s := by
  unfold State.pdelayLost
  refine (if_neg (by omega)).trans (if_neg ?_)
  intro h
  rw [Bool.and_eq_true, decide_eq_true_eq] at h
  rw [if_pos h.1] at few
  omega

end

/-- Settles O35: each message is sent or answered as its port's role and participation allow, an interval after the last. -/
theorem gptp : Obligations.Gptp := by
  unfold Obligations.Gptp
  refine ⟨?announce, ?announceOff, ?noBest, ?best, ?sendAnnounce, ?noAnnounce, ?sendSync, ?noSync, ?sendReq, ?noReq, ?request, ?requestOff,
    ?response, ?responseOff, ?lost, ?few⟩
  case announce =>
    exact fun s p root steps src port awake on near other => State.runOn_next rfl awake (State.announceIn_on on near other)
  case announceOff => exact fun s p root steps src port awake off => State.runOn_next rfl awake (State.announceIn_off off)
  case noBest => exact fun s p awake none => State.runOn_next rfl awake (State.announceOut_none none)
  case best => exact fun s p n t awake best => State.runOn_next rfl awake (State.announceOut_some best)
  case sendAnnounce =>
    exact fun s p r v w awake on master hv hw hr => State.runOn_next rfl awake (State.announceSend_on on master hv hw hr)
  case noAnnounce => exact fun s p awake off => State.runOn_next rfl awake (State.announceSend_off off)
  case sendSync =>
    exact fun s p v w awake on master valid hv hw => State.runOn_next rfl awake (State.syncSend_on on master valid hv hw)
  case noSync => exact fun s p awake off => State.runOn_next rfl awake (State.syncSend_off off)
  case sendReq => exact fun s p v w awake on hv hw => State.runOn_next rfl awake (State.pdelaySend_on on hv hw)
  case noReq => exact fun s p awake off => State.runOn_next rfl awake (State.pdelaySend_off off)
  case request => exact fun s p k i j ago awake on => State.runOn_next rfl awake (if_pos on)
  case requestOff => exact fun s p k i j ago awake off => State.runOn_next rfl awake (if_neg (ne_true_of_eq_false off))
  case response =>
    exact fun s p k t2 t3 ago r d t4 u3 u4 v awake on waits last h4 hu3 hu4 hr hd hv =>
      State.runOn_next rfl awake (State.pdelayResp_on on waits last h4 hu3 hu4 hr hd hv)
  case responseOff => exact fun s p k t2 t3 ago awake off => State.runOn_next rfl awake (State.pdelayResp_off off)
  case lost => exact fun s p awake many => State.runOn_next rfl awake (State.pdelayLost_many many)
  case few => exact fun s p awake few => State.runOn_next rfl awake (State.pdelayLost_few few)

end Sys2Proof.Machine
end

section
/-! Rings, held frames and quarantine of the gateway (R464 to R484). -/

namespace Sys2Proof.Machine

/-- A write to a register of the GWY block is judged by `State.wrGwy`. -/
theorem State.put_gwy (s : State) (c : Nat) {r : Reg} (i : Nat) (w m : Word) (inGwy : regsGWY.contains r = true)
    (elsewhere : (regsCUST ++ regsSW ++ regsPROT ++ regsCAL ++ regsINJ ++ regsEVE ++ regsLEDS ++ regsDIO ++ regsBOLL ++ regsCAN).contains r =
      false) : s.put c r i w m = s.wrGwy r i (s.merge r i w m) (r.fired w m) := by
  simp only [List.contains_append, Bool.or_eq_false_iff] at elsewhere
  simp only [State.put, inGwy, elsewhere, Bool.false_eq_true, if_false, if_true]

/-- A master's write of one field that keeps the register's other fields. -/
theorem exec_putField {c : Instr} {s : State} {a : Acc} {g : Fld} {i v : Nat} {f : State → State × Nat}
    (h : exec c s = .next (s.run fun s => s.busField a g i v)) (granted : s.granted a g.reg i) (route : routeReg g.reg = false)
    (high : atomicHigh g.reg = none) (low : atomicLow g.reg = none)
    (put : ∀ code, (s.dropHeld (s.who a).code (g.reg.addr i)).put code g.reg i (g.into (s.baseWord g.reg i) v) 0xFFFFFFFF =
      f (s.dropHeld (s.who a).code (g.reg.addr i))) : exec c s = .next (State.finish s (s.wrote a g.reg i f)) :=
  State.run_next h ((State.busPut_wrote granted _ route high low).trans (s.wrote_congr a g.reg i (by
    rw [BitVec.ofNat_toNat, BitVec.setWidth_eq]
    exact put _)))

section
variable {s v : State}

/-! ## TXB2 and ACF (R475, R477) -/

theorem State.txb2Load_off {p : Nat} (off : s.flag F.CAN_CTRL_TXB2_SRC p = false ∨ s.canRuns p = false ∨ s.txPend p 2 = true ∨
    s.servedRing p = none) : s.txb2Load p = s := by
  unfold State.txb2Load
  rcases off with h | h | h | h
  · exact if_pos (by simp [h])
  · exact if_pos (by simp [h])
  · exact if_pos (by simp [h])
  · rw [h]
    exact ite_self s

theorem State.txb2Load_on {p r : Nat} (source : s.flag F.CAN_CTRL_TXB2_SRC p = true) (runs : s.canRuns p = true)
    (free : s.txPend p 2 = false) (serves : s.servedRing p = some r)
    (hv : v = ((s.setBytes (txAddr p 2) (s.bytes (s.ringAddr r (s.fld F.GWY_RING_GET_GET r)) 80)).ringPop r).txPut p 2) :
    s.txb2Load p = v.setCanc p { v.canc p with ring2 := some r } := by
  unfold State.txb2Load
  rw [if_neg (by simp [source, runs, free]), serves, hv]

theorem State.acfFlush_none {r : Nat} (empty : lookup r s.gwy.pdu = none) : s.acfFlush r = s := by rw [State.acfFlush, empty]

theorem State.acfFlush_some {r t : Nat} {m : List Byte} (pdu : lookup r s.gwy.pdu = some (m, t)) :
    s.acfFlush r = (s.advanceTo (t + us (s.fld F.GWY_ACF_TXCFG_FLUSH (r - 16)))).acfSend r := by rw [State.acfFlush, pdu]

/-! ## Held frames (R474) -/

/-- What a route asks for a frame is a matter of the registers alone. -/
theorem State.plan_congr {u : State} (h : u.regs = s.regs) (g : GwFrame) (r : GwRoute) : u.plan g r = s.plan g r := by
  cases r <;> simp only [State.plan, State.fld_congr h, State.flag_congr h]

theorem State.bpRelease_none {i : Nat} (empty : s.heldOf i = []) : s.bpRelease i = s := by rw [State.bpRelease, empty]

theorem State.bpRelease_holds {i : Nat} {h : GwHeld} {rest : List GwHeld} (held : s.heldOf i = h :: rest)
    (holds : s.bpHolds 2 (h.rings.getD []) = true) : s.bpRelease i = s := by
  rw [State.bpRelease, held]
  exact if_pos holds

theorem State.bpRelease_free {i : Nat} {h : GwHeld} {rest : List GwHeld} (held : s.heldOf i = h :: rest)
    (free : s.bpHolds 2 (h.rings.getD []) = false) : s.bpRelease i = (((s.setHeld i rest).each (h.rings.getD []) fun x r =>
      x.deliverRing (s.plan h.g h.r) h.g h.stamp r).drainHeld i rest).ringsClosing := by
  rw [State.bpRelease, held]
  exact if_neg (ne_true_of_eq_false free)

theorem State.bpTimeout_none {i : Nat} (empty : s.heldOf i = []) : s.bpTimeout i = s := by rw [State.bpTimeout, empty]

theorem State.bpTimeout_free {i : Nat} {h : GwHeld} {rest : List GwHeld} (held : s.heldOf i = h :: rest)
    (free : s.bpHolds 2 (h.rings.getD []) = false) : s.bpTimeout i = s.bpRelease i := by
  rw [State.bpTimeout, held]
  exact if_pos (by rw [free]; rfl)

theorem State.bpTimeout_holds {i : Nat} {h : GwHeld} {rest : List GwHeld} (held : s.heldOf i = h :: rest)
    (holds : s.bpHolds 2 (h.rings.getD []) = true)
    (hv : v = ((s.advanceTo (h.since + ms (s.fld F.GWY_CTRL_BP_MAX))).setHeld i rest).each (h.rings.getD [])
      (fun x r => x.deliverRing (s.plan h.g h.r) h.g h.stamp r)) :
    s.bpTimeout i = (((v.setFlag F.GWY_EVT_BP_TIMEOUT).raise .GWY_BP_TIMEOUT i [] (sec 1)).drainHeld i rest).ringsClosing := by
  rw [State.bpTimeout, held]
  refine (if_neg (by rw [holds]; decide)).trans ?_
  extract_lets u plan w noted
  have plan' : plan = s.plan h.g h.r := State.plan_congr (State.advanceTo_regs ..) h.g h.r
  have hw : w = v := by rw [hv, ← plan']
  rw [← hw]

/-! ## Registers (R464, R465, R481, R484) -/

theorem State.put_ringGet (s : State) (c : Nat) (r v : Nat) : s.put c .GWY_RING_GET r (BitVec.ofNat 32 v) 0xFFFFFFFF =
    refusedAs 0x06090030 (s.ringGet r (F.GWY_RING_GET_GET.of (s.merge .GWY_RING_GET r (BitVec.ofNat 32 v) 0xFFFFFFFF))) := by
  rw [State.put_gwy _ _ _ _ _ (by decide) (by decide)]
  rfl

theorem State.put_quarClr (s : State) (c : Nat) : s.put c .GWY_CMD 0 (BitVec.ofNat 32 2) 0xFFFFFFFF = (s.quarClear, 0) := by
  rw [State.put_gwy _ _ _ _ _ (by decide) (by decide), State.wrGwy, if_neg (by decide), if_pos (by decide)]

theorem State.put_gwyReenable (s : State) (c : Nat) :
    s.put c .GWY_CMD 0 (BitVec.ofNat 32 1) 0xFFFFFFFF = refusedAs abState (s.reenableUnit .gwy) := by
  rw [State.put_gwy _ _ _ _ _ (by decide) (by decide), State.wrGwy, if_pos (by decide), if_neg (by decide)]

/-- A write that takes `EN` from an enabled ring and keeps its other fields ends it (R465). -/
theorem State.put_ringDisable (s : State) {r : Nat} (open' : s.gwy.closing.contains r = false) (on : s.flag F.GWY_RING_CFG_EN r = true)
    (policy : s.fld F.GWY_RING_CFG_POLICY r ≠ 3) (port : s.ringPort r < 12) (low : 16 ≤ s.ringDepth r) (high : s.ringDepth r ≤ 4096) (c : Nat) :
    s.put c .GWY_RING_CFG r (F.GWY_RING_CFG_EN.into (s.baseWord .GWY_RING_CFG r) 0) 0xFFFFFFFF =
      ((s.wr .GWY_RING_CFG r (F.GWY_RING_CFG_EN.into (s.rd .GWY_RING_CFG r) 0)).ringDisable r, 0) := by
  have fits : F.GWY_RING_CFG_EN.fits := by simp [Fld.fits]
  have n : s.merge .GWY_RING_CFG r (F.GWY_RING_CFG_EN.into (s.baseWord .GWY_RING_CFG r) 0) 0xFFFFFFFF =
    F.GWY_RING_CFG_EN.into (s.rd .GWY_RING_CFG r) 0 := s.merge_baseWord fits r 0 (by decide) (by decide)
  have kept (g : Fld) (same : g.reg = .GWY_RING_CFG) (apart : F.GWY_RING_CFG_EN.apart g) :
      g.of (F.GWY_RING_CFG_EN.into (s.rd .GWY_RING_CFG r) 0) = s.fld g r := by
    rw [Fld.of_into_apart fits apart, State.fld, same]
  have en0 : F.GWY_RING_CFG_EN.of (F.GWY_RING_CFG_EN.into (s.rd .GWY_RING_CFG r) 0) = 0 := Fld.of_into fits _ 0
  have en1 : F.GWY_RING_CFG_EN.of (s.rd .GWY_RING_CFG r) = 1 := by
    have bit : s.fld F.GWY_RING_CFG_EN r < 2 := s.fld_lt F.GWY_RING_CFG_EN r
    have set : s.fld F.GWY_RING_CFG_EN r ≠ 0 := bne_iff_ne.1 on
    exact (by omega : s.fld F.GWY_RING_CFG_EN r = 1)
  have restored : F.GWY_RING_CFG_EN.into (F.GWY_RING_CFG_EN.into (s.rd .GWY_RING_CFG r) 0) 1 = s.rd .GWY_RING_CFG r :=
    en1 ▸ Fld.into_restore fits (s.rd .GWY_RING_CFG r) 0
  have range : inRange 16 4096 (s.ringDepth r) = true := by simp [inRange, low, high]
  rw [State.put_gwy _ _ _ _ _ (by decide) (by decide), n, State.wrGwy, State.wrRing]
  refine (if_neg ?settings).trans ((if_neg ?held).trans ((if_neg ?clash).trans (congrArg (·, 0) (if_pos ?ends))))
  case settings =>
    rw [kept F.GWY_RING_CFG_POLICY rfl (by simp [Fld.apart]), kept F.GWY_RING_CFG_PORT rfl (by simp [Fld.apart]),
      kept F.GWY_RING_CFG_DEPTH rfl (by simp [Fld.apart])]
    rintro (h | h | h)
    · exact policy h
    · exact absurd port (Nat.not_lt.2 h)
    · rw [show inRange 16 4096 (s.fld F.GWY_RING_CFG_DEPTH r) = true from range] at h
      exact absurd h (by decide)
  case held => simp only [restored, open', bne_self_eq_false, Bool.and_false, Bool.or_false, Bool.false_eq_true, not_false_eq_true]
  case clash => simp only [en0, bne_self_eq_false, Bool.false_and, Bool.false_eq_true, not_false_eq_true]
  case ends => simp only [en0, en1]; decide

end

/-- Settles O36: what a route asks for does not change as time passes, and a ring's `EN` is taken by a word that keeps its other fields. -/
theorem gateway : Obligations.Gateway := by
  unfold Obligations.Gateway
  refine ⟨?loadOff, ?load, ?noPdu, ?flush, ?noHeld, ?stays, ?release, ?timeout, ?timeoutFree, ?timeoutNone, ?get, ?disable, ?noQuar, ?quarEnds,
    ?clear, ?reenable⟩
  case loadOff => exact fun s p awake off => State.runOn_next rfl awake (State.txb2Load_off off)
  case load =>
    exact fun s p r v awake source runs free serves hv => State.runOn_next rfl awake (State.txb2Load_on source runs free serves hv)
  case noPdu => exact fun s r awake empty => State.runOn_next rfl awake (State.acfFlush_none empty)
  case flush => exact fun s r m t awake pdu => State.runOn_next rfl awake (State.acfFlush_some pdu)
  case noHeld => exact fun s i awake empty => State.runOn_next rfl awake (State.bpRelease_none empty)
  case stays => exact fun s i h rest awake held holds => State.runOn_next rfl awake (State.bpRelease_holds held holds)
  case release => exact fun s i h rest awake held free => State.runOn_next rfl awake (State.bpRelease_free held free)
  case timeout => exact fun s i h rest v awake held holds hv => State.runOn_next rfl awake (State.bpTimeout_holds held holds hv)
  case timeoutFree =>
    exact fun s i h rest awake held free =>
      State.runOn_next rfl awake ((State.bpTimeout_free held free).trans (State.bpRelease_free held free))
  case timeoutNone => exact fun s i awake empty => State.runOn_next rfl awake (State.bpTimeout_none empty)
  case get =>
    intro s a r v h
    refine exec_put rfl h rfl rfl rfl fun code => ?_
    rw [State.put_ringGet, State.merge_dropHeld]
  case disable =>
    intro s a r h open' on policy port low high
    refine ⟨F.GWY_RING_CFG_EN.into (s.rd .GWY_RING_CFG r) 0,
      exec_putField (g := F.GWY_RING_CFG_EN) rfl h rfl rfl rfl fun code => ?_⟩
    have regs := s.dropHeld_regs (s.who a).code (Reg.addr .GWY_RING_CFG r)
    have gwy := s.dropHeld_blind (s.who a).code (Reg.addr .GWY_RING_CFG r) (fun u => u.gwy.closing) fun _ _ => rfl
    have base := (s.dropHeld (s.who a).code (Reg.addr .GWY_RING_CFG r)).put_ringDisable
      ((congrArg (·.contains r.val) gwy).trans open') ((State.flag_congr regs _ r).trans on)
      (fun e => policy ((State.fld_congr regs _ r).symm.trans e)) (lt_of_eq_of_lt (State.fld_congr regs _ r) port)
      (le_of_le_of_eq low (State.fld_congr regs _ r).symm) (le_of_eq_of_le (State.fld_congr regs _ r) high) code
    have same : (s.dropHeld (s.who a).code (Reg.addr .GWY_RING_CFG r)).baseWord .GWY_RING_CFG r = s.baseWord .GWY_RING_CFG r :=
      congrArg (· &&& Reg.tyMask .GWY_RING_CFG FTy.sets) (State.rd_congr regs .GWY_RING_CFG r)
    rwa [same, State.rd_congr regs] at base
  case noQuar =>
    intro s i awake none
    exact State.runOn_next rfl awake (by rw [State.quarExpire, none])
  case quarEnds =>
    intro s i q awake some
    exact State.runOn_next rfl awake (by rw [State.quarExpire, some])
  case clear => exact fun s a h => exec_put rfl h rfl rfl rfl fun code => State.put_quarClr _ code
  case reenable => exact fun s a h => exec_put rfl h rfl rfl rfl fun code => State.put_gwyReenable _ code

end Sys2Proof.Machine
end

section
/-! Managed segments (R488 to R497): need, keep-alives, sleep and wake. -/

namespace Sys2Proof.Machine

/-- A write to a register of the NM block is judged by `State.wrNm`. -/
theorem State.put_nm (s : State) (c : Nat) {r : Reg} (i : Nat) (w m : Word) (inNm : regsNM.contains r = true)
    (elsewhere : (regsCUST ++ regsSW ++ regsPROT ++ regsCAL ++ regsINJ ++ regsEVE ++ regsLEDS ++ regsDIO ++ regsBOLL ++ regsCAN ++
      regsGWY ++ regsETH ++ regsTIDE).contains r = false) : s.put c r i w m = s.wrNm r i (s.merge r i w m) (r.fired w m) := by
  simp only [List.contains_append, Bool.or_eq_false_iff] at elsewhere
  simp only [State.put, inNm, elsewhere, Bool.false_eq_true, if_false, if_true]

/-- Bit 0 of a written word. -/
theorem Fld.of_bit0 (r : Reg) (ty : FTy) (v : Nat) : (Fld.of ⟨r, 0, 1, ty⟩ (BitVec.ofNat 32 v) != 0) = decide (v % 2 = 1) := by
  have value : Fld.of ⟨r, 0, 1, ty⟩ (BitVec.ofNat 32 v) = v % 2 := by
    simp only [Fld.of, BitVec.toNat_ofNat]
    omega
  rw [value]
  rcases Nat.mod_two_eq_zero_or_one v with h | h <;> rw [h] <;> decide

theorem State.put_need (s : State) (c g v : Nat) :
    s.put c .NM_SEG_NEED g (BitVec.ofNat 32 v) 0xFFFFFFFF = (s.setNeed g (decide (v % 2 = 1)), 0) := by
  rw [State.put_nm _ _ _ _ _ (by decide) (by decide), State.wrNm,
    Fld.of_merge s (f := F.NM_SEG_NEED_SW) (r := .NM_SEG_NEED) g _ (by decide) (by decide), Fld.of_bit0]

theorem State.put_modNeed (s : State) (c v : Nat) :
    s.put c .NM_MODNEED 0 (BitVec.ofNat 32 v) 0xFFFFFFFF = (s.setModNeed (decide (v % 2 = 1)), 0) := by
  rw [State.put_nm _ _ _ _ _ (by decide) (by decide), State.wrNm,
    Fld.of_merge s (f := F.NM_MODNEED_NEED) (r := .NM_MODNEED) 0 _ (by decide) (by decide), Fld.of_bit0]

theorem State.put_segWake (s : State) (c g : Nat) :
    s.put c .NM_SEG_CMD g (BitVec.ofNat 32 1) 0xFFFFFFFF = (s.wakeRequest g true, 0) := by
  rw [State.put_nm _ _ _ _ _ (by decide) (by decide), State.wrNm, if_pos (by decide), if_neg (by decide)]

theorem State.put_unstuck (s : State) (c g : Nat) :
    s.put c .NM_SEG_CMD g (BitVec.ofNat 32 2) 0xFFFFFFFF = (s.unstuckAll g, 0) := by
  rw [State.put_nm _ _ _ _ _ (by decide) (by decide), State.wrNm, if_neg (by decide), if_pos (by decide)]

section
variable {s v : State} {g : Nat}

theorem State.keepAlive_on (can : g < 8) (managed : s.managed g = true) (awake : s.nmState g = 1) :
    s.keepAlive g = (s.advanceTo (s.nms g).kaAt).kaSend g := if_neg (by simp [managed, awake, can])

theorem State.keepAlive_off (off : s.nmState g ≠ 1 ∨ s.managed g = false ∨ 8 ≤ g) : s.keepAlive g = s :=
  if_pos (by rcases off with h | h | h <;> simp [h])

theorem State.silenceExpiry_on (managed : s.managed g = true) (ready : s.nmState g = 2) (safe : s.isSafe .nm = false) :
    s.silenceExpiry g = (s.advanceTo ((s.nms g).silence + s.silenceNs g)).segEnter g 3 := if_neg (by simp [managed, ready, safe])

theorem State.silenceExpiry_off (off : s.isSafe .nm = true ∨ s.managed g = false ∨ s.nmState g ≠ 2) : s.silenceExpiry g = s :=
  if_pos (by rcases off with h | h | h <;> simp [h])

theorem State.prepareExpiry_on (managed : s.managed g = true) (prepares : s.nmState g = 3) (safe : s.isSafe .nm = false) :
    s.prepareExpiry g = (s.advanceTo ((s.nms g).at0 + ms (10 * s.fld F.NM_SEG_TIME_T_PREP g))).commitSeg g :=
  if_neg (by simp [managed, prepares, safe])

theorem State.prepareExpiry_off (off : s.isSafe .nm = true ∨ s.managed g = false ∨ s.nmState g ≠ 3) : s.prepareExpiry g = s :=
  if_pos (by rcases off with h | h | h <;> simp [h])

theorem State.sleepConfirm_on (alone : g < 8 ∨ s.fld F.ETH_PSTAT_TC10 (g - 8) ≠ 1) (managed : s.managed g = true)
    (commits : s.nmState g = 4) : s.sleepConfirm g = s.commitDone g :=
  if_neg (by rcases alone with h | h <;> simp [managed, commits, h])

theorem State.sleepConfirm_off (off : s.nmState g ≠ 4 ∨ s.managed g = false ∨ (8 ≤ g ∧ s.fld F.ETH_PSTAT_TC10 (g - 8) = 1)) :
    s.sleepConfirm g = s :=
  if_pos (by rcases off with h | h | ⟨h, k⟩ <;> simp [*])

theorem State.transitionEnd_on (managed : s.managed g = true) (commits : s.nmState g = 4) (ends : g < 8 ∨ s.flag F.NM_SEG_STAT_HELD g = true) :
    s.transitionEnd g = (s.advanceTo ((s.nms g).at0 + ms 5)).commitDone g :=
  if_neg (by rcases ends with h | h <;> simp [managed, commits, h])

theorem State.transitionEnd_off (off : (s.managed g = false ∨ s.nmState g ≠ 4) ∨ (8 ≤ g ∧ s.flag F.NM_SEG_STAT_HELD g = false)) :
    s.transitionEnd g = s :=
  if_pos (by rcases off with (h | h) | ⟨h, k⟩ <;> simp [*])

theorem State.repeatEnd_none (none : (s.nms g).repeatTo = none) : s.repeatEnd g = s := by rw [State.repeatEnd, none]

theorem State.repeatEnd_some {t : Nat} (window : (s.nms g).repeatTo = some t)
    (hv : v = (s.advanceTo t).setNms g { s.nms g with repeatTo := none }) :
    s.repeatEnd g = if v.nmState g = 1 ∧ v.ownNeed g = false then (if 8 ≤ g then v.restartSilence g else v).segEnter g 2 else v := by
  rw [State.repeatEnd, window]
  have same : (s.advanceTo t).nms g = s.nms g := rfl
  simp only [same, ← hv, Bool.not_eq_true']

/-- A sleep decision that a wake source cancels concerns no segment. -/
theorem State.sleepAbort_nm (s : State) (cause : Nat) : (s.sleepAbort cause).nm = s.nm := by
  unfold State.sleepAbort
  split
  · rw [State.raise_nm, State.setFlag_nm]
  · rfl

theorem State.nms_congr {u : State} (h : u.nm = s.nm) (g : Nat) : u.nms g = s.nms g := by rw [State.nms, State.nms, h]

theorem State.passiveWake_on {cause : Nat} (managed : s.managed g = true) (asleep : s.nmState g = 5)
    (hv : v = ((((s.sleepAbort cause).setFld F.NM_SEG_STAT_WREASON g cause).setNms g { s.nms g with lastActive := false }).setXcvr g
      1).restartSilence g) :
    s.passiveWake g cause = if v.ownNeed g then v.goAwake g else v.segEnter g 2 := by
  have same : ((s.sleepAbort cause).setFld F.NM_SEG_STAT_WREASON g cause).nms g = s.nms g :=
    State.nms_congr ((State.setFld_nm ..).trans (s.sleepAbort_nm cause)) g
  rw [State.passiveWake, if_neg (by simp [managed, asleep])]
  simp only [same, ← hv]

theorem State.passiveWake_off {cause : Nat} (off : s.managed g = false ∨ s.nmState g ≠ 5) : s.passiveWake g cause = s :=
  if_pos (by rcases off with h | h <;> simp [h])

end

/-- Settles O37: each timer acts on a managed segment in its state alone; needs and wake commands are writes judged by the NM block. -/
theorem segmentSleep : Obligations.SegmentSleep := by
  unfold Obligations.SegmentSleep
  refine ⟨?sends, ?sendsNot, ?silence, ?silenceNot, ?prepare, ?prepareNot, ?confirm, ?confirmNot, ?ends, ?endsEth, ?endsNot, ?repeats,
    ?repeatsNot, ?need, ?moduleNeed, ?wake, ?passive, ?passiveNot⟩
  case sends => exact fun s g awake can managed on => State.runOn_next rfl awake (State.keepAlive_on can managed on)
  case sendsNot => exact fun s g awake off => State.runOn_next rfl awake (State.keepAlive_off off)
  case silence => exact fun s g awake managed ready safe => State.runOn_next rfl awake (State.silenceExpiry_on managed ready safe)
  case silenceNot => exact fun s g awake off => State.runOn_next rfl awake (State.silenceExpiry_off off)
  case prepare => exact fun s g awake managed prepares safe => State.runOn_next rfl awake (State.prepareExpiry_on managed prepares safe)
  case prepareNot => exact fun s g awake off => State.runOn_next rfl awake (State.prepareExpiry_off off)
  case confirm => exact fun s g awake alone managed commits => State.runOn_next rfl awake (State.sleepConfirm_on alone managed commits)
  case confirmNot => exact fun s g awake off => State.runOn_next rfl awake (State.sleepConfirm_off off)
  case ends => exact fun s g awake managed commits ends => State.runOn_next rfl awake (State.transitionEnd_on managed commits ends)
  case endsEth => exact fun s g awake eth free => State.runOn_next rfl awake (State.transitionEnd_off (.inr ⟨eth, free⟩))
  case endsNot => exact fun s g awake off => State.runOn_next rfl awake (State.transitionEnd_off (.inl off))
  case repeats => exact fun s g t v awake window hv => State.runOn_next rfl awake (State.repeatEnd_some window hv)
  case repeatsNot => exact fun s g awake none => State.runOn_next rfl awake (State.repeatEnd_none none)
  case need => exact fun s a g v h => exec_put rfl h rfl rfl rfl fun code => State.put_need _ code g v
  case moduleNeed => exact fun s a v h => exec_put rfl h rfl rfl rfl fun code => State.put_modNeed _ code v
  case wake => exact fun s a g h => exec_put rfl h rfl rfl rfl fun code => State.put_segWake _ code g
  case passive => exact fun s g cause v awake managed asleep hv => State.runOn_next rfl awake (State.passiveWake_on managed asleep hv)
  case passiveNot => exact fun s g cause awake off => State.runOn_next rfl awake (State.passiveWake_off off)

end Sys2Proof.Machine
end

section
/-! Stuck nodes, stuck need and the wake of the module (R493 to R504). -/

namespace Sys2Proof.Machine

section
variable {s v : State} {g k t : Nat}

/-- A node is marked stuck at `t` and reported (R493). -/
def State.markStuck (s : State) (g n k t : Nat) : State :=
  (((s.advanceTo t).setNode g n { s.nmNode g n with stuck := true }).setFlag F.NM_EVT_NODE_STUCK).raise .NM_NODE_STUCK g [k]

theorem State.nodeStuck_off (off : s.managed g = false ∨ (g < 8 ∧ ((s.nmNode g k).since.bind s.awakeFrom = none ∨ (s.nmNode g k).stuck = true)) ∨
    (8 ≤ g ∧ (s.nms g).rejectAt.bind s.awakeFrom = none)) : s.nodeStuck g k = s := by
  unfold State.nodeStuck
  by_cases managed : s.managed g = true
  · rw [if_neg (by simp [managed])]
    rcases off with h | ⟨can, h⟩ | ⟨eth, h⟩
    · exact absurd managed (ne_true_of_eq_false h)
    · rw [if_pos can]
      rcases h with h | h
      · simp only [h]
      · simp only [h, if_true]
        split <;> rfl
    · rw [if_neg (Nat.not_lt.2 eth)]
      simp only [h]
  · exact if_pos (by simp [managed])

theorem State.nodeStuck_can (managed : s.managed g = true) (can : g < 8) (fresh : (s.nmNode g k).stuck = false)
    (since : (s.nmNode g k).since.bind s.awakeFrom = some t) :
    s.nodeStuck g k = s.markStuck g k k (t + minutes (s.fld F.NM_SEG_MAXAW_MAX_AWAKE g)) := by
  unfold State.nodeStuck
  rw [if_neg (by simp [managed]), if_pos can]
  simp only [since, fresh]
  rfl

theorem State.nodeStuck_eth (managed : s.managed g = true) (eth : 8 ≤ g) (rejects : (s.nms g).rejectAt.bind s.awakeFrom = some t)
    (hv : v = s.markStuck g 0 k (t + minutes (s.fld F.NM_SEG_MAXAW_MAX_AWAKE g))) :
    s.nodeStuck g k = if v.flag F.NM_SEG_CFG_ISOLATE_STUCK g then
      ((v.linkDrop (g - 8)).setFld F.ETH_PSTAT_TC10 (g - 8) 2).segEnter g 6 else v := by
  unfold State.nodeStuck
  rw [if_neg (by simp [managed]), if_neg (Nat.not_lt.2 eth)]
  rw [State.markStuck] at hv
  simp only [rejects, ← hv]

theorem State.nodeUnstuck_on (managed : s.managed g = true) (stuck : (s.nmNode g k).stuck = true) (awake : s.nmState g < 4) :
    s.nodeUnstuck g k = ((s.advanceTo (Nat.max ((s.nmNode g k).last.getD 0) (s.nms g).wokeAt + s.silenceNs g)).setNode g k
      { s.nmNode g k with stuck := false, since := none }).noneStuck g := if_neg (by simp [managed, stuck, awake])

theorem State.nodeUnstuck_off (off : (s.nmNode g k).stuck = false ∨ s.managed g = false ∨ 4 ≤ s.nmState g) : s.nodeUnstuck g k = s :=
  if_pos (by rcases off with h | h | h <;> simp [h])

theorem State.ownStuck_on (since : (s.nms g).ownSince.bind s.awakeFrom = some t) (max : s.fld F.NM_SEG_MAXAW_OWN_MAX g ≠ 0)
    (managed : s.managed g = true) (need : s.ownNeed g = true) :
    s.ownStuck g = (((((s.advanceTo (t + minutes (s.fld F.NM_SEG_MAXAW_OWN_MAX g))).setNms g { s.nms g with released := s.needSources g }).setFlag
      F.NM_SEG_STAT_OWN_STUCK g).setFlag F.NM_EVT_OWN_STUCK).raise .NM_OWN_STUCK g).needUpdate g := by
  unfold State.ownStuck
  simp only [since]
  exact if_neg (by simp [max, managed, need])

theorem State.ownStuck_off (off : (s.nms g).ownSince.bind s.awakeFrom = none ∨ s.fld F.NM_SEG_MAXAW_OWN_MAX g = 0 ∨ s.managed g = false ∨
    s.ownNeed g = false) : s.ownStuck g = s := by
  unfold State.ownStuck
  rcases off with h | h
  · simp only [h]
  · split
    · exact if_pos (by rcases h with h | h | h <;> simp [h])
    · rfl

theorem State.wakeInPin_awake {level : Bool} {held : Nat} {boot : BootIn} (awake : s.awake = true) (hv : v = s.setNm { s.nm with wakeIn := level }) :
    s.wakeInPin level held boot =
      (if level ∧ v.flag F.NM_WAKE_CFG_WAKEIN_EN = true ∧ ms 1 ≤ held then v.sleepAbort 4 else v).needAll := by
  rw [State.wakeInPin, if_pos awake, State.wakeInLevel]
  simp only [← hv, Bool.and_eq_true, decide_eq_true_eq, and_assoc]

theorem State.wakeInPin_wakes {held : Nat} {boot : BootIn} (asleep : s.awake = false) (long : ms 1 ≤ held) :
    s.wakeInPin true held boot = (s.setNm { s.nm with wakeIn := true }).wakeUp 4 0 [] boot := by
  rw [State.wakeInPin, if_neg (ne_true_of_eq_false asleep)]
  exact if_pos ⟨rfl, long⟩

theorem State.wakeInPin_short {level : Bool} {held : Nat} {boot : BootIn} (asleep : s.awake = false) (short : level = false ∨ held < ms 1) :
    s.wakeInPin level held boot = s.setNm { s.nm with wakeIn := level } := by
  rw [State.wakeInPin, if_neg (ne_true_of_eq_false asleep)]
  refine if_neg fun ⟨high, long⟩ => ?_
  rcases short with h | h
  · exact Bool.false_ne_true (h.symm.trans high)
  · exact absurd long (Nat.not_le.2 h)

theorem State.wakeTimerEnd_off {boot : BootIn} (off : s.awake = true ∨ s.nm.timerAt = none ∨ s.flag F.NM_WAKE_CFG_TIMER_EN = false) :
    s.wakeTimerEnd boot = s := by
  unfold State.wakeTimerEnd
  split
  next t timer =>
    refine if_pos ?_
    rcases off with h | h | h
    · simp [h]
    · simp [h] at timer
    · simp [h]
  · rfl

theorem State.wakeTimerEnd_on {boot : BootIn} (asleep : s.awake = false) (timer : s.nm.timerAt = some t)
    (on : s.flag F.NM_WAKE_CFG_TIMER_EN = true) :
    s.wakeTimerEnd boot = (s.advanceTo (t + sec (s.fld F.NM_WAKE_TIMER_SECONDS))).wakeUp 7 0 [] boot := by
  unfold State.wakeTimerEnd
  simp only [timer]
  exact if_neg (by simp [asleep, on])

theorem State.wakeOutEnd_none (none : s.nm.pulse = none) : s.wakeOutEnd = s := by rw [State.wakeOutEnd, none]

theorem State.wakeOutEnd_some (pulse : s.nm.pulse = some t) :
    s.wakeOutEnd = (s.advanceTo (t + ms (10 * s.fld F.NM_WAKE_CFG_WO_PULSE))).setNm { s.nm with pulse := none } := by rw [State.wakeOutEnd, pulse]

end

/-- Settles O38: a node or a partner is marked once its awake time has passed, and the wake sources act as the module is awake or asleep. -/
theorem stuckAndWake : Obligations.StuckAndWake := by
  unfold Obligations.StuckAndWake
  refine ⟨?stuckNot, ?stuckCan, ?stuckEth, ?unstuck, ?unstuckNot, ?clear, ?own, ?ownNot, ?pinAwake, ?pinWakes, ?pinShort, ?timerNot, ?timer,
    ?noPulse, ?pulse⟩
  case stuckNot => exact fun s g k awake off => State.runOn_next rfl awake (State.nodeStuck_off off)
  case stuckCan =>
    exact fun s g k t awake managed can fresh since => State.runOn_next rfl awake (State.nodeStuck_can managed can fresh since)
  case stuckEth =>
    exact fun s g k t v awake managed eth rejects hv => State.runOn_next rfl awake (State.nodeStuck_eth managed eth rejects hv)
  case unstuck => exact fun s g k awake managed stuck up => State.runOn_next rfl awake (State.nodeUnstuck_on managed stuck up)
  case unstuckNot => exact fun s g k awake off => State.runOn_next rfl awake (State.nodeUnstuck_off off)
  case clear => exact fun s a g h => exec_put rfl h rfl rfl rfl fun code => State.put_unstuck _ code g
  case own => exact fun s g t awake since max managed need => State.runOn_next rfl awake (State.ownStuck_on since max managed need)
  case ownNot => exact fun s g awake off => State.runOn_next rfl awake (State.ownStuck_off off)
  case pinAwake => exact fun s level held boot v awake hv => State.run_next rfl (State.wakeInPin_awake awake hv)
  case pinWakes => exact fun s held boot asleep long => State.run_next rfl (State.wakeInPin_wakes asleep long)
  case pinShort => exact fun s level held boot asleep short => State.run_next rfl (State.wakeInPin_short asleep short)
  case timerNot => exact fun s boot off => State.run_next rfl (State.wakeTimerEnd_off off)
  case timer => exact fun s t boot asleep timer on => State.run_next rfl (State.wakeTimerEnd_on asleep timer on)
  case noPulse => exact fun s none => State.run_next rfl (State.wakeOutEnd_none none)
  case pulse => exact fun s t pulse => State.run_next rfl (State.wakeOutEnd_some pulse)

end Sys2Proof.Machine
end

section
/-! The SDO servers (R520): what each message of a transfer does. -/

namespace Sys2Proof.Machine

section
variable {s v : State} {p : Fin 8} {b : List Byte} {cs : Nat} {f : State → State}

/-! ## Which message a server takes -/

theorem State.sdoRow_off (off : s.sdoOn p = false ∨ b.length ≠ 8) : s.sdoRow p cs b f = s :=
  if_pos (by rcases off with h | h <;> simp [h])

section
variable (on : s.sdoOn p = true) (whole : b.length = 8) (hv : v = s.sessSweep.authUnlock)
include on whole hv

/-- Outside a block of a block download a message is judged by its command specifier. -/
theorem State.sdoRow_outside (outside : ∀ x ∈ v.xferOf p, (x.kind == 2 && x.phase == 0) = false) :
    s.sdoRow p cs b f = if byteAt b 0 / 32 = cs then f v else v.sdoUnknown p b := by
  rw [State.sdoRow, State.sdoMsg, if_neg (by simp [on, whole]), ← hv]
  cases hx : v.xferOf p with
  | none => exact if_neg (by decide)
  | some x => exact if_neg (ne_true_of_eq_false (outside x hx))

theorem State.sdoRow_idle (idle : v.xferOf p = none) : s.sdoRow p cs b f = if byteAt b 0 / 32 = cs then f v else v.sdoUnknown p b :=
  State.sdoRow_outside on whole hv (by rw [idle]; exact fun x h => absurd h (by simp))

theorem State.sdoRow_running {x : Xfer} (runs : v.xferOf p = some x) (outside : (x.kind == 2 && x.phase == 0) = false)
    (ours : byteAt b 0 / 32 = cs) : s.sdoRow p cs b f = f v :=
  (State.sdoRow_outside on whole hv (by rw [runs]; rintro y ⟨⟩; exact outside)).trans (if_pos ours)

theorem State.sdoRow_block {x : Xfer} (runs : v.xferOf p = some x) (kind : x.kind = 2) (phase : x.phase = 0) :
    s.sdoRow p cs b f = v.sdoBlockDown p b := by
  rw [State.sdoRow, State.sdoMsg, if_neg (by simp [on, whole]), ← hv]
  simp only [runs, kind, phase]
  rfl

end

theorem State.sdoUnknown_idle (idle : s.xferOf p = none) : s.sdoUnknown p b = s.sdoAbort p (msgIdx b) (msgSub b) abCommand := by
  rw [State.sdoUnknown, idle]

/-! ## Expedited and segmented transfer -/

theorem State.sdoInitDown_expedited (k : Fin 4) (command : byteAt b 0 = 0x23 + 4 * k) :
    s.sdoInitDown p b = (s.setXfer p none).sdoWrite p (msgIdx b) (msgSub b) ((b.drop 4).take (4 - k)) 0x60 := by
  have expedited : bitOf (byteAt b 0) 1 = true := by simp only [bitOf, command, beq_iff_eq]; omega
  have sized : bitOf (byteAt b 0) 0 = true := by simp only [bitOf, command, beq_iff_eq]; omega
  have free : byteAt b 0 / 4 % 4 = k := by omega
  unfold State.sdoInitDown
  rw [if_pos expedited]
  simp only [sized, free, if_true]

theorem State.sdoInitDown_segmented (command : byteAt b 0 = 0x21) (may : (s.setXfer p none).dictMay (.sdo p) (msgIdx b) (msgSub b) true = 0) :
    s.sdoInitDown p b = ((s.setXfer p none).setXfer p (some
      { kind := 0, idx := msgIdx b, sub := msgSub b, size := some (leNat (b.drop 4)), last := s.now })).sdoReply p
        ([0x60] ++ muxBytes (msgIdx b) (msgSub b)) := by
  have segmented : ¬ bitOf (byteAt b 0) 1 = true := by rw [command]; decide
  have sized : bitOf (byteAt b 0) 0 = true := by rw [command]; decide
  unfold State.sdoInitDown
  refine (if_neg segmented).trans ((if_neg (not_not_intro may)).trans ?_)
  rw [sized]
  rfl

/-- A download segment of a running transfer with the right toggle bit carries `k` bytes less than 7. -/
theorem State.sdoDownSeg_data {x : Xfer} (k : Fin 8) (last : Bool) (runs : s.xferOf p = some x) (kind : x.kind = 0)
    (command : byteAt b 0 = 2 * k + (if last then 1 else 0) + (if x.toggle then 16 else 0)) : s.sdoDownSeg p b =
      if last then
        if sizeCheck x.size (x.data ++ (b.drop 1).take (7 - k)).length ≠ 0 then
          (s.setXfer p none).sdoAbort p x.idx x.sub (sizeCheck x.size (x.data ++ (b.drop 1).take (7 - k)).length)
        else (s.setXfer p none).sdoWrite p x.idx x.sub (x.data ++ (b.drop 1).take (7 - k)) (if x.toggle then 0x30 else 0x20)
      else (s.setXfer p (some { x with toggle := !x.toggle, data := x.data ++ (b.drop 1).take (7 - k), last := s.now })).sdoReply p
        (leBytes 1 (if x.toggle then 0x30 else 0x20)) := by
  have bits : bitOf (byteAt b 0) 4 = x.toggle ∧ bitOf (byteAt b 0) 0 = last ∧ byteAt b 0 / 2 % 8 = k := by
    cases last <;> cases toggle : x.toggle <;>
      simp only [toggle, if_true, if_false, Bool.false_eq_true, Nat.add_zero] at command <;>
      simp only [bitOf, command, beq_iff_eq, beq_eq_false_iff_ne] <;> omega
  obtain ⟨toggle, ends, free⟩ := bits
  have tag : 0x20 + (if x.toggle then 0x10 else 0) = if x.toggle then 0x30 else 0x20 := by cases x.toggle <;> rfl
  rw [State.sdoDownSeg, runs]
  refine (if_neg (not_not_intro kind)).trans ((if_neg (not_not_intro toggle)).trans ?_)
  simp only [ends, free, tag]

theorem State.sdoDownSeg_toggle {x : Xfer} (runs : s.xferOf p = some x) (kind : x.kind = 0) (wrong : bitOf (byteAt b 0) 4 ≠ x.toggle) :
    s.sdoDownSeg p b = s.sdoAbort p x.idx x.sub abToggle := by
  rw [State.sdoDownSeg, runs]
  exact (if_neg (not_not_intro kind)).trans (if_pos wrong)

theorem State.sdoDownSeg_idle (idle : s.xferOf p = none) : s.sdoDownSeg p b = s.sdoUnknown p b := by rw [State.sdoDownSeg, idle]

section
variable {x : State × Nat × List Byte} (hx : x = (s.setXfer p none).dictRead (.sdo p) (msgIdx b) (msgSub b))
include hx

theorem State.sdoInitUp_refused (refused : x.2.1 ≠ 0) : s.sdoInitUp p b = x.1.sdoAbort p (msgIdx b) (msgSub b) x.2.1 := by
  rw [State.sdoInitUp, ← hx]
  exact if_pos refused

theorem State.sdoInitUp_short (read : x.2.1 = 0) (least : 1 ≤ x.2.2.length) (few : x.2.2.length ≤ 4) : s.sdoInitUp p b =
    x.1.sdoReply p (leBytes 1 (0x43 + 4 * (4 - x.2.2.length)) ++ muxBytes (msgIdx b) (msgSub b) ++ x.2.2) := by
  rw [State.sdoInitUp, ← hx]
  exact (if_neg (not_not_intro read)).trans (if_pos ⟨least, few⟩)

theorem State.sdoInitUp_long (read : x.2.1 = 0) (many : 4 < x.2.2.length) : s.sdoInitUp p b = (x.1.setXfer p (some
    { kind := 1, idx := msgIdx b, sub := msgSub b, data := x.2.2, all := x.2.2, last := x.1.now })).sdoReply p
      ([0x41] ++ muxBytes (msgIdx b) (msgSub b) ++ leBytes 4 x.2.2.length) := by
  rw [State.sdoInitUp, ← hx]
  exact (if_neg (not_not_intro read)).trans (if_neg fun h => by omega)

end

theorem State.sdoUpSeg_data {x : Xfer} (runs : s.xferOf p = some x) (kind : x.kind = 1)
    (command : byteAt b 0 = 0x60 + (if x.toggle then 16 else 0)) : s.sdoUpSeg p b =
      if x.data.length ≤ 7 then
        (s.setXfer p none).sdoReply p (leBytes 1 ((if x.toggle then 16 else 0) + 2 * (7 - x.data.length) + 1) ++ x.data)
      else (s.setXfer p (some { x with toggle := !x.toggle, data := x.data.drop 7, last := s.now })).sdoReply p
        (leBytes 1 (if x.toggle then 16 else 0) ++ x.data.take 7) := by
  have toggle : bitOf (byteAt b 0) 4 = x.toggle := by
    rw [command]
    cases x.toggle <;> decide
  rw [State.sdoUpSeg, runs]
  refine (if_neg (not_not_intro kind)).trans ((if_neg (not_not_intro toggle)).trans ?_)
  by_cases short : x.data.length ≤ 7
  · rw [if_pos short, List.take_of_length_le short, List.drop_of_length_le short]
    rfl
  · have rest : (x.data.drop 7).isEmpty = false := by
      rw [List.isEmpty_eq_false_iff, ne_eq, List.drop_eq_nil_iff]
      exact short
    have full : (x.data.take 7).length = 7 := List.length_take_of_le (by omega)
    rw [if_neg short]
    simp only [rest, full, Bool.false_eq_true, if_false]
    rfl

/-! ## Block transfer -/

theorem State.sdoBlockDown_start (idle : s.xferOf p = none) (command : byteAt b 0 / 32 = 6) (start : bitOf (byteAt b 0) 0 = false)
    (may : (s.setXfer p none).dictMay (.sdo p) (msgIdx b) (msgSub b) true = 0) : s.sdoBlockDown p b =
      ((s.setXfer p none).setXfer p (some { kind := 2, idx := msgIdx b, sub := msgSub b, crc := bitOf (byteAt b 0) 2, last := s.now
                                            size := if bitOf (byteAt b 0) 1 then some (leNat (b.drop 4)) else none })).sdoReply p
        ([0xA4] ++ muxBytes (msgIdx b) (msgSub b) ++ leBytes 1 127) := by
  rw [State.sdoBlockDown, idle]
  exact (if_pos (by rw [command, start]; rfl)).trans (if_neg (not_not_intro may))

theorem State.sdoBlockDown_last {x : Xfer} (runs : s.xferOf p = some x) (kind : x.kind = 2) (phase : x.phase = 0) (fits : x.seq + 1 ≤ x.blk)
    (command : byteAt b 0 = 128 + (x.seq + 1)) (small : x.seq < 127) : s.sdoBlockDown p b =
      (s.setXfer p (some { x with data := x.data ++ b.drop 1, seq := 0, phase := 1, last := s.now })).sdoReply p
        ([0xA2] ++ leBytes 1 (x.seq + 1) ++ leBytes 1 x.blk) := by
  have n : byteAt b 0 % 128 = x.seq + 1 := by omega
  have last : bitOf (byteAt b 0) 7 = true := by simp only [bitOf, command, beq_iff_eq]; omega
  rw [State.sdoBlockDown, runs]
  refine (if_neg (not_not_intro kind)).trans ((if_pos phase).trans ((if_neg (by omega)).trans ?_))
  simp only [n, last, beq_self_eq_true, Bool.true_or, Bool.and_true, if_true]

theorem State.sdoBlockDown_end {x : Xfer} {d : List Byte} (k : Fin 8) (runs : s.xferOf p = some x) (kind : x.kind = 2) (phase : x.phase = 1)
    (command : byteAt b 0 = 0xC1 + 4 * k) (hd : d = x.data.take (x.data.length - k)) : s.sdoBlockDown p b =
      if x.crc && leNat ((b.drop 1).take 2) != sdoCrc d then (s.setXfer p none).sdoAbort p x.idx x.sub abBlkCrc
      else if sizeCheck x.size d.length ≠ 0 then (s.setXfer p none).sdoAbort p x.idx x.sub (sizeCheck x.size d.length)
      else (s.setXfer p none).sdoWrite p x.idx x.sub d 0xA1 := by
  have ends : byteAt b 0 / 32 = 6 ∧ bitOf (byteAt b 0) 0 = true := by
    simp only [bitOf, command, beq_iff_eq]
    omega
  have free : byteAt b 0 / 4 % 8 = k := by omega
  rw [State.sdoBlockDown, runs]
  refine (if_neg (not_not_intro kind)).trans ((if_neg (by omega)).trans ((if_pos ends).trans ?_))
  simp only [free, ← hd]

theorem State.sdoBlockUp_start {x : State × Nat × List Byte} (command : byteAt b 0 = 0xA4) (least : 1 ≤ byteAt b 4) (most : byteAt b 4 ≤ 127)
    (hx : x = (s.setXfer p none).dictRead (.sdo p) (msgIdx b) (msgSub b)) (read : x.2.1 = 0) : s.sdoBlockUp p b = (x.1.setXfer p (some
      { kind := 3, idx := msgIdx b, sub := msgSub b, data := x.2.2, all := x.2.2, blk := byteAt b 4, crc := true, phase := 2,
        last := x.1.now })).sdoReply p ([0xC6] ++ muxBytes (msgIdx b) (msgSub b) ++ leBytes 4 x.2.2.length) := by
  have crc : bitOf (byteAt b 0) 2 = true := by rw [command]; decide
  unfold State.sdoBlockUp
  refine (if_pos (by rw [command]; decide)).trans ((if_neg (by omega)).trans ?_)
  rw [← hx, crc]
  exact if_neg (not_not_intro read)

theorem State.sdoBlockUp_send {x : Xfer} (runs : s.xferOf p = some x) (kind : x.kind = 3) (phase : x.phase = 2) (command : byteAt b 0 = 0xA3) :
    s.sdoBlockUp p b = s.sendBlock p x := by
  unfold State.sdoBlockUp
  refine (if_neg (by rw [command]; decide)).trans ?_
  rw [runs]
  refine (if_neg ?_).trans (if_pos ⟨phase, by rw [command]⟩)
  rw [command, kind]
  decide

/-! ## Silence -/

theorem State.sdoTimeout_on {x : Xfer} (on : s.sdoOn p = true) (runs : s.xferOf p = some x) :
    s.sdoTimeout p = (s.advanceTo (x.last + ms 1000)).sdoAbort p x.idx x.sub abTimeout := by
  rw [State.sdoTimeout, runs]
  exact if_pos on

theorem State.sdoTimeout_off (off : s.xferOf p = none ∨ s.sdoOn p = false) : s.sdoTimeout p = s := by
  unfold State.sdoTimeout
  split
  next x runs =>
    rcases off with h | h
    · exact absurd (runs.symm.trans h) (by simp)
    · exact if_neg (ne_true_of_eq_false h)
  · rfl

end

/-- Settles O39: a message is judged by its command specifier, inside a block of a block download as one of its segments; each case then reads the
  message's bits. -/
theorem sdoServer : Obligations.SdoServer := by
  unfold Obligations.SdoServer
  refine ⟨?expedited, ?segmented, ?unknown, ?off, ?lastSegment, ?segment, ?toggle, ?noTransfer, ?refused, ?short, ?long, ?lastUpload, ?upload,
    ?block, ?blockLast, ?crcWrong, ?crcRight, ?blockUpload, ?send, ?abort, ?abortOff, ?timeout, ?timeoutOff⟩
  case expedited =>
    intro s p k b v awake on whole hv idle command
    refine State.runOn_next rfl awake ?_
    rw [State.sdoRow_idle on whole hv idle, if_pos (by omega), State.sdoInitDown_expedited k command]
  case segmented =>
    intro s p b v awake on whole hv idle command may
    refine State.runOn_next rfl awake ?_
    rw [State.sdoRow_idle on whole hv idle, if_pos (by omega), State.sdoInitDown_segmented command may]
  case unknown =>
    intro s p b v awake on whole hv idle other
    refine State.runOn_next rfl awake ?_
    rw [State.sdoRow_idle on whole hv idle, if_neg other, State.sdoUnknown_idle idle]
    rfl
  case off => exact fun s p b awake off => State.runOn_next rfl awake (State.sdoRow_off off)
  case lastSegment =>
    intro s p k b v x awake on whole hv runs kind command size
    refine State.runOn_next rfl awake ?_
    rw [State.sdoRow_running on whole hv runs (by rw [kind]; rfl) (by split at command <;> omega),
      State.sdoDownSeg_data k true runs kind (by rw [if_pos rfl]; exact command), if_pos rfl, if_neg (not_not_intro size)]
  case segment =>
    intro s p k b v x awake on whole hv runs kind command
    refine State.runOn_next rfl awake ?_
    rw [State.sdoRow_running on whole hv runs (by rw [kind]; rfl) (by split at command <;> omega),
      State.sdoDownSeg_data k false runs kind (by rw [if_neg Bool.false_ne_true]; exact command), if_neg Bool.false_ne_true]
  case toggle =>
    intro s p b v x awake on whole hv runs kind small wrong
    refine State.runOn_next rfl awake ?_
    rw [State.sdoRow_running on whole hv runs (by rw [kind]; rfl) (by omega), State.sdoDownSeg_toggle runs kind wrong]
    rfl
  case noTransfer =>
    intro s p b v awake on whole hv idle
    refine State.runOn_next rfl awake ?_
    rw [State.sdoRow_idle on whole hv idle, State.sdoDownSeg_idle idle, ite_self, State.sdoUnknown_idle idle]
    rfl
  case refused =>
    intro s p b v x awake on whole hv idle command hx refused
    refine State.runOn_next rfl awake ?_
    rw [State.sdoRow_idle on whole hv idle, if_pos (by omega), State.sdoInitUp_refused hx refused]
  case short =>
    intro s p b v x awake on whole hv idle command hx read least few
    refine State.runOn_next rfl awake ?_
    rw [State.sdoRow_idle on whole hv idle, if_pos (by omega), State.sdoInitUp_short hx read least few]
  case long =>
    intro s p b v x awake on whole hv idle command hx read many
    refine State.runOn_next rfl awake ?_
    rw [State.sdoRow_idle on whole hv idle, if_pos (by omega), State.sdoInitUp_long hx read many]
  case lastUpload =>
    intro s p b v x awake on whole hv runs kind command short
    refine State.runOn_next rfl awake ?_
    rw [State.sdoRow_running on whole hv runs (by rw [kind]; rfl) (by split at command <;> omega),
      State.sdoUpSeg_data runs kind command, if_pos short]
  case upload =>
    intro s p b v x awake on whole hv runs kind command long
    refine State.runOn_next rfl awake ?_
    rw [State.sdoRow_running on whole hv runs (by rw [kind]; rfl) (by split at command <;> omega),
      State.sdoUpSeg_data runs kind command, if_neg (Nat.not_le.2 long)]
  case block =>
    intro s p b v awake on whole hv idle command start may
    refine State.runOn_next rfl awake ?_
    rw [State.sdoRow_idle on whole hv idle, if_pos command, State.sdoBlockDown_start idle command start may]
  case blockLast =>
    intro s p b v x awake on whole hv runs kind phase fits command small
    refine State.runOn_next rfl awake ?_
    rw [State.sdoRow_block on whole hv runs kind phase, State.sdoBlockDown_last runs kind phase fits command small]
  case crcWrong =>
    intro s p k b d v x awake on whole hv runs kind phase command hd crc wrong
    refine State.runOn_next rfl awake ?_
    rw [State.sdoRow_running on whole hv runs (by rw [phase]; exact Bool.and_false _) (by omega),
      State.sdoBlockDown_end k runs kind phase command hd, if_pos (by rw [crc]; exact bne_iff_ne.2 wrong)]
    rfl
  case crcRight =>
    intro s p k b d v x awake on whole hv runs kind phase command hd crc right size
    refine State.runOn_next rfl awake ?_
    rw [State.sdoRow_running on whole hv runs (by rw [phase]; exact Bool.and_false _) (by omega),
      State.sdoBlockDown_end k runs kind phase command hd, if_neg (by rw [right, bne_self_eq_false, Bool.and_false]; decide),
      if_neg (not_not_intro size)]
  case blockUpload =>
    intro s p b v x awake on whole hv idle command least most hx read
    refine State.runOn_next rfl awake ?_
    rw [State.sdoRow_idle on whole hv idle, if_pos (by omega), State.sdoBlockUp_start command least most hx read]
  case send =>
    intro s p b v x awake on whole hv runs kind phase command
    refine State.runOn_next rfl awake ?_
    rw [State.sdoRow_running on whole hv runs (by rw [phase]; exact Bool.and_false _) (by omega),
      State.sdoBlockUp_send runs kind phase command]
  case abort => exact fun s p awake on => State.runOn_next rfl awake (if_pos on)
  case abortOff => exact fun s p awake off => State.runOn_next rfl awake (if_neg (ne_true_of_eq_false off))
  case timeout => exact fun s p x awake on runs => State.runOn_next rfl awake (State.sdoTimeout_on on runs)
  case timeoutOff => exact fun s p awake off => State.runOn_next rfl awake (State.sdoTimeout_off off)

end Sys2Proof.Machine
end

section
/-! An SDO client whose session has no level, and the writes of 1E00 (R512, R516). -/

namespace Sys2Proof.Machine

/-- Configure, with SDO server 0 in use by a client whose session stands at level 0, below the operator level that 1E00:02 asks for. -/
def lowSession : State :=
  { State.reset.setFld F.SYS_MODE_MODE 0 3 with od := { nodes := [(0, 5)], sess := [{ client := .sdo 0, level := 0, last := 0 }] } }

/-- A write of 1E00:02 for level 2: the level and 32 bytes of tag. -/
def serviceTag : List Byte := 2 :: List.replicate 32 0

theorem lowSession_step : exec (.sessionAuthentication (.sdo 0) serviceTag) lowSession =
    .next (State.finish lowSession (lowSession.clientWrite (.sdo 0) 0x1E00 2 serviceTag)) := rfl

/-- Refutes O40: the clause of SESSION_AUTHENTICATION for a level that the lifecycle state does not permit answers 0x0800_0020 to every client,
but from `lowSession` the model refuses the access itself, with 0x0601_0000, since the client's session lies below the entry's level (R512). -/
theorem not_storesAndSessions : ¬ Obligations.StoresAndSessions := by
  unfold Obligations.StoresAndSessions
  rintro ⟨-, -, -, -, -, -, -, -, -, -, notPermitted, -⟩
  have claimed := notPermitted lowSession 0 serviceTag _ (by decide) (by decide) (by decide) (by decide) (by decide) rfl
    (by decide) (by decide)
  rw [lowSession_step] at claimed
  have replies := congrArg (fun s => s.od.reply) (Host.Outcome.next.inj claimed)
  have levelRefused : (State.finish lowSession (lowSession.clientWrite (.sdo 0) 0x1E00 2 serviceTag)).od.reply =
    [(.sdo 0, [0x80, 0, 0x1E, 2, 0, 0, 0x01, 0x06])] := by decide +kernel
  have stored : (State.finish lowSession (((lowSession.sessSweep.authUnlock.setXfer ((0 : Fin 8) : Nat) none).authUnlock).sdoAbort 0 0x1E00 2
    0x08000020)).od.reply = [(.sdo 0, [0x80, 0, 0x1E, 2, 0x20, 0, 0, 0x08])] := by decide +kernel
  rw [levelRefused] at replies
  exact absurd (replies.trans stored) (by decide)

end Sys2Proof.Machine
end

section
/-! PDOs, SYNC, the TXB1 arbiter, NMT and heartbeats (R519 to R527). -/

namespace Sys2Proof.Machine

section
variable {s v : State} {k : Nat}

/-! ## Receive PDOs (R521, R523) -/

theorem State.rpdoReceived_off {b : List Byte} (off : s.pdoOn = false ∨ 2 ^ 31 ≤ s.cobOf (rpdoCom k)) : s.rpdoReceived k b = s :=
  if_pos (by rcases off with h | h <;> simp only [h, Bool.not_false, decide_true, Bool.true_or, Bool.or_true])

section
variable {b : List Byte} (on : s.pdoOn = true) (used : s.cobOf (rpdoCom k) < 2 ^ 31)
  (hv : v = s.setRpdo k { s.rpdo k with last := some s.now, late := false })
include on used hv

theorem State.rpdoReceived_on : s.rpdoReceived k b =
    if 8 * b.length < v.mapTotal (rpdoCom k + 0x200) then v.raise .DICT_PDO_LENGTH (k + 1)
    else if 254 ≤ v.pdoTypeOf (rpdoCom k) then v.rpdoProcess k b
    else v.setRpdo k { v.rpdo k with wait := some b } := by
  rw [hv]
  exact if_neg (by simp only [on, Nat.not_le.2 used, Bool.not_true, decide_false, Bool.or_false, Bool.false_eq_true, not_false_eq_true])

theorem State.rpdoReceived_event (whole : v.mapTotal (rpdoCom k + 0x200) ≤ 8 * b.length) (event : 254 ≤ v.pdoTypeOf (rpdoCom k)) :
    s.rpdoReceived k b = v.rpdoProcess k b := by
  rw [State.rpdoReceived_on on used hv, if_neg (Nat.not_lt.2 whole), if_pos event]

theorem State.rpdoReceived_sync (whole : v.mapTotal (rpdoCom k + 0x200) ≤ 8 * b.length) (sync : v.pdoTypeOf (rpdoCom k) < 254) :
    s.rpdoReceived k b = v.setRpdo k { v.rpdo k with wait := some b } := by
  rw [State.rpdoReceived_on on used hv, if_neg (Nat.not_lt.2 whole), if_neg (Nat.not_le.2 sync)]

theorem State.rpdoReceived_short (short : 8 * b.length < v.mapTotal (rpdoCom k + 0x200)) :
    s.rpdoReceived k b = v.raise .DICT_PDO_LENGTH (k + 1) := by
  rw [State.rpdoReceived_on on used hv, if_pos short]

end

theorem State.rpdoTimeout_on {t : Nat} (on : s.pdoOn = true) (used : s.cobOf (rpdoCom k) < 2 ^ 31) (last : (s.rpdo k).last = some t)
    (early : (s.rpdo k).late = false) (deadline : s.odNum (rpdoCom k) 5 0 ≠ 0) (hv : v = s.advanceTo (t + ms (s.odNum (rpdoCom k) 5 0))) :
    s.rpdoTimeout k = (v.setRpdo k { v.rpdo k with late := true }).raise .DICT_RPDO_TIMEOUT (k + 1) := by
  rw [State.rpdoTimeout, last, hv]
  exact if_neg (by simp [-Nat.reducePow, on, early, deadline, used])

theorem State.rpdoTimeout_off (off : (s.rpdo k).last = none ∨ s.pdoOn = false ∨ (s.rpdo k).late = true ∨ s.odNum (rpdoCom k) 5 0 = 0 ∨
    2 ^ 31 ≤ s.cobOf (rpdoCom k)) : s.rpdoTimeout k = s := by
  unfold State.rpdoTimeout
  rcases off with h | h
  · simp only [h]
  · split
    · exact if_pos (by rcases h with h | h | h | h <;> simp [-Nat.reducePow, h])
    · rfl

/-! ## SYNC (R524) -/

/-- A SYNC processes a receive PDO of its port that waits. -/
def State.syncRpdo (p : Nat) (s : State) (k : Nat) : State :=
  (s.rpdo k).wait.elim s fun d => if s.pdoPort (rpdoCom k) = p ∧ s.cobOf (rpdoCom k) < 2 ^ 31 then
    (s.setRpdo k { s.rpdo k with wait := none }).rpdoProcess k d else s

theorem State.syncRpdo_eq (p : Nat) (s : State) (k : Nat) : (match (s.rpdo k).wait with
    | some d => if s.pdoPort (rpdoCom k) ≠ p ∨ 2 ^ 31 ≤ s.cobOf (rpdoCom k) then s
      else (s.setRpdo k { s.rpdo k with wait := none }).rpdoProcess k d
    | none => s) = s.syncRpdo p k := by
  unfold State.syncRpdo
  cases (s.rpdo k).wait with
  | none => rfl
  | some d =>
    by_cases ours : s.pdoPort (rpdoCom k) = p ∧ s.cobOf (rpdoCom k) < 2 ^ 31
    · exact (if_neg (by omega)).trans (if_pos ours).symm
    · exact (if_pos (by omega)).trans (if_neg ours).symm

theorem State.sync_off {p ctr : Nat} (off : s.pdoOn = false) : s.sync p ctr = s := if_pos (by rw [off]; rfl)

theorem State.sync_on {p ctr : Nat} (on : s.pdoOn = true) (hv : v = s.each (List.range 64) (State.syncRpdo p)) :
    s.sync p ctr = v.each (List.range 64) fun s k => if s.pdoPort (tpdoCom k) = p then s.tpdoSync k ctr else s := by
  refine (if_neg (by rw [on]; decide)).trans ?_
  rw [hv]
  exact congrArg (fun f => (s.each (List.range 64) f).each (List.range 64) fun s k => if s.pdoPort (tpdoCom k) = p then s.tpdoSync k ctr else s)
    (funext fun s => funext fun k => State.syncRpdo_eq p s k)

/-! ## Event-driven transmit PDOs (R524) -/

theorem State.tpdoEvent_off (off : s.pdoOn = false ∨ 2 ^ 31 ≤ s.cobOf (tpdoCom k) ∨ s.pdoTypeOf (tpdoCom k) < 254) : s.tpdoEvent k = s :=
  if_pos (by rcases off with h | h | h <;> simp [-Nat.reducePow, h])

/-- When an interval of `n` after the last sending ends. -/
def State.tpdoSince (s : State) (k n : Nat) : Nat := ((s.tpdo k).at0.map fun a => a + n).getD s.now

section
variable {x : State × List Byte} (on : s.pdoOn = true) (used : s.cobOf (tpdoCom k) < 2 ^ 31) (event : 254 ≤ s.pdoTypeOf (tpdoCom k))
  (hx : x = s.tpdoData k)
include on used event hx

theorem State.tpdoEvent_idle (same : x.2 = (x.1.tpdo k).sent) (noTimer : x.1.odNum (tpdoCom k) 5 0 = 0) : s.tpdoEvent k = x.1 := by
  unfold State.tpdoEvent
  refine (if_neg (by simp [-Nat.reducePow, on, used, event])).trans ?_
  simp only [← hx, if_pos same, if_pos noTimer]

theorem State.tpdoEvent_sends {i d t : Nat} (due : x.2 ≠ (x.1.tpdo k).sent ∨ x.1.odNum (tpdoCom k) 5 0 ≠ 0)
    (hi : i = tpdoPoint (Nat.max x.1.now (x.1.tpdoSince k (x.1.odNum (tpdoCom k) 3 0 * us 100))))
    (hd : d = Nat.max x.1.now (x.1.tpdoSince k (ms (x.1.odNum (tpdoCom k) 5 0))))
    (ht : t = if x.2 = (x.1.tpdo k).sent then d else if x.1.odNum (tpdoCom k) 5 0 = 0 then i else Nat.min i d) :
    s.tpdoEvent k = (x.1.advanceTo t).tpdoSend k x.2 := by
  have since (last : Option Nat) (now n : Nat) : (match last with | some a => a + n | none => now) = (last.map fun a => a + n).getD now := by
    cases last <;> rfl
  unfold State.tpdoEvent
  refine (if_neg (by simp [-Nat.reducePow, on, used, event])).trans ?_
  extract_lets x' u t' timer since' change dueAt
  obtain rfl : x' = x := hx.symm
  have hsince : since' = x'.1.tpdoSince k := funext fun n => since (x'.1.tpdo k).at0 x'.1.now n
  have hchange : change = if x'.2 = (x'.1.tpdo k).sent then none else some i := by rw [hi, ← hsince]
  have hdue : dueAt = if x'.1.odNum (tpdoCom k) 5 0 = 0 then none else some d := by rw [hd, ← hsince]
  rw [hchange, hdue, ht]
  by_cases same : x'.2 = (x'.1.tpdo k).sent
  · have timed : x'.1.odNum (tpdoCom k) 5 0 ≠ 0 := due.resolve_left (not_not_intro same)
    rw [if_pos same, if_neg timed, if_pos same]
  · by_cases noTimer : x'.1.odNum (tpdoCom k) 5 0 = 0
    · rw [if_neg same, if_pos noTimer, if_neg same, if_pos noTimer]
    · rw [if_neg same, if_neg noTimer, if_neg same, if_neg noTimer]

end

/-! ## TXB1 (R519) -/

section
variable {p : Nat}

theorem State.txb1Load_frame {x : Nat × CanFrame × Option Nat} (port : s.arbiterPort p = true) (free : s.txPend p 1 = false)
    (up : s.clk.aDown = none) (mode : s.mode' ≠ 5) (noEmcy : s.emcyNext p = none) (oldest : s.od.queue.find? (fun x => x.1 == p) = some x) :
    s.txb1Load p = ((s.putElem (txAddr p 1) x.2.1).setOd { s.od with
      queue := s.od.queue.erase x, tx1 := assoc p x.2.2 s.od.tx1 }).txPut p 1 := by
  unfold State.txb1Load
  rw [if_neg (by simp [port, free]), noEmcy]
  dsimp only
  rw [if_neg (by simp [up, mode]), oldest]

theorem State.txb1Load_emcy {e : Emcy} (port : s.arbiterPort p = true) (free : s.txPend p 1 = false) (oldest : s.emcyNext p = some e)
    (hv : v = s.setJnl { s.jnl with
      emcy := (s.jnl.emcy.map fun x => if x = e then { x with ports := x.ports.filter (· ≠ p) } else x).filter fun x => !x.ports.isEmpty }) :
    s.txb1Load p = if 2 ^ 31 ≤ s.emcyCob p then v else ((v.putElem (txAddr p 1) (cobFrame (s.emcyCob p) false e.bytes)).setOd { s.od with
      emcyAt := assoc p s.now s.od.emcyAt, tx1 := assoc p none s.od.tx1 }).txPut p 1 := by
  unfold State.txb1Load
  rw [if_neg (by simp [port, free]), oldest, hv]
  rfl

theorem State.txb1Load_off (off : s.txPend p 1 = true ∨ s.arbiterPort p = false ∨ (s.emcyNext p = none ∧ (s.clk.aDown.isSome = true ∨
    s.mode' = 5 ∨ s.od.queue.find? (fun x => x.1 == p) = none))) : s.txb1Load p = s := by
  unfold State.txb1Load
  rcases off with h | h | ⟨noEmcy, h⟩
  · exact if_pos (by simp [h])
  · exact if_pos (by simp [h])
  · rw [noEmcy]
    refine (ite_congr rfl (fun _ => rfl) fun _ => ?_).trans (ite_self s)
    rcases h with h | h | h
    · exact if_pos (by simp [h])
    · exact if_pos (by simp [h])
    · rw [h]
      exact ite_self s

end

/-! ## NMT (R526, R527) -/

section
variable {p node target : Nat} (ours : s.nmtFor p node = true)
include ours

theorem State.nmtMode_served (served : s.mode' = 3 ∨ s.mode' = 4 ∨ s.mode' = 6) (up : s.clk.aDown = none) :
    s.nmtMode p node target = if s.mode.sleeping then s.modeRefuse 1 else (s.modeRequest target true).1 := by
  refine (if_neg (by rw [ours]; decide)).trans ((if_neg (by omega)).trans ((if_neg (by omega)).trans (if_neg ?_)))
  rw [up]
  rintro (h | h)
  · omega
  · exact Bool.false_ne_true h

theorem State.nmtMode_limp (limp : s.mode' = 5) : s.nmtMode p node target = if target = 2 then s.askReset 3 else s :=
  (if_neg (by rw [ours]; decide)).trans (if_pos limp)

theorem State.nmtMode_recovery (recovery : s.mode' = 7) : s.nmtMode p node target = if target = 2 then (s.leaveRecovery 3).1 else s :=
  (if_neg (by rw [ours]; decide)).trans ((if_neg (by omega)).trans (if_pos recovery))

theorem State.nmtResetComm_on (served : s.mode' = 3 ∨ s.mode' = 4 ∨ s.mode' = 6) (up : s.clk.aDown = none)
    (hv : v = ((s.pdoStop.sessEndAll clientSdo).dropVals (fun k => decide (k / 256 < 0x2000))).applySet (fun k => decide (k / 256 < 0x2000))) :
    s.nmtResetComm p node = (v.setOd { v.od with xfer := [] }).takeAddresses.nmtSend 0 := by
  rw [hv]
  exact if_neg (by rcases served with h | h | h <;> simp [ours, h, up])

end

theorem State.nmtMode_config_off {p node : Nat} (off : s.nmtFor p node = false ∨ s.mode' = 5 ∨ s.mode' = 7 ∨ s.clk.aDown.isSome = true) :
    s.nmtMode p node 3 = s := by
  cases ours : s.nmtFor p node with
  | false => exact if_pos (by rw [ours]; rfl)
  | true =>
    by_cases limp : s.mode' = 5
    · exact (State.nmtMode_limp ours limp).trans (if_neg (by decide))
    · by_cases recovery : s.mode' = 7
      · exact (State.nmtMode_recovery ours recovery).trans (if_neg (by decide))
      · have down : s.clk.aDown.isSome = true := by simpa [ours, limp, recovery] using off
        exact (if_neg (by rw [ours]; decide)).trans ((if_neg limp).trans ((if_neg recovery).trans (if_pos (.inr down))))

theorem State.nmtResetComm_off {p node : Nat} (off : s.nmtFor p node = false ∨ s.mode' = 5 ∨ s.mode' = 7 ∨ s.clk.aDown.isSome = true) :
    s.nmtResetComm p node = s :=
  if_pos (by rcases off with h | h | h | h <;> simp [h])

theorem State.heartbeat_on {c : Nat} (sends : hbByte s.mode' = some c) (period : s.hbTime ≠ 0) :
    s.heartbeat = (s.advanceTo (s.od.hbAt + ms s.hbTime)).nmtSend c := by
  rw [State.heartbeat, sends]
  exact if_neg period

theorem State.heartbeat_off (off : hbByte s.mode' = none ∨ s.hbTime = 0) : s.heartbeat = s := by
  unfold State.heartbeat
  rcases off with h | h
  · simp only [h]
  · split
    · rfl
    · exact if_pos h

theorem State.hbLoss_on {t w : Nat} (hw : w = s.odNum 0x1016 (k + 1) 0) (last : lookup k s.od.hbIn = some t) (watched : w % 2 ^ 16 ≠ 0)
    (clear : s.active .DICT_HB_LOSS (k + 1) = false) :
    s.hbLoss k = (s.advanceTo (t + ms (w % 2 ^ 16))).raise .DICT_HB_LOSS (k + 1) := by
  rw [State.hbLoss, ← hw, last]
  exact if_neg (by simp [-Nat.reducePow, watched, clear])

theorem State.hbLoss_off (off : lookup k s.od.hbIn = none ∨ s.odNum 0x1016 (k + 1) 0 % 2 ^ 16 = 0 ∨ s.active .DICT_HB_LOSS (k + 1) = true) :
    s.hbLoss k = s := by
  unfold State.hbLoss
  rcases off with h | h
  · simp only [h]
  · split
    · exact if_pos (by rcases h with h | h <;> simp [-Nat.reducePow, h])
    · rfl

end

/-- Settles O41: each message acts as the mode and its object's settings allow; Limp and Recovery take of the NMT commands Reset node alone. -/
theorem pdoAndNmt : Obligations.PdoAndNmt := by
  unfold Obligations.PdoAndNmt
  refine ⟨?event, ?synchronous, ?short, ?rpdoOff, ?deadline, ?noDeadline, ?sync, ?syncOff, ?sends, ?idle, ?tpdoOff, ?frame, ?emcy, ?loadOff,
    ?start, ?startSleeping, ?startOff, ?stop, ?stopOff, ?preop, ?reset, ?resetLimp, ?resetRecovery, ?resetHeld, ?comm, ?commOff, ?beat,
    ?noBeat, ?loss, ?noLoss⟩
  case event =>
    exact fun s k b v awake on used hv whole event => State.runOn_next rfl awake (State.rpdoReceived_event on used hv whole event)
  case synchronous =>
    exact fun s k b v awake on used hv whole sync => State.runOn_next rfl awake (State.rpdoReceived_sync on used hv whole sync)
  case short => exact fun s k b v awake on used hv short => State.runOn_next rfl awake (State.rpdoReceived_short on used hv short)
  case rpdoOff => exact fun s k b awake off => State.runOn_next rfl awake (State.rpdoReceived_off off)
  case deadline =>
    exact fun s k t v awake on used last early deadline hv =>
      State.runOn_next rfl awake (State.rpdoTimeout_on on used last early deadline hv)
  case noDeadline => exact fun s k awake off => State.runOn_next rfl awake (State.rpdoTimeout_off off)
  case sync => exact fun s p ctr v awake on hv => State.runOn_next rfl awake (State.sync_on on hv)
  case syncOff => exact fun s p ctr awake off => State.runOn_next rfl awake (State.sync_off off)
  case sends =>
    exact fun s k x i d t awake on used event hx due hi hd ht =>
      State.runOn_next rfl awake (State.tpdoEvent_sends on used event hx due hi hd ht)
  case idle =>
    exact fun s k x awake on used event hx same noTimer => State.runOn_next rfl awake (State.tpdoEvent_idle on used event hx same noTimer)
  case tpdoOff => exact fun s k awake off => State.runOn_next rfl awake (State.tpdoEvent_off off)
  case frame =>
    exact fun s p x awake port free up mode noEmcy oldest =>
      State.runOn_next rfl awake (State.txb1Load_frame port free up mode noEmcy oldest)
  case emcy => exact fun s p e v awake port free oldest hv => State.runOn_next rfl awake (State.txb1Load_emcy port free oldest hv)
  case loadOff => exact fun s p awake off => State.runOn_next rfl awake (State.txb1Load_off off)
  case start =>
    exact fun s p node awake ours served up free =>
      State.runOn_next rfl awake ((State.nmtMode_served ours served up).trans (if_neg (ne_true_of_eq_false free)))
  case startSleeping =>
    exact fun s p node awake ours served up sleeps =>
      State.runOn_next rfl awake ((State.nmtMode_served ours served up).trans (if_pos sleeps))
  case startOff =>
    intro s p node awake ours mode
    refine State.runOn_next rfl awake ?_
    rcases mode with limp | recovery
    · exact (State.nmtMode_limp ours limp).trans (if_neg (by decide))
    · exact (State.nmtMode_recovery ours recovery).trans (if_neg (by decide))
  case stop =>
    exact fun s p node awake ours served up free =>
      State.runOn_next rfl awake ((State.nmtMode_served ours served up).trans (if_neg (ne_true_of_eq_false free)))
  case stopOff => exact fun s p node awake off => State.runOn_next rfl awake (State.nmtMode_config_off off)
  case preop =>
    exact fun s p node awake ours served up free =>
      State.runOn_next rfl awake ((State.nmtMode_served ours served up).trans (if_neg (ne_true_of_eq_false free)))
  case reset =>
    exact fun s p node awake ours served up free =>
      State.runOn_next rfl awake ((State.nmtMode_served ours served up).trans (if_neg (ne_true_of_eq_false free)))
  case resetLimp => exact fun s p node awake ours limp => State.runOn_next rfl awake (State.nmtMode_limp ours limp)
  case resetRecovery =>
    intro s p node awake ours recovery high runs marker
    refine State.runOn_next rfl awake ((State.nmtMode_recovery ours recovery).trans ((if_pos rfl).trans ?_))
    rw [State.leaveRecovery, if_neg (by simp [high, runs, marker])]
  case resetHeld =>
    intro s p node awake ours recovery held
    refine State.runOn_next rfl awake ((State.nmtMode_recovery ours recovery).trans ((if_pos rfl).trans ?_))
    rw [State.leaveRecovery, if_pos (by rcases held with h | h | h <;> simp [h])]
  case comm => exact fun s p node v awake ours served up hv => State.runOn_next rfl awake (State.nmtResetComm_on ours served up hv)
  case commOff => exact fun s p node awake off => State.runOn_next rfl awake (State.nmtResetComm_off off)
  case beat => exact fun s c awake sends period => State.runOn_next rfl awake (State.heartbeat_on sends period)
  case noBeat => exact fun s awake off => State.runOn_next rfl awake (State.heartbeat_off off)
  case loss => exact fun s i t w awake hw last watched clear => State.runOn_next rfl awake (State.hbLoss_on hw last watched clear)
  case noLoss => exact fun s i awake off => State.runOn_next rfl awake (State.hbLoss_off off)

end Sys2Proof.Machine
end

section
/-! Nydulet requests, ARP and ICMP echo, and the register window (R529 to R535, R543). -/

namespace Sys2Proof.Machine

/-! ## Sessions that the start of a request ends (R515, R516) -/

section
variable (s : State)

theorem State.sess_sessEnd (d : Client) : (s.sessEnd d).od.sess = s.od.sess.filter fun z => z.client != d := by
  unfold State.sessEnd
  split
  next none =>
    have apart : ∀ z ∈ s.od.sess, (z.client != d) = true := by simpa [State.sessOf, List.find?_eq_none] using none
    exact (List.filter_eq_self.2 apart).symm
  next x _ =>
    dsimp only
    split
    · rw [State.raise_od]
      rfl
    · rfl

theorem State.sessOf_sessEnd (c d : Client) : (s.sessEnd d).sessOf c = if c = d then none else s.sessOf c := by
  rw [State.sessOf, State.sess_sessEnd, List.find?_filter]
  split
  next same =>
    rw [same, List.find?_eq_none]
    exact fun z _ => by simp
  next other =>
    refine congrArg (s.od.sess.find? ·) (funext fun z => ?_)
    by_cases here : z.client = c
    · simp [here, other]
    · simp [here]

/-- A session that outlives the sweep was open before it. -/
theorem State.sessOf_sessSweep {c : Client} {x : Sess} (h : s.sessSweep.sessOf c = some x) : s.sessOf c = some x := by
  have carries (l : List Sess) : ∀ u : State, (u.each l fun u z => u.sessEnd z.client).sessOf c = some x → u.sessOf c = some x := by
    induction l with
    | nil => exact fun u h => h
    | cons z r ih =>
      intro u h
      have after := ih (u.sessEnd z.client) h
      rw [State.sessOf_sessEnd] at after
      split at after
      · exact nomatch after
      · exact after
  exact carries _ s h

theorem State.sessOf_authUnlock (c : Client) : s.authUnlock.sessOf c = s.sessOf c := by
  unfold State.authUnlock
  repeat' split
  all_goals rfl

theorem State.rd_sessEnd (d : Client) (r : Reg) (i : Nat) : (s.sessEnd d).rd r i = s.rd r i := by
  unfold State.sessEnd
  split
  · rfl
  · dsimp only
    split
    · exact State.rd_raise ..
    · rfl

/-- Sessions and lockouts that have run out do not change the mode. -/
theorem State.mode'_swept : s.sessSweep.authUnlock.mode' = s.mode' := by
  have unlocked (u : State) : u.authUnlock.mode' = u.mode' := by
    unfold State.authUnlock
    repeat' split
    all_goals rfl
  have swept : s.sessSweep.rd .SYS_MODE 0 = s.rd .SYS_MODE 0 :=
    State.each_keeps s _ _ (fun u => u.rd .SYS_MODE 0) fun u z => u.rd_sessEnd z.client .SYS_MODE 0
  exact (unlocked _).trans (congrArg F.SYS_MODE_MODE.of swept)

end

/-! ## A datagram within a session or without one (R534, R535) -/

section
variable {s v : State} {peer : Nat} {b : List Byte} {f : State → List Byte → NydAnswer} {type : Nat}

theorem State.nydMsg_off (off : s.nydMine b = false) : s.nydMsg peer b f = s := if_pos (by simp [off])

theorem State.nydMsg_plain (plain : s.nydPlain type b = true) : s.nydMsg peer b f = s.sessSweep.authUnlock.nydExec peer b f := by
  simp only [State.nydPlain, Bool.and_eq_true, beq_iff_eq] at plain
  obtain ⟨⟨⟨⟨on, mine⟩, ty⟩, sid⟩, free⟩ := plain
  exact (if_neg (by simp [on, mine])).trans ((if_pos sid).trans (if_neg (by simp [ty, free])))

theorem State.nydRequest_plain (plain : s.nydPlain type b = true) : s.nydRequest peer type b f = s.sessSweep.authUnlock.nydExec peer b f := by
  have ty : byteAt b 1 = type := by
    simp only [State.nydPlain, Bool.and_eq_true, beq_iff_eq] at plain
    exact plain.1.1.2
  rw [State.nydRequest, if_pos ty, State.nydMsg_plain plain]

/-- A request that needs a session is refused outside one. -/
theorem State.nydMsg_refused (on : s.nydOn = true) (mine : s.nydMine b = true) (sid : nydSid b = 0) (known : nydKnown (byteAt b 1) = true)
    (held : s.sessSweep.authUnlock.nydFree (byteAt b 1) = false) :
    s.nydMsg peer b f = s.sessSweep.authUnlock.nydReply peer (byteAt b 1) 0 (nydSeq b) 1 (leBytes 4 abLevel) :=
  (if_neg (by simp [on, mine])).trans ((if_pos sid).trans (if_pos (by simp [known, held])))

/-- What a datagram within a session says: its type, its session with the right tag, and a new SEQ (R534). -/
theorem State.nydInside_iff : s.nydInside peer type b = true ↔ s.nydOn = true ∧ s.nydMine b = true ∧ byteAt b 1 = type ∧ nydSid b ≠ 0 ∧
    ∃ x, s.sessSweep.authUnlock.sessOf (.nyd peer) = some x ∧ x.sid = nydSid b ∧ x.seq < nydSeq b ∧
      b.drop (b.length - 16) = (hmacSha256 x.ks (b.take (b.length - 16))).take 16 := by
  unfold State.nydInside
  cases s.sessSweep.authUnlock.sessOf (.nyd peer) with
  | none => simp
  | some x =>
    simp only [Bool.and_eq_true, beq_iff_eq, bne_iff_ne, decide_eq_true_eq, and_assoc, Option.some.injEq, exists_eq_left']

theorem State.nydMsg_inside (inside : s.nydInside peer type b = true) :
    s.nydMsg peer b f = (s.sessSweep.authUnlock.seqTaken peer (nydSeq b)).nydExec peer b f := by
  obtain ⟨on, mine, -, sid, x, held, own, new, tag⟩ := State.nydInside_iff.1 inside
  refine (if_neg (by simp [on, mine])).trans ((if_neg sid).trans ?_)
  simp only [held]
  refine (if_neg ?_).trans ((if_neg (by omega)).trans (if_neg (by omega)))
  rintro (h | h)
  · exact h own
  · exact h tag

theorem State.nydRequest_inside (inside : s.nydInside peer type b = true) :
    s.nydRequest peer type b f = (s.sessSweep.authUnlock.seqTaken peer (nydSeq b)).nydExec peer b f := by
  obtain ⟨-, -, ty, -⟩ := State.nydInside_iff.1 inside
  rw [State.nydRequest, if_pos ty, State.nydMsg_inside inside]

/-! ## The end of a session by CLOSE (R516) -/

theorem State.sessSeq_eq (s : State) (peer : Nat) : s.sessSeq peer = ((s.sessOf (.nyd peer)).map fun x => x.seq).getD 0 := by
  unfold State.sessSeq
  cases s.sessOf (.nyd peer) <;> rfl

/-- A change of what a client's session holds beside its client. -/
theorem State.sessOf_map {g : Sess → Sess} (same : ∀ x, (g x).client = x.client) (c : Client) :
    (s.setOd { s.od with sess := s.od.sess.map g }).sessOf c = (s.sessOf c).map g := by
  have blind : (fun x : Sess => x.client == c) ∘ g = fun x => x.client == c := funext fun x => by simp [same]
  rw [State.sessOf, State.setOd_od, List.find?_map, blind, State.sessOf]

theorem State.sessSeq_seqTaken {x : Sess} (q : Nat) (held : s.sessOf (.nyd peer) = some x) : (s.seqTaken peer q).sessSeq peer = q := by
  have own : x.client = .nyd peer := by simpa [State.sessOf] using List.find?_some held
  rw [State.sessSeq_eq, State.seqTaken, State.sessOf_map (fun y => by split <;> rfl), held]
  simp [own]

theorem State.sessSeq_nydReply (type sid seq status : Nat) (d : List Byte) :
    (s.nydReply peer type sid seq status d).sessSeq peer = s.sessSeq peer := by
  unfold State.nydReply
  extract_lets c ks m u
  split
  · rfl
  · rw [State.sessSeq_eq, State.sessOf_map (fun y => by split <;> rfl), Option.map_map, State.sessSeq_eq]
    have kept : ((fun x : Sess => x.seq) ∘ fun x => if x.client = c then { x with reply := m } else x) = fun x => x.seq :=
      funext fun x => by
        dsimp only [Function.comp]
        split <;> rfl
    rw [kept]
    rfl

/-- A request that changes nothing but the reply leaves the SEQ of the session. -/
theorem State.sessSeq_nydExec : (s.nydExec peer b fun s _ => (s, 0, [])).sessSeq peer = s.sessSeq peer := by
  unfold State.nydExec
  extract_lets type ver x ab
  have same : x.1 = s := by
    simp only [x]
    repeat' split
    all_goals rfl
  rw [same]
  split
  · rfl
  · split <;> exact State.sessSeq_nydReply ..

theorem State.nydClose_inside (inside : s.nydInside peer 0x14 b = true) : s.nydClose peer b =
    ((s.sessSweep.authUnlock.seqTaken peer (nydSeq b)).nydExec peer b fun s _ => (s, 0, [])).sessEnd (.nyd peer) := by
  obtain ⟨on, mine, ty, sid, x, held, own, new, tag⟩ := State.nydInside_iff.1 inside
  have before : s.sessOf (.nyd peer) = some x := s.sessOf_sessSweep ((State.sessOf_authUnlock ..).symm.trans held)
  rw [State.nydClose, if_pos ty, State.nydMsg_inside inside]
  refine if_pos ⟨ty, sid, ?_⟩
  rwa [State.sessSeq_nydExec, State.sessSeq_seqTaken _ held, State.sessSeq_eq, before]

theorem State.nydClose_plain (on : s.nydOn = true) (mine : s.nydMine b = true) (sid : nydSid b = 0) (ty : byteAt b 1 = 0x14) :
    s.nydClose peer b = s.sessSweep.authUnlock.nydReply peer 0x14 0 (nydSeq b) 1 (leBytes 4 abLevel) := by
  have held : s.sessSweep.authUnlock.nydFree (byteAt b 1) = false := by
    rw [ty, State.nydFree]
    split <;> rfl
  refine (if_neg fun h => h.2.1 sid).trans ?_
  rw [State.nydMsg_refused on mine sid (by rw [ty]; decide) held, ty]

theorem State.nydRequest_writeRefused (on : s.nydOn = true) (mine : s.nydMine b = true) (sid : nydSid b = 0) (mode : s.mode' ≠ 7)
    (ty : byteAt b 1 = 0x21) :
    s.nydRequest peer 0x21 b f = s.sessSweep.authUnlock.nydReply peer 0x21 0 (nydSeq b) 1 (leBytes 4 abLevel) := by
  have held : s.sessSweep.authUnlock.nydFree (byteAt b 1) = false := by
    rw [ty, State.nydFree, if_neg (by rwa [s.mode'_swept])]
    rfl
  rw [State.nydRequest, State.nydMsg_refused on mine sid (by rw [ty]; decide) held, ty]

/-! ## ARP and ICMP (R529) -/

theorem State.arpRequest_on {mac ip : Nat} (on : s.ipOn = true) : s.arpRequest mac ip s.od.ip = s.internalSend (beBytes 6 mac ++
    beBytes 6 ownMac ++ beBytes 2 0x0806 ++ beBytes 2 1 ++ beBytes 2 0x0800 ++ beBytes 1 6 ++ beBytes 1 4 ++ beBytes 2 2 ++ beBytes 6 ownMac ++
    beBytes 4 s.od.ip ++ beBytes 6 mac ++ beBytes 4 ip) := if_neg (by simp [on])

theorem State.arpRequest_off {mac ip target : Nat} (off : target ≠ s.od.ip ∨ s.ipOn = false) : s.arpRequest mac ip target = s :=
  if_pos (by rcases off with h | h <;> simp [h])

theorem State.icmpEcho_on {mac ip d t : Nat} {data m h : List Byte} (on : s.ipOn = true) (hv : v = ((s.draw 16).2.draw 8).2)
    (hd : d = (s.draw 16).1) (ht : t = ((s.draw 16).2.draw 8).1)
    (hm : m = beBytes 2 0 ++ beBytes 2 (ipChecksum (beBytes 2 0 ++ beBytes 2 0 ++ data)) ++ data)
    (hh : h = beBytes 1 0x45 ++ beBytes 1 0 ++ beBytes 2 (20 + m.length) ++ beBytes 2 d ++ beBytes 2 0 ++ beBytes 1 t ++ beBytes 1 1) :
    s.icmpEcho mac ip data = v.internalSend (beBytes 6 mac ++ beBytes 6 ownMac ++ beBytes 2 0x0800 ++ (h ++ beBytes 2 (ipChecksum (h ++
      beBytes 2 0 ++ beBytes 4 v.od.ip ++ beBytes 4 ip)) ++ beBytes 4 v.od.ip ++ beBytes 4 ip) ++ m) := by
  unfold State.icmpEcho
  rw [if_neg (by simp [on])]
  simp only [← hv, ← hd, ← ht, ← hm, ← hh]

end

/-- The 8 bytes of an initiate upload of 5000:03. -/
theorem windowRead_bytes : leBytes 1 0x40 ++ muxBytes 0x5000 3 ++ leBytes 4 0 = [0x40, 0, 0x50, 3, 0, 0, 0, 0] := by decide

/-- Settles O42: the session that CLOSE ends is the one whose SEQ the request raised; it was open before the sweep. -/
theorem nyduletRequests : Obligations.NyduletRequests := by
  unfold Obligations.NyduletRequests
  refine ⟨?hello, ?notMine, ?open', ?auth, ?close, ?closePlain, ?read, ?readInside, ?writeInside, ?write, ?writeRefused, ?bulk, ?domRead,
    ?domWrite, ?arp, ?arpOff, ?echo, ?echoOff, ?windowRead, ?windowWrite⟩
  case hello => exact fun s peer b awake plain => State.runOn_next rfl awake (State.nydRequest_plain plain)
  case notMine => exact fun s peer b awake off => State.runOn_next rfl awake (State.nydMsg_off off)
  case open' => exact fun s peer b awake plain => State.runOn_next rfl awake (State.nydRequest_plain plain)
  case auth => exact fun s peer b awake plain => State.runOn_next rfl awake (State.nydRequest_plain plain)
  case close => exact fun s peer b awake inside => State.runOn_next rfl awake (State.nydClose_inside inside)
  case closePlain => exact fun s peer b awake on mine sid ty => State.runOn_next rfl awake (State.nydClose_plain on mine sid ty)
  case read => exact fun s peer b awake plain => State.runOn_next rfl awake (State.nydRequest_plain plain)
  case readInside => exact fun s peer b awake inside => State.runOn_next rfl awake (State.nydRequest_inside inside)
  case writeInside => exact fun s peer b awake inside => State.runOn_next rfl awake (State.nydRequest_inside inside)
  case write => exact fun s peer b awake plain => State.runOn_next rfl awake (State.nydRequest_plain plain)
  case writeRefused =>
    exact fun s peer b awake on mine sid mode ty => State.runOn_next rfl awake (State.nydRequest_writeRefused on mine sid mode ty)
  case bulk => exact fun s peer b awake plain => State.runOn_next rfl awake (State.nydRequest_plain plain)
  case domRead => exact fun s peer b awake inside => State.runOn_next rfl awake (State.nydRequest_inside inside)
  case domWrite => exact fun s peer b awake inside => State.runOn_next rfl awake (State.nydRequest_inside inside)
  case arp => exact fun s mac ip awake on => State.runOn_next rfl awake (State.arpRequest_on on)
  case arpOff => exact fun s mac ip target awake off => State.runOn_next rfl awake (State.arpRequest_off off)
  case echo =>
    exact fun s mac ip data m h v d t awake on hv hd ht hm hh => State.runOn_next rfl awake (State.icmpEcho_on on hv hd ht hm hh)
  case echoOff => exact fun s mac ip data awake off => State.runOn_next rfl awake (if_pos (by rw [off]; rfl))
  case windowRead =>
    intro s p v awake on hv idle
    refine State.run_next rfl ?_
    rw [State.clientRead, windowRead_bytes, State.sdoMsg, if_neg (by simp [on]), hv]
  case windowWrite =>
    intro s p b v tag awake on hv ht some
    refine State.run_next rfl ?_
    rw [State.clientWrite, if_neg (by simp [on]), hv, ht]

end Sys2Proof.Machine
end

section
/-! Challenge cycles, token replies and lockouts of the access block (R546 to R556). -/

namespace Sys2Proof.Machine

/-! ## Commands of ACC_CMD -/

/-- A write to a register of the ACC block is judged by `State.wrAcc`. -/
theorem State.put_acc (s : State) (c : Nat) {r : Reg} (i : Nat) (w m : Word) (inAcc : regsACC.contains r = true)
    (elsewhere : (regsCUST ++ regsSW ++ regsPROT ++ regsCAL ++ regsINJ ++ regsEVE ++ regsLEDS ++ regsDIO ++ regsBOLL ++ regsCAN ++
      regsGWY ++ regsETH ++ regsTIDE ++ regsNM).contains r = false) : s.put c r i w m = s.wrAcc r i (s.merge r i w m) (r.fired w m) := by
  simp only [List.contains_append, Bool.or_eq_false_iff] at elsewhere
  simp only [State.put, inAcc, elsewhere, Bool.false_eq_true, if_false, if_true]

theorem State.put_pollNow (s : State) (c : Nat) : s.put c .ACC_CMD 0 (BitVec.ofNat 32 1) 0xFFFFFFFF = (s.pollNow, 0) := by
  rw [State.put_acc _ _ _ _ _ (by decide) (by decide), State.wrAcc]
  exact congrArg (·, 0) ((if_pos (by decide)).trans (congrArg State.pollNow (if_neg (by decide))))

theorem State.put_unlock (s : State) (c : Nat) : s.put c .ACC_CMD 0 (BitVec.ofNat 32 2) 0xFFFFFFFF = (s.unlockAll, 0) := by
  rw [State.put_acc _ _ _ _ _ (by decide) (by decide), State.wrAcc]
  exact congrArg (·, 0) ((if_neg (by decide)).trans (if_pos (by decide)))

section
variable {s v w : State} {x : LfBurst} {a : Acc}

theorem State.pollNow_off (off : s.accRuns = false ∨ s.accMode = false) : s.pollNow = s :=
  if_pos (by rcases off with h | h <;> simp [h])

theorem State.pollNow_waits (runs : s.accRuns = true) (mode : s.accMode = true) (cycling : s.cycling = true) :
    s.pollNow = s.setAcc { s.acc with req := true } := (if_neg (by simp [runs, mode])).trans (if_pos cycling)

theorem State.pollNow_starts (runs : s.accRuns = true) (mode : s.accMode = true) (idle : s.cycling = false) :
    s.pollNow = (s.setAcc { s.acc with last := some s.now, done := some [] }).startCycle .broadcast :=
  (if_neg (by simp [runs, mode])).trans (if_neg (by simp [idle]))

/-! ## The frame of a cycle that a write has started -/

/-- A cycle ends after it starts: its LF frame alone lasts 31 ms. -/
theorem Cycle.start_lt_endAt (c : Cycle) : c.start < c.endAt := by
  have frame : c.start < c.chalEnd := by
    unfold Cycle.chalEnd us
    omega
  have slots (k : Nat) : c.chalEnd ≤ c.expected k := Nat.le_add_right ..
  unfold Cycle.endAt
  split
  · exact Nat.lt_of_lt_of_le frame ((slots 3).trans (Nat.le_add_right ..))
  · exact Nat.lt_of_lt_of_le frame ((slots 3).trans (Nat.le_add_right ..))
  · exact Nat.lt_of_lt_of_le frame ((slots 0).trans (Nat.le_add_right ..))

theorem State.cyc_startCycle (s : State) (k : CycKind) : (s.startCycle k).acc.cyc.map (·.start) =
    some (match s.acc.cyc with | some c => Nat.max s.now c.endAt | none => s.now) := rfl

/-- A cycle starts at another instant than the one before it. -/
theorem State.cyc_startCycle_ne (s : State) (k : CycKind) :
    (s.startCycle k).acc.cyc.map (·.start) ≠ s.acc.cyc.map (·.start) := by
  rw [State.cyc_startCycle]
  cases s.acc.cyc with
  | none => simp
  | some c =>
    have later : c.start < Nat.max s.now c.endAt := Nat.lt_of_lt_of_le c.start_lt_endAt (Nat.le_max_right ..)
    intro same
    exact Nat.ne_of_gt later (Option.some.inj same)

theorem State.burstAfter_starts {f : State → State} (starts : (f s).acc.cyc.map (·.start) ≠ s.acc.cyc.map (·.start)) :
    s.burstAfter x f = (f s).cycleBurst x := if_neg starts

theorem State.burstAfter_same {f : State → State} (same : (f s).acc.cyc.map (·.start) = s.acc.cyc.map (·.start)) :
    s.burstAfter x f = f s := if_pos same

theorem State.clearMismatch_acc (s : State) (k : Reg × Nat) : (s.clearMismatch k).acc = s.acc := by
  obtain ⟨l, h | h⟩ := s.clearMismatch_cases k
  · rw [h]
    rfl
  · rw [h, State.clearFault_acc]
    rfl

/-- A granted write leaves the access block as the register's own effect does. -/
theorem State.wrote_acc (s : State) (a : Acc) (r : Reg) (i : Nat) (f : State → State × Nat) :
    (s.wrote a r i f).acc = (f (s.dropHeld (s.who a).code (r.addr i))).1.acc := by
  dsimp only [State.wrote, State.answer_fst, State.setBus_acc]
  split
  · exact State.clearMismatch_acc ..
  · rfl

theorem State.busPut_pollNow {f : State → State} (granted : s.granted a .ACC_CMD 0)
    (polls : (s.dropHeld (s.who a).code (Reg.addr .ACC_CMD 0)).pollNow = f (s.dropHeld (s.who a).code (Reg.addr .ACC_CMD 0))) :
    s.busPut a .ACC_CMD 0 1 = s.wrote a .ACC_CMD 0 fun s => (f s, 0) :=
  (State.busPut_wrote granted 1 rfl rfl rfl).trans
    (s.wrote_congr a _ 0 ((State.put_pollNow _ _).trans (congrArg (·, 0) polls)))

/-! ## The bursts of a cycle (R245, R549) -/

/-- Trimming an aerial writes registers of CAL alone, not the drive of the access block. -/
theorem State.drive_lfTrim (s : State) (a : Nat) (d : Int) : (s.lfTrim a d).rd .ACC_AER 0 = s.rd .ACC_AER 0 := by
  have setLf (u : State) (v : Nat) : (u.setLf a v).rd .ACC_AER 0 = u.rd .ACC_AER 0 := by
    unfold State.setLf lfReg
    split <;> exact State.rd_wr_ne _ _ (by decide)
  unfold State.lfTrim
  split
  · rfl
  · extract_lets t t' atEnd u bad src w
    have kept : w.rd .ACC_AER 0 = s.rd .ACC_AER 0 := setLf s _
    split
    · rw [State.rd_raise, State.rd_setFlag_ne (h := by decide), kept]
    · split
      · exact kept
      · rw [State.rd_clearFault, kept]

theorem State.drive_lfBurst (s : State) (mask : Nat) (x : LfBurst) : (s.lfBurst mask x).fld F.ACC_AER_DRIVE = s.fld F.ACC_AER_DRIVE := by
  have kept : (s.lfBurst mask x).rd .ACC_AER 0 = s.rd .ACC_AER 0 := by
    refine State.each_keeps s _ _ (fun u => u.rd .ACC_AER 0) fun u a => ?_
    dsimp only
    split
    · rw [State.drive_lfTrim]
      split <;> rfl
    · split <;> rfl
  exact congrArg F.ACC_AER_DRIVE.of kept

/-! ## Broadcast cycles (R547, R548) -/

theorem State.challenge_off (off : s.accRuns = false ∨ s.accMode = false ∨ s.acc.req = false ∧ s.flag F.ACC_CTRL_POLL_EN = false) :
    s.challenge x = s := if_pos (by rcases off with h | h | ⟨h, k⟩ <;> simp [*])

theorem State.challenge_request (runs : s.accRuns = true) (mode : s.accMode = true) (req : s.acc.req = true) (hv : v = s.cycleWait)
    (hw : w = (v.setAcc { v.acc with last := some v.now, req := false, done := some [] }).startCycle .broadcast) :
    s.challenge x = w.cycleBurst x := by
  subst hw hv
  rw [State.challenge, if_neg (by simp [runs, mode, req])]
  simp only [req, if_true]

theorem State.challenge_polled {u : State} (runs : s.accRuns = true) (mode : s.accMode = true) (req : s.acc.req = false)
    (on : s.flag F.ACC_CTRL_POLL_EN = true) (hu : u = s.acc.last.elim s fun t => s.advanceTo (t + s.pollInt)) (hv : v = u.cycleWait)
    (hw : w = (v.setAcc { v.acc with last := some v.now, req := false, done := some [] }).startCycle .broadcast) :
    s.challenge x = w.cycleBurst x := by
  subst hw hv hu
  rw [State.challenge, if_neg (by simp [runs, mode, on])]
  cases last : s.acc.last with
  | none => simp only [req, Bool.false_eq_true, if_false, Option.elim_none]
  | some t => simp only [req, Bool.false_eq_true, if_false, Option.elim_some]

/-! ## Replies (R551, R553, R555, R556) -/

variable {c : Cycle} {r : Reply} {start : Nat} {b : List Byte} {bitmap : Byte}

theorem State.uhfReply_off (off : s.accRuns = false ∨ s.acc.cyc.bind (·.parse start b) = none) : s.uhfReply start b bitmap = s := by
  unfold State.uhfReply
  split
  · rfl
  next c cyc =>
    split
    · rfl
    next r parsed =>
      refine if_pos ?_
      rcases off with h | h
      · rw [h]
        rfl
      · simp [cyc, parsed] at h

/-- A reply that passes its CRC is judged when it is complete. -/
theorem State.uhfReply_judges (runs : s.accRuns = true) (cyc : s.acc.cyc = some c) (kind : c.kind ≠ .assign) (parsed : c.parse start b = some r)
    (hv : v = s.advanceTo (c.chalEnd + us (start + if r.ver = 1 then 8400 else 10000))) : s.uhfReply start b bitmap = v.judge c r := by
  subst hv
  rw [State.uhfReply, cyc]
  simp only [parsed, runs, Bool.not_true, Bool.false_eq_true, if_false]

theorem State.judge_late (late : r.delay < -10 ∨ ((v.fld F.ACC_SEC_RESP_MAX : Nat) : Int) - 300 < r.delay) :
    v.judge c r = if v.respOk c r then ((v.noteReply r 3).setFlag F.ACC_EVT_LATE).raise .ACC_RELAY r.idx [unsigned 32 r.delay]
      else (v.noteReply r 3).setFlag F.ACC_EVT_LATE := if_pos late

theorem State.judge_timely (early : -10 ≤ r.delay) (late : r.delay ≤ ((v.fld F.ACC_SEC_RESP_MAX : Nat) : Int) - 300) : v.judge c r =
    if v.acc.deny.contains r.id then v.sayOnce .ACC_DENIED r.id
    else if v.lockedOut r.id then v
    else if (v.slotFor r.idx).1.occ && (v.slotFor r.idx).1.id == r.id && v.respOk c r then v.replyOk r
    else (((v.noteReply r 2).setFlag F.ACC_EVT_FAIL).sayOnce .ACC_AUTH_FAIL r.id).failCount r.id := if_neg (by omega)

/-! ## Collisions (R552, R554) -/

variable {rx : SlotRx} {i : Nat}

theorem collides_iff : collides rx = true ↔ 1000000 ≤ rx.energy ∨ 2 ≤ rx.syncs := by
  simp [collides, ms]

theorem State.addressed_enrolling {e : Enrol} (runs : s.accRuns = true) (enrols : s.acc.enrol = some e) (own : e.slot = i)
    (ver : e.ver.isSome = true) : s.addressed i rx x = (s.cycleWait.startCycle (.addressed i)).cycleBurst x := by
  unfold State.addressed
  simp [runs, enrols, own, ver]

theorem State.addressed_collided (runs : s.accRuns = true) (enrols : s.acc.enrol = none) (cycle : s.acc.done.isSome = true)
    (hit : 1000000 ≤ rx.energy ∨ 2 ≤ rx.syncs) (hv : v = s.setFlag F.ACC_EVT_COLL) : s.addressed i rx x =
    if v.addressDue i then ((v.cycleWait.setAcc { v.cycleWait.acc with done := v.acc.done.map (· ++ [i]) }).startCycle (.addressed i)).cycleBurst x
    else v := by
  have started : s.acc.done.isNone = false := by simpa [Option.isSome_iff_ne_none] using cycle
  subst hv
  unfold State.addressed
  simp only [runs, enrols, started, collides_iff.2 hit, Bool.not_true, Bool.false_eq_true, if_false, Bool.or_self]

theorem State.addressed_off (off : s.accRuns = false ∨ s.acc.enrol = none ∧ (s.acc.done = none ∨ rx.energy < 1000000 ∧ rx.syncs < 2)) :
    s.addressed i rx x = s := by
  unfold State.addressed
  rcases off with h | ⟨h, k⟩
  · simp [h]
  · have missed : (s.acc.done.isNone || !collides rx) = true := by
      rcases k with k | k
      · simp [k]
      · have quiet : collides rx = false := Bool.eq_false_iff.2 fun hit => by have := collides_iff.1 hit; omega
        simp [quiet]
    simp [h, missed]

theorem State.slotted_first (runs : s.accRuns = true) (cyc : s.acc.cyc = some c) (kind : c.kind = .addressed i)
    (hit : 1000000 ≤ rx.energy ∨ 2 ≤ rx.syncs) :
    s.slotted rx x = (((s.setFlag F.ACC_EVT_COLL).cycleWait).startCycle (.slotted i 0)).cycleBurst x := by
  rw [State.slotted, if_neg (by simp [runs, collides_iff.2 hit]), cyc]
  simp only [kind]

theorem State.slotted_next {k : Nat} (runs : s.accRuns = true) (cyc : s.acc.cyc = some c) (kind : c.kind = .slotted i k) (more : k < 7)
    (hit : 1000000 ≤ rx.energy ∨ 2 ≤ rx.syncs) :
    s.slotted rx x = (((s.setFlag F.ACC_EVT_COLL).cycleWait).startCycle (.slotted i (k + 1))).cycleBurst x := by
  rw [State.slotted, if_neg (by simp [runs, collides_iff.2 hit]), cyc]
  simp only [kind, if_pos more]

theorem State.slotted_last {k : Nat} (runs : s.accRuns = true) (cyc : s.acc.cyc = some c) (kind : c.kind = .slotted i k) (last : 7 ≤ k)
    (hit : 1000000 ≤ rx.energy ∨ 2 ≤ rx.syncs) (hv : v = ((s.setFlag F.ACC_EVT_COLL).cycleWait).raise .ACC_COLLISION i) :
    s.slotted rx x = v.setAcc { v.acc with cyc := none } := by
  rw [State.slotted, if_neg (by simp [runs, collides_iff.2 hit]), cyc]
  simp only [kind, if_neg (Nat.not_lt.2 last), ← hv]

theorem State.slotted_off (off : s.accRuns = false ∨ s.acc.cyc = none ∨ rx.energy < 1000000 ∧ rx.syncs < 2) : s.slotted rx x = s := by
  rw [State.slotted]
  rcases off with h | h | h
  · rw [if_pos (by simp [h])]
  · rw [h]
    exact ite_self _
  · have quiet : collides rx = false := Bool.eq_false_iff.2 fun hit => by have := collides_iff.1 hit; omega
    rw [if_pos (by simp [quiet])]

/-! ## Lockouts (R556) -/

theorem State.lockoutEnd_some {id t : Nat} {y : Ident} (held : s.acc.ids.find? (fun x => x.id == id && x.lock.isSome) = some y)
    (lock : y.lock = some t) (hv : v = s.advanceTo t) :
    s.lockoutEnd id = (v.setAcc { v.acc with ids := v.acc.ids.filter (·.id ≠ id) }).lockoutJudge := by
  subst hv
  rw [State.lockoutEnd, held]
  simp only [lock, Option.getD_some]

theorem State.lockoutEnd_none {id : Nat} (none : s.acc.ids = []) : s.lockoutEnd id = s := by
  rw [State.lockoutEnd, none]
  rfl

end

/-- Settles O43: a cycle that POLL_NOW starts begins at a later instant than the one before it, so its frame is sent with the write. -/
theorem challengeCycles : Obligations.ChallengeCycles := by
  unfold Obligations.ChallengeCycles
  refine ⟨?request, ?polled, ?notDue, ?pollNow, ?pollWaits, ?pollOff, ?unlock, ?noReply, ?late, ?relay, ?denied, ?locked, ?ok, ?fails,
    ?enrolling, ?addressed, ?notItsTurn, ?notAddressed, ?first, ?next, ?last, ?notSlotted, ?lockout, ?noLockout⟩
  case request =>
    exact fun s x v w awake runs mode req hv hw => State.runOn_next rfl awake
      ((State.challenge_request runs mode req hv hw).trans (by rw [State.cycleBurst, State.drive_lfBurst]))
  case polled =>
    exact fun s x u v w awake runs mode req on hu hv hw => State.runOn_next rfl awake (State.challenge_polled runs mode req on hu hv hw)
  case notDue => exact fun s x awake off => State.runOn_next rfl awake (State.challenge_off off)
  case pollNow =>
    intro s a x v h runs mode idle hv
    have runs' := (s.dropHeld_blind (s.who a).code (Reg.addr .ACC_CMD 0) State.accRuns fun _ _ => rfl).trans runs
    have mode' := (s.dropHeld_blind (s.who a).code (Reg.addr .ACC_CMD 0) State.accMode fun _ _ => rfl).trans mode
    have idle' := (s.dropHeld_blind (s.who a).code (Reg.addr .ACC_CMD 0) State.cycling fun _ _ => rfl).trans idle
    have acc := s.dropHeld_blind (s.who a).code (Reg.addr .ACC_CMD 0) State.acc fun _ _ => rfl
    have started : s.busPut a .ACC_CMD 0 1 = v := (State.busPut_pollNow h (State.pollNow_starts runs' mode' idle')).trans hv.symm
    refine State.run_next rfl ((State.burstAfter_starts ?_).trans (congrArg (State.cycleBurst · x) started))
    rw [started, hv, State.wrote_acc, ← acc]
    exact State.cyc_startCycle_ne _ .broadcast
  case pollWaits =>
    intro s a x h runs mode cycling
    have runs' := (s.dropHeld_blind (s.who a).code (Reg.addr .ACC_CMD 0) State.accRuns fun _ _ => rfl).trans runs
    have mode' := (s.dropHeld_blind (s.who a).code (Reg.addr .ACC_CMD 0) State.accMode fun _ _ => rfl).trans mode
    have cycling' := (s.dropHeld_blind (s.who a).code (Reg.addr .ACC_CMD 0) State.cycling fun _ _ => rfl).trans cycling
    have acc := s.dropHeld_blind (s.who a).code (Reg.addr .ACC_CMD 0) State.acc fun _ _ => rfl
    have waits := State.busPut_pollNow (f := fun s => s.setAcc { s.acc with req := true }) h (State.pollNow_waits runs' mode' cycling')
    refine State.run_next rfl ((State.burstAfter_same ?_).trans waits)
    rw [waits, State.wrote_acc, ← acc]
    rfl
  case pollOff =>
    intro s a x h off
    have off' : (s.dropHeld (s.who a).code (Reg.addr .ACC_CMD 0)).accRuns = false ∨
        (s.dropHeld (s.who a).code (Reg.addr .ACC_CMD 0)).accMode = false := by
      rwa [s.dropHeld_blind _ _ State.accRuns fun _ _ => rfl, s.dropHeld_blind _ _ State.accMode fun _ _ => rfl]
    have acc := s.dropHeld_blind (s.who a).code (Reg.addr .ACC_CMD 0) State.acc fun _ _ => rfl
    have idle := State.busPut_pollNow (f := id) h (State.pollNow_off off')
    refine State.run_next rfl ((State.burstAfter_same ?_).trans idle)
    rw [idle, State.wrote_acc]
    exact congrArg (fun x : AccSt => x.cyc.map (·.start)) acc
  case unlock => exact fun s a h => exec_put rfl h rfl rfl rfl fun code => State.put_unlock _ code
  case noReply => exact fun s start b bitmap awake off => State.runOn_next rfl awake (State.uhfReply_off off)
  case late =>
    exact fun s start b bitmap r c v awake runs cyc kind parsed hv late bad => State.runOn_next rfl awake
      ((State.uhfReply_judges runs cyc kind parsed hv).trans ((State.judge_late late).trans (if_neg (by simp [bad]))))
  case relay =>
    exact fun s start b bitmap r c v awake runs cyc kind parsed hv late good => State.runOn_next rfl awake
      ((State.uhfReply_judges runs cyc kind parsed hv).trans ((State.judge_late late).trans (if_pos good)))
  case denied =>
    exact fun s start b bitmap r c v awake runs cyc kind parsed hv early late deny => State.runOn_next rfl awake
      ((State.uhfReply_judges runs cyc kind parsed hv).trans ((State.judge_timely early late).trans (if_pos deny)))
  case locked =>
    exact fun s start b bitmap r c v awake runs cyc kind parsed hv early late deny locked => State.runOn_next rfl awake
      ((State.uhfReply_judges runs cyc kind parsed hv).trans ((State.judge_timely early late).trans
        ((if_neg (by rw [deny]; decide)).trans (if_pos locked))))
  case ok =>
    exact fun s start b bitmap r c v awake runs cyc kind parsed hv early late deny locked occ id good => State.runOn_next rfl awake
      ((State.uhfReply_judges runs cyc kind parsed hv).trans ((State.judge_timely early late).trans
        ((if_neg (by rw [deny]; decide)).trans ((if_neg (by simp [locked])).trans (if_pos (by simp [occ, id, good]))))))
  case fails =>
    exact fun s start b bitmap r c v awake runs cyc kind parsed hv early late deny locked bad => State.runOn_next rfl awake
      ((State.uhfReply_judges runs cyc kind parsed hv).trans ((State.judge_timely early late).trans
        ((if_neg (by rw [deny]; decide)).trans ((if_neg (by simp [locked])).trans (if_neg (by rw [bad]; decide))))))
  case enrolling =>
    exact fun s i rx x e awake runs enrols own ver => State.runOn_next rfl awake (State.addressed_enrolling runs enrols own ver)
  case addressed =>
    intro s i rx x d v w awake runs enrols cycle hit hv due hw
    refine State.runOn_next rfl awake ((State.addressed_collided runs enrols (by rw [cycle]; rfl) hit hv).trans ((if_pos due).trans ?_))
    have done : v.acc.done = some d := by rw [hv, State.setFlag_acc, cycle]
    rw [done, ← hw]
    rfl
  case notItsTurn =>
    exact fun s i rx x v awake runs enrols cycle hit hv due => State.runOn_next rfl awake
      ((State.addressed_collided runs enrols cycle hit hv).trans (if_neg (by simp [due])))
  case notAddressed => exact fun s i rx x awake off => State.runOn_next rfl awake (State.addressed_off off)
  case first => exact fun s rx x c i awake runs cyc kind hit => State.runOn_next rfl awake (State.slotted_first runs cyc kind hit)
  case next =>
    exact fun s rx x c i k awake runs cyc kind more hit => State.runOn_next rfl awake (State.slotted_next runs cyc kind more hit)
  case last =>
    exact fun s rx x c i k v awake runs cyc kind last hit hv => State.runOn_next rfl awake (State.slotted_last runs cyc kind last hit hv)
  case notSlotted => exact fun s rx x awake off => State.runOn_next rfl awake (State.slotted_off off)
  case lockout => exact fun s id t x v awake held lock hv => State.runOn_next rfl awake (State.lockoutEnd_some held lock hv)
  case noLockout => exact fun s id awake none => State.runOn_next rfl awake (State.lockoutEnd_none none)

end Sys2Proof.Machine
end

section
/-! A write of the dictionary over SDO (R506, R510, R512, R520). -/

namespace Sys2Proof.Machine

section
variable {s v : State} {p : Fin 8} {idx sub : Nat} {b : List Byte} {e : OdEnt} {c : Client} {x : State × Nat}

/-- The checks of a write that come before its effect pass (R506, R510, R512). -/
def State.odTakes (s : State) (c : Client) (idx sub : Nat) (e : OdEnt) (b : List Byte) : Prop :=
  s.odEntry idx sub = (0, some e) ∧ s.odCond c e = true ∧ s.odLevel c e = true ∧ e.acc.writes = true ∧ e.ty.lengthCheck b.length = 0 ∧
    e.ty.valueOk b = true

theorem State.odEntry_found (served : s.mode' ≠ 7 ∨ recoveryEntry idx sub = true) (found : odFind idx sub = some e) :
    s.odEntry idx sub = (0, some e) := by
  rw [State.odEntry, if_neg (by rcases served with h | h <;> simp [h]), found]

theorem State.dictWrite_takes (takes : s.odTakes c idx sub e b) (hx : x = e.put s c b) :
    s.dictWrite c idx sub b = if x.2 = 0 ∨ x.2 = abLater then (x.1.sessTouch c, x.2) else x := by
  obtain ⟨entry, cond, level, writes, length, value⟩ := takes
  rw [State.dictWrite, entry]
  simp only [cond, level, writes, length, value, Bool.not_true, Bool.and_false, Bool.false_eq_true, if_false, ne_eq, not_true_eq_false, ← hx]

theorem State.sdoWrite_accepted {u : State} {tag : Nat} (takes : v.odTakes (.sdo p) idx sub e b) (put : e.put v (.sdo p) b = (u, 0)) :
    v.sdoWrite p idx sub b tag = (u.sessTouch (.sdo p)).sdoReply p (leBytes 1 tag ++ if tag = 0x60 then muxBytes idx sub else []) := by
  rw [State.sdoWrite, State.dictWrite_takes takes put.symm]
  rfl

theorem State.sdoWrite_refused {u : State} {tag code : Nat} (takes : v.odTakes (.sdo p) idx sub e b) (put : e.put v (.sdo p) b = (u, code))
    (bad : code ≠ 0) (now : code ≠ abLater) : v.sdoWrite p idx sub b tag = u.sdoAbort p idx sub code := by
  have stays : v.dictWrite (.sdo p) idx sub b = (u, code) := (State.dictWrite_takes takes put.symm).trans (if_neg (by simp [bad, now]))
  rw [State.sdoWrite, stays]
  exact (if_neg bad).trans (if_neg now)

theorem State.sdoWrite_answers {tag : Nat} (takes : v.odTakes (.sdo p) idx sub e b) (put : e.put v (.sdo p) b = x) (now : x.2 ≠ abLater) :
    v.sdoWrite p idx sub b tag =
      if x.2 = 0 then (x.1.sessTouch (.sdo p)).sdoReply p (leBytes 1 tag ++ if tag = 0x60 then muxBytes idx sub else [])
      else x.1.sdoAbort p idx sub x.2 := by
  split
  next ok => exact State.sdoWrite_accepted takes (put.trans (Prod.ext rfl ok))
  next bad => exact State.sdoWrite_refused takes put bad now

theorem State.clientWrite_sdo (on : s.sdoOn p = true) (hv : v = (s.sessSweep.authUnlock).setXfer p none) :
    s.clientWrite (.sdo p) idx sub b = v.sdoWrite p idx sub b (if b.length ≤ 4 then 0x60 else 0x20) := by
  rw [hv]
  exact if_neg (by simp [on])

/-- A write of a number to an entry of one byte is confirmed with the entry's index. -/
theorem State.clientNum_sdo {n : Nat} (found : odFind idx sub = some e) (size : e.ty.size = 1) (on : s.sdoOn p = true)
    (hv : v = (s.sessSweep.authUnlock).setXfer p none) : s.clientNum (.sdo p) idx sub n = v.sdoWrite p idx sub (leBytes 1 n) 0x60 := by
  rw [State.clientNum, found, State.clientWrite_sdo on hv]
  simp only [size, leBytes_length]
  rfl

theorem State.mode'_swept_of (hv : v = (s.sessSweep.authUnlock).setXfer p none) : v.mode' = s.mode' := by
  rw [hv]
  exact s.mode'_swept

theorem leNat_leBytes_one (n : Nat) : leNat (leBytes 1 n) = n % 256 := by simp [leBytes, leNat]

end
end Sys2Proof.Machine
end

section
/-! Gates, release messages, zone learning, enrolment, revocation and the watch (R558 to R569). -/

namespace Sys2Proof.Machine

/-! ## Gates and release messages (R559, R562) -/

section
variable {s v : State} {g : Nat}

theorem State.gateClose_shut (shut : s.bit F.ACC_STAT_GATES 0 g = false) : s.gateClose g = s := if_pos (by simp [shut])

theorem State.gateClose_open (opened : s.bit F.ACC_STAT_GATES 0 g = true)
    (hv : v = s.advanceTo ((s.gatec g).auth + sec (s.fld F.ACC_GATE_SEL_WINDOW g))) :
    s.gateClose g = if v.gateHeld g then v else v.gateShutNow g := by
  subst hv
  exact if_neg (by simp [opened])

theorem State.releaseMsg_off (off : s.flag F.ACC_MSGCFG_MSG_EN g = false) : s.releaseMsg g = s := by
  unfold State.releaseMsg
  simp only [off, Bool.false_and]

theorem State.releaseMsg_sends {p f h b : Nat} {k : List Byte} {u : State} (awake : s.awake = true) (hp : p = s.fld F.ACC_MSGCFG_PORT g)
    (on : s.flag F.ACC_MSGCFG_MSG_EN g = true) (runs : s.accRuns = true) (can : s.canRuns p = true) (mode : s.fld F.CAN_CTRL_OPMODE p = 0)
    (key : s.key 10 = some k) (hu : u = (s.gatec g).msgAt.elim s fun t => s.advanceTo t) (hf : f = (u.cust.fresh + 1) % 2 ^ 64)
    (hh : h = u.fld F.ACC_GATE_MSG_ID g) (hb : b = (if u.bit F.ACC_STAT_GATES 0 g then 1 else 0) + 2 * g +
      16 * (if u.bit F.ACC_STAT_GATES 0 g then (u.gatec g).zone else 15))
    (hv : v = u.setCust { u.cust with fresh := f, freshNvm := if f % 65536 = 0 then f else u.cust.freshNvm }) :
    s.releaseMsg g = (v.setGatec g { v.gatec g with msgAt := some (v.now + ms (v.fld F.ACC_MSGCFG_PERIOD g)) }).timerPut p (4 + g)
      { id := h, xtd := v.flag F.ACC_GATE_MSG_XTD g, dlc := 8
        data := leBytes 1 b ++ leBytes 3 f ++ (aesCmac k (leBytes 4 h ++ leBytes 1 b ++ leBytes 8 f)).take 4 } := by
  subst hp
  unfold State.releaseMsg
  simp only [on, runs, awake, can, mode, key, Bool.and_self, beq_self_eq_true]
  cases at0 : (s.gatec g).msgAt with
  | none =>
    rw [at0, Option.elim_none] at hu
    subst hu
    simp only [← hf, ← hh, ← hb, ← hv] <;> rfl
  | some t =>
    rw [at0, Option.elim_some] at hu
    simp only [← hu, ← hf, ← hh, ← hb, ← hv] <;> rfl

/-! ## Zone learning (R558) -/

theorem State.learnWrite_starts {n : Nat} (mode : s.mode' = 6) (few : n ≤ 8) :
    s.learnWrite n = (s.setAcc { s.acc with learn := if n = 0 then none else some (n - 1, s.now, false) }, 0) :=
  (if_neg (not_not_intro mode)).trans (if_neg (by omega))

theorem State.learnWrite_refused {n : Nat} (mode : s.mode' ≠ 6) : s.learnWrite n = (s, 0x08000022) := if_pos mode

theorem State.learnEnd_some {z t : Nat} {b : Bool} (learns : s.acc.learn = some (z, t, b)) (hv : v = s.advanceTo (t + sec 60)) :
    s.learnEnd = v.setAcc { v.acc with learn := none } := by
  rw [State.learnEnd, learns, hv]

theorem State.learnEnd_none (none : s.acc.learn = none) : s.learnEnd = s := by rw [State.learnEnd, none]

/-! ## Enrolment (R565, R566) -/

section
variable {start : Nat} {b : List Byte} {bitmap : Byte} {c : Cycle} {r : Reply} {e : Enrol}

theorem State.uhfReply_assign (runs : s.accRuns = true) (cyc : s.acc.cyc = some c) (kind : c.kind = .assign) (parsed : c.parse start b = some r)
    (hv : v = s.advanceTo (c.chalEnd + us (start + if r.ver = 1 then 8400 else 10000))) :
    s.uhfReply start b bitmap = v.assignReply r bitmap := by
  subst hv
  rw [State.uhfReply, cyc]
  simp only [parsed, runs, kind, Bool.not_true, Bool.false_eq_true, if_false]

theorem State.assignReply_version {n : Nat} (enrols : s.acc.enrol = some e) (own : e.id = r.id)
    (hn : n = if bitOf bitmap.toNat 1 then 2 else 1) (common : (bitOf bitmap.toNat 0 || bitOf bitmap.toNat 1) = true) :
    s.assignReply r bitmap = (s.setAcc { s.acc with enrol := some { e with ver := some n } }).negotiated 3 e.slot n := by
  rw [State.assignReply, enrols]
  refine (if_neg (not_not_intro own)).trans ?_
  cases two : bitOf bitmap.toNat 1
  · have one : bitOf bitmap.toNat 0 = true := by simpa [two] using common
    simp [hn, two, one]
  · simp [hn, two]

theorem State.enrolFail_some {result : Nat} (enrols : s.acc.enrol = some e) :
    s.enrolFail result = (s.setAcc { s.acc with enrol := none, result := result }).raise .ACC_ENROL_FAIL e.slot := by
  rw [State.enrolFail, enrols]

theorem State.assignReply_none (enrols : s.acc.enrol = some e) (own : e.id = r.id)
    (apart : (bitOf bitmap.toNat 0 || bitOf bitmap.toNat 1) = false) :
    s.assignReply r bitmap = (s.setAcc { s.acc with enrol := none, result := 4 }).raise .ACC_ENROL_FAIL e.slot := by
  simp only [Bool.or_eq_false_iff] at apart
  rw [State.assignReply, enrols]
  exact (if_neg (not_not_intro own)).trans ((if_neg (by simp [apart])).trans ((if_neg (by simp [apart])).trans (State.enrolFail_some enrols)))

theorem State.enrolExpire_some (enrols : s.acc.enrol = some e) (hv : v = s.advanceTo (e.start + sec 30)) :
    s.enrolExpire = (v.setAcc { v.acc with enrol := none, result := 3 }).raise .ACC_ENROL_FAIL e.slot := by
  subst hv
  rw [State.enrolExpire, enrols]
  exact State.enrolFail_some enrols

theorem State.enrolExpire_none (none : s.acc.enrol = none) : s.enrolExpire = s := by rw [State.enrolExpire, none]

end

/-! ## The watch (R569) -/

theorem State.watchFrame_off {ma : Nat} (off : s.mode' ≠ 1 ∨ s.flag F.ACC_CTRL_WATCH_EN = false ∨ s.accRuns = false ∨
    nextAerial (s.fld F.ACC_AER_WATCH) s.acc.turn = none) : s.watchFrame ma = s := by
  unfold State.watchFrame
  rcases off with h | h | h | h
  · exact if_pos (.inl h)
  · exact if_pos (.inr (.inl (by simp [h])))
  · exact if_pos (.inr (.inr (by simp [h])))
  · simp only [h, ite_self]

theorem State.watchFrame_next {ma a : Nat} (mode : s.mode' = 1) (on : s.flag F.ACC_CTRL_WATCH_EN = true) (runs : s.accRuns = true)
    (next : nextAerial (s.fld F.ACC_AER_WATCH) s.acc.turn = some a) (hv : v = s.acc.watchAt.elim s fun t => s.advanceTo (t + ms 250)) :
    s.watchFrame ma = (v.setAcc { v.acc with turn := a, watchAt := some v.now, lf := v.lfFrame 4 [] }).aerialDrive a
      (v.fld F.ACC_AER_WATCH_DRIVE) (some ma) := by
  subst hv
  unfold State.watchFrame
  rw [if_neg (by simp [mode, on, runs]), next]
  cases at0 : s.acc.watchAt with
  | none =>
    rfl
  | some t =>
    rfl

/-! ## Writes of 2A00 (R565 to R568) -/

theorem State.keyUsed_acc (s : State) (i : Nat) : (s.keyUsed i).acc = s.acc := by
  unfold State.keyUsed
  split
  · exact State.raise_acc ..
  · rfl

/-- A write of 2A00:20 either starts an assign cycle or leaves the access block as it is and answers an abort code. -/
theorem State.enrolWrite_cases (s : State) (svc : Bool) (b : List Byte) :
    (∃ u : State, s.enrolWrite svc b = (u.startCycle .assign, 0) ∧ u.acc.cyc = s.acc.cyc) ∨
      ∃ (u : State) (code : Nat), s.enrolWrite svc b = (u, code) ∧ code ≠ 0 ∧ code ≠ abLater ∧ u.acc = s.acc := by
  unfold State.enrolWrite
  extract_lets slot master idBytes id auth code u authOk key src
  split
  · exact .inr ⟨s, _, rfl, by split <;> decide, by split <;> decide, rfl⟩
  · split
    · exact .inr ⟨s, _, rfl, by decide, by decide, rfl⟩
    · split
      · exact .inr ⟨s, _, rfl, by decide, by decide, rfl⟩
      · have kept : u.acc = s.acc := by
          simp only [u]
          split <;> simp only [State.keyUsed_acc]
        clear_value authOk key
        match authOk, key with
        | true, some _ => exact .inl ⟨_, rfl, (congrArg AccSt.cyc kept :)⟩
        | true, none => exact .inr ⟨u, _, rfl, by decide, by decide, kept⟩
        | false, _ => exact .inr ⟨u, _, rfl, by decide, by decide, kept⟩

theorem State.revokeWrite_revokes {w : State} {n : Nat} (fits : n ≤ 15) (occ : (s.slotc n).occ = true) (room : s.acc.deny.length < 64)
    (hw : w = s.setAcc { s.acc with deny := s.acc.deny ++ [(s.slotc n).id] }) :
    s.revokeWrite true n = (((w.setSlotc n {}).eraseKeys fun k => k == 11 + n).wr .ACC_SLOT_STAT n 0, 0) := by
  subst hw
  rw [State.revokeWrite, if_neg (by omega), if_neg (by decide), if_neg (by simp [occ]), if_neg (by omega)]

theorem State.revokeWrite_full {n : Nat} (fits : n ≤ 15) (occ : (s.slotc n).occ = true) (full : 64 ≤ s.acc.deny.length) :
    s.revokeWrite true n = (s.raise .ACC_DENY_FULL, 0x08000022) := by
  rw [State.revokeWrite, if_neg (by omega), if_neg (by decide), if_neg (by simp [occ]), if_pos full]

theorem State.revokeWrite_empty {n : Nat} (fits : n ≤ 15) (empty : (s.slotc n).occ = false) : s.revokeWrite true n = (s, 0) := by
  rw [State.revokeWrite, if_neg (by omega), if_neg (by decide), if_pos (by simp [empty])]

theorem State.rekeyWrite_rekeys (lc : s.cust.lc = 4) (safe : s.cust.safe = false) : s.rekeyWrite true 1 = (s.rekey, 0) := by
  rw [State.rekeyWrite, if_neg (by decide), if_neg (by simp [lc, safe])]

theorem State.rekeyWrite_refused (off : s.cust.lc ≠ 4 ∨ s.cust.safe = true) : s.rekeyWrite true 1 = (s, 0x08000022) := by
  rw [State.rekeyWrite, if_neg (by decide), if_pos (by rcases off with h | h <;> simp [h])]

/-! ## The accesses of 2A00 (R506, R512) -/

variable {p : Fin 8}

/-- Sessions and lockouts that have run out do not change the access block. -/
theorem State.acc_swept_of (hv : v = (s.sessSweep.authUnlock).setXfer p none) : v.acc = s.acc := by
  have ended (u : State) (d : Client) : (u.sessEnd d).acc = u.acc := by
    unfold State.sessEnd
    split
    · rfl
    · dsimp only
      split
      · exact State.raise_acc ..
      · rfl
  have unlocked (u : State) : u.authUnlock.acc = u.acc := by
    unfold State.authUnlock
    repeat' split
    all_goals rfl
  rw [hv]
  exact (unlocked _).trans (State.each_keeps s _ _ State.acc fun u z => ended u z.client)

theorem State.svcOf_of {c : Client} (level : 2 ≤ v.levelOf c) : v.svcOf c = true := decide_eq_true level

theorem State.odLevel_of {c : Client} {e : OdEnt} (level : e.lvl ≤ v.levelOf c) : v.odLevel c e = true := by
  simp [State.odLevel, level]

variable {b : List Byte} {n : Nat}

theorem State.takes_learn (mode : v.mode' ≠ 7) (level : 2 ≤ v.levelOf (.sdo p)) :
    v.odTakes (.sdo p) 0x2A00 0x14 (numEnt (.u 1) .wo false 2 .any (fun _ => 0) State.learnWrite) (leBytes 1 n) :=
  ⟨State.odEntry_found (.inl mode) rfl, rfl, State.odLevel_of level, rfl, rfl, rfl⟩

/-- The entry 2A00:20. -/
def enrolEntry : OdEnt := { ty := .dom, acc := .wo, lvl := 2, put := fun s c b => s.enrolWrite (s.svcOf c) b }

theorem State.takes_enrol (mode : v.mode' ≠ 7) (level : 2 ≤ v.levelOf (.sdo p)) : v.odTakes (.sdo p) 0x2A00 0x20 enrolEntry b :=
  ⟨State.odEntry_found (.inl mode) rfl, rfl, State.odLevel_of level, rfl, rfl, rfl⟩

theorem enrolEntry_put (level : 2 ≤ v.levelOf (.sdo p)) : enrolEntry.put v (.sdo p) b = v.enrolWrite true b :=
  congrArg (v.enrolWrite · b) (State.svcOf_of level)

/-- The entry 2A00:21. -/
def revokeEntry : OdEnt := { ty := .u 1, acc := .wo, lvl := 2, put := fun s c b => s.revokeWrite (s.svcOf c) (leNat b) }

theorem State.takes_revoke (mode : v.mode' ≠ 7) (level : 2 ≤ v.levelOf (.sdo p)) :
    v.odTakes (.sdo p) 0x2A00 0x21 revokeEntry (leBytes 1 n) :=
  ⟨State.odEntry_found (.inl mode) rfl, rfl, State.odLevel_of level, rfl, rfl, rfl⟩

theorem revokeEntry_put (level : 2 ≤ v.levelOf (.sdo p)) (i : Fin 16) :
    revokeEntry.put v (.sdo p) (leBytes 1 i) = v.revokeWrite true i := by
  show v.revokeWrite (v.svcOf (.sdo p)) (leNat (leBytes 1 i)) = v.revokeWrite true i
  rw [State.svcOf_of level, leNat_leBytes_one, Nat.mod_eq_of_lt (by omega)]

/-- The entry 2A00:24. -/
def rekeyEntry : OdEnt := { ty := .u 1, acc := .wo, lvl := 3, put := fun s c b => s.rekeyWrite (s.facOf c) (leNat b) }

theorem State.takes_rekey (mode : v.mode' ≠ 7) (level : v.levelOf (.sdo p) = 3) :
    v.odTakes (.sdo p) 0x2A00 0x24 rekeyEntry (leBytes 1 n) :=
  ⟨State.odEntry_found (.inl mode) rfl, rfl, State.odLevel_of (Nat.le_of_eq level.symm), rfl, rfl, rfl⟩

theorem rekeyEntry_put (level : v.levelOf (.sdo p) = 3) : rekeyEntry.put v (.sdo p) (leBytes 1 1) = v.rekeyWrite true 1 := by
  show v.rekeyWrite (v.levelOf (.sdo p) == 3) 1 = v.rekeyWrite true 1
  rw [level]
  rfl

end

/-- Settles O44: the writes of 2A00 pass the entry's checks and do what its operation says; an accepted enrolment starts a cycle. -/
theorem gatesAndEnrolment : Obligations.GatesAndEnrolment := by
  unfold Obligations.GatesAndEnrolment
  refine ⟨?closes, ?held, ?shut, ?silent, ?sends, ?learns, ?learnsNot, ?learnEnd, ?notLearning, ?enrols, ?enrolsNot, ?version, ?noVersion,
    ?expires, ?notEnrolling, ?revokes, ?denyFull, ?empty, ?rekeys, ?rekeysNot, ?watch, ?watchNot, ?wakes, ?wakesNot⟩
  case closes =>
    exact fun s g v awake opened hv free => State.runOn_next rfl awake
      ((State.gateClose_open opened hv).trans (if_neg (by rw [free]; decide)))
  case held => exact fun s g v awake opened hv held => State.runOn_next rfl awake ((State.gateClose_open opened hv).trans (if_pos held))
  case shut => exact fun s g awake shut => State.runOn_next rfl awake (State.gateClose_shut shut)
  case silent => exact fun s g awake off => State.runOn_next rfl awake (State.releaseMsg_off off)
  case sends =>
    exact fun s g p f h b k u v awake hp on runs can mode key hu hf hh hb hv => State.runOn_next rfl awake
      (State.releaseMsg_sends awake hp on runs can mode key hu hf hh hb hv)
  case learns =>
    intro s p n v awake on mode few hv level
    have mode' := (State.mode'_swept_of hv).trans mode
    refine State.run_next rfl ((State.clientNum_sdo rfl rfl on hv).trans ?_)
    refine (State.sdoWrite_accepted (State.takes_learn (by rw [mode']; decide) level) ?_).trans rfl
    show v.learnWrite (leNat (leBytes 1 n)) = _
    rw [leNat_leBytes_one, Nat.mod_eq_of_lt (by omega), State.learnWrite_starts mode' few]
  case learnsNot =>
    intro s p n v awake on mode notRec hv level
    have mode' := State.mode'_swept_of hv
    refine State.run_next rfl ((State.clientNum_sdo rfl rfl on hv).trans ?_)
    exact State.sdoWrite_refused (State.takes_learn (by rwa [mode']) level) (State.learnWrite_refused (by rwa [mode']))
      (by decide) (by decide)
  case learnEnd => exact fun s z t b v awake learns hv => State.runOn_next rfl awake (State.learnEnd_some learns hv)
  case notLearning => exact fun s awake none => State.runOn_next rfl awake (State.learnEnd_none none)
  case enrols =>
    intro s p b y v x awake on mode hv level hx long ok
    have takes := State.takes_enrol (b := b) (by rwa [State.mode'_swept_of hv]) level
    have put : enrolEntry.put v (.sdo p) b = (x.1, 0) := (enrolEntry_put level).trans (hx.symm.trans (Prod.ext rfl ok))
    have written : s.clientWrite (.sdo p) 0x2A00 0x20 b = (x.1.sessTouch (.sdo p)).sdoReply p [0x20] := by
      rw [State.clientWrite_sdo on hv, State.sdoWrite_accepted takes put, if_neg (by omega)]
      rfl
    refine State.run_next rfl ((State.burstAfter_starts ?_).trans (congrArg (State.cycleBurst · y) written))
    rw [written, ← State.acc_swept_of hv]
    show x.1.acc.cyc.map (·.start) ≠ v.acc.cyc.map (·.start)
    rcases v.enrolWrite_cases true b with ⟨u, starts, same⟩ | ⟨u, code, refused, bad, -, -⟩
    · rw [hx, starts, ← same]
      exact State.cyc_startCycle_ne u .assign
    · exact absurd ((congrArg Prod.snd (hx.trans refused)).symm.trans ok) bad
  case enrolsNot =>
    intro s p b y v x awake on mode hv level hx some bad
    have takes := State.takes_enrol (b := b) (by rwa [State.mode'_swept_of hv]) level
    rcases v.enrolWrite_cases true b with ⟨u, starts, -⟩ | ⟨u, code, refused, bad', now, same⟩
    · exact absurd (congrArg Prod.snd (hx.trans starts)) bad
    · have written : s.clientWrite (.sdo p) 0x2A00 0x20 b = x.1.sdoAbort p 0x2A00 0x20 x.2 := by
        rw [State.clientWrite_sdo on hv, State.sdoWrite_refused takes ((enrolEntry_put level).trans refused) bad' now, hx, refused]
      refine State.run_next rfl ((State.burstAfter_same ?_).trans written)
      rw [written, ← State.acc_swept_of hv]
      show x.1.acc.cyc.map (·.start) = v.acc.cyc.map (·.start)
      rw [hx, refused, same]
  case version =>
    exact fun s start b bitmap c r e n v awake runs cyc kind parsed hv enrols own hn common => State.runOn_next rfl awake
      ((State.uhfReply_assign runs cyc kind parsed hv).trans (State.assignReply_version enrols own hn common))
  case noVersion =>
    exact fun s start b bitmap c r e v awake runs cyc kind parsed hv enrols own apart => State.runOn_next rfl awake
      ((State.uhfReply_assign runs cyc kind parsed hv).trans (State.assignReply_none enrols own apart))
  case expires => exact fun s e v awake enrols hv _ => State.runOn_next rfl awake (State.enrolExpire_some enrols hv)
  case notEnrolling => exact fun s awake none => State.runOn_next rfl awake (State.enrolExpire_none none)
  case revokes =>
    intro s p i v w awake on mode hv level occ room hw
    refine State.run_next rfl ((State.clientNum_sdo rfl rfl on hv).trans ?_)
    exact (State.sdoWrite_accepted (State.takes_revoke (by rwa [State.mode'_swept_of hv]) level)
      ((revokeEntry_put level i).trans (State.revokeWrite_revokes (by omega) occ room hw))).trans rfl
  case denyFull =>
    intro s p i v awake on mode hv level occ full
    refine State.run_next rfl ((State.clientNum_sdo rfl rfl on hv).trans ?_)
    exact State.sdoWrite_refused (State.takes_revoke (by rwa [State.mode'_swept_of hv]) level)
      ((revokeEntry_put level i).trans (State.revokeWrite_full (by omega) occ full)) (by decide) (by decide)
  case empty =>
    intro s p i v awake on mode hv level empty
    refine State.run_next rfl ((State.clientNum_sdo rfl rfl on hv).trans ?_)
    exact (State.sdoWrite_accepted (State.takes_revoke (by rwa [State.mode'_swept_of hv]) level)
      ((revokeEntry_put level i).trans (State.revokeWrite_empty (by omega) empty))).trans rfl
  case rekeys =>
    intro s p v awake on mode hv level lc safe
    refine State.run_next rfl ((State.clientNum_sdo rfl rfl on hv).trans ?_)
    exact (State.sdoWrite_accepted (State.takes_rekey (by rwa [State.mode'_swept_of hv]) level)
      ((rekeyEntry_put level).trans (State.rekeyWrite_rekeys lc safe))).trans rfl
  case rekeysNot =>
    intro s p v awake on mode hv level off
    refine State.run_next rfl ((State.clientNum_sdo rfl rfl on hv).trans ?_)
    exact State.sdoWrite_refused (State.takes_rekey (by rwa [State.mode'_swept_of hv]) level)
      ((rekeyEntry_put level).trans (State.rekeyWrite_refused off)) (by decide) (by decide)
  case watch => exact fun s ma a v mode on runs next hv => State.run_next rfl (State.watchFrame_next mode on runs next hv)
  case watchNot => exact fun s ma off => State.run_next rfl (State.watchFrame_off off)
  case wakes => exact fun s b after boot valid => State.run_next rfl (if_pos valid)
  case wakesNot => exact fun s b after boot off => State.run_next rfl (if_neg (by simp [off]))

end Sys2Proof.Machine
end

section
/-! Key records, lifecycle requests and the debug port (R574 to R583). -/

namespace Sys2Proof.Machine

section
variable {s v w : State} {p : Fin 8} {b : List Byte}

/-! ## Key records (R573, R574) -/

theorem State.keyUsed_good (s : State) {i : Nat} (good : s.cust.bad = []) : s.keyUsed i = s := by
  rw [State.keyUsed, good]
  rfl

theorem State.keyRecord_answers (s : State) (fac : Bool) (b : List Byte) : (s.keyRecord fac b).2 ≠ abLater := by
  unfold State.keyRecord
  extract_lets k r len u
  repeat' split
  all_goals
    dsimp only [abLater]
    decide

theorem State.keyRecord_replaces {k : Nat} {u y : List Byte} (fac : Bool) (lc : s.cust.lc = 1) (first : s.key 6 = none)
    (safe : s.cust.safe = false) (good : s.cust.bad = []) (hk : k = leNat (b.take 1))
    (form : k = 8 ∧ b.length = 25 ∨ k ≠ 8 ∧ 4 ≤ k ∧ k ≤ 9 ∧ b.length = 41) (wrap : s.key 3 = some u)
    (unwrapped : keyUnwrap u (b.drop 1) = some y) :
    s.keyRecord fac b = ((s.setKey k y).raise .CUST_KEY_WRITE k, 0) := by
  have index : 4 ≤ k ∧ k ≤ 9 := by omega
  have length : (b.drop 1).length = if k = 8 then 24 else 40 := by
    rw [List.length_drop]
    split <;> omega
  have permitted : s.recordOk fac k = true := by
    rw [State.recordOk, lc]
    simp [index, first]
  rw [State.keyRecord]
  simp only [← hk, s.keyUsed_good good, wrap, unwrapped]
  rw [if_neg (by omega), if_neg (not_not_intro length), if_neg (by simp [permitted, safe])]

/-- The entry 2B00:10. -/
def keyRecordEntry : OdEnt :=
  { ty := .dom, acc := .wo, lvl := 3, anyone := fun s => s.cust.lc == 1 && (s.key 6).isNone
    put := fun s c b => s.keyRecord (s.facOf c) b }

theorem State.takes_keyRecord (mode : v.mode' ≠ 7) (level : v.levelOf (.sdo p) = 3 ∨ v.cust.lc = 1 ∧ v.key 6 = none) :
    v.odTakes (.sdo p) 0x2B00 0x10 keyRecordEntry b := by
  refine ⟨State.odEntry_found (.inl mode) rfl, rfl, ?_, rfl, rfl, rfl⟩
  rcases level with level | ⟨lc, first⟩
  · exact State.odLevel_of (Nat.le_of_eq level.symm)
  · simp [State.odLevel, keyRecordEntry, lc, first]

/-! ## Lifecycle (R577 to R579) -/

/-- The entry 2B00:20. -/
def lcRequestEntry : OdEnt := { ty := .dom, acc := .wo, lvl := 2, put := fun s c b => s.lcRequest (s.svcOf c) (s.facOf c) b }

theorem State.takes_lcRequest (mode : v.mode' ≠ 7) (level : 2 ≤ v.levelOf (.sdo p)) : v.odTakes (.sdo p) 0x2B00 0x20 lcRequestEntry b :=
  ⟨State.odEntry_found (.inl mode) rfl, rfl, State.odLevel_of level, rfl, rfl, rfl⟩

theorem lcRequestEntry_put (level : 2 ≤ v.levelOf (.sdo p)) :
    lcRequestEntry.put v (.sdo p) b = v.lcRequest true (v.facOf (.sdo p)) b :=
  congrArg (v.lcRequest · (v.facOf (.sdo p)) b) (State.svcOf_of level)

theorem State.lcRequest_answers (s : State) (svc fac : Bool) (b : List Byte) : (s.lcRequest svc fac b).2 ≠ abLater := by
  unfold State.lcRequest
  extract_lets target was refuse nonce src u
  have refused (z : State) {c : Nat} (other : c ≠ abLater) : (refuse z c).2 ≠ abLater := other
  have carried (z : State) : ((z, 0) : State × Nat).2 ≠ abLater := Nat.zero_ne_one
  split
  · exact refused _ (by decide)
  · clear_value nonce
    cases nonce with
    | none => exact refused _ (by decide)
    | some n =>
      dsimp only
      split
      · exact refused _ (by decide)
      · split
        · exact carried _
        · split
          · exact carried _
          · exact refused _ (by decide)

theorem State.lcRequest_refused {fac : Bool} (hw : w = s.setCust { s.cust with nonce := none })
    (off : s.mode' ≠ 3 ∨ s.fld F.BERTH_STAT_STATE ≠ 1 ∨ s.fld F.BERTH_VKEEP_VSRC ≤ s.vwarn ∨ s.cust.safe = true ∨
      s.lcListed true fac (leNat (b.take 1)) = false) :
    s.lcRequest true fac b = (w.raise .LC_REFUSED 0 [s.cust.lc, leNat (b.take 1)], 0x08000022) := by
  subst hw
  refine if_pos ?_
  rcases off with h | h | h | h | h
  · exact .inl h
  · have notReady : s.berthReady = false := by simpa [State.berthReady] using h
    exact .inr (.inl (congrArg (! ·) notReady))
  · have low : s.vsrcOk = false := by simpa [State.vsrcOk] using h
    exact .inr (.inr (.inl (congrArg (! ·) low)))
  · exact .inr (.inr (.inr (.inl h)))
  · exact .inr (.inr (.inr (.inr (congrArg (! ·) h))))

/-- The nonce of a lifecycle request over SDO: 16 bytes, uploaded in segments. -/
theorem State.dictRead_lcNonce (mode : v.mode' ≠ 7) (level : 2 ≤ v.levelOf (.sdo p)) :
    v.dictRead (.sdo p) 0x2B00 0x21 = (v.lcNonce.2.sessTouch (.sdo p), 0, v.lcNonce.1) := by
  have entry : v.odEntry 0x2B00 0x21 =
      (0, some { ty := .oct, acc := .ro, lvl := 2, get := fun s _ => (s.lcNonce.2, 0, s.lcNonce.1) }) := State.odEntry_found (.inl mode) rfl
  rw [State.dictRead, entry]
  exact (if_neg (by rw [State.odLevel_of level]; decide)).trans rfl

theorem trng_length (n k : Nat) : (Config.trng n k).length = k := by rw [Config.trng, List.length_map, List.length_range]

/-! ## The debug port (R580 to R583) -/

theorem State.dbgChallenge_on (awake : s.awake = true) (safe : s.cust.safe = false) (early : s.cust.dbg.wake = false ∨ s.mode' ≠ 2) :
    s.dbgChallenge = (s.trng 32).2.setDbg { s.cust.dbg with nonce := some (Config.trng s.free 32, s.now) } :=
  if_neg (by rcases early with h | h <;> simp [awake, safe, h])

theorem State.dbgChallenge_off (off : s.cust.safe = true ∨ s.awake = false ∨ s.cust.dbg.wake = true ∧ s.mode' = 2) : s.dbgChallenge = s :=
  if_pos (by rcases off with h | h | ⟨h, k⟩ <;> simp [*])

theorem State.dbgAttach_denied {l : Fin 4} (hv : v = s.setDbg { s.cust.dbg with nonce := none })
    (off : s.cust.dbg.nonce.any (fun x => decide (s.now < x.2 + sec 10)) = false ∨ s.cust.dbg.lock.isSome = true ∨ s.cust.safe = true ∨
      s.cust.dbg.enabled = false ∨ l.val = 0 ∨ l.val = 3) : s.dbgAttach l b = v.dbgDeny := by
  subst hv
  cases nonce : s.cust.dbg.nonce with
  | none => rw [State.dbgAttach, nonce]
  | some x =>
    obtain ⟨n, t⟩ := x
    have barred : s.cust.dbg.lock.isSome = true ∨ s.cust.safe = true ∨ (!s.cust.dbg.enabled) = true ∨ t + sec 10 ≤ s.now ∨
        (l.val ≠ 1 ∧ l.val ≠ 2) := by
      rcases off with h | h | h | h | h | h
      · rw [nonce, Option.any_some] at h
        exact .inr (.inr (.inr (.inl (Nat.le_of_not_lt (of_decide_eq_false h)))))
      · exact .inl h
      · exact .inr (.inl h)
      · exact .inr (.inr (.inl (by rw [h]; rfl)))
      · exact .inr (.inr (.inr (.inr (by omega))))
      · exact .inr (.inr (.inr (.inr (by omega))))
    rw [State.dbgAttach, nonce]
    exact if_pos barred

/-- An attach that the port takes is verified with the debug key of the lifecycle state. -/
theorem State.dbgAttach_verified {l : Fin 4} {n : List Byte} {t : Nat} (nonce : s.cust.dbg.nonce = some (n, t)) (lock : s.cust.dbg.lock = none)
    (safe : s.cust.safe = false) (enabled : s.cust.dbg.enabled = true) (fresh : s.now < t + sec 10) (level : l.val = 1 ∨ l.val = 2)
    (hv : v = (s.setDbg { s.cust.dbg with nonce := none }).keyUsed s.dbgKey) (hw : w = v.setDbg { v.cust.dbg with fails := 0 }) :
    s.dbgAttach l b =
      if v.signOk v.dbgKey (n ++ serialBytes ++ leBytes 1 v.cust.lc ++ leBytes 1 l) b then
        if w.mode' = 2 then w.setDbg { w.cust.dbg with held := some l.val } else w.dbgJudge (if s.cust.dbg.wake then 0 else w.mode') l
      else if s.cust.dbg.fails < 2 then (v.setDbg { v.cust.dbg with fails := s.cust.dbg.fails + 1 }).dbgDeny
      else ((v.setDbg { v.cust.dbg with fails := 0, lock := some (v.now + sec 60) }).raise .DBG_AUTH_FAIL).dbgDeny := by
  have key : (s.setDbg { s.cust.dbg with nonce := none }).dbgKey = s.dbgKey := rfl
  have open' : ¬(s.cust.dbg.lock.isSome = true ∨ s.cust.safe = true ∨ (!s.cust.dbg.enabled) = true ∨ t + sec 10 ≤ s.now ∨
      (l.val ≠ 1 ∧ l.val ≠ 2)) := by
    rw [lock, safe, enabled]
    simp only [Option.isSome_none, Bool.not_true, Bool.false_eq_true, false_or]
    omega
  subst hw
  rw [State.dbgAttach, nonce]
  refine (if_neg open').trans ?_
  simp only [key, ← hv]
  cases v.signOk v.dbgKey (n ++ serialBytes ++ leBytes 1 v.cust.lc ++ leBytes 1 l) b
  · have third : s.cust.dbg.fails + 1 < 3 ↔ s.cust.dbg.fails < 2 := Nat.add_lt_add_iff_right
    exact (if_pos rfl).trans ((ite_congr (propext third) (fun _ => rfl) fun _ => rfl).trans (if_neg Bool.false_ne_true).symm)
  · rfl

theorem State.dbgAttach_fails {l : Fin 4} {n : List Byte} {t : Nat} (nonce : s.cust.dbg.nonce = some (n, t)) (lock : s.cust.dbg.lock = none)
    (safe : s.cust.safe = false) (enabled : s.cust.dbg.enabled = true) (fresh : s.now < t + sec 10) (level : l.val = 1 ∨ l.val = 2)
    (hv : v = (s.setDbg { s.cust.dbg with nonce := none }).keyUsed s.dbgKey)
    (bad : v.signOk v.dbgKey (n ++ serialBytes ++ leBytes 1 v.cust.lc ++ leBytes 1 l) b = false) :
    s.dbgAttach l b = if s.cust.dbg.fails < 2 then (v.setDbg { v.cust.dbg with fails := s.cust.dbg.fails + 1 }).dbgDeny
      else ((v.setDbg { v.cust.dbg with fails := 0, lock := some (v.now + sec 60) }).raise .DBG_AUTH_FAIL).dbgDeny :=
  (State.dbgAttach_verified nonce lock safe enabled fresh level hv rfl).trans (if_neg (by rw [bad]; decide))

theorem State.debugEnd_keeps (service : s.cust.dbg.service = false) : s.debugEnd =
    if s.cust.dbg.granted = 0 then s.setDbg { s.cust.dbg with granted := 0, level := 0, held := none, service := false }
    else (s.setDbg { s.cust.dbg with granted := 0, level := 0, held := none, service := false }).raise .DBG_GRANT 0 [0] := by
  unfold State.debugEnd
  simp only [service, Bool.false_and, Bool.false_eq_true, if_false, bne_iff_ne, ne_eq, ite_not]

theorem State.dbgLockEnd_some {t : Nat} (lock : s.cust.dbg.lock = some t) (hv : v = s.advanceTo t) :
    s.dbgLockEnd = (v.setDbg { v.cust.dbg with lock := none }).clearFault .DBG_AUTH_FAIL := by
  rw [State.dbgLockEnd, lock, hv]

theorem State.dbgLockEnd_none (none : s.cust.dbg.lock = none) : s.dbgLockEnd = s := by rw [State.dbgLockEnd, none]

theorem State.takes_portDisable (mode : v.mode' = 3) (level : v.levelOf (.sdo p) = 3) :
    v.odTakes (.sdo p) 0x2B00 0x30 (numEnt .bool .rw false 3 .conf (fun s => if s.cust.dbg.enabled then 1 else 0) fun s v =>
      if v ≤ 1 then (s.dbgEnable (v == 1), 0) else (s, abRange)) (leBytes 1 0) := by
  refine ⟨State.odEntry_found (.inl (by rw [mode]; decide)) rfl, ?_, State.odLevel_of (Nat.le_of_eq level.symm), rfl, rfl, rfl⟩
  simp [State.odCond, numEnt, mode, State.svcOf, level]

end

/-- The 8 bytes of an initiate upload of 2B00:21. -/
theorem nonceRead_bytes : leBytes 1 0x40 ++ muxBytes 0x2B00 0x21 ++ leBytes 4 0 = [0x40, 0x00, 0x2B, 0x21, 0, 0, 0, 0] := by decide

/-- Settles O45: the writes of 2B00 pass the entry's checks; the port denies, verifies or judges an attach by one rule. -/
theorem keysAndLifecycle : Obligations.KeysAndLifecycle := by
  unfold Obligations.KeysAndLifecycle
  refine ⟨?record, ?first, ?nonce, ?request, ?requestNot, ?refused, ?challenge, ?challengeNot, ?denied, ?fails, ?locks, ?verified, ?wakes,
    ?awake, ?detach, ?detachGrant, ?disable, ?unlock, ?unlocked⟩
  case record =>
    intro s p b v x awake on mode hv level hx long
    refine State.run_next rfl ((State.clientWrite_sdo on hv).trans ?_)
    rw [if_neg (by omega)]
    exact (State.sdoWrite_answers (State.takes_keyRecord (by rwa [State.mode'_swept_of hv]) level) hx.symm
      (by rw [hx]; exact v.keyRecord_answers _ b)).trans rfl
  case first =>
    intro s p b k u y v awake on mode hv lc first safe good hk form wrap unwrapped
    refine State.run_next rfl ((State.clientWrite_sdo on hv).trans ?_)
    rw [if_neg (by omega)]
    exact (State.sdoWrite_accepted (State.takes_keyRecord (by rwa [State.mode'_swept_of hv]) (.inr ⟨lc, first⟩))
      (State.keyRecord_replaces _ lc first safe good hk form wrap unwrapped)).trans rfl
  case nonce =>
    intro s p v w awake on mode hv idle level hw
    have mode' : (v.setXfer p none).mode' ≠ 7 := by rwa [State.mode'_swept_of (congrArg (·.setXfer p none) hv)]
    have read := State.dictRead_lcNonce (p := p) mode' level
    refine State.run_next rfl ?_
    rw [State.clientRead, nonceRead_bytes, State.sdoMsg, if_neg (by simp [on]), ← hv,
      State.sdoInitUp_long (x := (w, 0, Config.trng v.free 16)) (read.trans (by rw [hw]; rfl)).symm rfl (by rw [trng_length]; decide)]
    rw [trng_length]
    rfl
  case request =>
    intro s p b v x awake on mode hv level hx ok long
    refine State.run_next rfl ((State.clientWrite_sdo on hv).trans ?_)
    rw [if_neg (by omega)]
    exact (State.sdoWrite_accepted (State.takes_lcRequest (by rwa [State.mode'_swept_of hv]) level)
      ((lcRequestEntry_put level).trans (hx.symm.trans (Prod.ext rfl ok)))).trans rfl
  case requestNot =>
    intro s p b v x awake on mode hv level hx bad some
    refine State.run_next rfl ((State.clientWrite_sdo on hv).trans ?_)
    exact State.sdoWrite_refused (State.takes_lcRequest (by rwa [State.mode'_swept_of hv]) level)
      ((lcRequestEntry_put level).trans hx.symm) bad (by rw [hx]; exact v.lcRequest_answers _ _ b)
  case refused =>
    intro s p b v w awake on mode hv level off hw some
    have mode' := State.mode'_swept_of hv
    refine State.run_next rfl ((State.clientWrite_sdo on hv).trans ?_)
    exact State.sdoWrite_refused (State.takes_lcRequest (by rwa [mode']) level)
      ((lcRequestEntry_put level).trans (State.lcRequest_refused hw (by rwa [mode']))) (by decide) (by decide)
  case challenge =>
    intro s awake safe early
    exact State.run_completes rfl (by rw [State.dbgChallenge_on awake safe early]; exact ⟨rfl, rfl, fun _ => rfl, fun _ _ _ => rfl⟩)
  case challengeNot => exact fun s off => State.run_next rfl (State.dbgChallenge_off off)
  case denied => exact fun s l b v hv off => State.run_next rfl (State.dbgAttach_denied hv off)
  case fails =>
    exact fun s l b n t v nonce lock safe enabled fresh level hv bad few => State.run_next rfl
      ((State.dbgAttach_fails nonce lock safe enabled fresh level hv bad).trans (if_pos few))
  case locks =>
    exact fun s l b n t v nonce lock safe enabled fresh level hv bad third => State.run_next rfl
      ((State.dbgAttach_fails nonce lock safe enabled fresh level hv bad).trans (if_neg (by omega)))
  case verified =>
    exact fun s l b n t v w nonce lock safe enabled fresh level hv hw => State.run_next rfl
      (State.dbgAttach_verified nonce lock safe enabled fresh level hv hw)
  case wakes =>
    intro s boot v asleep hv
    refine State.run_next rfl ((if_neg (by rw [asleep]; decide)).trans ?_)
    rw [hv]
  case awake => exact fun s boot awake => State.run_next rfl (if_pos awake)
  case detach => exact fun s none service => State.run_next rfl ((State.debugEnd_keeps service).trans (if_pos none))
  case detachGrant => exact fun s some service => State.run_next rfl ((State.debugEnd_keeps service).trans (if_neg some))
  case disable =>
    intro s p v awake on mode hv level
    refine State.run_next rfl ((State.clientNum_sdo rfl rfl on hv).trans ?_)
    exact (State.sdoWrite_accepted (State.takes_portDisable ((State.mode'_swept_of hv).trans mode) level) rfl).trans rfl
  case unlock => exact fun s t v lock hv => State.run_next rfl (State.dbgLockEnd_some lock hv)
  case unlocked => exact fun s none => State.run_next rfl (State.dbgLockEnd_none none)

end Sys2Proof.Machine
end

section
/-! The mailboxes of customs: operations, completion, release and the self-test (R585, R586). -/

namespace Sys2Proof.Machine

/-! ## Writes to a mailbox -/

section
variable {s : State} {m : Fin 2} {r : Reg} {op key len : Nat}

/-- The word of a GO. -/
def mbxGoWord (op key len : Nat) : Word := BitVec.ofNat 32 (op % 256 + key % 256 * 2 ^ 8 + len % 512 * 2 ^ 16 + 2 ^ 31)

theorem mbxGoWord_holds (hop : op < 256) (hkey : key < 256) (hlen : len < 512) {w : Word} (hw : w = mbxGoWord op key len) :
    F.CUST_MBX0_CMD_OP.of w = op ∧ F.CUST_MBX0_CMD_KEY.of w = key ∧ F.CUST_MBX0_CMD_LEN.of w = len ∧ w.getLsbD 31 = true := by
  have value : w.toNat = op + key * 2 ^ 8 + len * 2 ^ 16 + 2 ^ 31 := by
    rw [hw, mbxGoWord, BitVec.toNat_ofNat]
    omega
  refine ⟨?_, ?_, ?_, ?_⟩
  · exact (congrArg (fun n => n / 2 ^ 0 % 2 ^ 8) value).trans (by omega)
  · exact (congrArg (fun n => n / 2 ^ 8 % 2 ^ 8) value).trans (by omega)
  · exact (congrArg (fun n => n / 2 ^ 16 % 2 ^ 9) value).trans (by omega)
  · rw [BitVec.getLsbD, value, Nat.testBit_eq_decide_div_mod_eq, decide_eq_true_eq]
    omega

theorem mbxCmd_routes (hr : r = mbxCmd m) : regsCUST.contains r = true ∧ r ≠ .CUST_LC ∧
    (if r = .CUST_MBX0_CMD ∨ r = .CUST_MBX0_STAT ∨ r = .CUST_MBX0_DATA then 0 else 1) = m.val ∧
    (r = .CUST_MBX0_CMD ∨ r = .CUST_MBX1_CMD) := by
  subst hr
  revert m
  decide

theorem mbxCmd_fields (hr : r = mbxCmd m) (w : Word) : F.CUST_MBX0_CMD_OP.of (s.merge r 0 w 0xFFFFFFFF) = F.CUST_MBX0_CMD_OP.of w ∧
    F.CUST_MBX0_CMD_KEY.of (s.merge r 0 w 0xFFFFFFFF) = F.CUST_MBX0_CMD_KEY.of w ∧
    F.CUST_MBX0_CMD_LEN.of (s.merge r 0 w 0xFFFFFFFF) = F.CUST_MBX0_CMD_LEN.of w ∧
    F.CUST_MBX0_CMD_GO.on (r.fired w 0xFFFFFFFF) = w.getLsbD 31 := by
  subst hr
  match m with
  | 0 =>
    exact ⟨Fld.of_merge s 0 w (by decide) (by decide), Fld.of_merge s 0 w (by decide) (by decide),
      Fld.of_merge s 0 w (by decide) (by decide), Fld.on_fired w rfl (by decide)⟩
  | 1 =>
    exact ⟨Fld.of_merge s 0 w (by decide) (by decide), Fld.of_merge s 0 w (by decide) (by decide),
      Fld.of_merge s 0 w (by decide) (by decide), Fld.on_fired w rfl (by decide)⟩

theorem State.put_mbxGo (s : State) (code : Nat) (hr : r = mbxCmd m) (hop : op < 256) (hkey : key < 256) (hlen : len < 512) :
    s.put code r 0 (mbxGoWord op key len) 0xFFFFFFFF = if s.mbxBarred m code then (s.mbxRefuse m, abState)
      else ((s.wr r 0 (s.merge r 0 (mbxGoWord op key len) 0xFFFFFFFF)).mbxGo m code op key len, 0) := by
  obtain ⟨inCust, notLc, box, isCmd⟩ := mbxCmd_routes hr
  obtain ⟨isOp, isKey, isLen, go⟩ := mbxGoWord_holds hop hkey hlen rfl
  obtain ⟨sOp, sKey, sLen, fires⟩ := mbxCmd_fields (s := s) hr (mbxGoWord op key len)
  rw [State.put, if_pos inCust, if_neg notLc, box, State.wrMbx, if_pos isCmd, sOp, sKey, sLen, isOp, isKey, isLen, fires, go]
  rfl

theorem mbxStat_routes (hr : r = mbxStat m) : regsCUST.contains r = true ∧ r ≠ .CUST_LC ∧
    (if r = .CUST_MBX0_CMD ∨ r = .CUST_MBX0_STAT ∨ r = .CUST_MBX0_DATA then 0 else 1) = m.val ∧
    ¬(r = .CUST_MBX0_CMD ∨ r = .CUST_MBX1_CMD) ∧ (r = .CUST_MBX0_STAT ∨ r = .CUST_MBX1_STAT) := by
  subst hr
  revert m
  decide

theorem State.put_mbxDone (s : State) (code : Nat) (hr : r = mbxStat m) :
    s.put code r 0 (BitVec.ofNat 32 2) 0xFFFFFFFF = if s.mbxBarred m code then (s.mbxRefuse m, abState) else (s.mbxFree m, 0) := by
  obtain ⟨inCust, notLc, box, notCmd, isStat⟩ := mbxStat_routes hr
  rw [State.put, if_pos inCust, if_neg notLc, box, State.wrMbx, if_neg notCmd, if_pos isStat]
  rfl

/-- A granted write is judged at the rights of its master. -/
theorem State.mbxBarred_dropHeld (s : State) (a : Acc) (x : Nat) :
    (s.dropHeld (s.who a).code x).mbxBarred m ((s.dropHeld (s.who a).code x).who a).code = s.mbxBarred m (s.who a).code :=
  s.dropHeld_blind (s.who a).code x (fun u => u.mbxBarred m (u.who a).code) fun _ _ => by cases h : a.m <;> simp [State.who, h] <;> rfl

end

section
variable {s : State} {a : Acc} {m : Fin 2} {r : Reg} {c : Instr}

theorem mbxCmd_plain (hr : r = mbxCmd m) : routeReg r = false ∧ atomicHigh r = none ∧ atomicLow r = none := by
  subst hr
  revert m
  decide

theorem mbxStat_plain (hr : r = mbxStat m) : routeReg r = false ∧ atomicHigh r = none ∧ atomicLow r = none := by
  subst hr
  revert m
  decide

/-- A GO on a free mailbox, or one of its owner. -/
theorem exec_mbxGo {op : Nat} {key : Fin 256} {len : Fin 512} (h : exec c s = .next (s.run fun s => s.mbxOp a m op key len)) (hop : op < 256)
    (hr : r = mbxCmd m) (granted : s.granted a r 0) (free : s.mbxBarred m (s.who a).code = false) :
    ∃ n : Word, exec c s = .next (State.finish s (s.wrote a r 0 fun s => ((s.wr r 0 n).mbxGo m (s.who a).code op key len, 0))) := by
  obtain ⟨route, high, low⟩ := mbxCmd_plain hr
  refine ⟨(s.dropHeld (s.who a).code (r.addr 0)).merge r 0 (mbxGoWord op key len) 0xFFFFFFFF, State.run_next h ?_⟩
  rw [State.mbxOp, ← hr, State.busPut_wrote granted _ route high low]
  refine s.wrote_congr a r 0 ((State.put_mbxGo _ _ hr hop key.2 len.2).trans (if_neg ?_))
  rw [s.mbxBarred_dropHeld, free]
  decide

/-- A GO of another master is refused. -/
theorem exec_mbxRefused {op : Nat} {key : Fin 256} {len : Fin 512} (h : exec c s = .next (s.run fun s => s.mbxOp a m op key len))
    (hop : op < 256) (hr : r = mbxCmd m) (granted : s.granted a r 0) (barred : s.mbxBarred m (s.who a).code = true) :
    exec c s = .next (State.finish s (s.wrote a r 0 fun s => (s.mbxRefuse m, 0x08000022))) := by
  obtain ⟨route, high, low⟩ := mbxCmd_plain hr
  refine State.run_next h ?_
  rw [State.mbxOp, ← hr, State.busPut_wrote granted _ route high low]
  refine s.wrote_congr a r 0 ((State.put_mbxGo _ _ hr hop key.2 len.2).trans (if_pos ?_))
  rw [s.mbxBarred_dropHeld, barred]

end

/-! ## Completion (R585) -/

section
variable {s v : State} {m : Fin 2} {op key len : Nat}

theorem State.keyUsed_cust (s : State) (i : Nat) : (s.keyUsed i).cust = s.cust := by
  unfold State.keyUsed
  split
  · exact State.raise_cust ..
  · rfl

/-- A key that is held passes its check. -/
theorem State.keyUsed_held {i : Nat} {k : List Byte} (held : s.key i = some k) : s.keyUsed i = s := by
  unfold State.key at held
  split at held
  · exact nomatch held
  next good => exact if_neg good

/-- An operation leaves the mailboxes as they are. -/
theorem State.mbxRun_cust (s : State) (m op k len : Nat) : (s.mbxRun m op k len).1.cust = s.cust := by
  unfold State.mbxRun
  extract_lets u keyed r
  have run (ok : Bool) (f : List Byte → List Byte) : (keyed ok f).1.cust = s.cust := by
    simp only [keyed]
    split
    · rfl
    · split <;> exact s.keyUsed_cust k
  repeat' split
  all_goals first | rfl | exact run _ _ | exact s.keyUsed_cust k

theorem State.mbxDone_idle (idle : (s.mbx m).op = none) : s.mbxDone m = s := by rw [State.mbxDone, idle]

/-- A completed operation: its output and its error code, in the mailbox and its status. -/
theorem State.mbxDone_answers {u : State} {o : List Byte} {code : Nat} (runs : (s.mbx m).op = some (op, key, len))
    (run : s.mbxRun m op key len = (u, o, code))
    (hv : v = ((u.setMbx m { s.mbx m with op := none }).mbxOut m o).setFlag (mbxFld m F.CUST_MBX0_STAT_BUSY) 0 false) :
    s.mbxDone m = ((v.setFlag (mbxFld m F.CUST_MBX0_STAT_DONE)).setFlag (mbxFld m F.CUST_MBX0_STAT_ERR) 0 (code != 0)).setFld
      (mbxFld m F.CUST_MBX0_STAT_ERRCODE) 0 code := by
  rw [State.mbxDone, runs]
  simp only [run, ← hv]

theorem mbxFld_apart (m : Fin 2) : (mbxFld m F.CUST_MBX0_STAT_ERRCODE).off (mbxFld m F.CUST_MBX0_STAT_DONE) = true ∧
    (mbxFld m F.CUST_MBX0_STAT_ERR).off (mbxFld m F.CUST_MBX0_STAT_DONE) = true ∧
    (mbxFld m F.CUST_MBX0_STAT_ERRCODE).off (mbxFld m F.CUST_MBX0_STAT_BUSY) = true ∧
    (mbxFld m F.CUST_MBX0_STAT_ERR).off (mbxFld m F.CUST_MBX0_STAT_BUSY) = true ∧
    (mbxFld m F.CUST_MBX0_STAT_DONE).off (mbxFld m F.CUST_MBX0_STAT_BUSY) = true := by
  revert m
  decide

/-- What the status of a mailbox shows after a completed operation. -/
theorem State.mbxDone_status {u : State} {o : List Byte} {code : Nat} (runs : (s.mbx m).op = some (op, key, len))
    (run : s.mbxRun m op key len = (u, o, code)) (small : code < 256) : (s.mbxDone m).fld (mbxFld m F.CUST_MBX0_STAT_ERRCODE) = code ∧
      (s.mbxDone m).flag (mbxFld m F.CUST_MBX0_STAT_DONE) = true ∧ (s.mbxDone m).flag (mbxFld m F.CUST_MBX0_STAT_BUSY) = false := by
  obtain ⟨codeDone, errDone, codeBusy, errBusy, doneBusy⟩ := mbxFld_apart m
  rw [State.mbxDone_answers runs run rfl]
  refine ⟨State.fld_setFld_self (f := mbxFld m F.CUST_MBX0_STAT_ERRCODE) _ (by decide : 8 + 8 ≤ 32) small, ?_, ?_⟩
  · rw [State.flag_setFld_off _ codeDone, State.flag_setFlag_off _ errDone]
    exact State.flag_setFlag_self (f := mbxFld m F.CUST_MBX0_STAT_DONE) _ rfl true
  · rw [State.flag_setFld_off _ codeBusy, State.flag_setFlag_off _ errBusy, State.flag_setFlag_off _ doneBusy]
    exact State.flag_setFlag_self (f := mbxFld m F.CUST_MBX0_STAT_BUSY) _ rfl false

/-! ## The outcome of an operation (R585) -/

theorem State.mbxRun_unsafe (safe : s.cust.safe = true) : s.mbxRun m op key len = (s, [], 5) := if_pos safe

theorem State.mbxRun_length (safe : s.cust.safe = false) (length : len = 0 ∨ 256 < len) : s.mbxRun m op key len = (s, [], 3) :=
  (if_neg (by simp [safe])).trans (if_pos length)

section
variable (safe : s.cust.safe = false) (least : 1 ≤ len) (most : len ≤ 256)
include safe least most

/-- An operation that customs takes is judged by its number. -/
theorem State.mbxRun_trng : s.mbxRun m 0x01 key len = ((s.trng len).2, Config.trng s.free len, 0) :=
  (if_neg (by simp [safe])).trans (if_neg (by omega))

theorem State.mbxRun_sha : s.mbxRun m 0x02 key len = (s, sha256 (s.mbxIn m len), 0) :=
  (if_neg (by simp [safe])).trans (if_neg (by omega))

theorem State.mbxRun_keyed {k o : List Byte} (one : m = 1) (held : s.key key = some k)
    (form : op = 0x10 ∧ (key = 9 ∨ (4 ≤ key ∧ key ≤ 7)) ∧ o = hmacSha256 k (s.mbxIn m len) ∨
      op = 0x11 ∧ key = 10 ∧ o = aesCmac k (s.mbxIn m len) ∨
      op = 0x12 ∧ len = 16 ∧ 11 ≤ key ∧ key ≤ 26 ∧ o = aes128 k (s.mbxIn m 16)) : s.mbxRun m op key len = (s, o, 0) := by
  have used := State.keyUsed_held held
  have answers (f : List Byte → List Byte) : (let u := s.keyUsed key
      match u.key key with
      | some k => (u, f k, 0)
      | none => (u, [], 1)) = (s, f k, 0) := by simp only [used, held]
  subst one
  rcases form with ⟨rfl, index, rfl⟩ | ⟨rfl, rfl, rfl⟩ | ⟨rfl, length, low, high, rfl⟩
  · refine (if_neg (by simp [safe])).trans ((if_neg (by omega)).trans ((if_neg (by decide)).trans ((if_neg ?_).trans (answers _))))
    rcases index with rfl | ⟨low, high⟩
    · decide
    · simp [low, high]
  · exact (if_neg (by simp [safe])).trans ((if_neg (by omega)).trans ((if_neg (by decide)).trans ((if_neg (by decide)).trans (answers _))))
  · refine (if_neg (by simp [safe])).trans ((if_neg (by omega)).trans ((if_neg (by decide)).trans ((if_neg (by omega)).trans
      ((if_neg ?_).trans (answers _)))))
    simp [low, high]

theorem State.mbxRun_notPermitted (off : op = 0 ∨ 0x12 < op ∨ 0x10 ≤ op ∧ m = 0 ∨ op = 0x03 ∧ 2 < key ∨ op = 0x11 ∧ key ≠ 10) :
    s.mbxRun m op key len = (s, [], 2) := by
  rw [Fin.ext_iff, Fin.val_zero] at off
  refine (if_neg (by simp [safe])).trans ((if_neg (by omega)).trans ?_)
  split
  · omega
  · omega
  · exact if_pos (by omega)
  · exact if_pos (by omega)
  · split
    · rfl
    · exact if_pos (by simp; omega)
  · exact if_pos (by omega)
  · rfl

theorem State.mbxRun_wrongLength (wrong : op = 0x03 ∧ key ≤ 2 ∧ len ≠ 96 ∨ op = 0x12 ∧ m = 1 ∧ len ≠ 16) :
    s.mbxRun m op key len = (s, [], 3) := by
  rcases wrong with ⟨rfl, low, length⟩ | ⟨rfl, rfl, length⟩
  · exact (if_neg (by simp [safe])).trans ((if_neg (by omega)).trans ((if_neg (by omega)).trans (if_pos length)))
  · exact (if_neg (by simp [safe])).trans ((if_neg (by omega)).trans ((if_neg (by decide)).trans (if_pos length)))

end
end

/-- Settles O46: the six operations share the word of a GO; completion stores what the operation answers and its error code. -/
theorem mailboxes : Obligations.Mailboxes := by
  unfold Obligations.Mailboxes
  refine ⟨?trng, ?trngBarred, ?sha, ?ecdsa, ?hmac, ?cmac, ?aes, ?shaBarred, ?ecdsaBarred, ?hmacBarred, ?cmacBarred, ?aesBarred, ?idle,
    ?trngDone, ?shaDone, ?keyedDone, ?lengthDone, ?done, ?unsafeDone, ?notPermitted, ?wrongLength, ?release, ?releaseBarred, ?selftest⟩
  case trng => exact fun s a m key len r hr granted free => exec_mbxGo rfl (by decide) hr granted free
  case trngBarred => exact fun s a m key len r hr granted barred => exec_mbxRefused rfl (by decide) hr granted barred
  case sha => exact fun s a m key len r hr granted free => exec_mbxGo rfl (by decide) hr granted free
  case ecdsa => exact fun s a m key len r hr granted free => exec_mbxGo rfl (by decide) hr granted free
  case hmac => exact fun s a m key len r hr granted free => exec_mbxGo rfl (by decide) hr granted free
  case cmac => exact fun s a m key len r hr granted free => exec_mbxGo rfl (by decide) hr granted free
  case aes => exact fun s a m key len r hr granted free => exec_mbxGo rfl (by decide) hr granted free
  case shaBarred => exact fun s a m key len r hr granted barred => exec_mbxRefused rfl (by decide) hr granted barred
  case ecdsaBarred => exact fun s a m key len r hr granted barred => exec_mbxRefused rfl (by decide) hr granted barred
  case hmacBarred => exact fun s a m key len r hr granted barred => exec_mbxRefused rfl (by decide) hr granted barred
  case cmacBarred => exact fun s a m key len r hr granted barred => exec_mbxRefused rfl (by decide) hr granted barred
  case aesBarred => exact fun s a m key len r hr granted barred => exec_mbxRefused rfl (by decide) hr granted barred
  case idle => exact fun s m awake idle => State.runOn_next rfl awake (State.mbxDone_idle idle)
  case trngDone =>
    exact fun s m key len v awake runs safe least most hv _ => State.runOn_next rfl awake
      (State.mbxDone_answers (code := 0) runs (State.mbxRun_trng safe least most) hv)
  case shaDone =>
    exact fun s m key len v awake runs safe least most hv => State.runOn_next rfl awake
      (State.mbxDone_answers (code := 0) runs (State.mbxRun_sha safe least most) hv)
  case keyedDone =>
    exact fun s m op key len k o v awake one runs safe least most held form hv => State.runOn_next rfl awake
      (State.mbxDone_answers (code := 0) runs (State.mbxRun_keyed safe least most one held form) hv)
  case lengthDone =>
    exact fun s m op key len v awake runs safe length hv => State.runOn_next rfl awake
      (State.mbxDone_answers (code := 3) runs (State.mbxRun_length safe length) hv)
  case done =>
    intro s m op key len x v awake runs hx hv
    have same : x.1.mbx m = s.mbx m := by rw [hx, State.mbx, State.mbxRun_cust, State.mbx]
    exact State.runOn_next rfl awake (State.mbxDone_answers runs hx.symm (by rw [hv, same]))
  case unsafeDone =>
    exact fun s m op key len awake runs safe => State.runOn_completes rfl awake
      (State.mbxDone_status runs (State.mbxRun_unsafe safe) (by decide))
  case notPermitted =>
    exact fun s m op key len awake runs ⟨safe, least, most, off⟩ => State.runOn_completes rfl awake
      (State.mbxDone_status runs (State.mbxRun_notPermitted safe least most off) (by decide))
  case wrongLength =>
    exact fun s m op key len awake runs ⟨safe, least, most, wrong⟩ => State.runOn_completes rfl awake
      (State.mbxDone_status runs (State.mbxRun_wrongLength safe least most wrong) (by decide))
  case release =>
    intro s a m r hr granted free
    obtain ⟨route, high, low⟩ := mbxStat_plain hr
    refine State.run_next rfl ?_
    rw [← hr, State.busPut_wrote granted _ route high low]
    refine s.wrote_congr a r 0 ((State.put_mbxDone _ _ hr).trans (if_neg ?_))
    rw [s.mbxBarred_dropHeld, free]
    decide
  case releaseBarred =>
    intro s a m r hr granted barred
    obtain ⟨route, high, low⟩ := mbxStat_plain hr
    refine State.run_next rfl ?_
    rw [← hr, State.busPut_wrote granted _ route high low]
    refine s.wrote_congr a r 0 ((State.put_mbxDone _ _ hr).trans (if_pos ?_))
    rw [s.mbxBarred_dropHeld, barred]
  case selftest => exact fun s awake => State.runOn_next rfl awake rfl

end Sys2Proof.Machine
end

section
/-! Parcels, staging, activation, the resoler, the trial and RECOV (R590 to R606). -/

namespace Sys2Proof.Machine

/-! ## Parcels (R590 to R593) -/

section
variable {s v : State} {p : Fin 8} {b d h : List Byte} {off : Nat}

/-- The entry 1F50:01. -/
def parcelEntry : OdEnt := { ty := .dom, acc := .wo, lvl := 2, put := fun s _ b => s.parcel b }

/-- Recovery asks for no session (R606). -/
theorem State.odLevel_recovery {c : Client} {e : OdEnt} (level : v.mode' = 7 ∨ e.lvl ≤ v.levelOf c) : v.odLevel c e = true := by
  rcases level with h | h <;> simp [State.odLevel, h]

theorem State.takes_parcel (level : v.mode' = 7 ∨ 2 ≤ v.levelOf (.sdo p)) : v.odTakes (.sdo p) 0x1F50 1 parcelEntry b :=
  ⟨State.odEntry_found (.inr rfl) rfl, rfl, State.odLevel_recovery level, rfl, rfl, rfl⟩

theorem State.parcel_closed (off : s.updOpen = false ∨ s.flag F.SYS_LOAD_C6_DEFER = true) : s.parcel b = (s, 0x08000022) :=
  if_pos (by rcases off with h | h <;> simp [h])

/-- The framing of a parcel: its offset and its data, with their length and CRC as its header gives them (R590). -/
def framed (b : List Byte) (off : Nat) (d : List Byte) : Prop :=
  off % 256 = 0 ∧ leNat ((b.drop 4).take 2) = d.length ∧ 1 ≤ d.length ∧ d.length ≤ 1024 ∧ off % 4096 + d.length ≤ 4096 ∧
    crc16 d = leNat ((b.drop 6).take 2)

theorem framed_long (hd : d = b.drop 8) (frame : framed b off d) : ¬b.length ≤ 4 := by
  have data : d.length = b.length - 8 := by rw [hd, List.length_drop]
  have least := frame.2.2.1
  omega

section
variable (opened : s.updOpen = true) (normal : s.flag F.SYS_LOAD_C6_DEFER = false)
include opened normal

theorem State.parcel_unframed (bad : leNat (b.take 4) % 256 ≠ 0 ∨ leNat ((b.drop 4).take 2) ≠ (b.drop 8).length ∨ (b.drop 8).length = 0 ∨
    1024 < (b.drop 8).length ∨ 4096 < leNat (b.take 4) % 4096 + (b.drop 8).length ∨ crc16 (b.drop 8) ≠ leNat ((b.drop 6).take 2)) :
    s.parcel b = (s, 0x06090030) := by
  refine (if_neg (by simp [opened, normal])).trans (if_pos ?_)
  by_cases length : leNat ((b.drop 4).take 2) = (b.drop 8).length
  · rw [length]
    exact bad.imp_right fun h => .inr (h.resolve_left (not_not_intro length))
  · exact .inr (.inl length)

variable (hoff : off = leNat (b.take 4)) (hd : d = b.drop 8) (frame : framed b off d)
include hoff hd frame

theorem State.parcel_first (zero : off = 0) : s.parcel b =
    if d.length = 256 ∨ d.length = 512 ∨ d.length = 768 ∨ d.length = 1024 then s.firstParcel d else (s, 0x06090030) := by
  obtain ⟨aligned, length, least, most, fits, crc⟩ := frame
  unfold State.parcel
  simp only [← hoff, ← hd, length]
  rw [if_neg (by simp [opened, normal]), if_neg (by omega), if_pos zero]

theorem State.parcel_headless (later : off ≠ 0) (none : s.upd.head = none) : s.parcel b = (s, 0x08000022) := by
  obtain ⟨aligned, length, least, most, fits, crc⟩ := frame
  unfold State.parcel
  simp only [← hoff, ← hd, length, none]
  rw [if_neg (by simp [opened, normal]), if_neg (by omega), if_neg later]

theorem State.parcel_placed (later : off ≠ 0) (head : s.upd.head = some h) : s.parcel b =
    if prefixLen h + hdrLength h < off + d.length ∨ ¬(d.length = 256 ∨ d.length = 512 ∨ d.length = 768 ∨ d.length = 1024) ∧
        off + d.length ≠ prefixLen h + hdrLength h then (s, 0x06090030)
    else if off < prefixLen h then s.prefixParcel h off d
    else s.bodyParcel h off d := by
  obtain ⟨aligned, length, least, most, fits, crc⟩ := frame
  unfold State.parcel
  simp only [← hoff, ← hd, length, head]
  rw [if_neg (by simp [opened, normal]), if_neg (by omega), if_neg later]
  simp only [Bool.not_eq_true', decide_eq_false_iff_not]

end

theorem State.prefixParcel_accepts (s : State) (h : List Byte) (off : Nat) (d : List Byte) : (s.prefixParcel h off d).2 = 0 := by
  unfold State.prefixParcel
  extract_lets g n u
  repeat' split
  all_goals rfl

theorem State.firstParcel_answers (s : State) (d : List Byte) : (s.firstParcel d).2 ≠ abLater := by
  unfold State.firstParcel
  extract_lets h u c
  split
  · rw [State.prefixParcel_accepts]
    decide
  · repeat' split
    all_goals
      dsimp only [abLater]
      decide

theorem State.bodyParcel_answers (s : State) (h : List Byte) (off : Nat) (d : List Byte) : (s.bodyParcel h off d).2 ≠ abLater := by
  unfold State.bodyParcel
  extract_lets o b g n
  repeat' split
  all_goals
    dsimp only [abLater]
    decide

/-! ## Staging (R594 to R596) -/

@[simp] theorem State.setBytes_upd (s : State) (a : Nat) (l : List Byte) : (s.setBytes a l).upd = s.upd := by
  induction l generalizing s a with
  | nil => rfl
  | cons b r ih => exact ih _ _

theorem State.stageWrite_off {good : Bool} (off : s.upd.head = none ∨ s.nvmDeferred = true ∨ s.flag F.SYS_LOAD_C6_DEFER = true ∨
    s.upd.whole = false ∧ s.upd.ready = []) : s.stageWrite good = s := by
  unfold State.stageWrite
  rcases off with head | deferred | defer | ⟨whole, ready⟩
  · simp only [head, ite_self]
  · exact if_pos (by simp [deferred])
  · exact if_pos (by simp [defer])
  · simp only [whole, ready, Bool.false_eq_true, if_false]
    split
    · rfl
    · split <;> rfl

section
variable {n : Nat} {r : List Nat} (normal : s.flag F.SYS_LOAD_C6_DEFER = false) (free : s.nvmDeferred = false) (head : s.upd.head = some h)
include normal free head

theorem State.stageWrite_prefix (whole : s.upd.whole = true) (hd : d = joinPieces (prefixLen h / 256) s.upd.gather) (good : Bool) :
    s.stageWrite good = if good then ((s.erase 0x02000000 0x02008000).setBytes 0x02000000 d).setUpd
      { s.upd with whole := false, gather := [], ok := true } else s.unstage.hdrBad 6 := by
  subst hd
  rw [State.stageWrite, if_neg (by simp [normal, free]), head]
  simp only [whole, if_true, State.setBytes_upd]

theorem State.stageWrite_block {w : State} (whole : s.upd.whole = false) (ready : s.upd.ready = n :: r)
    (hv : v = s.setUpd { s.upd with ready := r, asm := Tbl.del s.upd.asm n })
    (hd : d = pad4k (joinPieces ((blockLen h n + 255) / 256) ((lookup n s.upd.asm).getD [])))
    (hw : w = (v.setBytes (0x02010000 + 4096 * n) d).setUpd { v.upd with bitmap := n :: v.upd.bitmap }) (good : Bool) :
    s.stageWrite good = if good = true ∧ sha256 d = v.blockHash n then (if w.complete then (w.setFlag F.UPD_EVT_STAGED).raise .UPD_STAGED else w)
      else (v.setFlag F.UPD_EVT_BLOCK_BAD).raise .UPD_BLOCK_BAD 0 [n] := by
  rw [State.stageWrite, if_neg (by simp [normal, free]), head]
  refine (if_neg (by simp [whole])).trans ?_
  simp only [ready, ← hd, ← hv, State.setBytes_upd, ← hw, Bool.and_eq_true, decide_eq_true_eq]

end

/-! ## Commands of UPD_CMD and 1F51 (R596, R597) -/

/-- A write to a register of the UPD block is judged by `State.wrUpd`. -/
theorem State.put_upd (s : State) (c : Nat) {r : Reg} (i : Nat) (w m : Word) (inUpd : regsUPD.contains r = true)
    (elsewhere : (regsCUST ++ regsSW ++ regsPROT ++ regsCAL ++ regsINJ ++ regsEVE ++ regsLEDS ++ regsDIO ++ regsBOLL ++ regsCAN ++
      regsGWY ++ regsETH ++ regsTIDE ++ regsNM ++ regsACC).contains r = false) :
    s.put c r i w m = s.wrUpd r i (s.merge r i w m) (r.fired w m) := by
  simp only [List.contains_append, Bool.or_eq_false_iff] at elsewhere
  simp only [State.put, inUpd, elsewhere, Bool.false_eq_true, if_false, if_true]

/-- The key and the commands of a word of UPD_CMD. -/
theorem updCmd_word {key k : Nat} (few : k < 4) : F.UPD_CMD_KEY.of (BitVec.ofNat 32 (k + key % 256 * 2 ^ 8)) = key % 256 ∧
    (BitVec.ofNat 32 (k + key % 256 * 2 ^ 8)).getLsbD 0 = decide (k % 2 = 1) ∧
    (BitVec.ofNat 32 (k + key % 256 * 2 ^ 8)).getLsbD 1 = decide (k / 2 = 1) := by
  have value : (BitVec.ofNat 32 (k + key % 256 * 2 ^ 8)).toNat = k + key % 256 * 2 ^ 8 := by
    rw [BitVec.toNat_ofNat]
    omega
  refine ⟨(congrArg (fun n => n / 2 ^ 8 % 2 ^ 8) value).trans (by omega), ?_, ?_⟩
  · rw [BitVec.getLsbD, value, Nat.testBit_eq_decide_div_mod_eq, decide_eq_decide]
    omega
  · rw [BitVec.getLsbD, value, Nat.testBit_eq_decide_div_mod_eq, decide_eq_decide]
    omega

theorem State.put_updCmd (s : State) (c key : Nat) {k : Nat} (few : k < 4) {n : Word}
    (hn : n = s.merge .UPD_CMD 0 (BitVec.ofNat 32 (k + key % 256 * 2 ^ 8)) 0xFFFFFFFF) {x y : State × Bool}
    (hx : x = if k / 2 = 1 then (if key % 256 = 0xA5 then (s.wr .UPD_CMD 0 n).stageClear else (s.wr .UPD_CMD 0 n, true))
      else (s.wr .UPD_CMD 0 n, false))
    (hy : y = if k % 2 = 1 then x.1.activate (key % 256 == 0xA5) else (x.1, false)) :
    s.put c .UPD_CMD 0 (BitVec.ofNat 32 (k + key % 256 * 2 ^ 8)) 0xFFFFFFFF = (y.1, if x.2 || y.2 then abState else 0) := by
  obtain ⟨isKey, act, clr⟩ := updCmd_word (key := key) few
  have sets := Fld.of_merge s (f := F.UPD_CMD_KEY) (r := .UPD_CMD) 0 (BitVec.ofNat 32 (k + key % 256 * 2 ^ 8)) (by decide) (by decide)
  have clears : F.UPD_CMD_CLEAR.on (Reg.fired .UPD_CMD (BitVec.ofNat 32 (k + key % 256 * 2 ^ 8)) 0xFFFFFFFF) = decide (k / 2 = 1) :=
    (Fld.on_fired _ rfl (by decide)).trans clr
  have activates : F.UPD_CMD_ACTIVATE.on (Reg.fired .UPD_CMD (BitVec.ofNat 32 (k + key % 256 * 2 ^ 8)) 0xFFFFFFFF) = decide (k % 2 = 1) :=
    (Fld.on_fired _ rfl (by decide)).trans act
  subst hy hx hn
  rw [State.put_upd _ _ _ _ _ (by decide) (by decide), State.wrUpd, sets, isKey, clears, activates]
  simp only [decide_eq_true_eq, beq_iff_eq]

theorem State.fld_wrUpdCmd (s : State) (n : Word) (f : Fld) (i : Nat) (other : f.reg ≠ .UPD_CMD) :
    (s.wr .UPD_CMD 0 n).fld f i = s.fld f i := s.fld_wr_off other n

theorem State.updOpen_wr (s : State) (n : Word) : (s.wr .UPD_CMD 0 n).updOpen = s.updOpen := by
  have mode : (s.wr .UPD_CMD 0 n).mode' = s.mode' := s.fld_wrUpdCmd n F.SYS_MODE_MODE 0 (by decide)
  have state : (s.wr .UPD_CMD 0 n).extracting = s.extracting :=
    congrArg (fun x => decide (2 ≤ x)) (s.fld_wrUpdCmd n F.BERTH_STAT_STATE 0 (by decide))
  unfold State.updOpen
  rw [mode, state]
  rfl

/-! ## The conditions of an activation (R597) -/

section
variable {t : State} (fld : ∀ (f : Fld) (i : Nat), f.reg ≠ .UPD_CMD → t.fld f i = s.fld f i)
include fld

theorem State.holdRank_congr (sw : t.sw = s.sw) (n : Nat) : t.holdRank n = s.holdRank n := by
  have held (x : Hold) : t.held n x = s.held n x := by
    cases x
    case sup => exact congrArg SwCh.sup (by rw [State.swc, State.swc, sw])
    all_goals exact congrArg (· != 0) (fld _ n (by decide))
  rw [State.holdRank, State.holdRank, funext held]

theorem State.source_congr (sw : t.sw = s.sw) (inj : t.inj = s.inj) (boll : t.boll = s.boll) (clk : t.clk = s.clk) (now : t.now = s.now)
    (hot : t.active .PLATE_HOT = s.active .PLATE_HOT) (n : Nat) : t.source n = s.source n := by
  have mode : t.mode' = s.mode' := fld F.SYS_MODE_MODE 0 (by decide)
  simp only [State.source, State.di, State.bit, State.flag, State.live, State.swc, State.injc, State.silc, State.rfxc, State.holdRun, State.g,
    State.holdRank_congr fld sw, mode, sw, inj, boll, clk, now, hot, fld _ _ (show F.DIO_DI_LO_STATE.reg ≠ .UPD_CMD by decide),
    fld _ _ (show F.DIO_DI_HI_STATE.reg ≠ .UPD_CMD by decide), fld _ _ (show F.INJ_BANK_STAT_HSB_SHORT.reg ≠ .UPD_CMD by decide),
    fld _ _ (show F.LEDS_CH_STAT_OPEN.reg ≠ .UPD_CMD by decide), fld _ _ (show F.LEDS_CH_STAT_SHORT.reg ≠ .UPD_CMD by decide),
    fld _ _ (show F.DIO_DO_STAT_FAULT.reg ≠ .UPD_CMD by decide), fld _ _ (show F.BERTH_SUP_STAT_PRESENT.reg ≠ .UPD_CMD by decide),
    fld _ _ (show F.BERTH_SUP_STAT_LOW.reg ≠ .UPD_CMD by decide)]

theorem State.updSupply_congr (bus : t.bus = s.bus) : t.updSupply = s.updSupply := by
  have vwarn : t.vwarn = s.vwarn := by
    rw [State.vwarn, State.vwarn, State.isSafe, State.isSafe, bus, fld F.BERTH_SUP_CTRL_VWARN 0 (by decide)]
  have source : t.vsrcOk = s.vsrcOk := by rw [State.vsrcOk, State.vsrcOk, vwarn, fld F.BERTH_VKEEP_VSRC 0 (by decide)]
  simp only [State.updSupply, State.berthReady, State.anyFeed, State.feedUp, State.bit, State.flag, source,
    fld _ _ (show F.BERTH_STAT_STATE.reg ≠ .UPD_CMD by decide), fld _ _ (show F.BERTH_STAT_MATED.reg ≠ .UPD_CMD by decide),
    fld _ _ (show F.BERTH_SUP_STAT_PRESENT.reg ≠ .UPD_CMD by decide), fld _ _ (show F.BERTH_SUP_STAT_LOW.reg ≠ .UPD_CMD by decide),
    fld _ _ (show F.BERTH_SUP_STAT_HOLDUP.reg ≠ .UPD_CMD by decide)]

omit fld in
theorem State.stagedOk_congr (upd : t.upd = s.upd) (cust : t.cust = s.cust) : t.stagedOk = s.stagedOk := by
  have key (i : Nat) : t.key i = s.key i := by rw [State.key, State.key, cust]
  have check (h : List Byte) : t.hdrCheck h = s.hdrCheck h := by
    rw [State.hdrCheck, State.hdrCheck, State.signOk, State.signOk, key, cust]
  rw [State.stagedOk, State.stagedOk, upd]
  cases s.upd.head with
  | none => rfl
  | some h => exact congrArg (· == 0) (check h)

/-- The conditions of R597 see neither the command word of UPD nor the journal beside the fault of the plate. -/
theorem State.actCause_congr (sw : t.sw = s.sw) (inj : t.inj = s.inj) (boll : t.boll = s.boll) (clk : t.clk = s.clk) (now : t.now = s.now)
    (bus : t.bus = s.bus) (od : t.od = s.od) (upd : t.upd = s.upd) (cust : t.cust = s.cust) (hot : t.active .PLATE_HOT = s.active .PLATE_HOT)
    (k : Bool) : t.actCause k = s.actCause k := by
  have mode : t.mode' = s.mode' := fld F.SYS_MODE_MODE 0 (by decide)
  have service : t.serviceOpen = s.serviceOpen := by rw [State.serviceOpen, State.serviceOpen, od]
  have complete : t.complete = s.complete := by simp only [State.complete, State.stagedNblk, upd]
  have state : t.updState = s.updState := by simp only [State.updState, upd, complete]
  have park : t.parked = s.parked := by
    simp only [State.parked, State.isSafe, State.flag, bus, State.source_congr fld sw inj boll clk now hot,
      fld _ _ (show F.UPD_CTRL_PARK_SRC.reg ≠ .UPD_CMD by decide), fld _ _ (show F.UPD_CTRL_PARK_INV.reg ≠ .UPD_CMD by decide)]
  simp only [State.actCause, mode, service, complete, state, park, State.stagedOk_congr upd cust, State.updSupply_congr fld bus, od, upd]

end

theorem State.actCause_wr (s : State) (n : Word) (k : Bool) : (s.wr .UPD_CMD 0 n).actCause k = s.actCause k :=
  State.actCause_congr (s.fld_wrUpdCmd n) rfl rfl rfl rfl rfl rfl rfl rfl rfl rfl k

/-- The check of a key is journalled alone. -/
theorem State.actCause_keyUsed (s : State) (i : Nat) (k : Bool) : (s.keyUsed i).actCause k = s.actCause k := by
  unfold State.keyUsed
  split
  · exact State.actCause_congr (fun f j _ => s.fld_raise f j ..) (s.raise_sw ..) (s.raise_inj ..) (s.raise_boll ..) (s.raise_clk ..)
      (s.raise_now ..) (s.raise_bus ..) (s.raise_od ..) (s.raise_upd ..) (s.raise_cust ..) (State.active_raise_ne _ _ (by decide)) k
  · rfl

theorem State.keyUsed_upd (s : State) (i : Nat) : (s.keyUsed i).upd = s.upd := by
  unfold State.keyUsed
  split
  · exact State.raise_upd ..
  · rfl

theorem State.actCause_ready (mode : s.mode' = 3) (service : s.serviceOpen = true) (complete : s.complete = true) (state : s.updState = 2)
    (park : s.parked = true) (supply : s.updSupply = true) (jobs : s.od.jobs = []) (marker : s.upd.marker = .idle) :
    s.actCause true = if s.stagedOk then 0 else 4 := by
  unfold State.actCause
  cases staged : s.stagedOk <;> simp [mode, service, complete, state, park, supply, jobs, marker]

theorem State.activate_judged (k : Bool) (judged : s.mode' ≠ 7 ∨ s.upd.head.isSome = true) : s.activate k =
    if s.actCause k = 0 then ((s.keyUsed 0).actGo, false) else ((s.keyUsed 0).actRefuse (s.actCause k), true) := by
  have stays : ¬(s.mode' = 7 ∧ s.upd.head.isNone = true) := by
    rintro ⟨mode, none⟩
    rcases judged with h | h
    · exact h mode
    · rw [Option.isNone_iff_eq_none.1 none] at h
      exact nomatch h
  refine (if_neg stays).trans ?_
  simp only [s.actCause_keyUsed 0 k]

theorem State.activate_leaves (k : Bool) (mode : s.mode' = 7) (none : s.upd.head = none) : s.activate k =
    if s.pins.recov = false ∧ s.upd.runOk = true ∧ s.upd.marker = .idle then (s.askReset 3, false) else (s, true) := by
  rw [State.activate, if_pos ⟨mode, by rw [none]; rfl⟩, State.leaveRecovery]
  cases s.pins.recov <;> cases s.upd.runOk <;> by_cases idle : s.upd.marker = .idle <;> simp [idle]

/-! ## Requests by register and by entry (R596, R597) -/

section
variable {key : Nat} {n : Word}

theorem State.put_activate (s : State) (c key : Nat)
    (hn : n = s.merge .UPD_CMD 0 (BitVec.ofNat 32 (1 + key % 256 * 2 ^ 8)) 0xFFFFFFFF) :
    s.put c .UPD_CMD 0 (BitVec.ofNat 32 (1 + key % 256 * 2 ^ 8)) 0xFFFFFFFF =
      refusedAs abState ((s.wr .UPD_CMD 0 n).activate (key % 256 == 0xA5)) :=
  s.put_updCmd c key (by decide) hn (x := (s.wr .UPD_CMD 0 n, false)) rfl rfl

theorem State.put_stageClear (s : State) (c key : Nat)
    (hn : n = s.merge .UPD_CMD 0 (BitVec.ofNat 32 (2 + key % 256 * 2 ^ 8)) 0xFFFFFFFF) :
    s.put c .UPD_CMD 0 (BitVec.ofNat 32 (2 + key % 256 * 2 ^ 8)) 0xFFFFFFFF =
      if key % 256 = 0xA5 ∧ s.updOpen = true then ((s.wr .UPD_CMD 0 n).unstage, 0) else (s.wr .UPD_CMD 0 n, 0x08000022) := by
  rw [s.put_updCmd c key (by decide) hn rfl rfl]
  by_cases good : key % 256 = 0xA5
  · cases opened : s.updOpen <;> simp [good, State.stageClear, State.updOpen_wr, opened, abState]
  · simp [good, abState]

theorem State.refused_activate (k : Bool) (judged : s.mode' ≠ 7 ∨ s.upd.head.isSome = true) :
    refusedAs abState ((s.wr .UPD_CMD 0 n).activate k) = if s.actCause k = 0 then (((s.wr .UPD_CMD 0 n).keyUsed 0).actGo, 0)
      else (((s.wr .UPD_CMD 0 n).keyUsed 0).actRefuse (s.actCause k), 0x08000022) := by
  have mode : (s.wr .UPD_CMD 0 n).mode' = s.mode' := s.fld_wrUpdCmd n F.SYS_MODE_MODE 0 (by decide)
  rw [State.activate_judged k (by rwa [mode]), s.actCause_wr n k]
  split <;> rfl

theorem State.refused_leaves (k : Bool) (mode : s.mode' = 7) (none : s.upd.head = none) :
    refusedAs abState ((s.wr .UPD_CMD 0 n).activate k) = if s.pins.recov = false ∧ s.upd.runOk = true ∧ s.upd.marker = .idle
      then ((s.wr .UPD_CMD 0 n).askReset 3, 0) else (s.wr .UPD_CMD 0 n, 0x08000022) := by
  rw [State.activate_leaves k ((s.fld_wrUpdCmd n F.SYS_MODE_MODE 0 (by decide)).trans mode) none]
  exact apply_ite (refusedAs abState) ..

end

/-- The entry 1F51:01. -/
def programEntry : OdEnt :=
  (numEnt (.u 1) .rw false 2 .any (fun s => if s.upd.runOk then 1 else 0) fun s v =>
    if v = 1 then refusedAs abState (s.activate true) else if v = 3 then refusedAs abState s.stageClear else (s, abRange)).loose

theorem State.takes_program {n : Nat} (level : v.mode' = 7 ∨ 2 ≤ v.levelOf (.sdo p)) :
    v.odTakes (.sdo p) 0x1F51 1 programEntry (leBytes 1 n) :=
  ⟨State.odEntry_found (.inr rfl) rfl, rfl, State.odLevel_recovery level, rfl, rfl, rfl⟩

theorem State.sdoWrite_stageClear (level : v.mode' = 7 ∨ 2 ≤ v.levelOf (.sdo p)) : v.sdoWrite p 0x1F51 1 (leBytes 1 3) 0x60 =
    if v.updOpen then (v.unstage.sessTouch (.sdo p)).sdoReply p [0x60, 0x51, 0x1F, 1] else v.sdoAbort p 0x1F51 1 0x08000022 := by
  have put : programEntry.put v (.sdo p) (leBytes 1 3) = refusedAs abState v.stageClear := rfl
  cases opened : v.updOpen
  · rw [State.stageClear, opened] at put
    exact State.sdoWrite_refused (State.takes_program level) put (by decide) (by decide)
  · rw [State.stageClear, opened] at put
    exact (State.sdoWrite_accepted (State.takes_program level) put).trans rfl

theorem State.sdoWrite_activate {x : State} (level : v.mode' = 7 ∨ 2 ≤ v.levelOf (.sdo p)) (judged : v.mode' ≠ 7 ∨ v.upd.head.isSome = true)
    (hx : x = v.keyUsed 0) : v.sdoWrite p 0x1F51 1 (leBytes 1 1) 0x60 =
      if x.actCause true = 0 then (x.actGo.sessTouch (.sdo p)).sdoReply p [0x60, 0x51, 0x1F, 1]
      else (x.actRefuse (x.actCause true)).sdoAbort p 0x1F51 1 0x08000022 := by
  have put : programEntry.put v (.sdo p) (leBytes 1 1) = refusedAs abState (v.activate true) := rfl
  rw [State.activate_judged true judged, ← v.actCause_keyUsed 0 true, ← hx] at put
  by_cases none : x.actCause true = 0
  · rw [if_pos none] at put ⊢
    exact (State.sdoWrite_accepted (State.takes_program level) put).trans rfl
  · rw [if_neg none] at put ⊢
    exact State.sdoWrite_refused (State.takes_program level) put (by decide) (by decide)

/-! ## The resoler and the trial (R599 to R605) -/

theorem State.resolerCopy_off {first second : Bool} (off : s.resoling = false ∨ s.upd.head = none ∨ s.mode' ≠ 2 ∨ s.nvmDeferred = true ∨
    s.extracting = true) : s.resolerCopy first second = s := by
  unfold State.resolerCopy
  split
  next b h marker head =>
    have resoles : s.resoling = true := by rw [State.resoling, marker]
    refine if_pos ?_
    rcases off with h | h | h | h | h
    · exact absurd (resoles.symm.trans h) (by decide)
    · exact absurd (head.symm.trans h) nofun
    · exact .inl h
    · exact .inr (.inl h)
    · exact .inr (.inr h)
  · rfl

theorem State.resolerCopy_copies {n : Nat} (first second : Bool) (marker : s.upd.marker = .resoling n) (head : s.upd.head = some h)
    (mode : s.mode' = 2) (free : s.nvmDeferred = false) (still : s.extracting = false) (hd : d = s.bytes (0x02010000 + 4096 * n) 4096)
    (hv : v = (s.erase (0x01040000 + 4096 * n) (0x01040000 + 4096 * (n + 1))).setUpd { s.upd with runOk := false }) :
    s.resolerCopy first second = if sha256 d ≠ s.blockHash n then s.toRecovery .UPD_IMAGE_BAD
      else if first = false ∧ second = false then v.toRecovery .UPD_IMAGE_BAD
      else if n + 1 < hdrNblk h then (v.setBytes (0x01040000 + 4096 * n) d).setUpd { v.upd with marker := .resoling (n + 1) }
      else (v.setBytes (0x01040000 + 4096 * n) d).resoled h := by
  rw [State.resolerCopy, marker, head]
  refine (if_neg (by simp [mode, free, still])).trans ?_
  simp only [← hd, ← hv, State.setBytes_upd, Bool.and_eq_true, Bool.not_eq_true']

theorem State.trialConfirm_ends {c t : Nat} (marker : s.upd.marker = .trial c) (at0 : s.upd.trialAt = some t)
    (runs : s.mode' = 3 ∨ s.mode' = 4 ∨ s.mode' = 6) (hv : v = s.advanceTo (t + sec s.trialTime)) :
    s.trialConfirm = ((v.setUpd { v.upd with marker := .idle, trialAt := none }).setFlag F.UPD_EVT_CONFIRMED).raise .UPD_CONFIRMED := by
  rw [State.trialConfirm, marker, at0]
  refine (if_pos runs).trans ?_
  rw [← hv]

theorem State.trialConfirm_off (off : s.upd.marker = .idle ∨ s.resoling = true ∨ s.upd.trialAt = none ∨
    (s.mode' ≠ 3 ∧ s.mode' ≠ 4 ∧ s.mode' ≠ 6)) : s.trialConfirm = s := by
  unfold State.trialConfirm
  split
  next c t marker at0 =>
    refine if_neg ?_
    rcases off with h | h | h | h
    · exact absurd (marker.symm.trans h) nofun
    · rw [State.resoling, marker] at h
      exact absurd h Bool.false_ne_true
    · exact absurd (at0.symm.trans h) nofun
    · omega
  · rfl

end

/-- Settles O47: a parcel is judged by its framing and then by its place; the conditions of an activation do not see the write that asks
for it. -/
theorem updateAndResoling : Obligations.UpdateAndResoling := by
  unfold Obligations.UpdateAndResoling
  refine ⟨?closed, ?unframed, ?first, ?unplaced, ?outside, ?inPrefix, ?inBody, ?stageOff, ?stagePrefix, ?prefixBad, ?blockBad, ?stageBlock,
    ?clear, ?clearNot, ?clearDict, ?activate, ?activateNot, ?activateDict, ?leave, ?copyOff, ?copy, ?confirm, ?confirmOff, ?recov, ?recovHigh⟩
  case closed =>
    intro s p b v awake on hv level closed some
    rw [← State.mode'_swept_of hv] at level
    refine State.run_next rfl ((State.clientWrite_sdo on hv).trans ?_)
    exact State.sdoWrite_refused (State.takes_parcel level) (State.parcel_closed closed) (by decide) (by decide)
  case unframed =>
    intro s p b v awake on hv level opened normal some bad
    rw [← State.mode'_swept_of hv] at level
    refine State.run_next rfl ((State.clientWrite_sdo on hv).trans ?_)
    exact State.sdoWrite_refused (State.takes_parcel level) (State.parcel_unframed opened normal bad) (by decide) (by decide)
  case first =>
    intro s p b off d v x awake on hv level opened normal hoff hd frame zero full hx
    rw [← State.mode'_swept_of hv] at level
    refine State.run_next rfl ((State.clientWrite_sdo on hv).trans ?_)
    rw [if_neg (framed_long hd frame)]
    have put := (State.parcel_first opened normal hoff hd frame zero).trans ((if_pos full).trans hx.symm)
    exact (State.sdoWrite_answers (State.takes_parcel level) put (by rw [hx]; exact v.firstParcel_answers d)).trans rfl
  case unplaced =>
    intro s p b off d v awake on hv level opened normal hoff hd frame place
    rw [← State.mode'_swept_of hv] at level
    refine State.run_next rfl ((State.clientWrite_sdo on hv).trans ?_)
    rcases place with ⟨zero, odd⟩ | ⟨later, none⟩
    · rw [if_pos zero]
      exact State.sdoWrite_refused (State.takes_parcel level)
        ((State.parcel_first opened normal hoff hd frame zero).trans (if_neg (by omega))) (by decide) (by decide)
    · rw [if_neg later]
      exact State.sdoWrite_refused (State.takes_parcel level) (State.parcel_headless opened normal hoff hd frame later none)
        (by decide) (by decide)
  case outside =>
    intro s p b off d v h awake on hv level opened normal hoff hd frame later head outside
    rw [← State.mode'_swept_of hv] at level
    refine State.run_next rfl ((State.clientWrite_sdo on hv).trans ?_)
    exact State.sdoWrite_refused (State.takes_parcel level)
      ((State.parcel_placed opened normal hoff hd frame later head).trans (if_pos (by omega))) (by decide) (by decide)
  case inPrefix =>
    intro s p b off d v h x awake on hv level opened normal hoff hd frame later head fits full inPrefix hx
    rw [← State.mode'_swept_of hv] at level
    refine State.run_next rfl ((State.clientWrite_sdo on hv).trans ?_)
    rw [if_neg (framed_long hd frame)]
    have put := (State.parcel_placed opened normal hoff hd frame later head).trans ((if_neg (by omega)).trans (if_pos inPrefix))
    have ok : x.2 = 0 := by rw [hx, State.prefixParcel_accepts]
    exact (State.sdoWrite_accepted (State.takes_parcel level) (put.trans (hx.symm.trans (Prod.ext rfl ok)))).trans rfl
  case inBody =>
    intro s p b off d v h x awake on hv level opened normal hoff hd frame later head fits full inBody hx
    rw [← State.mode'_swept_of hv] at level
    refine State.run_next rfl ((State.clientWrite_sdo on hv).trans ?_)
    rw [if_neg (framed_long hd frame)]
    have put := (State.parcel_placed opened normal hoff hd frame later head).trans ((if_neg (by omega)).trans (if_neg (by omega)))
    exact (State.sdoWrite_answers (State.takes_parcel level) (put.trans hx.symm) (by rw [hx]; exact v.bodyParcel_answers h off d)).trans rfl
  case stageOff => exact fun s good awake off => State.runOn_next rfl awake (State.stageWrite_off off)
  case stagePrefix =>
    exact fun s h p awake normal free head whole hp => State.runOn_next rfl awake
      ((State.stageWrite_prefix normal free head whole hp true).trans (if_pos rfl))
  case prefixBad =>
    exact fun s h awake normal free head whole => State.runOn_next rfl awake
      ((State.stageWrite_prefix normal free head whole rfl false).trans (if_neg (by decide)))
  case blockBad =>
    exact fun s h b r v awake normal free head whole ready hv => State.runOn_next rfl awake
      ((State.stageWrite_block normal free head whole ready hv rfl rfl false).trans (if_neg fun x => Bool.false_ne_true x.1))
  case stageBlock =>
    intro s h d b r v w awake normal free head whole ready hv hd hw
    refine State.runOn_next rfl awake ((State.stageWrite_block normal free head whole ready hv hd hw true).trans ?_)
    simp only [true_and]
  case clear =>
    intro s a key h opened good
    have opened' := (s.dropHeld_blind (s.who a).code (Reg.addr .UPD_CMD 0) State.updOpen fun _ _ => rfl).trans opened
    exact ⟨_, exec_put rfl h rfl rfl rfl fun code => (State.put_stageClear _ code key rfl).trans (if_pos ⟨good, opened'⟩)⟩
  case clearNot =>
    intro s a key h off
    have same := s.dropHeld_blind (s.who a).code (Reg.addr .UPD_CMD 0) State.updOpen fun _ _ => rfl
    refine ⟨_, exec_put rfl h rfl rfl rfl fun code => (State.put_stageClear _ code key rfl).trans (if_neg ?_)⟩
    rw [same]
    rcases off with bad | closed
    · exact fun x => bad x.1
    · simp [closed]
  case clearDict =>
    intro s p key v awake on hv level
    rw [← State.mode'_swept_of hv] at level
    exact State.run_next rfl ((State.clientNum_sdo rfl rfl on hv).trans (State.sdoWrite_stageClear level))
  case activate =>
    intro s a key h good mode service complete state park supply jobs marker
    have cause : (s.dropHeld (s.who a).code (Reg.addr .UPD_CMD 0)).actCause true =
        if (s.dropHeld (s.who a).code (Reg.addr .UPD_CMD 0)).stagedOk then 0 else 4 := by
      rw [s.dropHeld_blind _ _ (State.actCause · true) fun _ _ => rfl, s.dropHeld_blind _ _ State.stagedOk fun _ _ => rfl]
      exact State.actCause_ready mode service complete state park supply jobs marker
    have judged : (s.dropHeld (s.who a).code (Reg.addr .UPD_CMD 0)).mode' ≠ 7 := by
      rw [s.dropHeld_blind _ _ State.mode' fun _ _ => rfl, mode]
      decide
    refine ⟨(s.dropHeld (s.who a).code (Reg.addr .UPD_CMD 0)).merge .UPD_CMD 0 (BitVec.ofNat 32 (1 + key % 256 * 2 ^ 8)) 0xFFFFFFFF,
      exec_put rfl h rfl rfl rfl fun code => (State.put_activate _ code key rfl).trans ?_⟩
    rw [good, beq_self_eq_true, State.refused_activate _ (.inl judged), cause,
      State.stagedOk_congr (State.keyUsed_upd _ 0) (State.keyUsed_cust _ 0)]
    cases (s.dropHeld (s.who a).code (Reg.addr .UPD_CMD 0)).stagedOk <;> rfl
  case activateNot =>
    intro s a key c h judged hc bad
    have cause : (s.dropHeld (s.who a).code (Reg.addr .UPD_CMD 0)).actCause (key % 256 == 0xA5) = c := by
      rw [s.dropHeld_blind _ _ (State.actCause · _) fun _ _ => rfl, hc, State.actCause_keyUsed]
    have judged' : (s.dropHeld (s.who a).code (Reg.addr .UPD_CMD 0)).mode' ≠ 7 ∨
        (s.dropHeld (s.who a).code (Reg.addr .UPD_CMD 0)).upd.head.isSome = true := by
      rwa [s.dropHeld_blind _ _ State.mode' fun _ _ => rfl, s.dropHeld_blind _ _ State.upd fun _ _ => rfl]
    refine ⟨(s.dropHeld (s.who a).code (Reg.addr .UPD_CMD 0)).merge .UPD_CMD 0 (BitVec.ofNat 32 (1 + key % 256 * 2 ^ 8)) 0xFFFFFFFF,
      exec_put rfl h rfl rfl rfl fun code => (State.put_activate _ code key rfl).trans ?_⟩
    rw [State.refused_activate _ judged', cause, if_neg bad]
  case activateDict =>
    intro s p key v x awake on hv level judged hx
    rw [← State.mode'_swept_of hv] at level judged
    exact State.run_next rfl ((State.clientNum_sdo rfl rfl on hv).trans (State.sdoWrite_activate level judged hx))
  case leave =>
    intro s a key h mode none
    refine ⟨(s.dropHeld (s.who a).code (Reg.addr .UPD_CMD 0)).merge .UPD_CMD 0 (BitVec.ofNat 32 (1 + key % 256 * 2 ^ 8)) 0xFFFFFFFF,
      exec_put rfl h rfl rfl rfl fun code => (State.put_activate _ code key rfl).trans ?_⟩
    exact State.refused_leaves _ ((s.dropHeld_blind _ _ State.mode' fun _ _ => rfl).trans mode)
      ((congrArg UpdSt.head (s.dropHeld_blind _ _ State.upd fun _ _ => rfl)).trans none)
  case copyOff => exact fun s first second awake off => State.runOn_next rfl awake (State.resolerCopy_off off)
  case copy =>
    exact fun s first second b h d v awake marker head mode free still hd hv => State.runOn_next rfl awake
      (State.resolerCopy_copies first second marker head mode free still hd hv)
  case confirm =>
    exact fun s c t v awake marker at0 runs hv => State.runOn_next rfl awake (State.trialConfirm_ends marker at0 runs hv)
  case confirmOff => exact fun s awake off => State.runOn_next rfl awake (State.trialConfirm_off off)
  case recov =>
    intro s boot v hv
    exact State.run_next rfl (by rw [hv, State.recovPin, if_pos rfl])
  case recovHigh => exact fun s boot => State.run_next rfl (by rw [State.recovPin, if_neg Bool.false_ne_true])

end Sys2Proof.Machine
end
